-- ==== Sys2Proof/Word.lean ====
section
/-! DEFINITION. The word types of the part: a set-up register is 32 bits wide, memory is addressed in bytes. -/

namespace Sys2Proof

/-- A 32-bit register, image slot or descriptor word. -/
abbrev Word := BitVec 32

/-- One byte of host memory or of a frame. -/
abbrev Byte := BitVec 8

end Sys2Proof
end

