-- ==== Sys2Proof/Syntax.lean ====
section
/-! DEFINITION. The commands the block takes: one constructor of `Instr` per row of the opcode table, with the
operands the row carries, and the operand types. -/

namespace Sys2Proof.Machine

/-- The two host ports (R128). -/
inductive HPort where
  | hp0 | hp1
  deriving DecidableEq, Repr

/-- The number of a host port: 0 for HP0, 1 for HP1. -/
def HPort.num : HPort → Nat
  | .hp0 => 0
  | .hp1 => 1

/-- The other host port. -/
def HPort.other : HPort → HPort
  | .hp0 => .hp1
  | .hp1 => .hp0

/-- A partition number, which is also the number of its ring sets (R85, R86). -/
abbrev Part := Fin 128

/-- The eight words of a command descriptor (R151). -/
structure Desc where
  w0 : Word
  w1 : Word
  w2 : Word
  w3 : Word
  w4 : Word
  w5 : Word
  w6 : Word
  w7 : Word
  deriving DecidableEq, Repr

/-- What host software did to its memory before a doorbell write that covers it (R149): bytes it wrote, and the
address ranges (first, length) at which a memory request of the port fails from now on. -/
structure HostMem where
  cells : List (Nat × Byte)
  bad : List (Nat × Nat)
  deriving DecidableEq, Repr

/-- What the host's PCI Express configuration of a port holds once the link is up: Bus Master Enable, the PASID enable, and MSI-X
Enable and Function Mask (R128, R171). -/
structure PciCfg where
  busMaster : Bool
  pasidOn : Bool
  msixOn : Bool
  funcMask : Bool
  /-- The function is in D3hot (R128). -/
  d3hot : Bool
  deriving DecidableEq, Repr

/-- The vector of a ring set that an interrupt timer belongs to (R169). -/
inductive RingVec where
  | cpl | evt | rx
  deriving DecidableEq, Repr

/-- One measurement of the servo (R48): the offset in nanoseconds and the grandmaster time at the next base-tick
boundary, which a step loads. -/
structure SyncSample where
  offset : Int
  sec : BitVec 48
  frac : Word
  deriving DecidableEq, Repr

/-- A report the units make by themselves, as the EVENT_REPORT row gives it (R537). -/
structure ReportIn where
  code : Nat
  origin : Nat
  part : Part
  p1 : Word
  p2 : Word
  p3 : Word
  deriving DecidableEq, Repr

/-- What the carrier answers to one PWRCTL transaction (R232, R234): its response, and its response to the repeat that
follows a bad one. -/
structure SideResp where
  resp : BitVec 64
  again : BitVec 64
  deriving DecidableEq, Repr

/-- One window of the modulator clocks, 1,250 cycles long (R379, R381, R382): its length in ns, and by clock MCLK0 to MCLK3 and
channel the level that MDAT shows at each rising edge of that clock, as a number whose bit 0 belongs to the last cycle. -/
structure MeterIn where
  ns : Nat
  mdat : List (List Nat)
  deriving DecidableEq, Repr

/-- What reaches the module with a base tick (R345, R271, R381): the unclamped codes of the analogue inputs, the levels of
the digital pins, the modulator windows that have ended since the base tick before (several after a join gap), and the field
ports on which a frame is being received, with its source address. -/
structure TickIn where
  ain : List Int
  dio : BitVec 32
  mtr : List MeterIn
  recv : List (Nat × Nat)
  deriving DecidableEq, Repr

/-- The two channels of the safety island (R431). -/
inductive SafCh where
  | x | y
  deriving DecidableEq, Repr

/-- What a channel of the island reads in one cycle (R432): closed contacts A and B of the safe inputs, switch readbacks, load
currents in mA, the SRESET contacts, SAF_OEACT, the switch bank, the encoder edges since its last cycle, whether its own
diagnostics found a fault, and whether a report of the other channel has arrived. -/
structure SafView where
  sinA : BitVec 16
  sinB : BitVec 16
  hsrb : BitVec 8
  lsrb : BitVec 8
  isns : List Nat
  srA : Bool
  srB : Bool
  oe : Bool
  saddr : BitVec 16
  sopt : BitVec 8
  enc : List Nat
  diag : Bool
  report : Bool
  deriving DecidableEq, Repr

/-- What a riser port found while it received a frame (R479, R488, R494): an error of row 1, the MACsec association, packet
number and integrity result of a protected frame, and whether the egress port was idle. -/
structure RiserRx where
  err : Bool
  sec : Option (Bool × Nat × Bool)
  idle : Bool
  deriving DecidableEq, Repr

/-- A timer of a logic task (R316). -/
structure LgeTimer where
  et : Nat
  q : Bool
  inp : Bool
  last : Word
  deriving DecidableEq, Repr

/-- A cleared timer. -/
def LgeTimer.dflt (_ : Nat) : LgeTimer := { et := 0, q := false, inp := false, last := 0 }

/-- A counter of a logic task (R317). -/
structure LgeCounter where
  cv : Word
  q : Bool
  eu : Bool
  ed : Bool
  deriving DecidableEq, Repr

/-- A cleared counter. -/
def LgeCounter.dflt (_ : Nat) : LgeCounter := { cv := 0, q := false, eu := false, ed := false }

/-- A force record in MRAM (R280); the CRC-16 of a torn one fails (R285). -/
structure Force where
  owner : Nat
  value : Word
  torn : Bool
  deriving DecidableEq, Repr

/-- What the mirror carries of a loop slot (R363): CLE_SSTAT with STATE, SAT and FECNT, the last u, i_prev, d_prev,
pv_prev, sp1 and sp2. -/
structure RecLoop where
  stat : Word
  u : Word
  iPrev : Word
  dPrev : Word
  pvPrev : Word
  sp1 : Word
  sp2 : Word
  deriving DecidableEq, Repr

/-- An item of a frame record (R513). -/
inductive RecItem where
  /-- Image slot and quality word of an output or internal point. -/
  | slot (i : Nat) (v q : Word)
  /-- Image slot of an input point. -/
  | input (i : Nat) (v : Word)
  /-- A force record, or that there is none. -/
  | force (i : Nat) (f : Option Force)
  | task (t state : Nat) (late : Bool)
  | marker (t m : Nat) (b : Bool)
  | timer (t n : Nat) (k : LgeTimer)
  | counter (t n : Nat) (k : LgeCounter)
  | loop (i : Nat) (l : RecLoop)
  /-- A circuit's accumulators in units of 2^-32 of their LSB, and its fault-frame count (R409). -/
  | meter (c : Nat) (acc : List Nat) (fltfr : Nat)
  /-- A pulse output's residue (R409). -/
  | residue (k r : Nat)
  deriving DecidableEq, Repr

/-- What a twin tells its peer besides the mirrored state: health word (R522), TWN_ELIG (R522), configuration signature (R520),
SYS_CAP0 and SYS_CAP1 (R521), SAF_PCRC and SAF_SW (R466), and the running image's VERSION and whether it is boot-confirmed
(R633). -/
structure PeerNote where
  health : Word
  elig : Word
  sig : Word
  cap0 : Word
  cap1 : Word
  pcrc : Word
  sw : Word
  version : Word
  confirmed : Bool
  deriving DecidableEq, Repr

/-- A frame record (R513, R514). `next` is the count at which the sender's next frame begins, in units of 2^-32 s, after a
join gap of `gap` units (R61). `crcOk` says that the record's CRC-32 is good. -/
structure TwinRec where
  frame : Nat
  epoch : Nat
  next : Nat
  gap : Nat
  fc : Word
  tc : Nat
  head : Nat
  pwrw : Bool
  trunc : Bool
  items : List RecItem
  /-- The refresh slice the record carries among its items, and the slices of one rotation. -/
  slice : Nat
  slices : Nat
  peer : PeerNote
  crcOk : Bool
  deriving DecidableEq, Repr

/-- A CAN frame as a controller receives it (R587): identifier with a base identifier in bits [28:18], the flags, DLC, data, and
the count at the sample point of SOF. -/
structure CanIn where
  ide : Bool
  rtr : Bool
  fdf : Bool
  brs : Bool
  esi : Bool
  id : BitVec 29
  dlc : BitVec 4
  data : List Byte
  frac : Word
  sec : Word
  deriving DecidableEq, Repr

/-- What a start finds failing its check in MRAM and configuration storage: force records by point (R285), recorder slots of the
roll and the keep area (R545), the energy region's bank 0, bank 1, delta 0 and delta 1 (R406), the calibration set and the circuit
table (R387), the riser configuration (R500), and copies of key slots, `2 * slot + copy` (R614). -/
structure StoreFaults where
  forces : List Nat
  roll : List Nat
  keep : List Nat
  energy : List (Fin 4)
  cal : Bool
  circ : Bool
  riser : Bool
  keys : List Nat
  deriving DecidableEq, Repr

/-- The straps and what the boot ROM and the firmware find when reset is deasserted (R642, R653, R636): CLKSEL, BOOTSEL, TWIN_ID,
DBGEN, which trim copies have a valid CRC, whether a further reset cuts the trim load short, whether the recovery image verifies,
what fails its check in storage, and the cycles of the 32.768 kHz oscillator since the last second roll-over of a Keep period that
ends here (R74). -/
structure StartIn where
  clksel : BitVec 2
  bootsel : BitVec 2
  twinId : Bool
  dbgen : Bool
  trim0 : Bool
  trim1 : Bool
  cut : Bool
  recovery : Bool
  faults : StoreFaults
  keepCycles : Nat
  deriving DecidableEq, Repr

/-- The sources of a system reset that no other row carries (R649): VMAIN reset level, CRST_N, PLL lock lost, request
through J9. -/
inductive ResetCause where
  | vlow | pin | pll | debug
  deriving DecidableEq, Repr

/-- The memory region an error falls in, by the unit that owns it (R26, R27): the cells of a queue, the point image, other state
of PTX, the state of TWN, a task's program or state, a loop slot, a segment of the capture buffer, a metering circuit, and any
other unit's region. -/
inductive MemRegion where
  | cells (q : Fin 1024)
  | image (i : BitVec 16)
  | ptx
  | twn
  | task (t : Fin 16) (what : Fin 3)
  | slot (i : Fin 256)
  | capture (j : Fin 4)
  | meter (c : Fin 72)
  | other (b : Fin 25)
  deriving DecidableEq, Repr

end Sys2Proof.Machine

namespace Sys2Proof

open Sys2Proof.Machine

/-- The commands, one constructor per row of the opcode table, in the table's order. -/
inductive Instr where
  /-- REGISTER_WRITE (R15). A host write to a set-up register that has no row of its own stores the value subject to SEM0 ownership and the access codes. -/
  | registerWrite (x : HPort) (off size : Nat) (v : Word)
  /-- RC_FIELD_READ (R13). A read of a register with RC fields returns them and returns them to their reset values. -/
  | rcFieldRead (x : HPort) (off size : Nat)
  /-- SINGLE_BIT_ERROR (R26). A single-bit error in on-die SRAM or LPDDR5 is corrected on read, written back and counted by the owning unit. -/
  | singleBitError (r : MemRegion)
  /-- UNCORRECTABLE_ERROR (R27). An uncorrectable memory error is reported to the owning unit, and in the point image it makes the active twin give up control. -/
  | uncorrectableError (r : MemRegion)
  /-- BLOCKING_EXCEEDED (R36). The fabric monitor measures a P0 to P4 request that waited beyond its class figure, sets SYS_STAT.BLKEXC and records event 0x0001. -/
  | blockingExceeded (cls wait blk : Nat)
  /-- TICK_GENERATOR_START (R45). After system reset release the tick generator starts its first frame at the next frame boundary and sets TCK_STAT.RUN. -/
  | tickGeneratorStart (adv : Nat) (t : TickIn)
  /-- BASE_TICK (R42). A base tick begins when RTC_FRAC reaches the tick's boundary; it drives the frame timetable. -/
  | baseTick (t : TickIn)
  /-- INPUT_LATCH_COMPLETE (R47). Completion of the input latch opens the logic window. -/
  | inputLatchComplete
  /-- PUBLISH_COMPLETE (R266). When publish completes, the output image is frozen and handed on, and local outputs take their values. -/
  | publishComplete
  /-- SYNC_RECEIVED (R48). Valid 802.1AS Sync information gives the servo an offset that it corrects by slewing or by a step. -/
  | syncReceived (lanB : Bool) (m : SyncSample)
  /-- SYNC_HOLDOVER (R50). After 8 Sync intervals without valid Sync the servo sets HOLD, clears LOCK and runs on RTC_TRIM alone. -/
  | syncHoldover
  /-- TIN_PPS_EDGE (R648). A rising edge of TIN_PPS while CLK_TIN.EN is 1 and NETSYNC is 0 gives the servo an offset from a whole second. -/
  | tinPpsEdge (adv : Nat)
  /-- RTC_CTL_WRITE (R50). A write of RTC_CTL that changes the discipline source clears LOCK and HOLD and restarts the interval counts. -/
  | rtcCtlWrite (x : HPort) (v : Word)
  /-- CLK_TIN_WRITE (R648). A write of CLK_TIN.EN starts or stops discipline of the count from TIN_PPS. -/
  | clkTinWrite (x : HPort) (v : Word)
  /-- RTC_FRAC_READ (R53). A read of RTC_FRAC latches RTC_SEC into the reading port's snapshot registers. -/
  | rtcFracRead (x : HPort) (adv : Nat)
  /-- TCK_CUR_READ (R84). A read of TCK_CUR copies the second of the current frame into the port's TCK_FSECL. -/
  | tckCurRead (x : HPort)
  /-- SET_TIME_GO (R54). A write of RTC_SETCTL.GO copies the staged time and sets PEND, or sets REFUSED while NETSYNC is 1. -/
  | setTimeGo (x : HPort)
  /-- ALARM_FIRE (R62). An armed alarm whose time the count reaches clears ARM, sets FIRED and records an event or signals a vector as configured. -/
  | alarmFire (i : Fin 8)
  /-- MEASUREMENT_START (R68). A write of RTC_MEASCTL.START starts a rate-error measurement against the mains or network reference. -/
  | measurementStart (x : HPort) (v : Word)
  /-- MEASUREMENT_DONE (R68). At the end of the window the module writes the rate error to RTC_MEASRES and sets DONE. -/
  | measurementDone
  /-- OSCILLATOR_STOP (R72). A stop of the 32.768 kHz oscillator for 4 ms or more sets OSF and COSC. -/
  | oscillatorStop
  /-- VBAK_BELOW_RETENTION (R72). VBAK falling below the retention threshold sets OSF and CVBAK. -/
  | vbakBelowRetention
  /-- AON_POWER_ON_RESET (R72). The always-on domain's own power-on reset from VBAK sets OSF and CPOR. -/
  | aonPowerOnReset
  /-- KCORR_UPDATE (R75). Every 64 s with VMAIN present the module measures the 32.768 kHz oscillator and writes RTC_KCORR. -/
  | kcorrUpdate (corr : Int)
  /-- KEEP_STATE_ENTRY (R664). When VMAIN fails the always-on domain runs from VBAK, copies RTC_SEC to PWR_LOSSSEC and counts by the oscillator. -/
  | keepStateEntry
  /-- KEEP_SECOND_ROLLOVER (R74). At each second roll-over in Keep state the always-on domain adds RTC_KCORR to the count. -/
  | keepSecondRollover
  /-- SHARE_COMMIT (R100). PRT_SHCMD.WR commits the staged share entry, or refuses it and sets ERR. -/
  | shareCommit (x : HPort)
  /-- SHARE_READ_BACK (R123). PRT_SHCMD.RD loads the entry named by PRT_SHIDX into the staging registers. -/
  | shareReadBack (x : HPort)
  /-- PRT_PEN_WRITE (R116). A write of PRT_PEN enables or disables tenant partitions and records event 0x0601. -/
  | prtPenWrite (x : HPort) (j : Fin 4) (v : Word)
  /-- CFGCRC_RECOMPUTE (R119). Within 100 µs after a change the module recomputes PRT_CFGCRC. -/
  | cfgcrcRecompute
  /-- HOST_LINK_DOWN (R131). A link-down of a host port stops its ring sets, resets its staging set and snapshots, releases its locks and starts semaphore leases. -/
  | hostLinkDown (x : HPort)
  /-- HOST_LINK_UP (R172). A host port's link comes up and the module records event 0x0702. -/
  | hostLinkUp (x : HPort) (speed width : Nat) (cfg : PciCfg)
  /-- FUNDAMENTAL_RESET (R131). A PCI Express fundamental reset of a port acts as a link-down and also resets its configuration space and MSI-X state. -/
  | fundamentalReset (x : HPort)
  /-- FUNCTION_LEVEL_RESET (R131). An FLR of a port stops its ring sets and resets its port state without a semaphore lease. -/
  | functionLevelReset (x : HPort)
  /-- D3HOT_ENTRY (R128). Entry to D3hot stops the port's ring sets as a STOP does. -/
  | d3hotEntry (x : HPort)
  /-- SEM_ACQUIRE (R135). SEM_CMD ACQUIRE takes a free cell, renews a held one, or leaves a cell held by the other port unchanged. -/
  | semAcquire (x : HPort) (i : Fin 64) (tag : BitVec 16)
  /-- SEM_RELEASE (R137). SEM_CMD RELEASE from the holder frees the cell; from another port it sets BADVAL. -/
  | semRelease (x : HPort) (i : Fin 64)
  /-- LEASE_EXPIRY (R138). A cell whose LEASE is still 1 at 50 ms after the link-down is freed and event 0x1803 is recorded. -/
  | leaseExpiry (i : Fin 64)
  /-- HEARTBEAT_TIMEOUT (R139). A held cell not acquired again within HBTMO ms is freed and event 0x1804 is recorded. -/
  | heartbeatTimeout (i : Fin 64)
  /-- RING_SET_COMMIT (R175). HPC_RSCMDx.WR commits the staging set to a stopped ring set. -/
  | ringSetCommit (x : HPort)
  /-- RING_SET_READ_BACK (R175). HPC_RSCMDx.RD loads a ring set's committed values into the staging set. -/
  | ringSetReadBack (x : HPort)
  /-- RING_SET_START (R144). HPC_RSCMDx.START starts a stopped ring set after its checks, or refuses with ERRC. -/
  | ringSetStart (x : HPort)
  /-- RING_SET_STOP (R145). HPC_RSCMDx.STOP stops fetching, aborts unstarted commands and enters STOPPING, or STOPPED from FAULT. -/
  | ringSetStop (x : HPort)
  /-- RING_SET_STOPPED (R145). When started commands have completed, a STOPPING ring set enters STOPPED and signals vector 8p + 3. -/
  | ringSetStopped (x : HPort) (p : Part)
  /-- RING_SET_FAULT (R146). A DMA error on a ring structure puts the ring set into FAULT, discards its work and records event 0x0703. -/
  | ringSetFault (x : HPort) (p : Part) (errc : Fin 4)
  /-- CMD_PI_WRITE (R149). A write of the command producer index doorbell makes new commands fetchable. -/
  | cmdPiWrite (x : HPort) (p : Part) (v : Word) (mem : HostMem)
  /-- CPL_CI_WRITE (R148). A write of the completion consumer index doorbell frees completion entries. -/
  | cplCiWrite (x : HPort) (p : Part) (v : Word)
  /-- EVT_CI_WRITE (R164). A write of the event consumer index doorbell frees event entries. -/
  | evtCiWrite (x : HPort) (p : Part) (v : Word)
  /-- RX_PI_WRITE (R166). A write of the receive producer index doorbell posts receive buffers. -/
  | rxPiWrite (x : HPort) (p : Part) (v : Word) (mem : HostMem)
  /-- ARM_WRITE (R170). A write of the ARM doorbell arms ring vectors, and signals at once if unconsumed entries exist. -/
  | armWrite (x : HPort) (p : Part) (v : Word)
  /-- COMMAND_FETCH (R134). The module fetches a command when the ring set can hold another slot and has completion room. -/
  | commandFetch (x : HPort) (p : Part)
  /-- RECEIVE_FRAME_DELIVERY (R166). When enough posted buffers are free, the head frame is written into them with write-backs. -/
  | receiveFrameDelivery (x : HPort) (p : Part)
  /-- RECEIVE_HOLD_EXPIRY (R167). When the hold time ends with buffers missing, the head frame is dropped with a KIND 0x04 entry. -/
  | receiveHoldExpiry (x : HPort) (p : Part)
  /-- INTERRUPT_COALESCING_EXPIRY (R170). ICOAL µs after the first unconsumed entry, an armed ring vector is signalled and its ARM bit cleared. -/
  | interruptCoalescingExpiry (x : HPort) (p : Part) (k : RingVec)
  /-- NOP (R156). The NOP command returns the current frame number. -/
  | nop (x : HPort) (p : Part) (d : Desc)
  /-- PT_READ (R286). PT_READ returns a point's image slot or forced value and its quality word. -/
  | ptRead (x : HPort) (p : Part) (d : Desc)
  /-- PT_WRITE (R287). PT_WRITE writes a point whose source is host commands. -/
  | ptWrite (x : HPort) (p : Part) (d : Desc)
  /-- PT_LIST_READ (R288). PT_LIST with WR = 0 reads each listed point with a per-entry status. -/
  | ptListRead (x : HPort) (p : Part) (d : Desc)
  /-- PT_LIST_WRITE (R288). PT_LIST with WR = 1 writes each listed point with a per-entry status. -/
  | ptListWrite (x : HPort) (p : Part) (d : Desc)
  /-- PT_SUB (R289). PT_SUB subscribes the ring set to a point and sets the baseline. -/
  | ptSub (x : HPort) (p : Part) (d : Desc)
  /-- PT_SUB_CANCEL (R289). PT_SUB with CANCEL = 1 ends a subscription. -/
  | ptSubCancel (x : HPort) (p : Part) (d : Desc)
  /-- FORCE_SET (R282). FORCE_SET writes a force record to MRAM under the ownership and quota rules. -/
  | forceSet (x : HPort) (p : Part) (d : Desc)
  /-- FORCE_CLR (R282). FORCE_CLR clears one force, or every force the partition owns. -/
  | forceClr (x : HPort) (p : Part) (d : Desc)
  /-- FORCE_LIST (R159). FORCE_LIST writes the forces on points the partition can read. -/
  | forceList (x : HPort) (p : Part) (d : Desc)
  /-- SNAPSHOT (R160). SNAPSHOT requests a copy of a range of the image as it stands at the next publish completion. -/
  | snapshot (x : HPort) (p : Part) (d : Desc)
  /-- Q_FLUSH (R195). Q_FLUSH requests a flush of a queue and completes when FLUSHED is set. -/
  | qFlush (x : HPort) (p : Part) (d : Desc)
  /-- Q_STAT (R195). Q_STAT returns a queue's fill and flags, and clears OVR when CLROVR is 1. -/
  | qStat (x : HPort) (p : Part) (d : Desc)
  /-- REC_READ (R551). REC_READ copies records of one area in the reader's view from FROMSEQ up to the head. -/
  | recRead (x : HPort) (p : Part) (d : Desc)
  /-- MTR_READ (R410). MTR_READ copies a circuit's accumulators, quantities and snapshots to host memory. -/
  | mtrRead (x : HPort) (p : Part) (d : Desc)
  /-- LGE_LOAD (R303). LGE_LOAD writes instruction words into a stopped task's region and clears VERIFIED. -/
  | lgeLoad (x : HPort) (p : Part) (d : Desc)
  /-- LGE_VERIFY (R304). LGE_CTL VERIFY checks the region's CRC and structure and sets VERIFIED. -/
  | lgeVerify (x : HPort) (p : Part) (d : Desc)
  /-- LGE_START (R301). LGE_CTL START puts a verified task into RUN and resets its timers. -/
  | lgeStart (x : HPort) (p : Part) (d : Desc)
  /-- LGE_STOP (R327). LGE_CTL STOP stops a task at the end of its cycle, or at once from HALT. -/
  | lgeStop (x : HPort) (p : Part) (d : Desc)
  /-- LGE_STATUS (R329). LGE_CTL STATUS returns the task's status and overrun count. -/
  | lgeStatus (x : HPort) (p : Part) (d : Desc)
  /-- LGE_DUMP (R330). LGE_CTL DUMP copies the task's markers, timers and counters to host memory. -/
  | lgeDump (x : HPort) (p : Part) (d : Desc)
  /-- CLE_LOAD (R340). CLE_LOAD writes loop table entries after checking every entry. -/
  | cleLoad (x : HPort) (p : Part) (d : Desc)
  /-- CLE_ENABLE (R351). CLE_CTL enable puts a loaded slot into RUN with a bumpless initial state. -/
  | cleEnable (x : HPort) (p : Part) (d : Desc)
  /-- CLE_DISABLE (R355). CLE_CTL disable stops a slot after the current tick, or at once from FAULT. -/
  | cleDisable (x : HPort) (p : Part) (d : Desc)
  /-- CLE_INJECT_START (R356). CLE_CTL inject start begins a test signal injection on a running slot. -/
  | cleInjectStart (x : HPort) (p : Part) (d : Desc)
  /-- CLE_INJECT_STOP (R358). CLE_CTL inject stop ends the slot's injection at the next sample. -/
  | cleInjectStop (x : HPort) (p : Part) (d : Desc)
  /-- CLE_CAPTURE_START (R360). CLE_CTL capture start begins a response capture into the partition's segments. -/
  | cleCaptureStart (x : HPort) (p : Part) (d : Desc)
  /-- CLE_CAPTURE_READ (R361). CLE_CTL capture read copies the captured samples to host memory. -/
  | cleCaptureRead (x : HPort) (p : Part) (d : Desc)
  /-- CFG_LOAD_POINT_TABLE (R251). CFG_LOAD TYPE 0x01 checks and accepts a point table load, or rejects it as a whole. -/
  | cfgLoadPointTable (x : HPort) (p : Part) (d : Desc)
  /-- CFG_LOAD_EXCHANGE_SCHEDULE (R262). CFG_LOAD TYPE 0x02 checks an exchange schedule, including its fit, and accepts or rejects it. -/
  | cfgLoadExchangeSchedule (x : HPort) (p : Part) (d : Desc)
  /-- CFG_LOAD_STATION_TABLE (R254). CFG_LOAD TYPE 0x03 checks and accepts a station table, or rejects it. -/
  | cfgLoadStationTable (x : HPort) (p : Part) (d : Desc)
  /-- CFG_LOAD_FIELD_PORT_TABLE (R238). CFG_LOAD TYPE 0x04 loads the field port and power table. -/
  | cfgLoadFieldPortTable (x : HPort) (p : Part) (d : Desc)
  /-- CFG_LOAD_CIRCUIT_TABLE (R391). CFG_LOAD TYPE 0x05 checks the circuit table and writes it to configuration storage. -/
  | cfgLoadCircuitTable (x : HPort) (p : Part) (d : Desc)
  /-- CFG_LOAD_CALIBRATION_SET (R386). CFG_LOAD TYPE 0x06 checks the calibration set and writes it to configuration storage. -/
  | cfgLoadCalibrationSet (x : HPort) (p : Part) (d : Desc)
  /-- CFG_LOAD_REGION_TABLE (R567). CFG_LOAD TYPE 0x07 loads the display region table. -/
  | cfgLoadRegionTable (x : HPort) (p : Part) (d : Desc)
  /-- CFG_LOAD_WAVEFORM_TABLES (R565). CFG_LOAD TYPE 0x08 loads one panel's waveform tables. -/
  | cfgLoadWaveformTables (x : HPort) (p : Part) (d : Desc)
  /-- CFG_LOAD_QUEUE_CONFIGURATION (R180). CFG_LOAD TYPE 0x09 loads queue quotas, reservations and tags. -/
  | cfgLoadQueueConfiguration (x : HPort) (p : Part) (d : Desc)
  /-- CFG_LOAD_CAN_RS485_CONFIGURATION (R597). CFG_LOAD TYPE 0x0A loads the CAN and RS-485 configuration. -/
  | cfgLoadCanRs485Configuration (x : HPort) (p : Part) (d : Desc)
  /-- CFG_LOAD_RISER_CONFIGURATION (R499). CFG_LOAD TYPE 0x0B loads the riser configuration. -/
  | cfgLoadRiserConfiguration (x : HPort) (p : Part) (d : Desc)
  /-- CFG_LOAD_TWIN_CONFIGURATION (R529). CFG_LOAD TYPE 0x0C loads TWN_CFG. -/
  | cfgLoadTwinConfiguration (x : HPort) (p : Part) (d : Desc)
  /-- CFG_LOAD_SAFETY_PARAMETER_SET (R461). CFG_LOAD TYPE 0x0D passes a safety parameter set to the island, which stores or compares it. -/
  | cfgLoadSafetyParameterSet (x : HPort) (p : Part) (d : Desc)
  /-- CFG_LOAD_CHAIN_TABLE (R625). CFG_LOAD TYPE 0x0E loads the update chain table. -/
  | cfgLoadChainTable (x : HPort) (p : Part) (d : Desc)
  /-- DSP_UPD (R568). DSP_UPD with RDBK = 0 takes new target levels for a region as an update. -/
  | dspUpd (x : HPort) (p : Part) (d : Desc)
  /-- DSP_UPD_READ_BACK (R568). DSP_UPD with RDBK = 1 copies the region's stored target levels to host memory. -/
  | dspUpdReadBack (x : HPort) (p : Part) (d : Desc)
  /-- KEY_STAGE (R605). KEY_STAGE verifies key material against its check value and places it in the slot's shadow. -/
  | keyStage (x : HPort) (p : Part) (d : Desc)
  /-- KEY_COMMIT (R606). KEY_COMMIT makes the shadow key the committed key in one step. -/
  | keyCommit (x : HPort) (p : Part) (d : Desc)
  /-- KEY_OP_MAC (R611). KEY_OP MAC computes HMAC-SHA-384 of the input with the slot's key. -/
  | keyOpMac (x : HPort) (p : Part) (d : Desc)
  /-- KEY_OP_VERIFY (R611). KEY_OP VERIFY checks an ECDSA P-384 signature with the slot's public key. -/
  | keyOpVerify (x : HPort) (p : Part) (d : Desc)
  /-- KEY_OP_WRAP (R611). KEY_OP WRAP wraps data with SP 800-38F key wrap. -/
  | keyOpWrap (x : HPort) (p : Part) (d : Desc)
  /-- KEY_OP_UNWRAP (R611). KEY_OP UNWRAP unwraps data and fails on an integrity error. -/
  | keyOpUnwrap (x : HPort) (p : Part) (d : Desc)
  /-- KEY_OP_DERIVE (R612). KEY_OP DERIVE derives a key from the fused root into the slot's shadow. -/
  | keyOpDerive (x : HPort) (p : Part) (d : Desc)
  /-- KEY_OP_CHECK (R611). KEY_OP CHECK returns the check value of the committed key. -/
  | keyOpCheck (x : HPort) (p : Part) (d : Desc)
  /-- KEY_OP_STATUS (R611). KEY_OP STATUS returns the slot's status and remaining uses. -/
  | keyOpStatus (x : HPort) (p : Part) (d : Desc)
  /-- KEY_OP_ERASE (R611). KEY_OP ERASE erases the committed key and the shadow. -/
  | keyOpErase (x : HPort) (p : Part) (d : Desc)
  /-- FW_CHUNK_MANIFEST (R623). FW_CHUNK with MANIFEST = 1 delivers a manifest part, which is checked and accepted when complete. -/
  | fwChunkManifest (x : HPort) (p : Part) (d : Desc) (flash : Bool)
  /-- FW_CHUNK (R624). FW_CHUNK with MANIFEST = 0 delivers a data chunk, which is hash-checked and written to the inactive slot. -/
  | fwChunk (x : HPort) (p : Part) (d : Desc) (flash : Bool)
  /-- FW_CHUNK_CANCEL (R630). FW_CHUNK with CANCEL = 1 and a higher version cancels the flow in progress. -/
  | fwChunkCancel (x : HPort) (p : Part) (d : Desc) (flash : Bool)
  /-- CAN_TX (R589). CAN_TX queues a frame for a transmit buffer of a CAN controller. -/
  | canTx (x : HPort) (p : Part) (d : Desc)
  /-- SER_TX (R594). SER_TX queues a burst of characters for an RS-485 port. -/
  | serTx (x : HPort) (p : Part) (d : Desc)
  /-- ETH_TX (R218). ETH_TX queues an Ethernet frame for a field port or the riser. -/
  | ethTx (x : HPort) (p : Part) (d : Desc)
  /-- PACKET_WRITE (R183). A producer writes a packet into a queue, cell by cell. -/
  | packetWrite (q : Fin 1024) (data : List Byte) (src : Nat)
  /-- PACKET_READ (R185). A consumer reads a visible packet and frees each cell as it finishes it. -/
  | packetRead (q : Fin 1024)
  /-- CELL_POISONED (R188). An uncorrectable error in a cell poisons and retires it and drops its packet. -/
  | cellPoisoned (q : Fin 1024) (pos cell : Nat) (begun : Bool)
  /-- LINK_WORD_ERROR (R189). An uncorrectable error in a link word flushes the queue, retires the cell and starts the audit. -/
  | linkWordError (q : Fin 1024) (cell lost : Nat)
  /-- LINK_AUDIT_COMPLETE (R189). The background audit returns unreachable cells to the free list and clears AUDIT. -/
  | linkAuditComplete
  /-- QUEUE_FLUSH (R191). A write of QPL_QSTAT.FLUSH requests a flush of a queue. -/
  | queueFlush (x : HPort) (q : Fin 1024)
  /-- QUEUE_FLUSH_COMPLETE (R191). At the producer's packet boundary the module splices out the queue's packets and sets FLUSHED. -/
  | queueFlushComplete (q : Fin 1024)
  /-- QUEUE_CONFIGURATION_APPLY (R181). An accepted queue configuration takes effect at each queue's packet boundary. -/
  | queueConfigurationApply
  /-- INJECT_CORRECTABLE (R197). QPL_CTL.INJC flips one bit of the next cell written to INJQ. -/
  | injectCorrectable (x : HPort) (q : Fin 1024)
  /-- INJECT_UNCORRECTABLE (R197). QPL_CTL.INJU makes one word of the next cell written to INJQ uncorrectable. -/
  | injectUncorrectable (x : HPort) (q : Fin 1024)
  /-- FIELD_LINK_UP (R203). A field port's link comes up after auto-negotiation and records event 0x0901. -/
  | fieldLinkUp (i : Fin 64) (lv1 lead : Bool)
  /-- FIELD_LINK_DOWN (R219). A field port's link goes down; its stations go stale at the next latch. -/
  | fieldLinkDown (i : Fin 64)
  /-- SQI_UPDATE (R694). Every 100 ms the module updates each T1L port's signal quality indication. -/
  | sqiUpdate (i : Fin 48) (snr : Int)
  /-- PLCA_CYCLE_START (R206). At each multiple of the cycle length the module sends a PLCA beacon on a T1S segment. -/
  | plcaCycleStart (seg : Fin 16) (late : Option (Nat × Nat))
  /-- FIELD_FRAME_RECEIVED (R212). A frame received on a field port is classified and sent to a point queue, a host queue or discarded. -/
  | fieldFrameReceived (i : Fin 64) (data : List Byte) (good : Bool)
  /-- POINT_FRAME_TRANSMIT (R215). At its schedule slot the module starts a Genmas request frame. -/
  | pointFrameTransmit (k : Nat)
  /-- NONPOINT_FRAME_TRANSMIT (R216). A non-point frame is sent when it fits before the next point slot or in the own PLCA opportunity. -/
  | nonpointFrameTransmit (i : Fin 64) (time : Nat)
  /-- PWRCTL_POLL (R233). At 20 µs of tick 0 the module issues the sideband reads and pending power commands and judges the readbacks. -/
  | pwrctlPoll (rs : List SideResp)
  /-- PWRCTL_FLT (R233). A fall of PWRCTL_FLT_N inserts an extra READ of every powered port. -/
  | pwrctlFlt (rs : List SideResp)
  /-- POWER_BACKOFF_EXPIRY (R222). After the back-off time a port in BACKOFF returns to DETECT. -/
  | powerBackoffExpiry (i : Fin 48)
  /-- FAULT_COUNT_CLEAR (R228). After 60 s in ON a port's fault count returns to 0. -/
  | faultCountClear (i : Fin 48)
  /-- POWER_CLEAR (R229). FLD_PWRCMD CLEAR zeroes FCNT and moves a port in FAULT or HOLD to DETECT. -/
  | powerClear (x : HPort) (i : Fin 64)
  /-- POWER_CYCLE (R229). FLD_PWRCMD CYCLE switches a port off for 1 s without counting a fault. -/
  | powerCycle (x : HPort) (i : Fin 64)
  /-- POWER_CYCLE_EXPIRY (R229). One second after CYCLE the port enters DETECT. -/
  | powerCycleExpiry (i : Fin 48)
  /-- POWER_HOLD (R229). FLD_PWRCMD HOLD switches a port off into HOLD. -/
  | powerHold (x : HPort) (i : Fin 64)
  /-- MDIO_ACCESS (R245). A write of FLD_MDIO.GO starts a Clause 45 read or write of a port's PHY. -/
  | mdioAccess (x : HPort) (v : Word)
  /-- MDIO_COMPLETE (R244). When the MDIO access ends, GO returns to 0 and DATA holds the read value. -/
  | mdioComplete (data : BitVec 16)
  /-- LGE_TASK_ASSIGN (R298). A write of a task's configuration registers assigns its region, tag, period and budget, filling a changed region. -/
  | lgeTaskAssign (x : HPort) (t : Fin 16) (k : Fin 3) (v : Word)
  /-- REGION_FILL_COMPLETE (R300). The region fill ends within 2 ms and FILL clears. -/
  | regionFillComplete (t : Fin 16)
  /-- LGE_SETCRC_RECOMPUTE (R332). Within 10 ms of a change the module recomputes LGE_SETCRC. -/
  | lgeSetcrcRecompute
  /-- END (R314). END ends the logic cycle and commits its staged point writes to the image. -/
  | lgeEnd
  /-- NOP_INSTRUCTION (R311). The NOP instruction has no effect. -/
  | lgeNop
  /-- LDK (R311). LDK loads a constant bit into ACC. -/
  | lgeLdk
  /-- LD (R311). LD loads the operand bit into ACC. -/
  | lgeLd
  /-- LDN (R311). LDN loads the inverted operand bit into ACC. -/
  | lgeLdn
  /-- AND (R311). AND combines ACC with the operand bit. -/
  | lgeAnd
  /-- ANDN (R311). ANDN combines ACC with the inverted operand bit. -/
  | lgeAndn
  /-- OR (R311). OR combines ACC with the operand bit. -/
  | lgeOr
  /-- ORN (R311). ORN combines ACC with the inverted operand bit. -/
  | lgeOrn
  /-- XOR (R311). XOR combines ACC with the operand bit. -/
  | lgeXor
  /-- ST (R309). ST stores ACC into the operand bit. -/
  | lgeSt
  /-- STN (R311). STN stores the inverted ACC into the operand bit. -/
  | lgeStn
  /-- SET (R311). SET sets the operand bit while ACC is 1. -/
  | lgeSet
  /-- RST (R311). RST clears the operand bit while ACC is 1. -/
  | lgeRst
  /-- BRO (R311). BRO pushes ACC onto the branch stack. -/
  | lgeBro
  /-- BRCA (R311). BRCA pops the stack and ANDs it with ACC. -/
  | lgeBrca
  /-- BRCO (R311). BRCO pops the stack and ORs it with ACC. -/
  | lgeBrco
  /-- RE (R311). RE detects a rising edge of ACC against a marker. -/
  | lgeRe
  /-- FE (R311). FE detects a falling edge of ACC against a marker. -/
  | lgeFe
  /-- TON (R316). TON evaluates an on-delay timer counted in frames. -/
  | lgeTon
  /-- TOF (R316). TOF evaluates an off-delay timer counted in frames. -/
  | lgeTof
  /-- CTU (R317). CTU counts up on a rising ACC and compares with the preset. -/
  | lgeCtu
  /-- CTD (R317). CTD counts down on a rising ACC and compares with the preset. -/
  | lgeCtd
  /-- CRES (R317). CRES resets a counter value while ACC is 1. -/
  | lgeCres
  /-- CMP (R312). CMP compares a word point with a literal and combines the result with ACC. -/
  | lgeCmp
  /-- MOVK (R313). MOVK stores a literal into a word point while ACC is 1. -/
  | lgeMovk
  /-- MOV (R313). MOV copies one word point to another while ACC is 1. -/
  | lgeMov
  /-- JC (R311). JC jumps forward while ACC is 1. -/
  | lgeJc
  /-- JNC (R311). JNC jumps forward while ACC is 0. -/
  | lgeJnc
  /-- TURN_BUDGET_EXHAUSTED (R321). A task's turn ends when it has spent BUDGET cycles in the window, and the engine moves to the next task. -/
  | turnBudgetExhausted
  /-- SLOT_ASSIGN (R335). A write of CLE_SCFG that changes EN or TAG clears the slot's entry, state, injection and capture. -/
  | slotAssign (x : HPort) (i : Fin 256) (v : Word)
  /-- CAPTURE_SEGMENT_TAG (R359). A write of CLE_CAPSEG that changes a segment's tag clears it and ends any capture using it. -/
  | captureSegmentTag (x : HPort) (j : Fin 4) (v : Word)
  /-- CLE_TCL_READ (R371). A read of CLE_TCL copies the upper half of CLE_TC into the port's CLE_TCH. -/
  | cleTclRead (x : HPort)
  /-- CLE_SETCRC_RECOMPUTE (R371). Within 1 ms of a change the module recomputes CLE_SETCRC. -/
  | cleSetcrcRecompute
  /-- CLE_COMPUTE (R350). From 4 µs the engine computes the control law of each due slot in slot order. -/
  | cleCompute
  /-- CLE_OUTPUT_WRITE (R348). At phase 100 µs the engine writes every due slot's output to the image and local channel. -/
  | cleOutputWrite
  /-- PULSE_INPUT_EDGE (R367). An edge on a pulse input is counted, or discarded into LIO_PIOVR when too close to the last. -/
  | pulseInputEdge (n : Fin 8) (onB level : Bool) (time : Nat)
  /-- PWM_PERIOD_START (R368). At each PWM period start the channel takes any new duty. -/
  | pwmPeriodStart (n : Fin 8)
  /-- PWM_CONFIG_WRITE (R377). A write of LIO_PWCFG changing PER or ALIGN restarts the channel at the next phase 100 µs. -/
  | pwmConfigWrite (x : HPort) (n : Fin 8) (v : Word)
  /-- PULSE_START (R414). A scheduled pulse output start drives the active level. -/
  | pulseStart (k : Fin 8)
  /-- PULSE_END (R414). A pulse ends after its width or at the midpoint before the next start. -/
  | pulseEnd (k : Fin 8)
  /-- REGULAR_SAVE_COMPLETE (R403). The bank write completes and MTR_BANKSEQ shows the new sequence number. -/
  | regularSaveComplete
  /-- ACCUMULATOR_CLEAR_REQUEST (R402). A write of MTR_ACCCLR.GO requests a clear of one circuit's accumulators. -/
  | accumulatorClearRequest (x : HPort) (v : Word)
  /-- INTERVAL_CONTROL_WRITE (R398). A write of MTR_IVCTL that changes LEN snapshots every valid circuit with LENCHG at the next frame. -/
  | intervalControlWrite (x : HPort) (v : Word)
  /-- PULSE_OUTPUT_CONFIG_WRITE (R415). A change of a pulse output's circuit, quantity or meter constant clears its residue at the next frame. -/
  | pulseOutputConfigWrite (x : HPort) (k : Fin 8) (mc : Bool) (v : Word)
  /-- THEFT_WATCH_CONFIG_WRITE (R416). A write of MTR_TW copies the watched channels' calibration into the always-on domain. -/
  | theftWatchConfigWrite (x : HPort) (k : Fin 16) (v : Word)
  /-- THEFT_WATCH_CLEAR (R420). A write of MTR_TWCLR clears selected theft-watch totals. -/
  | theftWatchClear (x : HPort) (v : Word)
  /-- THEFT_WATCH_BURST (R417). Every 10 s without VMAIN the always-on domain powers the modulators and samples the watched circuits. -/
  | theftWatchBurst (codes : List (List Int))
  /-- THEFT_WATCH_EVALUATION (R418). At the end of a burst each watched circuit is judged and its total and episodes updated. -/
  | theftWatchEvaluation
  /-- SAFETY_CYCLE (R432). Each island channel runs its 1 ms cycle: inputs, messages, permissions, gates and cross-link report. -/
  | safetyCycle (c : SafCh) (v : SafView)
  /-- SWITCH_TEST_PULSE (R436). Every TPI a channel pulses its switch off for TPW and judges the readback. -/
  | switchTestPulse (c : SafCh) (k : Fin 8) (fell rose : Bool)
  /-- SAFE_INPUT_TEST_PULSE (R439). STP_X or STP_Y goes low for 200 µs and each tested contact is checked. -/
  | safeInputTestPulse (stp c : SafCh) (a b : BitVec 16)
  /-- SAFETY_MESSAGE_COPY (R447). The island checks a received safety message copy and applies it to the stream's bits. -/
  | safetyMessageCopy
  /-- COPY_MISSING (R450). A copy whose partner has not arrived within 5 ms is missing. -/
  | copyMissing (j : Fin 16) (lanB : Bool)
  /-- DEGRADED_TIMER_EXPIRY (R451). When the degraded timer reaches 0 every channel switches off with lock-out cause 0x0C. -/
  | degradedTimerExpiry (c : SafCh)
  /-- DEGRADED_TIMER_RESTORE (R452). After 60 s of both LANs good the degraded timer returns to its full class. -/
  | degradedTimerRestore
  /-- STREAM_WATCHDOG (R450). No valid copy of a stream for 20 ms gives fault 0x0B. -/
  | streamWatchdog (j : Fin 16)
  /-- SAFETY_MESSAGE_SEND (R446). Every PERIOD ms the island sends each enabled transmit stream on both LANs. -/
  | safetyMessageSend (j : Fin 4)
  /-- REQUEST_UPDATE (R441). The island receives the request point values over the SAF link. -/
  | requestUpdate
  /-- SAF_LINK_TIMEOUT (R442). No request update for 3 ms makes every request 0 and clears SAF_STAT.LINK. -/
  | safLinkTimeout
  /-- BRAKE_TEST_DELAY_EXPIRY (R453). TDLY ms after the start the channels zero their encoder counts and start counting. -/
  | brakeTestDelayExpiry (k : Fin 8)
  /-- BRAKE_TEST_WINDOW_END (R453). At the end of TWIN the island judges the brake test from the edge counts. -/
  | brakeTestWindowEnd (k : Fin 8)
  /-- BRAKE_TEST_DUE (R455). At BTINT hours the island sets DUE and records event 0x0F06. -/
  | brakeTestDue (k : Fin 8)
  /-- BRAKE_TEST_OVERDUE (R455). At 1.5 × BTINT hours the island locks out with cause 0x0F. -/
  | brakeTestOverdue (k : Fin 8)
  /-- LOCAL_RESET (R458). Opening both SRESET contacts after a valid press clears lock-out if every cause is gone, or refuses. -/
  | localReset (press : Nat)
  /-- SAF_OEACT_RISE (R465). An island seeing SAF_OEACT rise starts to transmit and switches on channels held ready in shadow. -/
  | safOeactRise
  /-- ISLAND_START (R467). At start the island self-tests, reads its switches, checks its stored set and restores lock-out. -/
  | islandStart (saddr : BitVec 16) (sopt : BitVec 8)
  /-- RISER_FRAME_RECEIVED (R488). A frame received on a riser port is forwarded and copied to the module by the first matching row. -/
  | riserFrameReceived (r : Fin 4) (data : List Byte) (m : RiserRx)
  /-- RISER_FRAME_TRANSMIT (R481). A queued riser frame leaves when its egress port serves its class. -/
  | riserFrameTransmit (r : Fin 4) (busy : Bool)
  /-- PAUSE_EXPIRY (R495). When the pause time runs out the port resumes its held classes. -/
  | pauseExpiry (r : Fin 4)
  /-- PRP_SUPERVISION_SEND (R486). Every LCI × 100 ms the module sends PRP supervision frames. -/
  | prpSupervisionSend
  /-- PUBLICATION_SEND (R491). START µs after the frame start the riser scheduler sends the publication frames of the previous publish. -/
  | publicationSend
  /-- PUBLICATION_LATE_CHECK (R492). At 900 µs unsent own publications set SUBLATE and record event 0x1006. -/
  | publicationLateCheck
  /-- TRANSMIT_UNDERRUN (R496). A riser MAC that needs data not yet queued ends the frame with a bad FCS and raises TH. -/
  | transmitUnderrun (r : Fin 4) (c : Fin 8)
  /-- RISER_LINK_UP (R481). A riser port's link comes up, with or without preemption verified. -/
  | riserLinkUp (r : Fin 4) (pre : Bool)
  /-- RISER_LINK_DOWN (R497). A riser link that falls flushes its queued frames and records event 0x1002. -/
  | riserLinkDown (r : Fin 4) (los txFlt : Bool)
  /-- OPTIC_INSERTED (R477). The module reads an inserted optic and drops the link for a wrong power class or wavelength. -/
  | opticInserted (r : Fin 4) (cls nm : Nat) (los txFlt : Bool)
  /-- RSR_CNTL_READ (R504). A read of a riser counter's low word copies the high word to the port's RSR_CNTHx and clears the counter. -/
  | rsrCntlRead (x : HPort) (k : Fin 12) (r : Fin 4)
  /-- CLAIM (R509). After the guard time a standby that may claim raises ACT_OUT and enters CLAIMING. -/
  | claim
  /-- PEER_ACT_RISE (R511). PEER_ACT rising during a claim or while active is an interlock contention. -/
  | peerActRise
  /-- CONTENTION_WITHDRAW (R510). Twin 0 whose contention lasts 50 µs lowers ACT_OUT and returns to STANDBY. -/
  | contentionWithdraw
  /-- ACTIVE_CONTENTION_TIMEOUT (R511). PEER_ACT high for more than 100 µs while active sets CONTEND. -/
  | activeContentionTimeout
  /-- CONFIRM_WINDOW_END (R510). A claim whose 50 µs confirm window passes with PEER_ACT low enters ACTIVE. -/
  | confirmWindowEnd
  /-- CAN_MODE_SWITCH (R585). After entering ACTIVE each CAN controller switches to its MODE after 11 recessive bits. -/
  | canModeSwitch (k : Fin 4)
  /-- CONFIG_SIGNATURE_RECOMPUTE (R520). Within 10 ms of a change the module recomputes TWN_CFGSIG. -/
  | configSignatureRecompute
  /-- DROP_ACT (R523). An active twin detecting a self-diagnosis cause drops ACT_OUT within 40 µs. -/
  | dropAct (cause : Fin 8)
  /-- YIELD (R525). A write of TWN_CTL.YIELD on an active twin with an eligible peer schedules a drop at the frame's end. -/
  | yield (x : HPort)
  /-- TWIN_LINK_UP (R519). The twin link comes up and the standby starts resynchronisation. -/
  | twinLinkUp (cap0 cap1 : Word)
  /-- TWIN_LINK_DOWN (R521). The twin link goes down and the standby becomes ineligible. -/
  | twinLinkDown
  /-- EVENT_REPORT (R544). A unit's report enters the recorder's input buffer, or is lost when it is full. -/
  | eventReport (r : ReportIn)
  /-- RECORD_WRITE (R544). The recorder numbers a report and writes it to the roll and keep areas in MRAM. -/
  | recordWrite
  /-- EVENT_DELIVERY (R550). Within 1 ms of writing, the recorder writes a KIND 0x01 entry to each enabled, running ring set that may see the record. -/
  | eventDelivery
  /-- BUCKET_REFILL (R546). A rate-limit bucket gains a token at its refill rate. -/
  | bucketRefill (b : Fin 384)
  /-- BUCKET_WRITE (R547). A write of a bucket register fills it to its new depth and writes any pending summary. -/
  | bucketWrite (x : HPort) (off : Nat) (v : Word)
  /-- KEEP_CLEAR (R543). A write of EVR_CTL.KCLR clears the keep area, restarts tenant views and writes event 0x1203. -/
  | keepClear (x : HPort)
  /-- DISPLAY_FRAME_START (R561). A panel's display frame begins with GDSP and scans its rows. -/
  | displayFrameStart (n : Fin 2) (ready : Bool)
  /-- THERMISTOR_SAMPLE (R566). Every 100 ms the panel thermistor is sampled and the current band set. -/
  | thermistorSample (n : Fin 2) (code : BitVec 12)
  /-- PANEL_ENABLE (R573). A write of DSP_PCTL.EN = 1 moves the panel from OFF to IDLE when the crack loop is good. -/
  | panelEnable (x : HPort) (n : Fin 2) (res : BitVec 16)
  /-- PANEL_DISABLE (R573). A write of DSP_PCTL.EN = 0 ends waveforms, sequences power off and enters OFF. -/
  | panelDisable (x : HPort) (n : Fin 2)
  /-- PWRGD_RISE (R573). PWRGD rising during POWERUP starts the 1 ms delay to VCOMEN. -/
  | pwrgdRise (n : Fin 2)
  /-- VCOM_ENABLE_DELAY (R573). 1 ms after PWRGD the module raises VCOMEN. -/
  | vcomEnableDelay (n : Fin 2)
  /-- PWRGD_TIMEOUT (R573). PWRGD not risen 50 ms after PWREN gives FAULT with FCODE 0x02. -/
  | pwrgdTimeout (n : Fin 2)
  /-- PWRGD_LOST (R573). PWRGD falling in DRIVE switches the panel supplies off and enters FAULT with FCODE 0x03. -/
  | pwrgdLost (n : Fin 2)
  /-- POWERDOWN_DELAY_EXPIRY (R573). After PDLY ms without waveforms the panel enters POWERDOWN. -/
  | powerdownDelayExpiry (n : Fin 2)
  /-- PWREN_OFF_DELAY (R573). 1 ms after VCOMEN falls the module lowers PWREN and the panel enters IDLE. -/
  | pwrenOffDelay (n : Fin 2)
  /-- CRACK_MEASUREMENT (R575). Once per second the module measures the crack loop and faults the panel on two bad readings. -/
  | crackMeasurement (n : Fin 2) (res : BitVec 16)
  /-- CAN_FRAME_RECEIVED (R586). A received CAN frame goes to the lowest accepting buffer, to a ring or a mailbox. -/
  | canFrameReceived (k : Fin 4) (f : CanIn)
  /-- CAN_FRAME_TRANSMITTED (R591). A CAN frame is transmitted successfully, with a TXC receive frame where requested. -/
  | canFrameTransmitted (k : Fin 4) (frac sec : Word) (delay : Nat)
  /-- CAN_BUS_ERROR (R583). A bus error changes TEC or REC and may change the error state, discarding frames at bus-off. -/
  | canBusError (k : Fin 4) (lec : Fin 7) (tec rec : Nat)
  /-- BUS_OFF_RECOVERY_COMPLETE (R583). After 128 occurrences of 11 recessive bits the controller leaves bus-off. -/
  | busOffRecoveryComplete (k : Fin 4)
  /-- CAN_RECOVER (R583). A write of CAN_CMD.RECOVER starts bus-off recovery. -/
  | canRecover (x : HPort) (k : Fin 4)
  /-- MAILBOX_WINDOW_LOCK (R588). A read of mailbox window word 0 takes the port's lock and clears NEW. -/
  | mailboxWindowLock (x : HPort)
  /-- MAILBOX_WINDOW_RELEASE (R588). A read of window word 20 releases the port's lock, making a shadow frame current. -/
  | mailboxWindowRelease (x : HPort)
  /-- MAILBOX_SELECT (R588). A write of CAN_MBSELx selects a mailbox and releases the port's lock. -/
  | mailboxSelect (x : HPort) (v : Word)
  /-- SER_FRAME_END (R593). An RS-485 frame ends on an idle gap, 4,096 bytes or a break and is delivered. -/
  | serFrameEnd (j : Fin 8) (data : List Byte) (err : Fin 5) (frac sec : Word)
  /-- SER_BURST_START (R594). When the line has been idle, a port raises DE and sends a queued burst. -/
  | serBurstStart (j : Fin 8)
  /-- SER_DRIVER_RELEASE (R594). DEPOST bit times after the last stop bit the port lowers DE and RE_N. -/
  | serDriverRelease (j : Fin 8) (bad : Option Nat)
  /-- LEGACY_CONFIGURATION_APPLY (R598). An accepted CAN and RS-485 image is applied to each controller or port when it is idle. -/
  | legacyConfigurationApply (u : Fin 12)
  /-- KEY_SLOT_ATTRIBUTE_WRITE (R616). A write of KEY_SATTR changing the slot's identity erases its keys and stored copy. -/
  | keySlotAttributeWrite (x : HPort) (i : Fin 64) (v : Word)
  /-- CHAIN_MPART (R628). A chain manifest part is received and, once complete and accepted, forwarded. -/
  | chainMpart (flash : Bool)
  /-- CHAIN_DATA (R628). A chain data chunk is verified, written, acknowledged and forwarded. -/
  | chainData (flash : Bool)
  /-- CHAIN_ACK (R628). A chain ACK frees an outstanding chunk of the sender. -/
  | chainAck
  /-- CHAIN_NAK (R629). A chain NAK makes the sender resend or treat the receiver as silent. -/
  | chainNak
  /-- CHAIN_CANCEL (R630). A chain CANCEL stops the old flow at the next chunk boundary and passes on. -/
  | chainCancel
  /-- CHAIN_BUSY (R629). A chain BUSY frame is treated as silence. -/
  | chainBusy
  /-- HOP_TIMEOUT (R629). No ACK within HOPTMO makes the receiver silent. -/
  | hopTimeout
  /-- UPD_ARM (R632). UPD_CMD ARM marks a complete inactive slot to start next. -/
  | updArm (x : HPort) (j : Fin 2)
  /-- UPD_DISARM (R632). UPD_CMD DISARM clears the arm mark. -/
  | updDisarm (x : HPort)
  /-- UPD_ACTIVATE (R632). UPD_CMD ACTIVATE writes the activation flag and performs a system reset, unless refused by R633. -/
  | updActivate (x : HPort)
  /-- UPD_CONFIRM (R635). UPD_CMD CONFIRM gives boot-confirmed for an image with CONFHOST = 1. -/
  | updConfirm (x : HPort) (sec : Nat)
  /-- UPD_SERVE (R631). UPD_CMD SERVE offers a complete image to each bypassed position in turn. -/
  | updServe (x : HPort)
  /-- BOOT_CONFIRMED (R635). When the firmware's start-up checks pass, the start is boot-confirmed and the boot count cleared. -/
  | bootConfirmed (sec : Nat)
  /-- CONFIRM_TIMEOUT (R635). If CONF is still 0 120 s after reset release, the module records event 0x1709 and resets. -/
  | confirmTimeout
  /-- LOADER_GO (R655). A write of RST_LDCMD.GO from HP0 makes the boot ROM read and check the loaded image. -/
  | loaderGo (x : HPort) (v : Word) (mem : HostMem)
  /-- LOADER_CHECK_COMPLETE (R655). The boot ROM runs a verified image from LPDDR5, or writes STATUS and waits. -/
  | loaderCheckComplete
  /-- POWER_ON_RESET (R649). The internal supply monitors assert power-on reset and return everything outside the always-on domain to reset. -/
  | powerOnReset
  /-- SYSTEM_RESET (R649). A system reset source resets SYS, CORE and BLK registers, volatile memory, host links and ACT_OUT. -/
  | systemReset (c : ResetCause)
  /-- RST_CTL_SYSRST (R651). A write of RST_CTL.SYSRST with KEY 0xA5 causes a system reset. -/
  | rstCtlSysrst (x : HPort) (v : Word)
  /-- RST_CTL_CORERST (R651). A write of RST_CTL.CORERST with KEY 0xA5 causes a core reset. -/
  | rstCtlCorerst (x : HPort) (v : Word)
  /-- CORE_WATCHDOG_EXPIRY (R650). A missed core watchdog service causes a core reset, escalating to system reset at the third in 60 s. -/
  | coreWatchdogExpiry
  /-- CORE_RESET_END (R650). The cores run again from the image in LPDDR5. -/
  | coreResetEnd
  /-- RESET_RELEASE (R652). Deassertion of power-on or system reset samples straps and runs the start sequence. -/
  | resetRelease (i : StartIn)
  /-- START_COMPLETE (R652). When state is restored and blocks released, READY becomes 1 and event 0x0201 is recorded. -/
  | startComplete
  /-- EXTERNAL_REFERENCE_FALLBACK (R645). An external reference not within ±1,000 ppm in the first 10 ms makes the module run on the TCXO. -/
  | externalReferenceFallback
  /-- REFERENCE_LOST (R646). The clock monitor detects a deviating or missing reference; PLLs hold over and REFLOST is set. -/
  | referenceLost
  /-- REFERENCE_RESTORED (R646). After 100 ms within limits the PLLs re-acquire the reference and REFLOST clears. -/
  | referenceRestored
  /-- SERDES_LOCK_LOST (R647). A SerDes PLL losing lock makes its block's clock-good false and sets SDCHG. -/
  | serdesLockLost (b : Fin 25) (good : Bool)
  /-- BLOCK_RESET_ASSERT (R656). Writing 1 to a bit of RST_BLKCTL places the block in reset behind its isolation wrapper. -/
  | blockResetAssert (x : HPort) (b : Fin 25)
  /-- BLOCK_RELEASE_REQUEST (R658). Writing 0 to a bit of RST_BLKCTL requests the block's release. -/
  | blockReleaseRequest (x : HPort) (b : Fin 25)
  /-- BLOCK_RELEASE (R658). The release takes effect at the first base-tick boundary with the block's clock-good true. -/
  | blockRelease (b : Fin 25)
  /-- VMAIN_WARNING (R660). VMAIN below the warning level, or PFW_N low, starts the power-fail sequence. -/
  | vmainWarning (pfw : Bool) (vmain : Nat)
  /-- WARNING_END (R661). A warning that ends before the reset level is a ride-through: SEQ clears and RIDE is set. -/
  | warningEnd (low us : Nat)
  /-- SUPPLY_MEASUREMENT (R663). Every 1 ms the module measures VMAIN, VBAK and the die temperature. -/
  | supplyMeasurement (vmain vbak : Nat) (temp : Int)
  /-- DEBUG_UNLOCK (R687). An authenticated challenge and response over the J9 UART enables debug from the next system reset. -/
  | debugUnlock
  /-- PEER_ACT_FALL (R510). PEER_ACT falling starts the 2 ms guard time, restarts twin 0's confirm window during a contention, and ends an active twin's contention with event 0x1103 carrying its duration. -/
  | peerActFall (us : Nat)
  /-- FRAME_RECORD_RECEIVED (R517). A frame record from the active twin arrives complete over the twin link and is held for comparison and application, with the peer's signature and health taken from it. -/
  | frameRecordReceived (r : TwinRec)
  /-- RETURN_RECORD_RECEIVED (R522). The active twin receives the standby's 64-byte return record, updates TWN_PHEALTH, PEERELIG and the peer's version and boot confirmation, and records event 0x1104 on a health change. -/
  | returnRecordReceived (n : PeerNote)
  /-- ISLAND_SELF_TEST_COMPLETE (R467). The island's self-test, started at island start or by a local reset, ends within 2 s and passes or fails, clearing SAF_STAT.SELFTEST and deciding causes 0x01, 0x02 and 0x15. -/
  | islandSelfTestComplete (cause : Nat)
  /-- MRP_RING_OPEN_DETECTED (R485). A media redundancy manager that stops receiving its ring test frames within the profile's time detects the ring open, sets OPEN and RINGCHG and records event 0x1003. -/
  | mrpRingOpenDetected (l : Fin 2)
  /-- SYNC_TRANSMIT (R493). Every Sync interval of 2^LSYNC s the module, as grandmaster or on its master ports, sends IEEE 802.1AS Sync messages on its riser ports. -/
  | syncTransmit
  deriving DecidableEq, Repr

end Sys2Proof
end

