-- ==== Sys2Proof/Machine/Bits.lean ====
section
/-! DEFINITION. Bit-field, byte-order and rounding helpers the meanings share. -/

namespace Sys2Proof.Machine

/-- Bits `[hi:lo]` of a word as a number (R6). -/
def fieldOf (w : Word) (hi lo : Nat) : Nat := (w.toNat / 2 ^ lo) % 2 ^ (hi + 1 - lo)

/-- The word with bits `[hi:lo]` replaced by the low bits of `n`. -/
def withField (w : Word) (hi lo n : Nat) : Word :=
  BitVec.ofNat 32 (w.toNat - fieldOf w hi lo * 2 ^ lo + n % 2 ^ (hi + 1 - lo) * 2 ^ lo)

/-- Bit `i` of a number. -/
def bitOf (n i : Nat) : Bool := n / 2 ^ i % 2 = 1

/-- The number with bit `i` set to `b`. -/
def withBit (n i : Nat) (b : Bool) : Nat :=
  (if bitOf n i then n - 2 ^ i else n) + (if b then 2 ^ i else 0)

/-- A truth value as the bit a register shows. -/
def ofBool (b : Bool) : Nat := if b then 1 else 0

/-- A number as a 32-bit word, wrapping. -/
def wd (n : Nat) : Word := BitVec.ofNat 32 n

/-- A signed number as a 32-bit word, wrapping (two's complement). -/
def wdInt (z : Int) : Word := BitVec.ofInt 32 z

/-- The little-endian bytes of a number, `n` of them. -/
def bytesLE : Nat → Nat → List Byte
  | 0, _ => []
  | n + 1, v => BitVec.ofNat 8 (v % 256) :: bytesLE n (v / 256)

/-- The number a little-endian byte sequence spells. -/
def natLE : List Byte → Nat
  | [] => 0
  | b :: bs => b.toNat + 256 * natLE bs

/-- The four bytes of a word, least significant first. -/
def wordBytes (w : Word) : List Byte := bytesLE 4 w.toNat

/-- The words of a byte sequence, four bytes each, little-endian; a short last group is filled with zero bytes. -/
def wordsOf : List Byte → List Word
  | a :: b :: c :: d :: rest => wd (natLE [a, b, c, d]) :: wordsOf rest
  | [] => []
  | rest => [wd (natLE rest)]

/-- Word `i` (little-endian) of a byte image, 0 past its end. -/
def wordAt (bs : List Byte) (i : Nat) : Word := wd (natLE ((bs.drop (4 * i)).take 4))

/-- Half-word at byte offset `o`. -/
def halfAt (bs : List Byte) (o : Nat) : Nat := natLE ((bs.drop o).take 2)

/-- The number a big-endian byte sequence spells. -/
def natBE (bs : List Byte) : Nat := natLE bs.reverse

/-- The `n` bytes of a number, most significant first. -/
def bytesBE (n v : Nat) : List Byte := (bytesLE n v).reverse

/-- The quotient rounded up. -/
def ceilDiv (a b : Nat) : Nat := (a + b - 1) / b

/-- A number as a signed value of `w` bits. -/
def signedOf (w n : Nat) : Int :=
  if n % 2 ^ w < 2 ^ (w - 1) then Int.ofNat (n % 2 ^ w) else Int.ofNat (n % 2 ^ w) - Int.ofNat (2 ^ w)

/-- The low `w` bits of a signed value. -/
def unsignedOf (w : Nat) (z : Int) : Nat := (z % (2 ^ w : Nat)).toNat

/-- A signed value limited to a range. -/
def clampInt (lo hi z : Int) : Int := if z < lo then lo else if hi < z then hi else z

/-- `num / den` rounded to nearest; on a tie the free bit `up` decides (the chapters state no tie rule where they use it). -/
def roundNearest (num : Int) (den : Nat) (up : Bool) : Int :=
  let q := num / (den : Int)
  let r := (num % (den : Int)).toNat
  if 2 * r < den then q else if den < 2 * r then q + 1 else if up then q + 1 else q

/-- `num / den` rounded to nearest, ties to even. -/
def roundEven (num : Int) (den : Nat) : Int :=
  roundNearest num den (num / (den : Int) % 2 = 1)

/-- The greatest number whose `k`-th power is at most `n`, from its high bits `r` on; `b` bits remain. -/
def rootFrom (k n : Nat) : Nat → Nat → Nat
  | 0, r => r
  | b + 1, r => rootFrom k n b (if (r + 2 ^ b) ^ k ≤ n then r + 2 ^ b else r)

/-- All positions of a list that satisfy a test, in order. -/
def indicesWhere {α : Type} (p : α → Bool) : Nat → List α → List Nat
  | _, [] => []
  | i, a :: as => if p a then i :: indicesWhere p (i + 1) as else indicesWhere p (i + 1) as

/-- The list with position `i` replaced; unchanged past its end. -/
def setAt {α : Type} : List α → Nat → α → List α
  | [], _, _ => []
  | _ :: as, 0, v => v :: as
  | a :: as, i + 1, v => a :: setAt as i v

/-- Fold an action over the numbers `0, …, n - 1` in ascending order. -/
def forUpto {σ : Type} (n : Nat) (s : σ) (f : Nat → σ → σ) : σ :=
  (List.range n).foldl (fun acc i => f i acc) s

end Sys2Proof.Machine
end

