-- ==== Sys2Proof/Machine/Crc.lean ====
section
/-! DEFINITION. The cyclic redundancy checks the chapters name. -/

namespace Sys2Proof.Machine

/-- `n` steps of a reflected CRC register over polynomial `poly` (reflected form). -/
def crcReflSteps (poly : Nat) : Nat → Nat → Nat
  | 0, c => c
  | n + 1, c => crcReflSteps poly n (if c % 2 = 1 then (c / 2) ^^^ poly else c / 2)

/-- A reflected CRC over bytes, without initial value or final XOR. -/
def crcRefl (poly : Nat) : Nat → List Byte → Nat
  | c, [] => c
  | c, b :: bs => crcRefl poly (crcReflSteps poly 8 (c ^^^ b.toNat)) bs

/-- CRC-32 of R158 and R690: IEEE 802.3 polynomial, initial value 0xFFFF_FFFF, reflected, final XOR 0xFFFF_FFFF. -/
def crc32 (bs : List Byte) : Word := wd (crcRefl 0xEDB88320 0xFFFFFFFF bs ^^^ 0xFFFFFFFF)

/-- CRC-32 of R690 over words, each taken least significant byte first. -/
def crc32Words (ws : List Word) : Word := crc32 (ws.flatMap wordBytes)

/-- `n` steps of an unreflected CRC register of `w` bits. -/
def crcFwdSteps (w poly : Nat) : Nat → Nat → Nat
  | 0, c => c
  | n + 1, c =>
    crcFwdSteps w poly n (if c / 2 ^ (w - 1) % 2 = 1 then (c * 2 % 2 ^ w) ^^^ poly else c * 2 % 2 ^ w)

/-- An unreflected CRC of `w` bits (at least 8) over bytes. -/
def crcFwd (w poly : Nat) : Nat → List Byte → Nat
  | c, [] => c
  | c, b :: bs => crcFwd w poly (crcFwdSteps w poly 8 (c ^^^ (b.toNat * 2 ^ (w - 8)))) bs

/-- CRC-16 of R536: polynomial 0x1021, initial value 0xFFFF, no reflection, no final XOR. -/
def crc16 (bs : List Byte) : Nat := crcFwd 16 0x1021 0xFFFF bs

end Sys2Proof.Machine
end

