-- ==== Sys2Proof/Config.lean ====
section
/-! DEFINITION. What an implementation fixes and the spec leaves open: constants without a body, of which no proof can
know a value. -/

namespace Sys2Proof

/-- The `n`-th value that the spec leaves open, as a word. (DESIGN CHOICE, log 9) -/
opaque Config.freeWord : Nat → Word

/-- The low 32 bits of the fuse-loaded MAC address: 0 field base, 1 riser (R244, R502). (DESIGN CHOICE, log 105) -/
opaque Config.macLow : Nat → Word

/-- The high 16 bits of the fuse-loaded MAC address: 0 field base, 1 riser (R244, R502). (DESIGN CHOICE, log 105) -/
opaque Config.macHigh : Nat → Word

/-- A first-order high-pass filter with a corner of 0.5 Hz (R384), whose arithmetic no rule states: the output from the last
input, the last output and the input, as binary64 bits. (DESIGN CHOICE, log 58) -/
opaque Config.highPass : Nat → Nat → Nat → Nat

/-- The device-unique root of the key vault (R612): its bytes. (DESIGN CHOICE, log 105) -/
opaque Config.fusedRoot : Nat → BitVec 8

/-- The fixed test root (R615): its bytes. (DESIGN CHOICE, log 105) -/
opaque Config.testRoot : Nat → BitVec 8

/-- The refresh slices of one rotation of the mirrored state (R514), less 1; at most 2,000 slices are used.
(DESIGN CHOICE, log 74) -/
opaque Config.recSlices : Nat

/-- The bytes an item of a frame record takes, by the kind of item (R513 gives no layout). (DESIGN CHOICE, log 74) -/
opaque Config.itemSize : Nat → Nat

/-- The image key fused in the controller (R622): X and Y of a P-384 public key. (DESIGN CHOICE, log 105) -/
opaque Config.imageKey : Nat → BitVec 8

/-- VERSION of the recovery image, written at manufacture (R620). (DESIGN CHOICE, log 105; DEDUCED, log 112) -/
opaque Config.recoveryVersion : Word

end Sys2Proof
end

