-- ==== Sys2Proof/Machine/RegMap.lean ====
section
/-! DEFINITION. The register map of BAR0: every set-up register the chapters name, with its offset, array count and
stride, reset domain (R14), reset value and the access code of each field (R7), written from the chapters' field
tables. A field row's last entry lists the values its Meaning cell defines (R11); an empty list means every value. -/

namespace Sys2Proof.Machine

/-- Reset domain of a register (R14). -/
inductive Dom where
  | por | sys | core | blk | aon
  deriving DecidableEq, Repr

/-- Access code of a field (R7). -/
inductive Acc where
  | rw | ro | wo | w1c | w1s | rc
  deriving DecidableEq, Repr

/-- One field of a register: its bits, its access code and the values it defines (R11). -/
structure FieldRow where
  hi : Nat
  lo : Nat
  acc : Acc
  vals : List (Nat × Nat)
  deriving DecidableEq, Repr

/-- One register or register array of the map. -/
structure RegRow where
  base : Nat
  count : Nat
  stride : Nat
  dom : Dom
  reset : Nat
  fields : List FieldRow
  deriving DecidableEq, Repr

/-- A named field: the offset of its register and its bits. -/
structure Fld where
  off : Nat
  hi : Nat
  lo : Nat
  deriving DecidableEq, Repr

namespace Reg

/-- SYS_CAP0 (R29). -/
def SYS_CAP0 : Nat := 0x10
/-- SYS_CAP1 (R30). -/
def SYS_CAP1 : Nat := 0x14
/-- SYS_STAT (R36). -/
def SYS_STAT : Nat := 0x20
/-- CLK_STAT (R666). -/
def CLK_STAT : Nat := 0x10000
/-- CLK_IEN (R666). -/
def CLK_IEN : Nat := 0x10004
/-- CLK_GOOD (R666). -/
def CLK_GOOD : Nat := 0x10008
/-- CLK_TIN (R666). -/
def CLK_TIN : Nat := 0x1000C
/-- RST_CTL (R667). -/
def RST_CTL : Nat := 0x20000
/-- RST_CAUSE (R667). -/
def RST_CAUSE : Nat := 0x20004
/-- RST_BOOTREC (R667). -/
def RST_BOOTREC : Nat := 0x20008
/-- RST_BLKCTL (R667). -/
def RST_BLKCTL : Nat := 0x2000C
/-- RST_BLKSTAT (R667). -/
def RST_BLKSTAT : Nat := 0x20010
/-- RST_CORECNT (R667). -/
def RST_CORECNT : Nat := 0x20014
/-- RST_TRIM (R667). -/
def RST_TRIM : Nat := 0x20018
/-- RST_LDL (R667). -/
def RST_LDL : Nat := 0x2001C
/-- RST_LDH (R667). -/
def RST_LDH : Nat := 0x20020
/-- RST_LDCMD (R667). -/
def RST_LDCMD : Nat := 0x20024
/-- PWR_STAT (R668). -/
def PWR_STAT : Nat := 0x30000
/-- PWR_CTL (R668). -/
def PWR_CTL : Nat := 0x30004
/-- PWR_IEN (R668). -/
def PWR_IEN : Nat := 0x30008
/-- PWR_MEAS (R668). -/
def PWR_MEAS : Nat := 0x3000C
/-- PWR_TEMP (R668). -/
def PWR_TEMP : Nat := 0x30010
/-- PWR_LOSSSEC (R668). -/
def PWR_LOSSSEC : Nat := 0x30014
/-- PWR_RETSEC (R668). -/
def PWR_RETSEC : Nat := 0x30018
/-- RTC_CTL (R77). -/
def RTC_CTL : Nat := 0x40000
/-- RTC_STAT (R78). -/
def RTC_STAT : Nat := 0x40004
/-- RTC_FRAC (R79). -/
def RTC_FRAC : Nat := 0x40008
/-- RTC_SECL (R79). -/
def RTC_SECL : Nat := 0x4000C
/-- RTC_SECH (R79). -/
def RTC_SECH : Nat := 0x40010
/-- RTC_SETFRAC (R80). -/
def RTC_SETFRAC : Nat := 0x40014
/-- RTC_SETSECL (R80). -/
def RTC_SETSECL : Nat := 0x40018
/-- RTC_SETSECH (R80). -/
def RTC_SETSECH : Nat := 0x4001C
/-- RTC_SETCTL (R80). -/
def RTC_SETCTL : Nat := 0x40020
/-- RTC_TRIM (R81). -/
def RTC_TRIM : Nat := 0x40024
/-- RTC_KCORR (R81). -/
def RTC_KCORR : Nat := 0x40028
/-- RTC_MEASCTL (R82). -/
def RTC_MEASCTL : Nat := 0x4002C
/-- RTC_MEASRES (R82). -/
def RTC_MEASRES : Nat := 0x40030
/-- RTC_ALMSTAT (R83). -/
def RTC_ALMSTAT : Nat := 0x40034
/-- RTC_ALMSECL (R83). -/
def RTC_ALMSECL (i : Nat) : Nat := 0x40100 + 0x10 * i
/-- RTC_ALMSECH (R83). -/
def RTC_ALMSECH (i : Nat) : Nat := 0x40104 + 0x10 * i
/-- RTC_ALMCTL (R83). -/
def RTC_ALMCTL (i : Nat) : Nat := 0x40108 + 0x10 * i
/-- TCK_STAT (R84). -/
def TCK_STAT : Nat := 0x50000
/-- TCK_CUR (R84). -/
def TCK_CUR : Nat := 0x50004
/-- TCK_FSECL (R84). -/
def TCK_FSECL : Nat := 0x50008
/-- TCK_JOINLEN (R84). -/
def TCK_JOINLEN : Nat := 0x5000C
/-- TCK_OFFSET (R84). -/
def TCK_OFFSET : Nat := 0x50010
/-- PRT_CTL (R121). -/
def PRT_CTL : Nat := 0x60000
/-- PRT_PEN (R122). -/
def PRT_PEN (i : Nat) : Nat := 0x60010 + 0x4 * i
/-- PRT_SHIDX (R123). -/
def PRT_SHIDX : Nat := 0x60020
/-- PRT_SHW0 (R123). -/
def PRT_SHW0 : Nat := 0x60024
/-- PRT_SHW1 (R123). -/
def PRT_SHW1 : Nat := 0x60028
/-- PRT_SHCMD (R123). -/
def PRT_SHCMD : Nat := 0x6002C
/-- PRT_SHCNT (R124). -/
def PRT_SHCNT : Nat := 0x60030
/-- PRT_REFCNT (R124). -/
def PRT_REFCNT : Nat := 0x60034
/-- PRT_CFGCRC (R124). -/
def PRT_CFGCRC : Nat := 0x60038
/-- PRT_PASIDx (R125). -/
def PRT_PASID (x i : Nat) : Nat := 0x61000 + 0x200 * x + 0x4 * i
/-- PRT_EVLIM (R127). -/
def PRT_EVLIM (i : Nat) : Nat := 0x61400 + 0x4 * i
/-- HPC_RSIDXx (R143). -/
def HPC_RSIDX (x : Nat) : Nat := 0x70000 + 0x100 * x
/-- HPC_CMDBLx (R143). -/
def HPC_CMDBL (x : Nat) : Nat := 0x70004 + 0x100 * x
/-- HPC_CMDBHx (R143). -/
def HPC_CMDBH (x : Nat) : Nat := 0x70008 + 0x100 * x
/-- HPC_CPLBLx (R143). -/
def HPC_CPLBL (x : Nat) : Nat := 0x7000C + 0x100 * x
/-- HPC_CPLBHx (R143). -/
def HPC_CPLBH (x : Nat) : Nat := 0x70010 + 0x100 * x
/-- HPC_EVTBLx (R143). -/
def HPC_EVTBL (x : Nat) : Nat := 0x70014 + 0x100 * x
/-- HPC_EVTBHx (R143). -/
def HPC_EVTBH (x : Nat) : Nat := 0x70018 + 0x100 * x
/-- HPC_RXBLx (R143). -/
def HPC_RXBL (x : Nat) : Nat := 0x7001C + 0x100 * x
/-- HPC_RXBHx (R143). -/
def HPC_RXBH (x : Nat) : Nat := 0x70020 + 0x100 * x
/-- HPC_RSSIZEx (R173). -/
def HPC_RSSIZE (x : Nat) : Nat := 0x70024 + 0x100 * x
/-- HPC_RSCFGx (R174). -/
def HPC_RSCFG (x : Nat) : Nat := 0x70028 + 0x100 * x
/-- HPC_RXHOLDx (R174). -/
def HPC_RXHOLD (x : Nat) : Nat := 0x7002C + 0x100 * x
/-- HPC_RSCMDx (R175). -/
def HPC_RSCMD (x : Nat) : Nat := 0x70030 + 0x100 * x
/-- HPC_STATEx (R176). -/
def HPC_STATE (x i : Nat) : Nat := 0x70200 + 0x20 * x + 0x4 * i
/-- HPC_UVENx (R176). -/
def HPC_UVEN (x : Nat) : Nat := 0x70240 + 0x4 * x
/-- HPC_PSTATx (R176). -/
def HPC_PSTAT (x : Nat) : Nat := 0x70248 + 0x4 * x
/-- QPL_CTL (R197). -/
def QPL_CTL : Nat := 0x80000
/-- QPL_STAT (R197). -/
def QPL_STAT : Nat := 0x80004
/-- QPL_FREE (R198). -/
def QPL_FREE : Nat := 0x80008
/-- QPL_SHFREE (R198). -/
def QPL_SHFREE : Nat := 0x8000C
/-- QPL_RESVSUM (R198). -/
def QPL_RESVSUM : Nat := 0x80010
/-- QPL_RETIRED (R198). -/
def QPL_RETIRED : Nat := 0x80014
/-- QPL_CERR (R198). -/
def QPL_CERR : Nat := 0x80018
/-- QPL_UERR (R198). -/
def QPL_UERR : Nat := 0x8001C
/-- QPL_QCFG (R199). -/
def QPL_QCFG (i : Nat) : Nat := 0x81000 + 0x4 * i
/-- QPL_QATTR (R199). -/
def QPL_QATTR (i : Nat) : Nat := 0x82000 + 0x4 * i
/-- QPL_QSTAT (R199). -/
def QPL_QSTAT (i : Nat) : Nat := 0x83000 + 0x4 * i
/-- QPL_QFILL (R199). -/
def QPL_QFILL (i : Nat) : Nat := 0x84000 + 0x4 * i
/-- QPL_QCERR (R199). -/
def QPL_QCERR (i : Nat) : Nat := 0x85000 + 0x4 * i
/-- QPL_QDROP (R199). -/
def QPL_QDROP (i : Nat) : Nat := 0x86000 + 0x4 * i
/-- FLD_CTL (R241). -/
def FLD_CTL : Nat := 0x90000
/-- FLD_STAT (R241). -/
def FLD_STAT : Nat := 0x90004
/-- FLD_IEN (R241). -/
def FLD_IEN : Nat := 0x90008
/-- FLD_GRP (R242). -/
def FLD_GRP (i : Nat) : Nat := 0x90010 + 0x4 * i
/-- FLD_GRPCHG (R242). -/
def FLD_GRPCHG (i : Nat) : Nat := 0x90020 + 0x4 * i
/-- FLD_GRPLIM (R242). -/
def FLD_GRPLIM (i : Nat) : Nat := 0x90030 + 0x4 * i
/-- FLD_PCLS (R242). -/
def FLD_PCLS (i : Nat) : Nat := 0x90040 + 0x4 * i
/-- FLD_PWRTIM (R242). -/
def FLD_PWRTIM : Nat := 0x90060
/-- FLD_PWRCMD (R242). -/
def FLD_PWRCMD : Nat := 0x90068
/-- FLD_MDIOA (R244). -/
def FLD_MDIOA : Nat := 0x90070
/-- FLD_MDIO (R244). -/
def FLD_MDIO : Nat := 0x90074
/-- FLD_MACBL (R244). -/
def FLD_MACBL : Nat := 0x90080
/-- FLD_MACBH (R244). -/
def FLD_MACBH : Nat := 0x90084
/-- FLD_PLCA (R243). -/
def FLD_PLCA (i : Nat) : Nat := 0x90100 + 0x4 * i
/-- FLD_PLCAOVR (R243). -/
def FLD_PLCAOVR (i : Nat) : Nat := 0x90140 + 0x4 * i
/-- FLD_PCTL (R243). -/
def FLD_PCTL (i : Nat) : Nat := 0x91000 + 0x4 * i
/-- FLD_PSTAT (R243). -/
def FLD_PSTAT (i : Nat) : Nat := 0x91100 + 0x4 * i
/-- FLD_PWRCFG (R243). -/
def FLD_PWRCFG (i : Nat) : Nat := 0x91200 + 0x4 * i
/-- FLD_PWRSTAT (R243). -/
def FLD_PWRSTAT (i : Nat) : Nat := 0x91300 + 0x4 * i
/-- FLD_PWRMEAS (R243). -/
def FLD_PWRMEAS (i : Nat) : Nat := 0x91400 + 0x4 * i
/-- FLD_AFL (R244). -/
def FLD_AFL (i : Nat) : Nat := 0x92000 + 0x8 * i
/-- FLD_AFH (R244). -/
def FLD_AFH (i : Nat) : Nat := 0x92004 + 0x8 * i
/-- FLD_RXOK (R246). -/
def FLD_RXOK (i : Nat) : Nat := 0x94000 + 0x4 * i
/-- FLD_RXERR (R246). -/
def FLD_RXERR (i : Nat) : Nat := 0x94100 + 0x4 * i
/-- FLD_RXFILT (R246). -/
def FLD_RXFILT (i : Nat) : Nat := 0x94200 + 0x4 * i
/-- FLD_RXDROP (R246). -/
def FLD_RXDROP (i : Nat) : Nat := 0x94300 + 0x4 * i
/-- FLD_RXUNK (R246). -/
def FLD_RXUNK (i : Nat) : Nat := 0x94400 + 0x4 * i
/-- FLD_TXOK (R246). -/
def FLD_TXOK (i : Nat) : Nat := 0x94500 + 0x4 * i
/-- FLD_TXDEFER (R246). -/
def FLD_TXDEFER (i : Nat) : Nat := 0x94600 + 0x4 * i
/-- FLD_TXDROP (R246). -/
def FLD_TXDROP (i : Nat) : Nat := 0x94700 + 0x4 * i
/-- PTX_SCHEDCTL (R293). -/
def PTX_SCHEDCTL : Nat := 0xA0000
/-- PTX_STAT (R293). -/
def PTX_STAT : Nat := 0xA0004
/-- PTX_IEN (R293). -/
def PTX_IEN : Nat := 0xA0008
/-- PTX_PTCRC (R294). -/
def PTX_PTCRC : Nat := 0xA0010
/-- PTX_STCRC (R294). -/
def PTX_STCRC : Nat := 0xA0014
/-- PTX_SCCRC (R294). -/
def PTX_SCCRC : Nat := 0xA0018
/-- PTX_FCNT (R294). -/
def PTX_FCNT : Nat := 0xA0020
/-- PTX_STALECNT (R294). -/
def PTX_STALECNT : Nat := 0xA0024
/-- PTX_UNSCHED (R294). -/
def PTX_UNSCHED : Nat := 0xA0028
/-- PTX_MISS (R294). -/
def PTX_MISS : Nat := 0xA0030
/-- PTX_LATE (R294). -/
def PTX_LATE : Nat := 0xA0034
/-- PTX_QUOTA (R295). -/
def PTX_QUOTA (i : Nat) : Nat := 0xA1000 + 0x4 * i
/-- PTX_USE (R295). -/
def PTX_USE (i : Nat) : Nat := 0xA1200 + 0x4 * i
/-- PTX_STN (R296). -/
def PTX_STN (i : Nat) : Nat := 0xA2000 + 0x4 * i
/-- PTX_STNMISS (R296). -/
def PTX_STNMISS (i : Nat) : Nat := 0xA4000 + 0x4 * i
/-- LGE_STAT (R332). -/
def LGE_STAT : Nat := 0xB0000
/-- LGE_IEN (R332). -/
def LGE_IEN : Nat := 0xB0004
/-- LGE_FC (R332). -/
def LGE_FC : Nat := 0xB0008
/-- LGE_BUDSUM (R332). -/
def LGE_BUDSUM : Nat := 0xB000C
/-- LGE_CERR (R332). -/
def LGE_CERR : Nat := 0xB0010
/-- LGE_SETCRC (R332). -/
def LGE_SETCRC : Nat := 0xB0014
/-- LGE_TCFG (R333). -/
def LGE_TCFG (i : Nat) : Nat := 0xB0100 + 0x4 * i
/-- LGE_TSCH (R333). -/
def LGE_TSCH (i : Nat) : Nat := 0xB0140 + 0x4 * i
/-- LGE_TBUD (R333). -/
def LGE_TBUD (i : Nat) : Nat := 0xB0180 + 0x4 * i
/-- LGE_TSTAT (R333). -/
def LGE_TSTAT (i : Nat) : Nat := 0xB01C0 + 0x4 * i
/-- LGE_TOVR (R333). -/
def LGE_TOVR (i : Nat) : Nat := 0xB0200 + 0x4 * i
/-- LGE_TCYC (R333). -/
def LGE_TCYC (i : Nat) : Nat := 0xB0240 + 0x4 * i
/-- LGE_TCMAX (R333). -/
def LGE_TCMAX (i : Nat) : Nat := 0xB0280 + 0x4 * i
/-- LGE_THPC (R333). -/
def LGE_THPC (i : Nat) : Nat := 0xB02C0 + 0x4 * i
/-- CLE_STAT (R371). -/
def CLE_STAT : Nat := 0xC0000
/-- CLE_IEN (R371). -/
def CLE_IEN : Nat := 0xC0004
/-- CLE_TCL (R371). -/
def CLE_TCL : Nat := 0xC0008
/-- CLE_TCH (R371). -/
def CLE_TCH : Nat := 0xC000C
/-- CLE_CERR (R371). -/
def CLE_CERR : Nat := 0xC0010
/-- CLE_SETCRC (R371). -/
def CLE_SETCRC : Nat := 0xC0014
/-- CLE_CAPSEG (R372). -/
def CLE_CAPSEG (i : Nat) : Nat := 0xC0020 + 0x4 * i
/-- CLE_SCFG (R373). -/
def CLE_SCFG (i : Nat) : Nat := 0xC1000 + 0x4 * i
/-- CLE_SSTAT (R373). -/
def CLE_SSTAT (i : Nat) : Nat := 0xC1400 + 0x4 * i
/-- CLE_SOUT (R373). -/
def CLE_SOUT (i : Nat) : Nat := 0xC1800 + 0x4 * i
/-- LIO_STAT (R374). -/
def LIO_STAT : Nat := 0xD0004
/-- LIO_IEN (R374). -/
def LIO_IEN : Nat := 0xD0008
/-- LIO_DDIR (R374). -/
def LIO_DDIR : Nat := 0xD0300
/-- LIO_DIN (R374). -/
def LIO_DIN : Nat := 0xD0304
/-- LIO_DOUT (R374). -/
def LIO_DOUT : Nat := 0xD0308
/-- LIO_DFILT (R374). -/
def LIO_DFILT : Nat := 0xD030C
/-- LIO_AIG (R375). -/
def LIO_AIG (i : Nat) : Nat := 0xD0100 + 0x4 * i
/-- LIO_AIO (R375). -/
def LIO_AIO (i : Nat) : Nat := 0xD0140 + 0x4 * i
/-- LIO_AIRAW (R375). -/
def LIO_AIRAW (i : Nat) : Nat := 0xD0180 + 0x4 * i
/-- LIO_AOG (R375). -/
def LIO_AOG (i : Nat) : Nat := 0xD0200 + 0x4 * i
/-- LIO_AOO (R375). -/
def LIO_AOO (i : Nat) : Nat := 0xD0220 + 0x4 * i
/-- LIO_AOCODE (R375). -/
def LIO_AOCODE (i : Nat) : Nat := 0xD0240 + 0x4 * i
/-- LIO_PICFG (R376). -/
def LIO_PICFG (i : Nat) : Nat := 0xD0400 + 0x4 * i
/-- LIO_PIFG (R376). -/
def LIO_PIFG (i : Nat) : Nat := 0xD0420 + 0x4 * i
/-- LIO_PICG (R376). -/
def LIO_PICG (i : Nat) : Nat := 0xD0440 + 0x4 * i
/-- LIO_PICNT (R376). -/
def LIO_PICNT (i : Nat) : Nat := 0xD0460 + 0x4 * i
/-- LIO_PIFRQ (R376). -/
def LIO_PIFRQ (i : Nat) : Nat := 0xD0480 + 0x4 * i
/-- LIO_PIOVR (R376). -/
def LIO_PIOVR (i : Nat) : Nat := 0xD04A0 + 0x4 * i
/-- LIO_PWCFG (R376). -/
def LIO_PWCFG (i : Nat) : Nat := 0xD0500 + 0x4 * i
/-- LIO_PWDUTY (R376). -/
def LIO_PWDUTY (i : Nat) : Nat := 0xD0520 + 0x4 * i
/-- MTR_CTL (R425). -/
def MTR_CTL : Nat := 0xE0000
/-- MTR_STAT (R425). -/
def MTR_STAT : Nat := 0xE0004
/-- MTR_IEN (R425). -/
def MTR_IEN : Nat := 0xE0008
/-- MTR_CALCRC (R426). -/
def MTR_CALCRC : Nat := 0xE000C
/-- MTR_CIRCCRC (R426). -/
def MTR_CIRCCRC : Nat := 0xE0010
/-- MTR_BANKSEQ (R426). -/
def MTR_BANKSEQ : Nat := 0xE0014
/-- MTR_ACCCLR (R426). -/
def MTR_ACCCLR : Nat := 0xE0018
/-- MTR_IVCTL (R426). -/
def MTR_IVCTL : Nat := 0xE001C
/-- MTR_IVSEQ (R426). -/
def MTR_IVSEQ : Nat := 0xE0020
/-- MTR_CHFLT (R427). -/
def MTR_CHFLT (i : Nat) : Nat := 0xE0030 + 0x4 * i
/-- MTR_ZCCNT (R427). -/
def MTR_ZCCNT (i : Nat) : Nat := 0xE0100 + 0x4 * i
/-- MTR_FREQ (R427). -/
def MTR_FREQ (i : Nat) : Nat := 0xE0120 + 0x4 * i
/-- MTR_PCFG (R428). -/
def MTR_PCFG (i : Nat) : Nat := 0xE0200 + 0x4 * i
/-- MTR_PMC (R428). -/
def MTR_PMC (i : Nat) : Nat := 0xE0220 + 0x4 * i
/-- MTR_PCNT (R428). -/
def MTR_PCNT (i : Nat) : Nat := 0xE0240 + 0x4 * i
/-- MTR_TWCTL (R429). -/
def MTR_TWCTL : Nat := 0xE0300
/-- MTR_TWSTAT (R429). -/
def MTR_TWSTAT : Nat := 0xE0304
/-- MTR_TWCLR (R429). -/
def MTR_TWCLR : Nat := 0xE0308
/-- MTR_TW (R429). -/
def MTR_TW (i : Nat) : Nat := 0xE0340 + 0x4 * i
/-- MTR_TWAS (R429). -/
def MTR_TWAS (i : Nat) : Nat := 0xE0380 + 0x4 * i
/-- SAF_STAT (R473). -/
def SAF_STAT : Nat := 0xF0000
/-- SAF_LOCK (R473). -/
def SAF_LOCK : Nat := 0xF0004
/-- SAF_SW (R473). -/
def SAF_SW : Nat := 0xF0008
/-- SAF_SWNOW (R473). -/
def SAF_SWNOW : Nat := 0xF000C
/-- SAF_PCRC (R473). -/
def SAF_PCRC : Nat := 0xF0010
/-- SAF_DEGR (R473). -/
def SAF_DEGR : Nat := 0xF0014
/-- SAF_SIN (R473). -/
def SAF_SIN : Nat := 0xF0018
/-- SAF_DISCARD (R473). -/
def SAF_DISCARD : Nat := 0xF001C
/-- SAF_BRK (R474). -/
def SAF_BRK (i : Nat) : Nat := 0xF0100 + 0x4 * i
/-- SAF_BTST (R474). -/
def SAF_BTST (i : Nat) : Nat := 0xF0140 + 0x4 * i
/-- SAF_RXS (R474). -/
def SAF_RXS (i : Nat) : Nat := 0xF0200 + 0x4 * i
/-- SAF_RXSEQ (R474). -/
def SAF_RXSEQ (i : Nat) : Nat := 0xF0240 + 0x4 * i
/-- SAF_TXS (R474). -/
def SAF_TXS (i : Nat) : Nat := 0xF0280 + 0x4 * i
/-- SAF_TXSEQ (R474). -/
def SAF_TXSEQ (i : Nat) : Nat := 0xF0290 + 0x4 * i
/-- RSR_CTL (R502). -/
def RSR_CTL : Nat := 0x100000
/-- RSR_STAT (R502). -/
def RSR_STAT : Nat := 0x100004
/-- RSR_IEN (R502). -/
def RSR_IEN : Nat := 0x100008
/-- RSR_MACL (R502). -/
def RSR_MACL : Nat := 0x10000C
/-- RSR_MACH (R502). -/
def RSR_MACH : Nat := 0x100010
/-- RSR_SUBCTL (R502). -/
def RSR_SUBCTL : Nat := 0x100014
/-- RSR_PRP (R502). -/
def RSR_PRP : Nat := 0x100018
/-- RSR_TSCTL (R502). -/
def RSR_TSCTL : Nat := 0x10001C
/-- RSR_MRP (R503). -/
def RSR_MRP (i : Nat) : Nat := 0x100020 + 0x4 * i
/-- RSR_MRPSTAT (R503). -/
def RSR_MRPSTAT (i : Nat) : Nat := 0x100028 + 0x4 * i
/-- RSR_PCTL (R503). -/
def RSR_PCTL (i : Nat) : Nat := 0x100100 + 0x4 * i
/-- RSR_PSTAT (R503). -/
def RSR_PSTAT (i : Nat) : Nat := 0x100110 + 0x4 * i
/-- RSR_PTXTH (R503). -/
def RSR_PTXTH (i : Nat) : Nat := 0x100120 + 0x4 * i
/-- RSR_MSEC (R503). -/
def RSR_MSEC (i : Nat) : Nat := 0x100140 + 0x4 * i
/-- RSR_AFL (R503). -/
def RSR_AFL (i : Nat) : Nat := 0x100200 + 0x8 * i
/-- RSR_AFH (R503). -/
def RSR_AFH (i : Nat) : Nat := 0x100204 + 0x8 * i
/-- RSR_CNTL (R504). -/
def RSR_CNTL (i : Nat) : Nat := 0x101000 + 0x8 * i
/-- RSR_CNTH (R504). -/
def RSR_CNTH (i : Nat) : Nat := 0x101800 + 0x4 * i
/-- TWN_CTL (R531). -/
def TWN_CTL : Nat := 0x110000
/-- TWN_CFG (R531). -/
def TWN_CFG : Nat := 0x110004
/-- TWN_STAT (R531). -/
def TWN_STAT : Nat := 0x110008
/-- TWN_EPOCH (R532). -/
def TWN_EPOCH : Nat := 0x11000C
/-- TWN_HEALTH (R532). -/
def TWN_HEALTH : Nat := 0x110010
/-- TWN_PHEALTH (R532). -/
def TWN_PHEALTH : Nat := 0x110014
/-- TWN_ELIG (R532). -/
def TWN_ELIG : Nat := 0x110018
/-- TWN_CFGSIG (R532). -/
def TWN_CFGSIG : Nat := 0x11001C
/-- TWN_PCFGSIG (R532). -/
def TWN_PCFGSIG : Nat := 0x110020
/-- TWN_IEN (R533). -/
def TWN_IEN : Nat := 0x110024
/-- TWN_EVT (R533). -/
def TWN_EVT : Nat := 0x110028
/-- TWN_RECTX (R533). -/
def TWN_RECTX : Nat := 0x110040
/-- TWN_RECRX (R533). -/
def TWN_RECRX : Nat := 0x110044
/-- TWN_RECMISS (R533). -/
def TWN_RECMISS : Nat := 0x110048
/-- TWN_MISMATCH (R533). -/
def TWN_MISMATCH : Nat := 0x11004C
/-- TWN_TRUNC (R533). -/
def TWN_TRUNC : Nat := 0x110050
/-- TWN_CONTEND (R533). -/
def TWN_CONTEND : Nat := 0x110054
/-- EVR_CTL (R555). -/
def EVR_CTL : Nat := 0x120000
/-- EVR_STAT (R555). -/
def EVR_STAT : Nat := 0x120004
/-- EVR_IEN (R555). -/
def EVR_IEN : Nat := 0x120008
/-- EVR_HEADSEQ (R556). -/
def EVR_HEADSEQ : Nat := 0x12000C
/-- EVR_KCNT (R556). -/
def EVR_KCNT : Nat := 0x120010
/-- EVR_KBASE (R556). -/
def EVR_KBASE : Nat := 0x120014
/-- EVR_LOST (R556). -/
def EVR_LOST : Nat := 0x120018
/-- EVR_SUPP (R556). -/
def EVR_SUPP : Nat := 0x12001C
/-- EVR_BADCRC (R556). -/
def EVR_BADCRC : Nat := 0x120020
/-- EVR_RSELx (R557). -/
def EVR_RSEL (x : Nat) : Nat := 0x120100 + 0x100 * x
/-- EVR_RWINx (R557). -/
def EVR_RWIN (x i : Nat) : Nat := 0x120120 + 0x100 * x + 0x4 * i
/-- EVR_DELENx (R557). -/
def EVR_DELEN (x i : Nat) : Nat := 0x120300 + 0x10 * x + 0x4 * i
/-- EVR_BKT (R558). -/
def EVR_BKT (i : Nat) : Nat := 0x121000 + 0x4 * i
/-- DSP_STAT (R577). -/
def DSP_STAT : Nat := 0x130000
/-- DSP_IEN (R577). -/
def DSP_IEN : Nat := 0x130004
/-- DSP_RGCRC (R577). -/
def DSP_RGCRC : Nat := 0x130008
/-- DSP_PCTL (R577). -/
def DSP_PCTL (i : Nat) : Nat := 0x130100 + 0x4 * i
/-- DSP_PCFG (R577). -/
def DSP_PCFG (i : Nat) : Nat := 0x130110 + 0x4 * i
/-- DSP_PTIM (R577). -/
def DSP_PTIM (i : Nat) : Nat := 0x130120 + 0x4 * i
/-- DSP_PSTAT (R577). -/
def DSP_PSTAT (i : Nat) : Nat := 0x130130 + 0x4 * i
/-- DSP_TEMP (R577). -/
def DSP_TEMP (i : Nat) : Nat := 0x130140 + 0x4 * i
/-- DSP_CRK (R577). -/
def DSP_CRK (i : Nat) : Nat := 0x130150 + 0x4 * i
/-- DSP_WVCRC (R577). -/
def DSP_WVCRC (i : Nat) : Nat := 0x130160 + 0x4 * i
/-- CAN_CTL (R600). -/
def CAN_CTL (i : Nat) : Nat := 0x140000 + 0x1000 * i
/-- CAN_NBT (R600). -/
def CAN_NBT (i : Nat) : Nat := 0x140004 + 0x1000 * i
/-- CAN_DBT (R600). -/
def CAN_DBT (i : Nat) : Nat := 0x140008 + 0x1000 * i
/-- CAN_TDC (R600). -/
def CAN_TDC (i : Nat) : Nat := 0x14000C + 0x1000 * i
/-- CAN_STAT (R600). -/
def CAN_STAT (i : Nat) : Nat := 0x140010 + 0x1000 * i
/-- CAN_ERRC (R600). -/
def CAN_ERRC (i : Nat) : Nat := 0x140014 + 0x1000 * i
/-- CAN_CMD (R600). -/
def CAN_CMD (i : Nat) : Nat := 0x140018 + 0x1000 * i
/-- CAN_RXOK (R600). -/
def CAN_RXOK (i : Nat) : Nat := 0x140040 + 0x1000 * i
/-- CAN_TXOK (R600). -/
def CAN_TXOK (i : Nat) : Nat := 0x140044 + 0x1000 * i
/-- CAN_ERRCNT (R600). -/
def CAN_ERRCNT (i : Nat) : Nat := 0x140048 + 0x1000 * i
/-- CAN_OVW (R600). -/
def CAN_OVW (i : Nat) : Nat := 0x14004C + 0x1000 * i
/-- CAN_MBCFGx (R600). -/
def CAN_MBCFG (x i : Nat) : Nat := 0x140400 + 0x1000 * x + 0x4 * i
/-- CAN_MBMSKx (R600). -/
def CAN_MBMSK (x i : Nat) : Nat := 0x140500 + 0x1000 * x + 0x4 * i
/-- CAN_MBSTx (R600). -/
def CAN_MBST (x i : Nat) : Nat := 0x140600 + 0x1000 * x + 0x4 * i
/-- CAN_MBSELx (R600). -/
def CAN_MBSEL (x : Nat) : Nat := 0x148000 + 0x100 * x
/-- CAN_MBWINx (R600). -/
def CAN_MBWIN (x i : Nat) : Nat := 0x148020 + 0x100 * x + 0x4 * i
/-- CAN_GSTAT (R600). -/
def CAN_GSTAT : Nat := 0x14F000
/-- CAN_GIEN (R600). -/
def CAN_GIEN : Nat := 0x14F004
/-- SER_CTL (R601). -/
def SER_CTL (i : Nat) : Nat := 0x150000 + 0x100 * i
/-- SER_FMT (R601). -/
def SER_FMT (i : Nat) : Nat := 0x150004 + 0x100 * i
/-- SER_TIM (R601). -/
def SER_TIM (i : Nat) : Nat := 0x150008 + 0x100 * i
/-- SER_STAT (R601). -/
def SER_STAT (i : Nat) : Nat := 0x15000C + 0x100 * i
/-- SER_RXFRM (R601). -/
def SER_RXFRM (i : Nat) : Nat := 0x150020 + 0x100 * i
/-- SER_RXERR (R601). -/
def SER_RXERR (i : Nat) : Nat := 0x150024 + 0x100 * i
/-- SER_TXFRM (R601). -/
def SER_TXFRM (i : Nat) : Nat := 0x150028 + 0x100 * i
/-- SER_ECHOERR (R601). -/
def SER_ECHOERR (i : Nat) : Nat := 0x15002C + 0x100 * i
/-- SER_TRUNC (R601). -/
def SER_TRUNC (i : Nat) : Nat := 0x150030 + 0x100 * i
/-- SER_GSTAT (R601). -/
def SER_GSTAT : Nat := 0x15F000
/-- SER_GIEN (R601). -/
def SER_GIEN : Nat := 0x15F004
/-- KEY_STAT (R619). -/
def KEY_STAT : Nat := 0x160000
/-- KEY_IEN (R619). -/
def KEY_IEN : Nat := 0x160004
/-- KEY_SATTR (R619). -/
def KEY_SATTR (i : Nat) : Nat := 0x160100 + 0x4 * i
/-- KEY_SCNT (R619). -/
def KEY_SCNT (i : Nat) : Nat := 0x160200 + 0x4 * i
/-- KEY_SSTAT (R619). -/
def KEY_SSTAT (i : Nat) : Nat := 0x160300 + 0x4 * i
/-- KEY_SREM (R619). -/
def KEY_SREM (i : Nat) : Nat := 0x160400 + 0x4 * i
/-- UPD_CTL (R641). -/
def UPD_CTL : Nat := 0x170000
/-- UPD_STAT (R641). -/
def UPD_STAT : Nat := 0x170004
/-- UPD_IEN (R641). -/
def UPD_IEN : Nat := 0x170008
/-- UPD_CMD (R641). -/
def UPD_CMD : Nat := 0x17000C
/-- UPD_RUNVER (R641). -/
def UPD_RUNVER : Nat := 0x170010
/-- UPD_VFLOOR (R641). -/
def UPD_VFLOOR : Nat := 0x170030
/-- UPD_PEERVER (R641). -/
def UPD_PEERVER : Nat := 0x170034
/-- UPD_CHPOS (R641). -/
def UPD_CHPOS : Nat := 0x170038
/-- UPD_SLOT (R641). -/
def UPD_SLOT (i : Nat) : Nat := 0x170020 + 0x4 * i
/-- UPD_SLOTVER (R641). -/
def UPD_SLOTVER (i : Nat) : Nat := 0x170028 + 0x4 * i
/-- UPD_PEND (R641). -/
def UPD_PEND (i : Nat) : Nat := 0x170040 + 0x4 * i
/-- SEM_CELL (R177). -/
def SEM_CELL (i : Nat) : Nat := 0x180000 + 0x4 * i
/-- SEM_CMD (R177). -/
def SEM_CMD (i : Nat) : Nat := 0x180100 + 0x4 * i
/-- SEM_CTL (R177). -/
def SEM_CTL : Nat := 0x180200

end Reg

namespace F

/-- SYS_CAP0.FLCNT (R29). -/
def SYS_CAP0_FLCNT : Fld := ⟨Reg.SYS_CAP0, 23, 16⟩
/-- SYS_CAP0.FSCNT (R29). -/
def SYS_CAP0_FSCNT : Fld := ⟨Reg.SYS_CAP0, 15, 8⟩
/-- SYS_CAP0.DSP (R29). -/
def SYS_CAP0_DSP : Fld := ⟨Reg.SYS_CAP0, 3, 3⟩
/-- SYS_CAP0.MTR (R29). -/
def SYS_CAP0_MTR : Fld := ⟨Reg.SYS_CAP0, 2, 2⟩
/-- SYS_CAP0.SAF (R29). -/
def SYS_CAP0_SAF : Fld := ⟨Reg.SYS_CAP0, 1, 1⟩
/-- SYS_CAP0.BASE (R29). -/
def SYS_CAP0_BASE : Fld := ⟨Reg.SYS_CAP0, 0, 0⟩
/-- SYS_CAP1.MCHAN (R30). -/
def SYS_CAP1_MCHAN : Fld := ⟨Reg.SYS_CAP1, 31, 24⟩
/-- SYS_CAP1.MCIRC (R30). -/
def SYS_CAP1_MCIRC : Fld := ⟨Reg.SYS_CAP1, 23, 16⟩
/-- SYS_CAP1.PULSE (R30). -/
def SYS_CAP1_PULSE : Fld := ⟨Reg.SYS_CAP1, 15, 12⟩
/-- SYS_CAP1.BRK (R30). -/
def SYS_CAP1_BRK : Fld := ⟨Reg.SYS_CAP1, 11, 8⟩
/-- SYS_CAP1.SIN (R30). -/
def SYS_CAP1_SIN : Fld := ⟨Reg.SYS_CAP1, 7, 3⟩
/-- SYS_CAP1.DSPN (R30). -/
def SYS_CAP1_DSPN : Fld := ⟨Reg.SYS_CAP1, 2, 1⟩
/-- SYS_STAT.BLKEXC (R36). -/
def SYS_STAT_BLKEXC : Fld := ⟨Reg.SYS_STAT, 3, 3⟩
/-- SYS_STAT.TRIMDEF (R36). -/
def SYS_STAT_TRIMDEF : Fld := ⟨Reg.SYS_STAT, 2, 2⟩
/-- SYS_STAT.ABSWR (R36). -/
def SYS_STAT_ABSWR : Fld := ⟨Reg.SYS_STAT, 1, 1⟩
/-- SYS_STAT.BADVAL (R36). -/
def SYS_STAT_BADVAL : Fld := ⟨Reg.SYS_STAT, 0, 0⟩
/-- CLK_STAT.SRC (R666). -/
def CLK_STAT_SRC : Fld := ⟨Reg.CLK_STAT, 7, 6⟩
/-- CLK_STAT.STRAP (R666). -/
def CLK_STAT_STRAP : Fld := ⟨Reg.CLK_STAT, 5, 4⟩
/-- CLK_STAT.FALLBK (R666). -/
def CLK_STAT_FALLBK : Fld := ⟨Reg.CLK_STAT, 3, 3⟩
/-- CLK_STAT.REFLOST (R666). -/
def CLK_STAT_REFLOST : Fld := ⟨Reg.CLK_STAT, 2, 2⟩
/-- CLK_STAT.REFCHG (R666). -/
def CLK_STAT_REFCHG : Fld := ⟨Reg.CLK_STAT, 1, 1⟩
/-- CLK_STAT.SDCHG (R666). -/
def CLK_STAT_SDCHG : Fld := ⟨Reg.CLK_STAT, 0, 0⟩
/-- CLK_IEN.EN (R666). -/
def CLK_IEN_EN : Fld := ⟨Reg.CLK_IEN, 1, 0⟩
/-- CLK_GOOD.GOOD (R666). -/
def CLK_GOOD_GOOD : Fld := ⟨Reg.CLK_GOOD, 24, 0⟩
/-- CLK_TIN.EN (R666). -/
def CLK_TIN_EN : Fld := ⟨Reg.CLK_TIN, 0, 0⟩
/-- RST_CTL.KEY (R667). -/
def RST_CTL_KEY : Fld := ⟨Reg.RST_CTL, 31, 24⟩
/-- RST_CTL.SYSRST (R667). -/
def RST_CTL_SYSRST : Fld := ⟨Reg.RST_CTL, 1, 1⟩
/-- RST_CTL.CORERST (R667). -/
def RST_CTL_CORERST : Fld := ⟨Reg.RST_CTL, 0, 0⟩
/-- RST_CAUSE.LAST (R667). -/
def RST_CAUSE_LAST : Fld := ⟨Reg.RST_CAUSE, 31, 27⟩
/-- RST_CAUSE.CHOST (R667). -/
def RST_CAUSE_CHOST : Fld := ⟨Reg.RST_CAUSE, 17, 17⟩
/-- RST_CAUSE.CWD (R667). -/
def RST_CAUSE_CWD : Fld := ⟨Reg.RST_CAUSE, 16, 16⟩
/-- RST_CAUSE.DEBUG (R667). -/
def RST_CAUSE_DEBUG : Fld := ⟨Reg.RST_CAUSE, 10, 10⟩
/-- RST_CAUSE.CWDT (R667). -/
def RST_CAUSE_CWDT : Fld := ⟨Reg.RST_CAUSE, 9, 9⟩
/-- RST_CAUSE.THERM (R667). -/
def RST_CAUSE_THERM : Fld := ⟨Reg.RST_CAUSE, 8, 8⟩
/-- RST_CAUSE.PLL (R667). -/
def RST_CAUSE_PLL : Fld := ⟨Reg.RST_CAUSE, 7, 7⟩
/-- RST_CAUSE.NOCONF (R667). -/
def RST_CAUSE_NOCONF : Fld := ⟨Reg.RST_CAUSE, 6, 6⟩
/-- RST_CAUSE.ACTV (R667). -/
def RST_CAUSE_ACTV : Fld := ⟨Reg.RST_CAUSE, 5, 5⟩
/-- RST_CAUSE.HOST1 (R667). -/
def RST_CAUSE_HOST1 : Fld := ⟨Reg.RST_CAUSE, 4, 4⟩
/-- RST_CAUSE.HOST0 (R667). -/
def RST_CAUSE_HOST0 : Fld := ⟨Reg.RST_CAUSE, 3, 3⟩
/-- RST_CAUSE.PIN (R667). -/
def RST_CAUSE_PIN : Fld := ⟨Reg.RST_CAUSE, 2, 2⟩
/-- RST_CAUSE.VLOW (R667). -/
def RST_CAUSE_VLOW : Fld := ⟨Reg.RST_CAUSE, 1, 1⟩
/-- RST_CAUSE.POR (R667). -/
def RST_CAUSE_POR : Fld := ⟨Reg.RST_CAUSE, 0, 0⟩
/-- RST_BOOTREC.SLOT (R667). -/
def RST_BOOTREC_SLOT : Fld := ⟨Reg.RST_BOOTREC, 31, 29⟩
/-- RST_BOOTREC.READY (R667). -/
def RST_BOOTREC_READY : Fld := ⟨Reg.RST_BOOTREC, 28, 28⟩
/-- RST_BOOTREC.DBG (R667). -/
def RST_BOOTREC_DBG : Fld := ⟨Reg.RST_BOOTREC, 27, 27⟩
/-- RST_BOOTREC.REASON (R667). -/
def RST_BOOTREC_REASON : Fld := ⟨Reg.RST_BOOTREC, 23, 16⟩
/-- RST_BOOTREC.BOOTSEL (R667). -/
def RST_BOOTREC_BOOTSEL : Fld := ⟨Reg.RST_BOOTREC, 15, 14⟩
/-- RST_BOOTREC.CLKSEL (R667). -/
def RST_BOOTREC_CLKSEL : Fld := ⟨Reg.RST_BOOTREC, 13, 12⟩
/-- RST_BOOTREC.NSTART (R667). -/
def RST_BOOTREC_NSTART : Fld := ⟨Reg.RST_BOOTREC, 11, 0⟩
/-- RST_BLKCTL.HOLD (R667). -/
def RST_BLKCTL_HOLD : Fld := ⟨Reg.RST_BLKCTL, 24, 0⟩
/-- RST_BLKSTAT.CLKWAIT (R667). -/
def RST_BLKSTAT_CLKWAIT : Fld := ⟨Reg.RST_BLKSTAT, 31, 31⟩
/-- RST_BLKSTAT.INRST (R667). -/
def RST_BLKSTAT_INRST : Fld := ⟨Reg.RST_BLKSTAT, 24, 0⟩
/-- RST_CORECNT.CNT (R667). -/
def RST_CORECNT_CNT : Fld := ⟨Reg.RST_CORECNT, 31, 0⟩
/-- RST_TRIM.REPAIRED (R667). -/
def RST_TRIM_REPAIRED : Fld := ⟨Reg.RST_TRIM, 8, 8⟩
/-- RST_TRIM.TLCNT (R667). -/
def RST_TRIM_TLCNT : Fld := ⟨Reg.RST_TRIM, 7, 4⟩
/-- RST_TRIM.COPY (R667). -/
def RST_TRIM_COPY : Fld := ⟨Reg.RST_TRIM, 1, 0⟩
/-- RST_LDL.ADDR (R667). -/
def RST_LDL_ADDR : Fld := ⟨Reg.RST_LDL, 31, 3⟩
/-- RST_LDH.ADDR (R667). -/
def RST_LDH_ADDR : Fld := ⟨Reg.RST_LDH, 31, 0⟩
/-- RST_LDCMD.GO (R667). -/
def RST_LDCMD_GO : Fld := ⟨Reg.RST_LDCMD, 31, 31⟩
/-- RST_LDCMD.BUSY (R667). -/
def RST_LDCMD_BUSY : Fld := ⟨Reg.RST_LDCMD, 30, 30⟩
/-- RST_LDCMD.STATUS (R667). -/
def RST_LDCMD_STATUS : Fld := ⟨Reg.RST_LDCMD, 23, 16⟩
/-- PWR_STAT.RIDE (R668). -/
def PWR_STAT_RIDE : Fld := ⟨Reg.PWR_STAT, 4, 4⟩
/-- PWR_STAT.WEVT (R668). -/
def PWR_STAT_WEVT : Fld := ⟨Reg.PWR_STAT, 3, 3⟩
/-- PWR_STAT.PFW (R668). -/
def PWR_STAT_PFW : Fld := ⟨Reg.PWR_STAT, 2, 2⟩
/-- PWR_STAT.SEQ (R668). -/
def PWR_STAT_SEQ : Fld := ⟨Reg.PWR_STAT, 1, 1⟩
/-- PWR_STAT.WARN (R668). -/
def PWR_STAT_WARN : Fld := ⟨Reg.PWR_STAT, 0, 0⟩
/-- PWR_CTL.PFWEN (R668). -/
def PWR_CTL_PFWEN : Fld := ⟨Reg.PWR_CTL, 0, 0⟩
/-- PWR_IEN.EN (R668). -/
def PWR_IEN_EN : Fld := ⟨Reg.PWR_IEN, 4, 3⟩
/-- PWR_MEAS.VBAK (R668). -/
def PWR_MEAS_VBAK : Fld := ⟨Reg.PWR_MEAS, 27, 16⟩
/-- PWR_MEAS.VMAIN (R668). -/
def PWR_MEAS_VMAIN : Fld := ⟨Reg.PWR_MEAS, 11, 0⟩
/-- PWR_TEMP.TEMP (R668). -/
def PWR_TEMP_TEMP : Fld := ⟨Reg.PWR_TEMP, 7, 0⟩
/-- PWR_LOSSSEC.SEC (R668). -/
def PWR_LOSSSEC_SEC : Fld := ⟨Reg.PWR_LOSSSEC, 31, 0⟩
/-- PWR_RETSEC.SEC (R668). -/
def PWR_RETSEC_SEC : Fld := ⟨Reg.PWR_RETSEC, 31, 0⟩
/-- RTC_CTL.ATRIM (R77). -/
def RTC_CTL_ATRIM : Fld := ⟨Reg.RTC_CTL, 2, 2⟩
/-- RTC_CTL.NETSYNC (R77). -/
def RTC_CTL_NETSYNC : Fld := ⟨Reg.RTC_CTL, 1, 1⟩
/-- RTC_STAT.CVBAK (R78). -/
def RTC_STAT_CVBAK : Fld := ⟨Reg.RTC_STAT, 3, 3⟩
/-- RTC_STAT.COSC (R78). -/
def RTC_STAT_COSC : Fld := ⟨Reg.RTC_STAT, 2, 2⟩
/-- RTC_STAT.CPOR (R78). -/
def RTC_STAT_CPOR : Fld := ⟨Reg.RTC_STAT, 1, 1⟩
/-- RTC_STAT.OSF (R78). -/
def RTC_STAT_OSF : Fld := ⟨Reg.RTC_STAT, 0, 0⟩
/-- RTC_FRAC.FRAC (R79). -/
def RTC_FRAC_FRAC : Fld := ⟨Reg.RTC_FRAC, 31, 0⟩
/-- RTC_SECL.SEC (R79). -/
def RTC_SECL_SEC : Fld := ⟨Reg.RTC_SECL, 31, 0⟩
/-- RTC_SECH.SEC (R79). -/
def RTC_SECH_SEC : Fld := ⟨Reg.RTC_SECH, 15, 0⟩
/-- RTC_SETFRAC.FRAC (R80). -/
def RTC_SETFRAC_FRAC : Fld := ⟨Reg.RTC_SETFRAC, 31, 0⟩
/-- RTC_SETSECL.SEC (R80). -/
def RTC_SETSECL_SEC : Fld := ⟨Reg.RTC_SETSECL, 31, 0⟩
/-- RTC_SETSECH.SEC (R80). -/
def RTC_SETSECH_SEC : Fld := ⟨Reg.RTC_SETSECH, 15, 0⟩
/-- RTC_SETCTL.REFUSED (R80). -/
def RTC_SETCTL_REFUSED : Fld := ⟨Reg.RTC_SETCTL, 2, 2⟩
/-- RTC_SETCTL.PEND (R80). -/
def RTC_SETCTL_PEND : Fld := ⟨Reg.RTC_SETCTL, 1, 1⟩
/-- RTC_SETCTL.GO (R80). -/
def RTC_SETCTL_GO : Fld := ⟨Reg.RTC_SETCTL, 0, 0⟩
/-- RTC_TRIM.TRIM (R81). -/
def RTC_TRIM_TRIM : Fld := ⟨Reg.RTC_TRIM, 29, 0⟩
/-- RTC_KCORR.KCORR (R81). -/
def RTC_KCORR_KCORR : Fld := ⟨Reg.RTC_KCORR, 31, 0⟩
/-- RTC_MEASCTL.START (R82). -/
def RTC_MEASCTL_START : Fld := ⟨Reg.RTC_MEASCTL, 31, 31⟩
/-- RTC_MEASCTL.BUSY (R82). -/
def RTC_MEASCTL_BUSY : Fld := ⟨Reg.RTC_MEASCTL, 30, 30⟩
/-- RTC_MEASCTL.DONE (R82). -/
def RTC_MEASCTL_DONE : Fld := ⟨Reg.RTC_MEASCTL, 29, 29⟩
/-- RTC_MEASCTL.FAIL (R82). -/
def RTC_MEASCTL_FAIL : Fld := ⟨Reg.RTC_MEASCTL, 28, 28⟩
/-- RTC_MEASCTL.FAILC (R82). -/
def RTC_MEASCTL_FAILC : Fld := ⟨Reg.RTC_MEASCTL, 27, 26⟩
/-- RTC_MEASCTL.SRC (R82). -/
def RTC_MEASCTL_SRC : Fld := ⟨Reg.RTC_MEASCTL, 25, 24⟩
/-- RTC_MEASCTL.FNOM (R82). -/
def RTC_MEASCTL_FNOM : Fld := ⟨Reg.RTC_MEASCTL, 23, 23⟩
/-- RTC_MEASCTL.VCH (R82). -/
def RTC_MEASCTL_VCH : Fld := ⟨Reg.RTC_MEASCTL, 22, 20⟩
/-- RTC_MEASCTL.WIN (R82). -/
def RTC_MEASCTL_WIN : Fld := ⟨Reg.RTC_MEASCTL, 13, 0⟩
/-- RTC_MEASRES.RATE (R82). -/
def RTC_MEASRES_RATE : Fld := ⟨Reg.RTC_MEASRES, 31, 0⟩
/-- RTC_ALMSTAT.SKIP (R83). -/
def RTC_ALMSTAT_SKIP : Fld := ⟨Reg.RTC_ALMSTAT, 15, 8⟩
/-- RTC_ALMSTAT.FIRED (R83). -/
def RTC_ALMSTAT_FIRED : Fld := ⟨Reg.RTC_ALMSTAT, 7, 0⟩
/-- RTC_ALMSECL.SEC (R83). -/
def RTC_ALMSECL_SEC (i : Nat) : Fld := ⟨Reg.RTC_ALMSECL i, 31, 0⟩
/-- RTC_ALMSECH.FRAC (R83). -/
def RTC_ALMSECH_FRAC (i : Nat) : Fld := ⟨Reg.RTC_ALMSECH i, 31, 16⟩
/-- RTC_ALMSECH.SEC (R83). -/
def RTC_ALMSECH_SEC (i : Nat) : Fld := ⟨Reg.RTC_ALMSECH i, 15, 0⟩
/-- RTC_ALMCTL.MSIX (R83). -/
def RTC_ALMCTL_MSIX (i : Nat) : Fld := ⟨Reg.RTC_ALMCTL i, 2, 2⟩
/-- RTC_ALMCTL.EVT (R83). -/
def RTC_ALMCTL_EVT (i : Nat) : Fld := ⟨Reg.RTC_ALMCTL i, 1, 1⟩
/-- RTC_ALMCTL.ARM (R83). -/
def RTC_ALMCTL_ARM (i : Nat) : Fld := ⟨Reg.RTC_ALMCTL i, 0, 0⟩
/-- TCK_STAT.JOIN (R84). -/
def TCK_STAT_JOIN : Fld := ⟨Reg.TCK_STAT, 3, 3⟩
/-- TCK_STAT.HOLD (R84). -/
def TCK_STAT_HOLD : Fld := ⟨Reg.TCK_STAT, 2, 2⟩
/-- TCK_STAT.LOCK (R84). -/
def TCK_STAT_LOCK : Fld := ⟨Reg.TCK_STAT, 1, 1⟩
/-- TCK_STAT.RUN (R84). -/
def TCK_STAT_RUN : Fld := ⟨Reg.TCK_STAT, 0, 0⟩
/-- TCK_CUR.FIDX (R84). -/
def TCK_CUR_FIDX : Fld := ⟨Reg.TCK_CUR, 12, 3⟩
/-- TCK_CUR.TICK (R84). -/
def TCK_CUR_TICK : Fld := ⟨Reg.TCK_CUR, 2, 0⟩
/-- TCK_FSECL.SEC (R84). -/
def TCK_FSECL_SEC : Fld := ⟨Reg.TCK_FSECL, 31, 0⟩
/-- TCK_JOINLEN.LEN (R84). -/
def TCK_JOINLEN_LEN : Fld := ⟨Reg.TCK_JOINLEN, 19, 0⟩
/-- TCK_OFFSET.OFS (R84). -/
def TCK_OFFSET_OFS : Fld := ⟨Reg.TCK_OFFSET, 31, 0⟩
/-- PRT_CTL.REFEVT (R121). -/
def PRT_CTL_REFEVT : Fld := ⟨Reg.PRT_CTL, 1, 1⟩
/-- PRT_CTL.OPAUDIT (R121). -/
def PRT_CTL_OPAUDIT : Fld := ⟨Reg.PRT_CTL, 0, 0⟩
/-- PRT_PEN.EN (R122). -/
def PRT_PEN_EN (i : Nat) : Fld := ⟨Reg.PRT_PEN i, 31, 0⟩
/-- PRT_SHIDX.IDX (R123). -/
def PRT_SHIDX_IDX : Fld := ⟨Reg.PRT_SHIDX, 11, 0⟩
/-- PRT_SHW0.VALID (R123). -/
def PRT_SHW0_VALID : Fld := ⟨Reg.PRT_SHW0, 31, 31⟩
/-- PRT_SHW0.ALL (R123). -/
def PRT_SHW0_ALL : Fld := ⟨Reg.PRT_SHW0, 30, 30⟩
/-- PRT_SHW0.CLASS (R123). -/
def PRT_SHW0_CLASS : Fld := ⟨Reg.PRT_SHW0, 29, 27⟩
/-- PRT_SHW0.TGT (R123). -/
def PRT_SHW0_TGT : Fld := ⟨Reg.PRT_SHW0, 22, 16⟩
/-- PRT_SHW0.BASE (R123). -/
def PRT_SHW0_BASE : Fld := ⟨Reg.PRT_SHW0, 15, 0⟩
/-- PRT_SHW1.COUNT (R123). -/
def PRT_SHW1_COUNT : Fld := ⟨Reg.PRT_SHW1, 16, 0⟩
/-- PRT_SHCMD.ERR (R123). -/
def PRT_SHCMD_ERR : Fld := ⟨Reg.PRT_SHCMD, 3, 3⟩
/-- PRT_SHCMD.BUSY (R123). -/
def PRT_SHCMD_BUSY : Fld := ⟨Reg.PRT_SHCMD, 2, 2⟩
/-- PRT_SHCMD.RD (R123). -/
def PRT_SHCMD_RD : Fld := ⟨Reg.PRT_SHCMD, 1, 1⟩
/-- PRT_SHCMD.WR (R123). -/
def PRT_SHCMD_WR : Fld := ⟨Reg.PRT_SHCMD, 0, 0⟩
/-- PRT_SHCNT.CNT (R124). -/
def PRT_SHCNT_CNT : Fld := ⟨Reg.PRT_SHCNT, 12, 0⟩
/-- PRT_REFCNT.CNT (R124). -/
def PRT_REFCNT_CNT : Fld := ⟨Reg.PRT_REFCNT, 31, 0⟩
/-- PRT_CFGCRC.CRC (R124). -/
def PRT_CFGCRC_CRC : Fld := ⟨Reg.PRT_CFGCRC, 31, 0⟩
/-- PRT_PASID.EN (R125). -/
def PRT_PASID_EN (x i : Nat) : Fld := ⟨Reg.PRT_PASID x i, 31, 31⟩
/-- PRT_PASID.PASID (R125). -/
def PRT_PASID_PASID (x i : Nat) : Fld := ⟨Reg.PRT_PASID x i, 19, 0⟩
/-- PRT_EVLIM.DEPTH (R127). -/
def PRT_EVLIM_DEPTH (i : Nat) : Fld := ⟨Reg.PRT_EVLIM i, 31, 16⟩
/-- PRT_EVLIM.RATE (R127). -/
def PRT_EVLIM_RATE (i : Nat) : Fld := ⟨Reg.PRT_EVLIM i, 15, 0⟩
/-- HPC_RSIDX.RS (R143). -/
def HPC_RSIDX_RS (x : Nat) : Fld := ⟨Reg.HPC_RSIDX x, 6, 0⟩
/-- HPC_CMDBL.BASE (R143). -/
def HPC_CMDBL_BASE (x : Nat) : Fld := ⟨Reg.HPC_CMDBL x, 31, 0⟩
/-- HPC_CMDBH.BASE (R143). -/
def HPC_CMDBH_BASE (x : Nat) : Fld := ⟨Reg.HPC_CMDBH x, 31, 0⟩
/-- HPC_CPLBL.BASE (R143). -/
def HPC_CPLBL_BASE (x : Nat) : Fld := ⟨Reg.HPC_CPLBL x, 31, 0⟩
/-- HPC_CPLBH.BASE (R143). -/
def HPC_CPLBH_BASE (x : Nat) : Fld := ⟨Reg.HPC_CPLBH x, 31, 0⟩
/-- HPC_EVTBL.BASE (R143). -/
def HPC_EVTBL_BASE (x : Nat) : Fld := ⟨Reg.HPC_EVTBL x, 31, 0⟩
/-- HPC_EVTBH.BASE (R143). -/
def HPC_EVTBH_BASE (x : Nat) : Fld := ⟨Reg.HPC_EVTBH x, 31, 0⟩
/-- HPC_RXBL.BASE (R143). -/
def HPC_RXBL_BASE (x : Nat) : Fld := ⟨Reg.HPC_RXBL x, 31, 0⟩
/-- HPC_RXBH.BASE (R143). -/
def HPC_RXBH_BASE (x : Nat) : Fld := ⟨Reg.HPC_RXBH x, 31, 0⟩
/-- HPC_RSSIZE.RXBSZ (R173). -/
def HPC_RSSIZE_RXBSZ (x : Nat) : Fld := ⟨Reg.HPC_RSSIZE x, 18, 16⟩
/-- HPC_RSSIZE.RX (R173). -/
def HPC_RSSIZE_RX (x : Nat) : Fld := ⟨Reg.HPC_RSSIZE x, 15, 12⟩
/-- HPC_RSSIZE.EVT (R173). -/
def HPC_RSSIZE_EVT (x : Nat) : Fld := ⟨Reg.HPC_RSSIZE x, 11, 8⟩
/-- HPC_RSSIZE.CPL (R173). -/
def HPC_RSSIZE_CPL (x : Nat) : Fld := ⟨Reg.HPC_RSSIZE x, 7, 4⟩
/-- HPC_RSSIZE.CMD (R173). -/
def HPC_RSSIZE_CMD (x : Nat) : Fld := ⟨Reg.HPC_RSSIZE x, 3, 0⟩
/-- HPC_RSCFG.MAXOPS (R174). -/
def HPC_RSCFG_MAXOPS (x : Nat) : Fld := ⟨Reg.HPC_RSCFG x, 23, 16⟩
/-- HPC_RSCFG.ICOAL (R174). -/
def HPC_RSCFG_ICOAL (x : Nat) : Fld := ⟨Reg.HPC_RSCFG x, 9, 0⟩
/-- HPC_RXHOLD.HOLD (R174). -/
def HPC_RXHOLD_HOLD (x : Nat) : Fld := ⟨Reg.HPC_RXHOLD x, 15, 0⟩
/-- HPC_RSCMD.ERRC (R175). -/
def HPC_RSCMD_ERRC (x : Nat) : Fld := ⟨Reg.HPC_RSCMD x, 11, 8⟩
/-- HPC_RSCMD.ERR (R175). -/
def HPC_RSCMD_ERR (x : Nat) : Fld := ⟨Reg.HPC_RSCMD x, 7, 7⟩
/-- HPC_RSCMD.BUSY (R175). -/
def HPC_RSCMD_BUSY (x : Nat) : Fld := ⟨Reg.HPC_RSCMD x, 6, 6⟩
/-- HPC_RSCMD.STOP (R175). -/
def HPC_RSCMD_STOP (x : Nat) : Fld := ⟨Reg.HPC_RSCMD x, 3, 3⟩
/-- HPC_RSCMD.START (R175). -/
def HPC_RSCMD_START (x : Nat) : Fld := ⟨Reg.HPC_RSCMD x, 2, 2⟩
/-- HPC_RSCMD.RD (R175). -/
def HPC_RSCMD_RD (x : Nat) : Fld := ⟨Reg.HPC_RSCMD x, 1, 1⟩
/-- HPC_RSCMD.WR (R175). -/
def HPC_RSCMD_WR (x : Nat) : Fld := ⟨Reg.HPC_RSCMD x, 0, 0⟩
/-- HPC_STATE.ST (R176). -/
def HPC_STATE_ST (x i : Nat) : Fld := ⟨Reg.HPC_STATE x i, 31, 0⟩
/-- HPC_UVEN.EN (R176). -/
def HPC_UVEN_EN (x : Nat) : Fld := ⟨Reg.HPC_UVEN x, 24, 0⟩
/-- HPC_PSTAT.LINK (R176). -/
def HPC_PSTAT_LINK (x : Nat) : Fld := ⟨Reg.HPC_PSTAT x, 31, 31⟩
/-- HPC_PSTAT.SPEED (R176). -/
def HPC_PSTAT_SPEED (x : Nat) : Fld := ⟨Reg.HPC_PSTAT x, 30, 28⟩
/-- HPC_PSTAT.WIDTH (R176). -/
def HPC_PSTAT_WIDTH (x : Nat) : Fld := ⟨Reg.HPC_PSTAT x, 27, 25⟩
/-- HPC_PSTAT.OPS (R176). -/
def HPC_PSTAT_OPS (x : Nat) : Fld := ⟨Reg.HPC_PSTAT x, 24, 16⟩
/-- HPC_PSTAT.NPR (R176). -/
def HPC_PSTAT_NPR (x : Nat) : Fld := ⟨Reg.HPC_PSTAT x, 15, 8⟩
/-- QPL_CTL.INJQ (R197). -/
def QPL_CTL_INJQ : Fld := ⟨Reg.QPL_CTL, 15, 6⟩
/-- QPL_CTL.INJU (R197). -/
def QPL_CTL_INJU : Fld := ⟨Reg.QPL_CTL, 1, 1⟩
/-- QPL_CTL.INJC (R197). -/
def QPL_CTL_INJC : Fld := ⟨Reg.QPL_CTL, 0, 0⟩
/-- QPL_STAT.SHORT (R197). -/
def QPL_STAT_SHORT : Fld := ⟨Reg.QPL_STAT, 1, 1⟩
/-- QPL_STAT.AUDIT (R197). -/
def QPL_STAT_AUDIT : Fld := ⟨Reg.QPL_STAT, 0, 0⟩
/-- QPL_FREE.CNT (R198). -/
def QPL_FREE_CNT : Fld := ⟨Reg.QPL_FREE, 16, 0⟩
/-- QPL_SHFREE.CNT (R198). -/
def QPL_SHFREE_CNT : Fld := ⟨Reg.QPL_SHFREE, 16, 0⟩
/-- QPL_RESVSUM.CNT (R198). -/
def QPL_RESVSUM_CNT : Fld := ⟨Reg.QPL_RESVSUM, 16, 0⟩
/-- QPL_RETIRED.CNT (R198). -/
def QPL_RETIRED_CNT : Fld := ⟨Reg.QPL_RETIRED, 16, 0⟩
/-- QPL_CERR.CNT (R198). -/
def QPL_CERR_CNT : Fld := ⟨Reg.QPL_CERR, 31, 0⟩
/-- QPL_UERR.CNT (R198). -/
def QPL_UERR_CNT : Fld := ⟨Reg.QPL_UERR, 31, 0⟩
/-- QPL_QCFG.QUOTA (R199). -/
def QPL_QCFG_QUOTA (i : Nat) : Fld := ⟨Reg.QPL_QCFG i, 31, 16⟩
/-- QPL_QCFG.RESV (R199). -/
def QPL_QCFG_RESV (i : Nat) : Fld := ⟨Reg.QPL_QCFG i, 15, 0⟩
/-- QPL_QATTR.TC (R199). -/
def QPL_QATTR_TC (i : Nat) : Fld := ⟨Reg.QPL_QATTR i, 31, 31⟩
/-- QPL_QATTR.CUT (R199). -/
def QPL_QATTR_CUT (i : Nat) : Fld := ⟨Reg.QPL_QATTR i, 30, 30⟩
/-- QPL_QATTR.TAG (R199). -/
def QPL_QATTR_TAG (i : Nat) : Fld := ⟨Reg.QPL_QATTR i, 22, 16⟩
/-- QPL_QSTAT.PSN (R199). -/
def QPL_QSTAT_PSN (i : Nat) : Fld := ⟨Reg.QPL_QSTAT i, 4, 4⟩
/-- QPL_QSTAT.FLUSH (R199). -/
def QPL_QSTAT_FLUSH (i : Nat) : Fld := ⟨Reg.QPL_QSTAT i, 3, 3⟩
/-- QPL_QSTAT.FLUSHED (R199). -/
def QPL_QSTAT_FLUSHED (i : Nat) : Fld := ⟨Reg.QPL_QSTAT i, 2, 2⟩
/-- QPL_QSTAT.OVR (R199). -/
def QPL_QSTAT_OVR (i : Nat) : Fld := ⟨Reg.QPL_QSTAT i, 1, 1⟩
/-- QPL_QSTAT.FULL (R199). -/
def QPL_QSTAT_FULL (i : Nat) : Fld := ⟨Reg.QPL_QSTAT i, 0, 0⟩
/-- QPL_QFILL.FILL (R199). -/
def QPL_QFILL_FILL (i : Nat) : Fld := ⟨Reg.QPL_QFILL i, 16, 0⟩
/-- QPL_QCERR.CNT (R199). -/
def QPL_QCERR_CNT (i : Nat) : Fld := ⟨Reg.QPL_QCERR i, 31, 0⟩
/-- QPL_QDROP.CNT (R199). -/
def QPL_QDROP_CNT (i : Nat) : Fld := ⟨Reg.QPL_QDROP i, 31, 0⟩
/-- FLD_CTL.ETYPE (R241). -/
def FLD_CTL_ETYPE : Fld := ⟨Reg.FLD_CTL, 31, 16⟩
/-- FLD_CTL.FLOOR (R241). -/
def FLD_CTL_FLOOR : Fld := ⟨Reg.FLD_CTL, 6, 0⟩
/-- FLD_STAT.SBLOST (R241). -/
def FLD_STAT_SBLOST : Fld := ⟨Reg.FLD_STAT, 3, 3⟩
/-- FLD_STAT.SHED (R241). -/
def FLD_STAT_SHED : Fld := ⟨Reg.FLD_STAT, 2, 2⟩
/-- FLD_STAT.PWRFLT (R241). -/
def FLD_STAT_PWRFLT : Fld := ⟨Reg.FLD_STAT, 1, 1⟩
/-- FLD_STAT.LINKCHG (R241). -/
def FLD_STAT_LINKCHG : Fld := ⟨Reg.FLD_STAT, 0, 0⟩
/-- FLD_IEN.EN (R241). -/
def FLD_IEN_EN : Fld := ⟨Reg.FLD_IEN, 3, 0⟩
/-- FLD_GRP.BUDGET (R242). -/
def FLD_GRP_BUDGET (i : Nat) : Fld := ⟨Reg.FLD_GRP i, 19, 0⟩
/-- FLD_GRPCHG.CHG (R242). -/
def FLD_GRPCHG_CHG (i : Nat) : Fld := ⟨Reg.FLD_GRPCHG i, 19, 0⟩
/-- FLD_GRPLIM.LIMIT (R242). -/
def FLD_GRPLIM_LIMIT (i : Nat) : Fld := ⟨Reg.FLD_GRPLIM i, 19, 0⟩
/-- FLD_PCLS.CHARGE (R242). -/
def FLD_PCLS_CHARGE (i : Nat) : Fld := ⟨Reg.FLD_PCLS i, 31, 16⟩
/-- FLD_PCLS.ILIM (R242). -/
def FLD_PCLS_ILIM (i : Nat) : Fld := ⟨Reg.FLD_PCLS i, 15, 0⟩
/-- FLD_PWRTIM.TOVL (R242). -/
def FLD_PWRTIM_TOVL : Fld := ⟨Reg.FLD_PWRTIM, 31, 24⟩
/-- FLD_PWRTIM.TOPEN (R242). -/
def FLD_PWRTIM_TOPEN : Fld := ⟨Reg.FLD_PWRTIM, 23, 16⟩
/-- FLD_PWRTIM.BACKOFF (R242). -/
def FLD_PWRTIM_BACKOFF : Fld := ⟨Reg.FLD_PWRTIM, 15, 8⟩
/-- FLD_PWRTIM.RETRY (R242). -/
def FLD_PWRTIM_RETRY : Fld := ⟨Reg.FLD_PWRTIM, 7, 4⟩
/-- FLD_PWRCMD.OP (R242). -/
def FLD_PWRCMD_OP : Fld := ⟨Reg.FLD_PWRCMD, 31, 30⟩
/-- FLD_PWRCMD.PORT (R242). -/
def FLD_PWRCMD_PORT : Fld := ⟨Reg.FLD_PWRCMD, 5, 0⟩
/-- FLD_MDIOA.REGAD (R244). -/
def FLD_MDIOA_REGAD : Fld := ⟨Reg.FLD_MDIOA, 15, 0⟩
/-- FLD_MDIO.GO (R244). -/
def FLD_MDIO_GO : Fld := ⟨Reg.FLD_MDIO, 31, 31⟩
/-- FLD_MDIO.WR (R244). -/
def FLD_MDIO_WR : Fld := ⟨Reg.FLD_MDIO, 30, 30⟩
/-- FLD_MDIO.PORT (R244). -/
def FLD_MDIO_PORT : Fld := ⟨Reg.FLD_MDIO, 29, 24⟩
/-- FLD_MDIO.DEVAD (R244). -/
def FLD_MDIO_DEVAD : Fld := ⟨Reg.FLD_MDIO, 20, 16⟩
/-- FLD_MDIO.DATA (R244). -/
def FLD_MDIO_DATA : Fld := ⟨Reg.FLD_MDIO, 15, 0⟩
/-- FLD_MACBL.ADDR (R244). -/
def FLD_MACBL_ADDR : Fld := ⟨Reg.FLD_MACBL, 31, 0⟩
/-- FLD_MACBH.ADDR (R244). -/
def FLD_MACBH_ADDR : Fld := ⟨Reg.FLD_MACBH, 15, 0⟩
/-- FLD_PLCA.NCNT (R243). -/
def FLD_PLCA_NCNT (i : Nat) : Fld := ⟨Reg.FLD_PLCA i, 31, 24⟩
/-- FLD_PLCA.TOT (R243). -/
def FLD_PLCA_TOT (i : Nat) : Fld := ⟨Reg.FLD_PLCA i, 23, 16⟩
/-- FLD_PLCA.BCNT (R243). -/
def FLD_PLCA_BCNT (i : Nat) : Fld := ⟨Reg.FLD_PLCA i, 15, 8⟩
/-- FLD_PLCA.CYC (R243). -/
def FLD_PLCA_CYC (i : Nat) : Fld := ⟨Reg.FLD_PLCA i, 7, 6⟩
/-- FLD_PLCAOVR.CNT (R243). -/
def FLD_PLCAOVR_CNT (i : Nat) : Fld := ⟨Reg.FLD_PLCAOVR i, 31, 0⟩
/-- FLD_PCTL.EN (R243). -/
def FLD_PCTL_EN (i : Nat) : Fld := ⟨Reg.FLD_PCTL i, 31, 31⟩
/-- FLD_PCTL.TAG (R243). -/
def FLD_PCTL_TAG (i : Nat) : Fld := ⟨Reg.FLD_PCTL i, 30, 24⟩
/-- FLD_PCTL.HPSEL (R243). -/
def FLD_PCTL_HPSEL (i : Nat) : Fld := ⟨Reg.FLD_PCTL i, 23, 23⟩
/-- FLD_PCTL.PROM (R243). -/
def FLD_PCTL_PROM (i : Nat) : Fld := ⟨Reg.FLD_PCTL i, 22, 22⟩
/-- FLD_PCTL.BCAST (R243). -/
def FLD_PCTL_BCAST (i : Nat) : Fld := ⟨Reg.FLD_PCTL i, 21, 21⟩
/-- FLD_PCTL.LEVEL (R243). -/
def FLD_PCTL_LEVEL (i : Nat) : Fld := ⟨Reg.FLD_PCTL i, 19, 18⟩
/-- FLD_PCTL.ROLE (R243). -/
def FLD_PCTL_ROLE (i : Nat) : Fld := ⟨Reg.FLD_PCTL i, 17, 16⟩
/-- FLD_PSTAT.LINK (R243). -/
def FLD_PSTAT_LINK (i : Nat) : Fld := ⟨Reg.FLD_PSTAT i, 31, 31⟩
/-- FLD_PSTAT.LV1 (R243). -/
def FLD_PSTAT_LV1 (i : Nat) : Fld := ⟨Reg.FLD_PSTAT i, 30, 30⟩
/-- FLD_PSTAT.LEAD (R243). -/
def FLD_PSTAT_LEAD (i : Nat) : Fld := ⟨Reg.FLD_PSTAT i, 29, 29⟩
/-- FLD_PSTAT.SQI (R243). -/
def FLD_PSTAT_SQI (i : Nat) : Fld := ⟨Reg.FLD_PSTAT i, 2, 0⟩
/-- FLD_PWRCFG.MODE (R243). -/
def FLD_PWRCFG_MODE (i : Nat) : Fld := ⟨Reg.FLD_PWRCFG i, 31, 30⟩
/-- FLD_PWRCFG.FIXCLS (R243). -/
def FLD_PWRCFG_FIXCLS (i : Nat) : Fld := ⟨Reg.FLD_PWRCFG i, 27, 24⟩
/-- FLD_PWRCFG.GROUP (R243). -/
def FLD_PWRCFG_GROUP (i : Nat) : Fld := ⟨Reg.FLD_PWRCFG i, 21, 20⟩
/-- FLD_PWRCFG.PRIO (R243). -/
def FLD_PWRCFG_PRIO (i : Nat) : Fld := ⟨Reg.FLD_PWRCFG i, 17, 16⟩
/-- FLD_PWRSTAT.STATE (R243). -/
def FLD_PWRSTAT_STATE (i : Nat) : Fld := ⟨Reg.FLD_PWRSTAT i, 31, 28⟩
/-- FLD_PWRSTAT.CLASS (R243). -/
def FLD_PWRSTAT_CLASS (i : Nat) : Fld := ⟨Reg.FLD_PWRSTAT i, 27, 24⟩
/-- FLD_PWRSTAT.FCODE (R243). -/
def FLD_PWRSTAT_FCODE (i : Nat) : Fld := ⟨Reg.FLD_PWRSTAT i, 23, 20⟩
/-- FLD_PWRSTAT.FCNT (R243). -/
def FLD_PWRSTAT_FCNT (i : Nat) : Fld := ⟨Reg.FLD_PWRSTAT i, 19, 16⟩
/-- FLD_PWRMEAS.VOLT (R243). -/
def FLD_PWRMEAS_VOLT (i : Nat) : Fld := ⟨Reg.FLD_PWRMEAS i, 27, 16⟩
/-- FLD_PWRMEAS.CURR (R243). -/
def FLD_PWRMEAS_CURR (i : Nat) : Fld := ⟨Reg.FLD_PWRMEAS i, 11, 0⟩
/-- FLD_AFL.ADDR (R244). -/
def FLD_AFL_ADDR (i : Nat) : Fld := ⟨Reg.FLD_AFL i, 31, 0⟩
/-- FLD_AFH.VALID (R244). -/
def FLD_AFH_VALID (i : Nat) : Fld := ⟨Reg.FLD_AFH i, 31, 31⟩
/-- FLD_AFH.ADDR (R244). -/
def FLD_AFH_ADDR (i : Nat) : Fld := ⟨Reg.FLD_AFH i, 15, 0⟩
/-- FLD_RXOK.CNT (R246). -/
def FLD_RXOK_CNT (i : Nat) : Fld := ⟨Reg.FLD_RXOK i, 31, 0⟩
/-- FLD_RXERR.CNT (R246). -/
def FLD_RXERR_CNT (i : Nat) : Fld := ⟨Reg.FLD_RXERR i, 31, 0⟩
/-- FLD_RXFILT.CNT (R246). -/
def FLD_RXFILT_CNT (i : Nat) : Fld := ⟨Reg.FLD_RXFILT i, 31, 0⟩
/-- FLD_RXDROP.CNT (R246). -/
def FLD_RXDROP_CNT (i : Nat) : Fld := ⟨Reg.FLD_RXDROP i, 31, 0⟩
/-- FLD_RXUNK.CNT (R246). -/
def FLD_RXUNK_CNT (i : Nat) : Fld := ⟨Reg.FLD_RXUNK i, 31, 0⟩
/-- FLD_TXOK.CNT (R246). -/
def FLD_TXOK_CNT (i : Nat) : Fld := ⟨Reg.FLD_TXOK i, 31, 0⟩
/-- FLD_TXDEFER.CNT (R246). -/
def FLD_TXDEFER_CNT (i : Nat) : Fld := ⟨Reg.FLD_TXDEFER i, 31, 0⟩
/-- FLD_TXDROP.CNT (R246). -/
def FLD_TXDROP_CNT (i : Nat) : Fld := ⟨Reg.FLD_TXDROP i, 31, 0⟩
/-- PTX_SCHEDCTL.NENT (R293). -/
def PTX_SCHEDCTL_NENT : Fld := ⟨Reg.PTX_SCHEDCTL, 31, 16⟩
/-- PTX_SCHEDCTL.TURN (R293). -/
def PTX_SCHEDCTL_TURN : Fld := ⟨Reg.PTX_SCHEDCTL, 15, 8⟩
/-- PTX_SCHEDCTL.RMISS (R293). -/
def PTX_SCHEDCTL_RMISS : Fld := ⟨Reg.PTX_SCHEDCTL, 7, 4⟩
/-- PTX_SCHEDCTL.LOADED (R293). -/
def PTX_SCHEDCTL_LOADED : Fld := ⟨Reg.PTX_SCHEDCTL, 0, 0⟩
/-- PTX_STAT.FAREA (R293). -/
def PTX_STAT_FAREA : Fld := ⟨Reg.PTX_STAT, 4, 4⟩
/-- PTX_STAT.LOADCHG (R293). -/
def PTX_STAT_LOADCHG : Fld := ⟨Reg.PTX_STAT, 3, 3⟩
/-- PTX_STAT.STALECHG (R293). -/
def PTX_STAT_STALECHG : Fld := ⟨Reg.PTX_STAT, 2, 2⟩
/-- PTX_STAT.LATE (R293). -/
def PTX_STAT_LATE : Fld := ⟨Reg.PTX_STAT, 1, 1⟩
/-- PTX_STAT.FORCECHG (R293). -/
def PTX_STAT_FORCECHG : Fld := ⟨Reg.PTX_STAT, 0, 0⟩
/-- PTX_IEN.EN (R293). -/
def PTX_IEN_EN : Fld := ⟨Reg.PTX_IEN, 3, 0⟩
/-- PTX_PTCRC.CRC (R294). -/
def PTX_PTCRC_CRC : Fld := ⟨Reg.PTX_PTCRC, 31, 0⟩
/-- PTX_STCRC.CRC (R294). -/
def PTX_STCRC_CRC : Fld := ⟨Reg.PTX_STCRC, 31, 0⟩
/-- PTX_SCCRC.CRC (R294). -/
def PTX_SCCRC_CRC : Fld := ⟨Reg.PTX_SCCRC, 31, 0⟩
/-- PTX_FCNT.CNT (R294). -/
def PTX_FCNT_CNT : Fld := ⟨Reg.PTX_FCNT, 12, 0⟩
/-- PTX_STALECNT.CNT (R294). -/
def PTX_STALECNT_CNT : Fld := ⟨Reg.PTX_STALECNT, 11, 0⟩
/-- PTX_UNSCHED.CNT (R294). -/
def PTX_UNSCHED_CNT : Fld := ⟨Reg.PTX_UNSCHED, 16, 0⟩
/-- PTX_MISS.CNT (R294). -/
def PTX_MISS_CNT : Fld := ⟨Reg.PTX_MISS, 31, 0⟩
/-- PTX_LATE.CNT (R294). -/
def PTX_LATE_CNT : Fld := ⟨Reg.PTX_LATE, 31, 0⟩
/-- PTX_QUOTA.FQ (R295). -/
def PTX_QUOTA_FQ (i : Nat) : Fld := ⟨Reg.PTX_QUOTA i, 28, 16⟩
/-- PTX_QUOTA.SQ (R295). -/
def PTX_QUOTA_SQ (i : Nat) : Fld := ⟨Reg.PTX_QUOTA i, 13, 0⟩
/-- PTX_USE.FU (R295). -/
def PTX_USE_FU (i : Nat) : Fld := ⟨Reg.PTX_USE i, 28, 16⟩
/-- PTX_USE.SU (R295). -/
def PTX_USE_SU (i : Nat) : Fld := ⟨Reg.PTX_USE i, 13, 0⟩
/-- PTX_STN.VALID (R296). -/
def PTX_STN_VALID (i : Nat) : Fld := ⟨Reg.PTX_STN i, 31, 31⟩
/-- PTX_STN.STALE (R296). -/
def PTX_STN_STALE (i : Nat) : Fld := ⟨Reg.PTX_STN i, 30, 30⟩
/-- PTX_STN.RET (R296). -/
def PTX_STN_RET (i : Nat) : Fld := ⟨Reg.PTX_STN i, 29, 29⟩
/-- PTX_STN.RESUME (R296). -/
def PTX_STN_RESUME (i : Nat) : Fld := ⟨Reg.PTX_STN i, 28, 28⟩
/-- PTX_STN.MCNT (R296). -/
def PTX_STN_MCNT (i : Nat) : Fld := ⟨Reg.PTX_STN i, 27, 24⟩
/-- PTX_STN.MISS (R296). -/
def PTX_STN_MISS (i : Nat) : Fld := ⟨Reg.PTX_STN i, 23, 20⟩
/-- PTX_STN.AGE (R296). -/
def PTX_STN_AGE (i : Nat) : Fld := ⟨Reg.PTX_STN i, 15, 0⟩
/-- PTX_STNMISS.CNT (R296). -/
def PTX_STNMISS_CNT (i : Nat) : Fld := ⟨Reg.PTX_STNMISS i, 31, 0⟩
/-- LGE_STAT.HALTED (R332). -/
def LGE_STAT_HALTED : Fld := ⟨Reg.LGE_STAT, 2, 2⟩
/-- LGE_STAT.OVR (R332). -/
def LGE_STAT_OVR : Fld := ⟨Reg.LGE_STAT, 1, 1⟩
/-- LGE_STAT.STATECHG (R332). -/
def LGE_STAT_STATECHG : Fld := ⟨Reg.LGE_STAT, 0, 0⟩
/-- LGE_IEN.EN (R332). -/
def LGE_IEN_EN : Fld := ⟨Reg.LGE_IEN, 2, 0⟩
/-- LGE_FC.FC (R332). -/
def LGE_FC_FC : Fld := ⟨Reg.LGE_FC, 31, 0⟩
/-- LGE_BUDSUM.SUM (R332). -/
def LGE_BUDSUM_SUM : Fld := ⟨Reg.LGE_BUDSUM, 17, 0⟩
/-- LGE_CERR.CNT (R332). -/
def LGE_CERR_CNT : Fld := ⟨Reg.LGE_CERR, 31, 0⟩
/-- LGE_SETCRC.CRC (R332). -/
def LGE_SETCRC_CRC : Fld := ⟨Reg.LGE_SETCRC, 31, 0⟩
/-- LGE_TCFG.EN (R333). -/
def LGE_TCFG_EN (i : Nat) : Fld := ⟨Reg.LGE_TCFG i, 31, 31⟩
/-- LGE_TCFG.TAG (R333). -/
def LGE_TCFG_TAG (i : Nat) : Fld := ⟨Reg.LGE_TCFG i, 30, 24⟩
/-- LGE_TCFG.SIZE (R333). -/
def LGE_TCFG_SIZE (i : Nat) : Fld := ⟨Reg.LGE_TCFG i, 22, 12⟩
/-- LGE_TCFG.BASE (R333). -/
def LGE_TCFG_BASE (i : Nat) : Fld := ⟨Reg.LGE_TCFG i, 9, 0⟩
/-- LGE_TSCH.PHASE (R333). -/
def LGE_TSCH_PHASE (i : Nat) : Fld := ⟨Reg.LGE_TSCH i, 25, 16⟩
/-- LGE_TSCH.PERIOD (R333). -/
def LGE_TSCH_PERIOD (i : Nat) : Fld := ⟨Reg.LGE_TSCH i, 9, 0⟩
/-- LGE_TBUD.BUDGET (R333). -/
def LGE_TBUD_BUDGET (i : Nat) : Fld := ⟨Reg.LGE_TBUD i, 17, 0⟩
/-- LGE_TSTAT.STATE (R333). -/
def LGE_TSTAT_STATE (i : Nat) : Fld := ⟨Reg.LGE_TSTAT i, 31, 30⟩
/-- LGE_TSTAT.VERIFIED (R333). -/
def LGE_TSTAT_VERIFIED (i : Nat) : Fld := ⟨Reg.LGE_TSTAT i, 29, 29⟩
/-- LGE_TSTAT.OVR (R333). -/
def LGE_TSTAT_OVR (i : Nat) : Fld := ⟨Reg.LGE_TSTAT i, 28, 28⟩
/-- LGE_TSTAT.FILL (R333). -/
def LGE_TSTAT_FILL (i : Nat) : Fld := ⟨Reg.LGE_TSTAT i, 27, 27⟩
/-- LGE_TSTAT.HCAUSE (R333). -/
def LGE_TSTAT_HCAUSE (i : Nat) : Fld := ⟨Reg.LGE_TSTAT i, 23, 16⟩
/-- LGE_TSTAT.DEPTH (R333). -/
def LGE_TSTAT_DEPTH (i : Nat) : Fld := ⟨Reg.LGE_TSTAT i, 4, 0⟩
/-- LGE_TOVR.CNT (R333). -/
def LGE_TOVR_CNT (i : Nat) : Fld := ⟨Reg.LGE_TOVR i, 31, 0⟩
/-- LGE_TCYC.CNT (R333). -/
def LGE_TCYC_CNT (i : Nat) : Fld := ⟨Reg.LGE_TCYC i, 17, 0⟩
/-- LGE_TCMAX.CNT (R333). -/
def LGE_TCMAX_CNT (i : Nat) : Fld := ⟨Reg.LGE_TCMAX i, 17, 0⟩
/-- LGE_THPC.OFS (R333). -/
def LGE_THPC_OFS (i : Nat) : Fld := ⟨Reg.LGE_THPC i, 17, 0⟩
/-- CLE_STAT.CAPDONE (R371). -/
def CLE_STAT_CAPDONE : Fld := ⟨Reg.CLE_STAT, 3, 3⟩
/-- CLE_STAT.INJEND (R371). -/
def CLE_STAT_INJEND : Fld := ⟨Reg.CLE_STAT, 2, 2⟩
/-- CLE_STAT.FAULT (R371). -/
def CLE_STAT_FAULT : Fld := ⟨Reg.CLE_STAT, 1, 1⟩
/-- CLE_STAT.STATECHG (R371). -/
def CLE_STAT_STATECHG : Fld := ⟨Reg.CLE_STAT, 0, 0⟩
/-- CLE_IEN.EN (R371). -/
def CLE_IEN_EN : Fld := ⟨Reg.CLE_IEN, 3, 0⟩
/-- CLE_TCL.TC (R371). -/
def CLE_TCL_TC : Fld := ⟨Reg.CLE_TCL, 31, 0⟩
/-- CLE_TCH.TC (R371). -/
def CLE_TCH_TC : Fld := ⟨Reg.CLE_TCH, 31, 0⟩
/-- CLE_CERR.CNT (R371). -/
def CLE_CERR_CNT : Fld := ⟨Reg.CLE_CERR, 31, 0⟩
/-- CLE_SETCRC.CRC (R371). -/
def CLE_SETCRC_CRC : Fld := ⟨Reg.CLE_SETCRC, 31, 0⟩
/-- CLE_CAPSEG.TAG3 (R372). -/
def CLE_CAPSEG_TAG3 (i : Nat) : Fld := ⟨Reg.CLE_CAPSEG i, 30, 24⟩
/-- CLE_CAPSEG.TAG2 (R372). -/
def CLE_CAPSEG_TAG2 (i : Nat) : Fld := ⟨Reg.CLE_CAPSEG i, 22, 16⟩
/-- CLE_CAPSEG.TAG1 (R372). -/
def CLE_CAPSEG_TAG1 (i : Nat) : Fld := ⟨Reg.CLE_CAPSEG i, 14, 8⟩
/-- CLE_CAPSEG.TAG0 (R372). -/
def CLE_CAPSEG_TAG0 (i : Nat) : Fld := ⟨Reg.CLE_CAPSEG i, 6, 0⟩
/-- CLE_SCFG.EN (R373). -/
def CLE_SCFG_EN (i : Nat) : Fld := ⟨Reg.CLE_SCFG i, 31, 31⟩
/-- CLE_SCFG.TAG (R373). -/
def CLE_SCFG_TAG (i : Nat) : Fld := ⟨Reg.CLE_SCFG i, 30, 24⟩
/-- CLE_SSTAT.STATE (R373). -/
def CLE_SSTAT_STATE (i : Nat) : Fld := ⟨Reg.CLE_SSTAT i, 31, 30⟩
/-- CLE_SSTAT.SAT (R373). -/
def CLE_SSTAT_SAT (i : Nat) : Fld := ⟨Reg.CLE_SSTAT i, 29, 28⟩
/-- CLE_SSTAT.INJ (R373). -/
def CLE_SSTAT_INJ (i : Nat) : Fld := ⟨Reg.CLE_SSTAT i, 27, 27⟩
/-- CLE_SSTAT.CAP (R373). -/
def CLE_SSTAT_CAP (i : Nat) : Fld := ⟨Reg.CLE_SSTAT i, 26, 26⟩
/-- CLE_SSTAT.LOWV (R373). -/
def CLE_SSTAT_LOWV (i : Nat) : Fld := ⟨Reg.CLE_SSTAT i, 25, 25⟩
/-- CLE_SSTAT.LOADED (R373). -/
def CLE_SSTAT_LOADED (i : Nat) : Fld := ⟨Reg.CLE_SSTAT i, 24, 24⟩
/-- CLE_SSTAT.FCAUSE (R373). -/
def CLE_SSTAT_FCAUSE (i : Nat) : Fld := ⟨Reg.CLE_SSTAT i, 23, 16⟩
/-- CLE_SSTAT.FECNT (R373). -/
def CLE_SSTAT_FECNT (i : Nat) : Fld := ⟨Reg.CLE_SSTAT i, 15, 0⟩
/-- CLE_SOUT.U (R373). -/
def CLE_SOUT_U (i : Nat) : Fld := ⟨Reg.CLE_SOUT i, 31, 0⟩
/-- LIO_STAT.PIOVR (R374). -/
def LIO_STAT_PIOVR : Fld := ⟨Reg.LIO_STAT, 23, 16⟩
/-- LIO_STAT.AIOVR (R374). -/
def LIO_STAT_AIOVR : Fld := ⟨Reg.LIO_STAT, 15, 0⟩
/-- LIO_IEN.PIEN (R374). -/
def LIO_IEN_PIEN : Fld := ⟨Reg.LIO_IEN, 23, 16⟩
/-- LIO_IEN.AIEN (R374). -/
def LIO_IEN_AIEN : Fld := ⟨Reg.LIO_IEN, 15, 0⟩
/-- LIO_DDIR.DIR (R374). -/
def LIO_DDIR_DIR : Fld := ⟨Reg.LIO_DDIR, 31, 0⟩
/-- LIO_DIN.IN (R374). -/
def LIO_DIN_IN : Fld := ⟨Reg.LIO_DIN, 31, 0⟩
/-- LIO_DOUT.OUT (R374). -/
def LIO_DOUT_OUT : Fld := ⟨Reg.LIO_DOUT, 31, 0⟩
/-- LIO_DFILT.FILT (R374). -/
def LIO_DFILT_FILT : Fld := ⟨Reg.LIO_DFILT, 3, 0⟩
/-- LIO_AIG.GAIN (R375). -/
def LIO_AIG_GAIN (i : Nat) : Fld := ⟨Reg.LIO_AIG i, 31, 0⟩
/-- LIO_AIO.OFS (R375). -/
def LIO_AIO_OFS (i : Nat) : Fld := ⟨Reg.LIO_AIO i, 31, 0⟩
/-- LIO_AIRAW.CODE (R375). -/
def LIO_AIRAW_CODE (i : Nat) : Fld := ⟨Reg.LIO_AIRAW i, 15, 0⟩
/-- LIO_AOG.GAIN (R375). -/
def LIO_AOG_GAIN (i : Nat) : Fld := ⟨Reg.LIO_AOG i, 31, 0⟩
/-- LIO_AOO.OFS (R375). -/
def LIO_AOO_OFS (i : Nat) : Fld := ⟨Reg.LIO_AOO i, 31, 0⟩
/-- LIO_AOCODE.CODE (R375). -/
def LIO_AOCODE_CODE (i : Nat) : Fld := ⟨Reg.LIO_AOCODE i, 15, 0⟩
/-- LIO_PICFG.MODE (R376). -/
def LIO_PICFG_MODE (i : Nat) : Fld := ⟨Reg.LIO_PICFG i, 31, 30⟩
/-- LIO_PICFG.WIN (R376). -/
def LIO_PICFG_WIN (i : Nat) : Fld := ⟨Reg.LIO_PICFG i, 28, 16⟩
/-- LIO_PIFG.GAIN (R376). -/
def LIO_PIFG_GAIN (i : Nat) : Fld := ⟨Reg.LIO_PIFG i, 31, 0⟩
/-- LIO_PICG.GAIN (R376). -/
def LIO_PICG_GAIN (i : Nat) : Fld := ⟨Reg.LIO_PICG i, 31, 0⟩
/-- LIO_PICNT.CNT (R376). -/
def LIO_PICNT_CNT (i : Nat) : Fld := ⟨Reg.LIO_PICNT i, 31, 0⟩
/-- LIO_PIFRQ.FREQ (R376). -/
def LIO_PIFRQ_FREQ (i : Nat) : Fld := ⟨Reg.LIO_PIFRQ i, 31, 0⟩
/-- LIO_PIOVR.CNT (R376). -/
def LIO_PIOVR_CNT (i : Nat) : Fld := ⟨Reg.LIO_PIOVR i, 31, 0⟩
/-- LIO_PWCFG.EN (R376). -/
def LIO_PWCFG_EN (i : Nat) : Fld := ⟨Reg.LIO_PWCFG i, 31, 31⟩
/-- LIO_PWCFG.ALIGN (R376). -/
def LIO_PWCFG_ALIGN (i : Nat) : Fld := ⟨Reg.LIO_PWCFG i, 30, 30⟩
/-- LIO_PWCFG.POL (R376). -/
def LIO_PWCFG_POL (i : Nat) : Fld := ⟨Reg.LIO_PWCFG i, 29, 29⟩
/-- LIO_PWCFG.PER (R376). -/
def LIO_PWCFG_PER (i : Nat) : Fld := ⟨Reg.LIO_PWCFG i, 23, 0⟩
/-- LIO_PWDUTY.DUTY (R376). -/
def LIO_PWDUTY_DUTY (i : Nat) : Fld := ⟨Reg.LIO_PWDUTY i, 23, 0⟩
/-- MTR_CTL.FNOM (R425). -/
def MTR_CTL_FNOM : Fld := ⟨Reg.MTR_CTL, 1, 1⟩
/-- MTR_STAT.NOCFG (R425). -/
def MTR_STAT_NOCFG : Fld := ⟨Reg.MTR_STAT, 6, 6⟩
/-- MTR_STAT.TORN (R425). -/
def MTR_STAT_TORN : Fld := ⟨Reg.MTR_STAT, 5, 5⟩
/-- MTR_STAT.NOBANK (R425). -/
def MTR_STAT_NOBANK : Fld := ⟨Reg.MTR_STAT, 4, 4⟩
/-- MTR_STAT.PULSEOVR (R425). -/
def MTR_STAT_PULSEOVR : Fld := ⟨Reg.MTR_STAT, 3, 3⟩
/-- MTR_STAT.TWREC (R425). -/
def MTR_STAT_TWREC : Fld := ⟨Reg.MTR_STAT, 2, 2⟩
/-- MTR_STAT.CLIP (R425). -/
def MTR_STAT_CLIP : Fld := ⟨Reg.MTR_STAT, 1, 1⟩
/-- MTR_STAT.CHFLT (R425). -/
def MTR_STAT_CHFLT : Fld := ⟨Reg.MTR_STAT, 0, 0⟩
/-- MTR_IEN.EN (R425). -/
def MTR_IEN_EN : Fld := ⟨Reg.MTR_IEN, 6, 0⟩
/-- MTR_CALCRC.CRC (R426). -/
def MTR_CALCRC_CRC : Fld := ⟨Reg.MTR_CALCRC, 31, 0⟩
/-- MTR_CIRCCRC.CRC (R426). -/
def MTR_CIRCCRC_CRC : Fld := ⟨Reg.MTR_CIRCCRC, 31, 0⟩
/-- MTR_BANKSEQ.SEQ (R426). -/
def MTR_BANKSEQ_SEQ : Fld := ⟨Reg.MTR_BANKSEQ, 31, 0⟩
/-- MTR_ACCCLR.GO (R426). -/
def MTR_ACCCLR_GO : Fld := ⟨Reg.MTR_ACCCLR, 31, 31⟩
/-- MTR_ACCCLR.CIRC (R426). -/
def MTR_ACCCLR_CIRC : Fld := ⟨Reg.MTR_ACCCLR, 6, 0⟩
/-- MTR_IVCTL.EN (R426). -/
def MTR_IVCTL_EN : Fld := ⟨Reg.MTR_IVCTL, 31, 31⟩
/-- MTR_IVCTL.LEN (R426). -/
def MTR_IVCTL_LEN : Fld := ⟨Reg.MTR_IVCTL, 11, 0⟩
/-- MTR_IVSEQ.SEQ (R426). -/
def MTR_IVSEQ_SEQ : Fld := ⟨Reg.MTR_IVSEQ, 31, 0⟩
/-- MTR_CHFLT.FLT (R427). -/
def MTR_CHFLT_FLT (i : Nat) : Fld := ⟨Reg.MTR_CHFLT i, 31, 0⟩
/-- MTR_ZCCNT.CNT (R427). -/
def MTR_ZCCNT_CNT (i : Nat) : Fld := ⟨Reg.MTR_ZCCNT i, 31, 0⟩
/-- MTR_FREQ.FREQ (R427). -/
def MTR_FREQ_FREQ (i : Nat) : Fld := ⟨Reg.MTR_FREQ i, 31, 0⟩
/-- MTR_PCFG.EN (R428). -/
def MTR_PCFG_EN (i : Nat) : Fld := ⟨Reg.MTR_PCFG i, 31, 31⟩
/-- MTR_PCFG.POL (R428). -/
def MTR_PCFG_POL (i : Nat) : Fld := ⟨Reg.MTR_PCFG i, 30, 30⟩
/-- MTR_PCFG.QTY (R428). -/
def MTR_PCFG_QTY (i : Nat) : Fld := ⟨Reg.MTR_PCFG i, 29, 26⟩
/-- MTR_PCFG.CIRC (R428). -/
def MTR_PCFG_CIRC (i : Nat) : Fld := ⟨Reg.MTR_PCFG i, 22, 16⟩
/-- MTR_PCFG.WIDTH (R428). -/
def MTR_PCFG_WIDTH (i : Nat) : Fld := ⟨Reg.MTR_PCFG i, 15, 8⟩
/-- MTR_PMC.MC (R428). -/
def MTR_PMC_MC (i : Nat) : Fld := ⟨Reg.MTR_PMC i, 16, 0⟩
/-- MTR_PCNT.CNT (R428). -/
def MTR_PCNT_CNT (i : Nat) : Fld := ⟨Reg.MTR_PCNT i, 31, 0⟩
/-- MTR_TWCTL.EN (R429). -/
def MTR_TWCTL_EN : Fld := ⟨Reg.MTR_TWCTL, 31, 31⟩
/-- MTR_TWCTL.VABS (R429). -/
def MTR_TWCTL_VABS : Fld := ⟨Reg.MTR_TWCTL, 15, 0⟩
/-- MTR_TWSTAT.LOWB (R429). -/
def MTR_TWSTAT_LOWB : Fld := ⟨Reg.MTR_TWSTAT, 31, 31⟩
/-- MTR_TWSTAT.OVF (R429). -/
def MTR_TWSTAT_OVF : Fld := ⟨Reg.MTR_TWSTAT, 15, 8⟩
/-- MTR_TWSTAT.NREC (R429). -/
def MTR_TWSTAT_NREC : Fld := ⟨Reg.MTR_TWSTAT, 5, 0⟩
/-- MTR_TWCLR.CLR (R429). -/
def MTR_TWCLR_CLR : Fld := ⟨Reg.MTR_TWCLR, 15, 0⟩
/-- MTR_TW.EN (R429). -/
def MTR_TW_EN (i : Nat) : Fld := ⟨Reg.MTR_TW i, 31, 31⟩
/-- MTR_TW.CIRC (R429). -/
def MTR_TW_CIRC (i : Nat) : Fld := ⟨Reg.MTR_TW i, 22, 16⟩
/-- MTR_TW.ITH (R429). -/
def MTR_TW_ITH (i : Nat) : Fld := ⟨Reg.MTR_TW i, 15, 0⟩
/-- MTR_TWAS.AS (R429). -/
def MTR_TWAS_AS (i : Nat) : Fld := ⟨Reg.MTR_TWAS i, 31, 0⟩
/-- SAF_STAT.LINK (R473). -/
def SAF_STAT_LINK : Fld := ⟨Reg.SAF_STAT, 31, 31⟩
/-- SAF_STAT.OEACT (R473). -/
def SAF_STAT_OEACT : Fld := ⟨Reg.SAF_STAT, 30, 30⟩
/-- SAF_STAT.LOCK (R473). -/
def SAF_STAT_LOCK : Fld := ⟨Reg.SAF_STAT, 29, 29⟩
/-- SAF_STAT.DEGR (R473). -/
def SAF_STAT_DEGR : Fld := ⟨Reg.SAF_STAT, 28, 28⟩
/-- SAF_STAT.PROG (R473). -/
def SAF_STAT_PROG : Fld := ⟨Reg.SAF_STAT, 27, 27⟩
/-- SAF_STAT.PARAMOK (R473). -/
def SAF_STAT_PARAMOK : Fld := ⟨Reg.SAF_STAT, 26, 26⟩
/-- SAF_STAT.SELFTEST (R473). -/
def SAF_STAT_SELFTEST : Fld := ⟨Reg.SAF_STAT, 25, 25⟩
/-- SAF_STAT.REQDROP (R473). -/
def SAF_STAT_REQDROP : Fld := ⟨Reg.SAF_STAT, 24, 24⟩
/-- SAF_STAT.ON (R473). -/
def SAF_STAT_ON : Fld := ⟨Reg.SAF_STAT, 15, 8⟩
/-- SAF_STAT.PERM (R473). -/
def SAF_STAT_PERM : Fld := ⟨Reg.SAF_STAT, 7, 0⟩
/-- SAF_LOCK.CAUSES (R473). -/
def SAF_LOCK_CAUSES : Fld := ⟨Reg.SAF_LOCK, 28, 8⟩
/-- SAF_LOCK.FIRST (R473). -/
def SAF_LOCK_FIRST : Fld := ⟨Reg.SAF_LOCK, 7, 0⟩
/-- SAF_SW.SADDR (R473). -/
def SAF_SW_SADDR : Fld := ⟨Reg.SAF_SW, 31, 16⟩
/-- SAF_SW.SOPT (R473). -/
def SAF_SW_SOPT : Fld := ⟨Reg.SAF_SW, 15, 8⟩
/-- SAF_SWNOW.SADDR (R473). -/
def SAF_SWNOW_SADDR : Fld := ⟨Reg.SAF_SWNOW, 31, 16⟩
/-- SAF_SWNOW.SOPT (R473). -/
def SAF_SWNOW_SOPT : Fld := ⟨Reg.SAF_SWNOW, 15, 8⟩
/-- SAF_PCRC.CRC (R473). -/
def SAF_PCRC_CRC : Fld := ⟨Reg.SAF_PCRC, 31, 0⟩
/-- SAF_DEGR.REM (R473). -/
def SAF_DEGR_REM : Fld := ⟨Reg.SAF_DEGR, 31, 16⟩
/-- SAF_DEGR.STREAM (R473). -/
def SAF_DEGR_STREAM : Fld := ⟨Reg.SAF_DEGR, 15, 12⟩
/-- SAF_DEGR.LAN (R473). -/
def SAF_DEGR_LAN : Fld := ⟨Reg.SAF_DEGR, 11, 11⟩
/-- SAF_DEGR.CLASS (R473). -/
def SAF_DEGR_CLASS : Fld := ⟨Reg.SAF_DEGR, 1, 0⟩
/-- SAF_SIN.DISC (R473). -/
def SAF_SIN_DISC : Fld := ⟨Reg.SAF_SIN, 31, 16⟩
/-- SAF_SIN.STATE (R473). -/
def SAF_SIN_STATE : Fld := ⟨Reg.SAF_SIN, 15, 0⟩
/-- SAF_DISCARD.CNT (R473). -/
def SAF_DISCARD_CNT : Fld := ⟨Reg.SAF_DISCARD, 31, 0⟩
/-- SAF_BRK.STATE (R474). -/
def SAF_BRK_STATE (i : Nat) : Fld := ⟨Reg.SAF_BRK i, 31, 30⟩
/-- SAF_BRK.REQ (R474). -/
def SAF_BRK_REQ (i : Nat) : Fld := ⟨Reg.SAF_BRK i, 29, 29⟩
/-- SAF_BRK.HSRB (R474). -/
def SAF_BRK_HSRB (i : Nat) : Fld := ⟨Reg.SAF_BRK i, 28, 28⟩
/-- SAF_BRK.LSRB (R474). -/
def SAF_BRK_LSRB (i : Nat) : Fld := ⟨Reg.SAF_BRK i, 27, 27⟩
/-- SAF_BRK.OPENW (R474). -/
def SAF_BRK_OPENW (i : Nat) : Fld := ⟨Reg.SAF_BRK i, 26, 26⟩
/-- SAF_BRK.CURR (R474). -/
def SAF_BRK_CURR (i : Nat) : Fld := ⟨Reg.SAF_BRK i, 11, 0⟩
/-- SAF_BTST.LAST (R474). -/
def SAF_BTST_LAST (i : Nat) : Fld := ⟨Reg.SAF_BTST i, 31, 30⟩
/-- SAF_BTST.DUE (R474). -/
def SAF_BTST_DUE (i : Nat) : Fld := ⟨Reg.SAF_BTST i, 29, 29⟩
/-- SAF_BTST.RUN (R474). -/
def SAF_BTST_RUN (i : Nat) : Fld := ⟨Reg.SAF_BTST i, 28, 28⟩
/-- SAF_BTST.EDGES (R474). -/
def SAF_BTST_EDGES (i : Nat) : Fld := ⟨Reg.SAF_BTST i, 27, 16⟩
/-- SAF_BTST.HOURS (R474). -/
def SAF_BTST_HOURS (i : Nat) : Fld := ⟨Reg.SAF_BTST i, 15, 0⟩
/-- SAF_RXS.EN (R474). -/
def SAF_RXS_EN (i : Nat) : Fld := ⟨Reg.SAF_RXS i, 31, 31⟩
/-- SAF_RXS.AOK (R474). -/
def SAF_RXS_AOK (i : Nat) : Fld := ⟨Reg.SAF_RXS i, 30, 30⟩
/-- SAF_RXS.BOK (R474). -/
def SAF_RXS_BOK (i : Nat) : Fld := ⟨Reg.SAF_RXS i, 29, 29⟩
/-- SAF_RXS.DEGR (R474). -/
def SAF_RXS_DEGR (i : Nat) : Fld := ⟨Reg.SAF_RXS i, 28, 28⟩
/-- SAF_RXS.MISS (R474). -/
def SAF_RXS_MISS (i : Nat) : Fld := ⟨Reg.SAF_RXS i, 27, 24⟩
/-- SAF_RXS.SRC (R474). -/
def SAF_RXS_SRC (i : Nat) : Fld := ⟨Reg.SAF_RXS i, 15, 0⟩
/-- SAF_RXSEQ.SEQ (R474). -/
def SAF_RXSEQ_SEQ (i : Nat) : Fld := ⟨Reg.SAF_RXSEQ i, 31, 0⟩
/-- SAF_TXS.EN (R474). -/
def SAF_TXS_EN (i : Nat) : Fld := ⟨Reg.SAF_TXS i, 31, 31⟩
/-- SAF_TXS.SEND (R474). -/
def SAF_TXS_SEND (i : Nat) : Fld := ⟨Reg.SAF_TXS i, 30, 30⟩
/-- SAF_TXS.PERIOD (R474). -/
def SAF_TXS_PERIOD (i : Nat) : Fld := ⟨Reg.SAF_TXS i, 23, 16⟩
/-- SAF_TXS.DST (R474). -/
def SAF_TXS_DST (i : Nat) : Fld := ⟨Reg.SAF_TXS i, 15, 0⟩
/-- SAF_TXSEQ.SEQ (R474). -/
def SAF_TXSEQ_SEQ (i : Nat) : Fld := ⟨Reg.SAF_TXSEQ i, 31, 0⟩
/-- RSR_CTL.SETYPE (R502). -/
def RSR_CTL_SETYPE : Fld := ⟨Reg.RSR_CTL, 31, 16⟩
/-- RSR_CTL.VID (R502). -/
def RSR_CTL_VID : Fld := ⟨Reg.RSR_CTL, 15, 4⟩
/-- RSR_CTL.HPSEL (R502). -/
def RSR_CTL_HPSEL : Fld := ⟨Reg.RSR_CTL, 3, 3⟩
/-- RSR_CTL.BCAST (R502). -/
def RSR_CTL_BCAST : Fld := ⟨Reg.RSR_CTL, 2, 2⟩
/-- RSR_CTL.PROM (R502). -/
def RSR_CTL_PROM : Fld := ⟨Reg.RSR_CTL, 1, 1⟩
/-- RSR_STAT.NOCFG (R502). -/
def RSR_STAT_NOCFG : Fld := ⟨Reg.RSR_STAT, 6, 6⟩
/-- RSR_STAT.MSEC (R502). -/
def RSR_STAT_MSEC : Fld := ⟨Reg.RSR_STAT, 5, 5⟩
/-- RSR_STAT.PAUSE (R502). -/
def RSR_STAT_PAUSE : Fld := ⟨Reg.RSR_STAT, 4, 4⟩
/-- RSR_STAT.UNDR (R502). -/
def RSR_STAT_UNDR : Fld := ⟨Reg.RSR_STAT, 3, 3⟩
/-- RSR_STAT.SUBLATE (R502). -/
def RSR_STAT_SUBLATE : Fld := ⟨Reg.RSR_STAT, 2, 2⟩
/-- RSR_STAT.RINGCHG (R502). -/
def RSR_STAT_RINGCHG : Fld := ⟨Reg.RSR_STAT, 1, 1⟩
/-- RSR_STAT.LINKCHG (R502). -/
def RSR_STAT_LINKCHG : Fld := ⟨Reg.RSR_STAT, 0, 0⟩
/-- RSR_IEN.EN (R502). -/
def RSR_IEN_EN : Fld := ⟨Reg.RSR_IEN, 6, 0⟩
/-- RSR_MACL.ADDR (R502). -/
def RSR_MACL_ADDR : Fld := ⟨Reg.RSR_MACL, 31, 0⟩
/-- RSR_MACH.ADDR (R502). -/
def RSR_MACH_ADDR : Fld := ⟨Reg.RSR_MACH, 15, 0⟩
/-- RSR_SUBCTL.START (R502). -/
def RSR_SUBCTL_START : Fld := ⟨Reg.RSR_SUBCTL, 9, 0⟩
/-- RSR_PRP.LCI (R502). -/
def RSR_PRP_LCI : Fld := ⟨Reg.RSR_PRP, 23, 16⟩
/-- RSR_PRP.FORGET (R502). -/
def RSR_PRP_FORGET : Fld := ⟨Reg.RSR_PRP, 15, 0⟩
/-- RSR_TSCTL.GMCAP (R502). -/
def RSR_TSCTL_GMCAP : Fld := ⟨Reg.RSR_TSCTL, 31, 31⟩
/-- RSR_TSCTL.PREF (R502). -/
def RSR_TSCTL_PREF : Fld := ⟨Reg.RSR_TSCTL, 30, 30⟩
/-- RSR_TSCTL.LSYNC (R502). -/
def RSR_TSCTL_LSYNC : Fld := ⟨Reg.RSR_TSCTL, 15, 8⟩
/-- RSR_TSCTL.PRIO1 (R502). -/
def RSR_TSCTL_PRIO1 : Fld := ⟨Reg.RSR_TSCTL, 7, 0⟩
/-- RSR_MRP.ROLE (R503). -/
def RSR_MRP_ROLE (i : Nat) : Fld := ⟨Reg.RSR_MRP i, 31, 30⟩
/-- RSR_MRP.PROF (R503). -/
def RSR_MRP_PROF (i : Nat) : Fld := ⟨Reg.RSR_MRP i, 29, 28⟩
/-- RSR_MRP.PRIO (R503). -/
def RSR_MRP_PRIO (i : Nat) : Fld := ⟨Reg.RSR_MRP i, 15, 0⟩
/-- RSR_MRPSTAT.OPEN (R503). -/
def RSR_MRPSTAT_OPEN (i : Nat) : Fld := ⟨Reg.RSR_MRPSTAT i, 31, 31⟩
/-- RSR_MRPSTAT.BLKUP (R503). -/
def RSR_MRPSTAT_BLKUP (i : Nat) : Fld := ⟨Reg.RSR_MRPSTAT i, 30, 30⟩
/-- RSR_MRPSTAT.BLKDN (R503). -/
def RSR_MRPSTAT_BLKDN (i : Nat) : Fld := ⟨Reg.RSR_MRPSTAT i, 29, 29⟩
/-- RSR_MRPSTAT.TCHG (R503). -/
def RSR_MRPSTAT_TCHG (i : Nat) : Fld := ⟨Reg.RSR_MRPSTAT i, 15, 0⟩
/-- RSR_PCTL.EN (R503). -/
def RSR_PCTL_EN (i : Nat) : Fld := ⟨Reg.RSR_PCTL i, 31, 31⟩
/-- RSR_PCTL.SPEED (R503). -/
def RSR_PCTL_SPEED (i : Nat) : Fld := ⟨Reg.RSR_PCTL i, 30, 30⟩
/-- RSR_PCTL.FEC (R503). -/
def RSR_PCTL_FEC (i : Nat) : Fld := ⟨Reg.RSR_PCTL i, 29, 29⟩
/-- RSR_PCTL.PRE (R503). -/
def RSR_PCTL_PRE (i : Nat) : Fld := ⟨Reg.RSR_PCTL i, 28, 28⟩
/-- RSR_PCTL.MSEC (R503). -/
def RSR_PCTL_MSEC (i : Nat) : Fld := ⟨Reg.RSR_PCTL i, 27, 27⟩
/-- RSR_PCTL.XPN (R503). -/
def RSR_PCTL_XPN (i : Nat) : Fld := ⟨Reg.RSR_PCTL i, 26, 26⟩
/-- RSR_PSTAT.LINK (R503). -/
def RSR_PSTAT_LINK (i : Nat) : Fld := ⟨Reg.RSR_PSTAT i, 31, 31⟩
/-- RSR_PSTAT.PRESENT (R503). -/
def RSR_PSTAT_PRESENT (i : Nat) : Fld := ⟨Reg.RSR_PSTAT i, 30, 30⟩
/-- RSR_PSTAT.LOS (R503). -/
def RSR_PSTAT_LOS (i : Nat) : Fld := ⟨Reg.RSR_PSTAT i, 29, 29⟩
/-- RSR_PSTAT.TXFLT (R503). -/
def RSR_PSTAT_TXFLT (i : Nat) : Fld := ⟨Reg.RSR_PSTAT i, 28, 28⟩
/-- RSR_PSTAT.PRE (R503). -/
def RSR_PSTAT_PRE (i : Nat) : Fld := ⟨Reg.RSR_PSTAT i, 27, 27⟩
/-- RSR_PSTAT.PAUSED (R503). -/
def RSR_PSTAT_PAUSED (i : Nat) : Fld := ⟨Reg.RSR_PSTAT i, 26, 26⟩
/-- RSR_PSTAT.PQ (R503). -/
def RSR_PSTAT_PQ (i : Nat) : Fld := ⟨Reg.RSR_PSTAT i, 15, 0⟩
/-- RSR_PTXTH.TH (R503). -/
def RSR_PTXTH_TH (i : Nat) : Fld := ⟨Reg.RSR_PTXTH i, 5, 0⟩
/-- RSR_MSEC.TXSA (R503). -/
def RSR_MSEC_TXSA (i : Nat) : Fld := ⟨Reg.RSR_MSEC i, 31, 31⟩
/-- RSR_MSEC.SLOTB (R503). -/
def RSR_MSEC_SLOTB (i : Nat) : Fld := ⟨Reg.RSR_MSEC i, 29, 24⟩
/-- RSR_MSEC.SLOTA (R503). -/
def RSR_MSEC_SLOTA (i : Nat) : Fld := ⟨Reg.RSR_MSEC i, 21, 16⟩
/-- RSR_MSEC.REPLAY (R503). -/
def RSR_MSEC_REPLAY (i : Nat) : Fld := ⟨Reg.RSR_MSEC i, 15, 0⟩
/-- RSR_AFL.ADDR (R503). -/
def RSR_AFL_ADDR (i : Nat) : Fld := ⟨Reg.RSR_AFL i, 31, 0⟩
/-- RSR_AFH.VALID (R503). -/
def RSR_AFH_VALID (i : Nat) : Fld := ⟨Reg.RSR_AFH i, 31, 31⟩
/-- RSR_AFH.ADDR (R503). -/
def RSR_AFH_ADDR (i : Nat) : Fld := ⟨Reg.RSR_AFH i, 15, 0⟩
/-- RSR_CNTL.CNT (R504). -/
def RSR_CNTL_CNT (i : Nat) : Fld := ⟨Reg.RSR_CNTL i, 31, 0⟩
/-- RSR_CNTH.CNT (R504). -/
def RSR_CNTH_CNT (i : Nat) : Fld := ⟨Reg.RSR_CNTH i, 31, 0⟩
/-- TWN_CTL.YIELD (R531). -/
def TWN_CTL_YIELD : Fld := ⟨Reg.TWN_CTL, 2, 2⟩
/-- TWN_CTL.COLD (R531). -/
def TWN_CTL_COLD : Fld := ⟨Reg.TWN_CTL, 1, 1⟩
/-- TWN_CTL.ACTEN (R531). -/
def TWN_CTL_ACTEN : Fld := ⟨Reg.TWN_CTL, 0, 0⟩
/-- TWN_CFG.MODE (R531). -/
def TWN_CFG_MODE : Fld := ⟨Reg.TWN_CFG, 31, 31⟩
/-- TWN_CFG.CMPLIM (R531). -/
def TWN_CFG_CMPLIM : Fld := ⟨Reg.TWN_CFG, 23, 16⟩
/-- TWN_CFG.LTOL (R531). -/
def TWN_CFG_LTOL : Fld := ⟨Reg.TWN_CFG, 15, 0⟩
/-- TWN_STAT.ROLE (R531). -/
def TWN_STAT_ROLE : Fld := ⟨Reg.TWN_STAT, 31, 30⟩
/-- TWN_STAT.TWINID (R531). -/
def TWN_STAT_TWINID : Fld := ⟨Reg.TWN_STAT, 29, 29⟩
/-- TWN_STAT.ACT (R531). -/
def TWN_STAT_ACT : Fld := ⟨Reg.TWN_STAT, 28, 28⟩
/-- TWN_STAT.PEERACT (R531). -/
def TWN_STAT_PEERACT : Fld := ⟨Reg.TWN_STAT, 27, 27⟩
/-- TWN_STAT.LINK (R531). -/
def TWN_STAT_LINK : Fld := ⟨Reg.TWN_STAT, 26, 26⟩
/-- TWN_STAT.SYNC (R531). -/
def TWN_STAT_SYNC : Fld := ⟨Reg.TWN_STAT, 25, 25⟩
/-- TWN_STAT.PEERELIG (R531). -/
def TWN_STAT_PEERELIG : Fld := ⟨Reg.TWN_STAT, 24, 24⟩
/-- TWN_STAT.DROPC (R531). -/
def TWN_STAT_DROPC : Fld := ⟨Reg.TWN_STAT, 15, 8⟩
/-- TWN_EPOCH.EPOCH (R532). -/
def TWN_EPOCH_EPOCH : Fld := ⟨Reg.TWN_EPOCH, 15, 0⟩
/-- TWN_HEALTH.HEALTH (R532). -/
def TWN_HEALTH_HEALTH : Fld := ⟨Reg.TWN_HEALTH, 31, 0⟩
/-- TWN_PHEALTH.HEALTH (R532). -/
def TWN_PHEALTH_HEALTH : Fld := ⟨Reg.TWN_PHEALTH, 31, 0⟩
/-- TWN_ELIG.COND (R532). -/
def TWN_ELIG_COND : Fld := ⟨Reg.TWN_ELIG, 9, 0⟩
/-- TWN_CFGSIG.SIG (R532). -/
def TWN_CFGSIG_SIG : Fld := ⟨Reg.TWN_CFGSIG, 31, 0⟩
/-- TWN_PCFGSIG.SIG (R532). -/
def TWN_PCFGSIG_SIG : Fld := ⟨Reg.TWN_PCFGSIG, 31, 0⟩
/-- TWN_IEN.EN (R533). -/
def TWN_IEN_EN : Fld := ⟨Reg.TWN_IEN, 4, 0⟩
/-- TWN_EVT.YREF (R533). -/
def TWN_EVT_YREF : Fld := ⟨Reg.TWN_EVT, 4, 4⟩
/-- TWN_EVT.CONTEND (R533). -/
def TWN_EVT_CONTEND : Fld := ⟨Reg.TWN_EVT, 3, 3⟩
/-- TWN_EVT.MISM (R533). -/
def TWN_EVT_MISM : Fld := ⟨Reg.TWN_EVT, 2, 2⟩
/-- TWN_EVT.HEALTH (R533). -/
def TWN_EVT_HEALTH : Fld := ⟨Reg.TWN_EVT, 1, 1⟩
/-- TWN_EVT.ROLE (R533). -/
def TWN_EVT_ROLE : Fld := ⟨Reg.TWN_EVT, 0, 0⟩
/-- TWN_RECTX.CNT (R533). -/
def TWN_RECTX_CNT : Fld := ⟨Reg.TWN_RECTX, 31, 0⟩
/-- TWN_RECRX.CNT (R533). -/
def TWN_RECRX_CNT : Fld := ⟨Reg.TWN_RECRX, 31, 0⟩
/-- TWN_RECMISS.CNT (R533). -/
def TWN_RECMISS_CNT : Fld := ⟨Reg.TWN_RECMISS, 31, 0⟩
/-- TWN_MISMATCH.CNT (R533). -/
def TWN_MISMATCH_CNT : Fld := ⟨Reg.TWN_MISMATCH, 31, 0⟩
/-- TWN_TRUNC.CNT (R533). -/
def TWN_TRUNC_CNT : Fld := ⟨Reg.TWN_TRUNC, 31, 0⟩
/-- TWN_CONTEND.CNT (R533). -/
def TWN_CONTEND_CNT : Fld := ⟨Reg.TWN_CONTEND, 31, 0⟩
/-- EVR_CTL.KCLR (R555). -/
def EVR_CTL_KCLR : Fld := ⟨Reg.EVR_CTL, 0, 0⟩
/-- EVR_STAT.BADCRC (R555). -/
def EVR_STAT_BADCRC : Fld := ⟨Reg.EVR_STAT, 4, 4⟩
/-- EVR_STAT.TORN (R555). -/
def EVR_STAT_TORN : Fld := ⟨Reg.EVR_STAT, 3, 3⟩
/-- EVR_STAT.LOST (R555). -/
def EVR_STAT_LOST : Fld := ⟨Reg.EVR_STAT, 2, 2⟩
/-- EVR_STAT.SUPP (R555). -/
def EVR_STAT_SUPP : Fld := ⟨Reg.EVR_STAT, 1, 1⟩
/-- EVR_STAT.KFULL (R555). -/
def EVR_STAT_KFULL : Fld := ⟨Reg.EVR_STAT, 0, 0⟩
/-- EVR_IEN.EN (R555). -/
def EVR_IEN_EN : Fld := ⟨Reg.EVR_IEN, 4, 0⟩
/-- EVR_HEADSEQ.SEQ (R556). -/
def EVR_HEADSEQ_SEQ : Fld := ⟨Reg.EVR_HEADSEQ, 31, 0⟩
/-- EVR_KCNT.CNT (R556). -/
def EVR_KCNT_CNT : Fld := ⟨Reg.EVR_KCNT, 10, 0⟩
/-- EVR_KBASE.SEQ (R556). -/
def EVR_KBASE_SEQ : Fld := ⟨Reg.EVR_KBASE, 31, 0⟩
/-- EVR_LOST.CNT (R556). -/
def EVR_LOST_CNT : Fld := ⟨Reg.EVR_LOST, 31, 0⟩
/-- EVR_SUPP.CNT (R556). -/
def EVR_SUPP_CNT : Fld := ⟨Reg.EVR_SUPP, 31, 0⟩
/-- EVR_BADCRC.CNT (R556). -/
def EVR_BADCRC_CNT : Fld := ⟨Reg.EVR_BADCRC, 31, 0⟩
/-- EVR_RSEL.AREA (R557). -/
def EVR_RSEL_AREA (x : Nat) : Fld := ⟨Reg.EVR_RSEL x, 31, 31⟩
/-- EVR_RSEL.SLOT (R557). -/
def EVR_RSEL_SLOT (x : Nat) : Fld := ⟨Reg.EVR_RSEL x, 13, 0⟩
/-- EVR_RWIN.DATA (R557). -/
def EVR_RWIN_DATA (x i : Nat) : Fld := ⟨Reg.EVR_RWIN x i, 31, 0⟩
/-- EVR_DELEN.EN (R557). -/
def EVR_DELEN_EN (x i : Nat) : Fld := ⟨Reg.EVR_DELEN x i, 31, 0⟩
/-- EVR_BKT.NOLIM (R558). -/
def EVR_BKT_NOLIM (i : Nat) : Fld := ⟨Reg.EVR_BKT i, 31, 31⟩
/-- EVR_BKT.DEPTH (R558). -/
def EVR_BKT_DEPTH (i : Nat) : Fld := ⟨Reg.EVR_BKT i, 30, 16⟩
/-- EVR_BKT.RATE (R558). -/
def EVR_BKT_RATE (i : Nat) : Fld := ⟨Reg.EVR_BKT i, 15, 0⟩
/-- DSP_STAT.TFLT (R577). -/
def DSP_STAT_TFLT : Fld := ⟨Reg.DSP_STAT, 3, 3⟩
/-- DSP_STAT.PWRFLT (R577). -/
def DSP_STAT_PWRFLT : Fld := ⟨Reg.DSP_STAT, 2, 2⟩
/-- DSP_STAT.CRACK (R577). -/
def DSP_STAT_CRACK : Fld := ⟨Reg.DSP_STAT, 1, 1⟩
/-- DSP_STAT.STATECHG (R577). -/
def DSP_STAT_STATECHG : Fld := ⟨Reg.DSP_STAT, 0, 0⟩
/-- DSP_IEN.EN (R577). -/
def DSP_IEN_EN : Fld := ⟨Reg.DSP_IEN, 3, 0⟩
/-- DSP_RGCRC.CRC (R577). -/
def DSP_RGCRC_CRC : Fld := ⟨Reg.DSP_RGCRC, 31, 0⟩
/-- DSP_PCTL.EN (R577). -/
def DSP_PCTL_EN (i : Nat) : Fld := ⟨Reg.DSP_PCTL i, 31, 31⟩
/-- DSP_PCFG.VRES (R577). -/
def DSP_PCFG_VRES (i : Nat) : Fld := ⟨Reg.DSP_PCFG i, 31, 21⟩
/-- DSP_PCFG.HW (R577). -/
def DSP_PCFG_HW (i : Nat) : Fld := ⟨Reg.DSP_PCFG i, 20, 13⟩
/-- DSP_PCFG.ULVL (R577). -/
def DSP_PCFG_ULVL (i : Nat) : Fld := ⟨Reg.DSP_PCFG i, 12, 9⟩
/-- DSP_PCFG.DEFBAND (R577). -/
def DSP_PCFG_DEFBAND (i : Nat) : Fld := ⟨Reg.DSP_PCFG i, 8, 5⟩
/-- DSP_PTIM.FPER (R577). -/
def DSP_PTIM_FPER (i : Nat) : Fld := ⟨Reg.DSP_PTIM i, 31, 24⟩
/-- DSP_PTIM.CDIV (R577). -/
def DSP_PTIM_CDIV (i : Nat) : Fld := ⟨Reg.DSP_PTIM i, 23, 20⟩
/-- DSP_PTIM.VCOM (R577). -/
def DSP_PTIM_VCOM (i : Nat) : Fld := ⟨Reg.DSP_PTIM i, 19, 10⟩
/-- DSP_PTIM.PDLY (R577). -/
def DSP_PTIM_PDLY (i : Nat) : Fld := ⟨Reg.DSP_PTIM i, 9, 2⟩
/-- DSP_PSTAT.STATE (R577). -/
def DSP_PSTAT_STATE (i : Nat) : Fld := ⟨Reg.DSP_PSTAT i, 31, 29⟩
/-- DSP_PSTAT.TFLT (R577). -/
def DSP_PSTAT_TFLT (i : Nat) : Fld := ⟨Reg.DSP_PSTAT i, 28, 28⟩
/-- DSP_PSTAT.BAND (R577). -/
def DSP_PSTAT_BAND (i : Nat) : Fld := ⟨Reg.DSP_PSTAT i, 27, 24⟩
/-- DSP_PSTAT.FCODE (R577). -/
def DSP_PSTAT_FCODE (i : Nat) : Fld := ⟨Reg.DSP_PSTAT i, 23, 16⟩
/-- DSP_PSTAT.ROWS (R577). -/
def DSP_PSTAT_ROWS (i : Nat) : Fld := ⟨Reg.DSP_PSTAT i, 10, 0⟩
/-- DSP_TEMP.CODE (R577). -/
def DSP_TEMP_CODE (i : Nat) : Fld := ⟨Reg.DSP_TEMP i, 11, 0⟩
/-- DSP_CRK.RMAX (R577). -/
def DSP_CRK_RMAX (i : Nat) : Fld := ⟨Reg.DSP_CRK i, 31, 16⟩
/-- DSP_CRK.RES (R577). -/
def DSP_CRK_RES (i : Nat) : Fld := ⟨Reg.DSP_CRK i, 15, 0⟩
/-- DSP_WVCRC.CRC (R577). -/
def DSP_WVCRC_CRC (i : Nat) : Fld := ⟨Reg.DSP_WVCRC i, 31, 0⟩
/-- CAN_CTL.EN (R600). -/
def CAN_CTL_EN (i : Nat) : Fld := ⟨Reg.CAN_CTL i, 31, 31⟩
/-- CAN_CTL.TAG (R600). -/
def CAN_CTL_TAG (i : Nat) : Fld := ⟨Reg.CAN_CTL i, 30, 24⟩
/-- CAN_CTL.HPSEL (R600). -/
def CAN_CTL_HPSEL (i : Nat) : Fld := ⟨Reg.CAN_CTL i, 23, 23⟩
/-- CAN_CTL.MODE (R600). -/
def CAN_CTL_MODE (i : Nat) : Fld := ⟨Reg.CAN_CTL i, 22, 21⟩
/-- CAN_CTL.FDEN (R600). -/
def CAN_CTL_FDEN (i : Nat) : Fld := ⟨Reg.CAN_CTL i, 20, 20⟩
/-- CAN_CTL.TRIP (R600). -/
def CAN_CTL_TRIP (i : Nat) : Fld := ⟨Reg.CAN_CTL i, 19, 19⟩
/-- CAN_CTL.AUTOREC (R600). -/
def CAN_CTL_AUTOREC (i : Nat) : Fld := ⟨Reg.CAN_CTL i, 18, 18⟩
/-- CAN_CTL.PXE (R600). -/
def CAN_CTL_PXE (i : Nat) : Fld := ⟨Reg.CAN_CTL i, 17, 17⟩
/-- CAN_CTL.TDCEN (R600). -/
def CAN_CTL_TDCEN (i : Nat) : Fld := ⟨Reg.CAN_CTL i, 16, 16⟩
/-- CAN_NBT.NBRP (R600). -/
def CAN_NBT_NBRP (i : Nat) : Fld := ⟨Reg.CAN_NBT i, 31, 24⟩
/-- CAN_NBT.NTSEG1 (R600). -/
def CAN_NBT_NTSEG1 (i : Nat) : Fld := ⟨Reg.CAN_NBT i, 23, 16⟩
/-- CAN_NBT.NTSEG2 (R600). -/
def CAN_NBT_NTSEG2 (i : Nat) : Fld := ⟨Reg.CAN_NBT i, 14, 8⟩
/-- CAN_NBT.NSJW (R600). -/
def CAN_NBT_NSJW (i : Nat) : Fld := ⟨Reg.CAN_NBT i, 6, 0⟩
/-- CAN_DBT.DBRP (R600). -/
def CAN_DBT_DBRP (i : Nat) : Fld := ⟨Reg.CAN_DBT i, 28, 24⟩
/-- CAN_DBT.DTSEG1 (R600). -/
def CAN_DBT_DTSEG1 (i : Nat) : Fld := ⟨Reg.CAN_DBT i, 20, 16⟩
/-- CAN_DBT.DTSEG2 (R600). -/
def CAN_DBT_DTSEG2 (i : Nat) : Fld := ⟨Reg.CAN_DBT i, 11, 8⟩
/-- CAN_DBT.DSJW (R600). -/
def CAN_DBT_DSJW (i : Nat) : Fld := ⟨Reg.CAN_DBT i, 3, 0⟩
/-- CAN_TDC.TDCO (R600). -/
def CAN_TDC_TDCO (i : Nat) : Fld := ⟨Reg.CAN_TDC i, 30, 24⟩
/-- CAN_STAT.EST (R600). -/
def CAN_STAT_EST (i : Nat) : Fld := ⟨Reg.CAN_STAT i, 31, 30⟩
/-- CAN_STAT.MON (R600). -/
def CAN_STAT_MON (i : Nat) : Fld := ⟨Reg.CAN_STAT i, 29, 29⟩
/-- CAN_STAT.TDCFLT (R600). -/
def CAN_STAT_TDCFLT (i : Nat) : Fld := ⟨Reg.CAN_STAT i, 28, 28⟩
/-- CAN_STAT.TDCV (R600). -/
def CAN_STAT_TDCV (i : Nat) : Fld := ⟨Reg.CAN_STAT i, 6, 0⟩
/-- CAN_ERRC.TEC (R600). -/
def CAN_ERRC_TEC (i : Nat) : Fld := ⟨Reg.CAN_ERRC i, 23, 16⟩
/-- CAN_ERRC.RP (R600). -/
def CAN_ERRC_RP (i : Nat) : Fld := ⟨Reg.CAN_ERRC i, 15, 15⟩
/-- CAN_ERRC.REC (R600). -/
def CAN_ERRC_REC (i : Nat) : Fld := ⟨Reg.CAN_ERRC i, 14, 8⟩
/-- CAN_ERRC.LEC (R600). -/
def CAN_ERRC_LEC (i : Nat) : Fld := ⟨Reg.CAN_ERRC i, 2, 0⟩
/-- CAN_CMD.RECOVER (R600). -/
def CAN_CMD_RECOVER (i : Nat) : Fld := ⟨Reg.CAN_CMD i, 0, 0⟩
/-- CAN_RXOK.CNT (R600). -/
def CAN_RXOK_CNT (i : Nat) : Fld := ⟨Reg.CAN_RXOK i, 31, 0⟩
/-- CAN_TXOK.CNT (R600). -/
def CAN_TXOK_CNT (i : Nat) : Fld := ⟨Reg.CAN_TXOK i, 31, 0⟩
/-- CAN_ERRCNT.CNT (R600). -/
def CAN_ERRCNT_CNT (i : Nat) : Fld := ⟨Reg.CAN_ERRCNT i, 31, 0⟩
/-- CAN_OVW.CNT (R600). -/
def CAN_OVW_CNT (i : Nat) : Fld := ⟨Reg.CAN_OVW i, 31, 0⟩
/-- CAN_MBCFG.MODE (R600). -/
def CAN_MBCFG_MODE (x i : Nat) : Fld := ⟨Reg.CAN_MBCFG x i, 31, 30⟩
/-- CAN_MBCFG.IDE (R600). -/
def CAN_MBCFG_IDE (x i : Nat) : Fld := ⟨Reg.CAN_MBCFG x i, 29, 29⟩
/-- CAN_MBCFG.ID (R600). -/
def CAN_MBCFG_ID (x i : Nat) : Fld := ⟨Reg.CAN_MBCFG x i, 28, 0⟩
/-- CAN_MBMSK.MIDE (R600). -/
def CAN_MBMSK_MIDE (x i : Nat) : Fld := ⟨Reg.CAN_MBMSK x i, 31, 31⟩
/-- CAN_MBMSK.RTRA (R600). -/
def CAN_MBMSK_RTRA (x i : Nat) : Fld := ⟨Reg.CAN_MBMSK x i, 30, 30⟩
/-- CAN_MBMSK.MASK (R600). -/
def CAN_MBMSK_MASK (x i : Nat) : Fld := ⟨Reg.CAN_MBMSK x i, 28, 0⟩
/-- CAN_MBST.FULL (R600). -/
def CAN_MBST_FULL (x i : Nat) : Fld := ⟨Reg.CAN_MBST x i, 27, 27⟩
/-- CAN_MBST.LOCK (R600). -/
def CAN_MBST_LOCK (x i : Nat) : Fld := ⟨Reg.CAN_MBST x i, 26, 26⟩
/-- CAN_MBST.SWAP (R600). -/
def CAN_MBST_SWAP (x i : Nat) : Fld := ⟨Reg.CAN_MBST x i, 25, 25⟩
/-- CAN_MBST.NEW (R600). -/
def CAN_MBST_NEW (x i : Nat) : Fld := ⟨Reg.CAN_MBST x i, 24, 24⟩
/-- CAN_MBST.OVW (R600). -/
def CAN_MBST_OVW (x i : Nat) : Fld := ⟨Reg.CAN_MBST x i, 23, 23⟩
/-- CAN_MBSEL.CTRL (R600). -/
def CAN_MBSEL_CTRL (x : Nat) : Fld := ⟨Reg.CAN_MBSEL x, 7, 6⟩
/-- CAN_MBSEL.BUF (R600). -/
def CAN_MBSEL_BUF (x : Nat) : Fld := ⟨Reg.CAN_MBSEL x, 5, 0⟩
/-- CAN_MBWIN.DATA (R600). -/
def CAN_MBWIN_DATA (x i : Nat) : Fld := ⟨Reg.CAN_MBWIN x i, 31, 0⟩
/-- CAN_GSTAT.OVW (R600). -/
def CAN_GSTAT_OVW : Fld := ⟨Reg.CAN_GSTAT, 7, 4⟩
/-- CAN_GSTAT.ESTCHG (R600). -/
def CAN_GSTAT_ESTCHG : Fld := ⟨Reg.CAN_GSTAT, 3, 0⟩
/-- CAN_GIEN.EN (R600). -/
def CAN_GIEN_EN : Fld := ⟨Reg.CAN_GIEN, 7, 0⟩
/-- SER_CTL.EN (R601). -/
def SER_CTL_EN (i : Nat) : Fld := ⟨Reg.SER_CTL i, 31, 31⟩
/-- SER_CTL.TAG (R601). -/
def SER_CTL_TAG (i : Nat) : Fld := ⟨Reg.SER_CTL i, 30, 24⟩
/-- SER_CTL.HPSEL (R601). -/
def SER_CTL_HPSEL (i : Nat) : Fld := ⟨Reg.SER_CTL i, 23, 23⟩
/-- SER_CTL.ECHO (R601). -/
def SER_CTL_ECHO (i : Nat) : Fld := ⟨Reg.SER_CTL i, 22, 22⟩
/-- SER_FMT.DIVI (R601). -/
def SER_FMT_DIVI (i : Nat) : Fld := ⟨Reg.SER_FMT i, 31, 16⟩
/-- SER_FMT.DIVF (R601). -/
def SER_FMT_DIVF (i : Nat) : Fld := ⟨Reg.SER_FMT i, 15, 12⟩
/-- SER_FMT.PAR (R601). -/
def SER_FMT_PAR (i : Nat) : Fld := ⟨Reg.SER_FMT i, 11, 10⟩
/-- SER_FMT.STOP2 (R601). -/
def SER_FMT_STOP2 (i : Nat) : Fld := ⟨Reg.SER_FMT i, 9, 9⟩
/-- SER_FMT.D7 (R601). -/
def SER_FMT_D7 (i : Nat) : Fld := ⟨Reg.SER_FMT i, 8, 8⟩
/-- SER_TIM.IDLE (R601). -/
def SER_TIM_IDLE (i : Nat) : Fld := ⟨Reg.SER_TIM i, 31, 16⟩
/-- SER_TIM.DEPRE (R601). -/
def SER_TIM_DEPRE (i : Nat) : Fld := ⟨Reg.SER_TIM i, 15, 8⟩
/-- SER_TIM.DEPOST (R601). -/
def SER_TIM_DEPOST (i : Nat) : Fld := ⟨Reg.SER_TIM i, 7, 0⟩
/-- SER_STAT.TXACT (R601). -/
def SER_STAT_TXACT (i : Nat) : Fld := ⟨Reg.SER_STAT i, 31, 31⟩
/-- SER_STAT.RXACT (R601). -/
def SER_STAT_RXACT (i : Nat) : Fld := ⟨Reg.SER_STAT i, 30, 30⟩
/-- SER_STAT.BRK (R601). -/
def SER_STAT_BRK (i : Nat) : Fld := ⟨Reg.SER_STAT i, 29, 29⟩
/-- SER_RXFRM.CNT (R601). -/
def SER_RXFRM_CNT (i : Nat) : Fld := ⟨Reg.SER_RXFRM i, 31, 0⟩
/-- SER_RXERR.CNT (R601). -/
def SER_RXERR_CNT (i : Nat) : Fld := ⟨Reg.SER_RXERR i, 31, 0⟩
/-- SER_TXFRM.CNT (R601). -/
def SER_TXFRM_CNT (i : Nat) : Fld := ⟨Reg.SER_TXFRM i, 31, 0⟩
/-- SER_ECHOERR.CNT (R601). -/
def SER_ECHOERR_CNT (i : Nat) : Fld := ⟨Reg.SER_ECHOERR i, 31, 0⟩
/-- SER_TRUNC.CNT (R601). -/
def SER_TRUNC_CNT (i : Nat) : Fld := ⟨Reg.SER_TRUNC i, 31, 0⟩
/-- SER_GSTAT.ECHO (R601). -/
def SER_GSTAT_ECHO : Fld := ⟨Reg.SER_GSTAT, 15, 8⟩
/-- SER_GSTAT.RXERR (R601). -/
def SER_GSTAT_RXERR : Fld := ⟨Reg.SER_GSTAT, 7, 0⟩
/-- SER_GIEN.EN (R601). -/
def SER_GIEN_EN : Fld := ⟨Reg.SER_GIEN, 15, 0⟩
/-- KEY_STAT.TESTROOT (R619). -/
def KEY_STAT_TESTROOT : Fld := ⟨Reg.KEY_STAT, 31, 31⟩
/-- KEY_STAT.STOREFLT (R619). -/
def KEY_STAT_STOREFLT : Fld := ⟨Reg.KEY_STAT, 3, 3⟩
/-- KEY_STAT.EXHAUST (R619). -/
def KEY_STAT_EXHAUST : Fld := ⟨Reg.KEY_STAT, 2, 2⟩
/-- KEY_STAT.VFAIL (R619). -/
def KEY_STAT_VFAIL : Fld := ⟨Reg.KEY_STAT, 1, 1⟩
/-- KEY_STAT.COMMIT (R619). -/
def KEY_STAT_COMMIT : Fld := ⟨Reg.KEY_STAT, 0, 0⟩
/-- KEY_IEN.EN (R619). -/
def KEY_IEN_EN : Fld := ⟨Reg.KEY_IEN, 3, 0⟩
/-- KEY_SATTR.EN (R619). -/
def KEY_SATTR_EN (i : Nat) : Fld := ⟨Reg.KEY_SATTR i, 31, 31⟩
/-- KEY_SATTR.TAG (R619). -/
def KEY_SATTR_TAG (i : Nat) : Fld := ⟨Reg.KEY_SATTR i, 30, 24⟩
/-- KEY_SATTR.VOL (R619). -/
def KEY_SATTR_VOL (i : Nat) : Fld := ⟨Reg.KEY_SATTR i, 23, 23⟩
/-- KEY_SATTR.EXPR (R619). -/
def KEY_SATTR_EXPR (i : Nat) : Fld := ⟨Reg.KEY_SATTR i, 22, 22⟩
/-- KEY_SATTR.CNTEN (R619). -/
def KEY_SATTR_CNTEN (i : Nat) : Fld := ⟨Reg.KEY_SATTR i, 21, 21⟩
/-- KEY_SATTR.KTYPE (R619). -/
def KEY_SATTR_KTYPE (i : Nat) : Fld := ⟨Reg.KEY_SATTR i, 19, 16⟩
/-- KEY_SATTR.USES (R619). -/
def KEY_SATTR_USES (i : Nat) : Fld := ⟨Reg.KEY_SATTR i, 13, 8⟩
/-- KEY_SCNT.INIT (R619). -/
def KEY_SCNT_INIT (i : Nat) : Fld := ⟨Reg.KEY_SCNT i, 31, 0⟩
/-- KEY_SSTAT.KEY (R619). -/
def KEY_SSTAT_KEY (i : Nat) : Fld := ⟨Reg.KEY_SSTAT i, 31, 30⟩
/-- KEY_SSTAT.SHADOW (R619). -/
def KEY_SSTAT_SHADOW (i : Nat) : Fld := ⟨Reg.KEY_SSTAT i, 29, 28⟩
/-- KEY_SSTAT.KTYPE (R619). -/
def KEY_SSTAT_KTYPE (i : Nat) : Fld := ⟨Reg.KEY_SSTAT i, 27, 24⟩
/-- KEY_SSTAT.STSEQ (R619). -/
def KEY_SSTAT_STSEQ (i : Nat) : Fld := ⟨Reg.KEY_SSTAT i, 15, 0⟩
/-- KEY_SREM.REM (R619). -/
def KEY_SREM_REM (i : Nat) : Fld := ⟨Reg.KEY_SREM i, 31, 0⟩
/-- UPD_CTL.OPSIG (R641). -/
def UPD_CTL_OPSIG : Fld := ⟨Reg.UPD_CTL, 31, 31⟩
/-- UPD_CTL.MSLOT (R641). -/
def UPD_CTL_MSLOT : Fld := ⟨Reg.UPD_CTL, 29, 24⟩
/-- UPD_CTL.ALMEN (R641). -/
def UPD_CTL_ALMEN : Fld := ⟨Reg.UPD_CTL, 23, 23⟩
/-- UPD_CTL.ALM (R641). -/
def UPD_CTL_ALM : Fld := ⟨Reg.UPD_CTL, 22, 20⟩
/-- UPD_STAT.RUNSLOT (R641). -/
def UPD_STAT_RUNSLOT : Fld := ⟨Reg.UPD_STAT, 31, 30⟩
/-- UPD_STAT.CONF (R641). -/
def UPD_STAT_CONF : Fld := ⟨Reg.UPD_STAT, 29, 29⟩
/-- UPD_STAT.WHITEOUT (R641). -/
def UPD_STAT_WHITEOUT : Fld := ⟨Reg.UPD_STAT, 28, 28⟩
/-- UPD_STAT.FLOW (R641). -/
def UPD_STAT_FLOW : Fld := ⟨Reg.UPD_STAT, 27, 27⟩
/-- UPD_STAT.PEERCONF (R641). -/
def UPD_STAT_PEERCONF : Fld := ⟨Reg.UPD_STAT, 26, 26⟩
/-- UPD_STAT.AREF (R641). -/
def UPD_STAT_AREF : Fld := ⟨Reg.UPD_STAT, 4, 4⟩
/-- UPD_STAT.BYPASS (R641). -/
def UPD_STAT_BYPASS : Fld := ⟨Reg.UPD_STAT, 3, 3⟩
/-- UPD_STAT.COMPLETE (R641). -/
def UPD_STAT_COMPLETE : Fld := ⟨Reg.UPD_STAT, 2, 2⟩
/-- UPD_STAT.CANCEL (R641). -/
def UPD_STAT_CANCEL : Fld := ⟨Reg.UPD_STAT, 1, 1⟩
/-- UPD_STAT.VFAIL (R641). -/
def UPD_STAT_VFAIL : Fld := ⟨Reg.UPD_STAT, 0, 0⟩
/-- UPD_IEN.EN (R641). -/
def UPD_IEN_EN : Fld := ⟨Reg.UPD_IEN, 4, 0⟩
/-- UPD_CMD.OP (R641). -/
def UPD_CMD_OP : Fld := ⟨Reg.UPD_CMD, 31, 28⟩
/-- UPD_CMD.SLOT (R641). -/
def UPD_CMD_SLOT : Fld := ⟨Reg.UPD_CMD, 0, 0⟩
/-- UPD_RUNVER.VERSION (R641). -/
def UPD_RUNVER_VERSION : Fld := ⟨Reg.UPD_RUNVER, 31, 0⟩
/-- UPD_VFLOOR.VERSION (R641). -/
def UPD_VFLOOR_VERSION : Fld := ⟨Reg.UPD_VFLOOR, 31, 0⟩
/-- UPD_PEERVER.VERSION (R641). -/
def UPD_PEERVER_VERSION : Fld := ⟨Reg.UPD_PEERVER, 31, 0⟩
/-- UPD_CHPOS.VALID (R641). -/
def UPD_CHPOS_VALID : Fld := ⟨Reg.UPD_CHPOS, 31, 31⟩
/-- UPD_CHPOS.POS (R641). -/
def UPD_CHPOS_POS : Fld := ⟨Reg.UPD_CHPOS, 7, 0⟩
/-- UPD_SLOT.STATE (R641). -/
def UPD_SLOT_STATE (i : Nat) : Fld := ⟨Reg.UPD_SLOT i, 31, 29⟩
/-- UPD_SLOT.ARMED (R641). -/
def UPD_SLOT_ARMED (i : Nat) : Fld := ⟨Reg.UPD_SLOT i, 28, 28⟩
/-- UPD_SLOT.BOOTCNT (R641). -/
def UPD_SLOT_BOOTCNT (i : Nat) : Fld := ⟨Reg.UPD_SLOT i, 27, 26⟩
/-- UPD_SLOT.CHUNKS (R641). -/
def UPD_SLOT_CHUNKS (i : Nat) : Fld := ⟨Reg.UPD_SLOT i, 12, 0⟩
/-- UPD_SLOTVER.VERSION (R641). -/
def UPD_SLOTVER_VERSION (i : Nat) : Fld := ⟨Reg.UPD_SLOTVER i, 31, 0⟩
/-- UPD_PEND.PEND (R641). -/
def UPD_PEND_PEND (i : Nat) : Fld := ⟨Reg.UPD_PEND i, 31, 0⟩
/-- SEM_CELL.HELD (R177). -/
def SEM_CELL_HELD (i : Nat) : Fld := ⟨Reg.SEM_CELL i, 31, 31⟩
/-- SEM_CELL.PORT (R177). -/
def SEM_CELL_PORT (i : Nat) : Fld := ⟨Reg.SEM_CELL i, 30, 30⟩
/-- SEM_CELL.LEASE (R177). -/
def SEM_CELL_LEASE (i : Nat) : Fld := ⟨Reg.SEM_CELL i, 29, 29⟩
/-- SEM_CELL.TAG (R177). -/
def SEM_CELL_TAG (i : Nat) : Fld := ⟨Reg.SEM_CELL i, 15, 0⟩
/-- SEM_CMD.OP (R177). -/
def SEM_CMD_OP (i : Nat) : Fld := ⟨Reg.SEM_CMD i, 31, 30⟩
/-- SEM_CMD.TAG (R177). -/
def SEM_CMD_TAG (i : Nat) : Fld := ⟨Reg.SEM_CMD i, 15, 0⟩
/-- SEM_CTL.HBTMO (R177). -/
def SEM_CTL_HBTMO : Fld := ⟨Reg.SEM_CTL, 15, 0⟩

end F

/-- Registers of the SYS block. -/
def Reg.rowsSYS : List RegRow :=
  [⟨0x10, 1, 0x4, .por, 0x0, [⟨23, 16, .ro, []⟩, ⟨15, 8, .ro, []⟩, ⟨3, 3, .ro, []⟩, ⟨2, 2, .ro, []⟩, ⟨1, 1, .ro, []⟩, ⟨0, 0, .ro, []⟩]⟩,
   ⟨0x14, 1, 0x4, .por, 0x0, [⟨31, 24, .ro, []⟩, ⟨23, 16, .ro, []⟩, ⟨15, 12, .ro, []⟩, ⟨11, 8, .ro, []⟩, ⟨7, 3, .ro, []⟩, ⟨2, 1, .ro, []⟩]⟩,
   ⟨0x20, 1, 0x4, .sys, 0x0, [⟨3, 3, .w1c, []⟩, ⟨2, 2, .ro, []⟩, ⟨1, 1, .w1c, []⟩, ⟨0, 0, .w1c, []⟩]⟩]

/-- Registers of the CLK block. -/
def Reg.rowsCLK : List RegRow :=
  [⟨0x10000, 1, 0x4, .sys, 0x0, [⟨7, 6, .ro, []⟩, ⟨5, 4, .ro, []⟩, ⟨3, 3, .ro, []⟩, ⟨2, 2, .ro, []⟩, ⟨1, 1, .w1c, []⟩, ⟨0, 0, .w1c, []⟩]⟩,
   ⟨0x10004, 1, 0x4, .sys, 0x0, [⟨1, 0, .rw, []⟩]⟩,
   ⟨0x10008, 1, 0x4, .sys, 0x0, [⟨24, 0, .ro, []⟩]⟩,
   ⟨0x1000C, 1, 0x4, .sys, 0x0, [⟨0, 0, .rw, []⟩]⟩]

/-- Registers of the RST block. -/
def Reg.rowsRST : List RegRow :=
  [⟨0x20000, 1, 0x4, .sys, 0x0, [⟨31, 24, .wo, []⟩, ⟨1, 1, .wo, []⟩, ⟨0, 0, .wo, []⟩]⟩,
   ⟨0x20004, 1, 0x4, .por, 0x1, [⟨31, 27, .ro, []⟩, ⟨17, 17, .w1c, []⟩, ⟨16, 16, .w1c, []⟩, ⟨10, 10, .w1c, []⟩, ⟨9, 9, .w1c, []⟩, ⟨8, 8, .w1c, []⟩, ⟨7, 7, .w1c, []⟩, ⟨6, 6, .w1c, []⟩, ⟨5, 5, .w1c, []⟩, ⟨4, 4, .w1c, []⟩, ⟨3, 3, .w1c, []⟩, ⟨2, 2, .w1c, []⟩, ⟨1, 1, .w1c, []⟩, ⟨0, 0, .w1c, []⟩]⟩,
   ⟨0x20008, 1, 0x4, .sys, 0x0, [⟨31, 29, .ro, []⟩, ⟨28, 28, .ro, []⟩, ⟨27, 27, .ro, []⟩, ⟨23, 16, .ro, []⟩, ⟨15, 14, .ro, []⟩, ⟨13, 12, .ro, []⟩, ⟨11, 0, .ro, []⟩]⟩,
   ⟨0x2000C, 1, 0x4, .sys, 0x0, [⟨24, 0, .rw, []⟩]⟩,
   ⟨0x20010, 1, 0x4, .sys, 0x0, [⟨31, 31, .w1c, []⟩, ⟨24, 0, .ro, []⟩]⟩,
   ⟨0x20014, 1, 0x4, .sys, 0x0, [⟨31, 0, .rc, []⟩]⟩,
   ⟨0x20018, 1, 0x4, .sys, 0x0, [⟨8, 8, .ro, []⟩, ⟨7, 4, .ro, []⟩, ⟨1, 0, .ro, []⟩]⟩,
   ⟨0x2001C, 1, 0x4, .sys, 0x0, [⟨31, 3, .rw, []⟩]⟩,
   ⟨0x20020, 1, 0x4, .sys, 0x0, [⟨31, 0, .rw, []⟩]⟩,
   ⟨0x20024, 1, 0x4, .sys, 0x0, [⟨31, 31, .wo, []⟩, ⟨30, 30, .ro, []⟩, ⟨23, 16, .ro, []⟩]⟩]

/-- Registers of the PWR block. -/
def Reg.rowsPWR : List RegRow :=
  [⟨0x30000, 1, 0x4, .sys, 0x0, [⟨4, 4, .w1c, []⟩, ⟨3, 3, .w1c, []⟩, ⟨2, 2, .ro, []⟩, ⟨1, 1, .ro, []⟩, ⟨0, 0, .ro, []⟩]⟩,
   ⟨0x30004, 1, 0x4, .sys, 0x0, [⟨0, 0, .rw, []⟩]⟩,
   ⟨0x30008, 1, 0x4, .sys, 0x0, [⟨4, 3, .rw, []⟩]⟩,
   ⟨0x3000C, 1, 0x4, .sys, 0x0, [⟨27, 16, .ro, []⟩, ⟨11, 0, .ro, []⟩]⟩,
   ⟨0x30010, 1, 0x4, .sys, 0x0, [⟨7, 0, .ro, []⟩]⟩,
   ⟨0x30014, 1, 0x4, .aon, 0x0, [⟨31, 0, .ro, []⟩]⟩,
   ⟨0x30018, 1, 0x4, .sys, 0x0, [⟨31, 0, .ro, []⟩]⟩]

/-- Registers of the RTC block, part 0. -/
def Reg.rowsRTC0 : List RegRow :=
  [⟨0x40000, 1, 0x4, .sys, 0x2, [⟨2, 2, .rw, []⟩, ⟨1, 1, .rw, []⟩]⟩,
   ⟨0x40004, 1, 0x4, .aon, 0x3, [⟨3, 3, .ro, []⟩, ⟨2, 2, .ro, []⟩, ⟨1, 1, .ro, []⟩, ⟨0, 0, .ro, []⟩]⟩,
   ⟨0x40008, 1, 0x4, .aon, 0x0, [⟨31, 0, .ro, []⟩]⟩,
   ⟨0x4000C, 1, 0x4, .sys, 0x0, [⟨31, 0, .ro, []⟩]⟩,
   ⟨0x40010, 1, 0x4, .sys, 0x0, [⟨15, 0, .ro, []⟩]⟩,
   ⟨0x40014, 1, 0x4, .sys, 0x0, [⟨31, 0, .rw, []⟩]⟩,
   ⟨0x40018, 1, 0x4, .sys, 0x0, [⟨31, 0, .rw, []⟩]⟩,
   ⟨0x4001C, 1, 0x4, .sys, 0x0, [⟨15, 0, .rw, []⟩]⟩,
   ⟨0x40020, 1, 0x4, .sys, 0x0, [⟨2, 2, .w1c, []⟩, ⟨1, 1, .ro, []⟩, ⟨0, 0, .wo, []⟩]⟩,
   ⟨0x40024, 1, 0x4, .aon, 0x0, [⟨29, 0, .rw, [(0, 268435), (1073473389, 1073741823)]⟩]⟩,
   ⟨0x40028, 1, 0x4, .aon, 0x0, [⟨31, 0, .ro, []⟩]⟩,
   ⟨0x4002C, 1, 0x4, .sys, 0xE10, [⟨31, 31, .wo, []⟩, ⟨30, 30, .ro, []⟩, ⟨29, 29, .w1c, []⟩, ⟨28, 28, .w1c, []⟩, ⟨27, 26, .ro, []⟩, ⟨25, 24, .rw, [(0, 2)]⟩, ⟨23, 23, .rw, []⟩, ⟨22, 20, .rw, []⟩, ⟨13, 0, .rw, [(100, 10000)]⟩]⟩]

/-- Registers of the RTC block, part 1. -/
def Reg.rowsRTC1 : List RegRow :=
  [⟨0x40030, 1, 0x4, .sys, 0x0, [⟨31, 0, .ro, []⟩]⟩,
   ⟨0x40034, 1, 0x4, .sys, 0x0, [⟨15, 8, .w1c, []⟩, ⟨7, 0, .w1c, []⟩]⟩,
   ⟨0x40100, 8, 0x10, .sys, 0x0, [⟨31, 0, .rw, []⟩]⟩,
   ⟨0x40104, 8, 0x10, .sys, 0x0, [⟨31, 16, .rw, []⟩, ⟨15, 0, .rw, []⟩]⟩,
   ⟨0x40108, 8, 0x10, .sys, 0x0, [⟨2, 2, .rw, []⟩, ⟨1, 1, .rw, []⟩, ⟨0, 0, .rw, []⟩]⟩]

/-- Registers of the TCK block. -/
def Reg.rowsTCK : List RegRow :=
  [⟨0x50000, 1, 0x4, .sys, 0x0, [⟨3, 3, .w1c, []⟩, ⟨2, 2, .ro, []⟩, ⟨1, 1, .ro, []⟩, ⟨0, 0, .ro, []⟩]⟩,
   ⟨0x50004, 1, 0x4, .sys, 0x0, [⟨12, 3, .ro, []⟩, ⟨2, 0, .ro, []⟩]⟩,
   ⟨0x50008, 1, 0x4, .sys, 0x0, [⟨31, 0, .ro, []⟩]⟩,
   ⟨0x5000C, 1, 0x4, .sys, 0x0, [⟨19, 0, .ro, []⟩]⟩,
   ⟨0x50010, 1, 0x4, .sys, 0x0, [⟨31, 0, .ro, []⟩]⟩]

/-- Registers of the PRT block. -/
def Reg.rowsPRT : List RegRow :=
  [⟨0x60000, 1, 0x4, .sys, 0x0, [⟨1, 1, .rw, []⟩, ⟨0, 0, .rw, []⟩]⟩,
   ⟨0x60010, 4, 0x4, .sys, 0x0, [⟨31, 0, .rw, []⟩]⟩,
   ⟨0x60020, 1, 0x4, .sys, 0x0, [⟨11, 0, .rw, []⟩]⟩,
   ⟨0x60024, 1, 0x4, .sys, 0x0, [⟨31, 31, .rw, []⟩, ⟨30, 30, .rw, []⟩, ⟨29, 27, .rw, []⟩, ⟨22, 16, .rw, []⟩, ⟨15, 0, .rw, []⟩]⟩,
   ⟨0x60028, 1, 0x4, .sys, 0x0, [⟨16, 0, .rw, []⟩]⟩,
   ⟨0x6002C, 1, 0x4, .sys, 0x0, [⟨3, 3, .w1c, []⟩, ⟨2, 2, .ro, []⟩, ⟨1, 1, .wo, []⟩, ⟨0, 0, .wo, []⟩]⟩,
   ⟨0x60030, 1, 0x4, .sys, 0x0, [⟨12, 0, .ro, []⟩]⟩,
   ⟨0x60034, 1, 0x4, .sys, 0x0, [⟨31, 0, .rc, []⟩]⟩,
   ⟨0x60038, 1, 0x4, .sys, 0x0, [⟨31, 0, .ro, []⟩]⟩,
   ⟨0x61000, 128, 0x4, .sys, 0x0, [⟨31, 31, .rw, []⟩, ⟨19, 0, .rw, []⟩]⟩,
   ⟨0x61200, 128, 0x4, .sys, 0x0, [⟨31, 31, .rw, []⟩, ⟨19, 0, .rw, []⟩]⟩,
   ⟨0x61400, 128, 0x4, .sys, 0x400010, [⟨31, 16, .rw, [(1, 65535)]⟩, ⟨15, 0, .rw, []⟩]⟩]

/-- Registers of the HPC block, part 0. -/
def Reg.rowsHPC0 : List RegRow :=
  [⟨0x70000, 1, 0x4, .sys, 0x0, [⟨6, 0, .rw, []⟩]⟩,
   ⟨0x70004, 1, 0x4, .sys, 0x0, [⟨31, 0, .rw, []⟩]⟩,
   ⟨0x70008, 1, 0x4, .sys, 0x0, [⟨31, 0, .rw, []⟩]⟩,
   ⟨0x7000C, 1, 0x4, .sys, 0x0, [⟨31, 0, .rw, []⟩]⟩,
   ⟨0x70010, 1, 0x4, .sys, 0x0, [⟨31, 0, .rw, []⟩]⟩,
   ⟨0x70014, 1, 0x4, .sys, 0x0, [⟨31, 0, .rw, []⟩]⟩,
   ⟨0x70018, 1, 0x4, .sys, 0x0, [⟨31, 0, .rw, []⟩]⟩,
   ⟨0x7001C, 1, 0x4, .sys, 0x0, [⟨31, 0, .rw, []⟩]⟩,
   ⟨0x70020, 1, 0x4, .sys, 0x0, [⟨31, 0, .rw, []⟩]⟩,
   ⟨0x70024, 1, 0x4, .sys, 0x6666, [⟨18, 16, .rw, [(0, 6)]⟩, ⟨15, 12, .rw, [(0, 0), (6, 15)]⟩, ⟨11, 8, .rw, [(0, 0), (6, 15)]⟩, ⟨7, 4, .rw, [(0, 0), (6, 15)]⟩, ⟨3, 0, .rw, [(0, 0), (6, 15)]⟩]⟩,
   ⟨0x70028, 1, 0x4, .sys, 0x100000, [⟨23, 16, .rw, [(1, 255)]⟩, ⟨9, 0, .rw, [(0, 1000)]⟩]⟩,
   ⟨0x7002C, 1, 0x4, .sys, 0x7D0, [⟨15, 0, .rw, []⟩]⟩]

/-- Registers of the HPC block, part 1. -/
def Reg.rowsHPC1 : List RegRow :=
  [⟨0x70030, 1, 0x4, .sys, 0x0, [⟨11, 8, .ro, []⟩, ⟨7, 7, .w1c, []⟩, ⟨6, 6, .ro, []⟩, ⟨3, 3, .wo, []⟩, ⟨2, 2, .wo, []⟩, ⟨1, 1, .wo, []⟩, ⟨0, 0, .wo, []⟩]⟩,
   ⟨0x70100, 1, 0x4, .sys, 0x0, [⟨6, 0, .rw, []⟩]⟩,
   ⟨0x70104, 1, 0x4, .sys, 0x0, [⟨31, 0, .rw, []⟩]⟩,
   ⟨0x70108, 1, 0x4, .sys, 0x0, [⟨31, 0, .rw, []⟩]⟩,
   ⟨0x7010C, 1, 0x4, .sys, 0x0, [⟨31, 0, .rw, []⟩]⟩,
   ⟨0x70110, 1, 0x4, .sys, 0x0, [⟨31, 0, .rw, []⟩]⟩,
   ⟨0x70114, 1, 0x4, .sys, 0x0, [⟨31, 0, .rw, []⟩]⟩,
   ⟨0x70118, 1, 0x4, .sys, 0x0, [⟨31, 0, .rw, []⟩]⟩,
   ⟨0x7011C, 1, 0x4, .sys, 0x0, [⟨31, 0, .rw, []⟩]⟩,
   ⟨0x70120, 1, 0x4, .sys, 0x0, [⟨31, 0, .rw, []⟩]⟩,
   ⟨0x70124, 1, 0x4, .sys, 0x6666, [⟨18, 16, .rw, [(0, 6)]⟩, ⟨15, 12, .rw, [(0, 0), (6, 15)]⟩, ⟨11, 8, .rw, [(0, 0), (6, 15)]⟩, ⟨7, 4, .rw, [(0, 0), (6, 15)]⟩, ⟨3, 0, .rw, [(0, 0), (6, 15)]⟩]⟩,
   ⟨0x70128, 1, 0x4, .sys, 0x100000, [⟨23, 16, .rw, [(1, 255)]⟩, ⟨9, 0, .rw, [(0, 1000)]⟩]⟩]

/-- Registers of the HPC block, part 2. -/
def Reg.rowsHPC2 : List RegRow :=
  [⟨0x7012C, 1, 0x4, .sys, 0x7D0, [⟨15, 0, .rw, []⟩]⟩,
   ⟨0x70130, 1, 0x4, .sys, 0x0, [⟨11, 8, .ro, []⟩, ⟨7, 7, .w1c, []⟩, ⟨6, 6, .ro, []⟩, ⟨3, 3, .wo, []⟩, ⟨2, 2, .wo, []⟩, ⟨1, 1, .wo, []⟩, ⟨0, 0, .wo, []⟩]⟩,
   ⟨0x70200, 8, 0x4, .sys, 0x0, [⟨31, 0, .ro, []⟩]⟩,
   ⟨0x70220, 8, 0x4, .sys, 0x0, [⟨31, 0, .ro, []⟩]⟩,
   ⟨0x70240, 1, 0x4, .sys, 0x0, [⟨24, 0, .rw, []⟩]⟩,
   ⟨0x70244, 1, 0x4, .sys, 0x0, [⟨24, 0, .rw, []⟩]⟩,
   ⟨0x70248, 1, 0x4, .sys, 0x0, [⟨31, 31, .ro, []⟩, ⟨30, 28, .ro, []⟩, ⟨27, 25, .ro, []⟩, ⟨24, 16, .ro, []⟩, ⟨15, 8, .ro, []⟩]⟩,
   ⟨0x7024C, 1, 0x4, .sys, 0x0, [⟨31, 31, .ro, []⟩, ⟨30, 28, .ro, []⟩, ⟨27, 25, .ro, []⟩, ⟨24, 16, .ro, []⟩, ⟨15, 8, .ro, []⟩]⟩]

/-- Registers of the QPL block, part 0. -/
def Reg.rowsQPL0 : List RegRow :=
  [⟨0x80000, 1, 0x4, .sys, 0x0, [⟨15, 6, .rw, []⟩, ⟨1, 1, .wo, []⟩, ⟨0, 0, .wo, []⟩]⟩,
   ⟨0x80004, 1, 0x4, .sys, 0x0, [⟨1, 1, .ro, []⟩, ⟨0, 0, .ro, []⟩]⟩,
   ⟨0x80008, 1, 0x4, .sys, 0x10000, [⟨16, 0, .ro, []⟩]⟩,
   ⟨0x8000C, 1, 0x4, .sys, 0x10000, [⟨16, 0, .ro, []⟩]⟩,
   ⟨0x80010, 1, 0x4, .sys, 0x0, [⟨16, 0, .ro, []⟩]⟩,
   ⟨0x80014, 1, 0x4, .sys, 0x0, [⟨16, 0, .ro, []⟩]⟩,
   ⟨0x80018, 1, 0x4, .sys, 0x0, [⟨31, 0, .rc, []⟩]⟩,
   ⟨0x8001C, 1, 0x4, .sys, 0x0, [⟨31, 0, .rc, []⟩]⟩,
   ⟨0x81000, 1024, 0x4, .sys, 0x0, [⟨31, 16, .ro, []⟩, ⟨15, 0, .ro, []⟩]⟩,
   ⟨0x82000, 1024, 0x4, .sys, 0x0, [⟨31, 31, .ro, []⟩, ⟨30, 30, .ro, []⟩, ⟨22, 16, .ro, []⟩]⟩,
   ⟨0x83000, 1024, 0x4, .sys, 0x0, [⟨4, 4, .w1c, []⟩, ⟨3, 3, .wo, []⟩, ⟨2, 2, .w1c, []⟩, ⟨1, 1, .w1c, []⟩, ⟨0, 0, .ro, []⟩]⟩,
   ⟨0x84000, 1024, 0x4, .sys, 0x0, [⟨16, 0, .ro, []⟩]⟩]

/-- Registers of the QPL block, part 1. -/
def Reg.rowsQPL1 : List RegRow :=
  [⟨0x85000, 1024, 0x4, .sys, 0x0, [⟨31, 0, .rc, []⟩]⟩,
   ⟨0x86000, 1024, 0x4, .sys, 0x0, [⟨31, 0, .rc, []⟩]⟩]

/-- Registers of the FLD block, part 0. -/
def Reg.rowsFLD0 : List RegRow :=
  [⟨0x90000, 1, 0x4, .sys, 0x88B50000, [⟨31, 16, .ro, [(1536, 65535)]⟩, ⟨6, 0, .ro, []⟩]⟩,
   ⟨0x90004, 1, 0x4, .sys, 0x0, [⟨3, 3, .ro, []⟩, ⟨2, 2, .w1c, []⟩, ⟨1, 1, .w1c, []⟩, ⟨0, 0, .w1c, []⟩]⟩,
   ⟨0x90008, 1, 0x4, .sys, 0x0, [⟨3, 0, .rw, []⟩]⟩,
   ⟨0x90010, 4, 0x4, .sys, 0x0, [⟨19, 0, .ro, []⟩]⟩,
   ⟨0x90020, 4, 0x4, .sys, 0x0, [⟨19, 0, .ro, []⟩]⟩,
   ⟨0x90030, 4, 0x4, .sys, 0xFFFFF, [⟨19, 0, .ro, []⟩]⟩,
   ⟨0x90040, 6, 0x4, .sys, 0x0, [⟨31, 16, .ro, []⟩, ⟨15, 0, .ro, []⟩]⟩,
   ⟨0x90060, 1, 0x4, .sys, 0x321E0530, [⟨31, 24, .ro, [(1, 255)]⟩, ⟨23, 16, .ro, [(1, 255)]⟩, ⟨15, 8, .ro, [(1, 255)]⟩, ⟨7, 4, .ro, [(1, 15)]⟩]⟩,
   ⟨0x90068, 1, 0x4, .sys, 0x0, [⟨31, 30, .wo, []⟩, ⟨5, 0, .wo, []⟩]⟩,
   ⟨0x90070, 1, 0x4, .sys, 0x0, [⟨15, 0, .rw, []⟩]⟩,
   ⟨0x90074, 1, 0x4, .sys, 0x0, [⟨31, 31, .rw, []⟩, ⟨30, 30, .rw, []⟩, ⟨29, 24, .rw, []⟩, ⟨20, 16, .rw, []⟩, ⟨15, 0, .rw, []⟩]⟩,
   ⟨0x90080, 1, 0x4, .sys, 0x0, [⟨31, 0, .ro, []⟩]⟩]

/-- Registers of the FLD block, part 1. -/
def Reg.rowsFLD1 : List RegRow :=
  [⟨0x90084, 1, 0x4, .sys, 0x0, [⟨15, 0, .ro, []⟩]⟩,
   ⟨0x90100, 16, 0x4, .sys, 0x2200000, [⟨31, 24, .ro, [(2, 32)]⟩, ⟨23, 16, .ro, [(20, 255)]⟩, ⟨15, 8, .ro, [(0, 7)]⟩, ⟨7, 6, .ro, []⟩]⟩,
   ⟨0x90140, 16, 0x4, .sys, 0x0, [⟨31, 0, .rc, []⟩]⟩,
   ⟨0x91000, 64, 0x4, .sys, 0x0, [⟨31, 31, .ro, []⟩, ⟨30, 24, .ro, []⟩, ⟨23, 23, .ro, []⟩, ⟨22, 22, .ro, []⟩, ⟨21, 21, .ro, []⟩, ⟨19, 18, .ro, [(0, 2)]⟩, ⟨17, 16, .ro, [(0, 2)]⟩]⟩,
   ⟨0x91100, 64, 0x4, .sys, 0x0, [⟨31, 31, .ro, []⟩, ⟨30, 30, .ro, []⟩, ⟨29, 29, .ro, []⟩, ⟨2, 0, .ro, []⟩]⟩,
   ⟨0x91200, 48, 0x4, .sys, 0x0, [⟨31, 30, .ro, [(0, 2)]⟩, ⟨27, 24, .ro, []⟩, ⟨21, 20, .ro, []⟩, ⟨17, 16, .ro, []⟩]⟩,
   ⟨0x91300, 48, 0x4, .sys, 0x0, [⟨31, 28, .ro, []⟩, ⟨27, 24, .ro, []⟩, ⟨23, 20, .ro, []⟩, ⟨19, 16, .ro, []⟩]⟩,
   ⟨0x91400, 48, 0x4, .sys, 0x0, [⟨27, 16, .ro, []⟩, ⟨11, 0, .ro, []⟩]⟩,
   ⟨0x92000, 1024, 0x8, .sys, 0x0, [⟨31, 0, .ro, []⟩]⟩,
   ⟨0x92004, 1024, 0x8, .sys, 0x0, [⟨31, 31, .ro, []⟩, ⟨15, 0, .ro, []⟩]⟩,
   ⟨0x94000, 64, 0x4, .sys, 0x0, [⟨31, 0, .rc, []⟩]⟩,
   ⟨0x94100, 64, 0x4, .sys, 0x0, [⟨31, 0, .rc, []⟩]⟩]

/-- Registers of the FLD block, part 2. -/
def Reg.rowsFLD2 : List RegRow :=
  [⟨0x94200, 64, 0x4, .sys, 0x0, [⟨31, 0, .rc, []⟩]⟩,
   ⟨0x94300, 64, 0x4, .sys, 0x0, [⟨31, 0, .rc, []⟩]⟩,
   ⟨0x94400, 64, 0x4, .sys, 0x0, [⟨31, 0, .rc, []⟩]⟩,
   ⟨0x94500, 64, 0x4, .sys, 0x0, [⟨31, 0, .rc, []⟩]⟩,
   ⟨0x94600, 64, 0x4, .sys, 0x0, [⟨31, 0, .rc, []⟩]⟩,
   ⟨0x94700, 64, 0x4, .sys, 0x0, [⟨31, 0, .rc, []⟩]⟩]

/-- Registers of the PTX block, part 0. -/
def Reg.rowsPTX0 : List RegRow :=
  [⟨0xA0000, 1, 0x4, .sys, 0x1430, [⟨31, 16, .ro, []⟩, ⟨15, 8, .ro, []⟩, ⟨7, 4, .ro, []⟩, ⟨0, 0, .ro, []⟩]⟩,
   ⟨0xA0004, 1, 0x4, .sys, 0x0, [⟨4, 4, .ro, []⟩, ⟨3, 3, .w1c, []⟩, ⟨2, 2, .w1c, []⟩, ⟨1, 1, .w1c, []⟩, ⟨0, 0, .w1c, []⟩]⟩,
   ⟨0xA0008, 1, 0x4, .sys, 0x0, [⟨3, 0, .rw, []⟩]⟩,
   ⟨0xA0010, 1, 0x4, .sys, 0x0, [⟨31, 0, .ro, []⟩]⟩,
   ⟨0xA0014, 1, 0x4, .sys, 0x0, [⟨31, 0, .ro, []⟩]⟩,
   ⟨0xA0018, 1, 0x4, .sys, 0x0, [⟨31, 0, .ro, []⟩]⟩,
   ⟨0xA0020, 1, 0x4, .sys, 0x0, [⟨12, 0, .ro, []⟩]⟩,
   ⟨0xA0024, 1, 0x4, .sys, 0x0, [⟨11, 0, .ro, []⟩]⟩,
   ⟨0xA0028, 1, 0x4, .sys, 0x0, [⟨16, 0, .ro, []⟩]⟩,
   ⟨0xA0030, 1, 0x4, .sys, 0x0, [⟨31, 0, .rc, []⟩]⟩,
   ⟨0xA0034, 1, 0x4, .sys, 0x0, [⟨31, 0, .rc, []⟩]⟩,
   ⟨0xA1000, 128, 0x4, .sys, 0x0, [⟨28, 16, .rw, [(0, 4096)]⟩, ⟨13, 0, .rw, [(0, 8192)]⟩]⟩]

/-- Registers of the PTX block, part 1. -/
def Reg.rowsPTX1 : List RegRow :=
  [⟨0xA1200, 128, 0x4, .sys, 0x0, [⟨28, 16, .ro, []⟩, ⟨13, 0, .ro, []⟩]⟩,
   ⟨0xA2000, 2048, 0x4, .sys, 0x0, [⟨31, 31, .ro, []⟩, ⟨30, 30, .ro, []⟩, ⟨29, 29, .ro, []⟩, ⟨28, 28, .ro, []⟩, ⟨27, 24, .ro, []⟩, ⟨23, 20, .ro, []⟩, ⟨15, 0, .ro, []⟩]⟩,
   ⟨0xA4000, 2048, 0x4, .sys, 0x0, [⟨31, 0, .rc, []⟩]⟩]

/-- Registers of the LGE block, part 0. -/
def Reg.rowsLGE0 : List RegRow :=
  [⟨0xB0000, 1, 0x4, .sys, 0x0, [⟨2, 2, .w1c, []⟩, ⟨1, 1, .w1c, []⟩, ⟨0, 0, .w1c, []⟩]⟩,
   ⟨0xB0004, 1, 0x4, .sys, 0x0, [⟨2, 0, .rw, []⟩]⟩,
   ⟨0xB0008, 1, 0x4, .sys, 0x0, [⟨31, 0, .ro, []⟩]⟩,
   ⟨0xB000C, 1, 0x4, .sys, 0x0, [⟨17, 0, .ro, []⟩]⟩,
   ⟨0xB0010, 1, 0x4, .sys, 0x0, [⟨31, 0, .rc, []⟩]⟩,
   ⟨0xB0014, 1, 0x4, .sys, 0x0, [⟨31, 0, .ro, []⟩]⟩,
   ⟨0xB0100, 16, 0x4, .sys, 0x0, [⟨31, 31, .rw, []⟩, ⟨30, 24, .rw, []⟩, ⟨22, 12, .rw, []⟩, ⟨9, 0, .rw, []⟩]⟩,
   ⟨0xB0140, 16, 0x4, .sys, 0x0, [⟨25, 16, .rw, []⟩, ⟨9, 0, .rw, []⟩]⟩,
   ⟨0xB0180, 16, 0x4, .sys, 0x0, [⟨17, 0, .rw, []⟩]⟩,
   ⟨0xB01C0, 16, 0x4, .sys, 0x0, [⟨31, 30, .ro, []⟩, ⟨29, 29, .ro, []⟩, ⟨28, 28, .w1c, []⟩, ⟨27, 27, .ro, []⟩, ⟨23, 16, .ro, []⟩, ⟨4, 0, .ro, []⟩]⟩,
   ⟨0xB0200, 16, 0x4, .sys, 0x0, [⟨31, 0, .ro, []⟩]⟩,
   ⟨0xB0240, 16, 0x4, .sys, 0x0, [⟨17, 0, .ro, []⟩]⟩]

/-- Registers of the LGE block, part 1. -/
def Reg.rowsLGE1 : List RegRow :=
  [⟨0xB0280, 16, 0x4, .sys, 0x0, [⟨17, 0, .rc, []⟩]⟩,
   ⟨0xB02C0, 16, 0x4, .sys, 0x0, [⟨17, 0, .ro, []⟩]⟩]

/-- Registers of the CLE block. -/
def Reg.rowsCLE : List RegRow :=
  [⟨0xC0000, 1, 0x4, .sys, 0x0, [⟨3, 3, .w1c, []⟩, ⟨2, 2, .w1c, []⟩, ⟨1, 1, .w1c, []⟩, ⟨0, 0, .w1c, []⟩]⟩,
   ⟨0xC0004, 1, 0x4, .sys, 0x0, [⟨3, 0, .rw, []⟩]⟩,
   ⟨0xC0008, 1, 0x4, .sys, 0x0, [⟨31, 0, .ro, []⟩]⟩,
   ⟨0xC000C, 1, 0x4, .sys, 0x0, [⟨31, 0, .ro, []⟩]⟩,
   ⟨0xC0010, 1, 0x4, .sys, 0x0, [⟨31, 0, .rc, []⟩]⟩,
   ⟨0xC0014, 1, 0x4, .sys, 0x0, [⟨31, 0, .ro, []⟩]⟩,
   ⟨0xC0020, 4, 0x4, .sys, 0x0, [⟨30, 24, .rw, []⟩, ⟨22, 16, .rw, []⟩, ⟨14, 8, .rw, []⟩, ⟨6, 0, .rw, []⟩]⟩,
   ⟨0xC1000, 256, 0x4, .sys, 0x0, [⟨31, 31, .rw, []⟩, ⟨30, 24, .rw, []⟩]⟩,
   ⟨0xC1400, 256, 0x4, .sys, 0x0, [⟨31, 30, .ro, []⟩, ⟨29, 28, .ro, []⟩, ⟨27, 27, .ro, []⟩, ⟨26, 26, .ro, []⟩, ⟨25, 25, .ro, []⟩, ⟨24, 24, .ro, []⟩, ⟨23, 16, .ro, []⟩, ⟨15, 0, .ro, []⟩]⟩,
   ⟨0xC1800, 256, 0x4, .sys, 0x0, [⟨31, 0, .ro, []⟩]⟩]

/-- Registers of the LIO block, part 0. -/
def Reg.rowsLIO0 : List RegRow :=
  [⟨0xD0004, 1, 0x4, .sys, 0x0, [⟨23, 16, .w1c, []⟩, ⟨15, 0, .w1c, []⟩]⟩,
   ⟨0xD0008, 1, 0x4, .sys, 0x0, [⟨23, 16, .rw, []⟩, ⟨15, 0, .rw, []⟩]⟩,
   ⟨0xD0300, 1, 0x4, .sys, 0x0, [⟨31, 0, .rw, []⟩]⟩,
   ⟨0xD0304, 1, 0x4, .sys, 0x0, [⟨31, 0, .ro, []⟩]⟩,
   ⟨0xD0308, 1, 0x4, .sys, 0x0, [⟨31, 0, .ro, []⟩]⟩,
   ⟨0xD030C, 1, 0x4, .sys, 0x0, [⟨3, 0, .rw, []⟩]⟩,
   ⟨0xD0100, 16, 0x4, .sys, 0x3F800000, [⟨31, 0, .rw, []⟩]⟩,
   ⟨0xD0140, 16, 0x4, .sys, 0x0, [⟨31, 0, .rw, []⟩]⟩,
   ⟨0xD0180, 16, 0x4, .sys, 0x0, [⟨15, 0, .ro, []⟩]⟩,
   ⟨0xD0200, 8, 0x4, .sys, 0x3F800000, [⟨31, 0, .rw, []⟩]⟩,
   ⟨0xD0220, 8, 0x4, .sys, 0x0, [⟨31, 0, .rw, []⟩]⟩,
   ⟨0xD0240, 8, 0x4, .sys, 0x0, [⟨15, 0, .ro, []⟩]⟩]

/-- Registers of the LIO block, part 1. -/
def Reg.rowsLIO1 : List RegRow :=
  [⟨0xD0400, 8, 0x4, .sys, 0x80000, [⟨31, 30, .rw, []⟩, ⟨28, 16, .rw, [(1, 8000)]⟩]⟩,
   ⟨0xD0420, 8, 0x4, .sys, 0x3F800000, [⟨31, 0, .rw, []⟩]⟩,
   ⟨0xD0440, 8, 0x4, .sys, 0x3F800000, [⟨31, 0, .rw, []⟩]⟩,
   ⟨0xD0460, 8, 0x4, .sys, 0x0, [⟨31, 0, .ro, []⟩]⟩,
   ⟨0xD0480, 8, 0x4, .sys, 0x0, [⟨31, 0, .ro, []⟩]⟩,
   ⟨0xD04A0, 8, 0x4, .sys, 0x0, [⟨31, 0, .rc, []⟩]⟩,
   ⟨0xD0500, 8, 0x4, .sys, 0x0, [⟨31, 31, .rw, []⟩, ⟨30, 30, .rw, []⟩, ⟨29, 29, .rw, []⟩, ⟨23, 0, .rw, []⟩]⟩,
   ⟨0xD0520, 8, 0x4, .sys, 0x0, [⟨23, 0, .ro, []⟩]⟩]

/-- Registers of the MTR block, part 0. -/
def Reg.rowsMTR0 : List RegRow :=
  [⟨0xE0000, 1, 0x4, .sys, 0x0, [⟨1, 1, .rw, []⟩]⟩,
   ⟨0xE0004, 1, 0x4, .sys, 0x0, [⟨6, 6, .ro, []⟩, ⟨5, 5, .w1c, []⟩, ⟨4, 4, .w1c, []⟩, ⟨3, 3, .w1c, []⟩, ⟨2, 2, .w1c, []⟩, ⟨1, 1, .w1c, []⟩, ⟨0, 0, .w1c, []⟩]⟩,
   ⟨0xE0008, 1, 0x4, .sys, 0x0, [⟨6, 0, .rw, []⟩]⟩,
   ⟨0xE000C, 1, 0x4, .sys, 0x0, [⟨31, 0, .ro, []⟩]⟩,
   ⟨0xE0010, 1, 0x4, .sys, 0x0, [⟨31, 0, .ro, []⟩]⟩,
   ⟨0xE0014, 1, 0x4, .sys, 0x0, [⟨31, 0, .ro, []⟩]⟩,
   ⟨0xE0018, 1, 0x4, .sys, 0x0, [⟨31, 31, .wo, []⟩, ⟨6, 0, .rw, [(0, 71)]⟩]⟩,
   ⟨0xE001C, 1, 0x4, .sys, 0x80000384, [⟨31, 31, .rw, []⟩, ⟨11, 0, .rw, [(60, 60), (72, 72), (75, 75), (80, 80), (90, 90), (100, 100), (120, 120), (144, 144), (150, 150), (180, 180), (200, 200), (225, 225), (240, 240), (300, 300), (360, 360), (400, 400), (450, 450), (600, 600), (720, 720), (900, 900), (1200, 1200), (1800, 1800), (3600, 3600)]⟩]⟩,
   ⟨0xE0020, 1, 0x4, .sys, 0x0, [⟨31, 0, .ro, []⟩]⟩,
   ⟨0xE0030, 3, 0x4, .sys, 0x0, [⟨31, 0, .ro, []⟩]⟩,
   ⟨0xE0100, 8, 0x4, .sys, 0x0, [⟨31, 0, .ro, []⟩]⟩,
   ⟨0xE0120, 8, 0x4, .sys, 0x0, [⟨31, 0, .ro, []⟩]⟩]

/-- Registers of the MTR block, part 1. -/
def Reg.rowsMTR1 : List RegRow :=
  [⟨0xE0200, 8, 0x4, .sys, 0x0, [⟨31, 31, .rw, []⟩, ⟨30, 30, .rw, []⟩, ⟨29, 26, .rw, [(0, 9)]⟩, ⟨22, 16, .rw, [(0, 71)]⟩, ⟨15, 8, .rw, []⟩]⟩,
   ⟨0xE0220, 8, 0x4, .sys, 0x0, [⟨16, 0, .rw, [(1, 100000)]⟩]⟩,
   ⟨0xE0240, 8, 0x4, .sys, 0x0, [⟨31, 0, .ro, []⟩]⟩,
   ⟨0xE0300, 1, 0x4, .aon, 0x32, [⟨31, 31, .rw, []⟩, ⟨15, 0, .rw, []⟩]⟩,
   ⟨0xE0304, 1, 0x4, .aon, 0x0, [⟨31, 31, .ro, []⟩, ⟨15, 8, .ro, []⟩, ⟨5, 0, .ro, []⟩]⟩,
   ⟨0xE0308, 1, 0x4, .sys, 0x0, [⟨15, 0, .wo, []⟩]⟩,
   ⟨0xE0340, 16, 0x4, .aon, 0x0, [⟨31, 31, .rw, []⟩, ⟨22, 16, .rw, [(0, 71)]⟩, ⟨15, 0, .rw, []⟩]⟩,
   ⟨0xE0380, 16, 0x4, .aon, 0x0, [⟨31, 0, .ro, []⟩]⟩]

/-- Registers of the SAF block, part 0. -/
def Reg.rowsSAF0 : List RegRow :=
  [⟨0xF0000, 1, 0x4, .sys, 0x0, [⟨31, 31, .ro, []⟩, ⟨30, 30, .ro, []⟩, ⟨29, 29, .ro, []⟩, ⟨28, 28, .ro, []⟩, ⟨27, 27, .ro, []⟩, ⟨26, 26, .ro, []⟩, ⟨25, 25, .ro, []⟩, ⟨24, 24, .ro, []⟩, ⟨15, 8, .ro, []⟩, ⟨7, 0, .ro, []⟩]⟩,
   ⟨0xF0004, 1, 0x4, .sys, 0x0, [⟨28, 8, .ro, []⟩, ⟨7, 0, .ro, []⟩]⟩,
   ⟨0xF0008, 1, 0x4, .sys, 0x0, [⟨31, 16, .ro, []⟩, ⟨15, 8, .ro, []⟩]⟩,
   ⟨0xF000C, 1, 0x4, .sys, 0x0, [⟨31, 16, .ro, []⟩, ⟨15, 8, .ro, []⟩]⟩,
   ⟨0xF0010, 1, 0x4, .sys, 0x0, [⟨31, 0, .ro, []⟩]⟩,
   ⟨0xF0014, 1, 0x4, .sys, 0x0, [⟨31, 16, .ro, []⟩, ⟨15, 12, .ro, []⟩, ⟨11, 11, .ro, []⟩, ⟨1, 0, .ro, []⟩]⟩,
   ⟨0xF0018, 1, 0x4, .sys, 0x0, [⟨31, 16, .ro, []⟩, ⟨15, 0, .ro, []⟩]⟩,
   ⟨0xF001C, 1, 0x4, .sys, 0x0, [⟨31, 0, .rc, []⟩]⟩,
   ⟨0xF0100, 8, 0x4, .sys, 0x0, [⟨31, 30, .ro, []⟩, ⟨29, 29, .ro, []⟩, ⟨28, 28, .ro, []⟩, ⟨27, 27, .ro, []⟩, ⟨26, 26, .ro, []⟩, ⟨11, 0, .ro, []⟩]⟩,
   ⟨0xF0140, 8, 0x4, .sys, 0x0, [⟨31, 30, .ro, []⟩, ⟨29, 29, .ro, []⟩, ⟨28, 28, .ro, []⟩, ⟨27, 16, .ro, []⟩, ⟨15, 0, .ro, []⟩]⟩,
   ⟨0xF0200, 16, 0x4, .sys, 0x0, [⟨31, 31, .ro, []⟩, ⟨30, 30, .ro, []⟩, ⟨29, 29, .ro, []⟩, ⟨28, 28, .ro, []⟩, ⟨27, 24, .ro, []⟩, ⟨15, 0, .ro, []⟩]⟩,
   ⟨0xF0240, 16, 0x4, .sys, 0x0, [⟨31, 0, .ro, []⟩]⟩]

/-- Registers of the SAF block, part 1. -/
def Reg.rowsSAF1 : List RegRow :=
  [⟨0xF0280, 4, 0x4, .sys, 0x0, [⟨31, 31, .ro, []⟩, ⟨30, 30, .ro, []⟩, ⟨23, 16, .ro, []⟩, ⟨15, 0, .ro, []⟩]⟩,
   ⟨0xF0290, 4, 0x4, .sys, 0x0, [⟨31, 0, .ro, []⟩]⟩]

/-- Registers of the RSR block, part 0. -/
def Reg.rowsRSR0 : List RegRow :=
  [⟨0x100000, 1, 0x4, .sys, 0x88B60000, [⟨31, 16, .ro, []⟩, ⟨15, 4, .ro, []⟩, ⟨3, 3, .ro, []⟩, ⟨2, 2, .ro, []⟩, ⟨1, 1, .ro, []⟩]⟩,
   ⟨0x100004, 1, 0x4, .sys, 0x0, [⟨6, 6, .ro, []⟩, ⟨5, 5, .w1c, []⟩, ⟨4, 4, .w1c, []⟩, ⟨3, 3, .w1c, []⟩, ⟨2, 2, .w1c, []⟩, ⟨1, 1, .w1c, []⟩, ⟨0, 0, .w1c, []⟩]⟩,
   ⟨0x100008, 1, 0x4, .sys, 0x0, [⟨6, 0, .rw, []⟩]⟩,
   ⟨0x10000C, 1, 0x4, .sys, 0x0, [⟨31, 0, .ro, []⟩]⟩,
   ⟨0x100010, 1, 0x4, .sys, 0x0, [⟨15, 0, .ro, []⟩]⟩,
   ⟨0x100014, 1, 0x4, .sys, 0x64, [⟨9, 0, .ro, []⟩]⟩,
   ⟨0x100018, 1, 0x4, .sys, 0x140190, [⟨23, 16, .ro, []⟩, ⟨15, 0, .ro, []⟩]⟩,
   ⟨0x10001C, 1, 0x4, .sys, 0xFDF8, [⟨31, 31, .ro, []⟩, ⟨30, 30, .ro, []⟩, ⟨15, 8, .ro, []⟩, ⟨7, 0, .ro, []⟩]⟩,
   ⟨0x100020, 2, 0x4, .sys, 0x40008000, [⟨31, 30, .ro, []⟩, ⟨29, 28, .ro, []⟩, ⟨15, 0, .ro, []⟩]⟩,
   ⟨0x100028, 2, 0x4, .sys, 0x0, [⟨31, 31, .ro, []⟩, ⟨30, 30, .ro, []⟩, ⟨29, 29, .ro, []⟩, ⟨15, 0, .ro, []⟩]⟩,
   ⟨0x100100, 4, 0x4, .sys, 0xA0000000, [⟨31, 31, .ro, []⟩, ⟨30, 30, .ro, []⟩, ⟨29, 29, .ro, []⟩, ⟨28, 28, .ro, []⟩, ⟨27, 27, .ro, []⟩, ⟨26, 26, .ro, []⟩]⟩,
   ⟨0x100110, 4, 0x4, .sys, 0x0, [⟨31, 31, .ro, []⟩, ⟨30, 30, .ro, []⟩, ⟨29, 29, .ro, []⟩, ⟨28, 28, .ro, []⟩, ⟨27, 27, .ro, []⟩, ⟨26, 26, .ro, []⟩, ⟨15, 0, .ro, []⟩]⟩]

/-- Registers of the RSR block, part 1. -/
def Reg.rowsRSR1 : List RegRow :=
  [⟨0x100120, 4, 0x4, .sys, 0x4, [⟨5, 0, .rw, [(1, 36)]⟩]⟩,
   ⟨0x100140, 4, 0x4, .sys, 0x0, [⟨31, 31, .ro, []⟩, ⟨29, 24, .ro, []⟩, ⟨21, 16, .ro, []⟩, ⟨15, 0, .ro, []⟩]⟩,
   ⟨0x100200, 64, 0x8, .sys, 0x0, [⟨31, 0, .ro, []⟩]⟩,
   ⟨0x100204, 64, 0x8, .sys, 0x0, [⟨31, 31, .ro, []⟩, ⟨15, 0, .ro, []⟩]⟩,
   ⟨0x101000, 48, 0x8, .sys, 0x0, [⟨31, 0, .ro, []⟩]⟩,
   ⟨0x101800, 2, 0x4, .sys, 0x0, [⟨31, 0, .ro, []⟩]⟩]

/-- Registers of the TWN block, part 0. -/
def Reg.rowsTWN0 : List RegRow :=
  [⟨0x110000, 1, 0x4, .sys, 0x0, [⟨2, 2, .wo, []⟩, ⟨1, 1, .rw, []⟩, ⟨0, 0, .rw, []⟩]⟩,
   ⟨0x110004, 1, 0x4, .sys, 0x100CCD, [⟨31, 31, .ro, []⟩, ⟨23, 16, .ro, [(1, 255)]⟩, ⟨15, 0, .ro, [(1, 65535)]⟩]⟩,
   ⟨0x110008, 1, 0x4, .sys, 0x0, [⟨31, 30, .ro, []⟩, ⟨29, 29, .ro, []⟩, ⟨28, 28, .ro, []⟩, ⟨27, 27, .ro, []⟩, ⟨26, 26, .ro, []⟩, ⟨25, 25, .ro, []⟩, ⟨24, 24, .ro, []⟩, ⟨15, 8, .ro, []⟩]⟩,
   ⟨0x11000C, 1, 0x4, .sys, 0x0, [⟨15, 0, .ro, []⟩]⟩,
   ⟨0x110010, 1, 0x4, .sys, 0x0, [⟨31, 0, .ro, []⟩]⟩,
   ⟨0x110014, 1, 0x4, .sys, 0x0, [⟨31, 0, .ro, []⟩]⟩,
   ⟨0x110018, 1, 0x4, .sys, 0x0, [⟨9, 0, .ro, []⟩]⟩,
   ⟨0x11001C, 1, 0x4, .sys, 0x0, [⟨31, 0, .ro, []⟩]⟩,
   ⟨0x110020, 1, 0x4, .sys, 0x0, [⟨31, 0, .ro, []⟩]⟩,
   ⟨0x110024, 1, 0x4, .sys, 0x0, [⟨4, 0, .rw, []⟩]⟩,
   ⟨0x110028, 1, 0x4, .sys, 0x0, [⟨4, 4, .w1c, []⟩, ⟨3, 3, .w1c, []⟩, ⟨2, 2, .w1c, []⟩, ⟨1, 1, .w1c, []⟩, ⟨0, 0, .w1c, []⟩]⟩,
   ⟨0x110040, 1, 0x4, .sys, 0x0, [⟨31, 0, .rc, []⟩]⟩]

/-- Registers of the TWN block, part 1. -/
def Reg.rowsTWN1 : List RegRow :=
  [⟨0x110044, 1, 0x4, .sys, 0x0, [⟨31, 0, .rc, []⟩]⟩,
   ⟨0x110048, 1, 0x4, .sys, 0x0, [⟨31, 0, .rc, []⟩]⟩,
   ⟨0x11004C, 1, 0x4, .sys, 0x0, [⟨31, 0, .rc, []⟩]⟩,
   ⟨0x110050, 1, 0x4, .sys, 0x0, [⟨31, 0, .rc, []⟩]⟩,
   ⟨0x110054, 1, 0x4, .sys, 0x0, [⟨31, 0, .rc, []⟩]⟩]

/-- Registers of the EVR block, part 0. -/
def Reg.rowsEVR0 : List RegRow :=
  [⟨0x120000, 1, 0x4, .sys, 0x0, [⟨0, 0, .wo, []⟩]⟩,
   ⟨0x120004, 1, 0x4, .sys, 0x0, [⟨4, 4, .w1c, []⟩, ⟨3, 3, .w1c, []⟩, ⟨2, 2, .w1c, []⟩, ⟨1, 1, .w1c, []⟩, ⟨0, 0, .ro, []⟩]⟩,
   ⟨0x120008, 1, 0x4, .sys, 0x0, [⟨4, 0, .rw, []⟩]⟩,
   ⟨0x12000C, 1, 0x4, .sys, 0x0, [⟨31, 0, .ro, []⟩]⟩,
   ⟨0x120010, 1, 0x4, .sys, 0x0, [⟨10, 0, .ro, []⟩]⟩,
   ⟨0x120014, 1, 0x4, .sys, 0x0, [⟨31, 0, .ro, []⟩]⟩,
   ⟨0x120018, 1, 0x4, .sys, 0x0, [⟨31, 0, .rc, []⟩]⟩,
   ⟨0x12001C, 1, 0x4, .sys, 0x0, [⟨31, 0, .rc, []⟩]⟩,
   ⟨0x120020, 1, 0x4, .sys, 0x0, [⟨31, 0, .rc, []⟩]⟩,
   ⟨0x120100, 1, 0x4, .sys, 0x0, [⟨31, 31, .rw, []⟩, ⟨13, 0, .rw, []⟩]⟩,
   ⟨0x120120, 8, 0x4, .sys, 0x0, [⟨31, 0, .ro, []⟩]⟩,
   ⟨0x120200, 1, 0x4, .sys, 0x0, [⟨31, 31, .rw, []⟩, ⟨13, 0, .rw, []⟩]⟩]

/-- Registers of the EVR block, part 1. -/
def Reg.rowsEVR1 : List RegRow :=
  [⟨0x120220, 8, 0x4, .sys, 0x0, [⟨31, 0, .ro, []⟩]⟩,
   ⟨0x120300, 4, 0x4, .sys, 0x0, [⟨31, 0, .rw, []⟩]⟩,
   ⟨0x120310, 4, 0x4, .sys, 0x0, [⟨31, 0, .rw, []⟩]⟩,
   ⟨0x121000, 256, 0x4, .sys, 0x400010, [⟨31, 31, .rw, []⟩, ⟨30, 16, .rw, [(1, 32767)]⟩, ⟨15, 0, .rw, []⟩]⟩]

/-- Registers of the DSP block. -/
def Reg.rowsDSP : List RegRow :=
  [⟨0x130000, 1, 0x4, .sys, 0x0, [⟨3, 3, .w1c, []⟩, ⟨2, 2, .w1c, []⟩, ⟨1, 1, .w1c, []⟩, ⟨0, 0, .w1c, []⟩]⟩,
   ⟨0x130004, 1, 0x4, .sys, 0x0, [⟨3, 0, .rw, []⟩]⟩,
   ⟨0x130008, 1, 0x4, .sys, 0x0, [⟨31, 0, .ro, []⟩]⟩,
   ⟨0x130100, 2, 0x4, .sys, 0x0, [⟨31, 31, .rw, []⟩]⟩,
   ⟨0x130110, 2, 0x4, .sys, 0x0, [⟨31, 21, .rw, [(1, 1200)]⟩, ⟨20, 13, .rw, [(1, 200)]⟩, ⟨12, 9, .rw, []⟩, ⟨8, 5, .rw, []⟩]⟩,
   ⟨0x130120, 2, 0x4, .sys, 0xA0880190, [⟨31, 24, .rw, [(94, 160)]⟩, ⟨23, 20, .rw, [(4, 15)]⟩, ⟨19, 10, .rw, []⟩, ⟨9, 2, .rw, []⟩]⟩,
   ⟨0x130130, 2, 0x4, .sys, 0x0, [⟨31, 29, .ro, []⟩, ⟨28, 28, .ro, []⟩, ⟨27, 24, .ro, []⟩, ⟨23, 16, .ro, []⟩, ⟨10, 0, .ro, []⟩]⟩,
   ⟨0x130140, 2, 0x4, .sys, 0x0, [⟨11, 0, .ro, []⟩]⟩,
   ⟨0x130150, 2, 0x4, .sys, 0xC80000, [⟨31, 16, .rw, [(1, 20000)]⟩, ⟨15, 0, .ro, []⟩]⟩,
   ⟨0x130160, 2, 0x4, .sys, 0x0, [⟨31, 0, .ro, []⟩]⟩]

/-- Registers of the CAN block, part 0. -/
def Reg.rowsCAN0 : List RegRow :=
  [⟨0x140000, 4, 0x1000, .sys, 0x0, [⟨31, 31, .ro, []⟩, ⟨30, 24, .ro, []⟩, ⟨23, 23, .ro, []⟩, ⟨22, 21, .ro, [(0, 2)]⟩, ⟨20, 20, .ro, []⟩, ⟨19, 19, .ro, []⟩, ⟨18, 18, .ro, []⟩, ⟨17, 17, .ro, []⟩, ⟨16, 16, .ro, []⟩]⟩,
   ⟨0x140004, 4, 0x1000, .sys, 0x0, [⟨31, 24, .ro, []⟩, ⟨23, 16, .ro, [(1, 255)]⟩, ⟨14, 8, .ro, []⟩, ⟨6, 0, .ro, []⟩]⟩,
   ⟨0x140008, 4, 0x1000, .sys, 0x0, [⟨28, 24, .ro, []⟩, ⟨20, 16, .ro, []⟩, ⟨11, 8, .ro, []⟩, ⟨3, 0, .ro, []⟩]⟩,
   ⟨0x14000C, 4, 0x1000, .sys, 0x0, [⟨30, 24, .ro, []⟩]⟩,
   ⟨0x140010, 4, 0x1000, .sys, 0x0, [⟨31, 30, .ro, []⟩, ⟨29, 29, .ro, []⟩, ⟨28, 28, .w1c, []⟩, ⟨6, 0, .ro, []⟩]⟩,
   ⟨0x140014, 4, 0x1000, .sys, 0x0, [⟨23, 16, .ro, []⟩, ⟨15, 15, .ro, []⟩, ⟨14, 8, .ro, []⟩, ⟨2, 0, .rc, []⟩]⟩,
   ⟨0x140018, 4, 0x1000, .sys, 0x0, [⟨0, 0, .wo, []⟩]⟩,
   ⟨0x140040, 4, 0x1000, .sys, 0x0, [⟨31, 0, .rc, []⟩]⟩,
   ⟨0x140044, 4, 0x1000, .sys, 0x0, [⟨31, 0, .rc, []⟩]⟩,
   ⟨0x140048, 4, 0x1000, .sys, 0x0, [⟨31, 0, .rc, []⟩]⟩,
   ⟨0x14004C, 4, 0x1000, .sys, 0x0, [⟨31, 0, .rc, []⟩]⟩,
   ⟨0x140400, 64, 0x4, .sys, 0x0, [⟨31, 30, .ro, []⟩, ⟨29, 29, .ro, []⟩, ⟨28, 0, .ro, []⟩]⟩]

/-- Registers of the CAN block, part 1. -/
def Reg.rowsCAN1 : List RegRow :=
  [⟨0x141400, 64, 0x4, .sys, 0x0, [⟨31, 30, .ro, []⟩, ⟨29, 29, .ro, []⟩, ⟨28, 0, .ro, []⟩]⟩,
   ⟨0x142400, 64, 0x4, .sys, 0x0, [⟨31, 30, .ro, []⟩, ⟨29, 29, .ro, []⟩, ⟨28, 0, .ro, []⟩]⟩,
   ⟨0x143400, 64, 0x4, .sys, 0x0, [⟨31, 30, .ro, []⟩, ⟨29, 29, .ro, []⟩, ⟨28, 0, .ro, []⟩]⟩,
   ⟨0x140500, 64, 0x4, .sys, 0x0, [⟨31, 31, .ro, []⟩, ⟨30, 30, .ro, []⟩, ⟨28, 0, .ro, []⟩]⟩,
   ⟨0x141500, 64, 0x4, .sys, 0x0, [⟨31, 31, .ro, []⟩, ⟨30, 30, .ro, []⟩, ⟨28, 0, .ro, []⟩]⟩,
   ⟨0x142500, 64, 0x4, .sys, 0x0, [⟨31, 31, .ro, []⟩, ⟨30, 30, .ro, []⟩, ⟨28, 0, .ro, []⟩]⟩,
   ⟨0x143500, 64, 0x4, .sys, 0x0, [⟨31, 31, .ro, []⟩, ⟨30, 30, .ro, []⟩, ⟨28, 0, .ro, []⟩]⟩,
   ⟨0x140600, 64, 0x4, .sys, 0x0, [⟨27, 27, .ro, []⟩, ⟨26, 26, .ro, []⟩, ⟨25, 25, .ro, []⟩, ⟨24, 24, .ro, []⟩, ⟨23, 23, .w1c, []⟩]⟩,
   ⟨0x141600, 64, 0x4, .sys, 0x0, [⟨27, 27, .ro, []⟩, ⟨26, 26, .ro, []⟩, ⟨25, 25, .ro, []⟩, ⟨24, 24, .ro, []⟩, ⟨23, 23, .w1c, []⟩]⟩,
   ⟨0x142600, 64, 0x4, .sys, 0x0, [⟨27, 27, .ro, []⟩, ⟨26, 26, .ro, []⟩, ⟨25, 25, .ro, []⟩, ⟨24, 24, .ro, []⟩, ⟨23, 23, .w1c, []⟩]⟩,
   ⟨0x143600, 64, 0x4, .sys, 0x0, [⟨27, 27, .ro, []⟩, ⟨26, 26, .ro, []⟩, ⟨25, 25, .ro, []⟩, ⟨24, 24, .ro, []⟩, ⟨23, 23, .w1c, []⟩]⟩,
   ⟨0x148000, 1, 0x4, .sys, 0x0, [⟨7, 6, .rw, []⟩, ⟨5, 0, .rw, []⟩]⟩]

/-- Registers of the CAN block, part 2. -/
def Reg.rowsCAN2 : List RegRow :=
  [⟨0x148020, 21, 0x4, .sys, 0x0, [⟨31, 0, .ro, []⟩]⟩,
   ⟨0x148100, 1, 0x4, .sys, 0x0, [⟨7, 6, .rw, []⟩, ⟨5, 0, .rw, []⟩]⟩,
   ⟨0x148120, 21, 0x4, .sys, 0x0, [⟨31, 0, .ro, []⟩]⟩,
   ⟨0x14F000, 1, 0x4, .sys, 0x0, [⟨7, 4, .w1c, []⟩, ⟨3, 0, .w1c, []⟩]⟩,
   ⟨0x14F004, 1, 0x4, .sys, 0x0, [⟨7, 0, .rw, []⟩]⟩]

/-- Registers of the SER block. -/
def Reg.rowsSER : List RegRow :=
  [⟨0x150000, 8, 0x100, .sys, 0x0, [⟨31, 31, .ro, []⟩, ⟨30, 24, .ro, []⟩, ⟨23, 23, .ro, []⟩, ⟨22, 22, .ro, []⟩]⟩,
   ⟨0x150004, 8, 0x100, .sys, 0x0, [⟨31, 16, .ro, []⟩, ⟨15, 12, .ro, []⟩, ⟨11, 10, .ro, [(0, 2)]⟩, ⟨9, 9, .ro, []⟩, ⟨8, 8, .ro, []⟩]⟩,
   ⟨0x150008, 8, 0x100, .sys, 0x0, [⟨31, 16, .ro, [(2, 65535)]⟩, ⟨15, 8, .ro, []⟩, ⟨7, 0, .ro, []⟩]⟩,
   ⟨0x15000C, 8, 0x100, .sys, 0x0, [⟨31, 31, .ro, []⟩, ⟨30, 30, .ro, []⟩, ⟨29, 29, .ro, []⟩]⟩,
   ⟨0x150020, 8, 0x100, .sys, 0x0, [⟨31, 0, .rc, []⟩]⟩,
   ⟨0x150024, 8, 0x100, .sys, 0x0, [⟨31, 0, .rc, []⟩]⟩,
   ⟨0x150028, 8, 0x100, .sys, 0x0, [⟨31, 0, .rc, []⟩]⟩,
   ⟨0x15002C, 8, 0x100, .sys, 0x0, [⟨31, 0, .rc, []⟩]⟩,
   ⟨0x150030, 8, 0x100, .sys, 0x0, [⟨31, 0, .rc, []⟩]⟩,
   ⟨0x15F000, 1, 0x4, .sys, 0x0, [⟨15, 8, .w1c, []⟩, ⟨7, 0, .w1c, []⟩]⟩,
   ⟨0x15F004, 1, 0x4, .sys, 0x0, [⟨15, 0, .rw, []⟩]⟩]

/-- Registers of the KEY block. -/
def Reg.rowsKEY : List RegRow :=
  [⟨0x160000, 1, 0x4, .sys, 0x0, [⟨31, 31, .ro, []⟩, ⟨3, 3, .w1c, []⟩, ⟨2, 2, .w1c, []⟩, ⟨1, 1, .w1c, []⟩, ⟨0, 0, .w1c, []⟩]⟩,
   ⟨0x160004, 1, 0x4, .sys, 0x0, [⟨3, 0, .rw, []⟩]⟩,
   ⟨0x160100, 64, 0x4, .sys, 0x0, [⟨31, 31, .rw, []⟩, ⟨30, 24, .rw, []⟩, ⟨23, 23, .rw, []⟩, ⟨22, 22, .rw, []⟩, ⟨21, 21, .rw, []⟩, ⟨19, 16, .rw, []⟩, ⟨13, 8, .rw, []⟩]⟩,
   ⟨0x160200, 64, 0x4, .sys, 0x0, [⟨31, 0, .rw, []⟩]⟩,
   ⟨0x160300, 64, 0x4, .sys, 0x0, [⟨31, 30, .ro, []⟩, ⟨29, 28, .ro, []⟩, ⟨27, 24, .ro, []⟩, ⟨15, 0, .ro, []⟩]⟩,
   ⟨0x160400, 64, 0x4, .sys, 0x0, [⟨31, 0, .ro, []⟩]⟩]

/-- Registers of the UPD block. -/
def Reg.rowsUPD : List RegRow :=
  [⟨0x170000, 1, 0x4, .sys, 0x0, [⟨31, 31, .rw, []⟩, ⟨29, 24, .rw, []⟩, ⟨23, 23, .rw, []⟩, ⟨22, 20, .rw, []⟩]⟩,
   ⟨0x170004, 1, 0x4, .sys, 0x0, [⟨31, 30, .ro, []⟩, ⟨29, 29, .ro, []⟩, ⟨28, 28, .ro, []⟩, ⟨27, 27, .ro, []⟩, ⟨26, 26, .ro, []⟩, ⟨4, 4, .w1c, []⟩, ⟨3, 3, .w1c, []⟩, ⟨2, 2, .w1c, []⟩, ⟨1, 1, .w1c, []⟩, ⟨0, 0, .w1c, []⟩]⟩,
   ⟨0x170008, 1, 0x4, .sys, 0x0, [⟨4, 0, .rw, []⟩]⟩,
   ⟨0x17000C, 1, 0x4, .sys, 0x0, [⟨31, 28, .wo, []⟩, ⟨0, 0, .wo, []⟩]⟩,
   ⟨0x170010, 1, 0x4, .sys, 0x0, [⟨31, 0, .ro, []⟩]⟩,
   ⟨0x170030, 1, 0x4, .sys, 0x0, [⟨31, 0, .rw, []⟩]⟩,
   ⟨0x170034, 1, 0x4, .sys, 0x0, [⟨31, 0, .ro, []⟩]⟩,
   ⟨0x170038, 1, 0x4, .sys, 0x0, [⟨31, 31, .ro, []⟩, ⟨7, 0, .ro, []⟩]⟩,
   ⟨0x170020, 2, 0x4, .sys, 0x0, [⟨31, 29, .ro, []⟩, ⟨28, 28, .ro, []⟩, ⟨27, 26, .ro, []⟩, ⟨12, 0, .ro, []⟩]⟩,
   ⟨0x170028, 2, 0x4, .sys, 0x0, [⟨31, 0, .ro, []⟩]⟩,
   ⟨0x170040, 8, 0x4, .sys, 0x0, [⟨31, 0, .w1c, []⟩]⟩]

/-- Registers of the SEM block. -/
def Reg.rowsSEM : List RegRow :=
  [⟨0x180000, 64, 0x4, .sys, 0x0, [⟨31, 31, .ro, []⟩, ⟨30, 30, .ro, []⟩, ⟨29, 29, .ro, []⟩, ⟨15, 0, .ro, []⟩]⟩,
   ⟨0x180100, 64, 0x4, .sys, 0x0, [⟨31, 30, .wo, []⟩, ⟨15, 0, .wo, []⟩]⟩,
   ⟨0x180200, 1, 0x4, .sys, 0x0, [⟨15, 0, .rw, []⟩]⟩]

/-- The rows of block `b`: the blocks of R18, in the order of their offsets. -/
def Reg.blockRows : Nat → List RegRow
  | 0 => Reg.rowsSYS
  | 1 => Reg.rowsCLK
  | 2 => Reg.rowsRST
  | 3 => Reg.rowsPWR
  | 4 => Reg.rowsRTC0 ++ Reg.rowsRTC1
  | 5 => Reg.rowsTCK
  | 6 => Reg.rowsPRT
  | 7 => Reg.rowsHPC0 ++ Reg.rowsHPC1 ++ Reg.rowsHPC2
  | 8 => Reg.rowsQPL0 ++ Reg.rowsQPL1
  | 9 => Reg.rowsFLD0 ++ Reg.rowsFLD1 ++ Reg.rowsFLD2
  | 10 => Reg.rowsPTX0 ++ Reg.rowsPTX1
  | 11 => Reg.rowsLGE0 ++ Reg.rowsLGE1
  | 12 => Reg.rowsCLE
  | 13 => Reg.rowsLIO0 ++ Reg.rowsLIO1
  | 14 => Reg.rowsMTR0 ++ Reg.rowsMTR1
  | 15 => Reg.rowsSAF0 ++ Reg.rowsSAF1
  | 16 => Reg.rowsRSR0 ++ Reg.rowsRSR1
  | 17 => Reg.rowsTWN0 ++ Reg.rowsTWN1
  | 18 => Reg.rowsEVR0 ++ Reg.rowsEVR1
  | 19 => Reg.rowsDSP
  | 20 => Reg.rowsCAN0 ++ Reg.rowsCAN1 ++ Reg.rowsCAN2
  | 21 => Reg.rowsSER
  | 22 => Reg.rowsKEY
  | 23 => Reg.rowsUPD
  | 24 => Reg.rowsSEM
  | _ => []

/-- Whether `off` is an element of the row. -/
def RegRow.covers (r : RegRow) (off : Nat) : Bool :=
  r.base ≤ off && (off - r.base) % r.stride = 0 && (off - r.base) / r.stride < r.count

/-- The row that holds the register at a BAR0 offset, if the chapters define one there (R20). -/
def Reg.row? (off : Nat) : Option RegRow :=
  (Reg.blockRows (off / 0x10000)).find? (fun r => r.covers off)

/-- The index of the register at `off` within its row. -/
def RegRow.index (r : RegRow) (off : Nat) : Nat := (off - r.base) / r.stride

/-- Whether a field defines the value `n` (R11). -/
def FieldRow.defines (f : FieldRow) (n : Nat) : Bool :=
  f.vals.isEmpty || f.vals.any (fun p => p.1 ≤ n && n ≤ p.2)

end Sys2Proof.Machine
end

