-- ==== Sys2Proof/Machine/Store.lean ====
section
/-! DEFINITION. Sparse storage as plain data: a list of (key, value) pairs with strictly rising keys that lists no
entry equal to what an unlisted key reads as. Registers, host memory, the image and the tables are held this way. -/

namespace Sys2Proof.Machine

/-- Sparse storage keyed by a number. -/
abbrev Store (α : Type) := List (Nat × α)

/-- The value at key `k`; an unlisted key reads as `d k`. -/
def Store.get {α : Type} (d : Nat → α) : Store α → Nat → α
  | [], k => d k
  | (k', v) :: m, k => if k' = k then v else Store.get d m k

/-- Put an entry before the first one with a greater key. -/
def Store.insert {α : Type} : Store α → Nat → α → Store α
  | [], k, v => [(k, v)]
  | (k', v') :: m, k, v => if k < k' then (k, v) :: (k', v') :: m else (k', v') :: Store.insert m k v

/-- Store `v` at key `k`, keeping the canonical form. (DESIGN CHOICE, log 123) -/
def Store.put {α : Type} [DecidableEq α] (d : Nat → α) (m : Store α) (k : Nat) (v : α) : Store α :=
  if v = d k then m.filter (fun e => e.1 != k) else Store.insert (m.filter (fun e => e.1 != k)) k v

/-- Every key is at least `b`, keys rise strictly, and no entry equals its default. -/
def Store.wfFrom {α : Type} [DecidableEq α] (d : Nat → α) : Nat → Store α → Bool
  | _, [] => true
  | b, (k, v) :: m => decide (b ≤ k) && !decide (v = d k) && Store.wfFrom d (k + 1) m

/-- The canonical form. (DESIGN CHOICE, log 123) -/
def Store.wf {α : Type} [DecidableEq α] (d : Nat → α) (m : Store α) : Bool := Store.wfFrom d 0 m

/-- Store a list of values at consecutive keys. -/
def Store.putList {α : Type} [DecidableEq α] (d : Nat → α) (m : Store α) (k : Nat) : List α → Store α
  | [] => m
  | v :: vs => Store.putList d (Store.put d m k v) (k + 1) vs

/-- The values at `n` consecutive keys. -/
def Store.getList {α : Type} (d : Nat → α) (m : Store α) (k : Nat) : Nat → List α
  | 0 => []
  | n + 1 => Store.get d m k :: Store.getList d m (k + 1) n

end Sys2Proof.Machine
end

