-- ==== Sys2Proof/Machine/State.lean ====
section
/-! DEFINITION. The state of the block: every register, buffer, table, counter, mode and pin the spec gives it, as
plain data, the queue of waiting commands, and the state right after reset. -/

namespace Sys2Proof.Machine

/-- What the block shows the outside world, in the order it happens. -/
inductive Out where
  /-- A completed register read: the port, the offset, the bytes read and the data. -/
  | readData (x : HPort) (off size : Nat) (data : Word)
  /-- A register access completed with a Completer Abort (R657). -/
  | completerAbort (x : HPort) (off : Nat)
  /-- An MSI-X message (R169). -/
  | msix (x : HPort) (vector addr : Nat) (data : Word)
  /-- The transmission of a frame from a transmit queue ended with a bad FCS or CRC (R188). -/
  | badFcs (queue : Nat) (data : List Byte)
  /-- A read request to host memory, with the PASID it carries (R107). -/
  | memRead (x : HPort) (pasid : Option Nat) (addr len : Nat)
  /-- A write request to host memory, with the PASID it carries (R107, R130). -/
  | memWrite (x : HPort) (pasid : Option Nat) (addr : Nat) (data : List Byte)
  /-- A packet that a consumer without a command of its own reads (R185). -/
  | packet (q : Nat) (data : List Byte)
  /-- A frame the module sends on a field port, without FCS. -/
  | fieldFrame (port : Nat) (data : List Byte)
  /-- A PLCA beacon on a T1S segment (R206). -/
  | beacon (seg : Nat)
  /-- A command word on the PWRCTL sideband (R230). -/
  | pwrctl (word : BitVec 64)
  /-- An MDIO access of a PHY (R244): port, device, register and the data written. -/
  | mdio (port dev reg : Nat) (data : Option Nat)
  /-- A local analogue output's code (R365). -/
  | analogue (ch code : Nat)
  /-- A driven digital pin (R366). -/
  | digital (pin : Nat) (level : Bool)
  /-- A PWM output's period start: duty in 5 ns and active level low (R368). -/
  | pwm (ch duty : Nat) (low : Bool)
  /-- A pulse output changes to its active or inactive level (R414). -/
  | pulse (k : Nat) (on low : Bool)
  /-- MODPWR_B_EN: the carrier rail of the theft watch is switched on for a burst and off after it (R417). -/
  | modPower (on : Bool)
  /-- Modulator clock pins start or stop being driven, pin k by bit k of `pins` (R380, R417). -/
  | mclk (pins : Nat) (on : Bool)
  /-- A gate signal of a brake switch: channel X high side, channel Y low side (R434). -/
  | gate (c : SafCh) (k : Nat) (level : Bool)
  /-- A frame the module sends on a riser port, without FCS; `good` says whether its FCS is good, `sec` gives the MACsec
  association and packet number that protect it (R479, R494, R496). -/
  | riserFrame (port : Nat) (data : List Byte) (good : Bool) (sec : Option (Nat × Nat))
  /-- The indicator of a riser port changes: 0 dark, 1 lit, 2 flashing at 4 Hz (R685). -/
  | portLight (port mode : Nat)
  /-- The supply of a cage's optic is switched on or off (R477). -/
  | opticSupply (port : Nat) (on : Bool)
  /-- An IEEE 802.1AS Sync message with the module's time (R493). -/
  | syncMessage (port : Nat) (sec : BitVec 48) (frac : Word)
  /-- The power signals of a panel: PWREN and VCOMEN (R573). -/
  | panelPower (n : Nat) (pwren vcomen : Bool)
  /-- A display frame of a panel: its scanned rows, each with the phase codes of its columns (R560 to R562). -/
  | panelFrame (n : Nat) (rows : List (Nat × List Nat))
  /-- A character burst of an RS-485 port, with whether RE_N goes high for it (R594). -/
  | serialBurst (port : Nat) (data : List Byte) (deaf : Bool)
  /-- SERp_DE and then SERp_RE_N go low (R594). -/
  | serialRelease (port : Nat)
  /-- ACT_OUT changes (R508). -/
  | actOut (level : Bool)
  /-- A frame record on the twin link (R513). -/
  | frameRecord (r : TwinRec)
  /-- The standby's return record on the twin link (R522). -/
  | returnRecord (n : PeerNote)
  /-- A system reset or power-on reset takes effect; bit `cause` of RST_CAUSE (R649, R667). -/
  | reset (cause : Nat)
  deriving DecidableEq, Repr

/-- A packet in the queue pool: its bytes, and what the link memory holds of it (R178). -/
structure Pkt where
  data : List Byte
  src : Nat
  err : Nat
  frame : Nat
  /-- The transmit command's staging reference: port, ring set and operation number (R179). -/
  op : Option (HPort × Part × Nat)
  /-- A point frame or subscription frame, whose allocation is tick-critical (R194). -/
  point : Bool
  /-- The worst error in its cells: 0 none, 1 correctable, 2 uncorrectable (R187, R188, R197). -/
  ecc : Nat
  /-- Its number in the order in which packets were written into the pool. -/
  seq : Nat
  deriving DecidableEq, Repr

/-- The progress of a command in its operation slot (R132). A transmit command that stays in the ring while later ones are fetched
is `passed` (R179). -/
inductive OpState where
  | passed | fetched | started | done
  deriving DecidableEq, Repr

/-- A command that holds an operation slot (R132), with what its completion will say (R161). -/
structure Op where
  id : Nat
  desc : Desc
  st : OpState
  status : Nat
  epoch : Nat
  r0 : Word
  r1 : Word
  deriving DecidableEq, Repr

/-- A ring set of a host port (R142, R143, R147): its committed configuration, its indices and its work. The state
code is the ring set's field of `HPC_STATEx`. -/
structure RingSet where
  cmdB : Nat
  cplB : Nat
  evtB : Nat
  rxB : Nat
  size : Word
  cfg : Word
  hold : Word
  cmdPi : Nat
  cmdCi : Nat
  cplPi : Nat
  cplCi : Nat
  evtPi : Nat
  evtCi : Nat
  rxPi : Nat
  rxCi : Nat
  cplPhase : Bool
  evtPhase : Bool
  armCpl : Bool
  armEvt : Bool
  armRx : Bool
  /-- The coalescing timers that run (R170). -/
  dueCpl : Bool
  dueEvt : Bool
  dueRx : Bool
  /-- Receive write-backs that no vector has announced yet (R170). -/
  rxNew : Bool
  errc : Nat
  rxNoBuf : Nat
  evtLost : Nat
  dbErr : Nat
  /-- Entries lost since the last KIND 0x06 entry (R164). -/
  lostSince : Nat
  /-- Fetched commands that hold operation slots, in command-ring order (R132, R154), with the transmit commands passed over
  (R179), which hold none yet. -/
  ops : List Op
  nextOp : Nat
  /-- The hold time of the head receive frame runs (R167). -/
  holding : Bool
  deriving DecidableEq, Repr

/-- A ring set as reset leaves it: the committed configuration holds the staging registers' reset values.
(DESIGN CHOICE, log 64) -/
def RingSet.reset : RingSet where
  cmdB := 0
  cplB := 0
  evtB := 0
  rxB := 0
  size := 0x6666
  cfg := 0x100000
  hold := 0x7D0
  cmdPi := 0
  cmdCi := 0
  cplPi := 0
  cplCi := 0
  evtPi := 0
  evtCi := 0
  rxPi := 0
  rxCi := 0
  cplPhase := true
  evtPhase := true
  armCpl := false
  armEvt := false
  armRx := false
  dueCpl := false
  dueEvt := false
  dueRx := false
  rxNew := false
  errc := 0
  rxNoBuf := 0
  evtLost := 0
  dbErr := 0
  lostSince := 0
  ops := []
  nextOp := 0
  holding := false

/-- The default of the ring-set store. -/
def RingSet.dflt (_ : Nat) : RingSet := RingSet.reset

/-- The default of a byte store. (DESIGN CHOICE, log 7) -/
def byteZero (_ : Nat) : Byte := 0

/-- The default of a store of words. -/
def wordZero (_ : Nat) : Word := 0

/-- The default of a store of numbers. -/
def natZero (_ : Nat) : Nat := 0

/-- The default of a store of flags. -/
def noFlag (_ : Nat) : Bool := false

/-- The host-ring engines, the host memories and what the links hold (chapter "Host Ports, Semaphores and Descriptor Rings"). -/
structure HostSt where
  /-- Ring sets, keyed `2 * p + x`. -/
  rings : Store RingSet
  /-- Host memory behind HP0 and behind HP1. -/
  mem0 : Store Byte
  mem1 : Store Byte
  bad0 : List (Nat × Nat)
  bad1 : List (Nat × Nat)
  pci0 : PciCfg
  pci1 : PciCfg
  /-- The MSI-X table, keyed `4 * vector + word`, and the pending-bit array (R129, R171). -/
  tbl0 : Store Word
  tbl1 : Store Word
  pba0 : Store Bool
  pba1 : Store Bool
  /-- The ring set that last got a slot beyond the guaranteed ones (R133). -/
  turn0 : Nat
  turn1 : Nat
  /-- The port that last held SEM0 (R105). -/
  semLast : Option HPort
  /-- The ring set whose STOP each port's HPC_RSCMDx still waits for (R175). -/
  stop0 : Option Nat
  stop1 : Option Nat
  deriving DecidableEq, Repr

/-- The PCI Express configuration as reset leaves it. (PRESUMED, log 40) -/
def PciCfg.reset : PciCfg :=
  { busMaster := false, pasidOn := false, msixOn := false, funcMask := false, d3hot := false }

/-- The MSI-X table as reset leaves it: every vector is masked. (PRESUMED, log 40) -/
def msixReset (k : Nat) : Word := if k % 4 = 3 then 1 else 0

/-- The reset value of the host-ring part. (DESIGN CHOICE, log 7, 64) -/
def HostSt.reset : HostSt where
  rings := []
  mem0 := []
  mem1 := []
  bad0 := []
  bad1 := []
  pci0 := PciCfg.reset
  pci1 := PciCfg.reset
  tbl0 := []
  tbl1 := []
  pba0 := []
  pba1 := []
  turn0 := 0
  turn1 := 0
  semLast := none
  stop0 := none
  stop1 := none

/-- A share entry in the form of PRT_SHW0 and PRT_SHW1 (R99). -/
structure Share where
  w0 : Word
  w1 : Word
  deriving DecidableEq, Repr

/-- An empty share entry. -/
def Share.dflt (_ : Nat) : Share := { w0 := 0, w1 := 0 }

/-- The share table and the tail of its staging path (chapter "Partitions and Tenant Separation"). -/
structure PrtSt where
  shares : Store Share
  deriving DecidableEq, Repr

/-- The queue pool (chapter "The Drift Queue Pool"). -/
structure PoolSt where
  /-- The packets each queue holds, oldest first. -/
  queues : Store (List Pkt)
  /-- Queues from this number up have had their guarantee withdrawn (R190). -/
  guarBelow : Nat
  /-- Flushes requested and not completed (R191): the queue and the packets it removes; and the operations that wait. -/
  flushing : List (Nat × Nat)
  flushOps : List (Nat × HPort × Part × Nat)
  /-- Queues with an error injected into the next cell written (R197). -/
  injC : Option Nat
  injU : Option Nat
  /-- Cells in the running link audit and the queue concerned (R189). -/
  audit : Option (Nat × Nat)
  /-- A queue configuration accepted and not yet applied (R181). -/
  cfgPend : Option (List Word)
  /-- Packets written so far. -/
  arrived : Nat
  deriving DecidableEq, Repr

/-- The default of the queue store. -/
def noPkts (_ : Nat) : List Pkt := []

/-- The reset value of the queue pool. (DESIGN CHOICE, log 64) -/
def PoolSt.reset : PoolSt where
  queues := []
  guarBelow := 1024
  flushing := []
  flushOps := []
  injC := none
  injU := none
  audit := none
  cfgPend := none
  arrived := 0

/-- The count, the staged time and the state of the servo (chapter "Tick, Frame and Building Time"). -/
structure TimeSt where
  sec : BitVec 48
  frac : Word
  /-- RTC_SEC as the last RTC_FRAC read of each port copied it (R53). -/
  snap0 : BitVec 48
  snap1 : BitVec 48
  /-- The second of the current frame as the last TCK_CUR read of each port copied it (R84). -/
  fsec0 : Word
  fsec1 : Word
  /-- The second of the current frame's first instant (R44). -/
  frameSec : BitVec 48
  /-- A copy that waits for the next base-tick boundary, with its source: 0 HP0, 1 HP1, 2 servo (R54, R58). -/
  staged : Option (BitVec 48 × Word × Nat)
  /-- After a step inside a frame: the count at the step and the ticks of the old frame issued since (R58). -/
  oldFrame : Option (BitVec 48 × Word × Nat)
  /-- Sync intervals: consecutive within ±0.5 µs, consecutive beyond it, and consecutive without Sync (R49, R50). -/
  good : Nat
  wild : Nat
  /-- A step has been applied since the current frame began, so that a join gap follows it (R58). -/
  stepped : Bool
  /-- The join gap that runs: the count at which the next frame begins, and the gap's length in units of 2^-32 s (R58, R59). -/
  gap : Option (Nat × Nat)
  /-- The module is in Keep state: VMAIN is absent (R74). -/
  keep : Bool
  /-- A second has rolled over in the Keep period (R74). -/
  rolled : Bool
  /-- OSF cause bits that went to 1 while the recorder was not running (R72). -/
  osfLate : Nat
  /-- The measurement that runs is automatic trim's (R71). -/
  measAuto : Bool
  /-- The measurement that runs (R68): the count at its start, the mains crossings taken in its window with the times of the first
  and the last, and the offset from the grandmaster in ns at its start. -/
  measFrom : Nat
  measN : Nat
  measFirst : Nat
  measLast : Nat
  measOfs : Int
  /-- The servo follows the gPTP domain of LAN B, and the Sync intervals PREF's domain has delivered meanwhile (R493). -/
  domB : Bool
  prefGood : Nat
  /-- Alarms that fire with SKIP: armed late, or passed by a forward step (R63, R64). -/
  lateAlarms : Nat
  deriving DecidableEq, Repr

/-- The reset value of the time part. The always-on domain's own reset has just set CPOR, which event 0x0403 still has to tell.
(DESIGN CHOICE, log 64) -/
def TimeSt.reset : TimeSt where
  sec := 0
  frac := 0
  snap0 := 0
  snap1 := 0
  fsec0 := 0
  fsec1 := 0
  frameSec := 0
  staged := none
  oldFrame := none
  good := 0
  wild := 0
  stepped := false
  gap := none
  keep := false
  rolled := false
  osfLate := 1
  measAuto := false
  measFrom := 0
  measN := 0
  measFirst := 0
  measLast := 0
  measOfs := 0
  domB := false
  prefGood := 0
  lateAlarms := 0

/-- A report on its way to the recorder, stamped when the unit detected the event (R537). -/
structure Report where
  code : Nat
  origin : Nat
  part : Nat
  p1 : Word
  p2 : Word
  p3 : Word
  sec : BitVec 48
  frac : Word
  tunt : Bool
  deriving DecidableEq, Repr

/-- A written record (R534) with the number it has in each tenant's view (R548, R549). -/
structure Rec where
  r : Report
  flags : Nat
  seq : Nat
  views : List (Nat × Nat)
  /-- The slot fails its CRC (R545, R551). -/
  torn : Bool
  deriving DecidableEq, Repr

/-- The default of a record area: a slot never written. -/
def noRec (_ : Nat) : Option Rec := none

/-- A rate-limit bucket (R546): its tokens, its suppressed count and the code of the first suppressed record. -/
structure Bucket where
  tokens : Nat
  supp : Nat
  first : Nat
  deriving DecidableEq, Repr

/-- A bucket is full after a system reset: the reset DEPTH is 0x0040 (R546, R127, R558). -/
def Bucket.dflt (_ : Nat) : Bucket := { tokens := 64, supp := 0, first := 0 }

/-- The event recorder (chapter "Moraine Event Recorder"). EVR_HEADSEQ, EVR_KCNT and EVR_KBASE hold the series. -/
structure RecSt where
  buf : List Report
  /-- Reports lost that no event 0x1202 has told yet, and whether a block reset lost them (R544, R553). -/
  lostN : Nat
  lostReset : Bool
  running : Bool
  roll : Store (Option Rec)
  keep : Store (Option Rec)
  /-- Buckets: 0 to 255 code groups, 256 + p tenants. -/
  buckets : Store Bucket
  /-- View counts of the tenants (R549). -/
  views : Store Nat
  /-- Records written that EVENT_DELIVERY has not yet taken (R550). -/
  deliver : List Rec
  deriving DecidableEq, Repr

/-- The reset value of the recorder: a blank MRAM. (DESIGN CHOICE, log 64) -/
def RecSt.reset : RecSt where
  buf := []
  lostN := 0
  lostReset := false
  running := false
  roll := []
  keep := []
  buckets := []
  views := []
  deliver := []

/-- The three variants (R2). -/
inductive Variant where
  | ofc960 | ofc940 | ofc920
  deriving DecidableEq, Repr

/-- SYS_CAP0 as the fuses load it (R29). -/
def Variant.cap0 : Variant → Nat
  | .ofc960 => 0x0030100F
  | .ofc940 => 0x00301005
  | .ofc920 => 0x00181001

/-- SYS_CAP1 as the fuses load it (R30). -/
def Variant.cap1 : Variant → Nat
  | .ofc960 => 0x50488884
  | .ofc940 => 0x50488000
  | .ofc920 => 0

/-- Whether block `b` of R18 belongs to a unit the variant does not have (R2, R31). -/
def Variant.lacks (v : Variant) (b : Nat) : Bool :=
  (b = 14 && !bitOf v.cap0 2) || (b = 15 && !bitOf v.cap0 1) || (b = 19 && !bitOf v.cap0 3)

/-- The number of fitted 10BASE-T1L ports (R29). -/
def Variant.t1l (v : Variant) : Nat := v.cap0 / 2 ^ 16 % 256

/-- Whether block `b` can be held in block reset (R656). -/
def Variant.resettable (v : Variant) (b : Nat) : Bool := 9 ≤ b && b ≤ 23 && !v.lacks b

/-- The blocks that can be held in block reset, as bits; all of them are held until the start sequence releases them (R652). -/
def resettableMask (v : Variant) : Nat :=
  (List.range 25).foldl (fun a b => a + ofBool (v.resettable b) * 2 ^ b) 0

/-- Whether queue `q` has a role in R179. -/
def queueHasRole (q : Nat) : Bool :=
  !(q = 419 || (432 ≤ q && q ≤ 511) || 832 ≤ q)

/-- The tag a queue has before any configuration load: its ring set's index for receive and staging queues (R199). -/
def queueResetTag (q : Nat) : Nat :=
  if q < 256 then q % 128 else if 512 ≤ q && q < 768 then q % 128 else 0

/-- Reset value of QPL_QATTR[q] (R199). -/
def queueResetAttr (q : Nat) : Nat :=
  ofBool (256 ≤ q && q ≤ 417) * 2 ^ 31 + ofBool (384 ≤ q && q ≤ 415) * 2 ^ 30 + queueResetTag q * 2 ^ 16

/-- The CRC of R119 over the reset configuration: PRT_PEN[0] = 1 and every other word 0. -/
def cfgCrcReset : Word := 0x5059BA33

/-- The low bits of the riser address: a free value outside the 64 field addresses (R214, R502). (DESIGN CHOICE, log 105) -/
def riserMacLow : Word :=
  if Config.macHigh 1 &&& 0xFCFF = Config.macHigh 0 &&& 0xFCFF && Config.macLow 1 &&& 0xFFFFFFC0 = Config.macLow 0 &&& 0xFFFFFFC0 then
    Config.macLow 1 ^^^ 0x40
  else Config.macLow 1

/-- The reset value of the register at an offset. Registers whose elements reset to different values, and those that
fuses load, are listed first; the others take their row's value. (DESIGN CHOICE, log 6) -/
def Reg.resetVal (v : Variant) (off : Nat) : Word :=
  if off = Reg.SYS_CAP0 then wd v.cap0
  else if off = Reg.SYS_CAP1 then wd v.cap1
  else if off = Reg.RST_BLKSTAT then wd (resettableMask v)
  else if off = Reg.PRT_PEN 0 then 1
  else if off = Reg.PRT_EVLIM 0 then 0
  else if off = Reg.PRT_CFGCRC then cfgCrcReset
  else if off = Reg.PTX_QUOTA 0 then 0x10002000
  else if off = Reg.EVR_BKT 0x12 then 0
  else if off = Reg.EVR_DELEN 0 0 || off = Reg.EVR_DELEN 1 0 then 1
  else if off = Reg.FLD_MACBL then Config.macLow 0 &&& 0xFFFFFFC0
  else if off = Reg.FLD_MACBH then Config.macHigh 0 &&& 0xFCFF
  else if off = Reg.RSR_MACL then riserMacLow
  else if off = Reg.RSR_MACH then Config.macHigh 1 &&& 0xFCFF
  else match Reg.row? off with
    | none => 0
    | some r =>
      if r.base = 0x81000 then (if queueHasRole (r.index off) then 0x400000 else 0)
      else if r.base = 0x82000 then wd (queueResetAttr (r.index off))
      else if r.base = 0x83000 then (if queueHasRole (r.index off) then 0 else 1)
      else wd r.reset

/-- A point table entry (R247): its four words. -/
structure Point where
  w0 : Word
  w1 : Word
  w2 : Word
  w3 : Word
  deriving DecidableEq, Repr

/-- A point that does not exist. -/
def Point.dflt (_ : Nat) : Point := { w0 := 0, w1 := 0, w2 := 0, w3 := 0 }

/-- The default of the force store: no force. -/
def noForce (_ : Nat) : Option Force := none

/-- The default of the values set aside by forces: none. -/
def noSource (_ : Nat) : Option Word := none

/-- A subscription with its baseline (R289, R290). -/
structure Sub where
  port : HPort
  part : Nat
  point : Nat
  value : Word
  qual : Nat
  deriving DecidableEq, Repr

/-- A request whose reply is outstanding (R271). -/
structure Req where
  frame : Nat
  /-- The exchange was pending at one latch already. -/
  pend : Bool
  deriving DecidableEq, Repr

/-- The exchange state of a schedule entry, kept by its station and RATE (R263, R271, R274). -/
structure Exch where
  reqs : List Req
  /-- How the requests of the current and of the next frame are marked: 0 live, 1 the station is stale, 2 the first
  request marked after a return. -/
  markNow : Nat
  markNext : Nat
  /-- The entry still owes its first request marked after the return (R274). -/
  retDue : Bool
  /-- The frame number of the last request sent, plus 1. -/
  sent : Nat
  deriving DecidableEq, Repr

/-- The exchange state of an entry that has exchanged nothing. -/
def Exch.dflt (_ : Nat) : Exch := { reqs := [], markNow := 0, markNext := 0, retDue := false, sent := 0 }

/-- The state of a riser subscription point (R278, R279): expected copies missed in a row, whether they made it stale, and the
FRAMEs of the publications whose copies it has taken last, newest first. -/
structure SubPoint where
  miss : Nat
  stale : Bool
  seen : List Nat
  deriving DecidableEq, Repr

/-- A subscription point that has missed nothing. -/
def SubPoint.dflt (_ : Nat) : SubPoint := { miss := 0, stale := false, seen := [] }

/-- An accepted table that waits for its frame boundary or latch (R252, R263). -/
inductive TableLoad where
  | points (first : Nat) (entries : List Point)
  | schedule (image : List Word)
  | stations (image : List Word)
  deriving DecidableEq, Repr

/-- A snapshot that waits for a publish (R160). -/
structure SnapReq where
  port : HPort
  part : Nat
  id : Nat
  desc : Desc
  /-- The points that the filter refused when execution started. -/
  hidden : List Nat
  deriving DecidableEq, Repr

/-- Point exchange (chapter "Point Table, Exchange Schedule and Point Image"). Station states are PTX_STN. -/
structure PtxSt where
  table : Store Point
  /-- The point image (R23) and the quality words without QBAD, which follows from the others (R270). -/
  image : Store Word
  qual : Store Word
  /-- The output image as last published, with the quality words and the table entries of its points, and the one that this
  frame's requests and publications carry (R256, R265, R277). -/
  outImg : Store Word
  outQual : Store Word
  outTbl : Store Point
  txImg : Store Word
  txQual : Store Word
  txTbl : Store Point
  forces : Store (Option Force)
  /-- What the source last gave for each input point whose slot holds a forced value since the last latch (R281, R283). -/
  sourced : Store (Option Word)
  subs : List Sub
  /-- The station table and the schedule as last applied, word by word. -/
  stations : List Word
  schedule : List Word
  loads : List TableLoad
  exch : Store Exch
  /-- Frames each stale station has been stale. -/
  staleFor : Store Nat
  subPts : Store SubPoint
  /-- Ports lost since the last latch, with 1 for a power switch-off (R219). -/
  lost : List (Nat × Nat)
  /-- Frames that PTX has read from its receive queues since the last latch, with their queues. -/
  inbox : List (Nat × Pkt)
  snaps : List SnapReq
  /-- The latch or the publish window is open (R47, R283). -/
  latching : Bool
  publishing : Bool
  deriving DecidableEq, Repr

/-- The reset value of the point exchange. (DESIGN CHOICE, log 64) -/
def PtxSt.reset : PtxSt where
  table := []
  image := []
  qual := []
  outImg := []
  outQual := []
  outTbl := []
  txImg := []
  txQual := []
  txTbl := []
  forces := []
  sourced := []
  subs := []
  stations := []
  schedule := []
  loads := []
  exch := []
  staleFor := []
  subPts := []
  lost := []
  inbox := []
  snaps := []
  latching := false
  publishing := false

/-- What the module keeps about the power of one T1L port besides FLD_PWRSTAT and FLD_PWRMEAS (R225 to R229). -/
structure PortPwr where
  /-- Consecutive readbacks above ILIM, below 90 % of the switch-on voltage, and below 3 mA. -/
  overN : Nat
  underN : Nat
  lowN : Nat
  /-- The voltage read at switch-on. -/
  vOn : Nat
  vSeen : Bool
  /-- A refusal of the current wait has been recorded (R225). -/
  refused : Bool
  /-- Power has been ON since the last CLEAR (R227). -/
  wasOn : Bool
  /-- The PWRCTL commands pending, in order: 2 DETECT, 3 CLASSIFY, 4 ON, 5 OFF. -/
  cmds : List Nat
  /-- A CYCLE waits for its second off (R229). -/
  cycling : Bool
  deriving DecidableEq, Repr

/-- A port without power history. -/
def PortPwr.dflt (_ : Nat) : PortPwr where
  overN := 0
  underN := 0
  lowN := 0
  vOn := 0
  vSeen := false
  refused := false
  wasOn := false
  cmds := []
  cycling := false

/-- Field ports and field power (chapter "Field Ports and Field Power"). -/
structure FldSt where
  pwr : Store PortPwr
  /-- Consecutive frames before this one whose transactions included a failed repeat, and the failed repeats of this one (R234). -/
  sbFail : Nat
  sbNow : Nat
  /-- FLD_PLCA of each segment as the last frame boundary found it, and the words of the image that take effect at tick 4 as the last
  tick 4 found them, by register (R239). -/
  plca : Store Word
  force : Store Word
  /-- Frames node 0 has sent in the current PLCA cycle of each segment, and when, in 0.1 µs from the regular cycle start, its transmit
  opportunity may be used from and until (R206, R217). -/
  plcaSent : Store Nat
  plcaFrom : Store Nat
  plcaOpen : Store Nat
  /-- The number, plus 1, of the frame counted last in a port's TXDEFER (R216). -/
  held : Store Nat
  /-- Ports whose next readback sets their power state (R237, R691). -/
  seeds : List Nat
  /-- Links that fell when the block entered reset; their events follow at the release (R691). -/
  fell : List Nat
  deriving DecidableEq, Repr

/-- The reset value of the field ports. (DESIGN CHOICE, log 64) -/
def FldSt.reset : FldSt where
  pwr := []
  sbFail := 0
  sbNow := 0
  plca := []
  force := []
  plcaSent := []
  plcaFrom := []
  plcaOpen := []
  held := []
  seeds := []
  fell := []

/-- The running part of a logic task (R314, R320 to R323); its registers are LGE_TCFG, LGE_TSTAT and so on. -/
structure LgeTask where
  acc : Bool
  /-- The branch stack S, top first. -/
  stack : List Bool
  pc : Nat
  /-- A cycle is in progress. -/
  busy : Bool
  /-- The points the cycle has written, with the values staged for them. -/
  staged : List (Nat × Word)
  /-- Cycles spent in the current window, and in the cycle over all its turns. -/
  spent : Nat
  cyc : Nat
  /-- LGE_FC of the frame the cycle is due in, and of the first due frame after the START. -/
  dueFc : Nat
  startFc : Nat
  /-- The first due frame after the START has been reached (R320). -/
  begun : Bool
  /-- A due cycle waits for its turn in this window. -/
  due : Bool
  /-- The cycle in progress has been found late (R322). -/
  late : Bool
  /-- The next due start is skipped (R322). -/
  skip : Bool
  /-- The turn in the current window is over. -/
  turned : Bool
  /-- The worst-case cycle count of the last VERIFY. -/
  worst : Nat
  /-- The offset of the last instruction executed (R325). -/
  lastPc : Nat
  /-- A STOP waits for the end of the cycle (R327): ring set, operation. -/
  stops : List (HPort × Part × Nat)
  deriving DecidableEq, Repr

/-- A task without a cycle. What ACC holds before a cycle's first instruction is open and taken as a free value then. -/
def LgeTask.dflt (_ : Nat) : LgeTask where
  acc := false
  stack := []
  pc := 0
  busy := false
  staged := []
  spent := 0
  cyc := 0
  dueFc := 0
  startFc := 0
  begun := false
  due := false
  late := false
  skip := false
  turned := false
  worst := 0
  lastPc := 0
  stops := []

/-- The logic engine (chapter "Cyclic Logic Engine"). -/
structure LgeSt where
  /-- Program memory by word (R299). -/
  prog : Store Word
  tasks : Store LgeTask
  /-- Marker m of task t at `4096 * t + m`; timers and counters at `256 * t + n`. -/
  markers : Store Bool
  timers : Store LgeTimer
  counters : Store LgeCounter
  /-- The image and the quality words as the input latch of the current frame left them (R315). -/
  latched : Store Word
  latchedQ : Store Word
  /-- The compute window is open, and the task whose turn it is (R321). -/
  window : Bool
  turn : Option Nat
  deriving DecidableEq, Repr

/-- The reset value of the logic engine. (DESIGN CHOICE, log 64) -/
def LgeSt.reset : LgeSt where
  prog := []
  tasks := []
  markers := []
  timers := []
  counters := []
  latched := []
  latchedQ := []
  window := false
  turn := none

/-- A running injection (R356 to R358): its descriptor, the samples done, and the generators' states. -/
structure Inj where
  desc : List Word
  /-- CLE_TC of the first injected sample. -/
  start : Nat
  n : Nat
  lfsr : Nat
  /-- Stepped sine: step number and sample within the step. -/
  k : Nat
  m : Nat
  /-- An inject stop has been taken; the injection ends at the next sample. -/
  stopped : Bool
  deriving DecidableEq, Repr

/-- What a due slot took at phase 0 of the tick (R345, R346): process value, set point, supply voltage, and the cause of
a fault that the taking itself shows (0 none). -/
structure LoopIn where
  pv : Word
  sp : Word
  vs : Word
  cause : Nat
  deriving DecidableEq, Repr

/-- The state of a loop slot besides CLE_SSTAT and CLE_SOUT (R338, R350, R354). -/
structure LoopSlot where
  entry : List Word
  /-- A tuning load that takes effect at the next due sample (R342). -/
  tuned : Option (List Word)
  iPrev : Word
  dPrev : Word
  pvPrev : Word
  sp1 : Word
  sp2 : Word
  /-- The first due sample is at this tick count or later (R351). -/
  firstTc : Nat
  /-- The values taken at phase 0 of the current tick, if the slot is due in it. -/
  taken : Option LoopIn
  /-- The sample computed in this tick waits for phase 100 µs. -/
  computed : Bool
  /-- The slot has computed an output since its entry was loaded (R351). -/
  hasU : Bool
  /-- The error of the sample computed in this tick. -/
  err : Word
  /-- A fault whose FAIL value is written at the next phase 100 µs (R354). -/
  failDue : Bool
  inj : Option Inj
  /-- A disable takes effect after the current base tick (R355): the operations that wait. -/
  stops : List (HPort × Part × Nat)
  deriving DecidableEq, Repr

/-- A cleared slot (R335). -/
def LoopSlot.dflt (_ : Nat) : LoopSlot where
  entry := []
  tuned := none
  iPrev := 0
  dPrev := 0
  pvPrev := 0
  sp1 := 0
  sp2 := 0
  firstTc := 0
  taken := none
  computed := false
  hasU := false
  err := 0
  failDue := false
  inj := none
  stops := []

/-- A partition's capture (R359 to R361): its descriptor, its segments and the samples it has captured. -/
structure Capture where
  part : Nat
  slot : Nat
  desc : List Word
  segs : List Nat
  running : Bool
  /-- A triggered capture waits for the slot's next injection. -/
  armed : Bool
  /-- CLE_TC of the first due sample it may take. -/
  start : Nat
  /-- Due samples since the capture began. -/
  seen : Nat
  data : List (List Word)
  deriving DecidableEq, Repr

/-- The control engine (chapter "Closed-Loop Control Engine and Local I/O"). CLE_TC is `tc`. -/
structure CleSt where
  tc : Nat
  /-- CLE_TCH as the last CLE_TCL read of each port copied it (R371). -/
  tch0 : Word
  tch1 : Word
  slots : Store LoopSlot
  caps : List Capture
  deriving DecidableEq, Repr

/-- The reset value of the control engine. (DESIGN CHOICE, log 64) -/
def CleSt.reset : CleSt where
  tc := 0
  tch0 := 0
  tch1 := 0
  slots := []
  caps := []

/-- A counted edge of a pulse input (R367): the base tick it fell in, its time in 5 ns, and the count after it. -/
structure PulseEdge where
  tick : Nat
  time : Nat
  cnt : Word
  deriving DecidableEq, Repr

/-- A pulse input (R367). -/
structure PulseIn where
  a : Bool
  b : Bool
  cnt : Word
  /-- Time of the previous counted edge, plus 1; 0 before the first. -/
  last : Nat
  edges : List PulseEdge
  /-- Edges that may still be the beginning of a pulse shorter than 100 ns, oldest first: on pin B, the level after it, its time. -/
  pend : List (Bool × Bool × Nat)
  deriving DecidableEq, Repr

/-- A pulse input without edges. -/
def PulseIn.dflt (_ : Nat) : PulseIn := { a := false, b := false, cnt := 0, last := 0, edges := [], pend := [] }

/-- Local I/O (chapter "Closed-Loop Control Engine and Local I/O"). -/
structure LioSt where
  /-- Base ticks of LIO. -/
  tick : Nat
  /-- The LIO registers as phase 0 of the current tick found them: scaling and configuration in force (R364). -/
  cfg : Store Word
  /-- Analogue inputs whose last code was clamped. -/
  clamped : Store Bool
  /-- Consecutive samples of each digital pin that differ from its filtered state (R366). -/
  diff : Store Nat
  pulses : Store PulseIn
  /-- The duty each PWM output takes at its next period start, in units of 2^-149 (R368). -/
  duty : Store Nat
  /-- The first tick at whose phase 100 µs an output may start again (R377). -/
  restart : Store Nat
  /-- After an LIO block reset every pin is an input until LIO_DDIR is written, and a PWM output disabled until its LIO_PWCFG is
  (R369). -/
  dirHeld : Bool
  pwmHeld : Store Bool
  deriving DecidableEq, Repr

/-- The reset value of local I/O. (DESIGN CHOICE, log 64) -/
def LioSt.reset : LioSt where
  tick := 0
  cfg := []
  clamped := []
  diff := []
  pulses := []
  duty := []
  restart := []
  dirHeld := false
  pwmHeld := []

/-- The default of a store of byte lists. -/
def noBytes (_ : Nat) : List Byte := []

/-- CAN controllers and RS-485 ports (chapter "CAN FD and RS-485 Ports"). Buffer b of controller k has the key `64 * k + b`;
its flags are CAN_MBST. -/
structure CanSt where
  /-- Mailbox locks: the port that holds one, the controller and the buffer (R588). -/
  locks : List (HPort × Nat × Nat)
  /-- The current and the shadow frame of mailboxes, and the frames of loaded transmit buffers, laid out as R587 gives. -/
  cur : Store (List Byte)
  shadow : Store (List Byte)
  tx : Store (List Byte)
  /-- Frames that each controller discarded at its last bus-off. -/
  lost : Store Nat
  /-- The image in configuration storage, the one that is being applied, and the units (controllers 0 to 3, ports 4 to 11)
  that it still waits for (R598). -/
  img : Option (List Word)
  imgPend : List Word
  left : List Nat
  /-- The burst each port is sending (R594). -/
  burst : Store (List Byte)
  deriving DecidableEq, Repr

/-- CAN and RS-485 after a reset that keeps configuration storage. (DESIGN CHOICE, log 64) -/
def CanSt.reset (img : Option (List Word)) : CanSt where
  locks := []
  cur := []
  shadow := []
  tx := []
  lost := []
  img := img
  imgPend := []
  left := []
  burst := []

/-- The zero-crossing detector of a voltage channel (R422): armed, the last sample below 0 and the first at or above 0 since
(value and time), and the crossings of the last 200 ms, newest first. -/
structure ZeroDet where
  armed : Bool
  neg : Option (Nat × Nat)
  pos : Option (Nat × Nat)
  times : List Nat
  deriving DecidableEq, Repr

/-- A detector that has seen nothing. -/
def ZeroDet.dflt (_ : Nat) : ZeroDet := { armed := false, neg := none, pos := none, times := [] }

/-- An interval snapshot of a circuit (R397 to R399); `torn` says that its CRC-16 fails. -/
structure Snap where
  seq : Word
  index : Nat
  frame : Nat
  flags : Nat
  tag : Nat
  acc : List Nat
  torn : Bool
  deriving DecidableEq, Repr

/-- The default of the interval store. -/
def noSnaps (_ : Nat) : List Snap := []

/-- A save bank (R402): accumulators in units of 2^-32 of their LSB, 8 per circuit; residues in units of 2^-32 of the LSB times
the meter constant `mc` of the output. -/
structure Bank where
  seq : Word
  frame : Nat
  index : Nat
  acc : Store Nat
  fltfr : Store Nat
  residue : Store Nat
  mc : Store Nat
  torn : Bool
  deriving DecidableEq, Repr

/-- A delta record (R404): the increments of accumulators and residues since the warning copy, each as a 48-bit count of 2^-16 of
the LSB. -/
structure Delta where
  seq : Word
  frame : Nat
  acc : Store Nat
  residue : Store Nat
  torn : Bool
  deriving DecidableEq, Repr

/-- A theft-watch episode record (R418). -/
structure Episode where
  entry : Nat
  start : Word
  bursts : Nat
  peak : Nat
  deriving DecidableEq, Repr

/-- What of metering survives a system reset: MRAM, configuration storage and the always-on domain (R387, R399, R403, R418). -/
structure MtrKept where
  /-- Stored images; the flag says that the copy's CRC is good. -/
  calImg : Option (List Word × Bool)
  circImg : Option (List Word × Bool)
  bank0 : Option Bank
  bank1 : Option Bank
  delta0 : Option Delta
  delta1 : Option Delta
  snaps : Store (List Snap)
  ivSeq : Word
  /-- The stored tag of each circuit (R392). -/
  tags : Store Nat
  /-- Calibration copied for the theft watch (R416). -/
  watchCal : List Word
  /-- Each channel's RMS value in V or A as binary64 bits, as the last burst measured it (R417). -/
  watchRms : List Nat
  episodes : List Episode
  /-- Watch entries whose last burst qualified, and those whose open episode has a record. -/
  qualified : Store Bool
  recorded : Store Bool
  deriving DecidableEq, Repr

/-- Metering that has stored nothing. -/
def MtrKept.blank : MtrKept where
  calImg := none
  circImg := none
  bank0 := none
  bank1 := none
  delta0 := none
  delta1 := none
  snaps := []
  ivSeq := 0
  tags := []
  watchCal := []
  watchRms := []
  episodes := []
  qualified := []
  recorded := []

/-- The metering engine (chapter "Energy and Quantity Computation"). -/
structure MtrSt where
  kept : MtrKept
  /-- The images in force. -/
  cal : List Word
  circ : List Word
  /-- Images that wait for the frame boundary, oldest first, with the commands that complete then (R386, R392). -/
  calPend : List (List Word × HPort × Part × Nat)
  circPend : List (List Word)
  /-- Images loaded through CFG_LOAD since the start: bit 0 a calibration set, bit 1 a circuit table (R387). -/
  loaded : Nat
  /-- The module drives MCLK0 to MCLK3 (R380). -/
  mclk : Bool
  /-- The latest bits of each MDAT input, bit 0 the newest (R379, R381), and the run of equal levels it ends with (R383). -/
  bits : Store Nat
  runs : Store (Nat × Nat)
  /-- Modulator windows that ended in the join gap that runs (R382). -/
  heldWin : List MeterIn
  /-- Calibrated samples of each channel as binary64 bits, newest first; and the high-pass filter's last input and output. -/
  samples : Store (List Nat)
  hp : Store (Nat × Nat)
  /-- Nanoseconds of samples in the current frame, and the channels faulted in it. -/
  frameNs : Nat
  frameBad : List Nat
  /-- Base ticks without a stuck bitstream of a faulted channel (R383). -/
  good : Store Nat
  zero : Store ZeroDet
  /-- Samples each circuit's window has taken since it started empty. -/
  filled : Store Nat
  /-- Each circuit's last frequency as binary64 bits; 0 when not valid (R394). -/
  freq : Store Nat
  /-- Each circuit's quantities 0 to 10 of R390, and its state bits of R410. -/
  quant : Store (List Word)
  flags : Store Nat
  /-- Accumulator q of circuit c at `8 * c + q`, in units of 2^-32 of its LSB; and the last frame's credits. -/
  acc : Store Nat
  credit : Store Nat
  fltfr : Store Nat
  /-- The interval index of the frame before, the LEN in force, and the flags each circuit's next snapshot carries. -/
  index : Nat
  len : Nat
  ivFlags : Store Nat
  /-- Circuits to clear at the next frame boundary (R402). -/
  clears : List Nat
  /-- Pulse outputs: residue in units of 2^-32 of the LSB times MC, starts that wait in µs, the last start plus 1, when the
  running pulse ends, whether it runs, and whether the residue is to be cleared (R413 to R415). -/
  residue : Store Nat
  starts : Store (List Nat)
  lastStart : Store Nat
  ends : Store Nat
  active : Store Bool
  clearRes : Store Bool
  /-- A regular save that is being written (R403), and the copy taken at a supply warning (R404). -/
  saving : Option Bank
  warned : Option Bank
  deriving DecidableEq, Repr

/-- The default of a store of word lists. -/
def noWords (_ : Nat) : List Word := []
/-- The default of a store of number lists. -/
def noNats (_ : Nat) : List Nat := []
/-- The default of the filter store. -/
def zeroPair (_ : Nat) : Nat × Nat := (0, 0)

/-- Metering after a reset that keeps `k`. (DESIGN CHOICE, log 64) -/
def MtrSt.reset (k : MtrKept) : MtrSt where
  kept := k
  cal := []
  circ := []
  calPend := []
  circPend := []
  loaded := 0
  mclk := false
  bits := []
  runs := []
  heldWin := []
  samples := []
  hp := []
  frameNs := 0
  frameBad := []
  good := []
  zero := []
  filled := []
  freq := []
  quant := []
  flags := []
  acc := []
  credit := []
  fltfr := []
  index := 0
  len := 900
  ivFlags := []
  clears := []
  residue := []
  starts := []
  lastStart := []
  ends := []
  active := []
  clearRes := []
  saving := none
  warned := none

/-- One channel of the safety island (R431): its gate signals, its view of the world and what it counts in cycles of 1 ms. -/
structure SafChan where
  /-- Brake channels whose switch this channel drives. -/
  gates : Nat
  locked : Bool
  /-- The other channel has reported a fault that this one has not acted on yet (R456). -/
  told : Bool
  oe : Bool
  /-- Release requests as the channel last saw them. -/
  prevReq : Nat
  /-- Filtered contacts A and B (1 closed), the cycles a changed contact has been stable, keyed by `n` and `16 + n`, and the
  cycles an input's contacts have disagreed (R440). -/
  ca : Nat
  cb : Nat
  stable : Store Nat
  disc : Store Nat
  states : Nat
  perm : Nat
  /-- Cycles in which permission and request have both been 1 (R465). -/
  held : Store Nat
  /-- Cycles of a wrong readback, keyed `2 * k` for the high side and `2 * k + 1` for the low side; of a current above IMAX,
  and of one below IMIN (R436). -/
  badRb : Store Nat
  high : Store Nat
  low : Store Nat
  srDiff : Nat
  /-- Consecutive cycles in which the channels' views differed, and without a report of the other channel (R433). -/
  differ : Nat
  silent : Nat
  /-- Encoder edges of a running brake test (R453). -/
  enc : Store Nat
  /-- Consecutive failed checks of a contact, keyed `4 * n + 2 * contact + supply` (R439). -/
  failed : Store Nat
  /-- The degraded timer in ms (R451). -/
  rem : Nat
  seen : Option SafView
  deriving DecidableEq, Repr

/-- A channel that has just started. (DESIGN CHOICE, log 64) -/
def SafChan.reset : SafChan where
  gates := 0
  locked := false
  told := false
  oe := false
  prevReq := 0
  ca := 0
  cb := 0
  stable := []
  disc := []
  states := 0
  perm := 0
  held := []
  badRb := []
  high := []
  low := []
  srDiff := 0
  differ := 0
  silent := 0
  enc := []
  failed := []
  rem := 0
  seen := none

/-- A receive stream (R447 to R452). -/
structure SafStream where
  /-- Each LAN's baseline: SEQ and TIME of its last accepted copy. -/
  baseA : Option (Nat × Nat)
  baseB : Option (Nat × Nat)
  /-- Accepted copies whose partner has not arrived: LAN B or not, SEQ, bytes. -/
  single : List (Bool × Nat × List Byte)
  bits : Nat
  ever : Bool
  compared : Bool
  seq : Nat
  okA : Bool
  okB : Bool
  miss : Nat
  missB : Bool
  degr : Bool
  degrB : Bool
  /-- Consecutive compared pairs. -/
  pairs : Nat
  deriving DecidableEq, Repr

/-- A stream that has delivered nothing. -/
def SafStream.dflt (_ : Nat) : SafStream where
  baseA := none
  baseB := none
  single := []
  bits := 0
  ever := false
  compared := false
  seq := 0
  okA := false
  okB := false
  miss := 0
  missB := false
  degr := false
  degrB := false
  pairs := 0

/-- A transmit stream (R446): whether it transmits, its next SEQ, and a clock step since its last message. -/
structure SafTx where
  started : Bool
  seq : Nat
  stepped : Bool
  deriving DecidableEq, Repr

/-- A transmit stream that does not transmit. -/
def SafTx.dflt (_ : Nat) : SafTx := { started := false, seq := 0, stepped := false }

/-- The island's non-volatile memory (R455, R456, R460, R461). -/
structure SafKept where
  set : List Word
  causes : Nat
  first : Nat
  /-- Switch values in force: SADDR and SOPT. -/
  sw : Option (Nat × Nat)
  /-- Elapsed ms of operation since the last passed brake test, as written once per minute. -/
  hours : Store Nat
  /-- Inputs with a discrepancy and the contacts that have shown demand since; inputs with a test-pulse fault and the contacts
  that have followed their pulse since; channels with a failed and an overdue brake test (R457). -/
  discIn : Nat
  demA : Nat
  demB : Nat
  pulseIn : Nat
  folA : Nat
  folB : Nat
  failedK : Nat
  overdueK : Nat
  deriving DecidableEq, Repr

/-- An island that has stored nothing. -/
def SafKept.blank : SafKept where
  set := []
  causes := 0
  first := 0
  sw := none
  hours := []
  discIn := 0
  demA := 0
  demB := 0
  pulseIn := 0
  folA := 0
  folB := 0
  failedK := 0
  overdueK := 0

/-- The safety island (chapter "Serac Safety Island"). The controller's own part is `ctl`, `sent` and `inbox`. -/
structure SafSt where
  kept : SafKept
  run : Bool
  selfTest : Bool
  /-- A local reset waits for its self-test: the press in ms (R457, R458). -/
  resetWait : Option Nat
  /-- The island's start restored a lock-out (R467, R472). -/
  restored : Bool
  /-- The supply warning holds every channel off (R467). -/
  warn : Bool
  x : SafChan
  y : SafChan
  streams : Store SafStream
  tx : Store SafTx
  /-- The SAF link delivers requests: release and test requests as last received (R441, R442). -/
  link : Bool
  req : Nat
  treq : Nat
  /-- Brake tests by channel: 0 none, 1 before the delay's end, 2 counting; last results and larger counts (R453, R474). -/
  test : Store Nat
  last : Store Nat
  edges : Store Nat
  elapsed : Store Nat
  due : Nat
  openW : Nat
  /-- Cycles in which both LANs have been good on every stream (R452). -/
  good : Nat
  reqDrop : Bool
  discard : Nat
  /-- The parameter set the controller has accepted, the requests on their way to the island, and the message copies on theirs. -/
  ctl : List Word
  sent : Option (Nat × Nat)
  inbox : List (Bool × List Byte)
  deriving DecidableEq, Repr

/-- The island before its start, with what it keeps. (DESIGN CHOICE, log 64) -/
def SafSt.reset (k : SafKept) : SafSt where
  kept := k
  run := false
  selfTest := false
  resetWait := none
  restored := false
  warn := false
  x := SafChan.reset
  y := SafChan.reset
  streams := []
  tx := []
  link := false
  req := 0
  treq := 0
  test := []
  last := []
  edges := []
  elapsed := k.hours
  due := 0
  openW := 0
  good := 0
  reqDrop := false
  discard := 0
  ctl := []
  sent := none
  inbox := []

/-- A copy of a key slot in configuration storage (R614): its sequence number, the attributes, the use count to load, and the
committed key under the internal wrapping key; `bad` says that it does not unwrap. -/
structure StoredKey where
  seq : Nat
  attr : Word
  scnt : Word
  wrapped : Option (List Byte)
  bad : Bool
  deriving DecidableEq, Repr

/-- The default of the key storage: nothing stored. -/
def noStoredKey (_ : Nat) : Option StoredKey := none

/-- A key slot (R603): the material of its committed key and of its shadow. -/
structure KeySlot where
  key : Option (List Byte)
  shadow : Option (List Byte)
  deriving DecidableEq, Repr

/-- An empty slot. -/
def KeySlot.dflt (_ : Nat) : KeySlot := { key := none, shadow := none }

/-- The key vault (chapter "Firn Key Vault"). -/
structure KeySt where
  /-- Configuration storage: the two copies of slot s at `2 * s` and `2 * s + 1`. -/
  kept : Store (Option StoredKey)
  slots : Store KeySlot
  /-- Frames protected and verified since the last use that was counted, at `8 * s + 2 * r + direction` (R608). -/
  frames : Store Nat
  /-- The root in use: 0 fused, 1 test root by strap, 2 test root by unlock (R615). -/
  root : Nat
  /-- An unlock has been authenticated since power-on reset (R615, R687). -/
  unlocked : Bool
  deriving DecidableEq, Repr

/-- The vault after a reset that keeps its storage. (DESIGN CHOICE, log 64) -/
def KeySt.reset (kept : Store (Option StoredKey)) : KeySt where
  kept := kept
  slots := []
  frames := []
  root := 0
  unlocked := false

/-- An entry of a bridge's filtering database (R478): LAN, address, port, and the second it was last seen in. -/
structure Learned where
  lan : Nat
  mac : Nat
  port : Nat
  sec : Nat
  deriving DecidableEq, Repr

/-- A node-table entry for duplicate discard (R487): source address, sequence number, and the ms it was taken in. -/
structure PrpSeen where
  mac : Nat
  seq : Nat
  ms : Nat
  deriving DecidableEq, Repr

/-- The grandmaster of a gPTP domain (R493): its priority vector, stepsRemoved, and the port it was learned on. -/
structure GrandMaster where
  vec : Nat
  steps : Nat
  port : Nat
  deriving DecidableEq, Repr

/-- The default of the grandmaster store. -/
def noMaster (_ : Nat) : Option GrandMaster := none

/-- The riser switch (chapter "Riser Network"). -/
structure RsrSt where
  /-- Counter k of port r at `4 * k + r`, 64 bits (R504). -/
  cnt : Store Nat
  fdb : List Learned
  /-- What each class of TC0 to TC4 may still send in the current round, at `8 * r + c` (R481). -/
  share : Store Nat
  prpSeq : Nat
  supSeq : Nat
  nodes : List PrpSeen
  /-- Next packet numbers by `2 * r + association` (R494). -/
  rxPn : Store Nat
  txPn : Store Nat
  /-- The second, plus 1, of the last event 0x100A of port r, and at `4 + r` MSECBAD as it was then. -/
  failSec : Store Nat
  /-- What the module has read of the optic in each cage: power class and wavelength in nm (R477). -/
  optics : Store (Option (Nat × Nat))
  gm : Store (Option GrandMaster)
  /-- The image in configuration storage and whether it is valid, and the image that waits for the frame boundary (R500). -/
  img : Option (List Word × Bool)
  imgPend : Option (List Word)
  deriving DecidableEq, Repr

/-- The default of a store of optics: none read. -/
def noOptic (_ : Nat) : Option (Nat × Nat) := none

/-- The riser switch after a reset that keeps configuration storage. (DESIGN CHOICE, log 64) -/
def RsrSt.reset (img : Option (List Word × Bool)) : RsrSt where
  cnt := []
  fdb := []
  share := []
  prpSeq := 0
  supSeq := 0
  nodes := []
  rxPn := []
  txPn := []
  failSec := []
  optics := []
  gm := []
  img := img
  imgPend := none

/-- A pixel (R568 to R571): its stored target level, its level as far as it is known, the waveform in progress (previous
level, next level, phase, band, update) and the level and update it waits for. -/
structure Pixel where
  tgt : Nat
  level : Option Nat
  wave : Option (Nat × Nat × Nat × Nat × Nat)
  next : Option (Nat × Nat)
  deriving DecidableEq, Repr

/-- A pixel nobody has drawn. -/
def Pixel.dflt (_ : Nat) : Pixel := { tgt := 0, level := none, wave := none, next := none }

/-- An update that is accepted but not complete (R569 to R572): its number, region, panel and changed pixels with their new
levels, the base tick of its acceptance, the command that waits for its start, and from its start on the captured band
and the display frames taken. -/
structure DspUpd where
  num : Nat
  region : Nat
  panel : Nat
  pixels : List (Nat × Nat)
  tick : Nat
  op : Option (HPort × Part × Nat)
  band : Option Nat
  frames : Nat
  deriving DecidableEq, Repr

/-- The power sequence of a panel besides DSP_PSTAT (R573 to R575). -/
structure DspPanel where
  pwren : Bool
  vcomen : Bool
  /-- PWRGD has risen since PWREN. -/
  good : Bool
  /-- The state a power-down leads to: 0 OFF, 1 IDLE, 5 FAULT. -/
  goal : Nat
  /-- Waveforms end at the next display frame boundary. -/
  ending : Bool
  /-- The ground frame of a power-down: 0 none or done, 1 due, 2 in progress. -/
  ground : Nat
  /-- Base tick at which PWREN fell while an update waits, plus 1. -/
  lowAt : Nat
  /-- Rows scanned in the last display frame. -/
  rows : List Nat
  /-- Consecutive crack readings above the limit. -/
  bad : Nat
  deriving DecidableEq, Repr

/-- A panel without power. -/
def DspPanel.dflt (_ : Nat) : DspPanel where
  pwren := false
  vcomen := false
  good := false
  goal := 1
  ending := false
  ground := 0
  lowAt := 0
  rows := []
  bad := 0

/-- The default of a store of word lists. -/
def noWordList (_ : Nat) : List Word := []

/-- Display outputs (chapter "Electrophoretic Display Outputs"). -/
structure DspSt where
  /-- Base ticks of DSP. -/
  tick : Nat
  /-- Pixels of panel n at `2^22 * n + 2^11 * row + column`. -/
  pixels : Store Pixel
  panels : Store DspPanel
  /-- The region table in force and one that waits for a display frame boundary (R567). -/
  regions : List Word
  regPend : Option (List Word)
  /-- The waveform image of each panel, and those that wait (R565). -/
  waves : Store (List Word)
  wavePend : Store (List Word)
  upds : List DspUpd
  /-- The number of the next update. -/
  nextNum : Nat
  deriving DecidableEq, Repr

/-- The reset value of the display outputs. (DESIGN CHOICE, log 64) -/
def DspSt.reset : DspSt where
  tick := 0
  pixels := []
  panels := []
  regions := []
  regPend := none
  waves := []
  wavePend := []
  upds := []
  nextNum := 0

/-- The mirrored state as the last record applied left it (R517); a record that leaves an item out keeps it so. -/
structure Mirror where
  image : Store Word
  qual : Store Word
  markers : Store Bool
  timers : Store LgeTimer
  counters : Store LgeCounter
  deriving DecidableEq, Repr

/-- Nothing mirrored. -/
def Mirror.blank : Mirror := { image := [], qual := [], markers := [], timers := [], counters := [] }

/-- Twin operation (chapter "Twin Operation and Fail-Over"); role, lines, link and counters are in its registers. -/
structure TwnSt where
  /-- MRAM: the stored epoch (R512). Configuration storage: the stored TWN_CFG (R529). -/
  epochKept : Nat
  cfgKept : Option Word
  /-- A TWN_CFG that waits for the frame boundary. -/
  cfgPend : Option Word
  /-- Records received and not yet applied, oldest first; whether any has arrived in this frame (R516). -/
  held : List TwinRec
  got : Bool
  /-- The last record applied, with the frames since the frame it belongs to. -/
  last : Option TwinRec
  age : Nat
  base : Mirror
  /-- Shadow inputs (R517). -/
  inputs : Store Word
  /-- The frame number the next record must have; none while a resynchronisation begins (R516). -/
  expect : Option Nat
  /-- Refresh slices covered, and frames since the resynchronisation began (R519). -/
  cover : List Nat
  resync : Nat
  /-- Frames for which a missed record still counts (R521). -/
  lag : Nat
  /-- A record was missed, and the comparison differed, in this frame (R522). -/
  missed : Bool
  mism : Bool
  /-- Consecutive mismatch frames, and consecutive frames without one (R518). -/
  mcnt : Nat
  okRun : Nat
  cmpBad : Bool
  /-- Metering credits of the latch before the last (R518). -/
  credit : Store Nat
  /-- Self-diagnosis causes pending (R523). -/
  causes : List Nat
  /-- An accepted yield waits for the end of the frame (R525). -/
  yielding : Bool
  peer : Option PeerNote
  /-- The last peer epoch seen, and the frames since (R512). -/
  peerEpoch : Option (Nat × Nat)
  /-- Contention during a claim, and a contention while ACTIVE that has lasted more than 100 µs (R510, R511). -/
  contended : Bool
  long : Bool
  /-- The claim in progress is warm (R509). -/
  warm : Bool
  /-- The count and the join gap at which the active twin's next frame begins (R61). -/
  follow : Option (Nat × Nat)
  /-- The module became active in the frame in progress (R291, R526). -/
  fresh : Bool
  /-- The mirrored state as last sent, and the next refresh slice (R513, R514). -/
  sent : List RecItem
  slice : Nat
  /-- The CRC-32 of the last accepted TYPE 0x04 and TYPE 0x09 images (R520). -/
  crc04 : Word
  crc09 : Word
  deriving DecidableEq, Repr

/-- Twin operation after a reset that keeps MRAM and configuration storage. (DESIGN CHOICE, log 64) -/
def TwnSt.reset (epoch : Nat) (cfg : Option Word) : TwnSt where
  epochKept := epoch
  cfgKept := cfg
  cfgPend := none
  held := []
  got := false
  last := none
  age := 0
  base := Mirror.blank
  inputs := []
  expect := none
  cover := []
  resync := 0
  lag := 0
  missed := false
  mism := false
  mcnt := 0
  okRun := 0
  cmpBad := false
  credit := []
  causes := []
  yielding := false
  peer := none
  peerEpoch := none
  contended := false
  long := false
  warm := false
  follow := none
  fresh := false
  sent := []
  slice := 0
  crc04 := 0
  crc09 := 0

/-- An image slot (R621): its state 0 EMPTY, 1 RECEIVING, 2 COMPLETE, 3 INVALID, its marks, its manifest and the chunks written. -/
structure ImgSlot where
  state : Nat
  armed : Bool
  boots : Nat
  manifest : List Byte
  chunks : Store (List Byte)
  deriving DecidableEq, Repr

/-- A slot without an image. (DESIGN CHOICE, log 64) -/
def ImgSlot.blank : ImgSlot := { state := 0, armed := false, boots := 0, manifest := [], chunks := [] }

/-- What MRAM and flash keep of the update chain (R620, R621, R623, R625, R634). -/
structure UpdKept where
  slotA : ImgSlot
  slotB : ImgSlot
  /-- The slot that last started from flash, and whether one has. -/
  last : Nat
  ran : Bool
  activate : Bool
  vfloor : Word
  /-- OPSIG and MSLOT in the form of UPD_CTL. -/
  ctl : Word
  table : List Word
  deriving DecidableEq, Repr

/-- Slots and settings of a module that has never been used. -/
def UpdKept.blank : UpdKept where
  slotA := ImgSlot.blank
  slotB := ImgSlot.blank
  last := 0
  ran := false
  activate := false
  vfloor := 0
  ctl := 0
  table := []

/-- A fragment received over the chain (R627): operation 1 MPART or 2 DATA, index, version, number and bytes. -/
structure ChainFrag where
  op : Nat
  idx : Nat
  ver : Word
  num : Nat
  data : List Byte
  deriving DecidableEq, Repr

/-- The flow in progress (R630): version, the upstream position (0xFF for a host), the entry module's position, and the
chain table it started with. -/
structure UpdFlow where
  ver : Word
  up : Nat
  origin : Nat
  table : List Word
  deriving DecidableEq, Repr

/-- What a module is sending downstream (R628, R629): the slot it reads, version, position, ORIGIN, FWD and chain table; the next
item (manifest parts first, then chunks), the items unacknowledged, NAKs by item, and chunks acknowledged. -/
structure UpdSend where
  slot : Nat
  ver : Word
  pos : Nat
  origin : Nat
  fwd : Bool
  table : List Word
  next : Nat
  waiting : List Nat
  naks : Store Nat
  acked : Nat
  deriving DecidableEq, Repr

/-- The update chain (chapter "Meltwater Update Chain and Start-Up"). -/
structure UpdSt where
  kept : UpdKept
  /-- Manifest parts that have arrived, with their version. -/
  parts : Option (Word × Store (List Byte))
  frags : List ChainFrag
  flow : Option UpdFlow
  send : Option UpdSend
  /-- Positions that a SERVE has still to offer to (R631). -/
  serve : List Nat
  /-- The running image is confirmed by a host (CONFHOST), and its start-up checks have passed (R635). -/
  confHost : Bool
  checks : Bool
  deriving DecidableEq, Repr

/-- The update chain after a reset that keeps MRAM and flash. (DESIGN CHOICE, log 64) -/
def UpdSt.reset (k : UpdKept) : UpdSt where
  kept := k
  parts := none
  frags := []
  flow := none
  send := none
  serve := []
  confHost := false
  checks := false

/-- Reset, clocks and supply (chapter "Reset, Clocks and Supply Supervision"). -/
structure RstSt where
  /-- 0 reset asserted, 1 start sequence, 2 the loader waits, 3 halted for debug, 4 ready (R652, R654). -/
  phase : Nat
  /-- System resets since the last power-on reset (R667). -/
  starts : Nat
  /-- TLCNT in MRAM (R653). -/
  tlcnt : Nat
  /-- VMAIN has been lost since the last start (R652). -/
  outage : Bool
  /-- Blocks whose release waited for clock-good (R658). -/
  waited : List Nat
  /-- Milliseconds of the watchdog core resets of the last 60 s (R650). -/
  dogs : List Nat
  /-- A reset by die temperature is held (R649); the level last recorded: 0, 1 above 115 °C, 2 above 125 °C. -/
  hot : Bool
  level : Nat
  /-- The cores are in core reset (R650). -/
  core : Bool
  deriving DecidableEq, Repr

/-- Reset, clocks and supply right after power-on reset. (DESIGN CHOICE, log 64) -/
def RstSt.reset : RstSt where
  phase := 0
  starts := 0
  tlcnt := 0
  outage := false
  waited := []
  dogs := []
  hot := false
  level := 0
  core := false

/-- The state of the module. Set-up registers are held in `regs`, keyed by BAR0 offset; an unlisted register holds its
reset value. -/
structure State where
  /-- The variant, as the fuses of SYS_CAP0 and SYS_CAP1 give it (R2, R29, R30). -/
  variant : Variant
  /-- Set-up registers by BAR0 offset (R18); unlisted: the reset value. -/
  regs : Store Word
  /-- Count, staged time and servo. -/
  time : TimeSt
  /-- Host-ring engines, host memories and links. -/
  host : HostSt
  /-- Share table. -/
  prt : PrtSt
  /-- Queue pool. -/
  pool : PoolSt
  /-- Point exchange and point image. -/
  ptx : PtxSt
  /-- Field ports and field power. -/
  fld : FldSt
  /-- Logic engine. -/
  lge : LgeSt
  /-- Control engine. -/
  cle : CleSt
  /-- Local I/O. -/
  lio : LioSt
  /-- Metering engine. -/
  mtr : MtrSt
  /-- Safety island. -/
  saf : SafSt
  /-- Riser switch. -/
  rsr : RsrSt
  /-- Key vault. -/
  key : KeySt
  /-- Display outputs. -/
  dsp : DspSt
  /-- CAN controllers and RS-485 ports. -/
  can : CanSt
  /-- Twin operation. -/
  twn : TwnSt
  /-- Update chain. -/
  upd : UpdSt
  /-- Reset, clocks and supply. -/
  rst : RstSt
  /-- Event recorder. -/
  evr : RecSt
  /-- What the block has shown the outside world, newest first. The model's own field. -/
  out : List Out
  /-- The number of free values taken so far. The model's own field. -/
  free : Nat
  /-- The commands that wait, first in, first out. -/
  pending : List Instr
  deriving DecidableEq, Repr

/-- Reasons a command stops the block with a fault: there are none, since the spec gives every command an effect. -/
inductive Fault where
  deriving DecidableEq, Repr

/-- Reasons a command is refused. -/
inductive Refusal where
  /-- Raised by a dispatch arm whose command has no meaning yet; safe, since nothing is claimed of it. -/
  | notModelled (mnemonic : String)
  deriving DecidableEq, Repr

/-- The machine right after reset: the reset values the chapters state, and the log's values where they state none.
(DESIGN CHOICE, log 5, 6, 64) -/
def State.reset : State where
  variant := .ofc960
  regs := []
  time := TimeSt.reset
  host := HostSt.reset
  prt := { shares := [] }
  pool := PoolSt.reset
  ptx := PtxSt.reset
  fld := FldSt.reset
  lge := LgeSt.reset
  cle := CleSt.reset
  lio := LioSt.reset
  mtr := MtrSt.reset MtrKept.blank
  saf := SafSt.reset SafKept.blank
  rsr := RsrSt.reset none
  key := KeySt.reset []
  dsp := DspSt.reset
  can := CanSt.reset none
  twn := TwnSt.reset 0 none
  upd := UpdSt.reset UpdKept.blank
  rst := RstSt.reset
  evr := RecSt.reset
  out := []
  free := 0
  pending := []

end Sys2Proof.Machine
end

