-- ==== Sys2Proof/Machine/Ops.lean ====
section
/-! DEFINITION. The named operations every meaning is built from: register fields, outputs, free values, host memory,
interrupts and reports to the recorder. -/

namespace Sys2Proof.Machine

/-- A set-up register's value. (DESIGN CHOICE, log 39) -/
def State.reg (s : State) (off : Nat) : Word := Store.get (Reg.resetVal s.variant) s.regs off

/-- Give a set-up register a value, as the hardware does. -/
def State.setReg (s : State) (off : Nat) (v : Word) : State :=
  { s with regs := Store.put (Reg.resetVal s.variant) s.regs off v }

/-- A field's value. -/
def State.rf (s : State) (f : Fld) : Nat := fieldOf (s.reg f.off) f.hi f.lo

/-- Give a field a value. -/
def State.setF (s : State) (f : Fld) (n : Nat) : State := s.setReg f.off (withField (s.reg f.off) f.hi f.lo n)

/-- Whether a one-bit field is 1. -/
def State.on (s : State) (f : Fld) : Bool := s.rf f = 1

/-- Bit `i` of a register as a field. -/
def regBit (off i : Nat) : Fld := ⟨off, i, i⟩

/-- Add to a counter field, which saturates. -/
def State.addSat (s : State) (f : Fld) (n : Nat) : State :=
  s.setF f (min (s.rf f + n) (2 ^ (f.hi + 1 - f.lo) - 1))

/-- Show something to the outside world. (DESIGN CHOICE, log 10) -/
def State.emit (s : State) (o : Out) : State := { s with out := o :: s.out }

/-- The next value the spec leaves open, and the state in which it has been taken. -/
def State.fresh (s : State) : Word × State := (Config.freeWord s.free, { s with free := s.free + 1 })

/-- The value the spec leaves open next, as a word. (DESIGN CHOICE, log 9) -/
def State.freeVal (s : State) : Word := Config.freeWord s.free

/-- Take the next free value. (DESIGN CHOICE, log 9) -/
def State.useFree (s : State) : State := { s with free := s.free + 1 }

/-- Take the next `n` free values. (DESIGN CHOICE, log 9) -/
def State.useFrees (s : State) (n : Nat) : State := { s with free := s.free + n }

/-- Whether block `b` is held in block reset (R656, R657). -/
def State.inReset (s : State) (b : Nat) : Bool := s.on (regBit Reg.RST_BLKSTAT b)

/-- The frame number of the current frame (R44). -/
def State.frameNo (s : State) : Nat := s.time.frameSec.toNat * 1000 + s.rf F.TCK_CUR_FIDX

/-- Whether the module is in role ACTIVE (R508). (DEDUCED, log 122) -/
def State.active (s : State) : Bool := s.rf F.TWN_STAT_ROLE = 2

/-- The current twin epoch (R512). -/
def State.epoch (s : State) : Nat := s.rf F.TWN_EPOCH_EPOCH

/-- The port that holds SEM0, if any (R15, R177). -/
def State.sem0 (s : State) : Option HPort :=
  if s.on (F.SEM_CELL_HELD 0) then some (if s.on (F.SEM_CELL_PORT 0) then .hp1 else .hp0) else none

/-- Whether port `x` holds SEM0. -/
def State.holdsSem0 (s : State) (x : HPort) : Bool := s.sem0 = some x

/-- Whether partition `p` is enabled (R116). -/
def State.enabled (s : State) (p : Nat) : Bool := p = 0 || s.on (regBit (Reg.PRT_PEN (p / 32)) (p % 32))

/-- The valid values of the two flags SYS_STAT keeps of host errors: a value a field does not define (R11, R36). -/
def State.badVal (s : State) : State := s.setF F.SYS_STAT_BADVAL 1

/-- A write that reached an absent unit or port or an undefined offset (R20, R31, R36). -/
def State.absWr (s : State) : State := s.setF F.SYS_STAT_ABSWR 1

/-! ## Interrupts (R169 to R171) -/

/-- What the port's PCI Express configuration holds. -/
def State.pci (s : State) : HPort → PciCfg
  | .hp0 => s.host.pci0
  | .hp1 => s.host.pci1

/-- Word `w` of a vector's entry in the MSI-X table: address low, address high, data, vector control (R129). -/
def State.msixWord (s : State) (x : HPort) (v w : Nat) : Word :=
  match x with
  | .hp0 => Store.get msixReset s.host.tbl0 (4 * v + w)
  | .hp1 => Store.get msixReset s.host.tbl1 (4 * v + w)

/-- Whether a vector of the port is masked: by its mask bit, by the function mask, or while MSI-X is not enabled (R171).
(PRESUMED, log 40) -/
def State.masked (s : State) (x : HPort) (v : Nat) : Bool :=
  !(s.pci x).msixOn || (s.pci x).funcMask || bitOf (s.msixWord x v 3).toNat 0

/-- The pending-bit array of a port. -/
def State.pba (s : State) : HPort → Store Bool
  | .hp0 => s.host.pba0
  | .hp1 => s.host.pba1

/-- Set or clear a pending bit. -/
def State.setPend (s : State) (x : HPort) (v : Nat) (b : Bool) : State :=
  match x with
  | .hp0 => { s with host := { s.host with pba0 := Store.put noFlag s.host.pba0 v b } }
  | .hp1 => { s with host := { s.host with pba1 := Store.put noFlag s.host.pba1 v b } }

/-- Signal an MSI-X vector: its message is sent, and a masked one sets its pending bit (R171). -/
def State.msix (s : State) (x : HPort) (v : Nat) : State :=
  if s.masked x v then s.setPend x v true
  else s.emit (.msix x v ((s.msixWord x v 0).toNat + (s.msixWord x v 1).toNat * 2 ^ 32) (s.msixWord x v 2))

/-- Vectors that are pending and no longer masked are signalled, and their pending bits clear (R171). -/
def State.unpend (s : State) (x : HPort) : State :=
  (s.pba x).foldl (fun t e => if t.masked x e.1 then t else (t.setPend x e.1 false).msix x e.1) s

/-- Signal the unit vector of block `b` on one port, if HPC_UVENx enables it and the unit is fitted (R32, R171). -/
def State.signalOn (s : State) (x : HPort) (b : Nat) : State :=
  if s.on (regBit (Reg.HPC_UVEN x.num) b) && !s.variant.lacks b then s.msix x (1024 + b) else s

/-- Signal the unit vector of block `b` on both ports. (DEDUCED, log 121) -/
def State.signalUnit (s : State) (b : Nat) : State := (s.signalOn .hp0 b).signalOn .hp1 b

/-- Set bit `bit` of a block's status register; going from 0 to 1 while enabled in the interrupt-enable register, it
signals the block's unit vector. -/
def State.raise (s : State) (stat ien blk bit : Nat) : State :=
  if s.on (regBit stat bit) then s
  else
    let t := s.setF (regBit stat bit) 1
    if t.on (regBit ien bit) then t.signalUnit blk else t

/-! ## Reports to the recorder (R537, R544) -/

/-- Set a bit of EVR_STAT (R555). -/
def State.raiseEvr (s : State) (bit : Nat) : State := s.raise Reg.EVR_STAT Reg.EVR_IEN 18 bit

/-- A unit reports an event: the report is stamped and enters the input buffer of 512; a report that finds it full is
lost (R544, R553). A unit the variant lacks reports nothing (R32). -/
def State.reportFrom (s : State) (origin code part : Nat) (p1 p2 p3 : Word) : State :=
  if s.variant.lacks (code / 256) then s
  else if s.evr.buf.length < 512 then
    { s with evr := { s.evr with
        buf := s.evr.buf ++ [{ code := code, origin := origin, part := part, p1 := p1, p2 := p2, p3 := p3,
                               sec := s.time.sec, frac := s.time.frac, tunt := s.on F.RTC_STAT_OSF }] } }
  else
    let t := (s.addSat F.EVR_LOST_CNT 1).raiseEvr 2
    { t with evr := { t.evr with lostN := t.evr.lostN + 1, lostReset := s.inReset 18 } }

/-- A hardware unit's report (origin 0, R534). -/
def State.report (s : State) (code part : Nat) (p1 p2 p3 : Word) : State := s.reportFrom 0 code part p1 p2 p3

/-! ## Host memory (R107, R130) -/

/-- The bytes of host memory behind a port. -/
def State.hmem (s : State) : HPort → Store Byte
  | .hp0 => s.host.mem0
  | .hp1 => s.host.mem1

/-- Replace the bytes of host memory behind a port. -/
def State.setHmem (s : State) (x : HPort) (m : Store Byte) : State :=
  match x with
  | .hp0 => { s with host := { s.host with mem0 := m } }
  | .hp1 => { s with host := { s.host with mem1 := m } }

/-- The address ranges at which requests of a port fail. -/
def State.hbad (s : State) : HPort → List (Nat × Nat)
  | .hp0 => s.host.bad0
  | .hp1 => s.host.bad1

/-- Whether a request of the port to these addresses succeeds: the function is bus master and no byte lies in a
failing range. (DESIGN CHOICE, log 8) -/
def State.dmaOk (s : State) (x : HPort) (addr len : Nat) : Bool :=
  (s.pci x).busMaster && (s.hbad x).all (fun r => decide (addr + len ≤ r.1 ∨ r.1 + r.2 ≤ addr))

/-- The PASID that ring set `p`'s requests carry on port `x` (R107). -/
def State.pasid (s : State) (x : HPort) (p : Nat) : Option Nat :=
  if s.on (F.PRT_PASID_EN x.num p) then some (s.rf (F.PRT_PASID_PASID x.num p)) else none

/-- A read of host memory by ring set `p`: the bytes, or nothing on a DMA error. -/
def State.dmaRead (s : State) (x : HPort) (p addr len : Nat) : Option (List Byte) × State :=
  if len = 0 then (some [], s)
  else
    let t := s.emit (.memRead x (s.pasid x p) addr len)
    if s.dmaOk x addr len then (some (Store.getList byteZero (s.hmem x) addr len), t) else (none, t)

/-- A write to host memory by ring set `p`: the new state, and whether it succeeded. -/
def State.dmaWrite (s : State) (x : HPort) (p addr : Nat) (data : List Byte) : Bool × State :=
  if data = [] then (true, s)
  else
    let t := s.emit (.memWrite x (s.pasid x p) addr data)
    if s.dmaOk x addr data.length then (true, t.setHmem x (Store.putList byteZero (s.hmem x) addr data))
    else (false, t)

/-- Host software's own writes to its memory become visible (R149). (DESIGN CHOICE, log 7, 8) -/
def State.hostStores (s : State) (x : HPort) (m : HostMem) : State :=
  let t := s.setHmem x (m.cells.foldl (fun st c => Store.put byteZero st c.1 c.2) (s.hmem x))
  match x with
  | .hp0 => { t with host := { t.host with bad0 := m.bad } }
  | .hp1 => { t with host := { t.host with bad1 := m.bad } }

/-! ## The count (R42 to R44, R53) -/

/-- The count as one number in units of 2^-32 s. -/
def State.count (s : State) : Nat := s.time.sec.toNat * 2 ^ 32 + s.time.frac.toNat

/-- Load the count. -/
def State.setCount (s : State) (n : Nat) : State :=
  { s with time := { s.time with sec := BitVec.ofNat 48 (n / 2 ^ 32), frac := wd (n % 2 ^ 32) } }

/-- The count at which tick `k` (0 to 7,999) of second `sec` begins (R42). -/
def tickStart (sec k : Nat) : Nat := sec * 2 ^ 32 + ceilDiv (k * 2 ^ 32) 8000

/-- The first frame boundary at or after a count (R43, R58). -/
def frameBoundary (n : Nat) : Nat :=
  let sec := n / 2 ^ 32
  let f := (List.range 1000).find? (fun f => decide (n ≤ tickStart sec (8 * f)))
  match f with
  | some f => tickStart sec (8 * f)
  | none => (sec + 1) * 2 ^ 32

end Sys2Proof.Machine
end

