-- ==== Sys2Proof/Machine/Partition.lean ====
section
/-! DEFINITION. The partition filter, the share table and the records of refusals and operator accesses (chapter
"Partitions and Tenant Separation"). -/

namespace Sys2Proof.Machine

/-- Fields of a share entry (R99, R123). -/
def Share.valid (e : Share) : Bool := fieldOf e.w0 31 31 = 1

/-- The entry applies to every tenant (R99). -/
def Share.all (e : Share) : Bool := fieldOf e.w0 30 30 = 1

/-- The entry's object class (R99). -/
def Share.cls (e : Share) : Nat := fieldOf e.w0 29 27

/-- The entry's target tenant (R99). -/
def Share.tgt (e : Share) : Nat := fieldOf e.w0 22 16

/-- The first object of the range (R99). -/
def Share.base (e : Share) : Nat := fieldOf e.w0 15 0

/-- The number of objects in the range (R99). -/
def Share.count (e : Share) : Nat := fieldOf e.w1 16 0

/-- The number of objects of a share class (R100). -/
def shareRange : Nat → Nat
  | 1 => 65536
  | 2 => 72
  | 3 => 256
  | _ => 0

/-- Whether a commit of the entry is refused (R100). -/
def Share.refused (e : Share) : Bool :=
  e.valid && (shareRange e.cls = 0 || e.count = 0 || 65536 < e.count || shareRange e.cls < e.base + e.count
    || (!e.all && e.tgt = 0))

/-- Whether the entry covers object `i` of class `cls` for tenant `p` (R90 row 3, R99). -/
def Share.covers (e : Share) (p cls i : Nat) : Bool :=
  e.valid && e.cls = cls && e.base ≤ i && i < e.base + e.count && (e.all || e.tgt = p)

/-- Whether some share entry covers the object for tenant `p`; overlapping entries grant the union (R102). -/
def State.shared (s : State) (p cls i : Nat) : Bool := s.prt.shares.any (fun e => e.2.covers p cls i)

/-- The object classes events 0x0603 and 0x0604 name (R120). -/
def Cls.point : Nat := 1
/-- Class of metering circuits (R99). -/
def Cls.circuit : Nat := 2
/-- Class of event code groups (R99). -/
def Cls.group : Nat := 3
/-- Class of queues (R120). -/
def Cls.queue : Nat := 4
/-- Class of logic tasks (R120). -/
def Cls.task : Nat := 5
/-- Class of loop slots (R120). -/
def Cls.loop : Nat := 6
/-- Class of key slots and display regions (R120). -/
def Cls.slot : Nat := 7

/-- Status codes (R162). -/
def St.success : Nat := 0x00
/-- R162. -/
def St.noObject : Nat := 0x01
/-- R162. -/
def St.readOnly : Nat := 0x02
/-- R162. -/
def St.denied : Nat := 0x03
/-- R162. -/
def St.unsupported : Nat := 0x04
/-- R162. -/
def St.roleChanged : Nat := 0x05
/-- R162. -/
def St.badDesc : Nat := 0x06
/-- R162. -/
def St.busy : Nat := 0x07
/-- R162. -/
def St.state : Nat := 0x08
/-- R162. -/
def St.verifyFail : Nat := 0x09
/-- R162. -/
def St.rejected : Nat := 0x0A
/-- R162. -/
def St.dmaError : Nat := 0x0B
/-- R162. -/
def St.noSpace : Nat := 0x0C
/-- R162. -/
def St.aborted : Nat := 0x0D
/-- R162. -/
def St.mediaError : Nat := 0x0E

/-- The filter's decision for a read by partition `p` of object `i` of class `cls` tagged `t`; `none` when the object
does not exist (R90, R91). -/
def State.filterRead (s : State) (p : Nat) (t : Option Nat) (cls i : Nat) : Nat :=
  match t with
  | none => St.noObject
  | some t =>
    if p = 0 || p = t then St.success
    else if t = 0 && s.shared p cls i then St.success
    else St.noObject

/-- The filter's decision for a write, force, load or use (R90). -/
def State.filterWrite (s : State) (p : Nat) (t : Option Nat) (cls i : Nat) : Nat :=
  match t with
  | none => St.noObject
  | some t =>
    if p = 0 || p = t then St.success
    else if t = 0 && s.shared p cls i then St.readOnly
    else St.noObject

/-- A tenant command refused with NO_OBJECT, READ_ONLY or DENIED counts once, and records event 0x0604 while REFEVT is 1
(R120, R124, R693). Commands of partition 0 are no tenant commands. -/
def State.refusal (s : State) (p cls i status : Nat) : State :=
  if p = 0 then s
  else
    let t := s.addSat F.PRT_REFCNT_CNT 1
    if t.on F.PRT_CTL_REFEVT then t.report 0x0604 p (wd cls) (wd i) (wd status) else t

/-- While OPAUDIT is 1, a write, force, load or key use by partition 0 on an object tagged `t ≠ 0` records event 0x0603
tagged `t` (R115, R120). -/
def State.audit (s : State) (p t cls i code : Nat) : State :=
  if p = 0 && t != 0 && s.on F.PRT_CTL_OPAUDIT then s.report 0x0603 t (wd cls) (wd i) (wd code) else s

/-- Time passes: an action of PRT_SHCMD, which takes at most 2 us, has ended (R123). (DESIGN CHOICE, log 1, 173) -/
def State.idle (s : State) : State := if s.on F.PRT_SHCMD_BUSY then s.setF F.PRT_SHCMD_BUSY 0 else s

/-- The words PRT_CFGCRC covers, in the order of R119. -/
def State.cfgWords (s : State) : List Word :=
  [s.reg (Reg.PRT_PEN 0), s.reg (Reg.PRT_PEN 1), s.reg (Reg.PRT_PEN 2), s.reg (Reg.PRT_PEN 3)] ++
  (Store.getList Share.dflt s.prt.shares 0 4096).flatMap (fun e => [e.w0, e.w1])

end Sys2Proof.Machine
end

