-- ==== Sys2Proof/Machine/Pool.lean ====
section
/-! DEFINITION. The queue pool: cell allocation, writing and reading packets, errors, flushes and its views (chapter
"The Drift Queue Pool"). -/

namespace Sys2Proof.Machine

/-- Cells a packet of `n` bytes occupies (R178). -/
def cellsOf (n : Nat) : Nat := ceilDiv n 128

/-- Cells of one packet. -/
def Pkt.cells (p : Pkt) : Nat := cellsOf p.data.length

/-- The packets of queue `q`, oldest first. -/
def State.queue (s : State) (q : Nat) : List Pkt := Store.get noPkts s.pool.queues q

/-- Replace the packets of queue `q`. -/
def State.setQueue (s : State) (q : Nat) (ps : List Pkt) : State :=
  { s with pool := { s.pool with queues := Store.put noPkts s.pool.queues q ps } }

/-- Cells of a list of packets. -/
def cellSum (ps : List Pkt) : Nat := ps.foldl (fun a p => a + p.cells) 0

/-- The fill of queue `q` in cells. -/
def State.fill (s : State) (q : Nat) : Nat := cellSum (s.queue q)

/-- The quota of queue `q` (R180). -/
def State.quota (s : State) (q : Nat) : Nat := s.rf (F.QPL_QCFG_QUOTA q)

/-- The reservation of queue `q` as configured. -/
def State.resv (s : State) (q : Nat) : Nat := s.rf (F.QPL_QCFG_RESV q)

/-- The reservation that allocation honours: 0 once the guarantee is withdrawn (R190). -/
def State.guarantee (s : State) (q : Nat) : Nat := if q < s.pool.guarBelow then s.resv q else 0

/-- The tag of queue `q`. -/
def State.queueTag (s : State) (q : Nat) : Nat := s.rf (F.QPL_QATTR_TAG q)

/-- Sum of a quantity over all queues. -/
def sumQueues (f : Nat → Nat) : Nat := (List.range 1024).foldl (fun a q => a + f q) 0

/-- The sum of all reservations (QPL_RESVSUM, R198). -/
def State.resvSum (s : State) : Nat := sumQueues s.resv

/-- Cells in use. -/
def State.usedCells (s : State) : Nat := s.pool.queues.foldl (fun a e => a + cellSum e.2) 0

/-- Free cells (QPL_FREE, R198): neither in use, nor retired, nor unreachable until the audit ends (R189). -/
def State.freeCells (s : State) : Nat :=
  65536 - s.rf F.QPL_RETIRED_CNT - s.usedCells - (match s.pool.audit with | some a => a.1 | none => 0)

/-- The outstanding reservation (R182). -/
def State.outstanding (s : State) : Nat := sumQueues (fun q => s.guarantee q - s.fill q)

/-- The shared free count (R182), 0 when negative. -/
def State.sharedFree (s : State) : Nat := s.freeCells - s.outstanding

/-- Why an allocation of `n` cells for queue `q` is refused, if it is (R182): 0 quota, 1 shared exhaustion. The cells
are asked for one after another; cells below the guarantee leave the shared free count as it is. -/
def State.allocRefused (s : State) (q n : Nat) : Option Nat :=
  let f := s.fill q
  let top := f + n
  let sharedEnd := max f (s.guarantee q) + s.sharedFree
  if top ≤ s.quota q && top ≤ sharedEnd then none
  else if n = 0 then none
  else if s.quota q ≤ sharedEnd then some 0 else some 1

/-- A packet for queue `q` is discarded: OVR, QPL_QDROP and, when OVR was 0, event 0x0803 with its cause (R183, R196).
The event gives cause 0 instead of 1 where the queue's tag is not 0. -/
def State.discard (s : State) (q cause : Nat) : State :=
  let tag := s.queueTag q
  let c := if cause = 1 && tag != 0 then 0 else cause
  let t := if s.on (F.QPL_QSTAT_OVR q) then s
    else (s.setF (F.QPL_QSTAT_OVR q) 1).report 0x0803 tag (wd q) (wd (s.fill q)) (wd c)
  t.addSat (F.QPL_QDROP_CNT q) 1

/-- The error that injection puts into the next packet written to the queue (R197). -/
def State.injected (s : State) (q : Nat) : Nat :=
  if s.pool.injU = some q then 2 else if s.pool.injC = some q then 1 else 0

/-- Forget the injections into queue `q` once a cell has been written. -/
def State.clearInject (s : State) (q : Nat) : State :=
  { s with pool := { s.pool with
      injC := if s.pool.injC = some q then none else s.pool.injC
      injU := if s.pool.injU = some q then none else s.pool.injU } }

/-- A packet for queue `q` is refused at some cell and discarded whole (R183). An injected error goes with its first cell
where that was still granted (R197). (DEDUCED, log 146) -/
def State.refuseWrite (s : State) (q cause : Nat) : State :=
  (if s.allocRefused q 1 = none then s.clearInject q else s).discard q cause

/-- Write a packet into queue `q` (R182, R183, R185): whether it was accepted, and the state. -/
def State.enqueue (s : State) (q : Nat) (p : Pkt) : Bool × State :=
  match s.allocRefused q p.cells with
  | some cause => (false, s.refuseWrite q cause)
  | none =>
    let e := s.injected q
    let t := (if p.data = [] then s else s.clearInject q).setQueue q
      (s.queue q ++ [{ p with ecc := max p.ecc (if p.data = [] then 0 else e), seq := s.pool.arrived }])
    (true, { t with pool := { t.pool with arrived := s.pool.arrived + 1 } })

/-- A plain packet. -/
def mkPkt (data : List Byte) (src err frame : Nat) : Pkt :=
  { data := data, src := src, err := err, frame := frame, op := none, point := false, ecc := 0, seq := 0 }

/-- The packets that a pending flush of queue `q` still removes. -/
def State.flushLeft (s : State) (q : Nat) : Nat :=
  match s.pool.flushing.find? (fun e => e.1 = q) with
  | some e => e.2
  | none => 0

/-- A consumed packet no longer belongs to a pending flush. -/
def State.flushConsume (s : State) (q : Nat) : State :=
  { s with pool := { s.pool with
      flushing := s.pool.flushing.map (fun e => if e.1 = q then (e.1, e.2 - 1) else e) } }

/-- The largest number of queues, from queue 0 up, whose reservations fit into `avail` cells (R190). -/
def guarFit (resv : Nat → Nat) (avail : Nat) : Nat → Nat
  | 0 => 0
  | n + 1 =>
    if (List.range (n + 1)).foldl (fun a q => a + resv q) 0 ≤ avail then n + 1 else guarFit resv avail n

/-- The highest queue below `n` that has a guarantee, as event 0x0802 gives it (R196). -/
def highestGuaranteed (resv : Nat → Nat) : Nat → Nat
  | 0 => 0xFFFFFFFF
  | n + 1 => if 0 < resv n then n else highestGuaranteed resv n

/-- After a retirement: where the reservations still guaranteed no longer fit, SHORT, event 0x0802 and the withdrawals
(R190). (DEDUCED, log 145) -/
def State.shortfall (s : State) : State :=
  let avail := 65536 - s.rf F.QPL_RETIRED_CNT
  if sumQueues s.guarantee ≤ avail then s
  else
    let g := min s.pool.guarBelow (guarFit s.resv avail 1024)
    let t : State := { s with pool := { s.pool with guarBelow := g } }
    (t.setF F.QPL_STAT_SHORT 1).report 0x0802 0 (s.reg Reg.QPL_RETIRED) (wd s.resvSum)
      (wd (highestGuaranteed s.resv g))

/-- Retire a cell (R188, R189). -/
def State.retireCell (s : State) : State := (s.addSat F.QPL_RETIRED_CNT 1).shortfall

/-- An uncorrectable error in cell `cell` of a packet of queue `q`: PSN, QPL_UERR, event 0x0801 and the retirement (R188). -/
def State.poisonCell (s : State) (q cell : Nat) : State :=
  (((s.setF (F.QPL_QSTAT_PSN q) 1).addSat F.QPL_UERR_CNT 1).report 0x0801 0 (wd cell) (wd q) 0).retireCell

/-- The packet at position `i` of queue `q` is dropped for an uncorrectable error in cell `cell` (R188). -/
def State.poison (s : State) (q i cell : Nat) : State :=
  let t := s.setQueue q ((s.queue q).eraseIdx i)
  let t := if i < t.flushLeft q then t.flushConsume q else t
  t.poisonCell q cell

/-- A corrected error counts in the queue and in the pool (R187); the pool writes the corrected data back. -/
def State.corrected (s : State) (q : Nat) : State :=
  (s.addSat (F.QPL_QCERR_CNT q) 1).addSat F.QPL_CERR_CNT 1

/-- The consumer reads the head packet of queue `q` (R185, R186): the packet, if it could be read, and the state. An
uncorrectable error found on the way drops it (R188); the number of the failing cell is open there.
(DESIGN CHOICE, log 17) -/
def State.dequeue (s : State) (q : Nat) : Option Pkt × State :=
  match s.queue q with
  | [] => (none, s)
  | p :: rest =>
    if p.ecc = 2 then (none, (s.useFree.poison q 0 s.freeVal.toNat))
    else
      let t := (s.setQueue q rest).flushConsume q
      (some { p with ecc := 0 }, if p.ecc = 1 then t.corrected q else t)

/-- Whether a flush of queue `q` is in progress (R192). -/
def State.flushRuns (s : State) (q : Nat) : Bool := s.pool.flushing.any (fun e => e.1 = q)

/-- Remove every packet of queue `q`; a flush in progress has nothing left to remove. -/
def State.emptyQueue (s : State) (q : Nat) : State :=
  let t := s.setQueue q []
  { t with pool := { t.pool with flushing := t.pool.flushing.map (fun e => if e.1 = q then (q, 0) else e) } }

/-- Keep only the packets of queue `q` that a test selects; a flush in progress still removes those it would have. -/
def State.filterQueue (s : State) (q : Nat) (keep : Pkt → Bool) : State :=
  let n := (((s.queue q).take (s.flushLeft q)).filter keep).length
  let t := s.setQueue q ((s.queue q).filter keep)
  { t with pool := { t.pool with flushing := t.pool.flushing.map (fun e => if e.1 = q then (q, n) else e) } }

/-- The module itself flushes queue `q` (R191 steps 3 and 4, R193); where a flush is in progress it joins that one, whose
completion sets FLUSHED (R192). -/
def State.flushNow (s : State) (q : Nat) : State :=
  if s.flushRuns q then s.emptyQueue q else (s.emptyQueue q).setF (F.QPL_QSTAT_FLUSHED q) 1

/-- Request a flush of queue `q` (R191, R192): one in progress is joined, an empty queue is flushed at once. -/
def State.requestFlush (s : State) (q : Nat) : State :=
  if s.flushRuns q then s
  else if s.queue q = [] then s.setF (F.QPL_QSTAT_FLUSHED q) 1
  else { s with pool := { s.pool with flushing := s.pool.flushing ++ [(q, (s.queue q).length)] } }

/-- QPL_QSTAT as it reads: FULL follows the fill (R184). -/
def State.qstat (s : State) (q : Nat) : Word :=
  withField (s.reg (Reg.QPL_QSTAT q)) 0 0 (ofBool (s.quota q ≤ s.fill q))

/-- Data passes through the empty queue `q` without resting there (R179): whether it came through, with an error injected there
corrected (R187) or met (R188, R197). -/
def State.passThrough (s : State) (q : Nat) : Bool × State :=
  let e := s.injected q
  let t := s.clearInject q
  if e = 2 then (false, t.useFree.poisonCell q t.freeVal.toNat)
  else (true, if e = 1 then t.corrected q else t)

/-- Receive queue of a ring set (R179). -/
def rxQueue (x : HPort) (p : Nat) : Nat := 128 * x.num + p

/-- Transmit staging queue of a ring set (R179). -/
def stagingQueue (x : HPort) (p : Nat) : Nat := 512 + 128 * x.num + p

end Sys2Proof.Machine
end

