-- ==== Sys2Proof/Machine/RiserPath.lean ====
section
/-! DEFINITION. Riser ports as the other units use them: counters, the filtering database, the path of own traffic with its
PRP trailer, and MACsec failures (chapter "Riser Network"). -/

namespace Sys2Proof.Machine

/-- Replace the riser part. -/
def State.setRsr (s : State) (r : RsrSt) : State := { s with rsr := r }

/-- Set a bit of RSR_STAT (R502). -/
def State.raiseRsr (s : State) (bit : Nat) : State := s.raise Reg.RSR_STAT Reg.RSR_IEN 16 bit

/-- Counter `k` of port `r` (R504). -/
def State.rsrCnt (s : State) (k r : Nat) : Nat := Store.get natZero s.rsr.cnt (4 * k + r)

/-- Add to a counter of 64 bits. -/
def State.countRsr (s : State) (k r n : Nat) : State :=
  s.setRsr { s.rsr with cnt := Store.put natZero s.rsr.cnt (4 * k + r) ((s.rsrCnt k r + n) % 2 ^ 64) }

/-- The LAN of a riser port: 0 for A, 1 for B (R475). -/
def lanOf (r : Nat) : Nat := r / 2

/-- Transmit queue of port `r` and class `c` (R179). -/
def riserTx (r c : Nat) : Nat := 384 + 8 * r + c

/-- Whether MRP blocks a port (R503). -/
def State.mrpBlocked (s : State) (r : Nat) : Bool :=
  if r % 2 = 0 then s.on (F.RSR_MRPSTAT_BLKUP (lanOf r)) else s.on (F.RSR_MRPSTAT_BLKDN (lanOf r))

/-- Whether frames can leave on a port: its link is up and the block is out of reset. -/
def State.riserUp (s : State) (r : Nat) : Bool := s.on (F.RSR_PSTAT_LINK r) && !s.inReset 16

/-- Destination address of a frame. -/
def dstOf (data : List Byte) : Nat := natBE (data.take 6)
/-- Source address of a frame. -/
def srcOf (data : List Byte) : Nat := natBE ((data.drop 6).take 6)
/-- Whether an address is a group address. -/
def isGroup (mac : Nat) : Bool := bitOf mac 40

/-- PCP and VID of a frame's VLAN tag, if it has one. -/
def tagOf (data : List Byte) : Option (Nat × Nat) :=
  if natBE ((data.drop 12).take 2) = 0x8100 then
    let t := natBE ((data.drop 14).take 2)
    some (t / 2 ^ 13, t % 2 ^ 12)
  else none

/-- The traffic class of a frame: its PCP, 0 when untagged (R480). -/
def classOf (data : List Byte) : Nat :=
  match tagOf data with
  | some t => t.1
  | none => 0

/-- Bytes before a frame's payload: addresses, tag and EtherType. -/
def headerLen (data : List Byte) : Nat := if (tagOf data).isSome then 18 else 14

/-- The EtherType after an optional tag. -/
def typeOf (data : List Byte) : Nat := natBE ((data.drop (headerLen data - 2)).take 2)

/-- The low 32 bits of seconds as a number. -/
def State.now (s : State) : Nat := s.time.sec.toNat

/-- The module's milliseconds, for windows in time. -/
def State.nowMs (s : State) : Nat := s.count * 1000 / 2 ^ 32

/-- The port on which a LAN's bridge has learned an address within 300 s (R478). -/
def State.learned (s : State) (lan mac : Nat) : Option Nat :=
  (s.rsr.fdb.find? (fun e => e.lan = lan && e.mac = mac && s.now < e.sec + 300)).map Learned.port

/-- Learn an address; a full database of 8,192 entries of the LAN learns no further one (R478). -/
def State.learn (s : State) (r mac : Nat) : State :=
  let l := lanOf r
  let keep := s.rsr.fdb.filter (fun e => !(e.lan = l && e.mac = mac) && s.now < e.sec + 300)
  if isGroup mac || 8192 ≤ (keep.filter (fun e => e.lan = l)).length then s
  else s.setRsr { s.rsr with fdb := { lan := l, mac := mac, port := r, sec := s.now } :: keep }

/-- The riser's own address (R502). -/
def State.riserMac (s : State) : Nat := (s.reg Reg.RSR_MACL).toNat + s.rf F.RSR_MACH_ADDR * 2 ^ 32

/-- The ring ports of a LAN on which a frame of the module's own leaves: the learned one for a known unicast address, both
otherwise (R486). -/
def State.ownPorts (s : State) (lan : Nat) (data : List Byte) : List Nat :=
  let both := [2 * lan, 2 * lan + 1].filter (fun r => s.riserUp r && !s.mrpBlocked r)
  if isGroup (dstOf data) then both
  else match s.learned lan (dstOf data) with
    | some r => both.filter (fun q => q = r)
    | none => both

/-- The redundancy control trailer of a LAN (R486): sequence number, LAN identifier with the size from after the EtherType,
and the PRP suffix. (PRESUMED, log 67) -/
def trailer (seq lan size : Nat) : List Byte := bytesBE 2 seq ++ bytesBE 2 ((0xA + lan) * 2 ^ 12 + size % 2 ^ 12) ++ bytesBE 2 0x88FB

/-- A frame as it leaves on one LAN: padded to the minimum and with its trailer. (PRESUMED, log 67, 73) -/
def prpFrame (seq lan : Nat) (data : List Byte) : List Byte :=
  let body := data ++ List.replicate (54 - data.length) 0
  body ++ trailer seq lan (body.length - headerLen body + 6)

/-- Queue a frame for a riser port; one that the queue refuses is dropped and counted (R479, R504). -/
def State.toRiser (s : State) (r c : Nat) (k : Pkt) : State :=
  if !s.riserUp r then s
  else
    match s.enqueue (riserTx r c) k with
    | (true, t) => t
    | (false, t) => t.countRsr 7 r 1

/-- The queues a frame of the module's own enters (R486). -/
def State.ownQueues (s : State) (c : Nat) (data : List Byte) : List Nat :=
  (s.ownPorts 0 data ++ s.ownPorts 1 data).map (fun r => riserTx r c)

/-- Send a frame of the module's own on both LANs with PRP trailers (R486). -/
def State.sendOwn (s : State) (c : Nat) (k : Pkt) : State :=
  let seq := s.rsr.prpSeq
  let t := s.setRsr { s.rsr with prpSeq := (seq + 1) % 65536 }
  [0, 1].foldl (fun t l => (s.ownPorts l k.data).foldl (fun t r =>
    t.toRiser r c { k with data := prpFrame seq l k.data }) t) t

/-- A tagged frame of the module's own: destination, PCP, EtherType and payload. -/
def State.riserFrame (s : State) (dst pcp ty : Nat) (payload : List Byte) : List Byte :=
  bytesBE 6 dst ++ bytesBE 6 s.riserMac ++ bytesBE 2 0x8100 ++ bytesBE 2 (pcp * 2 ^ 13 + s.rf F.RSR_CTL_VID) ++ bytesBE 2 ty ++ payload

/-- Event 0x100A with its STAT bit; an integrity or replay failure (kind 0) is recorded at most once per second per port, with
the frames discarded since the last event (R494). -/
def State.macsecFail (s : State) (r kind : Nat) : State :=
  let t := s.raiseRsr 5
  if kind = 0 && Store.get natZero s.rsr.failSec r = s.now + 1 then t
  else if kind = 0 then
    let n := t.rsrCnt 10 r
    let inc := n - Store.get natZero t.rsr.failSec (4 + r)
    let f := Store.put natZero (Store.put natZero t.rsr.failSec r (s.now + 1)) (4 + r) n
    (t.setRsr { t.rsr with failSec := f }).report 0x100A 0 (wd r) (wd inc) 0
  else t.report 0x100A 0 (wd r) 0 (wd kind)

/-- A key slot that riser ports name becomes unusable: each port that would transmit with it stops (R494, R617). -/
def State.keyGone (s : State) (slot : Nat) : State :=
  forUpto 4 s (fun r t =>
    if t.on (F.RSR_PCTL_MSEC r) && (t.rf (F.RSR_MSEC_SLOTA r) = slot || t.rf (F.RSR_MSEC_SLOTB r) = slot)
    then t.macsecFail r 1 else t)

end Sys2Proof.Machine
end

