-- ==== Sys2Proof/Machine/Rings.lean ====
section
/-! DEFINITION. The ring sets: states, entries, interrupts, faults, commands and their completions (chapter "Host
Ports, Semaphores and Descriptor Rings"). -/

namespace Sys2Proof.Machine

/-- The ring set of partition `p` on port `x`. -/
def State.ring (s : State) (x : HPort) (p : Nat) : RingSet := Store.get RingSet.dflt s.host.rings (2 * p + x.num)

/-- Replace a ring set. -/
def State.setRing (s : State) (x : HPort) (p : Nat) (r : RingSet) : State :=
  { s with host := { s.host with rings := Store.put RingSet.dflt s.host.rings (2 * p + x.num) r } }

/-- The state field of a ring set in HPC_STATEx (R143, R176). -/
def rsField (x : HPort) (p : Nat) : Fld := ⟨Reg.HPC_STATE x.num (p / 16), 2 * (p % 16) + 1, 2 * (p % 16)⟩

/-- A ring set's state code (R143): 0 STOPPED, 1 RUNNING, 2 STOPPING, 3 FAULT. -/
def State.rsState (s : State) (x : HPort) (p : Nat) : Nat := s.rf (rsField x p)

/-- Whether a ring set is RUNNING. -/
def State.rsRunning (s : State) (x : HPort) (p : Nat) : Bool := s.rsState x p = 1

/-- Put a ring set into a state. -/
def State.setRs (s : State) (x : HPort) (p st : Nat) : State := s.setF (rsField x p) st

/-- Ring size exponent of a size nibble (R142, R173). -/
def ringLog (n : Nat) : Nat := if n = 0 then 16 else n

/-- Entries of the command ring. -/
def RingSet.cmdN (r : RingSet) : Nat := 2 ^ ringLog (fieldOf r.size 3 0)
/-- Entries of the completion ring. -/
def RingSet.cplN (r : RingSet) : Nat := 2 ^ ringLog (fieldOf r.size 7 4)
/-- Entries of the event ring. -/
def RingSet.evtN (r : RingSet) : Nat := 2 ^ ringLog (fieldOf r.size 11 8)
/-- Entries of the receive ring. -/
def RingSet.rxN (r : RingSet) : Nat := 2 ^ ringLog (fieldOf r.size 15 12)
/-- Receive buffer size in bytes (R142). -/
def RingSet.bufSize (r : RingSet) : Nat := 256 * 2 ^ fieldOf r.size 18 16
/-- Operation slots the ring set may hold (R133, R174). -/
def RingSet.maxOps (r : RingSet) : Nat := fieldOf r.cfg 23 16
/-- Interrupt coalescing delay in microseconds (R170, R174). -/
def RingSet.icoal (r : RingSet) : Nat := fieldOf r.cfg 9 0
/-- Receive hold time in microseconds (R167, R174). -/
def RingSet.holdTime (r : RingSet) : Nat := fieldOf r.hold 15 0

/-- Positions between a consumer index and a producer index. -/
def ringUsed (n pi ci : Nat) : Nat := (pi + n - ci % n) % n

/-- The vector of a ring set (R169). -/
def RingVec.vector (k : RingVec) (p : Nat) : Nat :=
  match k with
  | .cpl => 8 * p
  | .evt => 8 * p + 1
  | .rx => 8 * p + 2

/-- Whether the vector is armed (R170). -/
def RingSet.armed (r : RingSet) : RingVec → Bool
  | .cpl => r.armCpl
  | .evt => r.armEvt
  | .rx => r.armRx

/-- Set or clear an ARM bit. -/
def RingSet.setArm (r : RingSet) (k : RingVec) (b : Bool) : RingSet :=
  match k with
  | .cpl => { r with armCpl := b }
  | .evt => { r with armEvt := b }
  | .rx => { r with armRx := b }

/-- Whether the coalescing timer of the vector runs. -/
def RingSet.due (r : RingSet) : RingVec → Bool
  | .cpl => r.dueCpl
  | .evt => r.dueEvt
  | .rx => r.dueRx

/-- Start or stop the coalescing timer of the vector. -/
def RingSet.setDue (r : RingSet) (k : RingVec) (b : Bool) : RingSet :=
  match k with
  | .cpl => { r with dueCpl := b }
  | .evt => { r with dueEvt := b }
  | .rx => { r with dueRx := b }

/-- Whether the host has entries of the kind it has not consumed (R170). -/
def RingSet.unconsumed (r : RingSet) : RingVec → Bool
  | .cpl => r.cplPi != r.cplCi
  | .evt => r.evtPi != r.evtCi
  | .rx => r.rxNew

/-- Signal an armed vector and clear its ARM bit (R170). -/
def State.fireVec (s : State) (x : HPort) (p : Nat) (k : RingVec) : State :=
  let r := s.ring x p
  if r.armed k then
    let r' := (r.setArm k false).setDue k false
    (s.setRing x p (match k with | .rx => { r' with rxNew := false } | _ => r')).msix x (k.vector p)
  else s

/-- New entries of the kind exist: the vector is signalled at once when ICOAL is 0, otherwise its timer runs (R170). -/
def State.noteEntries (s : State) (x : HPort) (p : Nat) (k : RingVec) : State :=
  let r := s.ring x p
  if r.icoal = 0 then s.fireVec x p k else s.setRing x p (r.setDue k true)

/-- Subscriptions of a ring set end without entries (R131, R145, R146). -/
def State.endSubs (s : State) (x : HPort) (p : Nat) : State :=
  { s with ptx := { s.ptx with subs := s.ptx.subs.filter (fun b => !(b.port = x && b.part = p)) } }

/-- What a ring set loses when its port's link goes down or it faults: fetched commands, waiting frames, subscriptions
(R131, R146). Started commands apply their effect when they end; their completions are discarded with their slots. -/
def State.dropRing (s : State) (x : HPort) (p : Nat) : State :=
  let r := s.ring x p
  let t := s.setRing x p { r with ops := [], holding := false, dueCpl := false, dueEvt := false, dueRx := false }
  ((t.flushNow (rxQueue x p)).flushNow (stagingQueue x p)).endSubs x p

/-- A DMA error on a ring structure: FAULT, event 0x0703 tagged `p`, vector 8p + 3 (R146). -/
def State.ringFault (s : State) (x : HPort) (p errc : Nat) : State :=
  let t := (s.setRs x p 3).dropRing x p
  let t := t.setRing x p { t.ring x p with errc := errc }
  (t.report 0x0703 p (wd x.num) (wd p) (wd errc)).msix x (8 * p + 3)

/-- The bytes of a list of words. -/
def wordsBytes (ws : List Word) : List Byte := ws.flatMap wordBytes

/-- Write one event entry at the producer index; `ws` are its eight words without PHASE (R163). -/
def State.rawEvt (s : State) (x : HPort) (p : Nat) (ws : List Word) : State :=
  let r := s.ring x p
  let ws := match ws with
    | w :: rest => withField w 31 31 (ofBool r.evtPhase) :: rest
    | [] => []
  match s.dmaWrite x p (r.evtB + 32 * r.evtPi) (wordsBytes ws) with
  | (false, t) => t.ringFault x p 2
  | (true, t) =>
    let wrap := r.evtPi + 1 = r.evtN
    (t.setRing x p { r with evtPi := if wrap then 0 else r.evtPi + 1,
                            evtPhase := if wrap then !r.evtPhase else r.evtPhase }).noteEntries x p .evt

/-- Free event positions besides the one that always stays unused (R164). -/
def RingSet.evtFree (r : RingSet) : Nat := r.evtN - 1 - ringUsed r.evtN r.evtPi r.evtCi

/-- Write an ordinary event entry to a RUNNING ring set, or discard and count it when only the kept position is free
or lost entries have not been told yet (R164). -/
def State.eventEntry (s : State) (x : HPort) (p : Nat) (ws : List Word) : State :=
  let r := s.ring x p
  if !s.rsRunning x p then s
  else if 2 ≤ r.evtFree && r.lostSince = 0 then s.rawEvt x p ws
  else s.setRing x p { r with evtLost := min (r.evtLost + 1) (2 ^ 32 - 1), lostSince := r.lostSince + 1 }

/-- After consumption of an entry: the KIND 0x06 entry in the kept position (R164). While entries are lost only that
position is free, so a second free one shows the consumption. -/
def State.lostEntry (s : State) (x : HPort) (p : Nat) : State :=
  let r := s.ring x p
  if r.lostSince = 0 || r.evtFree < 2 then s
  else (s.setRing x p { r with lostSince := 0 }).rawEvt x p [wd (0x06 * 2 ^ 24), wd r.lostSince, 0, 0, 0, 0, 0, 0]

/-- The two words of a frame number, low first. -/
def State.frameWords (s : State) : Word × Word := (wd (s.frameNo % 2 ^ 32), wd (s.frameNo / 2 ^ 32))

/-! ## Receive frames (R165 to R168) -/

/-- The source code of a frame (R163): type and number. -/
def srcCode (ty n : Nat) : Nat := ty * 256 + n

/-- A KIND 0x04 event entry (R163). -/
def State.dropEntry (s : State) (x : HPort) (p reason : Nat) (k : Pkt) : State :=
  let fw := s.frameWords
  s.eventEntry x p [wd (0x04 * 2 ^ 24), wd reason, wd k.data.length, wd k.src, fw.1, fw.2, 0, 0]

/-- Free posted receive buffers. -/
def RingSet.rxFree (r : RingSet) : Nat := ringUsed r.rxN r.rxPi r.rxCi

/-- Buffers a frame needs (R166). -/
def RingSet.need (r : RingSet) (k : Pkt) : Nat := ceilDiv k.data.length r.bufSize

/-- Drop the head frame of a receive queue for want of buffers (R167). -/
def State.dropHead (s : State) (x : HPort) (p reason : Nat) : State :=
  match s.dequeue (rxQueue x p) with
  | (none, t) => t
  | (some k, t) =>
    let r := t.ring x p
    let t := t.setRing x p { r with
      holding := false
      rxNoBuf := if reason = 1 then min (r.rxNoBuf + 1) (2 ^ 32 - 1) else r.rxNoBuf }
    t.dropEntry x p reason k

/-- A frame is the next to deliver: one that can never fit is dropped at once, one that lacks buffers starts its hold
time, which is over at once when HOLD is 0 (R167, R174). -/
def State.headArrives (s : State) (x : HPort) (p : Nat) : Nat → State
  | 0 => s
  | n + 1 =>
    match s.queue (rxQueue x p) with
    | [] => s.setRing x p { s.ring x p with holding := false }
    | k :: _ =>
      let r := s.ring x p
      if r.rxN - 1 < r.need k then (s.dropHead x p 2).headArrives x p n
      else if r.need k ≤ r.rxFree then s.setRing x p { r with holding := false }
      else if r.holdTime = 0 then (s.dropHead x p 1).headArrives x p n
      else s.setRing x p { r with holding := true }

/-- A received frame for the ring set that a source's port and tag name (R168): discarded while that ring set is not
RUNNING, otherwise written into its receive queue. The result says whether the queue accepted it. -/
def State.toHost (s : State) (x : HPort) (p : Nat) (k : Pkt) : Bool × State :=
  if !s.rsRunning x p then (false, s.discard (rxQueue x p) 2)
  else
    let was := s.queue (rxQueue x p)
    match s.enqueue (rxQueue x p) k with
    | (false, t) => (false, t)
    | (true, t) => (true, if was = [] then t.headArrives x p 1 else t)

/-- The address of the receive entry `j` positions after the module's index. -/
def RingSet.rxEntry (r : RingSet) (j : Nat) : Nat := r.rxB + 16 * ((r.rxCi + j) % r.rxN)

/-- Write a frame's bytes into `n` posted buffers, from position `j` on, in ring order (R166). -/
def State.fillData (s : State) (x : HPort) (p : Nat) (r : RingSet) (j : Nat) : Nat → List Byte → Bool × State
  | 0, _ => (true, s)
  | n + 1, data =>
    match s.dmaRead x p (r.rxEntry j) 8 with
    | (none, t) => (false, t.ringFault x p 1)
    | (some a, t) =>
      match t.dmaWrite x p (natLE a) (data.take r.bufSize) with
      | (false, t) => (false, t.ringFault x p 3)
      | (true, t) => t.fillData x p r (j + 1) n (data.drop r.bufSize)

/-- Words 2 and 3 of the write-back of buffer `j` of `n` that frame `k` fills (R165). -/
def RingSet.writeBack (r : RingSet) (k : Pkt) (j n : Nat) : List Word :=
  let here := min r.bufSize (k.data.length - j * r.bufSize)
  [wd ((if j = 0 then k.data.length * 2 ^ 16 else 0) + here),
    wd (2 ^ 31 + ofBool (j = 0) * 2 ^ 30 + ofBool (j + 1 = n) * 2 ^ 29 + k.src % 65536 * 2 ^ 8 + k.err % 256)]

/-- Write the write-backs of a frame's `n` buffers, from position `j` on, in ring order (R165). -/
def State.writeBacks (s : State) (x : HPort) (p : Nat) (k : Pkt) (n j : Nat) : Nat → Bool × State
  | 0 => (true, s)
  | m + 1 =>
    let r := s.ring x p
    match s.dmaWrite x p (r.rxEntry 0 + 8) (wordsBytes (r.writeBack k j n)) with
    | (false, t) => (false, t.ringFault x p 2)
    | (true, t) =>
      (t.setRing x p { r with rxCi := (r.rxCi + 1) % r.rxN, rxNew := true }).writeBacks x p k n (j + 1) m

/-- Write a frame into posted buffers: all its data, then the write-backs (R130, R165, R166). The result says whether no DMA error
occurred. -/
def State.fillBuffers (s : State) (x : HPort) (p : Nat) (k : Pkt) : Bool × State :=
  let r := s.ring x p
  match s.fillData x p r 0 (r.need k) k.data with
  | (false, t) => (false, t)
  | (true, t) => t.writeBacks x p k (r.need k) 0 (r.need k)

/-- Deliver the head frame if its buffers are free (R166, R167). -/
def State.deliverHead (s : State) (x : HPort) (p : Nat) : State :=
  match s.queue (rxQueue x p) with
  | [] => s
  | k :: _ =>
    let r := s.ring x p
    if !s.rsRunning x p || r.rxFree < r.need k then s
    else
      match s.dequeue (rxQueue x p) with
      | (none, t) => t.headArrives x p ((t.queue (rxQueue x p)).length + 1)
      | (some k, t) =>
        let t := t.setRing x p { t.ring x p with holding := false }
        match t.fillBuffers x p k with
        | (false, t) => t
        | (true, t) => (t.noteEntries x p .rx).headArrives x p (t.queue (rxQueue x p)).length

/-! ## Commands (R132 to R134, R151 to R154, R161) -/

/-- The opcode of a descriptor (R151). -/
def Desc.opcode (d : Desc) : Nat := fieldOf d.w0 7 0
/-- The FENCE bit. -/
def Desc.fence (d : Desc) : Bool := fieldOf d.w0 8 8 = 1
/-- The epoch the host believes current. -/
def Desc.epoch (d : Desc) : Nat := fieldOf d.w0 31 16
/-- The host address in words 4 and 5. -/
def Desc.addr (d : Desc) : Nat := d.w4.toNat + d.w5.toNat * 2 ^ 32
/-- The length or count in word 6. -/
def Desc.len (d : Desc) : Nat := d.w6.toNat

/-- The block a CFG_LOAD image of a TYPE is for (R157). -/
def cfgBlock : Nat → Nat
  | 0x01 | 0x02 | 0x03 => 10
  | 0x04 => 9
  | 0x05 | 0x06 => 14
  | 0x07 | 0x08 => 19
  | 0x09 => 8
  | 0x0A => 20
  | 0x0B => 16
  | 0x0C => 17
  | 0x0D => 15
  | 0x0E => 23
  | _ => 6

/-- The block of a command with opcode `o` other than CFG_LOAD (R156). -/
def opcodeBlock : Nat → Nat
  | 0x00 => 7
  | 0x01 | 0x02 | 0x03 | 0x04 | 0x05 | 0x06 | 0x07 | 0x08 => 10
  | 0x10 | 0x11 => 8
  | 0x18 => 18
  | 0x20 => 14
  | 0x28 | 0x29 => 11
  | 0x2C | 0x2D => 12
  | 0x38 => 19
  | 0x40 | 0x41 | 0x42 => 22
  | 0x48 => 23
  | 0x50 => 20
  | 0x51 => 21
  | 0x58 => 9
  | _ => 7

/-- The block a command is for: the block index of its unit. -/
def Desc.block (d : Desc) : Nat :=
  if d.opcode = 0x30 then cfgBlock (fieldOf d.w2 7 0)
  else if d.opcode = 0x58 && fieldOf d.w2 6 0 = 64 then 16
  else opcodeBlock d.opcode

/-- Whether the descriptor selects a command of R156: a known opcode, and a defined OP or TYPE. -/
def Desc.known (d : Desc) : Bool :=
  let o := d.opcode
  if o = 0x29 then 1 ≤ fieldOf d.w3 2 0 && fieldOf d.w3 2 0 ≤ 5
  else if o = 0x2D then 1 ≤ fieldOf d.w3 3 0 && fieldOf d.w3 3 0 ≤ 6
  else if o = 0x30 then 1 ≤ fieldOf d.w2 7 0 && fieldOf d.w2 7 0 ≤ 0x0E
  else if o = 0x42 then 1 ≤ fieldOf d.w3 3 0 && fieldOf d.w3 3 0 ≤ 8
  else [0x00, 0x01, 0x02, 0x03, 0x04, 0x05, 0x06, 0x07, 0x08, 0x10, 0x11, 0x18, 0x20, 0x28, 0x2C, 0x38, 0x40, 0x41,
        0x48, 0x50, 0x51, 0x58].contains o

/-- Whether no bit outside the masks of words 2 to 7 is set, and the reserved bits of word 0 are 0 (R151). -/
def Desc.clean (d : Desc) (m2 m3 m4 m5 m6 m7 : Nat) : Bool :=
  fieldOf d.w0 15 9 = 0 && d.w2.toNat &&& m2 = d.w2.toNat && d.w3.toNat &&& m3 = d.w3.toNat
    && d.w4.toNat &&& m4 = d.w4.toNat && d.w5.toNat &&& m5 = d.w5.toNat && d.w6.toNat &&& m6 = d.w6.toNat
    && d.w7.toNat &&& m7 = d.w7.toNat

/-- All bits of an operand word are used. -/
def allBits : Nat := 0xFFFFFFFF

/-- A clean descriptor whose words 4 and 5 hold an aligned ADDR and word 6 a LEN from `lo` to `hi` (R151). -/
def Desc.buf (d : Desc) (m2 m3 m7 lo hi : Nat) : Bool :=
  d.clean m2 m3 allBits allBits allBits m7 && d.addr % 8 = 0 && lo ≤ d.len && d.len ≤ hi

/-- The eight words of a descriptor from its 32 bytes. -/
def descOf (bs : List Byte) : Desc :=
  { w0 := wordAt bs 0, w1 := wordAt bs 1, w2 := wordAt bs 2, w3 := wordAt bs 3,
    w4 := wordAt bs 4, w5 := wordAt bs 5, w6 := wordAt bs 6, w7 := wordAt bs 7 }

/-- The commands of a ring set that hold an operation slot: a transmit command passed over is still in the ring (R179). -/
def RingSet.slots (r : RingSet) : Nat := (r.ops.filter (fun o => o.st != .passed)).length

/-- The command ring index that the host reads: the first entry not fetched (R147, R179). -/
def RingSet.cmdSeen (r : RingSet) : Nat :=
  match r.ops.find? (fun o => o.st = .passed) with
  | some o => (r.cmdCi + r.cmdN - (r.nextOp - o.id) % r.cmdN) % r.cmdN
  | none => r.cmdCi

/-- Operation slots in use on a port (R132, R176). -/
def State.slotsUsed (s : State) (x : HPort) : Nat :=
  s.host.rings.foldl (fun a e => if e.1 % 2 = x.num then a + e.2.slots else a) 0

/-- RUNNING ring sets of the port, other than `p`, that hold no slot: each keeps its guaranteed slot (R133). -/
def State.slotsKept (s : State) (x : HPort) (p : Nat) : Nat :=
  (List.range 128).foldl
    (fun a q => if q != p && s.rsRunning x q && (s.ring x q).slots = 0 then a + 1 else a) 0

/-- Whether a ring set has a command to fetch and may hold it (R117, R133, R134). A transmit command passed over counts as held, so
that it can follow. (DEDUCED, log 171) -/
def State.canFetch (s : State) (x : HPort) (p : Nat) : Bool :=
  let r := s.ring x p
  s.rsRunning x p && s.enabled p && r.cmdPi != r.cmdCi && r.ops.length < r.maxOps
    && r.ops.length + 1 ≤ r.cplN - 1 - ringUsed r.cplN r.cplPi r.cplCi

/-- The ring set that last got a slot beyond the guaranteed ones (R133). -/
def State.turn (s : State) : HPort → Nat
  | .hp0 => s.host.turn0
  | .hp1 => s.host.turn1

/-- A ring set got a slot beyond the guaranteed ones. -/
def State.setTurn (s : State) (x : HPort) (p : Nat) : State :=
  match x with
  | .hp0 => { s with host := { s.host with turn0 := p } }
  | .hp1 => { s with host := { s.host with turn1 := p } }

/-- Whether it is the ring set's turn for a further slot: none between the last one served and it could take one (R133).
(DESIGN CHOICE, log 171) -/
def State.hisTurn (s : State) (x : HPort) (p : Nat) : Bool :=
  let t := s.turn x + 1
  (List.range ((p + 128 - t % 128) % 128)).all (fun k =>
    let q := (t + k) % 128
    !(s.canFetch x q && (s.ring x q).slots != 0))

/-- Whether the module fetches a further command of the ring set now (R117, R133, R134): its guaranteed slot, or one of the
remaining slots in its turn. -/
def State.mayFetch (s : State) (x : HPort) (p : Nat) : Bool :=
  s.canFetch x p && ((s.ring x p).slots = 0 || (s.slotsUsed x + s.slotsKept x p < 256 && s.hisTurn x p))

/-- Write the completion entry of one command (R161): the state, and whether the ring set still runs. -/
def State.writeCpl (s : State) (x : HPort) (p : Nat) (o : Op) : Bool × State :=
  let r := s.ring x p
  let w1 := ofBool r.cplPhase * 2 ^ 31 + o.status % 256 * 2 ^ 16 + o.epoch % 65536
  match s.dmaWrite x p (r.cplB + 16 * r.cplPi) (wordsBytes [o.desc.w1, wd w1, o.r0, o.r1]) with
  | (false, t) => (false, t.ringFault x p 2)
  | (true, t) =>
    let wrap := r.cplPi + 1 = r.cplN
    (true, (t.setRing x p { r with ops := r.ops.drop 1, cplPi := if wrap then 0 else r.cplPi + 1,
                                   cplPhase := if wrap then !r.cplPhase else r.cplPhase }).noteEntries x p .cpl)

/-- Write completions in command-ring order as far as the commands are done (R154). -/
def State.drain (s : State) (x : HPort) (p : Nat) : Nat → State
  | 0 => s
  | n + 1 =>
    match (s.ring x p).ops with
    | o :: _ =>
      if o.st = .done then
        match s.writeCpl x p o with
        | (true, t) => t.drain x p n
        | (false, t) => t
      else s
    | [] => s

/-- Record how a command ended. -/
def finishOp (id status epoch : Nat) (r0 r1 : Word) (ops : List Op) : List Op :=
  ops.map (fun o => if o.id = id then { o with st := .done, status := status, epoch := epoch, r0 := r0, r1 := r1 } else o)

/-- A command ends: its completion entry follows in ring order (R154, R161). A command whose slot was freed by a stop,
a fault or a link-down has no completion. -/
def State.complete (s : State) (x : HPort) (p id status epoch : Nat) (r0 r1 : Word) : State :=
  let r := s.ring x p
  (s.setRing x p { r with ops := finishOp id status epoch r0 r1 r.ops }).drain x p r.ops.length

/-- The epoch a started command was decided under, if it still holds its slot (R153). -/
def State.opEpoch (s : State) (x : HPort) (p id : Nat) : Nat :=
  match (s.ring x p).ops.find? (fun o => o.id = id) with
  | some o => o.epoch
  | none => s.epoch

/-- Complete a command that had to wait, under the epoch in which it started (R153). -/
def State.completeLate (s : State) (x : HPort) (p id status : Nat) (r0 r1 : Word) : State :=
  s.complete x p id status (s.opEpoch x p id) r0 r1

/-- Whether an earlier command leaves a later one of the same unit free to start (R154): it has taken effect, or it waits only for
its turn in the unit's own queue, which the later one joins behind it. (DEDUCED, log 35) -/
def Op.cleared (o : Op) : Bool :=
  o.st = .done || (o.st = .started && [0x38, 0x50, 0x51, 0x58].contains (fieldOf o.desc.w0 7 0))

/-- The first fetched command with descriptor `d` that may start now: a fenced one only as the ring set's oldest, and
none before an earlier command of the same unit that has not taken effect (R151, R154). (DEDUCED, log 35) -/
def startable (d : Desc) : List Op → List Op → Option Op
  | _, [] => none
  | before, o :: rest =>
    if o.st = .fetched && o.desc = d
        && (!d.fence || before = [])
        && before.all (fun b => b.cleared || b.desc.block != d.block) then some o
    else startable d (before ++ [o]) rest

/-- How the body of a command ends. -/
inductive CmdEnd where
  /-- Completed with a status and two result words. -/
  | done (s : State) (status : Nat) (r0 r1 : Word)
  /-- Refused for an object of a class (R90, R120). -/
  | refuse (s : State) (cls i status : Nat)
  /-- Completed by a later step. -/
  | wait (s : State)
  /-- Not started yet: the command stays fetched. -/
  | later

/-- Run the command a ring set has fetched with descriptor `d`: the checks of R152 in order, then its own body.
`sel` says whether the descriptor selects this row of the command table, `wf` check 1, `fitted` check 3, `cfg` whether
the command is configuration-class (check 4; R93, R94). A command to a block in block reset completes with ABORTED
(R657). Where the ring set holds no such command, nothing happens. (DESIGN CHOICE, log 34; DEDUCED, log 36) -/
def State.command (s : State) (x : HPort) (p : Part) (d : Desc) (sel wf fitted cfg : Bool)
    (body : State → Nat → CmdEnd) : State :=
  if !sel || !s.rsRunning x p then s
  else
    match startable d [] (s.ring x p).ops with
    | none => s
    | some o =>
      let r := s.ring x p
      let e := s.epoch
      let t := s.setRing x p { r with ops := r.ops.map (fun q =>
        if q.id = o.id then { q with st := .started, epoch := e } else q) }
      let fin (u : State) (status : Nat) (r0 r1 : Word) : State := u.complete x p o.id status e r0 r1
      if !wf then fin t St.badDesc 0 0
      else if d.epoch != e then fin t St.roleChanged 0 0
      else if !fitted then fin t St.unsupported 0 0
      else if cfg && !(p.val = 0 && s.holdsSem0 x) then
        fin (if p.val = 0 then t
          else (t.useFree.useFree).refusal p t.freeVal.toNat t.useFree.freeVal.toNat St.denied) St.denied 0 0
      else if s.inReset d.block then fin t St.aborted 0 0
      else
        match body t o.id with
        | .done u status r0 r1 => fin u status r0 r1
        | .refuse u cls i status => fin (u.refusal p cls i status) status 0 0
        | .wait u => u
        | .later => s

end Sys2Proof.Machine
end

