-- ==== Sys2Proof/Machine/Recorder.lean ====
section
/-! DEFINITION. The event recorder: writing, rate limits, views, delivery and reading (chapter "Moraine Event
Recorder"). -/

namespace Sys2Proof.Machine

/-- SRC of a report: origin and block index (R534). -/
def Report.source (r : Report) : Nat := r.origin % 8 * 32 + r.code / 256 % 32

/-- The eight words of a record with sequence number `seq` and flags `fl`, its CRC included (R534, R536). -/
def Rec.words (k : Rec) (seq fl : Nat) : List Word :=
  let r := k.r
  let head : List Word :=
    [wd (r.source * 2 ^ 16 + r.code), wd seq,
     wd (r.sec.toNat % 2 ^ 16 * 2 ^ 16 + r.frac.toNat / 2 ^ 16), wd (r.sec.toNat / 2 ^ 16), r.p1, r.p2, r.p3]
  let w7 := r.part % 128 * 2 ^ 24 + fl % 256 * 2 ^ 16
  head ++ [wd (w7 + crc16 (wordsBytes (head ++ [wd w7])))]

/-- The bucket a record takes its token from: its code group's, or its tenant's (R546). -/
def Report.bucket (r : Report) : Nat := if r.part = 0 then r.code / 256 else 256 + r.part

/-- The depth of a bucket (R127, R558). -/
def State.bucketDepth (s : State) (b : Nat) : Nat :=
  if b < 256 then s.rf (F.EVR_BKT_DEPTH b) else s.rf (F.PRT_EVLIM_DEPTH (b - 256))

/-- The refill rate of a bucket in records per second. -/
def State.bucketRate (s : State) (b : Nat) : Nat :=
  if b < 256 then s.rf (F.EVR_BKT_RATE b) else s.rf (F.PRT_EVLIM_RATE (b - 256))

/-- A bucket. -/
def State.bucket (s : State) (b : Nat) : Bucket := Store.get Bucket.dflt s.evr.buckets b

/-- Replace a bucket. -/
def State.setBucket (s : State) (b : Nat) (k : Bucket) : State :=
  { s with evr := { s.evr with buckets := Store.put Bucket.dflt s.evr.buckets b k } }

/-- Whether a record takes no token: group 0x12, or its group's NOLIM (R546). -/
def State.noLimit (s : State) (r : Report) : Bool :=
  r.code / 256 = 0x12 || (r.part = 0 && s.on (F.EVR_BKT_NOLIM (r.code / 256)))

/-- The tenants a record is visible to when it is written (R548). -/
def State.viewers (s : State) (r : Report) : List Nat :=
  (List.range 128).filter (fun p => p != 0 && (r.part = p || (r.part = 0 && s.shared p Cls.group (r.code / 256))))

/-- Give the next number of every view of the record (R549). -/
def takeViews : List Nat → Store Nat → List (Nat × Nat) × Store Nat
  | [], v => ([], v)
  | p :: ps, v =>
    let n := Store.get natZero v p
    let (l, v') := takeViews ps (Store.put natZero v p (n + 1))
    ((p, n) :: l, v')

/-- Write one record: number, flags, roll area and, while it has room, keep area (R540 to R542, R544, R535). -/
def State.writeRecord (s : State) (r : Report) (summ : Bool) : State :=
  let seq := s.rf F.EVR_HEADSEQ_SEQ
  let (vs, views) := takeViews (s.viewers r) s.evr.views
  let k : Rec := { r := r, seq := seq, views := vs, torn := false,
                   flags := ofBool r.tunt + 2 * ofBool summ + 4 * ofBool (!s.active) }
  let n := s.rf F.EVR_KCNT_CNT
  let t : State := { s with evr := { s.evr with
    views := views
    roll := Store.put noRec s.evr.roll (seq % 16384) (some k)
    keep := if n < 1024 then Store.put noRec s.evr.keep n (some k) else s.evr.keep
    deliver := s.evr.deliver ++ [k] } }
  let t := t.setF F.EVR_HEADSEQ_SEQ (seq + 1)
  if n < 1024 then
    let t := if n = 0 then t.setF F.EVR_KBASE_SEQ seq else t
    let t := t.setF F.EVR_KCNT_CNT (n + 1)
    if n + 1 = 1024 then t.raiseEvr 0 else t
  else t

/-- A report of the recorder itself, stamped now (R554). -/
def State.ownReport (s : State) (code part : Nat) (p1 p2 p3 : Word) : Report :=
  { code := code, origin := 0, part := part, p1 := p1, p2 := p2, p3 := p3, sec := s.time.sec, frac := s.time.frac,
    tunt := s.on F.RTC_STAT_OSF }

/-- Write the summary of a bucket's suppressed records, if it has any (R547). -/
def State.summary (s : State) (b : Nat) : State :=
  let k := s.bucket b
  if k.supp = 0 then s
  else
    let t := s.setBucket b { k with supp := 0, first := 0 }
    t.writeRecord (t.ownReport 0x1201 (if b < 256 then 0 else b - 256) (wd (if b < 256 then b else 0x100))
      (wd k.supp) (wd k.first)) true

/-- A report leaves the input buffer: it takes a token and is written, or it is suppressed (R546). -/
def State.recordOne (s : State) (r : Report) : State :=
  if s.noLimit r then s.writeRecord r false
  else
    let b := r.bucket
    let k := s.bucket b
    if 0 < k.tokens then (s.setBucket b { k with tokens := k.tokens - 1 }).writeRecord r false
    else
      ((s.setBucket b { k with supp := k.supp + 1, first := if k.supp = 0 then r.code else k.first }).addSat
        F.EVR_SUPP_CNT 1).raiseEvr 1

/-- The recorder takes its next step: event 0x1202 when reports were lost and space has returned, otherwise the oldest
report (R544). Nothing is written before the recorder's start or in its block reset (R545, R553).
(DESIGN CHOICE, log 83) -/
def recordWriteEff (s : State) : State :=
  if !s.evr.running || s.inReset 18 then s
  else if s.evr.lostN != 0 && s.evr.buf.length < 512 then
    let n := s.evr.lostN
    let cause := if s.evr.lostReset then 3 else 1
    let t : State := { s with evr := { s.evr with lostN := 0, lostReset := false } }
    t.writeRecord (t.ownReport 0x1202 0 (wd n) (wd cause) 0) false
  else
    match s.evr.buf with
    | [] => s
    | r :: rest => ({ s with evr := { s.evr with buf := rest } }).recordOne r

/-- RECORD_WRITE (R544). -/
def execRecordWrite (s : State) : Host.Outcome State Fault Refusal := .next (recordWriteEff s)

/-- EVENT_REPORT (R537): a unit reports an event. -/
def eventReportEff (r : ReportIn) (s : State) : State := s.reportFrom r.origin r.code r.part.val r.p1 r.p2 r.p3

/-- EVENT_REPORT (R537). -/
def execEventReport (r : ReportIn) (s : State) : Host.Outcome State Fault Refusal := .next (eventReportEff r s)

/-- The number a record has in the view of partition `p`, if `p` may see it (R112, R548, R549). -/
def Rec.inView (k : Rec) (p : Nat) : Option Nat :=
  if p = 0 then some k.seq else (k.views.find? (fun v => v.1 = p)).map (fun v => v.2)

/-- Whether delivery of records to ring set `p` of a port is enabled (R550, R557). -/
def State.delivers (s : State) (x : HPort) (p : Nat) : Bool :=
  s.on (regBit (Reg.EVR_DELEN x.num (p / 32)) (p % 32))

/-- The KIND 0x01 entry of a record for one ring set (R163, R550). -/
def State.deliverTo (s : State) (k : Rec) (x : HPort) (p : Nat) : State :=
  if !s.delivers x p then s
  else
    match k.inView p with
    | none => s
    | some n =>
      match k.words n k.flags with
      | w0 :: rest => s.eventEntry x p (withField w0 31 24 1 :: rest)
      | [] => s

/-- Deliver the oldest record that waits for it to every enabled, running ring set that may see it (R550).
(DESIGN CHOICE, log 83) -/
def eventDeliveryEff (s : State) : State :=
  match s.evr.deliver with
  | [] => s
  | k :: rest =>
    let t : State := { s with evr := { s.evr with deliver := rest } }
    forUpto 128 t (fun p t => (t.deliverTo k .hp0 p).deliverTo k .hp1 p)

/-- EVENT_DELIVERY (R550). -/
def execEventDelivery (s : State) : Host.Outcome State Fault Refusal := .next (eventDeliveryEff s)

/-- A bucket gains a token, and a suppressed count is told (R546, R547). A bucket that is full, or whose RATE is 0, or
that does not exist, gains none. -/
def bucketRefillEff (b : Fin 384) (s : State) : State :=
  let k := s.bucket b
  if b.val = 0x12 || b.val = 256 || s.bucketRate b = 0 || s.bucketDepth b ≤ k.tokens || s.inReset 18 then s
  else (s.setBucket b { k with tokens := k.tokens + 1 }).summary b

/-- BUCKET_REFILL (R546). -/
def execBucketRefill (b : Fin 384) (s : State) : Host.Outcome State Fault Refusal := .next (bucketRefillEff b s)

/-- A write to a bucket register fills the bucket to its new DEPTH and writes a pending summary at once (R547); in the
recorder's block reset nothing is written (R553), and the summary waits for the bucket's next token. -/
def State.fillBucket (s : State) (b : Nat) : State :=
  let t := s.setBucket b { s.bucket b with tokens := s.bucketDepth b }
  if s.inReset 18 then t else t.summary b

/-- Clear the keep area for port `x` (R543): count, KFULL and every tenant's view start again, and event 0x1203 becomes
keep slot 0. -/
def State.keepClear (s : State) (x : HPort) : State :=
  let n := s.rf F.EVR_KCNT_CNT
  let t := (s.setF F.EVR_KCNT_CNT 0).setF F.EVR_STAT_KFULL 0
  let t : State := { t with evr := { t.evr with
    views := []
    keep := []
    roll := t.evr.roll.map (fun e => (e.1, e.2.map (fun k => { k with views := [] }))) } }
  t.writeRecord (t.ownReport 0x1203 0 (wd x.num) (wd n) (wd (s.rf (F.SEM_CELL_TAG 0)))) false

/-- KEEP_CLEAR (R543): a write of 1 to EVR_CTL.KCLR by the port that holds SEM0. -/
def keepClearEff (x : HPort) (s : State) : State :=
  if s.holdsSem0 x && !s.inReset 18 then s.keepClear x else s

/-- KEEP_CLEAR (R543). -/
def execKeepClear (x : HPort) (s : State) : Host.Outcome State Fault Refusal := .next (keepClearEff x s)

/-- How far a number lies behind the head in serial-number arithmetic (R540). -/
def behind (head n : Nat) : Nat := (head + 2 ^ 32 - n % 2 ^ 32) % 2 ^ 32

/-- The records of an area, oldest first: the roll area from the slot the next record will take, or the keep slots in use.
(DESIGN CHOICE, log 64) -/
def State.areaRecords (s : State) (keep : Bool) : List Rec :=
  if keep then (s.evr.keep.filter (fun e => decide (e.1 < s.rf F.EVR_KCNT_CNT))).filterMap (fun e => e.2)
  else
    let h := s.rf F.EVR_HEADSEQ_SEQ % 16384
    ((s.evr.roll.filter (fun e => decide (h ≤ e.1))) ++ (s.evr.roll.filter (fun e => decide (e.1 < h)))).filterMap
      (fun e => e.2)

/-- The delivered records from number `fromSeq` on in `p`'s view, at most `n`, and how many failed their CRC on the way (R551). -/
def pickRecords (p head fromSeq keepFlag : Nat) : List Rec → Nat → List Word × Nat
  | [], _ => ([], 0)
  | _, 0 => ([], 0)
  | k :: ks, n + 1 =>
    match k.inView p with
    | none => pickRecords p head fromSeq keepFlag ks (n + 1)
    | some v =>
      let b := behind head v
      if b = 0 || 2 ^ 31 ≤ b || behind head fromSeq < b || behind head fromSeq = 0 || 2 ^ 31 ≤ behind head fromSeq then
        pickRecords p head fromSeq keepFlag ks (n + 1)
      else if k.torn then
        let (w, c) := pickRecords p head fromSeq keepFlag ks (n + 1)
        (w, c + 1)
      else
        let (w, c) := pickRecords p head fromSeq keepFlag ks n
        (k.words v (k.flags + keepFlag) ++ w, c)

/-- The head of a partition's view (R112, R549). -/
def State.viewHead (s : State) (p : Nat) : Nat :=
  if p = 0 then s.rf F.EVR_HEADSEQ_SEQ else Store.get natZero s.evr.views p

/-- REC_READ's body (R551). -/
def recReadBody (x : HPort) (p : Part) (d : Desc) (s : State) (_id : Nat) : CmdEnd :=
  let keep := fieldOf d.w2 16 16 = 1
  let head := s.viewHead p
  let (ws, bad) := pickRecords p head d.w3.toNat (if keep then 8 else 0) (s.areaRecords keep) (fieldOf d.w2 15 0)
  let t := if bad = 0 then s else (s.addSat F.EVR_BADCRC_CNT bad).raiseEvr 4
  match t.dmaWrite x p d.addr (wordsBytes ws) with
  | (false, t) => .done t St.dmaError 0 0
  | (true, t) => .done t St.success (wd (ws.length / 8)) (wd head)

/-- REC_READ (R551). -/
def recReadEff (x : HPort) (p : Part) (d : Desc) (s : State) : State :=
  s.command x p d (d.opcode = 0x18) (d.clean 0x1FFFF allBits allBits allBits 0 0 && d.addr % 8 = 0) true false
    (recReadBody x p d)

/-- REC_READ (R551). -/
def execRecRead (x : HPort) (p : Part) (d : Desc) (s : State) : Host.Outcome State Fault Refusal :=
  .next (recReadEff x p d s)

/-- A word of the slot a port's window selects, in the stored form with the true SEQ (R552). A slot never written reads 0.
(DEDUCED, log 86) -/
def State.windowWord (s : State) (x : HPort) (i : Nat) : Word :=
  if s.inReset 18 then 0
  else
    let slot := s.rf (F.EVR_RSEL_SLOT x.num)
    let k := if s.on (F.EVR_RSEL_AREA x.num) then Store.get noRec s.evr.keep slot else Store.get noRec s.evr.roll slot
    match k with
    | none => 0
    | some k => (k.words k.seq k.flags).getD i 0

/-- The recorder starts (R545): the slots that fail their CRC are counted, the head is set, event 0x1204 is the first
record. `tornRoll` and `tornKeep` are the slots found to fail. -/
def State.recorderStart (s : State) (tornRoll tornKeep : List Nat) : State :=
  let mark (l : List Nat) (m : Store (Option Rec)) : Store (Option Rec) :=
    m.map (fun e => if l.contains e.1 then (e.1, e.2.map (fun k => { k with torn := true })) else e)
  let roll := mark tornRoll s.evr.roll
  let keep := mark tornKeep s.evr.keep
  let recs := (roll ++ keep).filterMap (fun e => e.2)
  let bad := (recs.filter (fun k => k.torn)).length
  let blank := recs.isEmpty
  let saved := s.rf F.EVR_HEADSEQ_SEQ
  let head := recs.foldl (fun h k => if k.torn then h
    else if behind (k.seq + 1) h < 2 ^ 31 then (k.seq + 1) % 2 ^ 32 else h) saved
  let t : State := { s with evr := { s.evr with roll := roll, keep := keep, running := true } }
  let t := t.setF F.EVR_HEADSEQ_SEQ head
  let t := t.addSat F.EVR_BADCRC_CNT bad
  let t := if bad = 0 then t else t.raiseEvr 3
  let t := if 1024 ≤ t.rf F.EVR_KCNT_CNT then t.raiseEvr 0 else t
  t.writeRecord (t.ownReport 0x1204 0 (wd head) (wd bad) (wd (ofBool (bad != 0) + 2 * ofBool blank))) false

end Sys2Proof.Machine
end

