-- ==== Sys2Proof/Machine/SoftFloat.lean ====
section
/-! DEFINITION. IEEE 754 binary arithmetic on bit patterns: values are taken apart exactly, combined exactly and
rounded once to nearest, ties to even. -/

namespace Sys2Proof.Machine

/-- A binary interchange format: precision (hidden bit included) and exponent width. -/
structure FpFmt where
  prec : Nat
  ebits : Nat
  deriving DecidableEq, Repr

/-- IEEE 754 binary32. -/
def b32 : FpFmt := { prec := 24, ebits := 8 }

/-- IEEE 754 binary64. -/
def b64 : FpFmt := { prec := 53, ebits := 11 }

/-- What a bit pattern stands for: a NaN, an infinity, or `±m · 2^e`. -/
inductive FpVal where
  | nan
  | inf (neg : Bool)
  | fin (neg : Bool) (m : Nat) (e : Int)
  deriving DecidableEq, Repr

/-- The width of a format in bits. -/
def FpFmt.width (f : FpFmt) : Nat := f.prec + f.ebits

/-- The exponent of the least subnormal. -/
def FpFmt.eLow (f : FpFmt) : Int := 3 - (2 ^ (f.ebits - 1) : Int) - f.prec

/-- The biased exponent of infinities and NaNs. -/
def FpFmt.eTop (f : FpFmt) : Nat := 2 ^ f.ebits - 1

/-- Take a bit pattern apart. -/
def FpFmt.unpack (f : FpFmt) (n : Nat) : FpVal :=
  let neg := n / 2 ^ (f.width - 1) % 2 = 1
  let be := n / 2 ^ (f.prec - 1) % 2 ^ f.ebits
  let fr := n % 2 ^ (f.prec - 1)
  if be = f.eTop then (if fr = 0 then .inf neg else .nan)
  else if be = 0 then .fin neg fr f.eLow
  else .fin neg (2 ^ (f.prec - 1) + fr) (f.eLow + be - 1)

/-- The bit pattern of an infinity. -/
def FpFmt.infBits (f : FpFmt) (neg : Bool) : Nat := ofBool neg * 2 ^ (f.width - 1) + f.eTop * 2 ^ (f.prec - 1)

/-- The bit pattern of a signed zero. -/
def FpFmt.zeroBits (f : FpFmt) (neg : Bool) : Nat := ofBool neg * 2 ^ (f.width - 1)

/-- The quiet NaN an invalid operation delivers. -/
def FpFmt.nanBits (f : FpFmt) : Nat := f.eTop * 2 ^ (f.prec - 1) + 2 ^ (f.prec - 2)

/-- `m / 2^k` rounded to nearest, ties to even. -/
def shiftRne (m k : Nat) : Nat :=
  let q := m / 2 ^ k
  let r := m % 2 ^ k
  let h := 2 ^ k / 2
  if k = 0 then m else if r < h then q else if h < r then q + 1 else q + q % 2

/-- Round `±m · 2^e` to the format (nearest, ties to even). -/
def FpFmt.round (f : FpFmt) (neg : Bool) (m : Nat) (e : Int) : Nat :=
  if m = 0 then f.zeroBits neg
  else
    let len : Int := (Nat.log2 m + 1 : Nat)
    let sh : Int := max (len - f.prec) (f.eLow - e)
    let q := if sh ≤ 0 then m * 2 ^ (-sh).toNat else shiftRne m sh.toNat
    let body := (e + sh - f.eLow).toNat * 2 ^ (f.prec - 1) + q
    if f.eTop * 2 ^ (f.prec - 1) ≤ body then f.infBits neg else ofBool neg * 2 ^ (f.width - 1) + body

/-- Pack a value exactly held by an `FpVal`, rounding once. -/
def FpFmt.pack (f : FpFmt) : FpVal → Nat
  | .nan => f.nanBits
  | .inf neg => f.infBits neg
  | .fin neg m e => f.round neg m e

/-- The value with its sign turned. -/
def FpVal.neg : FpVal → FpVal
  | .nan => .nan
  | .inf n => .inf (!n)
  | .fin n m e => .fin (!n) m e

/-- The absolute value. -/
def FpVal.abs : FpVal → FpVal
  | .nan => .nan
  | .inf _ => .inf false
  | .fin _ m e => .fin false m e

/-- A signed integer times a power of two as a value; an exact zero takes the sign given. -/
def fpOfInt (z : Int) (e : Int) (zneg : Bool) : FpVal := .fin (if z = 0 then zneg else decide (z < 0)) z.natAbs e

/-- The signed integer `±m` scaled to exponent `e0 ≤ e`. -/
def scaled (neg : Bool) (m : Nat) (e e0 : Int) : Int :=
  let v : Int := (m * 2 ^ (e - e0).toNat : Nat)
  if neg then -v else v

/-- The exact sum. A zero sum of operands of unlike sign is +0 (rounding to nearest). -/
def FpVal.add : FpVal → FpVal → FpVal
  | .nan, _ => .nan
  | _, .nan => .nan
  | .inf a, .inf b => if a = b then .inf a else .nan
  | .inf a, _ => .inf a
  | _, .inf b => .inf b
  | .fin na ma ea, .fin nb mb eb =>
    let e0 := min ea eb
    fpOfInt (scaled na ma ea e0 + scaled nb mb eb e0) e0 (na && nb)

/-- The exact difference. -/
def FpVal.sub (a b : FpVal) : FpVal := a.add b.neg

/-- The exact product. -/
def FpVal.mul : FpVal → FpVal → FpVal
  | .nan, _ => .nan
  | _, .nan => .nan
  | .inf a, .inf b => .inf (a != b)
  | .inf a, .fin b m _ => if m = 0 then .nan else .inf (a != b)
  | .fin a m _, .inf b => if m = 0 then .nan else .inf (a != b)
  | .fin na ma ea, .fin nb mb eb => .fin (na != nb) (ma * mb) (ea + eb)

/-- The quotient, carried far enough past any format here that one rounding of it is correct: the last bit is sticky. -/
def FpVal.div : FpVal → FpVal → FpVal
  | .nan, _ => .nan
  | _, .nan => .nan
  | .inf _, .inf _ => .nan
  | .inf a, .fin b _ _ => .inf (a != b)
  | .fin a _ _, .inf b => .fin (a != b) 0 0
  | .fin na ma ea, .fin nb mb eb =>
    if mb = 0 then (if ma = 0 then .nan else .inf (na != nb))
    else
      let num := ma * 2 ^ 128
      .fin (na != nb) (num / mb * 2 + (if num % mb = 0 then 0 else 1)) (ea - eb - 129)

/-- The square root, with a sticky last bit. -/
def FpVal.sqrt : FpVal → FpVal
  | .nan => .nan
  | .inf false => .inf false
  | .inf true => .nan
  | .fin neg m e =>
    if m = 0 then .fin neg 0 0
    else if neg then .nan
    else
      let m' := if e % 2 = 0 then m * 2 ^ 256 else m * 2 ^ 257
      let e' := if e % 2 = 0 then e - 256 else e - 257
      let r := Nat.sqrt m'
      .fin false (r * 2 + (if r * r = m' then 0 else 1)) (e' / 2 - 1)

/-- Comparison: `none` when a NaN takes part; the zeros are equal. -/
def FpVal.cmp : FpVal → FpVal → Option Ordering
  | .nan, _ => none
  | _, .nan => none
  | .inf a, .inf b => some (if a = b then .eq else if a then .lt else .gt)
  | .inf a, _ => some (if a then .lt else .gt)
  | _, .inf b => some (if b then .gt else .lt)
  | .fin na ma ea, .fin nb mb eb =>
    let e0 := min ea eb
    some (compare (scaled na ma ea e0) (scaled nb mb eb e0))

/-- `a < b`. -/
def FpVal.lt (a b : FpVal) : Bool := a.cmp b = some .lt

/-- `a ≤ b`. -/
def FpVal.le (a b : FpVal) : Bool := a.cmp b = some .lt || a.cmp b = some .eq

/-- Whether the value is finite. -/
def FpVal.isFin : FpVal → Bool
  | .fin _ _ _ => true
  | _ => false

/-- Round to an integer: `mode` 0 to nearest with ties to even, 1 toward zero. -/
def FpVal.toInt (mode : Nat) : FpVal → Option Int
  | .fin neg m e =>
    let a : Nat := if 0 ≤ e then m * 2 ^ e.toNat else if mode = 0 then shiftRne m (-e).toNat else m / 2 ^ (-e).toNat
    some (if neg then -(a : Int) else a)
  | _ => none

/-- An integer as a value. -/
def fpInt (z : Int) : FpVal := fpOfInt z 0 false

/-- A binary32 word as a value. -/
def f32 (w : Word) : FpVal := b32.unpack w.toNat

/-- A value rounded to binary32. -/
def toF32 (v : FpVal) : Word := wd (b32.pack v)

/-- Whether a binary32 word is finite. -/
def finite32 (w : Word) : Bool := (f32 w).isFin

/-- The maximum of two values that are not NaN. -/
def FpVal.max (a b : FpVal) : FpVal := if a.lt b then b else a

/-- The minimum of two values that are not NaN. -/
def FpVal.min (a b : FpVal) : FpVal := if b.lt a then b else a

end Sys2Proof.Machine
end

