-- ==== Sys2Proof/Machine/Points.lean ====
section
/-! DEFINITION. Points, their values and quality, forces, subscriptions and the ring commands on points (chapter
"Point Table, Exchange Schedule and Point Image"). -/

namespace Sys2Proof.Machine

/-- The point exists (R247). -/
def Point.valid (p : Point) : Bool := fieldOf p.w0 31 31 = 1
/-- Partition tag. -/
def Point.tag (p : Point) : Nat := fieldOf p.w0 30 24
/-- DIR: 0 internal, 1 input, 2 output. -/
def Point.dir (p : Point) : Nat := fieldOf p.w0 23 22
/-- FMT (R248). -/
def Point.fmt (p : Point) : Nat := fieldOf p.w0 21 19
/-- WSRC: 0 exchange, 1 logic task, 2 loop slot, 3 metering engine, 4 host commands. -/
def Point.wsrc (p : Point) : Nat := fieldOf p.w0 18 16
/-- WIDX. -/
def Point.widx (p : Point) : Nat := fieldOf p.w0 15 8
/-- RATE. -/
def Point.rate (p : Point) : Nat := fieldOf p.w0 7 4
/-- RPUB. -/
def Point.rpub (p : Point) : Bool := fieldOf p.w0 3 3 = 1
/-- KIND: 0 none, 1 field, 2 local I/O, 3 riser subscription. -/
def Point.kind (p : Point) : Nat := fieldOf p.w1 31 30
/-- STN. -/
def Point.stn (p : Point) : Nat := fieldOf p.w1 27 16
/-- OFS. -/
def Point.ofs (p : Point) : Nat := fieldOf p.w1 15 0
/-- The point is an output. -/
def Point.isOut (p : Point) : Bool := p.dir = 2
/-- The point is an input. -/
def Point.isIn (p : Point) : Bool := p.dir = 1
/-- Bits a value of the format occupies on the wire (R248). -/
def fmtBits (fmt : Nat) : Nat := if fmt = 0 then 1 else if fmt = 1 then 16 else 32

/-- The table entry of point `i`. -/
def State.pt (s : State) (i : Nat) : Point := Store.get Point.dflt s.ptx.table i

/-- The tag of point `i`, if it exists. -/
def State.ptTag (s : State) (i : Nat) : Option Nat := if (s.pt i).valid then some (s.pt i).tag else none

/-- The points that exist, in ascending index. -/
def State.allPoints (s : State) : List (Nat × Point) := s.ptx.table.filter (fun e => e.2.valid)

/-- A point table with `entries` put in from `first` on. -/
def putPoints (m : Store Point) (first : Nat) (entries : List Point) : Store Point :=
  Store.putList Point.dflt m first entries

/-- The latest accepted point table (R263). -/
def State.lastTable (s : State) : Store Point :=
  s.ptx.loads.foldl (fun a l => match l with
    | .points first es => putPoints a first es
    | .schedule _ => a
    | .stations _ => a) s.ptx.table

/-- Point `i` of the latest accepted point table. -/
def State.nextPt (s : State) (i : Nat) : Point := Store.get Point.dflt s.lastTable i

/-- The points that exist in the latest accepted point table. -/
def State.nextPoints (s : State) : List (Nat × Point) := s.lastTable.filter (fun e => e.2.valid)

/-- Image slot `i` (R23). -/
def State.img (s : State) (i : Nat) : Word := Store.get wordZero s.ptx.image i

/-- Write image slot `i` (R23). -/
def State.setImg (s : State) (i : Nat) (v : Word) : State :=
  { s with ptx := { s.ptx with image := Store.put wordZero s.ptx.image i v } }

/-- The stored bits of a quality word. -/
def State.rawQual (s : State) (i : Nat) : Word := Store.get wordZero s.ptx.qual i

/-- Replace the stored bits of a quality word. -/
def State.setQual (s : State) (i : Nat) (q : Word) : State :=
  { s with ptx := { s.ptx with qual := Store.put wordZero s.ptx.qual i q } }

/-- Set or clear one bit of a quality word (R270). -/
def State.qbit (s : State) (i bit : Nat) (b : Bool) : State :=
  s.setQual i (withField (s.rawQual i) bit bit (ofBool b))

/-- QBAD follows from the other bits (R270). -/
def withQbad (q : Word) : Word :=
  withField q 7 7 (ofBool ((fieldOf q 0 0 = 1 || fieldOf q 5 5 = 1 || fieldOf q 6 6 = 1) && fieldOf q 3 3 = 0))

/-- The quality word of point `i` (R270). -/
def State.quality (s : State) (i : Nat) : Word := withQbad (s.rawQual i)

/-- QBAD of point `i`, as the logic engine's quality view presents it. -/
def State.qbad (s : State) (i : Nat) : Bool := fieldOf (s.quality i) 7 7 = 1

/-- A written value in the point's format: bit 0, sign-extended bits [15:0], or the whole word (R248). -/
def normValue (fmt : Nat) (v : Word) : Word :=
  if fmt = 0 then wd (v.toNat % 2) else if fmt = 1 then wdInt (signedOf 16 v.toNat) else v

/-- The fail-state value as an image slot holds it (R247, R248). (DEDUCED, log 144) -/
def Point.failValue (p : Point) : Word := normValue p.fmt p.w2

/-- A point's source writes its slot: the value arrives, so INIT ends (R270). -/
def State.sourceWrite (s : State) (i : Nat) (v : Word) : State := (s.setImg i v).qbit i 5 false

/-- The force on point `i`, if any (R280). -/
def State.force (s : State) (i : Nat) : Option Force := Store.get noForce s.ptx.forces i

/-- Replace the force on point `i`. -/
def State.setForce (s : State) (i : Nat) (f : Option Force) : State :=
  { s with ptx := { s.ptx with forces := Store.put noForce s.ptx.forces i f } }

/-- The forces in force, in ascending point index. -/
def State.forceList (s : State) : List (Nat × Force) :=
  s.ptx.forces.filterMap (fun e => e.2.map (fun f => (e.1, f)))

/-- Forces owned by partition `p` (PTX_USE.FU, R295). -/
def State.forceUse (s : State) (p : Nat) : Nat := (s.forceList.filter (fun e => e.2.owner = p)).length

/-- Subscriptions held by partition `p` on both ports (PTX_USE.SU, R295). -/
def State.subUse (s : State) (p : Nat) : Nat := (s.ptx.subs.filter (fun b => b.part = p)).length

/-- What PT_READ returns: the forced value of a forced output unless DIAG asks for the slot (R286). -/
def State.readValue (s : State) (i : Nat) (diag : Bool) : Word :=
  match s.force i with
  | some f => if (s.pt i).isOut && !diag then f.value else s.img i
  | none => s.img i

/-! ## Change notification (R248, R289, R290) -/

/-- The deadband test of R248 for value `v` against baseline `b`. -/
def deadband (fmt : Nat) (db b v : Word) : Bool :=
  if fmt = 0 then v != b
  else if fmt = 1 || fmt = 2 then decide (db.toNat < (v.toInt - b.toInt).natAbs)
  else if fmt = 3 then
    match f32 v, f32 b with
    | .nan, .nan => false
    | .nan, _ => true
    | _, .nan => true
    | .inf x, .inf y => x != y && (f32 db).lt (.inf false)
    | x, y => (f32 db).lt (x.sub y).abs
  else decide (db.toNat < (v - b).toNat)

/-- The value a notification of point `i` compares and carries: an output's as published, another point's slot. -/
def State.notifyValue (s : State) (i : Nat) : Word :=
  if (s.pt i).isOut then Store.get wordZero s.ptx.outImg i else s.img i

/-- Evaluate one subscription; a notified value and quality become the new baseline even if the entry is lost (R290). -/
def State.evalSub (s : State) (b : Sub) : Sub × State :=
  let v := s.notifyValue b.point
  let q := s.quality b.point
  let p := s.pt b.point
  if deadband p.fmt p.w3 b.value v || q.toNat % 256 != b.qual then
    let fw := s.frameWords
    ({ b with value := v, qual := q.toNat % 256 },
      s.eventEntry b.port b.part [wd (0x02 * 2 ^ 24), wd b.point, v, q, fw.1, fw.2, 0, 0])
  else (b, s)

/-- Evaluate the subscriptions of the points a test selects, oldest subscription first. -/
def State.evalSubs (s : State) (sel : Nat → Bool) : List Sub → List Sub × State
  | [] => ([], s)
  | b :: bs =>
    let (b', t) := if sel b.point then s.evalSub b else (b, s)
    let (bs', u) := t.evalSubs sel bs
    (b' :: bs', u)

/-- Evaluate change notifications for a set of points. A ring set that faults on the way has no subscription left. -/
def State.notify (s : State) (sel : Nat → Bool) : State :=
  let (bs, t) := s.evalSubs sel s.ptx.subs
  { t with ptx := { t.ptx with subs := bs.filter (fun b => t.rsState b.port b.part != 3) } }

/-- Whether partition `p` can read point `i` (R90). -/
def State.canRead (s : State) (p i : Nat) : Bool := s.filterRead p (s.ptTag i) Cls.point i = St.success

/-- Cancel the subscriptions whose partition can no longer read their point, each with one KIND 0x03 entry (R98, R104). -/
def State.cullSubs (s : State) : State :=
  let gone := s.ptx.subs.filter (fun b => !s.canRead b.part b.point)
  let t : State := { s with ptx := { s.ptx with subs := s.ptx.subs.filter (fun b => s.canRead b.part b.point) } }
  gone.foldl (fun t b => t.eventEntry b.port b.part [wd (0x03 * 2 ^ 24), wd b.point, 0, 0, 0, 0, 0, 0]) t

/-! ## Ring commands -/

/-- PT_READ's body (R286). -/
def ptReadBody (p : Part) (d : Desc) (s : State) (_id : Nat) : CmdEnd :=
  let i := fieldOf d.w2 15 0
  let st := s.filterRead p (s.ptTag i) Cls.point i
  if st != St.success then .refuse s Cls.point i st
  else .done s St.success (s.readValue i (fieldOf d.w2 16 16 = 1)) (s.quality i)

/-- PT_READ (R286). -/
def ptReadEff (x : HPort) (p : Part) (d : Desc) (s : State) : State :=
  s.command x p d (d.opcode = 0x01) (d.clean 0x1FFFF 0 0 0 0 0) true false (ptReadBody p d)

/-- PT_READ (R286). -/
def execPtRead (x : HPort) (p : Part) (d : Desc) (s : State) : Host.Outcome State Fault Refusal :=
  .next (ptReadEff x p d s)

/-- Decide a write of value `v` to point `i` by partition `p` and carry it out: the status, and the state (R287, R115). -/
def State.hostPointWrite (s : State) (p i : Nat) (v : Word) (code : Nat) : Nat × State :=
  let st := s.filterWrite p (s.ptTag i) Cls.point i
  if st != St.success then (st, s)
  else if !s.active || (s.pt i).wsrc != 4 then (St.state, s)
  else (St.success, (s.sourceWrite i (normValue (s.pt i).fmt v)).audit p (s.pt i).tag Cls.point i code)

/-- Whether a status is a refusal by the filter or by class (R124). -/
def isRefusal (st : Nat) : Bool := st = St.noObject || st = St.readOnly || st = St.denied

/-- PT_WRITE's body (R287); a standby answers STATE (R528). -/
def ptWriteBody (p : Part) (d : Desc) (s : State) (_id : Nat) : CmdEnd :=
  let i := fieldOf d.w2 15 0
  let (st, t) := s.hostPointWrite p i d.w3 0x02
  if isRefusal st then .refuse t Cls.point i st else .done t st 0 0

/-- PT_WRITE (R287). -/
def ptWriteEff (x : HPort) (p : Part) (d : Desc) (s : State) : State :=
  s.command x p d (d.opcode = 0x02) (d.clean 0xFFFF allBits 0 0 0 0) true false (ptWriteBody p d)

/-- PT_WRITE (R287). -/
def execPtWrite (x : HPort) (p : Part) (d : Desc) (s : State) : Host.Outcome State Fault Refusal :=
  .next (ptWriteEff x p d s)

/-- What a list command has done so far: the entries' words, the count served, and the first refusal (R159, R693). -/
structure ListRun where
  words : List Word
  ok : Nat
  first : Option (Nat × Nat)
  deriving DecidableEq, Repr

/-- Note an entry's status. -/
def ListRun.note (r : ListRun) (i st : Nat) (w0 w1 : Word) : ListRun :=
  { words := r.words ++ [withField w0 31 24 st, w1]
    ok := if st = St.success then r.ok + 1 else r.ok
    first := if r.first = none && isRefusal st then some (i, st) else r.first }

/-- A refused object counts once in the whole command (R693). -/
def State.noteFirst (s : State) (p : Nat) (r : Option (Nat × Nat)) : State :=
  match r with
  | some (i, st) => s.refusal p Cls.point i st
  | none => s

/-- Read the entries of a PT_LIST in order (R159, R288). -/
def State.listRead (s : State) (p : Nat) : List Word → ListRun → ListRun
  | w0 :: _ :: rest, r =>
    let i := fieldOf w0 15 0
    let st := s.filterRead p (s.ptTag i) Cls.point i
    s.listRead p rest (r.note i st w0 (if st = St.success then s.readValue i false else 0))
  | _, r => r

/-- Write the entries of a PT_LIST in order (R159, R288). -/
def listWrite (p : Nat) : List Word → ListRun → State → ListRun × State
  | w0 :: w1 :: rest, r, s =>
    let i := fieldOf w0 15 0
    let (st, t) := s.hostPointWrite p i w1 0x03
    listWrite p rest (r.note i st w0 w1) t
  | _, r, s => (r, s)

/-- An empty list run. -/
def ListRun.empty : ListRun := { words := [], ok := 0, first := none }

/-- End a PT_LIST: the entries are written back, RESULT0 counts those served (R159, R288). -/
def endList (x : HPort) (p : Part) (d : Desc) (r : ListRun) (s : State) : CmdEnd :=
  let t := s.noteFirst p r.first
  match t.dmaWrite x p d.addr (wordsBytes r.words) with
  | (false, t) => .done t St.dmaError 0 0
  | (true, t) => .done t St.success (wd r.ok) 0

/-- PT_LIST read's body (R288). -/
def ptListReadBody (x : HPort) (p : Part) (d : Desc) (s : State) (_id : Nat) : CmdEnd :=
  match s.dmaRead x p d.addr (8 * d.len) with
  | (none, t) => .done t St.dmaError 0 0
  | (some bs, t) => endList x p d (t.listRead p (wordsOf bs) ListRun.empty) t

/-- PT_LIST read (R288). -/
def ptListReadEff (x : HPort) (p : Part) (d : Desc) (s : State) : State :=
  s.command x p d (d.opcode = 0x03 && fieldOf d.w2 0 0 = 0) (d.buf 1 0 0 1 4096) true false (ptListReadBody x p d)

/-- PT_LIST read (R288). -/
def execPtListRead (x : HPort) (p : Part) (d : Desc) (s : State) : Host.Outcome State Fault Refusal :=
  .next (ptListReadEff x p d s)

/-- PT_LIST write's body (R288); a standby answers STATE (R528), before any entry is read or filtered, so that it counts no refusal.
(DEDUCED, log 167) -/
def ptListWriteBody (x : HPort) (p : Part) (d : Desc) (s : State) (_id : Nat) : CmdEnd :=
  if !s.active then .done s St.state 0 0
  else
    match s.dmaRead x p d.addr (8 * d.len) with
    | (none, t) => .done t St.dmaError 0 0
    | (some bs, t) =>
      let (r, t) := listWrite p (wordsOf bs) ListRun.empty t
      endList x p d r t

/-- PT_LIST write (R288). -/
def ptListWriteEff (x : HPort) (p : Part) (d : Desc) (s : State) : State :=
  s.command x p d (d.opcode = 0x03 && fieldOf d.w2 0 0 = 1) (d.buf 1 0 0 1 4096) true false (ptListWriteBody x p d)

/-- PT_LIST write (R288). -/
def execPtListWrite (x : HPort) (p : Part) (d : Desc) (s : State) : Host.Outcome State Fault Refusal :=
  .next (ptListWriteEff x p d s)

/-- The subscription of a ring set to a point. -/
def Sub.isFor (b : Sub) (x : HPort) (p i : Nat) : Bool := b.port = x && b.part = p && b.point = i

/-- PT_SUB's body (R289). -/
def ptSubBody (x : HPort) (p : Part) (d : Desc) (s : State) (_id : Nat) : CmdEnd :=
  let i := fieldOf d.w2 15 0
  let st := s.filterRead p (s.ptTag i) Cls.point i
  if st != St.success then .refuse s Cls.point i st
  else if !s.active then .done s St.state 0 0
  else
    let v := s.readValue i false
    let q := s.quality i
    let b : Sub := { port := x, part := p, point := i, value := v, qual := q.toNat % 256 }
    if s.ptx.subs.any (fun b => b.isFor x p i) then
      .done { s with ptx := { s.ptx with subs := s.ptx.subs.map (fun c => if c.isFor x p i then b else c) } }
        St.success v q
    else if s.rf (F.PTX_QUOTA_SQ p) ≤ s.subUse p then .done s St.noSpace 0 0
    else .done { s with ptx := { s.ptx with subs := s.ptx.subs ++ [b] } } St.success v q

/-- PT_SUB (R289). -/
def ptSubEff (x : HPort) (p : Part) (d : Desc) (s : State) : State :=
  s.command x p d (d.opcode = 0x04 && fieldOf d.w2 31 31 = 0) (d.clean 0x8000FFFF 0 0 0 0 0) true false (ptSubBody x p d)

/-- PT_SUB (R289). -/
def execPtSub (x : HPort) (p : Part) (d : Desc) (s : State) : Host.Outcome State Fault Refusal :=
  .next (ptSubEff x p d s)

/-- PT_SUB with CANCEL: its body (R289). -/
def ptSubCancelBody (x : HPort) (p : Part) (d : Desc) (s : State) (_id : Nat) : CmdEnd :=
  let i := fieldOf d.w2 15 0
  let st := s.filterRead p (s.ptTag i) Cls.point i
  if st != St.success then .refuse s Cls.point i st
  else if !s.active then .done s St.state 0 0
  else .done { s with ptx := { s.ptx with subs := s.ptx.subs.filter (fun b => !b.isFor x p i) } } St.success 0 0

/-- PT_SUB with CANCEL (R289). -/
def ptSubCancelEff (x : HPort) (p : Part) (d : Desc) (s : State) : State :=
  s.command x p d (d.opcode = 0x04 && fieldOf d.w2 31 31 = 1) (d.clean 0x8000FFFF 0 0 0 0 0) true false
    (ptSubCancelBody x p d)

/-- PT_SUB with CANCEL (R289). -/
def execPtSubCancel (x : HPort) (p : Part) (d : Desc) (s : State) : Host.Outcome State Fault Refusal :=
  .next (ptSubCancelEff x p d s)

/-- A force was set or cleared (R293). -/
def State.forceChg (s : State) : State := s.raise Reg.PTX_STAT Reg.PTX_IEN 10 0

/-- FORCE_SET's body (R280 to R282). (DEDUCED, log 133) -/
def forceSetBody (p : Part) (d : Desc) (s : State) (_id : Nat) : CmdEnd :=
  let i := fieldOf d.w2 15 0
  let st := s.filterWrite p (s.ptTag i) Cls.point i
  if st != St.success then .refuse s Cls.point i st
  else if !s.active || (s.pt i).dir = 0 then .done s St.state 0 0
  else
    let old := s.force i
    if p.val != 0 && (match old with | some f => f.owner != p.val | none => false) then
      .refuse s Cls.point i St.denied
    else if old = none && (s.rf (F.PTX_QUOTA_FQ p) ≤ s.forceUse p || 4096 ≤ s.forceList.length) then
      .done s St.noSpace 0 0
    else
      let v := normValue (s.pt i).fmt d.w3
      let t := s.setForce i (some { owner := p, value := v, torn := false })
      let t := (t.report 0x0A04 (s.pt i).tag (wd i) (wd p) v).forceChg
      let t := t.audit p (s.pt i).tag Cls.point i 0x05
      .done t St.success (wd (t.forceUse p)) 0

/-- The latch and publish windows, in which a force command waits (R283). -/
def State.inWindow (s : State) : Bool := s.ptx.latching || s.ptx.publishing

/-- FORCE_SET (R280, R283). -/
def forceSetEff (x : HPort) (p : Part) (d : Desc) (s : State) : State :=
  s.command x p d (d.opcode = 0x05 && !s.inWindow) (d.clean 0xFFFF allBits 0 0 0 0) true false (forceSetBody p d)

/-- FORCE_SET (R280). -/
def execForceSet (x : HPort) (p : Part) (d : Desc) (s : State) : Host.Outcome State Fault Refusal :=
  .next (forceSetEff x p d s)

/-- Clear the force on point `i` for issuer `p` (R282, R292). -/
def State.clearForce (s : State) (p i : Nat) (f : Force) : State :=
  ((s.setForce i none).report 0x0A05 (s.pt i).tag (wd i) (wd f.owner) (wd p)).forceChg.audit p (s.pt i).tag Cls.point i 0x06

/-- FORCE_CLR's body (R282). -/
def forceClrBody (p : Part) (d : Desc) (s : State) (_id : Nat) : CmdEnd :=
  if fieldOf d.w2 31 31 = 1 then
    if !s.active then .done s St.state 0 0
    else
      let own := s.forceList.filter (fun e => e.2.owner = p.val)
      .done (own.foldl (fun t e => t.clearForce p e.1 e.2) s) St.success (wd own.length) 0
  else
    let i := fieldOf d.w2 15 0
    let st := s.filterWrite p (s.ptTag i) Cls.point i
    if st != St.success then .refuse s Cls.point i st
    else if !s.active then .done s St.state 0 0
    else
      match s.force i with
      | none => .done s St.success 0 0
      | some f =>
        if p.val != 0 && f.owner != p.val then .refuse s Cls.point i St.denied
        else .done (s.clearForce p i f) St.success 1 0

/-- FORCE_CLR (R282, R283). -/
def forceClrEff (x : HPort) (p : Part) (d : Desc) (s : State) : State :=
  s.command x p d (d.opcode = 0x06 && !s.inWindow) (d.clean 0x8000FFFF 0 0 0 0 0) true false (forceClrBody p d)

/-- FORCE_CLR (R282). -/
def execForceClr (x : HPort) (p : Part) (d : Desc) (s : State) : Host.Outcome State Fault Refusal :=
  .next (forceClrEff x p d s)

/-- FORCE_LIST's body (R159). -/
def forceListBody (x : HPort) (p : Part) (d : Desc) (s : State) (_id : Nat) : CmdEnd :=
  let vis := s.forceList.filter (fun e => s.canRead p e.1)
  let out := vis.take d.len
  match s.dmaWrite x p d.addr (wordsBytes (out.flatMap (fun e => [wd (e.1 + e.2.owner * 2 ^ 16), e.2.value]))) with
  | (false, t) => .done t St.dmaError 0 0
  | (true, t) => .done t St.success (wd out.length) (wd vis.length)

/-- FORCE_LIST (R159). -/
def forceListEff (x : HPort) (p : Part) (d : Desc) (s : State) : State :=
  s.command x p d (d.opcode = 0x07) (d.buf 0 0 0 1 4096) true false (forceListBody x p d)

/-- FORCE_LIST (R159). -/
def execForceList (x : HPort) (p : Part) (d : Desc) (s : State) : Host.Outcome State Fault Refusal :=
  .next (forceListEff x p d s)

/-- SNAPSHOT's body: the filter decides each point now, the copy follows the next publish (R160, R693). A point that does not exist
is refused like one of another tag, by partition 0 too, and has quality 0xFFFFFFFF with it. (DEDUCED, log 166) -/
def snapshotBody (x : HPort) (p : Part) (d : Desc) (s : State) (id : Nat) : CmdEnd :=
  let first := fieldOf d.w2 15 0
  let hidden := (List.range (fieldOf d.w3 16 0)).filterMap (fun k =>
    if s.canRead p (first + k) then none else some (first + k))
  let t := s.noteFirst p (hidden.head?.map (fun i => (i, St.noObject)))
  .wait { t with ptx := { t.ptx with
    snaps := t.ptx.snaps ++ [{ port := x, part := p, id := id, desc := d, hidden := hidden }] } }

/-- SNAPSHOT (R160). -/
def snapshotEff (x : HPort) (p : Part) (d : Desc) (s : State) : State :=
  s.command x p d (d.opcode = 0x08)
    (d.clean 0xFFFF 0x1FFFF allBits allBits 0 0 && d.addr % 8 = 0 && 1 ≤ fieldOf d.w3 16 0
      && fieldOf d.w2 15 0 + fieldOf d.w3 16 0 ≤ 65536) true false (snapshotBody x p d)

/-- SNAPSHOT (R160). -/
def execSnapshot (x : HPort) (p : Part) (d : Desc) (s : State) : Host.Outcome State Fault Refusal :=
  .next (snapshotEff x p d s)

/-- The value a snapshot copies: that of the output image for the points it carries, with their forces, and another point's slot
(R160, R288). -/
def State.snapValue (s : State) (i : Nat) : Word :=
  if !(s.pt i).valid then 0
  else if s.ptx.outTbl.any (fun e => e.1 = i) then Store.get wordZero s.ptx.outImg i
  else s.img i

/-- Whether a started command still holds its slot on a ring set that writes to host memory (R143). -/
def State.mayAnswer (s : State) (x : HPort) (p id : Nat) : Bool :=
  (s.rsState x p = 1 || s.rsState x p = 2) && (s.ring x p).ops.any (fun o => o.id = id)

/-- Copy one waiting snapshot and complete its command (R159, R160); one whose ring set has stopped, faulted or lost its link writes
nothing (R143). -/
def State.copySnap (s : State) (k : SnapReq) : State :=
  if !s.mayAnswer k.port k.part k.id then s
  else
  let first := fieldOf k.desc.w2 15 0
  let ws := (List.range (fieldOf k.desc.w3 16 0)).flatMap (fun j =>
    let i := first + j
    if k.hidden.contains i then [0, 0xFFFFFFFF] else [s.snapValue i, s.quality i])
  match s.dmaWrite k.port k.part k.desc.addr (wordsBytes ws) with
  | (false, t) => t.completeLate k.port k.part k.id St.dmaError 0 0
  | (true, t) => t.completeLate k.port k.part k.id St.success (wd (s.frameNo % 2 ^ 32)) 0

/-- All snapshots that wait are copied when a publish completes (R160). -/
def State.copySnaps (s : State) : State :=
  s.ptx.snaps.foldl (fun t k => t.copySnap k) { s with ptx := { s.ptx with snaps := [] } }

end Sys2Proof.Machine
end

