-- ==== Sys2Proof/Machine/Access.lean ====
section
/-! DEFINITION. The access codes at work: what a host write of the register's fields stores and what a host read clears
(R7 to R15), and who may write. -/

namespace Sys2Proof.Machine

/-- Apply a written word to one field by its access code (R7); a value the field does not define keeps the old one and
sets BADVAL (R11). -/
def State.writeField (s : State) (off : Nat) (v : Word) (f : FieldRow) : State :=
  let b : Fld := ⟨off, f.hi, f.lo⟩
  let n := fieldOf v f.hi f.lo
  match f.acc with
  | .rw => if f.defines n then s.setF b n else s.badVal
  | .w1c => s.setF b (s.rf b - (s.rf b &&& n))
  | .w1s => s.setF b (s.rf b ||| n)
  | .ro => s
  | .wo => s
  | .rc => s

/-- Apply a written word to every field of a register. -/
def State.writeFields (s : State) (off : Nat) (v : Word) : State :=
  match Reg.row? off with
  | none => s
  | some r => r.fields.foldl (fun t f => t.writeField off v f) s

/-- Whether every field of the register at `off` defines its value in `v`, and no reserved bit is 1 (R11). -/
def wordOk (off : Nat) (v : Word) : Bool :=
  match Reg.row? off with
  | none => v = 0
  | some r => r.fields.all (fun f => f.defines (fieldOf v f.hi f.lo)) &&
      r.fields.foldl (fun a f => withField a f.hi f.lo 0) v = 0

/-- Return every RC field of a register to its reset value (R7, R13). -/
def State.clearRc (s : State) (off : Nat) : State :=
  match Reg.row? off with
  | none => s
  | some r => r.fields.foldl (fun t f =>
      if f.acc = .rc then t.setF ⟨off, f.hi, f.lo⟩ (fieldOf (Reg.resetVal s.variant off) f.hi f.lo) else t) s

/-- A written word with some fields kept at their old value. -/
def keepFields (old v : Word) (fs : List (Nat × Nat)) : Word :=
  fs.foldl (fun a f => withField a f.1 f.2 (fieldOf old f.1 f.2)) v

/-- A written word against a limit that joins several fields: the first set of fields in `tries` whose old values make the word
keep the limit stays as it was, and the others take the written value; the second part says that something was kept, which sets
SYS_STAT.BADVAL (R11). (DEDUCED, log 177) -/
def settleWord (ok : Word → Bool) (old v : Word) : List (List (Nat × Nat)) → Word × Bool
  | [] => (old, true)
  | fs :: rest => if ok (keepFields old v fs) then (keepFields old v fs, !fs.isEmpty) else settleWord ok old v rest

/-- Set SYS_STAT.BADVAL where a test holds (R11). -/
def State.badValIf (s : State) (b : Bool) : State := if b then s.badVal else s

/-- The value of a register with the fields that read 0 removed: WO fields read 0 (R7). -/
def hideWo (off : Nat) (w : Word) : Word :=
  match Reg.row? off with
  | none => 0
  | some r => r.fields.foldl (fun a f => if f.acc = .wo then withField a f.hi f.lo 0 else a) w

/-- Whether the register at `off` belongs to an absent unit or to an absent field port (R3, R31, R200). -/
def Variant.absent (v : Variant) (off : Nat) : Bool :=
  v.lacks (off / 0x10000) ||
  (off / 0x10000 = 9 && (match Reg.row? off with
    | none => false
    | some r =>
      let i := r.index off
      let port := if r.base = Reg.FLD_AFL 0 || r.base = Reg.FLD_AFH 0 then i / 16 else i
      (r.count = 64 || r.count = 48 || r.count = 1024) && v.t1l ≤ port && port < 48))

/-- A set-up register write by port `x` that R15 and R657 let through to block `b`. -/
def State.mayWrite (s : State) (x : HPort) (b : Nat) : Bool := s.holdsSem0 x && !s.inReset b && !s.variant.lacks b

/-- A write of port `x` to a set-up register of block `b` whose effect is `t`: of an absent unit it sets SYS_STAT.ABSWR, and
without SEM0 or in block reset it is discarded (R15, R31, R657). (DEDUCED, log 124) -/
def State.asWrite (s : State) (x : HPort) (b : Nat) (t : State) : State :=
  if s.variant.lacks b then s.absWr else if s.mayWrite x b then t else s

/-- Show read data on the port: the addressed bytes of the register (R12). -/
def State.showRead (s : State) (x : HPort) (off size : Nat) (w : Word) : State :=
  s.emit (.readData x off size (wd (w.toNat / 2 ^ (8 * (off % 4)) % 2 ^ (8 * size))))

end Sys2Proof.Machine
end

