-- ==== Sys2Proof/Machine/Mailbox.lean ====
section
/-! DEFINITION. The CAN mailboxes: current and shadow frames, locks and the mailbox windows (R588). -/

namespace Sys2Proof.Machine

/-- Replace the state of CAN and RS-485. -/
def State.setCan (s : State) (c : CanSt) : State := { s with can := c }

/-- The key of buffer `b` of controller `k`. -/
def mbKey (k b : Nat) : Nat := 64 * k + b

/-- Whether a port holds the lock of a mailbox. -/
def State.mbLocked (s : State) (k b : Nat) : Bool := s.can.locks.any (fun l => l.2.1 = k && l.2.2 = b)

/-- The controller that a port's CAN_MBSELx names. -/
def State.selCtrl (s : State) (x : HPort) : Nat := s.rf (F.CAN_MBSEL_CTRL x.num)

/-- The buffer that a port's CAN_MBSELx names. -/
def State.selBuf (s : State) (x : HPort) : Nat := s.rf (F.CAN_MBSEL_BUF x.num)

/-- Whether a port's window selects a mailbox. -/
def State.windowOn (s : State) (x : HPort) : Bool := s.rf (F.CAN_MBCFG_MODE (s.selCtrl x) (s.selBuf x)) = 3

/-- The lock bit follows the locks; with the last lock gone, a shadow frame becomes current (R588). -/
def State.settleLock (s : State) (k b : Nat) : State :=
  let held := s.mbLocked k b
  let t := s.setF (F.CAN_MBST_LOCK k b) (ofBool held)
  if held || !t.on (F.CAN_MBST_SWAP k b) then t
  else
    let f := Store.get noBytes t.can.shadow (mbKey k b)
    let t := t.setCan { t.can with
      cur := Store.put noBytes t.can.cur (mbKey k b) f
      shadow := Store.put noBytes t.can.shadow (mbKey k b) [] }
    (((t.setF (F.CAN_MBST_SWAP k b) 0).setF (F.CAN_MBST_NEW k b) 1).setF (F.CAN_MBST_FULL k b) 1)

/-- A port releases its lock (R588). (DEDUCED, log 101) -/
def State.releaseMailbox (s : State) (x : HPort) : State :=
  match s.can.locks.find? (fun l => l.1 = x) with
  | none => s
  | some (_, k, b) => (s.setCan { s.can with locks := s.can.locks.filter (fun l => l.1 != x) }).settleLock k b

/-- A port takes the lock of the mailbox its window selects (R588). (DEDUCED, log 101) -/
def State.lockMailbox (s : State) (x : HPort) : State :=
  let l := (x, s.selCtrl x, s.selBuf x)
  (s.setCan { s.can with locks := s.can.locks.filter (fun e => e.1 != x) ++ [l] }).settleLock (s.selCtrl x) (s.selBuf x)

/-- Word `i` of the window of port `x` (R600). -/
def State.mailboxWord (s : State) (x : HPort) (i : Nat) : Word :=
  let k := s.selCtrl x
  let b := s.selBuf x
  if !s.windowOn x then 0
  else if i = 0 then
    wd (s.rf (F.CAN_MBST_NEW k b) * 2 ^ 31 + s.rf (F.CAN_MBST_SWAP k b) * 2 ^ 30 + s.rf (F.CAN_MBST_OVW k b) * 2 ^ 29)
  else wordAt (Store.get noBytes s.can.cur (mbKey k b)) (i - 1)

/-- A read of word 0 of the port's own window: the lock is taken, and NEW is shown and then cleared (R588). -/
def State.readWindow0 (s : State) (x : HPort) : Word × State :=
  if !s.windowOn x then (0, s)
  else
    let t := s.lockMailbox x
    (t.mailboxWord x 0, t.setF (F.CAN_MBST_NEW (t.selCtrl x) (t.selBuf x)) 0)

/-- A write to the port's own CAN_MBSELx: the lock is released and the fields stored (R588). -/
def State.writeMbsel (s : State) (x : HPort) (v : Word) : State := (s.releaseMailbox x).writeFields (Reg.CAN_MBSEL x.num) v

/-- A controller loses a mailbox frame (R588). -/
def State.mailboxLost (s : State) (k b : Nat) : State :=
  let t := (s.setF (F.CAN_MBST_OVW k b) 1).addSat (F.CAN_OVW_CNT k) 1
  (t.raise Reg.CAN_GSTAT Reg.CAN_GIEN 20 (4 + k)).report 0x1403 0 (wd k) (wd b) 0

/-- An accepted frame enters a mailbox (R588). -/
def State.toMailbox (s : State) (k b : Nat) (f : List Byte) : State :=
  if s.mbLocked k b then
    let t := if s.on (F.CAN_MBST_SWAP k b) then s.mailboxLost k b else s
    (t.setCan { t.can with shadow := Store.put noBytes t.can.shadow (mbKey k b) f }).setF (F.CAN_MBST_SWAP k b) 1
  else
    let t := if s.on (F.CAN_MBST_NEW k b) then s.mailboxLost k b else s
    let t := t.setCan { t.can with cur := Store.put noBytes t.can.cur (mbKey k b) f }
    (t.setF (F.CAN_MBST_NEW k b) 1).setF (F.CAN_MBST_FULL k b) 1

/-- MAILBOX_WINDOW_LOCK (R588): a read of word 0 of the port's own window. -/
def mailboxWindowLockEff (x : HPort) (s : State) : State :=
  if s.inReset 20 then s
  else
    let (v, t) := s.readWindow0 x
    t.showRead x (Reg.CAN_MBWIN x.num 0) 4 v

/-- MAILBOX_WINDOW_LOCK (R588). -/
def execMailboxWindowLock (x : HPort) (s : State) : Host.Outcome State Fault Refusal := .next (mailboxWindowLockEff x s)

/-- MAILBOX_WINDOW_RELEASE (R588): a read of word 20 of the port's own window. -/
def mailboxWindowReleaseEff (x : HPort) (s : State) : State :=
  if s.inReset 20 then s
  else (s.releaseMailbox x).showRead x (Reg.CAN_MBWIN x.num 20) 4 (s.mailboxWord x 20)

/-- MAILBOX_WINDOW_RELEASE (R588). -/
def execMailboxWindowRelease (x : HPort) (s : State) : Host.Outcome State Fault Refusal :=
  .next (mailboxWindowReleaseEff x s)

/-- MAILBOX_SELECT (R588): a port writes its own CAN_MBSELx. -/
def mailboxSelectEff (x : HPort) (v : Word) (s : State) : State := if s.inReset 20 then s else s.writeMbsel x v

/-- MAILBOX_SELECT (R588). -/
def execMailboxSelect (x : HPort) (v : Word) (s : State) : Host.Outcome State Fault Refusal :=
  .next (mailboxSelectEff x v s)

end Sys2Proof.Machine
end

