-- ==== Sys2Proof/Machine/HostPort.lean ====
section
/-! DEFINITION. Host links, semaphores, ring-set control, doorbells, command fetch, receive delivery and interrupts
(chapter "Host Ports, Semaphores and Descriptor Rings"), and the partition registers with an effect of their own
(chapter "Partitions and Tenant Separation"). -/

namespace Sys2Proof.Machine

/-! ## Semaphores -/

/-- Free a cell (R137 to R139). What PORT and TAG read in a free cell is open. (DESIGN CHOICE, log 16) -/
def State.freeCell (s : State) (i : Nat) : State :=
  s.useFree.setReg (Reg.SEM_CELL i) (s.freeVal &&& 0x4000FFFF)

/-- The port that holds a cell (R177). -/
def State.cellPort (s : State) (i : Nat) : HPort := if s.on (F.SEM_CELL_PORT i) then .hp1 else .hp0

/-- Clear the share staging registers when SEM0 changes to the other port (R105). -/
def State.clearStaging (s : State) (x : HPort) : State :=
  if s.host.semLast = some x.other then
    ((s.setReg Reg.PRT_SHIDX 0).setReg Reg.PRT_SHW0 0).setReg Reg.PRT_SHW1 0
  else s

/-- SEM_CMD ACQUIRE (R135, R136, R138, R105). -/
def semAcquireEff (x : HPort) (i : Fin 64) (tag : BitVec 16) (s : State) : State :=
  if s.on (F.SEM_CELL_HELD i) then
    if s.cellPort i = x then (s.setF (F.SEM_CELL_TAG i) tag.toNat).setF (F.SEM_CELL_LEASE i) 0 else s
  else
    let t := s.setReg (Reg.SEM_CELL i) (wd (2 ^ 31 + x.num * 2 ^ 30 + tag.toNat))
    if i.val = 0 then
      let t := t.clearStaging x
      let t : State := { t with host := { t.host with semLast := some x } }
      t.report 0x1801 0 (wd x.num) (wd tag.toNat) 0
    else t

/-- SEM_ACQUIRE (R135). -/
def execSemAcquire (x : HPort) (i : Fin 64) (tag : BitVec 16) (s : State) : Host.Outcome State Fault Refusal :=
  .next (semAcquireEff x i tag s)

/-- SEM_CMD RELEASE (R137). -/
def semReleaseEff (x : HPort) (i : Fin 64) (s : State) : State :=
  if s.on (F.SEM_CELL_HELD i) && s.cellPort i = x then
    let tag := s.rf (F.SEM_CELL_TAG i)
    let t := s.freeCell i
    if i.val = 0 then t.report 0x1802 0 (wd x.num) (wd tag) 0 else t
  else s.badVal

/-- SEM_RELEASE (R137). -/
def execSemRelease (x : HPort) (i : Fin 64) (s : State) : Host.Outcome State Fault Refusal := .next (semReleaseEff x i s)

/-- A held cell is freed by the module; the SEM unit vector goes to the port that did not hold it (R138, R139, R171, R172). -/
def State.evictCell (s : State) (i code : Nat) : State :=
  let x := s.cellPort i
  let tag := s.rf (F.SEM_CELL_TAG i)
  ((s.freeCell i).report code 0 (wd i) (wd x.num) (wd tag)).signalOn x.other 24

/-- The lease of a cell runs out (R138). (DESIGN CHOICE, log 4; DEDUCED, log 33) -/
def leaseExpiryEff (i : Fin 64) (s : State) : State :=
  if s.on (F.SEM_CELL_HELD i) && s.on (F.SEM_CELL_LEASE i) then s.evictCell i 0x1803 else s

/-- LEASE_EXPIRY (R138). -/
def execLeaseExpiry (i : Fin 64) (s : State) : Host.Outcome State Fault Refusal := .next (leaseExpiryEff i s)

/-- A held cell was not acquired again within HBTMO (R139). (DESIGN CHOICE, log 4; DEDUCED, log 33) -/
def heartbeatTimeoutEff (i : Fin 64) (s : State) : State :=
  if s.on (F.SEM_CELL_HELD i) && s.rf F.SEM_CTL_HBTMO != 0 then s.evictCell i 0x1804 else s

/-- HEARTBEAT_TIMEOUT (R139). -/
def execHeartbeatTimeout (i : Fin 64) (s : State) : Host.Outcome State Fault Refusal := .next (heartbeatTimeoutEff i s)

/-! ## Ring-set control -/

/-- The ring set a port's staging set names (R143). -/
def State.rsIdx (s : State) (x : HPort) : Nat := s.rf (F.HPC_RSIDX_RS x.num)

/-- A WR or START is refused: ERR with its cause (R144, R175). -/
def State.rsRefuse (s : State) (x : HPort) (errc : Nat) : State :=
  (s.setF (F.HPC_RSCMD_ERR x.num) 1).setF (F.HPC_RSCMD_ERRC x.num) errc

/-- A command of HPC_RSCMDx while BUSY is ignored and sets BADVAL (R175). -/
def State.unlessBusy (s : State) (x : HPort) (t : State) : State :=
  if s.on (F.HPC_RSCMD_BUSY x.num) then s.badVal else t

/-- A 64-bit base from its two staging registers. -/
def State.stagedBase (s : State) (lo hi : Nat) : Nat := (s.reg lo).toNat + (s.reg hi).toNat * 2 ^ 32

/-- WR: commit the staging set to a STOPPED ring set (R175). -/
def ringSetCommitEff (x : HPort) (s : State) : State :=
  s.unlessBusy x (
    let p := s.rsIdx x
    let n := x.num
    if s.rsState x p != 0 then s.rsRefuse x 3
    else s.setRing x p { s.ring x p with
      cmdB := s.stagedBase (Reg.HPC_CMDBL n) (Reg.HPC_CMDBH n)
      cplB := s.stagedBase (Reg.HPC_CPLBL n) (Reg.HPC_CPLBH n)
      evtB := s.stagedBase (Reg.HPC_EVTBL n) (Reg.HPC_EVTBH n)
      rxB := s.stagedBase (Reg.HPC_RXBL n) (Reg.HPC_RXBH n)
      size := s.reg (Reg.HPC_RSSIZE n)
      cfg := s.reg (Reg.HPC_RSCFG n)
      hold := s.reg (Reg.HPC_RXHOLD n) })

/-- RING_SET_COMMIT (R175). -/
def execRingSetCommit (x : HPort) (s : State) : Host.Outcome State Fault Refusal := .next (ringSetCommitEff x s)

/-- Write a 64-bit base into its two staging registers. -/
def State.stageBase (s : State) (lo hi n : Nat) : State :=
  (s.setReg lo (wd (n % 2 ^ 32))).setReg hi (wd (n / 2 ^ 32))

/-- RD: load a ring set's committed values into the staging set (R175). -/
def ringSetReadBackEff (x : HPort) (s : State) : State :=
  s.unlessBusy x (
    let r := s.ring x (s.rsIdx x)
    let n := x.num
    let t := s.stageBase (Reg.HPC_CMDBL n) (Reg.HPC_CMDBH n) r.cmdB
    let t := t.stageBase (Reg.HPC_CPLBL n) (Reg.HPC_CPLBH n) r.cplB
    let t := t.stageBase (Reg.HPC_EVTBL n) (Reg.HPC_EVTBH n) r.evtB
    let t := t.stageBase (Reg.HPC_RXBL n) (Reg.HPC_RXBH n) r.rxB
    ((t.setReg (Reg.HPC_RSSIZE n) r.size).setReg (Reg.HPC_RSCFG n) r.cfg).setReg (Reg.HPC_RXHOLD n) r.hold)

/-- RING_SET_READ_BACK (R175). -/
def execRingSetReadBack (x : HPort) (s : State) : Host.Outcome State Fault Refusal := .next (ringSetReadBackEff x s)

/-- A size nibble names a ring (R142, R173). -/
def sizeOk (n : Nat) : Bool := n = 0 || (6 ≤ n && n ≤ 15)

/-- The first condition of R144 that a START fails, in the order of that rule. -/
def State.startCause (s : State) (x : HPort) (p : Nat) : Option Nat :=
  let r := s.ring x p
  if s.rsState x p != 0 then some 3
  else if [r.cmdB, r.cplB, r.evtB, r.rxB].any (fun b => b % 4096 != 0) then some 1
  else if !(sizeOk (fieldOf r.size 3 0) && sizeOk (fieldOf r.size 7 4) && sizeOk (fieldOf r.size 11 8)
      && sizeOk (fieldOf r.size 15 12) && fieldOf r.size 18 16 ≤ 6) then some 2
  else if !s.enabled p then some 4
  else if !(s.pci x).busMaster then some 6
  else if s.on (F.PRT_PASID_EN x.num p) && !(s.pci x).pasidOn then some 5
  else none

/-- START (R144): indices, counters and ERRC are zeroed, the phase is 1, ARM stays. -/
def ringSetStartEff (x : HPort) (s : State) : State :=
  s.unlessBusy x (
    let p := s.rsIdx x
    match s.startCause x p with
    | some c => s.rsRefuse x c
    | none =>
      let r := s.ring x p
      (s.setRing x p { r with
        cmdPi := 0
        cmdCi := 0
        cplPi := 0
        cplCi := 0
        evtPi := 0
        evtCi := 0
        rxPi := 0
        rxCi := 0
        cplPhase := true
        evtPhase := true
        dueCpl := false
        dueEvt := false
        dueRx := false
        rxNew := false
        errc := 0
        rxNoBuf := 0
        evtLost := 0
        dbErr := 0
        lostSince := 0
        ops := []
        holding := false }).setRs x p 1)

/-- RING_SET_START (R144). -/
def execRingSetStart (x : HPort) (s : State) : Host.Outcome State Fault Refusal := .next (ringSetStartEff x s)

/-- Commands fetched but not started complete with ABORTED (R145); one passed over was never fetched. -/
def abortFetched (e : Nat) (ops : List Op) : List Op :=
  (ops.filter (fun o => o.st != .passed)).map (fun o => if o.st = .fetched then { o with st := .done, status := St.aborted, epoch := e, r0 := 0, r1 := 0 } else o)

/-- Stop a ring set (R145): a RUNNING one enters STOPPING, one in FAULT enters STOPPED at once. -/
def State.stopRing (s : State) (x : HPort) (p : Nat) : State :=
  if s.rsState x p = 1 then
    let t := s.setRs x p 2
    let r := t.ring x p
    let t := t.setRing x p { r with cmdCi := r.cmdSeen, ops := abortFetched s.epoch r.ops, holding := false }
    ((t.flushNow (rxQueue x p)).endSubs x p).drain x p r.ops.length
  else if s.rsState x p = 3 then s.setRs x p 0
  else s

/-- Remember or forget the ring set a port's STOP waits for. -/
def State.setStop (s : State) (x : HPort) (p : Option Nat) : State :=
  match x with
  | .hp0 => { s with host := { s.host with stop0 := p } }
  | .hp1 => { s with host := { s.host with stop1 := p } }

/-- The ring set a port's STOP waits for. -/
def State.stopIdx (s : State) : HPort → Option Nat
  | .hp0 => s.host.stop0
  | .hp1 => s.host.stop1

/-- STOP (R145, R175): BUSY until the ring set is STOPPED. -/
def ringSetStopEff (x : HPort) (s : State) : State :=
  s.unlessBusy x (
    let p := s.rsIdx x
    let t := s.stopRing x p
    if t.rsState x p = 2 then (t.setStop x (some p)).setF (F.HPC_RSCMD_BUSY x.num) 1 else t)

/-- RING_SET_STOP (R145). -/
def execRingSetStop (x : HPort) (s : State) : Host.Outcome State Fault Refusal := .next (ringSetStopEff x s)

/-- A STOPPING ring set whose commands have all completed enters STOPPED and signals vector 8p + 3 (R145, R169). The frames of its
started commands have left the staging queue by then, and the flush finds it empty (R193). (DEDUCED, log 172) -/
def ringSetStoppedEff (x : HPort) (p : Part) (s : State) : State :=
  if s.rsState x p = 2 && (s.ring x p).ops = [] then
    let t := (s.setRs x p 0).flushNow (stagingQueue x p)
    let t := if t.stopIdx x = some p.val then (t.setStop x none).setF (F.HPC_RSCMD_BUSY x.num) 0 else t
    t.msix x (8 * p + 3)
  else s

/-- RING_SET_STOPPED (R145). -/
def execRingSetStopped (x : HPort) (p : Part) (s : State) : Host.Outcome State Fault Refusal :=
  .next (ringSetStoppedEff x p s)

/-- A DMA error on a ring structure of an active ring set (R146). -/
def ringSetFaultEff (x : HPort) (p : Part) (errc : Fin 4) (s : State) : State :=
  if (s.rsState x p = 1 || s.rsState x p = 2) && errc.val != 0 then s.ringFault x p errc else s

/-- RING_SET_FAULT (R146). -/
def execRingSetFault (x : HPort) (p : Part) (errc : Fin 4) (s : State) : Host.Outcome State Fault Refusal :=
  .next (ringSetFaultEff x p errc s)

/-! ## Doorbells (R147 to R150, R117) -/

/-- Count an ignored doorbell write (R148). -/
def State.dbErr (s : State) (x : HPort) (p : Nat) : State :=
  let r := s.ring x p
  s.setRing x p { r with dbErr := min (r.dbErr + 1) (2 ^ 32 - 1) }

/-- An index doorbell write that is accepted: the partition is enabled, the ring set RUNNING, the index in the ring. -/
def State.dbOk (s : State) (x : HPort) (p n : Nat) (v : Word) : Bool :=
  s.enabled p && s.rsRunning x p && decide (v.toNat < n)

/-- A write of the command producer index (R148, R149). -/
def cmdPiWriteEff (x : HPort) (p : Part) (v : Word) (mem : HostMem) (s : State) : State :=
  let t := s.hostStores x mem
  let r := t.ring x p
  if t.dbOk x p r.cmdN v then t.setRing x p { r with cmdPi := v.toNat } else t.dbErr x p

/-- CMD_PI_WRITE (R148). -/
def execCmdPiWrite (x : HPort) (p : Part) (v : Word) (mem : HostMem) (s : State) : Host.Outcome State Fault Refusal :=
  .next (cmdPiWriteEff x p v mem s)

/-- A write of the completion consumer index (R148). -/
def cplCiWriteEff (x : HPort) (p : Part) (v : Word) (s : State) : State :=
  let r := s.ring x p
  if s.dbOk x p r.cplN v then s.setRing x p { r with cplCi := v.toNat } else s.dbErr x p

/-- CPL_CI_WRITE (R148). -/
def execCplCiWrite (x : HPort) (p : Part) (v : Word) (s : State) : Host.Outcome State Fault Refusal :=
  .next (cplCiWriteEff x p v s)

/-- A write of the event consumer index frees entries; lost entries are told then (R148, R164). -/
def evtCiWriteEff (x : HPort) (p : Part) (v : Word) (s : State) : State :=
  let r := s.ring x p
  if s.dbOk x p r.evtN v then (s.setRing x p { r with evtCi := v.toNat }).lostEntry x p else s.dbErr x p

/-- EVT_CI_WRITE (R164). -/
def execEvtCiWrite (x : HPort) (p : Part) (v : Word) (s : State) : Host.Outcome State Fault Refusal :=
  .next (evtCiWriteEff x p v s)

/-- A write of the receive producer index posts buffers (R148, R165). -/
def rxPiWriteEff (x : HPort) (p : Part) (v : Word) (mem : HostMem) (s : State) : State :=
  let t := s.hostStores x mem
  let r := t.ring x p
  if t.dbOk x p r.rxN v then t.setRing x p { r with rxPi := v.toNat } else t.dbErr x p

/-- RX_PI_WRITE (R148). -/
def execRxPiWrite (x : HPort) (p : Part) (v : Word) (mem : HostMem) (s : State) : Host.Outcome State Fault Refusal :=
  .next (rxPiWriteEff x p v mem s)

/-- Arm one vector; entries not consumed count as new (R170). -/
def State.armVec (s : State) (x : HPort) (p : Nat) (k : RingVec) (b : Bool) : State :=
  if b then
    let r := (s.ring x p).setArm k true
    let t := s.setRing x p r
    if r.unconsumed k then t.noteEntries x p k else t
  else s

/-- A write to ARM, accepted in any state (R147, R150, R170). -/
def armWriteEff (x : HPort) (p : Part) (v : Word) (s : State) : State :=
  ((s.armVec x p .cpl (bitOf v.toNat 0)).armVec x p .evt (bitOf v.toNat 1)).armVec x p .rx (bitOf v.toNat 2)

/-- ARM_WRITE (R170). -/
def execArmWrite (x : HPort) (p : Part) (v : Word) (s : State) : Host.Outcome State Fault Refusal :=
  .next (armWriteEff x p v s)

/-- What a doorbell page reads (R147). -/
def State.readDoorbell (s : State) (x : HPort) (p off : Nat) : Word :=
  let r := s.ring x p
  if off = 0x010 then wd (ofBool r.armCpl + 2 * ofBool r.armEvt + 4 * ofBool r.armRx)
  else if off = 0x100 then wd (r.errc * 256 + s.rsState x p)
  else if off = 0x104 then wd s.epoch
  else if off = 0x108 then wd r.cmdSeen
  else if off = 0x10C then wd r.cplPi
  else if off = 0x110 then wd r.evtPi
  else if off = 0x114 then wd r.rxCi
  else if off = 0x118 then wd r.rxNoBuf
  else if off = 0x11C then wd r.evtLost
  else if off = 0x120 then wd r.dbErr
  else 0

/-- Interrupt coalescing ends for a vector (R170). (DEDUCED, log 38) -/
def interruptCoalescingExpiryEff (x : HPort) (p : Part) (k : RingVec) (s : State) : State :=
  let r := s.ring x p
  if r.due k then
    let t := s.setRing x p (r.setDue k false)
    if r.unconsumed k then t.fireVec x p k else t
  else s

/-- INTERRUPT_COALESCING_EXPIRY (R170). -/
def execInterruptCoalescingExpiry (x : HPort) (p : Part) (k : RingVec) (s : State) :
    Host.Outcome State Fault Refusal := .next (interruptCoalescingExpiryEff x p k s)

/-! ## Command fetch and receive delivery -/

/-- Whether a command is one whose data passes the staging queue (R179). -/
def Desc.transmits (d : Desc) : Bool := d.opcode = 0x48 || d.opcode = 0x50 || d.opcode = 0x51 || d.opcode = 0x58

/-- The ring set's staging queue is at quota (R179). -/
def State.stagingFull (s : State) (x : HPort) (p : Nat) : Bool :=
  s.quota (stagingQueue x p) ≤ s.fill (stagingQueue x p)

/-- Fetch the next entry of the command ring (R132 to R134). A transmit command is passed over and stays in the ring while the
staging queue is at quota (R179). An unknown opcode, OP or TYPE completes with BAD_DESC at once (R152 check 1). -/
def State.fetchNext (s : State) (x : HPort) (p : Nat) : State :=
  let r := s.ring x p
  match s.dmaRead x p (r.cmdB + 32 * r.cmdCi) 32 with
  | (none, t) => t.ringFault x p 1
  | (some bs, t) =>
    let d := descOf bs
    let pass := d.transmits && s.stagingFull x p
    let o : Op := { id := r.nextOp, desc := d, st := if pass then .passed else if d.known then .fetched else .done,
                    status := St.badDesc, epoch := s.epoch, r0 := 0, r1 := 0 }
    let t := if r.slots = 0 || pass then t else t.setTurn x p
    (t.setRing x p { r with
      ops := r.ops ++ [o]
      nextOp := r.nextOp + 1
      cmdCi := if r.cmdCi + 1 = r.cmdN then 0 else r.cmdCi + 1 }).drain x p (r.ops.length + 1)

/-- The oldest command passed over becomes a fetched one (R179). -/
def fetchPassed : List Op → List Op
  | [] => []
  | o :: rest => if o.st = .passed then { o with st := .fetched } :: rest else o :: fetchPassed rest

/-- Fetch a command of a ring set: one passed over before, once the staging queue has room, or the next one (R132 to R134, R179).
(DEDUCED, log 171) -/
def commandFetchEff (x : HPort) (p : Part) (s : State) : State :=
  let r := s.ring x p
  if s.rsRunning x p && s.enabled p && r.ops.any (fun o => o.st = .passed) && !s.stagingFull x p then
    s.setRing x p { r with ops := fetchPassed r.ops }
  else if s.mayFetch x p then s.fetchNext x p
  else s

/-- COMMAND_FETCH (R134). -/
def execCommandFetch (x : HPort) (p : Part) (s : State) : Host.Outcome State Fault Refusal := .next (commandFetchEff x p s)

/-- RECEIVE_FRAME_DELIVERY (R166): the head frame is written once its buffers are free. -/
def execReceiveFrameDelivery (x : HPort) (p : Part) (s : State) : Host.Outcome State Fault Refusal :=
  .next (s.deliverHead x p)

/-- The hold time of the head frame ends with its buffers still missing (R167). -/
def receiveHoldExpiryEff (x : HPort) (p : Part) (s : State) : State :=
  let r := s.ring x p
  match s.queue (rxQueue x p) with
  | [] => s
  | k :: _ =>
    if r.holding && r.rxFree < r.need k then
      let t := s.dropHead x p 1
      t.headArrives x p (t.queue (rxQueue x p)).length
    else s

/-- RECEIVE_HOLD_EXPIRY (R167). -/
def execReceiveHoldExpiry (x : HPort) (p : Part) (s : State) : Host.Outcome State Fault Refusal :=
  .next (receiveHoldExpiryEff x p s)

/-- NOP's body (R156): the frame number. -/
def nopBody (s : State) (_id : Nat) : CmdEnd := .done s St.success s.frameWords.1 s.frameWords.2

/-- NOP (R156). -/
def nopEff (x : HPort) (p : Part) (d : Desc) (s : State) : State :=
  s.command x p d (d.opcode = 0x00) (d.clean 0 0 0 0 0 0) true false nopBody

/-- NOP (R156). -/
def execNop (x : HPort) (p : Part) (d : Desc) (s : State) : Host.Outcome State Fault Refusal := .next (nopEff x p d s)

/-! ## Links and port resets (R128, R131, R138) -/

/-- Return the staging set and HPC_UVENx of a port to their reset values (R131). -/
def State.resetStaging (s : State) (x : HPort) : State :=
  let n := x.num
  [Reg.HPC_RSIDX n, Reg.HPC_CMDBL n, Reg.HPC_CMDBH n, Reg.HPC_CPLBL n, Reg.HPC_CPLBH n, Reg.HPC_EVTBL n,
    Reg.HPC_EVTBH n, Reg.HPC_RXBL n, Reg.HPC_RXBH n, Reg.HPC_RSSIZE n, Reg.HPC_RSCFG n, Reg.HPC_RXHOLD n,
    Reg.HPC_RSCMD n, Reg.HPC_UVEN n].foldl (fun t off => t.setReg off (Reg.resetVal t.variant off)) s

/-- The snapshots of a port return to 0 (R131, R504). -/
def State.clearSnaps (s : State) (x : HPort) : State :=
  let t := s.setReg (Reg.RSR_CNTH x.num) 0
  match x with
  | .hp0 => { t with time := { t.time with snap0 := 0, fsec0 := 0 }, cle := { t.cle with tch0 := 0 } }
  | .hp1 => { t with time := { t.time with snap1 := 0, fsec1 := 0 }, cle := { t.cle with tch1 := 0 } }

/-- Every ring set of the port goes to STOPPED at once (R131). -/
def State.dropPort (s : State) (x : HPort) : State :=
  forUpto 128 s (fun p t =>
    if t.rsState x p = 0 && (t.ring x p).ops = [] then t else (t.dropRing x p).setRs x p 0)

/-- Replace a port's PCI Express configuration; vectors that it unmasks are signalled (R171). -/
def State.setPci (s : State) (x : HPort) (c : PciCfg) : State :=
  let t : State := match x with
    | .hp0 => { s with host := { s.host with pci0 := c } }
    | .hp1 => { s with host := { s.host with pci1 := c } }
  t.unpend x

/-- PCI configuration space, MSI-X table and pending bits of a port return to their reset values (R131).
(PRESUMED, log 40) -/
def State.resetPci (s : State) (x : HPort) : State :=
  match x with
  | .hp0 => { s with host := { s.host with pci0 := PciCfg.reset, tbl0 := [], pba0 := [] } }
  | .hp1 => { s with host := { s.host with pci1 := PciCfg.reset, tbl1 := [], pba1 := [] } }

/-- What every kind of port loss does (R131). -/
def State.portLoss (s : State) (x : HPort) : State :=
  ((((s.dropPort x).setStop x none).resetStaging x).clearSnaps x).releaseMailbox x

/-- Start the lease on every cell the port holds (R138). -/
def State.startLeases (s : State) (x : HPort) : State :=
  forUpto 64 s (fun i t =>
    if t.on (F.SEM_CELL_HELD i) && t.cellPort i = x then t.setF (F.SEM_CELL_LEASE i) 1 else t)

/-- The link falls: LINK, SPEED and WIDTH read 0, and event 0x0701 is recorded (R172, R176). -/
def State.linkFalls (s : State) (x : HPort) : State :=
  let n := x.num
  let t := ((s.setF (F.HPC_PSTAT_LINK n) 0).setF (F.HPC_PSTAT_SPEED n) 0).setF (F.HPC_PSTAT_WIDTH n) 0
  ((t.portLoss x).startLeases x).report 0x0701 0 (wd n) 0 0

/-- Link-down of a host port (R131). -/
def hostLinkDownEff (x : HPort) (s : State) : State :=
  if s.on (F.HPC_PSTAT_LINK x.num) then s.linkFalls x else s

/-- HOST_LINK_DOWN (R131). -/
def execHostLinkDown (x : HPort) (s : State) : Host.Outcome State Fault Refusal := .next (hostLinkDownEff x s)

/-- Link-up of a host port (R172, R176); the host's configuration of the port comes with it. HP1 does not come up in the
Whiteout loader (R637). (DESIGN CHOICE, log 40) -/
def hostLinkUpEff (x : HPort) (speed width : Nat) (cfg : PciCfg) (s : State) : State :=
  if x = .hp1 && s.on F.UPD_STAT_WHITEOUT then s
  else
    let n := x.num
    let t := ((s.setF (F.HPC_PSTAT_LINK n) 1).setF (F.HPC_PSTAT_SPEED n) speed).setF (F.HPC_PSTAT_WIDTH n) width
    (t.report 0x0702 0 (wd n) (wd (speed % 8)) (wd (width % 8))).setPci x cfg

/-- HOST_LINK_UP (R172). -/
def execHostLinkUp (x : HPort) (speed width : Nat) (cfg : PciCfg) (s : State) : Host.Outcome State Fault Refusal :=
  .next (hostLinkUpEff x speed width cfg s)

/-- A fundamental reset of a port brings a link-down and resets the function (R131). -/
def fundamentalResetEff (x : HPort) (s : State) : State :=
  ((if s.on (F.HPC_PSTAT_LINK x.num) then s.linkFalls x else s.portLoss x)).resetPci x

/-- FUNDAMENTAL_RESET (R131). -/
def execFundamentalReset (x : HPort) (s : State) : Host.Outcome State Fault Refusal := .next (fundamentalResetEff x s)

/-- A Function Level Reset leaves the link up and the semaphore cells without a lease (R131). -/
def functionLevelResetEff (x : HPort) (s : State) : State := (s.portLoss x).resetPci x

/-- FUNCTION_LEVEL_RESET (R131). -/
def execFunctionLevelReset (x : HPort) (s : State) : Host.Outcome State Fault Refusal :=
  .next (functionLevelResetEff x s)

/-- Entry to D3hot stops the port's ring sets as a STOP does (R128). -/
def d3hotEntryEff (x : HPort) (s : State) : State :=
  forUpto 128 (s.setPci x { s.pci x with d3hot := true }) (fun p t => t.stopRing x p)

/-- D3HOT_ENTRY (R128). -/
def execD3hotEntry (x : HPort) (s : State) : Host.Outcome State Fault Refusal := .next (d3hotEntryEff x s)

/-! ## Partition configuration (R99 to R105, R116, R119, R122 to R124) -/

/-- The staged share entry. -/
def State.stagedShare (s : State) : Share := { w0 := s.reg Reg.PRT_SHW0, w1 := s.reg Reg.PRT_SHW1 }

/-- Commit the staged share entry (R100, R103, R104). (DEDUCED, log 131) -/
def State.shareCommit (s : State) : State :=
  let e := s.stagedShare
  if e.refused then s.setF F.PRT_SHCMD_ERR 1
  else
    let i := s.rf F.PRT_SHIDX_IDX
    let e' : Share := if e.valid then e else { w0 := 0, w1 := 0 }
    let t : State := { s with prt := { s.prt with shares := Store.put Share.dflt s.prt.shares i e' } }
    (t.report 0x0602 0 (wd i) e.w0 e.w1).cullSubs

/-- An action of PRT_SHCMD starts, unless one is in progress: then the write is ignored and sets BADVAL (R123). BUSY stays 1 until
`State.idle`. (DESIGN CHOICE, log 173) -/
def State.shareAct (s t : State) : State :=
  if s.on F.PRT_SHCMD_BUSY then s.badVal else t.setF F.PRT_SHCMD_BUSY 1

/-- SHARE_COMMIT (R100): PRT_SHCMD.WR from the port that holds SEM0. -/
def shareCommitEff (x : HPort) (s : State) : State := s.asWrite x 6 (s.shareAct s.shareCommit)

/-- SHARE_COMMIT (R100). -/
def execShareCommit (x : HPort) (s : State) : Host.Outcome State Fault Refusal := .next (shareCommitEff x s)

/-- Load a share entry into the staging registers (R123). -/
def State.shareReadBack (s : State) : State :=
  let e := Store.get Share.dflt s.prt.shares (s.rf F.PRT_SHIDX_IDX)
  (s.setReg Reg.PRT_SHW0 e.w0).setReg Reg.PRT_SHW1 e.w1

/-- SHARE_READ_BACK (R123). -/
def shareReadBackEff (x : HPort) (s : State) : State := s.asWrite x 6 (s.shareAct s.shareReadBack)

/-- SHARE_READ_BACK (R123). -/
def execShareReadBack (x : HPort) (s : State) : Host.Outcome State Fault Refusal := .next (shareReadBackEff x s)

/-- Write PRT_PEN[j]: bit 0 of PRT_PEN[0] stays 1, each change of a partition records event 0x0601 (R116, R120, R122). -/
def State.writePen (s : State) (x : HPort) (j : Nat) (v : Word) : State :=
  let old := (s.reg (Reg.PRT_PEN j)).toNat
  let new := if j = 0 then withBit v.toNat 0 true else v.toNat
  forUpto 32 (s.setReg (Reg.PRT_PEN j) (wd new)) (fun b t =>
    if bitOf old b != bitOf new b then t.report 0x0601 0 (wd (32 * j + b)) (wd (ofBool (bitOf new b))) (wd x.num) else t)

/-- PRT_PEN_WRITE (R122). -/
def prtPenWriteEff (x : HPort) (j : Fin 4) (v : Word) (s : State) : State :=
  s.asWrite x 6 (s.writePen x j v)

/-- PRT_PEN_WRITE (R122). -/
def execPrtPenWrite (x : HPort) (j : Fin 4) (v : Word) (s : State) : Host.Outcome State Fault Refusal :=
  .next (prtPenWriteEff x j v s)

/-- The module recomputes PRT_CFGCRC (R119). -/
def cfgcrcRecomputeEff (s : State) : State := s.setReg Reg.PRT_CFGCRC (crc32Words s.cfgWords)

/-- CFGCRC_RECOMPUTE (R119). -/
def execCfgcrcRecompute (s : State) : Host.Outcome State Fault Refusal := .next (cfgcrcRecomputeEff s)

end Sys2Proof.Machine
end

