-- ==== Sys2Proof/Machine/Time.lean ====
section
/-! DEFINITION. The clock count, the servo, trim measurements, staged time and the always-on flags (chapter "Tick,
Frame and Building Time"). -/

namespace Sys2Proof.Machine

/-! ## Servo (R48 to R51, R493) -/

/-- What the servo disciplines from (R50, R648): 0 nothing, 1 the network, 2 the TIN input. -/
def State.servoSource (s : State) : Nat :=
  if s.on F.RTC_CTL_NETSYNC then 1 else if s.on F.CLK_TIN_EN then 2 else 0

/-- After a write that changed the source, LOCK and HOLD are clear and the interval counts start again (R50). A LOCK that such a
write clears is not lost, and records no event 0x0502. (DEDUCED, log 150) -/
def State.sourceChanged (old s : State) : State :=
  if old.servoSource = s.servoSource then s
  else
    let t := (s.setF F.TCK_STAT_LOCK 0).setF F.TCK_STAT_HOLD 0
    { t with time := { t.time with good := 0, wild := 0 } }

/-- Event 0x0502: LOCK lost or HOLD set (R76). -/
def State.lockEvent (s : State) : State :=
  s.report 0x0502 0 (wd (s.rf ⟨Reg.TCK_STAT, 3, 0⟩)) (s.reg Reg.TCK_OFFSET) 0

/-- Whether automatic trim is in effect (R71). -/
def State.autoTrim (s : State) : Bool := s.on F.RTC_CTL_ATRIM && s.on F.RTC_CTL_NETSYNC

/-- A measurement begins (R68, R71): the count and the offset it starts from. -/
def State.measBegin (s : State) (auto : Bool) : State :=
  let t := (s.setF F.RTC_MEASCTL_BUSY 1).setF F.RTC_MEASCTL_FAILC 0
  { t with time := { t.time with
    measAuto := auto
    measFrom := t.count
    measN := 0
    measFirst := 0
    measLast := 0
    measOfs := signedOf 32 (t.reg Reg.TCK_OFFSET).toNat } }

/-- Automatic trim runs network measurements back to back while it has its reference; one that host software has started is given
up without a result (R71). (DEDUCED, log 147; DESIGN CHOICE, log 148) -/
def State.autoStart (s : State) : State :=
  if s.autoTrim && !s.on F.TCK_STAT_HOLD && !(s.on F.RTC_MEASCTL_BUSY && s.time.measAuto) then s.measBegin true else s

/-- A running measurement ends without result (R69); automatic trim starts the next one (R71). -/
def State.measFail (s : State) (cause : Nat) : State :=
  if !s.on F.RTC_MEASCTL_BUSY then s
  else
    let t := ((s.setF F.RTC_MEASCTL_FAIL 1).setF F.RTC_MEASCTL_FAILC cause).setF F.RTC_MEASCTL_BUSY 0
    (t.report 0x0405 0 (s.reg Reg.RTC_MEASRES) (wd cause) 1).autoStart

/-- Whether the measurement that runs is a network measurement. -/
def State.measNet (s : State) : Bool := s.time.measAuto || s.rf F.RTC_MEASCTL_SRC = 2

/-- The window of the measurement that runs ends at this count (R68). -/
def State.measEnd (s : State) : Nat := s.time.measFrom + s.rf F.RTC_MEASCTL_WIN * 2 ^ 32

/-- A crossing of voltage channel `v` at an instant of the count is timed by the mains measurement that runs on it, inside its
window (R68, R422). -/
def State.measCross (s : State) (v time : Nat) : State :=
  if s.on F.RTC_MEASCTL_BUSY && !s.measNet && s.rf F.RTC_MEASCTL_VCH = v && s.time.measFrom ≤ time && time ≤ s.measEnd then
    { s with time := { s.time with
      measN := s.time.measN + 1
      measFirst := if s.time.measN = 0 then time else s.time.measFirst
      measLast := time } }
  else s

/-- The servo takes one valid measurement (R48, R49, R51): offset register, LOCK, and a step when the offset exceeds
1 ms or the time is untrusted. A step and a copy that host software has staged use one place, and the later one stays.
(PRESUMED, log 31; DESIGN CHOICE, log 149) -/
def State.servoTake (s : State) (m : SyncSample) : State :=
  let t := (s.setReg Reg.TCK_OFFSET (wdInt (clampInt (-2147483647) 2147483647 m.offset))).setF F.TCK_STAT_HOLD 0
  let inside := m.offset.natAbs ≤ 500
  let t : State := { t with time := { t.time with
    good := if inside then t.time.good + 1 else 0
    wild := if inside then 0 else t.time.wild + 1 } }
  let t :=
    if 16 ≤ t.time.good && !t.on F.TCK_STAT_LOCK then
      (t.setF F.TCK_STAT_LOCK 1).report 0x0503 0 (t.reg Reg.TCK_OFFSET) 0 0
    else if 4 ≤ t.time.wild && t.on F.TCK_STAT_LOCK then (t.setF F.TCK_STAT_LOCK 0).lockEvent
    else t
  let t := t.autoStart
  if t.on F.RTC_STAT_OSF || 1000000 < m.offset.natAbs then
    { t with time := { t.time with staged := some (m.sec, m.frac, 2) } }
  else t

/-- Valid Sync information arrives on a LAN (R48, R493). On the LAN the servo does not follow, it only counts towards
the return to PREF's domain. (PRESUMED, log 31) -/
def syncReceivedEff (lanB : Bool) (m : SyncSample) (s : State) : State :=
  if s.servoSource != 1 then s
  else if lanB = s.time.domB then s.servoTake m
  else if lanB = s.on F.RSR_TSCTL_PREF then
    let n := s.time.prefGood + 1
    if 16 ≤ n then { s with time := { s.time with domB := lanB, prefGood := 0 } }
    else { s with time := { s.time with prefGood := n } }
  else s

/-- SYNC_RECEIVED (R48). -/
def execSyncReceived (lanB : Bool) (m : SyncSample) (s : State) : Host.Outcome State Fault Refusal :=
  .next (syncReceivedEff lanB m s)

/-- Eight Sync intervals without valid Sync (R50, R69, R493): HOLD, no LOCK, a network measurement fails, and the servo
changes to the other LAN's domain. (DEDUCED, log 147) -/
def syncHoldoverEff (s : State) : State :=
  if s.servoSource = 0 || s.on F.TCK_STAT_HOLD then s
  else
    let t := ((s.setF F.TCK_STAT_HOLD 1).setF F.TCK_STAT_LOCK 0).lockEvent
    let t : State := { t with time := { t.time with good := 0, wild := 0 } }
    let t := if t.measNet then t.measFail 2 else t
    if s.servoSource = 1 then { t with time := { t.time with domB := !t.time.domB, prefGood := 0 } } else t

/-- SYNC_HOLDOVER (R50). -/
def execSyncHoldover (s : State) : Host.Outcome State Fault Refusal := .next (syncHoldoverEff s)

/-- A write to RTC_CTL (R77, R50, R71): without NETSYNC a network measurement has lost its reference.
(DEDUCED, log 147) -/
def State.writeRtcCtl (s : State) (v : Word) : State :=
  let t := s.sourceChanged (s.writeFields Reg.RTC_CTL v)
  let t := if t.measNet && !t.on F.RTC_CTL_NETSYNC then t.measFail 2 else t
  t.autoStart

/-- RTC_CTL_WRITE (R77). -/
def rtcCtlWriteEff (x : HPort) (v : Word) (s : State) : State := s.asWrite x 4 (s.writeRtcCtl v)

/-- RTC_CTL_WRITE (R77). -/
def execRtcCtlWrite (x : HPort) (v : Word) (s : State) : Host.Outcome State Fault Refusal := .next (rtcCtlWriteEff x v s)

/-- A write to CLK_TIN (R666, R50). -/
def State.writeClkTin (s : State) (v : Word) : State := s.sourceChanged (s.writeFields Reg.CLK_TIN v)

/-- CLK_TIN_WRITE (R666). -/
def clkTinWriteEff (x : HPort) (v : Word) (s : State) : State := s.asWrite x 1 (s.writeClkTin v)

/-- CLK_TIN_WRITE (R666). -/
def execClkTinWrite (x : HPort) (v : Word) (s : State) : Host.Outcome State Fault Refusal := .next (clkTinWriteEff x v s)

/-! ## Reading the count (R53, R84) -/

/-- The count at the next base-tick boundary: the end of the join gap that runs; after a step inside a frame the old frame's
boundaries follow at 125 µs, counted from the step and each rounded up to a unit of the count (R42, R58, R59).
(DESIGN CHOICE, log 151) -/
def State.nextTick (s : State) : Nat :=
  match s.time.gap, s.time.oldFrame with
  | some (n, _), _ => n
  | none, some (sec, frac, j) => sec.toNat * 2 ^ 32 + frac.toNat + ceilDiv ((j + 1) * 2 ^ 32) 8000
  | none, none => tickStart s.time.frameSec.toNat (s.rf F.TCK_CUR_FIDX * 8 + s.rf F.TCK_CUR_TICK + 1)

/-- The count moves on by `adv` units, short of the next base tick while the tick generator runs. -/
def State.advance (s : State) (adv : Nat) : State :=
  if s.on F.TCK_STAT_RUN then s.setCount (max s.count (min (s.count + adv) (s.nextTick - 1))) else s.setCount (s.count + adv)

/-- What a 1PPS edge tells the servo (R648): RTC_FRAC as a signed number is the offset from a whole second, and a step moves the
count at the next base-tick boundary by it. The offset in nanoseconds is rounded in an open way. (DESIGN CHOICE, log 152) -/
def State.ppsSample (s : State) : SyncSample :=
  let z := signedOf 32 s.time.frac.toNat
  let n := (Int.ofNat (if s.on F.TCK_STAT_RUN then s.nextTick else s.count) - z).toNat
  { offset := z * 1000000000 / 2 ^ 32 + (if z * 1000000000 % 2 ^ 32 = 0 then 0 else Int.ofNat (s.freeVal.toNat % 2))
    sec := BitVec.ofNat 48 (n / 2 ^ 32)
    frac := wd (n % 2 ^ 32) }

/-- A 1PPS edge on the TIN input, `adv` units of 2^-32 s after the count was last seen, while the servo follows it (R648): the
servo takes its offset as from Sync. -/
def tinPpsEdgeEff (adv : Nat) (s : State) : State :=
  let t := s.advance adv
  if t.servoSource = 2 then t.useFree.servoTake t.ppsSample else t

/-- TIN_PPS_EDGE (R648). -/
def execTinPpsEdge (adv : Nat) (s : State) : Host.Outcome State Fault Refusal := .next (tinPpsEdgeEff adv s)

/-- Copy RTC_SEC into a port's snapshot (R53). (DEDUCED, log 22) -/
def State.snapSec (s : State) (x : HPort) : State :=
  match x with
  | .hp0 => { s with time := { s.time with snap0 := s.time.sec } }
  | .hp1 => { s with time := { s.time with snap1 := s.time.sec } }

/-- A port's snapshot of RTC_SEC (R53). -/
def State.secSnap (s : State) : HPort → BitVec 48
  | .hp0 => s.time.snap0
  | .hp1 => s.time.snap1

/-- A read of RTC_FRAC, `adv` units of 2^-32 s after the count was last seen (R53). -/
def rtcFracReadEff (x : HPort) (adv : Nat) (s : State) : State :=
  let t := s.advance adv
  (t.snapSec x).showRead x Reg.RTC_FRAC 4 t.time.frac

/-- RTC_FRAC_READ (R53). -/
def execRtcFracRead (x : HPort) (adv : Nat) (s : State) : Host.Outcome State Fault Refusal := .next (rtcFracReadEff x adv s)

/-- Copy the second of the current frame into a port's TCK_FSECL (R84). (DEDUCED, log 22) -/
def State.snapFrameSec (s : State) (x : HPort) : State :=
  let v := wd (s.time.frameSec.toNat % 2 ^ 32)
  match x with
  | .hp0 => { s with time := { s.time with fsec0 := v } }
  | .hp1 => { s with time := { s.time with fsec1 := v } }

/-- A port's TCK_FSECL. -/
def State.frameSecSnap (s : State) : HPort → Word
  | .hp0 => s.time.fsec0
  | .hp1 => s.time.fsec1

/-- A read of TCK_CUR (R84). -/
def tckCurReadEff (x : HPort) (s : State) : State :=
  (s.snapFrameSec x).showRead x Reg.TCK_CUR 4 (s.reg Reg.TCK_CUR)

/-- TCK_CUR_READ (R84). -/
def execTckCurRead (x : HPort) (s : State) : Host.Outcome State Fault Refusal := .next (tckCurReadEff x s)

/-! ## Staged time (R54 to R57) -/

/-- GO: the staging registers are copied, or the write is refused while NETSYNC is 1 (R54 to R56). A copy replaces one that waits,
a step of the servo included. (DESIGN CHOICE, log 149) -/
def State.setTimeGo (s : State) (x : HPort) : State :=
  if s.on F.RTC_CTL_NETSYNC then s.setF F.RTC_SETCTL_REFUSED 1
  else
    let t := s.setF F.RTC_SETCTL_PEND 1
    let v : BitVec 48 × Word × Nat :=
      (BitVec.ofNat 48 ((s.reg Reg.RTC_SETSECL).toNat + s.rf F.RTC_SETSECH_SEC * 2 ^ 32), s.reg Reg.RTC_SETFRAC, x.num)
    { t with time := { t.time with staged := some v } }

/-- SET_TIME_GO (R54). -/
def setTimeGoEff (x : HPort) (s : State) : State := s.asWrite x 4 (s.setTimeGo x)

/-- SET_TIME_GO (R54). -/
def execSetTimeGo (x : HPort) (s : State) : Host.Outcome State Fault Refusal := .next (setTimeGoEff x s)

/-! ## Trim and measurement (R67 to R71) -/

/-- The trim in force as a signed number. -/
def State.trim (s : State) : Int := signedOf 30 (s.rf F.RTC_TRIM_TRIM)

/-- A new trim takes effect, with event 0x0404 when it changes (R76); a negative trim stands sign-extended in the event.
(DESIGN CHOICE, log 153) -/
def State.setTrim (s : State) (z : Int) (source : Nat) : State :=
  let old := s.trim
  let t := s.setF F.RTC_TRIM_TRIM (unsignedOf 30 z)
  if old = z then t else t.report 0x0404 0 (wdInt old) (wdInt z) (wd source)

/-- A host write to RTC_TRIM (R67, R71). -/
def State.writeTrim (s : State) (v : Word) : State :=
  if s.autoTrim then s
  else
    let z := signedOf 30 (fieldOf v 29 0)
    if z.natAbs ≤ 268435 then s.setTrim z 0 else s.badVal

/-! ## The always-on domain (R72 to R75) -/

/-- A cause sets OSF; event 0x0403 follows at once, or at the next start (R72). -/
def State.osfCause (s : State) (bit : Nat) : State :=
  let was := s.on (regBit Reg.RTC_STAT bit)
  let t := (s.setF (regBit Reg.RTC_STAT bit) 1).setF F.RTC_STAT_OSF 1
  if was then t
  else if t.evr.running then t.report 0x0403 0 (wd (2 ^ (bit - 1))) 0 0
  else { t with time := { t.time with osfLate := withBit t.time.osfLate (bit - 1) true } }

/-- OSCILLATOR_STOP (R72): the 32.768 kHz oscillator stopped for 4 ms or longer. -/
def execOscillatorStop (s : State) : Host.Outcome State Fault Refusal := .next (s.osfCause 2)

/-- VBAK_BELOW_RETENTION (R72). -/
def execVbakBelowRetention (s : State) : Host.Outcome State Fault Refusal := .next (s.osfCause 3)

/-- The correction the module measures goes into RTC_KCORR, within its range (R75, R81). -/
def kcorrUpdateEff (corr : Int) (s : State) : State :=
  if s.time.keep then s else s.setReg Reg.RTC_KCORR (wdInt (clampInt (-2147483) 2147483 corr))

/-- KCORR_UPDATE (R75). -/
def execKcorrUpdate (corr : Int) (s : State) : Host.Outcome State Fault Refusal := .next (kcorrUpdateEff corr s)

/-- The second that the count reaches next in Keep state. A correction of R74 that has just taken the count back below a second does
not make it roll over there again. (DEDUCED, log 169) -/
def State.keepNext (s : State) : Nat := (s.count + (if s.time.rolled then 2 ^ 22 else 0)) / 2 ^ 32 + 1

/-- In Keep state the count reaches the next second in steps of 2^17 units, and RTC_KCORR is added to it (R74). -/
def keepSecondRolloverEff (s : State) : State :=
  if !s.time.keep then s
  else
    let whole := s.keepNext * 2 ^ 32 + s.time.frac.toNat % 2 ^ 17
    let t := s.setCount (Int.ofNat whole + signedOf 32 (s.reg Reg.RTC_KCORR).toNat).toNat
    { t with time := { t.time with rolled := true } }

/-- The count after `n` more oscillator cycles of a Keep period inside a second (R74). -/
def State.keepCycles (s : State) (n : Nat) : State :=
  s.setCount (s.count + min n ((s.keepNext * 2 ^ 32 - 1 - s.count) / 2 ^ 17) * 2 ^ 17)

/-- KEEP_SECOND_ROLLOVER (R74). -/
def execKeepSecondRollover (s : State) : Host.Outcome State Fault Refusal := .next (keepSecondRolloverEff s)

end Sys2Proof.Machine
end

