-- ==== Sys2Proof/Machine/Queues.lean ====
section
/-! DEFINITION. The commands of the queue pool: writing and reading packets, errors, flushes, the queue configuration and
the ring commands on queues (chapter "The Drift Queue Pool"); and the frame every CFG_LOAD shares (R158, R689). -/

namespace Sys2Proof.Machine

/-! ## Staged data (R179, R188) -/

/-- Complete the commands whose data has left a staging queue. (DEDUCED, log 37) -/
def State.endStaged (s : State) (status : Nat) (ps : List Pkt) : State :=
  ps.foldl (fun t k => match k.op with
    | some (x, p, id) => t.completeLate x p.val id status 0 0
    | none => t) s

/-- The consumer reads the head packet; the command whose staged packet fails completes with MEDIA_ERROR (R188). -/
def State.takePkt (s : State) (q : Nat) : Option Pkt × State :=
  match s.dequeue q with
  | (some k, t) => (some k, t)
  | (none, t) => (none, t.endStaged St.mediaError ((s.queue q).take 1))

/-- The queues a staged packet is for: it names its transmit queue in `src`, and 1024 + c stands for the riser transmit queues
of class c on which the module's own frame leaves. -/
def State.stageTargets (s : State) (k : Pkt) : List Nat :=
  if k.src < 1024 then [k.src] else s.ownQueues (k.src - 1024) k.data

/-- Hand a staged packet to its transmit queues. -/
def State.unstage (s : State) (k : Pkt) : State :=
  let p := { k with op := none, frame := s.frameNo }
  if k.src < 1024 then (s.enqueue k.src p).2 else s.sendOwn (k.src - 1024) p

/-- Move packets from a staging queue to the transmit queues they are for, in order, while those accept them: each
command completes as its data leaves (R179). (DESIGN CHOICE, log 42) -/
def State.moveStaged (s : State) (q : Nat) : Nat → State
  | 0 => s
  | n + 1 =>
    match s.queue q with
    | [] => s
    | k :: _ =>
      if k.ecc != 2 && (s.stageTargets k).any (fun t => (s.allocRefused t k.cells).isSome) then s
      else
        match s.takePkt q with
        | (none, t) => t.moveStaged q n
        | (some k, t) => ((t.unstage k).endStaged St.success [k]).moveStaged q n

/-- Stage the data of a transmit command for a target queue (R179). Where the partition's own quota is exhausted the command ends
with NO_SPACE; where only the cells shared by all partitions are, it is not started yet (R155). (DESIGN CHOICE, log 42) -/
def State.stage (s : State) (x : HPort) (p : Part) (id target : Nat) (data : List Byte) : CmdEnd :=
  let q := stagingQueue x p
  let k : Pkt := { mkPkt data target 0 s.frameNo with op := some (x, p, id) }
  if s.allocRefused q k.cells = some 1 then .later
  else
    match s.enqueue q k with
    | (false, t) => .done t St.noSpace 0 0
    | (true, t) => .wait (t.moveStaged q (t.queue q).length)

/-- A write of an operator on a tenant's object is audited once the command has taken effect or waits for it (R115). -/
def CmdEnd.audited (e : CmdEnd) (p tag cls i code : Nat) : CmdEnd :=
  match e with
  | .done t st r0 r1 => .done (if st = St.success then t.audit p tag cls i code else t) st r0 r1
  | .wait t => .wait (t.audit p tag cls i code)
  | e => e

/-! ## Writing and reading -/

/-- A producer writes a packet into queue `q` (R183); a receive queue takes frames as R168 gives. -/
def packetWriteEff (q : Fin 1024) (data : List Byte) (src : Nat) (s : State) : State :=
  let k := mkPkt data src 0 s.frameNo
  if q.val < 256 then (s.toHost (if q.val < 128 then .hp0 else .hp1) (q.val % 128) k).2
  else (s.enqueue q k).2

/-- PACKET_WRITE (R183). -/
def execPacketWrite (q : Fin 1024) (data : List Byte) (src : Nat) (s : State) : Host.Outcome State Fault Refusal :=
  .next (packetWriteEff q data src s)

/-- Whether PTX consumes the queue (R179). -/
def pointQueue (q : Nat) : Bool := (256 ≤ q && q < 320) || q = 416 || q = 417

/-- Keep a packet that PTX has read for the next latch. -/
def State.toInbox (s : State) (q : Nat) (k : Pkt) : State :=
  { s with ptx := { s.ptx with inbox := s.ptx.inbox ++ [(q, k)] } }

/-! ## Errors (R188, R189) -/

/-- Whether a MAC, a CAN controller or an RS-485 port sends from the queue (R179). -/
def sendQueue (q : Nat) : Bool := (320 ≤ q && q < 416) || (420 ≤ q && q < 432)

/-- Another packet may have become the head of a receive queue: its hold time and its drop (R167). -/
def State.newHead (s : State) (q : Nat) : State :=
  if q < 128 then s.headArrives .hp0 q ((s.queue q).length + 1)
  else if q < 256 then s.headArrives .hp1 (q % 128) ((s.queue q).length + 1)
  else s

/-- The packet at position `pos` of queue `q` is dropped for a cell that failed (R188): its command ends with MEDIA_ERROR, a
transmission of the head packet that has begun ends with a bad FCS or CRC, and a new head of a receive queue is looked at. -/
def State.dropPoisoned (s : State) (q pos cell : Nat) (begun : Bool) (k : Pkt) : State :=
  let t := (s.poison q pos cell).endStaged St.mediaError [k]
  let t := if begun && pos = 0 && sendQueue q then t.emit (.badFcs q k.data) else t
  if pos = 0 then t.newHead q else t

/-- A link word of queue `q` fails: the queue is flushed, the cell retired, and the `lost` cells it made unreachable are
in the audit (R189). -/
def linkWordErrorEff (q : Fin 1024) (cell lost : Nat) (s : State) : State :=
  if s.queue q = [] then s
  else
    let n := min lost (s.fill q - 1)
    let t := (s.flushNow q).endStaged St.mediaError (s.queue q)
    let t := t.report 0x0801 0 (wd cell) (wd q) 1
    let t := t.retireCell
    let old := match t.pool.audit with
      | some a => a.1
      | none => 0
    ({ t with pool := { t.pool with audit := some (old + n, q.val) } }).setF F.QPL_STAT_AUDIT 1

/-- LINK_WORD_ERROR (R189). -/
def execLinkWordError (q : Fin 1024) (cell lost : Nat) (s : State) : Host.Outcome State Fault Refusal :=
  .next (linkWordErrorEff q cell lost s)

/-- The background audit ends (R189). -/
def linkAuditCompleteEff (s : State) : State :=
  match s.pool.audit with
  | none => s
  | some (n, q) =>
    (({ s with pool := { s.pool with audit := none } }).setF F.QPL_STAT_AUDIT 0).report 0x0804 0 (wd n) (wd q) 0

/-- LINK_AUDIT_COMPLETE (R189). -/
def execLinkAuditComplete (s : State) : Host.Outcome State Fault Refusal := .next (linkAuditCompleteEff s)

/-! ## Flush (R191, R192) -/

/-- A write of FLUSH to QPL_QSTAT[q] (R191). -/
def queueFlushEff (x : HPort) (q : Fin 1024) (s : State) : State := s.asWrite x 8 (s.requestFlush q)

/-- QUEUE_FLUSH (R191). -/
def execQueueFlush (x : HPort) (q : Fin 1024) (s : State) : Host.Outcome State Fault Refusal := .next (queueFlushEff x q s)

/-- The producer's packet boundary: the packets that were there at the request are removed, FLUSHED is set, and every
requester sees it (R191, R192). (DEDUCED, log 37) -/
def queueFlushCompleteEff (q : Fin 1024) (s : State) : State :=
  if !s.flushRuns q then s
  else
    let n := s.flushLeft q
    let gone := (s.queue q).take n
    let t := s.setQueue q ((s.queue q).drop n)
    let ops := t.pool.flushOps.filter (fun e => e.1 = q.val)
    let t : State := { t with pool := { t.pool with
      flushing := t.pool.flushing.filter (fun e => e.1 != q.val)
      flushOps := t.pool.flushOps.filter (fun e => e.1 != q.val) } }
    let t := (t.setF (F.QPL_QSTAT_FLUSHED q) 1).endStaged St.success gone
    let t := if n = 0 then t else t.newHead q
    ops.foldl (fun t e => t.completeLate e.2.1 e.2.2.1 e.2.2.2 St.success 0 0) t

/-- QUEUE_FLUSH_COMPLETE (R191). -/
def execQueueFlushComplete (q : Fin 1024) (s : State) : Host.Outcome State Fault Refusal :=
  .next (queueFlushCompleteEff q s)

/-- Q_FLUSH's body (R195): it completes when FLUSHED is set. -/
def qFlushBody (x : HPort) (p : Part) (d : Desc) (s : State) (id : Nat) : CmdEnd :=
  let q := fieldOf d.w2 9 0
  let st := s.filterWrite p (some (s.queueTag q)) Cls.queue q
  if st != St.success then .refuse s Cls.queue q st
  else
    let t := (s.requestFlush q).audit p (s.queueTag q) Cls.queue q 0x10
    if t.flushRuns q then
      .wait { t with pool := { t.pool with flushOps := t.pool.flushOps ++ [(q, x, p, id)] } }
    else .done t St.success 0 0

/-- Q_FLUSH (R195). -/
def qFlushEff (x : HPort) (p : Part) (d : Desc) (s : State) : State :=
  s.command x p d (d.opcode = 0x10) (d.clean 0x3FF 0 0 0 0 0) true false (qFlushBody x p d)

/-- Q_FLUSH (R195). -/
def execQFlush (x : HPort) (p : Part) (d : Desc) (s : State) : Host.Outcome State Fault Refusal :=
  .next (qFlushEff x p d s)

/-- Q_STAT's body (R195). -/
def qStatBody (p : Part) (d : Desc) (s : State) (_id : Nat) : CmdEnd :=
  let q := fieldOf d.w2 9 0
  let clr := fieldOf d.w2 31 31 = 1
  let tag := some (s.queueTag q)
  let st := if clr then s.filterWrite p tag Cls.queue q else s.filterRead p tag Cls.queue q
  if st != St.success then .refuse s Cls.queue q st
  else
    let t := if clr then (s.setF (F.QPL_QSTAT_OVR q) 0).audit p (s.queueTag q) Cls.queue q 0x11 else s
    .done t St.success (wd (s.fill q)) (wd (fieldOf (s.qstat q) 2 0))

/-- Q_STAT (R195). -/
def qStatEff (x : HPort) (p : Part) (d : Desc) (s : State) : State :=
  s.command x p d (d.opcode = 0x11) (d.clean 0x800003FF 0 0 0 0 0) true false (qStatBody p d)

/-- Q_STAT (R195). -/
def execQStat (x : HPort) (p : Part) (d : Desc) (s : State) : Host.Outcome State Fault Refusal :=
  .next (qStatEff x p d s)

/-! ## Error injection (R197) -/

/-- A write to QPL_CTL (R197). -/
def State.writeQplCtl (s : State) (v : Word) : State :=
  let t := s.writeFields Reg.QPL_CTL v
  let q := t.rf F.QPL_CTL_INJQ
  { t with pool := { t.pool with
      injC := if fieldOf v 0 0 = 1 then some q else t.pool.injC
      injU := if fieldOf v 1 1 = 1 then some q else t.pool.injU } }

/-- INJC with INJQ = `q` (R197). -/
def injectCorrectableEff (x : HPort) (q : Fin 1024) (s : State) : State :=
  s.asWrite x 8 (s.writeQplCtl (wd (q.val * 64 + 1)))

/-- INJECT_CORRECTABLE (R197). -/
def execInjectCorrectable (x : HPort) (q : Fin 1024) (s : State) : Host.Outcome State Fault Refusal :=
  .next (injectCorrectableEff x q s)

/-- INJU with INJQ = `q` (R197). -/
def injectUncorrectableEff (x : HPort) (q : Fin 1024) (s : State) : State :=
  s.asWrite x 8 (s.writeQplCtl (wd (q.val * 64 + 2)))

/-- INJECT_UNCORRECTABLE (R197). -/
def execInjectUncorrectable (x : HPort) (q : Fin 1024) (s : State) : Host.Outcome State Fault Refusal :=
  .next (injectUncorrectableEff x q s)

/-! ## Configuration images (R157, R158, R689) -/

/-- RESULT0 of an accepted image, and of a fault that names no entry. -/
def allOnes : Word := 0xFFFFFFFF

/-- A rejected image (R162). -/
def rejected (s : State) (r0 r1 : Word) : CmdEnd := .done s St.rejected r0 r1

/-- An accepted image (R156). -/
def accepted (s : State) : CmdEnd := .done s St.success allOnes 0

/-- CFG_LOAD's body: the image is read, its CRC compared, and only then looked at (R158). -/
def cfgBody (x : HPort) (p : Part) (d : Desc) (body : List Word → State → Nat → CmdEnd) (s : State) (id : Nat) : CmdEnd :=
  match s.dmaRead x p d.addr d.len with
  | (none, t) => .done t St.dmaError 0 0
  | (some bs, t) =>
    if crc32 bs = d.w7 then body (wordsOf bs) t id else .done t St.verifyFail (crc32 bs) 0

/-- CFG_LOAD of one TYPE; `lenOk` says which LEN an image of the TYPE can have (R689). -/
def State.cfgLoad (s : State) (x : HPort) (p : Part) (d : Desc) (ty : Nat) (lenOk fitted : Bool)
    (body : List Word → State → Nat → CmdEnd) : State :=
  s.command x p d (d.opcode = 0x30 && fieldOf d.w2 7 0 = ty) (d.buf 0xFF 0 allBits 0 (2 ^ 32) && lenOk) fitted true
    (cfgBody x p d body)

/-- The words of queue `q` in a queue configuration image. -/
def queueWords (ws : List Word) (q : Nat) : Word × Word := (ws.getD (2 * q) 0, ws.getD (2 * q + 1) 0)

/-- The per-queue cases of R180 that reject an image. -/
def queueBad (q : Nat) (w : Word × Word) : Bool :=
  let tag := fieldOf w.2 22 16
  w.2.toNat != tag * 2 ^ 16 || fieldOf w.1 31 16 < fieldOf w.1 15 0
    || (!queueHasRole q && fieldOf w.1 31 16 != 0)
    || ((q < 256 || (512 ≤ q && q < 768)) && tag != q % 128)

/-- The queue configuration image (R180). -/
def queueCfgBody (ws : List Word) (s : State) (_id : Nat) : CmdEnd :=
  match (List.range 1024).find? (fun q => queueBad q (queueWords ws q)) with
  | some q => rejected s (wd q) 0
  | none =>
    if 65536 < sumQueues (fun q => fieldOf (queueWords ws q).1 15 0) + s.rf F.QPL_RETIRED_CNT then
      rejected s 0xFFFFFFFE 0
    else accepted { s with pool := { s.pool with cfgPend := some ws }, twn := { s.twn with crc09 := crc32Words ws } }

/-- CFG_LOAD of a queue configuration (R180). -/
def cfgLoadQueueConfigurationEff (x : HPort) (p : Part) (d : Desc) (s : State) : State :=
  s.cfgLoad x p d 0x09 (d.len = 8192) true queueCfgBody

/-- CFG_LOAD_QUEUE_CONFIGURATION (R180). -/
def execCfgLoadQueueConfiguration (x : HPort) (p : Part) (d : Desc) (s : State) : Host.Outcome State Fault Refusal :=
  .next (cfgLoadQueueConfigurationEff x p d s)

/-- An accepted queue configuration takes effect; SHORT and the withdrawals end with it (R181, R190). -/
def queueConfigurationApplyEff (s : State) : State :=
  match s.pool.cfgPend with
  | none => s
  | some ws =>
    let t := forUpto 1024 s (fun q t =>
      (t.setReg (Reg.QPL_QCFG q) (queueWords ws q).1).setF (F.QPL_QATTR_TAG q) (fieldOf (queueWords ws q).2 22 16))
    let t : State := { t with pool := { t.pool with cfgPend := none, guarBelow := 1024 } }
    (t.setF F.QPL_STAT_SHORT 0).shortfall

/-- QUEUE_CONFIGURATION_APPLY (R181). -/
def execQueueConfigurationApply (s : State) : Host.Outcome State Fault Refusal := .next (queueConfigurationApplyEff s)

end Sys2Proof.Machine
end

