-- ==== Sys2Proof/Machine/Display.lean ====
section
/-! DEFINITION. The display outputs: regions, waveform tables, updates, display frames and panel power (chapter
"Electrophoretic Display Outputs"). -/

namespace Sys2Proof.Machine

/-- Whether the variant has display outputs (R559). -/
def State.hasDisplay (s : State) : Bool := !s.variant.lacks 19

/-- Replace the display state. -/
def State.setDsp (s : State) (d : DspSt) : State := { s with dsp := d }

/-- A panel's power sequence. -/
def State.panel (s : State) (n : Nat) : DspPanel := Store.get DspPanel.dflt s.dsp.panels n

/-- Replace it. -/
def State.setPanel (s : State) (n : Nat) (p : DspPanel) : State :=
  s.setDsp { s.dsp with panels := Store.put DspPanel.dflt s.dsp.panels n p }

/-- A pixel by its key. -/
def State.pixel (s : State) (k : Nat) : Pixel := Store.get Pixel.dflt s.dsp.pixels k

/-- Replace it. -/
def State.setPixel (s : State) (k : Nat) (p : Pixel) : State :=
  s.setDsp { s.dsp with pixels := Store.put Pixel.dflt s.dsp.pixels k p }

/-- The key of a pixel: panel, row and column. -/
def pixKey (n row col : Nat) : Nat := n * 2 ^ 22 + row * 2 ^ 11 + col

/-- The panel a key belongs to. -/
def keyPanel (k : Nat) : Nat := k / 2 ^ 22
/-- The row of a key. -/
def keyRow (k : Nat) : Nat := k / 2 ^ 11 % 2 ^ 11
/-- The column of a key. -/
def keyCol (k : Nat) : Nat := k % 2 ^ 11

/-- Set a bit of DSP_STAT (R577). -/
def State.raiseDsp (s : State) (bit : Nat) : State := s.raise Reg.DSP_STAT Reg.DSP_IEN 19 bit

/-- DSP_PSTAT[n].STATE: 0 OFF, 1 IDLE, 2 POWERUP, 3 DRIVE, 4 POWERDOWN, 5 FAULT (R573). -/
def State.panelState (s : State) (n : Nat) : Nat := s.rf (F.DSP_PSTAT_STATE n)

/-- A panel changes state (R576). -/
def State.panelMove (s : State) (n st : Nat) : State :=
  if s.panelState n = st then s
  else
    let t := s.setF (F.DSP_PSTAT_STATE n) st
    (t.report 0x1301 0 (wd n) (wd st) (wd (t.rf (F.DSP_PSTAT_FCODE n)))).raiseDsp 0

/-- Drive the power signals of a panel. -/
def State.panelPower (s : State) (n : Nat) (pwren vcomen : Bool) : State :=
  let p := s.panel n
  let t := s.setPanel n { p with pwren := pwren, vcomen := vcomen, good := p.good && pwren }
  if p.pwren = pwren && p.vcomen = vcomen then t else t.emit (.panelPower n pwren vcomen)

/-! ## Regions (R567) -/

/-- Word `w` of region `r` in a table. -/
def regionWord (ws : List Word) (r w : Nat) : Word := ws.getD (2 * r + w) 0
/-- The region exists. -/
def regionValid (ws : List Word) (r : Nat) : Bool := fieldOf (regionWord ws r 0) 31 31 = 1
/-- Partition tag. -/
def regionTag (ws : List Word) (r : Nat) : Nat := fieldOf (regionWord ws r 0) 30 24
/-- Panel. -/
def regionPanel (ws : List Word) (r : Nat) : Nat := fieldOf (regionWord ws r 0) 23 23
/-- Top row. -/
def regionY (ws : List Word) (r : Nat) : Nat := fieldOf (regionWord ws r 0) 21 11
/-- Left column. -/
def regionX (ws : List Word) (r : Nat) : Nat := fieldOf (regionWord ws r 0) 10 0
/-- Rows. -/
def regionH (ws : List Word) (r : Nat) : Nat := fieldOf (regionWord ws r 1) 26 16
/-- Columns. -/
def regionW (ws : List Word) (r : Nat) : Nat := fieldOf (regionWord ws r 1) 10 0

/-- The keys of a region's pixels in row-major order. -/
def regionKeys (ws : List Word) (r : Nat) : List Nat :=
  (List.range (regionH ws r)).flatMap (fun y => (List.range (regionW ws r)).map (fun x =>
    pixKey (regionPanel ws r) (regionY ws r + y) (regionX ws r + x)))

/-- Two regions share a pixel. -/
def regionsOverlap (ws : List Word) (a b : Nat) : Bool :=
  regionPanel ws a = regionPanel ws b
    && regionX ws a < regionX ws b + regionW ws b && regionX ws b < regionX ws a + regionW ws a
    && regionY ws a < regionY ws b + regionH ws b && regionY ws b < regionY ws a + regionH ws a

/-- Whether a region of an image breaks a rule of R567. (DEDUCED, log 90) -/
def State.regionBad (s : State) (ws : List Word) (r : Nat) : Bool :=
  fieldOf (regionWord ws r 1) 31 27 != 0 || fieldOf (regionWord ws r 1) 15 11 != 0 ||
  (regionValid ws r &&
    (regionX ws r % 8 != 0 || regionH ws r = 0 || regionW ws r % 8 != 0 || regionW ws r = 0
      || 8 * s.rf (F.DSP_PCFG_HW (regionPanel ws r)) < regionX ws r + regionW ws r
      || s.rf (F.DSP_PCFG_VRES (regionPanel ws r)) < regionY ws r + regionH ws r
      || (List.range r).any (fun q => regionValid ws q && regionsOverlap ws q r)))

/-- Whether a region's existence, PANEL, X, Y, W, H or TAG differs between two tables. -/
def regionChanged (a b : List Word) (r : Nat) : Bool :=
  regionValid a r != regionValid b r ||
  (regionValid b r && (withField (regionWord a r 0) 22 22 0 != withField (regionWord b r 0) 22 22 0
    || regionWord a r 1 != regionWord b r 1))

/-- Whether a region has a waveform in progress or an update waiting. -/
def State.regionBusy (s : State) (r : Nat) : Bool :=
  s.dsp.upds.any (fun u => u.region = r) ||
  (regionValid s.dsp.regions r && (regionKeys s.dsp.regions r).any (fun k => (s.pixel k).wave.isSome || (s.pixel k).next.isSome))

/-- The table in force or waiting. -/
def State.lastRegions (s : State) : List Word := s.dsp.regPend.getD s.dsp.regions

/-- The region table's image (R567). -/
def regionBody (ws : List Word) (s : State) (_id : Nat) : CmdEnd :=
  match (List.range 64).find? (fun r => s.regionBad ws r) with
  | some r => rejected s (wd r) 0
  | none =>
    if (List.range 64).any (fun r => regionChanged s.lastRegions ws r && s.regionBusy r) then .done s St.busy 0 0
    else accepted (s.setDsp { s.dsp with regPend := some ws })

/-- CFG_LOAD of the region table (R567). -/
def cfgLoadRegionTableEff (x : HPort) (p : Part) (d : Desc) (s : State) : State :=
  s.cfgLoad x p d 0x07 (d.len = 512) s.hasDisplay regionBody

/-- CFG_LOAD_REGION_TABLE (R567). -/
def execCfgLoadRegionTable (x : HPort) (p : Part) (d : Desc) (s : State) : Host.Outcome State Fault Refusal :=
  .next (cfgLoadRegionTableEff x p d s)

/-- An accepted table takes effect: the pixels of changed regions take ULVL as their stored level and become unknown (R567).
(DEDUCED, log 90) -/
def State.applyRegions (s : State) : State :=
  match s.dsp.regPend with
  | none => s
  | some ws =>
    let old := s.dsp.regions
    let t := (s.setDsp { s.dsp with regions := ws, regPend := none }).setReg Reg.DSP_RGCRC (crc32Words ws)
    forUpto 64 t (fun r t =>
      if regionValid ws r && regionChanged old ws r then
        (regionKeys ws r).foldl (fun t k => t.setPixel k { t.pixel k with
          tgt := t.rf (F.DSP_PCFG_ULVL (regionPanel ws r))
          level := none }) t
      else t)

/-! ## Waveform tables (R565, R566) -/

/-- The waveform image of a panel. (DEDUCED, log 91) -/
def State.waveform (s : State) (n : Nat) : List Word := Store.get noWordList s.dsp.waves n

/-- The number of bands of an image; 0 without one. -/
def waveBands (ws : List Word) : Nat := fieldOf (ws.getD 0 0) 4 0

/-- Half-word `h` of an image. -/
def waveHalf (ws : List Word) (h : Nat) : Nat := fieldOf (ws.getD (h / 2) 0) (16 * (h % 2) + 15) (16 * (h % 2))

/-- The word at which the entry for levels `a` to `c` of band `b` begins. -/
def waveAt (b a c : Nat) : Nat := 9 + 4352 * b + 17 * (16 * a + c)

/-- LEN of an entry. -/
def waveLen (ws : List Word) (b a c : Nat) : Nat := fieldOf (ws.getD (waveAt b a c) 0) 7 0

/-- Phase code `k` of an entry. -/
def wavePhase (ws : List Word) (b a c k : Nat) : Nat :=
  fieldOf (ws.getD (waveAt b a c + 1 + k / 16) 0) (2 * (k % 16) + 1) (2 * (k % 16))

/-- The faults of an entry that begins at word `w`: reserved bits of LEN, and codes beyond LEN, by byte offset. -/
def entryFault (ws : List Word) (w : Nat) : Option Nat :=
  let n := fieldOf (ws.getD w 0) 7 0
  if fieldOf (ws.getD w 0) 31 8 != 0 then some (4 * w + 1)
  else ((List.range (256 - n)).find? (fun j =>
      fieldOf (ws.getD (w + 1 + (n + j) / 16) 0) (2 * ((n + j) % 16) + 1) (2 * ((n + j) % 16)) != 0)).map
    (fun j => 4 * w + 4 + (n + j) / 4)

/-- The byte offset of the first offending field of a waveform image (R565). (DEDUCED, log 91) -/
def waveFault (ws : List Word) : Option Nat :=
  let w0 := ws.getD 0 0
  let nb := waveBands ws
  if nb < 1 || 16 < nb || ws.length != 9 + 4352 * nb then some 0
  else if fieldOf w0 7 5 != 0 then some 0
  else if fieldOf w0 23 9 != 0 then some 1
  else if fieldOf w0 31 24 != 1 then some 3
  else
    match (List.range 15).find? (fun i =>
        let v := waveHalf ws (2 + i)
        if i + 1 < nb then 4095 < v || (i != 0 && v ≤ waveHalf ws (1 + i)) else v != 0) with
    | some i => some (4 + 2 * i)
    | none =>
      if waveHalf ws 17 != 0 then some 34
      else (List.range (256 * nb)).findSome? (fun e => entryFault ws (9 + 17 * e))

/-- Whether a panel has a waveform in progress or an update waiting. -/
def State.panelBusy (s : State) (n : Nat) : Bool :=
  s.dsp.upds.any (fun u => u.panel = n) || s.dsp.pixels.any (fun e => keyPanel e.1 = n && (e.2.wave.isSome || e.2.next.isSome))

/-- The waveform image (R565). -/
def waveBody (ws : List Word) (s : State) (_id : Nat) : CmdEnd :=
  match waveFault ws with
  | some o => rejected s (wd o) 0
  | none =>
    let n := fieldOf (ws.getD 0 0) 8 8
    if s.panelBusy n then .done s St.busy 0 0
    else accepted (s.setDsp { s.dsp with wavePend := Store.put noWordList s.dsp.wavePend n ws })

/-- CFG_LOAD of waveform tables (R565). -/
def cfgLoadWaveformTablesEff (x : HPort) (p : Part) (d : Desc) (s : State) : State :=
  s.cfgLoad x p d 0x08 ((List.range 16).any (fun k => d.len = 36 + 17408 * (k + 1))) s.hasDisplay waveBody

/-- CFG_LOAD_WAVEFORM_TABLES (R565). -/
def execCfgLoadWaveformTables (x : HPort) (p : Part) (d : Desc) (s : State) : Host.Outcome State Fault Refusal :=
  .next (cfgLoadWaveformTablesEff x p d s)

/-- The current band: thresholds at or below the code, or DEFBAND while the thermistor is out of range (R566). -/
def State.currentBand (s : State) (n : Nat) : Nat :=
  let ws := s.waveform n
  let nb := waveBands ws
  if s.on (F.DSP_PSTAT_TFLT n) then min (s.rf (F.DSP_PCFG_DEFBAND n)) (nb - 1)
  else ((List.range (nb - 1)).filter (fun i => waveHalf ws (2 + i) ≤ s.rf (F.DSP_TEMP_CODE n))).length

/-- Show the current band. -/
def State.showBand (s : State) (n : Nat) : State := s.setF (F.DSP_PSTAT_BAND n) (s.currentBand n)

/-- An accepted waveform image takes effect (R565). -/
def State.applyWaves (s : State) (n : Nat) : State :=
  match Store.get noWordList s.dsp.wavePend n with
  | [] => s
  | ws =>
    let t := s.setDsp { s.dsp with waves := Store.put noWordList s.dsp.waves n ws
                                   wavePend := Store.put noWordList s.dsp.wavePend n [] }
    let t := t.setReg (Reg.DSP_WVCRC n) (crc32Words ws)
    (t.showBand n).report 0x1306 0 (wd n) (wd (waveBands ws)) (crc32Words ws)

/-- A thermistor sample (R566). (DEDUCED, log 94) -/
def thermistorSampleEff (n : Fin 2) (code : BitVec 12) (s : State) : State :=
  if !s.hasDisplay || s.inReset 19 then s
  else
    let v := code.toNat
    let bad := v < 16 || 4079 < v
    let t := s.setF (F.DSP_TEMP_CODE n) v
    let t :=
      if bad && !s.on (F.DSP_PSTAT_TFLT n) then
        ((t.setF (F.DSP_PSTAT_TFLT n) 1).raiseDsp 3).report 0x1305 0 (wd n) (wd v) 0
      else t.setF (F.DSP_PSTAT_TFLT n) (ofBool bad)
    t.showBand n

/-- THERMISTOR_SAMPLE (R566). -/
def execThermistorSample (n : Fin 2) (code : BitVec 12) (s : State) : Host.Outcome State Fault Refusal :=
  .next (thermistorSampleEff n code s)

/-! ## Power sequence (R573 to R575) -/

/-- End the waveforms of a panel and discard its waiting pixels: they become unknown, and commands that wait for their
update's start complete (R572, R573). (DEDUCED, log 92) -/
def State.endWaves (s : State) (n : Nat) : State :=
  let keys := (s.dsp.pixels.filter (fun e => keyPanel e.1 = n && (e.2.wave.isSome || e.2.next.isSome))).map (fun e => e.1)
  let us := s.dsp.upds.filter (fun u => u.panel = n)
  let t := keys.foldl (fun t k => t.setPixel k { t.pixel k with level := none, wave := none, next := none }) s
  let t := us.foldl (fun t u => match u.op with
    | some (x, p, id) =>
      let t := u.pixels.foldl (fun t e => t.setPixel e.1 { t.pixel e.1 with level := none }) t
      t.completeLate x p id St.success t.frameWords.1 0
    | none => t) t
  t.setDsp { t.dsp with upds := t.dsp.upds.filter (fun u => u.panel != n) }

/-- Enter FAULT with a code (R573, R575, R576). -/
def State.panelFault (s : State) (n code : Nat) : State :=
  let t := (s.setF (F.DSP_PSTAT_FCODE n) code).panelMove n 5
  if code = 1 then (t.report 0x1303 0 (wd n) (wd (t.rf (F.DSP_CRK_RES n))) (wd (t.rf (F.DSP_CRK_RMAX n)))).raiseDsp 1
  else (t.report 0x1304 0 (wd n) (wd code) 0).raiseDsp 2

/-- A power-down arrives at the state it leads to; FAULT keeps or takes its code. -/
def State.panelArrive (s : State) (n : Nat) : State :=
  match (s.panel n).goal with
  | 0 => (s.setF (F.DSP_PSTAT_FCODE n) 0).panelMove n 0
  | 5 => s.panelFault n 1
  | _ => s.panelMove n 1

/-- An update is waiting for the panel. -/
def State.updateWaits (s : State) (n : Nat) : Bool := s.dsp.upds.any (fun u => u.panel = n && u.band.isNone)

/-- Enter POWERUP (R573). No panel powers up while the power-fail sequence runs (R574). (DEDUCED, log 88) -/
def State.powerUp (s : State) (n : Nat) : State :=
  if s.on F.PWR_STAT_SEQ then s
  else
    let t := s.setPanel n { s.panel n with goal := 1, ending := false, ground := 0, lowAt := 0, good := false }
    (t.panelPower n true false).panelMove n 2

/-- Leave a powered state towards `goal`, with the ground frame or without (R573 to R575). VCOMEN falls at once where no
display frame is waited for. -/
def State.powerDown (s : State) (n goal : Nat) (ending ground : Bool) : State :=
  let t := s.setPanel n { s.panel n with goal := goal, ending := ending, ground := ofBool ground }
  let t := t.panelMove n 4
  if ending || ground then t else t.panelPower n true false

/-- PWREN may fall: VCOMEN is low and no display frame is waited for. -/
def State.vcomLow (s : State) (n : Nat) : Bool :=
  let p := s.panel n
  p.pwren && !p.vcomen && !p.ending && p.ground = 0

/-- 1 ms after VCOMEN (R573). With an update waiting the panel powers up again once PWREN has been low for 1 ms. -/
def pwrenOffDelayEff (n : Fin 2) (s : State) : State :=
  if s.panelState n != 4 || !s.vcomLow n then s
  else
    let t := s.panelPower n false false
    if (s.panel n).goal = 1 && s.updateWaits n then t.setPanel n { t.panel n with lowAt := s.dsp.tick + 1 }
    else t.panelArrive n

/-- PWREN_OFF_DELAY (R573). -/
def execPwrenOffDelay (n : Fin 2) (s : State) : Host.Outcome State Fault Refusal := .next (pwrenOffDelayEff n s)

/-- What a base tick does: a panel powers up again after 1 ms, or when an update has waited for the end of a warning.
(DEDUCED, log 88) -/
def State.dspTick (s : State) : State :=
  let t := s.setDsp { s.dsp with tick := s.dsp.tick + 1 }
  if !s.hasDisplay || s.inReset 19 then t
  else forUpto 2 t (fun n t =>
    let p := t.panel n
    if t.panelState n = 4 && p.lowAt != 0 && p.lowAt + 8 ≤ t.dsp.tick then t.powerUp n
    else if t.panelState n = 1 && t.updateWaits n then t.powerUp n
    else t)

/-- PWRGD rises during POWERUP (R573). -/
def pwrgdRiseEff (n : Fin 2) (s : State) : State :=
  if s.panelState n = 2 then s.setPanel n { s.panel n with good := true } else s

/-- PWRGD_RISE (R573). -/
def execPwrgdRise (n : Fin 2) (s : State) : Host.Outcome State Fault Refusal := .next (pwrgdRiseEff n s)

/-- 1 ms after PWRGD (R573). -/
def vcomEnableDelayEff (n : Fin 2) (s : State) : State :=
  if s.panelState n = 2 && (s.panel n).good then s.panelPower n true true else s

/-- VCOM_ENABLE_DELAY (R573). -/
def execVcomEnableDelay (n : Fin 2) (s : State) : Host.Outcome State Fault Refusal := .next (vcomEnableDelayEff n s)

/-- PWRGD has not risen 50 ms after PWREN (R573). (DESIGN CHOICE, log 4) -/
def pwrgdTimeoutEff (n : Fin 2) (s : State) : State :=
  if s.panelState n = 2 && !(s.panel n).good then ((s.endWaves n).panelPower n false false).panelFault n 2 else s

/-- PWRGD_TIMEOUT (R573). -/
def execPwrgdTimeout (n : Fin 2) (s : State) : Host.Outcome State Fault Refusal := .next (pwrgdTimeoutEff n s)

/-- PWRGD falls in DRIVE (R573). -/
def pwrgdLostEff (n : Fin 2) (s : State) : State :=
  if s.panelState n = 3 then ((s.endWaves n).panelPower n false false).panelFault n 3 else s

/-- PWRGD_LOST (R573). -/
def execPwrgdLost (n : Fin 2) (s : State) : Host.Outcome State Fault Refusal := .next (pwrgdLostEff n s)

/-- PDLY has passed without a waveform (R573). -/
def powerdownDelayExpiryEff (n : Fin 2) (s : State) : State :=
  if s.panelState n = 3 && !s.panelBusy n then s.powerDown n 1 false true else s

/-- POWERDOWN_DELAY_EXPIRY (R573). -/
def execPowerdownDelayExpiry (n : Fin 2) (s : State) : Host.Outcome State Fault Refusal := .next (powerdownDelayExpiryEff n s)

/-- Whether the panel's timing allows EN = 1 (R563). -/
def State.panelFits (s : State) (n : Nat) : Bool :=
  s.rf (F.DSP_PCFG_VRES n) * (s.rf (F.DSP_PCFG_HW n) + 8) * s.rf (F.DSP_PTIM_CDIV n) * 5 + 200000 ≤ s.rf (F.DSP_PTIM_FPER n) * 125000

/-- A crack reading counts as bad: above RMAX, or open (R575). (DEDUCED, log 93) -/
def State.crackBad (s : State) (n : Nat) (res : BitVec 16) : Bool := res = 0xFFFF || s.rf (F.DSP_CRK_RMAX n) < res.toNat

/-- EN is written 1, with the reading the panel then takes: IDLE when the loop is good (R573, R575).
(DEDUCED, log 93) -/
def State.enablePanel (s : State) (n : Nat) (res : BitVec 16) : State :=
  if s.on (F.DSP_PCTL_EN n) then s
  else if !s.panelFits n then s.badVal
  else
    let t := (s.setF (F.DSP_PCTL_EN n) 1).setF (F.DSP_CRK_RES n) res.toNat
    let t := t.setPanel n { t.panel n with bad := 0 }
    if t.panelState n = 0 && !t.crackBad n res then t.panelMove n 1 else t

/-- PANEL_ENABLE (R573). -/
def panelEnableEff (x : HPort) (n : Fin 2) (res : BitVec 16) (s : State) : State :=
  s.asWrite x 19 (s.enablePanel n res)

/-- PANEL_ENABLE (R573). -/
def execPanelEnable (x : HPort) (n : Fin 2) (res : BitVec 16) (s : State) : Host.Outcome State Fault Refusal :=
  .next (panelEnableEff x n res s)

/-- EN is written 0 (R573). A power-down in progress now leads to OFF. -/
def State.disablePanel (s : State) (n : Nat) : State :=
  let t := s.setF (F.DSP_PCTL_EN n) 0
  match s.panelState n with
  | 1 | 5 => ((t.endWaves n).setF (F.DSP_PSTAT_FCODE n) 0).panelMove n 0
  | 2 => (t.endWaves n).powerDown n 0 false false
  | 3 => t.powerDown n 0 true true
  | 4 =>
    let t := t.setPanel n { t.panel n with goal := 0, lowAt := 0 }
    if (t.panel n).pwren then t else ((t.endWaves n).setF (F.DSP_PSTAT_FCODE n) 0).panelMove n 0
  | _ => t

/-- PANEL_DISABLE (R573). -/
def panelDisableEff (x : HPort) (n : Fin 2) (s : State) : State := s.asWrite x 19 (s.disablePanel n)

/-- PANEL_DISABLE (R573). -/
def execPanelDisable (x : HPort) (n : Fin 2) (s : State) : Host.Outcome State Fault Refusal := .next (panelDisableEff x n s)

/-- A crack is detected: waiting pixels are discarded, waveforms end at the frame boundary, and the power goes off without the
ground frame (R575). -/
def State.crack (s : State) (n : Nat) : State :=
  match s.panelState n with
  | 1 => (s.endWaves n).panelFault n 1
  | 2 => (s.endWaves n).powerDown n 5 false false
  | 3 => s.powerDown n 5 true false
  | 4 => if (s.panel n).goal = 0 then s
    else if (s.panel n).pwren then s.setPanel n { s.panel n with goal := 5, lowAt := 0 } else (s.endWaves n).panelFault n 1
  | _ => s

/-- The crack loop is measured, in every state except OFF (R575). -/
def crackMeasurementEff (n : Fin 2) (res : BitVec 16) (s : State) : State :=
  if !s.hasDisplay || s.inReset 19 || s.panelState n = 0 then s
  else
    let bad := s.crackBad n res
    let k := if bad then (s.panel n).bad + 1 else 0
    let t := (s.setF (F.DSP_CRK_RES n) res.toNat).setPanel n { s.panel n with bad := k }
    if k = 2 then t.crack n else t

/-- CRACK_MEASUREMENT (R575). -/
def execCrackMeasurement (n : Fin 2) (res : BitVec 16) (s : State) : Host.Outcome State Fault Refusal :=
  .next (crackMeasurementEff n res s)

/-- A VMAIN warning sequences each powered panel off without the ground frame (R574). (DEDUCED, log 92) -/
def State.dspWarn (s : State) : State :=
  forUpto 2 s (fun n t =>
    if t.panelState n = 2 || t.panelState n = 3 then (t.endWaves n).powerDown n 1 false false
    else if t.panelState n = 4 && (t.panel n).pwren then
      ((t.endWaves n).setPanel n { t.panel n with ending := false, ground := 0 }).panelPower n true false
    else t)

/-- A twin that gains ACT starts with every pixel unknown (R574). -/
def State.dspTakeover (s : State) : State :=
  let t := (s.endWaves 0).endWaves 1
  (t.dsp.pixels.map (fun e => e.1)).foldl (fun t k => t.setPixel k { t.pixel k with level := none }) t

/-! ## Display frames and updates (R561, R562, R564, R569 to R572) -/

/-- Start a waveform of a pixel at its level towards `c` in a band; an entry of LEN 0 gives the level at once (R569, R570). -/
def State.startWave (s : State) (k c band num : Nat) : State :=
  let n := keyPanel k
  let p := s.pixel k
  let a := p.level.getD (s.rf (F.DSP_PCFG_ULVL n))
  if waveLen (s.waveform n) band a c = 0 then s.setPixel k { p with level := some c, wave := none }
  else s.setPixel k { p with wave := some (a, c, 0, band, num) }

/-- The band an update captured. -/
def State.updBand (s : State) (num : Nat) : Nat :=
  match s.dsp.upds.find? (fun u => u.num = num) with
  | some u => u.band.getD 0
  | none => 0

/-- A frame further: a waveform whose last phase was sent ends, and a waiting pixel starts (R569, R571). -/
def State.stepPixel (s : State) (k : Nat) : State :=
  let p := s.pixel k
  match p.wave with
  | none => s
  | some (a, c, i, b, u) =>
    if i + 1 < waveLen (s.waveform (keyPanel k)) b a c then s.setPixel k { p with wave := some (a, c, i + 1, b, u) }
    else
      let t := s.setPixel k { p with level := some c, wave := none, next := none }
      match p.next with
      | some (c2, u2) => t.startWave k c2 (t.updBand u2) u2
      | none => t

/-- The pixels of a panel with a waveform. -/
def State.wavingKeys (s : State) (n : Nat) : List Nat :=
  (s.dsp.pixels.filter (fun e => keyPanel e.1 = n && e.2.wave.isSome)).map (fun e => e.1)

/-- An update starts: its band is captured, its command completes, and its pixels start or wait (R569, R571, R572). -/
def State.startUpd (s : State) (u : DspUpd) : State :=
  let b := s.rf (F.DSP_PSTAT_BAND u.panel)
  let us := s.dsp.upds.map (fun v => if v.num = u.num then { v with band := some b, op := none } else v)
  let t := s.setDsp { s.dsp with upds := us }
  let t := match u.op with
    | some (x, p, id) => t.completeLate x p id St.success t.frameWords.1 0
    | none => t
  u.pixels.foldl (fun t e =>
    let q := t.pixel e.1
    if q.wave.isSome then t.setPixel e.1 { q with next := some (e.2, u.num) } else t.startWave e.1 e.2 b u.num) t

/-- Whether an update is old enough to start: accepted at least 200 µs before. Where that depends on the phase of the acceptance
within its base tick, it is open. (DESIGN CHOICE, log 87) -/
def State.updDue (s : State) (u : DspUpd) : Bool :=
  u.band.isNone && (u.tick + 3 ≤ s.dsp.tick || (u.tick + 2 = s.dsp.tick && s.freeVal.toNat % 2 = 1))

/-- Updates whose last pixel has finished complete (R571). -/
def State.endUpds (s : State) (n : Nat) : State :=
  let left (num : Nat) : Bool := s.dsp.pixels.any (fun e =>
    (match e.2.wave with
    | some w => w.2.2.2.2 = num
    | none => false) || (match e.2.next with
    | some v => v.2 = num
    | none => false))
  let gone := s.dsp.upds.filter (fun u => u.panel = n && u.band.isSome && !left u.num)
  let t := gone.foldl (fun t u =>
    if fieldOf (regionWord t.dsp.regions u.region 0) 22 22 = 1 then
      t.report 0x1302 (regionTag t.dsp.regions u.region) (wd u.region) (wd u.frames) (wd (u.band.getD 0))
    else t) s
  t.setDsp { t.dsp with upds := t.dsp.upds.filter (fun u => !gone.any (fun g => g.num = u.num)) }

/-- The phase code a pixel sends in this frame. -/
def State.pixelCode (s : State) (k : Nat) : Nat :=
  match (s.pixel k).wave with
  | some (a, c, i, b, _) => wavePhase (s.waveform (keyPanel k)) b a c i
  | none => 0

/-- The rows scanned in this frame with the codes of their pixels (R562). -/
def State.scan (s : State) (n : Nat) : List (Nat × List Nat) :=
  let on := (s.wavingKeys n).filter (fun k => s.pixelCode k != 0)
  ((List.range (s.rf (F.DSP_PCFG_VRES n))).filter (fun r => on.any (fun k => keyRow k = r))).map (fun r =>
    (r, (List.range (8 * s.rf (F.DSP_PCFG_HW n))).map (fun c => s.pixelCode (pixKey n r c))))

/-- Show a frame's scan. -/
def State.showScan (s : State) (n : Nat) (rows : List (Nat × List Nat)) : State :=
  let t := (s.setF (F.DSP_PSTAT_ROWS n) rows.length).setPanel n { s.panel n with rows := rows.map (fun r => r.1) }
  t.emit (.panelFrame n rows)

/-- A display frame in DRIVE (R562, R564, R569, R571): an update that drives no pixel completes as it starts. -/
def State.driveFrame (s : State) (n : Nat) (ready : Bool) : State :=
  if !ready then (s.showScan n []).report 0x1307 0 (wd n) s.frameWords.1 0
  else
    let t := (s.wavingKeys n).foldl (fun t k => t.stepPixel k) s
    let t := t.endUpds n
    let t := (t.dsp.upds.filter (fun u => u.panel = n && t.updDue u)).foldl (fun t u => t.startUpd u) t
    let t := t.useFree
    let t := t.endUpds n
    let us := t.dsp.upds.map (fun u => if u.panel = n && u.band.isSome then { u with frames := u.frames + 1 } else u)
    let t := t.setDsp { t.dsp with upds := us }
    t.showScan n (t.scan n)

/-- Display frames of a power-down: waveforms end at the boundary, the ground frame is driven, then VCOMEN falls (R573). -/
def State.downFrame (s : State) (n : Nat) : State :=
  let p := s.panel n
  let t := if p.ending then (s.endWaves n).setPanel n { p with ending := false } else s
  let p := t.panel n
  if p.ground = 1 then
    let rows := p.rows.map (fun r => (r, List.replicate (8 * t.rf (F.DSP_PCFG_HW n)) 3))
    (t.setPanel n { p with ground := 2 }).showScan n rows
  else if p.vcomen then (t.setPanel n { p with ground := 0 }).panelPower n true false
  else t

/-- A display frame boundary of panel `n` (R561): accepted tables take effect, and the frame is driven; `ready` says that its
drive data is complete. None begins while the power-fail sequence runs (R574). -/
def displayFrameStartEff (n : Fin 2) (ready : Bool) (s : State) : State :=
  if !s.hasDisplay || s.inReset 19 || s.on F.PWR_STAT_SEQ then s
  else
    let t := (s.applyWaves n).applyRegions
    let t := if t.panelState n = 2 && (t.panel n).vcomen then t.panelMove n 3 else t
    if t.panelState n = 3 then t.driveFrame n ready
    else if t.panelState n = 4 then t.downFrame n
    else t

/-- DISPLAY_FRAME_START (R561). -/
def execDisplayFrameStart (n : Fin 2) (ready : Bool) (s : State) : Host.Outcome State Fault Refusal :=
  .next (displayFrameStartEff n ready s)

/-! ## DSP_UPD (R568, R572) -/

/-- The tag of a region that exists. -/
def State.regionTagOf (s : State) (r : Nat) : Option Nat :=
  if r < 64 && regionValid s.dsp.regions r then some (regionTag s.dsp.regions r) else none

/-- Level `i` of a region's data (R568). -/
def levelAt (bs : List Byte) (i : Nat) : Nat := (bs.getD (i / 2) 0).toNat / 16 ^ (i % 2) % 16

/-- Take new target levels: the changed pixels with their levels (R568). -/
def State.changedPixels (s : State) (r : Nat) (full : Bool) (bs : List Byte) : List (Nat × Nat) :=
  let ks := regionKeys s.dsp.regions r
  let es := ks.zip ((List.range ks.length).map (levelAt bs))
  es.filter (fun e => full || (s.pixel e.1).tgt != e.2)

/-- Whether a panel takes updates: it is neither off nor in FAULT nor on its way there. -/
def State.panelTakes (s : State) (n : Nat) : Bool :=
  !(s.panelState n = 0 || s.panelState n = 5 || (s.panelState n = 4 && (s.panel n).goal != 1))

/-- DSP_UPD with RDBK = 0 (R568, R572). (DEDUCED, log 89) -/
def dspUpdBody (x : HPort) (p : Part) (d : Desc) (s : State) (id : Nat) : CmdEnd :=
  let r := fieldOf d.w2 7 0
  let tag := s.regionTagOf r
  let st := s.filterWrite p tag Cls.slot r
  let ws := s.dsp.regions
  let n := regionPanel ws r
  if st != St.success then .refuse s Cls.slot r st
  else if !s.active then .done s St.state 0 0
  else if d.len != regionW ws r * regionH ws r / 2 then .done s St.badDesc 0 0
  else if 4 ≤ (s.dsp.upds.filter (fun u => u.region = r)).length then .done s St.busy 0 0
  else
    match s.dmaRead x p d.addr d.len with
    | (none, t) => .done t St.dmaError 0 0
    | (some bs, t) =>
      let px := t.changedPixels r (fieldOf d.w3 1 1 = 1) bs
      let t := px.foldl (fun t e => t.setPixel e.1 { t.pixel e.1 with tgt := e.2 }) (t.audit p (tag.getD 0) Cls.slot r 0x38)
      if !t.panelTakes n then
        .done (px.foldl (fun t e => t.setPixel e.1 { t.pixel e.1 with level := none }) t) St.success t.frameWords.1 0
      else
        let u : DspUpd := { num := t.dsp.nextNum, region := r, panel := n, pixels := px, tick := t.dsp.tick,
                            op := some (x, p, id), band := none, frames := 0 }
        let t := t.setDsp { t.dsp with upds := t.dsp.upds ++ [u], nextNum := t.dsp.nextNum + 1 }
        .wait (if t.panelState n = 1 then t.powerUp n else t)

/-- DSP_UPD (R568). -/
def dspUpdEff (x : HPort) (p : Part) (d : Desc) (s : State) : State :=
  s.command x p d (d.opcode = 0x38 && fieldOf d.w3 0 0 = 0) (d.buf 0xFF 3 0 0 (2 ^ 32)) s.hasDisplay false (dspUpdBody x p d)

/-- DSP_UPD (R568). -/
def execDspUpd (x : HPort) (p : Part) (d : Desc) (s : State) : Host.Outcome State Fault Refusal := .next (dspUpdEff x p d s)

/-- Two levels to a byte (R568). -/
def levelBytes : List Nat → List Byte
  | a :: b :: rest => BitVec.ofNat 8 (a % 16 + b % 16 * 16) :: levelBytes rest
  | [a] => [BitVec.ofNat 8 (a % 16)]
  | [] => []

/-- DSP_UPD with RDBK = 1 (R568). -/
def dspReadBody (x : HPort) (p : Part) (d : Desc) (s : State) (_id : Nat) : CmdEnd :=
  let r := fieldOf d.w2 7 0
  let st := s.filterRead p (s.regionTagOf r) Cls.slot r
  let ws := s.dsp.regions
  if st != St.success then .refuse s Cls.slot r st
  else if !s.active then .done s St.state 0 0
  else if d.len != regionW ws r * regionH ws r / 2 then .done s St.badDesc 0 0
  else
    match s.dmaWrite x p d.addr (levelBytes ((regionKeys ws r).map (fun k => (s.pixel k).tgt))) with
    | (false, t) => .done t St.dmaError 0 0
    | (true, t) => .done t St.success t.frameWords.1 0

/-- DSP_UPD_READ_BACK (R568). -/
def dspUpdReadBackEff (x : HPort) (p : Part) (d : Desc) (s : State) : State :=
  s.command x p d (d.opcode = 0x38 && fieldOf d.w3 0 0 = 1) (d.buf 0xFF 3 0 0 (2 ^ 32)) s.hasDisplay false (dspReadBody x p d)

/-- DSP_UPD_READ_BACK (R568). -/
def execDspUpdReadBack (x : HPort) (p : Part) (d : Desc) (s : State) : Host.Outcome State Fault Refusal :=
  .next (dspUpdReadBackEff x p d s)

/-- A block reset of DSP ends what is on its way: waveforms end and their pixels become unknown. -/
def State.dspResetIn (s : State) : State := (s.endWaves 0).endWaves 1

end Sys2Proof.Machine
end

