-- ==== Sys2Proof/Machine/Schedule.lean ====
section
/-! DEFINITION. The station table and the exchange schedule as applied and as latest accepted, the frames of an exchange
and the state of its entries (chapter "Point Table, Exchange Schedule and Point Image"). -/

namespace Sys2Proof.Machine

/-- A station table entry (R253). -/
structure Stn where
  w0 : Word
  w1 : Word
  w2 : Word
  w3 : Word
  deriving DecidableEq, Repr

/-- Entry in use. -/
def Stn.valid (e : Stn) : Bool := fieldOf e.w0 31 31 = 1
/-- Field port. -/
def Stn.port (e : Stn) : Nat := fieldOf e.w0 30 25
/-- PLCA node. -/
def Stn.node (e : Stn) : Nat := fieldOf e.w0 24 20
/-- Misses before the station goes stale. -/
def Stn.miss (e : Stn) : Nat := fieldOf e.w0 19 16
/-- Resume live on return. -/
def Stn.resume (e : Stn) : Nat := fieldOf e.w0 15 15
/-- End-point number. -/
def Stn.epn (e : Stn) : Nat := fieldOf e.w0 10 0
/-- MAC address. -/
def Stn.mac (e : Stn) : Nat := e.w1.toNat + fieldOf e.w2 15 0 * 2 ^ 32
/-- Longest frame of a T1S node. -/
def Stn.maxLen (e : Stn) : Nat := fieldOf e.w3 10 0

/-- The entries of a station table image. -/
def stnsOf : List Word → List Stn
  | a :: b :: c :: d :: rest => { w0 := a, w1 := b, w2 := c, w3 := d } :: stnsOf rest
  | _ => []

/-- A schedule entry (R259). -/
structure Ent where
  w0 : Word
  w1 : Word
  w2 : Word
  deriving DecidableEq, Repr

/-- Entry in use. -/
def Ent.valid (e : Ent) : Bool := fieldOf e.w0 31 31 = 1
/-- Field port. -/
def Ent.port (e : Ent) : Nat := fieldOf e.w0 30 25
/-- Station. -/
def Ent.epn (e : Ent) : Nat := fieldOf e.w0 24 14
/-- Exchange rate. -/
def Ent.rate (e : Ent) : Nat := fieldOf e.w0 13 10
/-- Frame residue. -/
def Ent.phase (e : Ent) : Nat := fieldOf e.w0 9 0
/-- Start in µs. -/
def Ent.start (e : Ent) : Nat := fieldOf e.w1 21 12
/-- Request data bytes. -/
def Ent.rqLen (e : Ent) : Nat := fieldOf e.w2 26 16
/-- Reply data bytes. -/
def Ent.rpLen (e : Ent) : Nat := fieldOf e.w2 10 0
/-- The key of the entry's exchange state: its station and RATE (R263). -/
def Ent.key (e : Ent) : Nat := e.epn * 16 + e.rate
/-- Whether the entry is exchanged in frame `n` (R260). -/
def Ent.activeIn (e : Ent) (n : Nat) : Bool := e.valid && n % 2 ^ e.rate = e.phase % 2 ^ e.rate

/-- The entries of a schedule image after its header word. -/
def entsOf : List Word → List Ent
  | a :: b :: c :: rest => { w0 := a, w1 := b, w2 := c } :: entsOf rest
  | _ => []

/-- All entries of the schedule applied, in image order. -/
def State.ents (s : State) : List Ent := entsOf (s.ptx.schedule.drop 1)

/-- The valid stations of the table applied. -/
def State.stns (s : State) : List Stn := (stnsOf s.ptx.stations).filter Stn.valid

/-- The latest accepted station table (R263). -/
def State.lastStations (s : State) : List Word :=
  s.ptx.loads.foldl (fun a l => match l with
    | .stations w => w
    | .points _ _ => a
    | .schedule _ => a) s.ptx.stations

/-- The latest accepted schedule (R263). -/
def State.lastSchedule (s : State) : List Word :=
  s.ptx.loads.foldl (fun a l => match l with
    | .stations _ => a
    | .points _ _ => a
    | .schedule w => w) s.ptx.schedule

/-- The exchange state of an entry. -/
def State.exch (s : State) (key : Nat) : Exch := Store.get Exch.dflt s.ptx.exch key

/-- Replace the exchange state of an entry. -/
def State.setExch (s : State) (key : Nat) (e : Exch) : State :=
  { s with ptx := { s.ptx with exch := Store.put Exch.dflt s.ptx.exch key e } }

/-- The field points of a station at a RATE, outputs or inputs. -/
def State.fieldPoints (s : State) (epn rate : Nat) (out : Bool) : List (Nat × Point) :=
  s.allPoints.filter (fun e => e.2.kind = 1 && e.2.stn = epn && e.2.rate = rate && e.2.isOut = out)

/-- The points of a station, outputs or inputs, at every RATE. -/
def State.stnPoints (s : State) (epn : Nat) (out : Bool) : List (Nat × Point) :=
  s.allPoints.filter (fun e => e.2.kind = 1 && e.2.stn = epn && e.2.isOut = out)

/-- The EtherType of a frame and the offset after it; a priority tag of VID 0 is looked through (R255). -/
def etherOf (data : List Byte) : Nat × Nat :=
  let t := natBE ((data.drop 12).take 2)
  if t = 0x8100 && natBE ((data.drop 14).take 2) % 4096 = 0 then (natBE ((data.drop 16).take 2), 18) else (t, 14)

/-- The request data of an entry: the bits at their OFS of every output point of the entry in the output image of the frame before,
the others 0 (R250, R256). A point table that the latch of this frame applied shows in the next frame's requests.
(DEDUCED, log 161) -/
def State.requestData (s : State) (e : Ent) (failSt : Bool) : List Byte :=
  let ps := s.ptx.txTbl.filter (fun k => k.2.kind = 1 && k.2.stn = e.epn && k.2.rate = e.rate && k.2.isOut)
  let v := ps.foldl (fun a (i, p) =>
    let w := if failSt then p.failValue else Store.get wordZero s.ptx.txImg i
    a + w.toNat % 2 ^ fmtBits p.fmt * 2 ^ p.ofs) 0
  bytesLE e.rqLen v

/-- Port `i`'s own address (R214). -/
def State.portMac (s : State) (i : Nat) : Nat :=
  (s.reg Reg.FLD_MACBL).toNat + s.rf F.FLD_MACBH_ADDR * 2 ^ 32 + i

/-- A frame padded to 64 bytes with its FCS (R255); the content of the padding is open. (DESIGN CHOICE, log 162) -/
def padded (free : Nat → Word) (f : List Byte) : List Byte :=
  f ++ (List.range (60 - f.length)).map (fun i => BitVec.ofNat 8 (free i).toNat)

/-- The request frame of an entry in the current frame, without FCS (R255). -/
def State.requestFrame (s : State) (e : Ent) (mac : Nat) (failSt : Bool) : List Byte :=
  padded (fun i => Config.freeWord (s.free + i)) (bytesBE 6 mac ++ bytesBE 6 (s.portMac e.port) ++ bytesBE 2 (s.rf F.FLD_CTL_ETYPE)
    ++ [0x11, if failSt then 1 else 0] ++ bytesLE 2 (e.epn + e.rate * 2 ^ 11) ++ bytesLE 4 (s.frameNo % 2 ^ 32)
    ++ s.requestData e failSt)

/-- What a reply says (R255): its station and RATE, its FRAME, and its data. -/
structure Reply where
  epn : Nat
  rate : Nat
  frame : Nat
  data : List Byte
  deriving DecidableEq, Repr

/-- The fields of a frame that has VER 0x1 and TYPE 0x2. -/
def parseReply (frame : List Byte) : Option Reply :=
  let o := (etherOf frame).2
  if natLE ((frame.drop o).take 1) = 0x12 && o + 8 ≤ frame.length then
    let id := halfAt frame (o + 2)
    some { epn := id % 2 ^ 11, rate := id / 2 ^ 11 % 16, frame := natLE ((frame.drop (o + 4)).take 4), data := frame.drop (o + 8) }
  else none

/-- The schedule entry and the outstanding request that a frame received on port `i` from a source answers (R257). -/
def State.answers (s : State) (i : Nat) (frame : List Byte) : Option (Ent × Reply) :=
  match parseReply frame with
  | none => none
  | some r =>
    let src := natBE ((frame.drop 6).take 6)
    if s.stns.any (fun t => t.port = i && t.epn = r.epn && t.mac = src) then
      match s.ents.find? (fun e => e.valid && e.port = i && e.epn = r.epn && e.rate = r.rate) with
      | none => none
      | some e =>
        if (s.exch e.key).reqs.any (fun q => q.frame % 2 ^ 32 = r.frame) && e.rpLen ≤ r.data.length then some (e, r)
        else none
    else none

end Sys2Proof.Machine
end

