-- ==== Sys2Proof/Machine/Field.lean ====
section
/-! DEFINITION. Field ports: links, received and transmitted frames, PLCA cycles and MDIO (chapter "Field Ports and Field
Power"). -/

namespace Sys2Proof.Machine

/-- Set a bit of FLD_STAT (R241). -/
def State.raiseFld (s : State) (bit : Nat) : State := s.raise Reg.FLD_STAT Reg.FLD_IEN 9 bit

/-- Whether field port `i` is fitted (R200). -/
def State.fieldFitted (s : State) (i : Nat) : Bool := (i < 48 && i < s.variant.t1l) || (48 ≤ i && i < 64)

/-- The transmit queue of port `i` (R179). -/
def fieldTx (i : Nat) : Nat := 320 + i

/-! ## Links (R203, R219, R240) -/

/-- Whether the level and the role a T1L link has resolved to are those that a fixed LEVEL and a forced ROLE ask for; without them
the link does not come up (R203). -/
def State.linkAgrees (s : State) (i : Nat) (lv1 lead : Bool) : Bool :=
  let l := s.rf (F.FLD_PCTL_LEVEL i)
  let r := s.rf (F.FLD_PCTL_ROLE i)
  48 ≤ i || ((l != 0 || !lv1) && (l != 1 || lv1) && (r != 1 || lead) && (r != 2 || !lead))

/-- The link of a port comes up. On a T1S segment the role that event 0x0901 gives is open. (DESIGN CHOICE, log 44) -/
def fieldLinkUpEff (i : Fin 64) (lv1 lead : Bool) (s : State) : State :=
  if !s.fieldFitted i || !s.on (F.FLD_PCTL_EN i) || s.on (F.FLD_PSTAT_LINK i) || s.inReset 9
      || !s.linkAgrees i lv1 lead then s
  else
    let t1s := 48 ≤ i.val
    let t := s.setF (F.FLD_PSTAT_LINK i) 1
    let t := (t.setF (F.FLD_PSTAT_LV1 i) (ofBool (lv1 && !t1s))).setF (F.FLD_PSTAT_LEAD i) (ofBool (lead && !t1s))
    let t :=
      if t1s then t.useFree.report 0x0901 0 (wd i) 2 (wd (t.freeVal.toNat % 2))
      else t.report 0x0901 0 (wd i) (wd (ofBool lv1)) (wd (ofBool !lead))
    t.raiseFld 0

/-- FIELD_LINK_UP (R202). -/
def execFieldLinkUp (i : Fin 64) (lv1 lead : Bool) (s : State) : Host.Outcome State Fault Refusal :=
  .next (fieldLinkUpEff i lv1 lead s)

/-- Whether a staged packet is for field port `i` (R179). -/
def Pkt.forPort (k : Pkt) (i : Nat) : Bool := k.op.isSome && k.src = fieldTx i

/-- Frames for port `i` that still wait in staging queue `q` leave it: their commands complete (R179). -/
def State.dropStaged (s : State) (i q : Nat) : State :=
  let ks := (s.queue q).filter (fun k => k.forPort i)
  if ks = [] then s else ((s.filterQueue q (fun k => !k.forPort i)).endStaged St.success ks).addSat (F.FLD_TXDROP_CNT i) ks.length

/-- Frames for a port that have not left the module when its link goes down are discarded (R218). (DEDUCED, log 182) -/
def State.dropTx (s : State) (i : Nat) : State :=
  let t := (s.emptyQueue (fieldTx i)).addSat (F.FLD_TXDROP_CNT i) (s.queue (fieldTx i)).length
  forUpto 256 t (fun q t => t.dropStaged i (512 + q))

/-- A port is lost: its stations go stale at the next latch (R219). `why` is 0 for the link, 1 for the power. -/
def State.portLost (s : State) (i why : Nat) : State :=
  { s with ptx := { s.ptx with lost := s.ptx.lost ++ [(i, why)] } }

/-- The fields of FLD_PSTAT of a port without link. -/
def State.clearLink (s : State) (i : Nat) : State := s.setReg (Reg.FLD_PSTAT i) 0

/-- The link of a port goes down (R219, R240). -/
def State.linkDown (s : State) (i : Nat) : State :=
  if s.on (F.FLD_PSTAT_LINK i) then
    let t := ((s.clearLink i).dropTx i).portLost i 0
    (t.report 0x0902 0 (wd i) (s.reg (Reg.FLD_RXOK i)) 0).raiseFld 0
  else s

/-- FIELD_LINK_DOWN (R219). -/
def execFieldLinkDown (i : Fin 64) (s : State) : Host.Outcome State Fault Refusal := .next (s.linkDown i)

/-- SQI from the signal-to-noise ratio in thousandths of a dB (R694). -/
def sqiOf (snr : Int) : Nat := if snr < 15000 then 0 else min 7 (1 + ((snr - 15000) / 2000).toNat)

/-- The PHY's average over the last 100 ms (R694). -/
def sqiUpdateEff (i : Fin 48) (snr : Int) (s : State) : State :=
  if s.on (F.FLD_PSTAT_LINK i) then s.setF (F.FLD_PSTAT_SQI i) (sqiOf snr) else s

/-- SQI_UPDATE (R694). -/
def execSqiUpdate (i : Fin 48) (snr : Int) (s : State) : Host.Outcome State Fault Refusal := .next (sqiUpdateEff i snr s)

/-! ## PLCA (R206, R207) -/

/-- FLD_PLCA at reset (R243). -/
def plcaReset (_ : Nat) : Word := 0x02200000

/-- FLD_PLCA of a segment as the last frame boundary found it (R239). -/
def State.plca (s : State) (g : Nat) : Word := Store.get plcaReset s.fld.plca g

/-- A frame begins: new PLCA settings take effect (R239). -/
def State.takePlca (s : State) : State :=
  forUpto 16 s (fun g t => { t with fld := { t.fld with plca := Store.put plcaReset t.fld.plca g (t.reg (Reg.FLD_PLCA g)) } })

/-- Cycle length in units of 0.1 µs. -/
def State.plcaLen (s : State) (g : Nat) : Nat := 1250 * 2 ^ fieldOf (s.plca g) 7 6

/-- Node 0's transmit opportunity of a segment may be used from `t` on, in 0.1 µs from the regular cycle start, and is over after TOT
bit times without a frame (R206). (DEDUCED, log 181) -/
def State.setOpportunity (s : State) (g t : Nat) : State :=
  { s with fld := { s.fld with
      plcaFrom := Store.put natZero s.fld.plcaFrom g t
      plcaOpen := Store.put natZero s.fld.plcaOpen g (t + fieldOf (s.plca g) 23 16) } }

/-- A PLCA cycle starts on a segment with the beacon, 3 byte times long (R208), and node 0's transmit opportunity; `late` is the node that was transmitting at the regular start and by how many
nanoseconds the cycle before ran over. -/
def plcaCycleStartEff (seg : Fin 16) (late : Option (Nat × Nat)) (s : State) : State :=
  if !s.on (F.FLD_PCTL_EN (48 + seg.val)) || s.inReset 9 then s
  else
    let t := s.emit (.beacon seg)
    let t : State := { t with fld := { t.fld with plcaSent := Store.put natZero t.fld.plcaSent seg 0 } }
    match late with
    | none => t.setOpportunity seg 24
    | some (node, ns) => ((t.setOpportunity seg (ceilDiv ns 100 + 24)).addSat (F.FLD_PLCAOVR_CNT seg) 1).report 0x0908 0 (wd seg) (wd node) (wd ns)

/-- PLCA_CYCLE_START (R206). -/
def execPlcaCycleStart (seg : Fin 16) (late : Option (Nat × Nat)) (s : State) : Host.Outcome State Fault Refusal :=
  .next (plcaCycleStartEff seg late s)

/-! ## Receiving (R212 to R214) -/

/-- Whether a destination address passes port `i`'s own address, its filter or its broadcast setting (R212, R214). -/
def State.macAccepted (s : State) (i dst : Nat) : Bool :=
  dst = s.portMac i || (dst = 0xFFFFFFFFFFFF && s.on (F.FLD_PCTL_BCAST i)) ||
  (List.range 16).any (fun e => let n := 16 * i + e
    s.on (F.FLD_AFH_VALID n) && (s.reg (Reg.FLD_AFL n)).toNat + s.rf (F.FLD_AFH_ADDR n) * 2 ^ 32 = dst)

/-- The host port a field port's frames go to. -/
def State.fieldHost (s : State) (i : Nat) : HPort := if s.on (F.FLD_PCTL_HPSEL i) then .hp1 else .hp0

/-- The source code of a field port (R163). -/
def fieldSrc (i : Nat) : Nat := if i < 48 then srcCode 1 i else srcCode 2 i

/-- Count a frame as accepted or not (R213). -/
def State.countRx (s : State) (i : Nat) (ok : Bool) : State :=
  if ok then s.addSat (F.FLD_RXOK_CNT i) 1 else s.addSat (F.FLD_RXDROP_CNT i) 1

/-- A frame goes to the ring set of the port's tag (R212 step 6). -/
def State.fieldToHost (s : State) (i : Nat) (data : List Byte) : State :=
  let (ok, t) := s.toHost (s.fieldHost i) (s.rf (F.FLD_PCTL_TAG i)) (mkPkt data (fieldSrc i) 0 s.frameNo)
  t.countRx i ok

/-- A Genmas frame of a station of the port goes to the point receive queue, marked with whether it answers an outstanding
request (R212 step 4, R257). -/
def State.fieldToPoints (s : State) (i : Nat) (data : List Byte) : State :=
  let m := ofBool (s.answers i data).isSome
  let (ok, t) := s.enqueue (256 + i) { mkPkt data (fieldSrc i) m s.frameNo with point := true }
  t.countRx i ok

/-- A frame received on a port, without its FCS; `good` says that FCS and symbols are good (R212). -/
def fieldFrameReceivedEff (i : Fin 64) (data : List Byte) (good : Bool) (s : State) : State :=
  if !s.on (F.FLD_PCTL_EN i) || !s.on (F.FLD_PSTAT_LINK i) || s.inReset 9 then s
  else if !good || data.length + 4 < 64 || 1522 < data.length + 4 then s.addSat (F.FLD_RXERR_CNT i) 1
  else if !s.macAccepted i (natBE (data.take 6)) then
    if s.on (F.FLD_PCTL_PROM i) then s.fieldToHost i data else s.addSat (F.FLD_RXFILT_CNT i) 1
  else if (etherOf data).1 = s.rf F.FLD_CTL_ETYPE then
    if s.stns.any (fun t => t.port = i.val && t.mac = natBE ((data.drop 6).take 6)) then s.fieldToPoints i data
    else s.addSat (F.FLD_RXUNK_CNT i) 1
  else s.fieldToHost i data

/-- FIELD_FRAME_RECEIVED (R212). -/
def execFieldFrameReceived (i : Fin 64) (data : List Byte) (good : Bool) (s : State) : Host.Outcome State Fault Refusal :=
  .next (fieldFrameReceivedEff i data good s)

/-! ## Transmitting (R215 to R217) -/

/-- Byte times of a frame of `n` bytes without FCS (R208). -/
def wireTime (n : Nat) : Nat := max 64 (n + 4) + 20

/-- Frames the module has sent in the current PLCA cycle of a segment. -/
def State.plcaSent (s : State) (g : Nat) : Nat := Store.get natZero s.fld.plcaSent g

/-- Send a frame on a field port; on a segment the next one may follow it in the same opportunity (R206). -/
def State.sendField (s : State) (i : Nat) (data : List Byte) : State :=
  let t := (s.emit (.fieldFrame i data)).addSat (F.FLD_TXOK_CNT i) 1
  if i < 48 then t
  else
    let g := i - 48
    let t : State := { t with fld := { t.fld with plcaSent := Store.put natZero t.fld.plcaSent g (s.plcaSent g + 1) } }
    t.setOpportunity g (Store.get natZero s.fld.plcaFrom g + 8 * wireTime data.length)

/-- Whether PTX exchanges with field stations now: it is out of reset on the active twin, from the first frame that begins in that
role (R291, R526, R692). (DEDUCED, log 163) -/
def State.exchanges (s : State) : Bool := s.active && !s.twn.fresh && !s.inReset 10 && !s.inReset 9

/-- RET of a station ends when none of its entries owes its first request after the return (R274). -/
def State.settleRet (s : State) (epn : Nat) : State :=
  if s.ents.any (fun e => e.valid && e.epn = epn && (s.exch e.key).retDue) then s else s.setF (F.PTX_STN_RET epn) 0

/-- Send the request of schedule entry `e` in the current frame (R255, R256, R273, R274): fail-state values where the last
publish marked it. The frame passes the port's transmit queue (R194): a frame in a poisoned cell is not sent (R188), and the
number of that cell is open. (DEDUCED, log 146) -/
def State.sendRequest (s : State) (e : Ent) (mac : Nat) : State :=
  let x := s.exch e.key
  let f := s.requestFrame e mac (x.markNow != 0)
  let t := s.setExch e.key { x with
    reqs := x.reqs ++ [{ frame := s.frameNo, pend := false }]
    sent := s.frameNo + 1
    retDue := x.retDue && x.markNow != 2 }
  let t := (if x.markNow = 2 then t.settleRet e.epn else t).useFrees 60
  let q := fieldTx e.port
  match t.allocRefused q (cellsOf f.length) with
  | some cause => t.refuseWrite q cause
  | none =>
    let u := t.clearInject q
    if t.injected q = 2 then u.useFree.poisonCell q u.freeVal.toNat
    else (if t.injected q = 1 then u.corrected q else u).sendField e.port f

/-- The slot of schedule entry `k`: its request leaves if the entry is exchanged in this frame and its link is up (R215,
R260, R695). -/
def pointFrameTransmitEff (k : Nat) (s : State) : State :=
  match s.ents[k]? with
  | none => s
  | some e =>
    if s.exchanges && e.activeIn s.frameNo && s.on (F.FLD_PSTAT_LINK e.port) && (s.exch e.key).sent != s.frameNo + 1 then
      match s.stns.find? (fun t => t.epn = e.epn) with
      | none => s
      | some t => s.sendRequest e t.mac
    else s

/-- POINT_FRAME_TRANSMIT (R215). -/
def execPointFrameTransmit (k : Nat) (s : State) : Host.Outcome State Fault Refusal := .next (pointFrameTransmitEff k s)

/-- The point-frame slots of a port in the `k`-th frame from this one, in 0.1 µs from the start of this frame. -/
def State.slotsIn (s : State) (i k : Nat) : List Nat :=
  (s.ents.filter (fun e => e.port = i && e.activeIn (s.frameNo + k))).map (fun e => 10000 * k + e.start * 10)

/-- The port's next point-frame slot at or after `time` of this frame, in 0.1 µs: the longest frame ends before the third frame from
now (R216). A module that has become active in this frame exchanges from the next on (R526). -/
def State.nextSlot (s : State) (i time : Nat) : Option Nat :=
  if !s.active || s.inReset 10 || s.inReset 9 then none
  else
    ((if s.twn.fresh then [] else (s.slotsIn i 0).filter (fun t => decide (time ≤ t))) ++ s.slotsIn i 1 ++ s.slotsIn i 2).min?

/-- Whether a non-point frame of `n` bytes may start at `time` (in 0.1 µs from the start of tick 0) on port `i`: before the next point
slot of a T1L port, in node 0's own opportunity and behind the cycle's point frames on a segment (R216, R217). -/
def State.maySend (s : State) (i time n : Nat) : Bool :=
  let done := time + 8 * wireTime n
  if i < 48 then
    match s.nextSlot i time with
    | none => true
    | some t => done + 20 ≤ t
  else
    let len := s.plcaLen (i - 48)
    let cyc := time / len
    let g := i - 48
    Store.get natZero s.fld.plcaFrom g ≤ time % len && time % len ≤ Store.get natZero s.fld.plcaOpen g &&
      s.plcaSent g < fieldOf (s.plca g) 15 8 + 1 && done < (cyc + 1) * len &&
      !(s.exchanges && s.ents.any (fun e => e.port = i && e.activeIn s.frameNo && e.start * 10 / len = cyc
        && (s.exch e.key).sent != s.frameNo + 1))

/-- Whether the frame numbered `n` at the head of a port has been counted as held. -/
def State.isHeld (s : State) (i n : Nat) : Bool := Store.get natZero s.fld.held i = n + 1

/-- Remember that the frame numbered `n` at the head of a port has been counted as held. -/
def State.setHeld (s : State) (i n : Nat) : State :=
  { s with fld := { s.fld with held := Store.put natZero s.fld.held i (n + 1) } }

/-- Send a frame on a field port at `time`. -/
def State.sendAt (s : State) (i time : Nat) (data : List Byte) : State :=
  (if i < 48 then s else s.setOpportunity (i - 48) (time % s.plcaLen (i - 48))).sendField i data

/-- A port starts its oldest non-point frame at `time`, or holds it (R216, R217). -/
def nonpointFrameTransmitEff (i : Fin 64) (time : Nat) (s : State) : State :=
  if !s.on (F.FLD_PSTAT_LINK i) || s.inReset 9 then s
  else
    match s.queue (fieldTx i) with
    | [] => s
    | k :: _ =>
      if s.maySend i time k.data.length then
        match s.takePkt (fieldTx i) with
        | (none, t) => t
        | (some k, t) => t.sendAt i time k.data
      else if i.val < 48 && !s.isHeld i k.seq then (s.setHeld i k.seq).addSat (F.FLD_TXDEFER_CNT i) 1
      else s

/-- NONPOINT_FRAME_TRANSMIT (R216). -/
def execNonpointFrameTransmit (i : Fin 64) (time : Nat) (s : State) : Host.Outcome State Fault Refusal :=
  .next (nonpointFrameTransmitEff i time s)

/-! ## MDIO (R244, R245) -/

/-- A write to FLD_MDIO (R244, R245). A write while an access runs has no effect. -/
def State.writeMdio (s : State) (v : Word) : State :=
  if s.on F.FLD_MDIO_GO then s
  else
    let port := fieldOf v 29 24
    let wr := fieldOf v 30 30 = 1
    let t := s.setReg Reg.FLD_MDIO (v &&& 0x7F1FFFFF)
    if fieldOf v 31 31 = 0 then t
    else if wr && (!s.fieldFitted port || s.on (F.FLD_PCTL_EN port)) then t.badVal
    else if !wr && !s.fieldFitted port then (t.setF F.FLD_MDIO_DATA 0).badVal
    else (t.setF F.FLD_MDIO_GO 1).emit
      (.mdio port (fieldOf v 20 16) (s.rf F.FLD_MDIOA_REGAD) (if wr then some (fieldOf v 15 0) else none))

/-- MDIO_ACCESS (R245). -/
def mdioAccessEff (x : HPort) (v : Word) (s : State) : State := s.asWrite x 9 (s.writeMdio v)

/-- MDIO_ACCESS (R245). -/
def execMdioAccess (x : HPort) (v : Word) (s : State) : Host.Outcome State Fault Refusal := .next (mdioAccessEff x v s)

/-- The access ends; a read brings its data (R244). -/
def mdioCompleteEff (data : BitVec 16) (s : State) : State :=
  if s.on F.FLD_MDIO_GO then
    let t := if s.on F.FLD_MDIO_WR then s else s.setF F.FLD_MDIO_DATA data.toNat
    t.setF F.FLD_MDIO_GO 0
  else s

/-- MDIO_COMPLETE (R244). -/
def execMdioComplete (data : BitVec 16) (s : State) : Host.Outcome State Fault Refusal := .next (mdioCompleteEff data s)

end Sys2Proof.Machine
end

