-- ==== Sys2Proof/Machine/Power.lean ====
section
/-! DEFINITION. Field power: states, budget, faults, the PWRCTL sideband and the field port and power table (chapter
"Field Ports and Field Power"). -/

namespace Sys2Proof.Machine

/-- States of R222. -/
def Pwr.off : Nat := 0
/-- R222. -/
def Pwr.detect : Nat := 1
/-- R222. -/
def Pwr.cls : Nat := 2
/-- R222. -/
def Pwr.wait : Nat := 3
/-- R222. -/
def Pwr.on : Nat := 4
/-- R222. -/
def Pwr.backoff : Nat := 5
/-- R222. -/
def Pwr.fault : Nat := 6
/-- R222. -/
def Pwr.hold : Nat := 7

/-- The power state of a port. -/
def State.pwrState (s : State) (i : Nat) : Nat := s.rf (F.FLD_PWRSTAT_STATE i)

/-- What is kept about a port's power besides its registers. -/
def State.pwr (s : State) (i : Nat) : PortPwr := Store.get PortPwr.dflt s.fld.pwr i

/-- Replace it. -/
def State.setPwr (s : State) (i : Nat) (p : PortPwr) : State :=
  { s with fld := { s.fld with pwr := Store.put PortPwr.dflt s.fld.pwr i p } }

/-- A PWRCTL command becomes pending for a port: it replaces every other one but an OFF, which has to go first; an OFF makes all
before it void. -/
def State.pwrCmd (s : State) (i c : Nat) : State :=
  let p := s.pwr i
  s.setPwr i { p with cmds := if c = 5 then [5] else p.cmds.filter (fun k => k = 5) ++ [c] }

/-- Whether a register's new value takes effect at tick 4 (R239). -/
def atTick4 (off : Nat) : Bool :=
  (Reg.FLD_GRP 0 ≤ off && off ≤ Reg.FLD_GRP 3) || (Reg.FLD_PCLS 0 ≤ off && off ≤ Reg.FLD_PCLS 5)
    || (Reg.FLD_PWRCFG 0 ≤ off && off ≤ Reg.FLD_PWRCFG 47)

/-- A field of the power configuration as the last tick 4 found it (R239). -/
def State.fldForce (s : State) (f : Fld) : Nat :=
  fieldOf (Store.get (Reg.resetVal s.variant) s.fld.force f.off) f.hi f.lo

/-- Tick 4: charges, budgets and priorities come into force (R239). -/
def State.takePowerCfg (s : State) : State :=
  { s with fld := { s.fld with force := s.regs.filter (fun e => atTick4 e.1) } }

/-- The charge of a class, 0 where the class is barred or not supported (R224). -/
def State.charge (s : State) (c : Nat) : Nat := if 10 ≤ c && c ≤ 15 then s.fldForce (F.FLD_PCLS_CHARGE (c - 10)) else 0

/-- The current limit of a class. -/
def State.ilim (s : State) (c : Nat) : Nat := if 10 ≤ c && c ≤ 15 then s.rf (F.FLD_PCLS_ILIM (c - 10)) else 0

/-- The power group of a port. -/
def State.pwrGroup (s : State) (i : Nat) : Nat := s.rf (F.FLD_PWRCFG_GROUP i)

/-- The charged sum of a group over its ports in ON (R224). -/
def State.chargeSum (s : State) (g : Nat) : Nat :=
  (List.range 48).foldl (fun a i => if s.pwrState i = Pwr.on && s.pwrGroup i = g then a + s.charge (s.rf (F.FLD_PWRSTAT_CLASS i)) else a) 0

/-- FLD_GRPCHG follows the ports in ON (R224). -/
def State.updCharges (s : State) : State := forUpto 4 s (fun g t => t.setF (F.FLD_GRPCHG_CHG g) (t.chargeSum g))

/-- The effective budget of a group (R224). -/
def State.effBudget (s : State) (g : Nat) : Nat := min (s.fldForce (F.FLD_GRP_BUDGET g)) (s.rf (F.FLD_GRPLIM_LIMIT g))

/-- Enter a state; CLASS reads 0 outside WAIT and ON (R243), and the charged sums follow. -/
def State.pwrEnter (s : State) (i st c : Nat) : State :=
  ((s.setF (F.FLD_PWRSTAT_STATE i) st).setF (F.FLD_PWRSTAT_CLASS i) (if st = Pwr.wait || st = Pwr.on then c else 0)).updCharges

/-- Begin detection. -/
def State.toDetect (s : State) (i : Nat) : State := (s.pwrEnter i Pwr.detect 0).pwrCmd i 2

/-- Leave ON: OFF becomes pending; a switch-off that no FLD_PWRCMD ordered loses the port (R219). -/
def State.pwrOff (s : State) (i st : Nat) (ordered : Bool) : State :=
  let was := s.pwrState i = Pwr.on
  let t := (s.pwrEnter i st 0).pwrCmd i 5
  if was && !ordered then t.portLost i 1 else t

/-- Event 0x0905 of a fault (R240). -/
def State.pwrEvent (s : State) (i code : Nat) : State :=
  (s.report 0x0905 0 (wd i) (wd code)
    (wd (if code = 5 then s.rf (F.FLD_PWRMEAS_VOLT i) else s.rf (F.FLD_PWRMEAS_CURR i)))).raiseFld 1

/-- A fault that leads to BACKOFF; one that is counted raises FCNT and may lead to FAULT instead (R227, R228). -/
def State.pwrFault (s : State) (i code : Nat) (counted : Bool) : State :=
  let t := s.setF (F.FLD_PWRSTAT_FCODE i) code
  if !counted then t.pwrOff i Pwr.backoff false
  else
    let n := min 15 (t.rf (F.FLD_PWRSTAT_FCNT i) + 1)
    let t := (t.setF (F.FLD_PWRSTAT_FCNT i) n).pwrEvent i code
    t.pwrOff i (if t.rf F.FLD_PWRTIM_RETRY ≤ n then Pwr.fault else Pwr.backoff) false

/-- A class has been read or FIXCLS applies: WAIT, or FAULT where its charge is 0 (R222, R227). -/
def State.pwrClass (s : State) (i c : Nat) : State :=
  if s.charge c = 0 then ((s.setF (F.FLD_PWRSTAT_FCODE i) 9).pwrEvent i 9).pwrOff i Pwr.fault false
  else (s.pwrEnter i Pwr.wait c).setPwr i { s.pwr i with refused := false }

/-! ## The sideband (R230 to R234) -/

/-- CRC-8 of R231 over the 56 bits above it. -/
def sideCrc (w : Nat) : Nat := crcFwd 8 0x07 0 (bytesBE 7 (w / 256))

/-- A command word (R231). -/
def sideWord (cmd port cls : Nat) : BitVec 64 :=
  let w := cmd * 2 ^ 60 + port * 2 ^ 54 + cls * 2 ^ 50
  BitVec.ofNat 64 (w + sideCrc w)

/-- A response answers a command word: its CRC is good and it echoes command and port (R232, R234). -/
def sideOk (cmd resp : BitVec 64) : Bool :=
  sideCrc resp.toNat = resp.toNat % 256 && resp.toNat / 2 ^ 54 = cmd.toNat / 2 ^ 54

/-- Bits of a response. -/
def respF (r : BitVec 64) (hi lo : Nat) : Nat := r.toNat / 2 ^ lo % 2 ^ (hi + 1 - lo)

/-- Judge the readback of a port in ON (R227). -/
def State.judgeOn (s : State) (i : Nat) (r : BitVec 64) (frame : Bool) : State :=
  let pst := respF r 53 51
  let volt := respF r 46 35
  let curr := respF r 34 23
  let trip := respF r 22 21
  let p := s.pwr i
  if trip != 0 then s.pwrFault i trip true
  else if pst != 3 then s
  else
    let n (c : Bool) (k : Nat) : Nat := if c then (if frame then k + 1 else k) else 0
    let p := if p.vSeen then p else { p with vSeen := true, vOn := volt }
    let p := { p with
      overN := n (s.ilim (s.rf (F.FLD_PWRSTAT_CLASS i)) < curr) p.overN
      underN := if 10 * volt < 9 * p.vOn then p.underN + 1 else 0
      lowN := n (curr < 3) p.lowN }
    let t := s.setPwr i p
    if s.rf F.FLD_PWRTIM_TOVL ≤ p.overN then t.pwrFault i 4 true
    else if 5 ≤ p.underN then t.pwrFault i 5 true
    else if 10 * s.rf F.FLD_PWRTIM_TOPEN ≤ p.lowN then
      ((t.setF (F.FLD_PWRSTAT_FCODE i) 6).pwrOff i Pwr.detect false).pwrCmd i 2
    else t

/-- Take a port's power state from its first readback (R237). -/
def State.pwrSeed (s : State) (i : Nat) (r : BitVec 64) : State :=
  let t : State := { s with fld := { s.fld with seeds := s.fld.seeds.filter (fun k => k != i) } }
  let t := t.setPwr i { PortPwr.dflt i with wasOn := (t.pwr i).wasOn }
  if respF r 53 51 = 3 then
    (t.setPwr i { t.pwr i with vSeen := true, vOn := respF r 46 35, wasOn := true }).pwrEnter i Pwr.on (respF r 50 47)
  else t.toDetect i

/-- Take one READ response (R222, R227, R233). -/
def State.takeRead (s : State) (i : Nat) (r : BitVec 64) (frame : Bool) : State :=
  let t := (s.setF (F.FLD_PWRMEAS_VOLT i) (respF r 46 35)).setF (F.FLD_PWRMEAS_CURR i) (respF r 34 23)
  let pst := respF r 53 51
  let st := t.pwrState i
  if !t.active then t
  else if t.fld.seeds.contains i then t.pwrSeed i r
  else if st = Pwr.on then t.judgeOn i r frame
  else if st = Pwr.detect then
    if pst = 5 then
      if t.rf (F.FLD_PWRCFG_MODE i) = 1 then (t.pwrEnter i Pwr.cls 0).pwrCmd i 3
      else t.pwrClass i (t.rf (F.FLD_PWRCFG_FIXCLS i))
    else if pst = 6 then t.pwrFault i 7 (t.pwr i).wasOn
    else t
  else if st = Pwr.cls then
    if pst = 7 then
      if respF r 50 47 = 0 then t.pwrFault i 8 true else t.pwrClass i (respF r 50 47)
    else t
  else t

/-- What a transaction is for. -/
inductive SideCmd where
  | read (i : Nat)
  | extra (i : Nat)
  | grpRead (g : Nat)
  | act (i c : Nat)
  deriving DecidableEq, Repr

/-- The command word of a transaction. -/
def State.sideCmdWord (s : State) : SideCmd → BitVec 64
  | .read i => sideWord 1 i 0
  | .extra i => sideWord 1 i 0
  | .grpRead g => sideWord 6 g 0
  | .act i c => sideWord c i (if c = 4 then s.rf (F.FLD_PWRSTAT_CLASS i) else 0)

/-- Take the good response of a transaction. -/
def State.takeSide (s : State) (c : SideCmd) (r : BitVec 64) : State :=
  match c with
  | .read i => s.takeRead i r true
  | .extra i => s.takeRead i r false
  | .grpRead g => s.setF (F.FLD_GRPLIM_LIMIT g) (respF r 53 34)
  | .act i k => s.setPwr i { s.pwr i with cmds := (s.pwr i).cmds.erase k }

/-- The transactions of one frame's poll, in order (R233, R234, R236). -/
def State.pollList (s : State) : List SideCmd :=
  let ports := (List.range 48).filter (fun i => s.fieldFitted i && s.rf (F.FLD_PWRCFG_MODE i) != 0)
  let acts := ((List.range 48).filter (fun i => s.fieldFitted i)).flatMap (fun i => (s.pwr i).cmds.map (SideCmd.act i))
  ports.map SideCmd.read ++
    (if s.on F.FLD_STAT_SBLOST then []
     else (List.range 4).map SideCmd.grpRead ++
      (if s.active then acts else []))

/-- A transaction on its way: what it is for, the word it carries, whether it repeats one whose response was bad, and what the carrier
answers to it. -/
structure SideTx where
  cmd : SideCmd
  word : BitVec 64
  rep : Bool
  ans : SideResp
  deriving DecidableEq, Repr

/-- Transactions with the carrier's answers in order. -/
def sideTxs : List SideCmd → List SideResp → List SideTx
  | [], _ => []
  | c :: cs, rs => { cmd := c, word := 0, rep := false, ans := rs.headD { resp := 0, again := 0 } } :: sideTxs cs rs.tail

/-- The response to transaction `x` has arrived: a good one acts, unless the port states stay as last read (`keep`); a bad one is
repeated once and then counts as failed (R234). Answers what is to be repeated, and the failures. -/
def State.settleSide (s : State) (keep : Bool) (x : SideTx) : List SideTx × Nat × State :=
  let r := if x.rep then x.ans.again else x.ans.resp
  if sideOk x.word r then ([], 0, if keep then s else s.takeSide x.cmd r)
  else if x.rep then ([], 1, s)
  else ([{ x with rep := true }], 0, s)

/-- Run transactions: each brings on MISO the response to the one before it (`prev`), and a NOP fetches the last; the count of failed
repeats (R230, R234). `fuel` bounds the transactions. (DEDUCED, log 45) -/
def State.runSide (s : State) (keep : Bool) : Nat → Option SideTx → List SideTx → Nat × State
  | 0, _, _ => (0, s)
  | n + 1, none, c :: cs =>
    let w := s.sideCmdWord c.cmd
    (s.emit (.pwrctl w)).runSide keep n (some { c with word := w }) cs
  | _ + 1, none, [] => (0, s)
  | n + 1, some x, c :: cs =>
    let w := s.sideCmdWord c.cmd
    let (again, k, t) := (s.emit (.pwrctl w)).settleSide keep x
    let (m, u) := t.runSide keep n (some { c with word := w }) (again ++ cs)
    (m + k, u)
  | n + 1, some x, [] =>
    let (again, k, t) := (s.emit (.pwrctl (sideWord 0 0 0))).settleSide keep x
    let (m, u) := t.runSide keep n none again
    (m + k, u)

/-- Run a list of transactions with the carrier's answers. While the sideband is lost the port states stay as last read (R234). -/
def State.runPoll (s : State) (cs : List SideCmd) (rs : List SideResp) : Nat × State :=
  s.runSide (s.on F.FLD_STAT_SBLOST) (4 * cs.length + 4) none (sideTxs cs rs)

/-- Failed repeats count in the frame; the third frame in a row with one loses the sideband (R234). -/
def State.sideFailed (s : State) (failed : Nat) : State :=
  let k := s.fld.sbNow + failed
  let t : State := { s with fld := { s.fld with sbNow := k } }
  if k != 0 && 2 ≤ t.fld.sbFail && !t.on F.FLD_STAT_SBLOST then (t.report 0x0907 0 1 (wd k) 0).raiseFld 3 else t

/-- A frame's transactions begin: the frame before counts if it had a failed repeat (R234). -/
def State.sideFrame (s : State) : State :=
  { s with fld := { s.fld with sbFail := if s.fld.sbNow = 0 then 0 else s.fld.sbFail + 1, sbNow := 0 } }

/-- The outcome of a poll: a whole one without failure restores the sideband (R234). -/
def State.sideOutcome (s : State) (failed : Nat) : State :=
  if failed = 0 && s.on F.FLD_STAT_SBLOST then (s.setF F.FLD_STAT_SBLOST 0).report 0x0907 0 0 0 0 else s.sideFailed failed

/-- The frame's poll of the power stage (R233). -/
def pwrctlPollEff (rs : List SideResp) (s : State) : State :=
  if s.inReset 9 then s
  else
    let (n, t) := s.sideFrame.runPoll s.pollList rs
    t.sideOutcome n

/-- PWRCTL_POLL (R233). -/
def execPwrctlPoll (rs : List SideResp) (s : State) : Host.Outcome State Fault Refusal := .next (pwrctlPollEff rs s)

/-- PWRCTL_FLT_N falls: an extra READ of every powered port (R233), also while the sideband is lost (R234). -/
def pwrctlFltEff (rs : List SideResp) (s : State) : State :=
  if s.inReset 9 then s
  else
    let ps := (List.range 48).filter (fun i => s.fieldFitted i && s.pwrState i = Pwr.on)
    let (n, t) := s.runPoll (ps.map SideCmd.extra) rs
    t.sideFailed n

/-- PWRCTL_FLT (R227). -/
def execPwrctlFlt (rs : List SideResp) (s : State) : Host.Outcome State Fault Refusal := .next (pwrctlFltEff rs s)

/-! ## Shedding and admission at tick 4 (R225, R226) -/

/-- Ports ordered by PRIO and then by number. -/
def State.byPrio (s : State) : List Nat :=
  (List.range 4).flatMap (fun q => (List.range 48).filter (fun i => s.fldForce (F.FLD_PWRCFG_PRIO i) = q))

/-- Shed one port if its group is over its budget. -/
def State.shedPort (s : State) (i : Nat) : State :=
  let g := s.pwrGroup i
  if s.pwrState i = Pwr.on && s.effBudget g < s.chargeSum g then
    (((s.pwrOff i Pwr.backoff false).report 0x0906 0 (wd i) (wd g) (wd (s.effBudget g)))).raiseFld 2
  else s

/-- Shedding, in order of descending PRIO and descending port number (R226). -/
def State.shed (s : State) : State := s.byPrio.reverse.foldl (fun t i => t.shedPort i) s

/-- Admit one port in WAIT, or record its first refusal (R225). -/
def State.admitPort (s : State) (i : Nat) : State :=
  if s.pwrState i != Pwr.wait then s
  else
    let g := s.pwrGroup i
    let c := s.rf (F.FLD_PWRSTAT_CLASS i)
    if s.charge c = 0 then s.pwrClass i c
    else if s.chargeSum g + s.charge c ≤ s.effBudget g then
      let t := (s.pwrCmd i 4).setPwr i { (s.pwrCmd i 4).pwr i with wasOn := true, vSeen := false, overN := 0, underN := 0, lowN := 0 }
      (t.pwrEnter i Pwr.on c).report 0x0903 0 (wd i) (wd c) (wd g)
    else if (s.pwr i).refused then s
    else (s.setPwr i { s.pwr i with refused := true }).report 0x0904 0 (wd i) (wd c) (wd (s.chargeSum g))

/-- Tick 4: new charges, budgets and priorities take effect, then shedding and admission, on the active twin (R225, R226, R236,
R239); a twin that has gained ACT waits for the readbacks that give its port states (R237). -/
def State.powerTick (s : State) : State :=
  let s := s.takePowerCfg.updCharges
  if s.active && !s.inReset 9 && !s.on F.FLD_STAT_SBLOST && s.fld.seeds = [] then
    s.byPrio.foldl (fun t i => t.admitPort i) s.shed
  else s

/-! ## Timers and FLD_PWRCMD (R222, R228, R229) -/

/-- The back-off of a port ends (R222). -/
def powerBackoffExpiryEff (i : Fin 48) (s : State) : State :=
  if s.pwrState i = Pwr.backoff then s.toDetect i else s

/-- POWER_BACKOFF_EXPIRY (R222). -/
def execPowerBackoffExpiry (i : Fin 48) (s : State) : Host.Outcome State Fault Refusal := .next (powerBackoffExpiryEff i s)

/-- 60 s in ON (R228). -/
def faultCountClearEff (i : Fin 48) (s : State) : State :=
  if s.pwrState i = Pwr.on then s.setF (F.FLD_PWRSTAT_FCNT i) 0 else s

/-- FAULT_COUNT_CLEAR (R228). -/
def execFaultCountClear (i : Fin 48) (s : State) : Host.Outcome State Fault Refusal := .next (faultCountClearEff i s)

/-- Operation CLEAR (R229). -/
def State.pwrClear (s : State) (i : Nat) : State :=
  let t := (s.setF (F.FLD_PWRSTAT_FCNT i) 0).setPwr i { s.pwr i with wasOn := false }
  if t.pwrState i = Pwr.fault || t.pwrState i = Pwr.hold then t.toDetect i else t

/-- Operation CYCLE (R229): OFF now, DETECT after 1 s. FAULT and HOLD are left only by CLEAR (R222). -/
def State.pwrCycle (s : State) (i : Nat) : State :=
  if s.pwrState i = Pwr.fault || s.pwrState i = Pwr.hold then s
  else
    let t := s.pwrOff i Pwr.off true
    t.setPwr i { t.pwr i with cycling := true }

/-- Operation HOLD (R229). -/
def State.pwrHold (s : State) (i : Nat) : State := s.pwrOff i Pwr.hold true

/-- A write to FLD_PWRCMD (R229, R242): one for an undefined operation or port, or for a port whose MODE is OFF, is ignored. -/
def State.writePwrCmd (s : State) (v : Word) : State :=
  let op := fieldOf v 31 30
  let i := fieldOf v 5 0
  if op = 0 || 48 ≤ i || !s.fieldFitted i || s.rf (F.FLD_PWRCFG_MODE i) = 0 then s.badVal
  else if op = 1 then s.pwrClear i
  else if op = 2 then s.pwrCycle i
  else s.pwrHold i

/-- A write of one operation by port `x`. -/
def State.hostPwrCmd (s : State) (x : HPort) (op i : Nat) : State :=
  s.asWrite x 9 (s.writePwrCmd (wd (op * 2 ^ 30 + i)))

/-- POWER_CLEAR (R229). -/
def execPowerClear (x : HPort) (i : Fin 64) (s : State) : Host.Outcome State Fault Refusal := .next (s.hostPwrCmd x 1 i)

/-- POWER_CYCLE (R229). -/
def execPowerCycle (x : HPort) (i : Fin 64) (s : State) : Host.Outcome State Fault Refusal := .next (s.hostPwrCmd x 2 i)

/-- POWER_HOLD (R229). -/
def execPowerHold (x : HPort) (i : Fin 64) (s : State) : Host.Outcome State Fault Refusal := .next (s.hostPwrCmd x 3 i)

/-- The second of a CYCLE is over (R229). -/
def powerCycleExpiryEff (i : Fin 48) (s : State) : State :=
  if (s.pwr i).cycling && s.pwrState i = Pwr.off then
    (s.setPwr i { s.pwr i with cycling := false }).toDetect i
  else s

/-- POWER_CYCLE_EXPIRY (R229). -/
def execPowerCycleExpiry (i : Fin 48) (s : State) : Host.Outcome State Fault Refusal := .next (powerCycleExpiryEff i s)

/-! ## The field port and power table (R238, R239) -/

/-- The registers the image carries, in its order (R238). -/
def fieldImageRegs : List Nat :=
  [Reg.FLD_CTL] ++ (List.range 4).map Reg.FLD_GRP ++ (List.range 6).map Reg.FLD_PCLS ++ [Reg.FLD_PWRTIM] ++
  (List.range 16).map Reg.FLD_PLCA ++ (List.range 64).map Reg.FLD_PCTL ++ (List.range 48).map Reg.FLD_PWRCFG ++
  (List.range 1024).flatMap (fun n => [Reg.FLD_AFL n, Reg.FLD_AFH n])

/-- The cases of R238 and R243 that reject a word of the image. -/
def State.fieldWordBad (s : State) (off : Nat) (v : Word) : Bool :=
  !wordOk off v || (s.variant.absent off && v != 0)
    || (Reg.FLD_PCTL 48 ≤ off && off ≤ Reg.FLD_PCTL 63 && fieldOf v 19 16 != 0)
    || (Reg.FLD_PWRCFG 0 ≤ off && off ≤ Reg.FLD_PWRCFG 47 &&
        !((10 ≤ fieldOf v 27 24) || (fieldOf v 27 24 = 0 && fieldOf v 31 30 != 2)))

/-- A port's settings change: a link whose EN, LEVEL or ROLE changes falls and is negotiated again (R239). -/
def State.setPctl (s : State) (i : Nat) (v : Word) : State :=
  let old := s.reg (Reg.FLD_PCTL i)
  let t := s.setReg (Reg.FLD_PCTL i) v
  if fieldOf old 31 31 != fieldOf v 31 31 || fieldOf old 19 16 != fieldOf v 19 16 then t.linkDown i else t

/-- A port's power settings change: a mode that becomes OFF switches it off, a powered mode begins detection (R222, R223). -/
def State.setPwrCfg (s : State) (i : Nat) (v : Word) : State :=
  let old := s.rf (F.FLD_PWRCFG_MODE i)
  let new := fieldOf v 31 30
  let t := s.setReg (Reg.FLD_PWRCFG i) v
  if new = 0 then
    if old = 0 then t else (t.pwrOff i Pwr.off false).setPwr i { PortPwr.dflt i with cmds := [5], wasOn := (t.pwr i).wasOn }
  else if old = 0 then t.toDetect i
  else t.updCharges

/-- Put one word of an accepted image into force (R239). -/
def State.applyFieldWord (s : State) (e : Nat × Word) : State :=
  let (off, v) := e
  if Reg.FLD_PCTL 0 ≤ off && off ≤ Reg.FLD_PCTL 63 then s.setPctl ((off - Reg.FLD_PCTL 0) / 4) v
  else if Reg.FLD_PWRCFG 0 ≤ off && off ≤ Reg.FLD_PWRCFG 47 then s.setPwrCfg ((off - Reg.FLD_PWRCFG 0) / 4) v
  else s.setReg off v

/-- The field port and power table's image (R238, R239). -/
def fieldTableBody (ws : List Word) (s : State) (_id : Nat) : CmdEnd :=
  let es := fieldImageRegs.zip ws
  match es.findIdx? (fun e => s.fieldWordBad e.1 e.2) with
  | some k => rejected s (wd k) 0
  | none =>
    let t := es.foldl (fun t e => t.applyFieldWord e) s
    accepted { t with twn := { t.twn with crc04 := crc32Words ws } }

/-- CFG_LOAD of the field port and power table (R238). -/
def cfgLoadFieldPortTableEff (x : HPort) (p : Part) (d : Desc) (s : State) : State :=
  s.cfgLoad x p d 0x04 (d.len = 8752) true fieldTableBody

/-- CFG_LOAD_FIELD_PORT_TABLE (R238). -/
def execCfgLoadFieldPortTable (x : HPort) (p : Part) (d : Desc) (s : State) : Host.Outcome State Fault Refusal :=
  .next (cfgLoadFieldPortTableEff x p d s)

/-! ## Twin and block reset (R237, R691) -/

/-- The power states are taken anew from the next readbacks, and nothing that waited from before is sent (R237). -/
def State.seedPower (s : State) : State :=
  let s := forUpto 48 s (fun i t => t.setPwr i { t.pwr i with cmds := [] })
  { s with fld := { s.fld with
      seeds := (List.range 48).filter (fun i => s.fieldFitted i && s.rf (F.FLD_PWRCFG_MODE i) != 0) } }

/-- The FLD block enters reset: every link falls, no counter and no event yet, and the stations of every port go stale (R691). -/
def State.fldResetIn (s : State) : State :=
  let up := (List.range 64).filter (fun i => s.on (F.FLD_PSTAT_LINK i))
  let t : State := { s with fld := { s.fld with fell := s.fld.fell ++ up } }
  let lost := (List.range 64).filter (fun i => up.contains i || s.stns.any (fun e => e.port = i))
  let t := lost.foldl (fun t i => (t.clearLink i).portLost i 0) t
  forUpto 64 t (fun i t => (t.flushNow (256 + i)).flushNow (fieldTx i))

/-- The FLD block is released: the events of the links that fell, and the power states from their readbacks (R691). -/
def State.fldResetOut (s : State) : State :=
  let t := s.fld.fell.foldl (fun t i => (t.report 0x0902 0 (wd i) (t.reg (Reg.FLD_RXOK i)) 0).raiseFld 0) s
  ({ t with fld := { t.fld with fell := [] } }).seedPower

end Sys2Proof.Machine
end

