-- ==== Sys2Proof/Machine/Logic.lean ====
section
/-! DEFINITION. The logic engine: decoding and verification of programs, tasks, cycles and instructions, and its ring
commands (chapter "Cyclic Logic Engine"). -/

namespace Sys2Proof.Machine

/-! ## Instruction words (R308 to R313) -/

/-- A bit operand (R308). -/
structure BitOp where
  sp : Nat
  index : Nat
  bit : Nat
  deriving DecidableEq, Repr

/-- A decoded instruction (R311). -/
inductive LgeI where
  | stop
  | nop
  | ldk (b : Bool)
  | ld (o : BitOp)
  | ldn (o : BitOp)
  | and (o : BitOp)
  | andn (o : BitOp)
  | or (o : BitOp)
  | orn (o : BitOp)
  | xor (o : BitOp)
  | st (o : BitOp)
  | stn (o : BitOp)
  | set (o : BitOp)
  | rst (o : BitOp)
  | bro
  | brca
  | brco
  | re (m : Nat)
  | fe (m : Nat)
  | ton (n l : Nat)
  | tof (n l : Nat)
  | ctu (n : Nat) (l : Word)
  | ctd (n : Nat) (l : Word)
  | cres (n : Nat)
  | cmp (comb cond pt : Nat) (l : Word)
  | movk (pt : Nat) (l : Word)
  | mov (dst src : Nat)
  | jc (ofs : Nat)
  | jnc (ofs : Nat)
  deriving DecidableEq, Repr

/-- The outcome of decoding: an instruction, an instruction whose literal breaks its range, or no instruction. -/
inductive LgeDec where
  | ok (i : LgeI)
  | badWord
  | badLit (i : LgeI)
  deriving DecidableEq, Repr

/-- Whether an instruction word carries a 32-bit literal (R311). -/
def twoWords (w : Word) : Bool := [0x18, 0x19, 0x1A, 0x1B, 0x20, 0x24, 0x25].contains (fieldOf w 31 26)

/-- The bit operand of a word, if its reserved bits are 0 and its INDEX and BIT lie in its space (R308). -/
def bitOperand (w : Word) : Option BitOp :=
  let o : BitOp := { sp := fieldOf w 25 24, index := fieldOf w 20 5, bit := fieldOf w 4 0 }
  if fieldOf w 23 21 != 0 then none
  else if o.sp != 0 && o.bit != 0 then none
  else if (o.sp = 2 && 4096 ≤ o.index) || (o.sp = 3 && 512 ≤ o.index) then none
  else some o

/-- Decode an instruction with a bit operand. -/
def decBit (w : Word) (f : BitOp → LgeI) : LgeDec :=
  match bitOperand w with
  | some o => .ok (f o)
  | none => .badWord

/-- Decode an instruction whose operand bits are all 0. -/
def decNone (w : Word) (i : LgeI) : LgeDec := if fieldOf w 25 0 = 0 then .ok i else .badWord

/-- Decode an edge instruction on a marker. (DEDUCED, log 141) -/
def decEdge (w : Word) (f : Nat → LgeI) : LgeDec :=
  match bitOperand w with
  | some o => if o.sp = 2 then .ok (f o.index) else .badWord
  | none => .badWord

/-- Decode an instruction on a timer or counter number. -/
def decNum (w : Word) (litOk : Bool) (f : Nat → LgeI) : LgeDec :=
  if fieldOf w 25 8 != 0 then .badWord else if litOk then .ok (f (fieldOf w 7 0)) else .badLit (f (fieldOf w 7 0))

/-- Decode a jump. -/
def decJump (w : Word) (f : Nat → LgeI) : LgeDec := if fieldOf w 25 18 = 0 then .ok (f (fieldOf w 17 0)) else .badWord

/-- Decode an instruction word with the word after it (R311 to R313, R316). -/
def lgeDecode (w l : Word) : LgeDec :=
  match fieldOf w 31 26 with
  | 0x00 => decNone w .stop
  | 0x01 => decNone w .nop
  | 0x02 => if fieldOf w 25 1 = 0 then .ok (.ldk (fieldOf w 0 0 = 1)) else .badWord
  | 0x04 => decBit w .ld
  | 0x05 => decBit w .ldn
  | 0x06 => decBit w .and
  | 0x07 => decBit w .andn
  | 0x08 => decBit w .or
  | 0x09 => decBit w .orn
  | 0x0A => decBit w .xor
  | 0x0C => decBit w .st
  | 0x0D => decBit w .stn
  | 0x0E => decBit w .set
  | 0x0F => decBit w .rst
  | 0x10 => decNone w .bro
  | 0x11 => decNone w .brca
  | 0x12 => decNone w .brco
  | 0x14 => decEdge w .re
  | 0x15 => decEdge w .fe
  | 0x18 => decNum w (l.toNat ≤ 0x7FFFFFFF) (fun n => .ton n l.toNat)
  | 0x19 => decNum w (l.toNat ≤ 0x7FFFFFFF) (fun n => .tof n l.toNat)
  | 0x1A => decNum w true (fun n => .ctu n l)
  | 0x1B => decNum w true (fun n => .ctd n l)
  | 0x1C => decNum w true .cres
  | 0x20 =>
    if fieldOf w 20 16 = 0 && fieldOf w 25 24 ≤ 2 && fieldOf w 23 21 ≤ 5 then
      .ok (.cmp (fieldOf w 25 24) (fieldOf w 23 21) (fieldOf w 15 0) l) else .badWord
  | 0x24 => if fieldOf w 25 16 = 0 then .ok (.movk (fieldOf w 15 0) l) else .badWord
  | 0x25 =>
    if fieldOf w 25 16 != 0 then .badWord
    else
      let i : LgeI := .mov (fieldOf w 15 0) (fieldOf l 15 0)
      if fieldOf l 31 16 = 0 then .ok i else .badLit i
  | 0x28 => decJump w .jc
  | 0x29 => decJump w .jnc
  | _ => .badWord

/-- One instruction of a linear sweep: its offset, what it decodes to, and whether its literal is missing. -/
structure LgeLine where
  ofs : Nat
  dec : LgeDec
  cut : Bool
  two : Bool
  deriving DecidableEq, Repr

/-- Decode a region from its start, one instruction after another (R304). -/
def lgeSweep : Nat → List Word → List LgeLine
  | _, [] => []
  | o, [w] => [{ ofs := o, dec := lgeDecode w 0, cut := twoWords w, two := false }]
  | o, w :: l :: rest =>
    if twoWords w then { ofs := o, dec := lgeDecode w l, cut := false, two := true } :: lgeSweep (o + 2) rest
    else { ofs := o, dec := lgeDecode w l, cut := false, two := false } :: lgeSweep (o + 1) (l :: rest)

/-! ## Checks (R305 to R307) -/

/-- A reference to a point: which point, whether it is written, whether the literal word names it, how it is viewed (0 bit,
1 quality, 2 word), and the bit. -/
structure LgeRef where
  pt : Nat
  wr : Bool
  lit : Bool
  view : Nat
  bit : Nat
  deriving DecidableEq, Repr

/-- The reference of a bit operand, if it names a point. -/
def bitRef (o : BitOp) (wr : Bool) : List LgeRef :=
  if o.sp ≤ 1 then [{ pt := o.index, wr := wr, lit := false, view := o.sp, bit := o.bit }] else []

/-- A reference in the word view. -/
def wordRef (pt : Nat) (wr lit : Bool) : LgeRef := { pt := pt, wr := wr, lit := lit, view := 2, bit := 0 }

/-- The points an instruction names. -/
def LgeI.refs : LgeI → List LgeRef
  | .ld o | .ldn o | .and o | .andn o | .or o | .orn o | .xor o => bitRef o false
  | .st o | .stn o | .set o | .rst o => bitRef o true
  | .cmp _ _ pt _ => [wordRef pt false false]
  | .movk pt _ => [wordRef pt true false]
  | .mov dst src => [wordRef dst true false, wordRef src false true]
  | _ => []

/-- The points an instruction writes. -/
def LgeI.written (i : LgeI) : List Nat := (i.refs.filter (fun r => r.wr)).map (fun r => r.pt)

/-- Whether an instruction writes a read-only space: timer and counter outputs, or the quality view (R309). -/
def LgeI.writesRO : LgeI → Bool
  | .st o | .stn o | .set o | .rst o => o.sp = 1 || o.sp = 3
  | _ => false

/-- The reasons a reference fails against a point (R305, reasons 0x02 to 0x04), for task `t` tagged `tag`. -/
def refFaults (look : Nat → Point) (t tag : Nat) (r : LgeRef) : List Nat :=
  let p := look r.pt
  if !p.valid then [2]
  else
    (if tag != 0 && p.tag != tag then [2] else [])
    ++ (if r.wr && r.view != 1 && !(p.tag = tag && p.wsrc = 1 && p.widx = t) then [3] else [])
    ++ (if (r.view = 0 && p.fmt = 0 && r.bit != 0) || (r.view = 2 && p.fmt = 0) then [4] else [])

/-- Whether a MOV joins points of different formats (R313). (DEDUCED, log 137) -/
def movMismatch (look : Nat → Point) : LgeI → Bool
  | .mov d c => (look d).valid && (look c).valid && (look d).fmt != (look c).fmt
  | _ => false

/-- The failures (offset, reason) of an instruction's operands: every field that fails shows, also beside a literal out of
its range or a literal the region cuts off. -/
def operandFaults (look : Nat → Point) (t tag ofs : Nat) (cut : Bool) (i : LgeI) : List (Nat × Nat) :=
  (i.refs.filter (fun r => !(r.lit && cut))).flatMap
      (fun r => (refFaults look t tag r).map (fun n => (if r.lit then ofs + 1 else ofs, n)))
  ++ (if i.writesRO then [(ofs, 4)] else [])
  ++ (if !cut && movMismatch look i then [(ofs, 4)] else [])

/-- The failures (offset, reason) of one instruction by itself. -/
def lineFaults (look : Nat → Point) (t tag : Nat) (k : LgeLine) : List (Nat × Nat) :=
  (if k.cut then [(k.ofs, 6)] else []) ++
  match k.dec with
  | .badWord => [(k.ofs, 1)]
  | .badLit i => (k.ofs + 1, 1) :: operandFaults look t tag k.ofs k.cut i
  | .ok i => operandFaults look t tag k.ofs k.cut i

/-- The jump distance of an instruction. -/
def LgeI.jump : LgeI → Option Nat
  | .jc n => some n
  | .jnc n => some n
  | _ => none

/-- Jump failures (R305, reason 0x05). -/
def jumpFaults (ks : List LgeLine) : List (Nat × Nat) :=
  ks.flatMap (fun k => match k.dec with
    | .ok i => match i.jump with
      | some n => if n = 0 || !ks.any (fun j => j.ofs = k.ofs + n) then [(k.ofs, 5)] else []
      | none => []
    | _ => [])

/-- Reachability of the region's end (R305, reason 0x07): `fall` says that the instruction before falls through. -/
def endFaults : List LgeLine → Bool → List Nat → List (Nat × Nat)
  | [], _, _ => []
  | k :: ks, fall, targets =>
    let here := fall || targets.contains k.ofs
    let i := match k.dec with
      | .ok i => i
      | _ => .nop
    let falls := here && i != .stop
    let targets := match i.jump with
      | some n => if here then (k.ofs + n) :: targets else targets
      | none => targets
    match ks with
    | [] => if falls && !k.cut then [(k.ofs, 7)] else []
    | _ => endFaults ks falls targets

/-- Which single-user timer or counter an instruction names (R305, reason 0x08): kind and number. -/
def LgeI.owner : LgeI → Option (Nat × Nat)
  | .ton n _ => some (0, n)
  | .tof n _ => some (0, n)
  | .ctu n _ => some (1, n)
  | .ctd n _ => some (2, n)
  | _ => none

/-- The instruction a line holds, its literal in range or not. -/
def LgeLine.inst (k : LgeLine) : Option LgeI :=
  match k.dec with
  | .ok i => some i
  | .badLit i => some i
  | .badWord => none

/-- Second users of a timer or counter. -/
def ownerFaults : List LgeLine → List (Nat × Nat) → List (Nat × Nat)
  | [], _ => []
  | k :: ks, seen =>
    match k.inst.bind LgeI.owner with
    | some u => (if seen.contains u then [(k.ofs, 8)] else []) ++ ownerFaults ks (u :: seen)
    | none => ownerFaults ks seen

/-- The points as a task's verification sees them: to a tenant's task a point of another tag is as one that does not exist (R92,
R111). -/
def seenPoint (look : Nat → Point) (tag i : Nat) : Point :=
  if tag != 0 && (look i).tag != tag then Point.dflt i else look i

/-- All failures of a region (R305). -/
def lgeFaults (look : Nat → Point) (t tag : Nat) (ws : List Word) : List (Nat × Nat) :=
  let ks := lgeSweep 0 ws
  let look := seenPoint look tag
  ks.flatMap (lineFaults look t tag) ++ jumpFaults ks ++ endFaults ks true [] ++ ownerFaults ks []

/-- The failure reported: the lowest offset, then the lowest reason (R304). -/
def leastFault : List (Nat × Nat) → Option (Nat × Nat)
  | [] => none
  | f :: fs =>
    match leastFault fs with
    | none => some f
    | some g => if f.1 < g.1 || (f.1 = g.1 && f.2 ≤ g.2) then some f else some g

/-- The cycles of an instruction on the longest path: a jump counts as taken (R311, R319). -/
def LgeI.worstCycles : LgeI → Nat
  | .ton _ _ | .tof _ _ | .ctu _ _ | .ctd _ _ | .cmp _ _ _ _ | .movk _ _ | .mov _ _ | .jc _ | .jnc _ => 2
  | _ => 1

/-- A list with the points of another that it lacks. -/
def addPoints (ps wr : List Nat) : List Nat := ps.foldl (fun a p => if a.contains p then a else p :: a) wr

/-- The longest path from offset `tgt` on, with the points written so far: instruction cycles, and one cycle for each
distinct point written (R319). Jumps go only forward. -/
def longestPath : List LgeLine → Nat → List Nat → Nat
  | [], _, wr => wr.length
  | k :: ks, tgt, wr =>
    if k.ofs < tgt then longestPath ks tgt wr
    else
      match k.dec with
      | .ok i =>
        let wr := addPoints i.written wr
        match i.jump with
        | some n => 2 + max (longestPath ks 0 wr) (longestPath ks (k.ofs + n) wr)
        | none => if i = .stop then 1 + wr.length else i.worstCycles + longestPath ks 0 wr
      | _ => longestPath ks 0 wr

/-- The worst-case cycle count of a region (R319). -/
def worstCase (ws : List Word) : Nat := 4 + longestPath (lgeSweep 0 ws) 0 []

/-! ## Tasks -/

/-- A task's running part. -/
def State.task (s : State) (t : Nat) : LgeTask := Store.get LgeTask.dflt s.lge.tasks t

/-- Replace it. -/
def State.setTask (s : State) (t : Nat) (k : LgeTask) : State :=
  { s with lge := { s.lge with tasks := Store.put LgeTask.dflt s.lge.tasks t k } }

/-- A task's state: 0 STOP, 1 RUN, 2 HALT (R301). -/
def State.taskState (s : State) (t : Nat) : Nat := s.rf (F.LGE_TSTAT_STATE t)

/-- The tag of a task that exists (R297). -/
def State.taskTag (s : State) (t : Nat) : Option Nat :=
  if s.on (F.LGE_TCFG_EN t) then some (s.rf (F.LGE_TCFG_TAG t)) else none

/-- The words in a task's region (R299). -/
def State.regionLen (s : State) (t : Nat) : Nat := 256 * s.rf (F.LGE_TCFG_SIZE t)

/-- The first word of a task's region. -/
def State.regionBase (s : State) (t : Nat) : Nat := 256 * s.rf (F.LGE_TCFG_BASE t)

/-- Program memory at an offset of a task's region. -/
def State.progWord (s : State) (t o : Nat) : Word := Store.get wordZero s.lge.prog (s.regionBase t + o)

/-- A task's whole region. -/
def State.region (s : State) (t : Nat) : List Word := Store.getList wordZero s.lge.prog (s.regionBase t) (s.regionLen t)

/-- The points a task writes (R22). -/
def State.taskPoints (s : State) (t : Nat) : List (Nat × Point) :=
  s.allPoints.filter (fun e => e.2.wsrc = 1 && e.2.widx = t)

/-- Set a bit of LGE_STAT (R332). -/
def State.raiseLge (s : State) (bit : Nat) : State := s.raise Reg.LGE_STAT Reg.LGE_IEN 11 bit

/-- The frame count LGE_FC. -/
def State.lgeFc (s : State) : Nat := s.rf F.LGE_FC_FC

/-- Set or clear SRCFLT on points. -/
def State.srcFault (s : State) (ps : List (Nat × Point)) (b : Bool) : State := ps.foldl (fun t e => t.qbit e.1 6 b) s

/-- The tag of a task for its events. -/
def State.taskEvTag (s : State) (t : Nat) : Nat := s.rf (F.LGE_TCFG_TAG t)

/-- Put a task into a state with event 0x0B03 for the issuing partition (R331). (DEDUCED, log 129) -/
def State.taskMove (s : State) (t st p : Nat) : State :=
  ((s.setF (F.LGE_TSTAT_STATE t) st).report 0x0B03 (s.taskEvTag t) (wd t) (wd st) (wd p)).raiseLge 0

/-- A task enters STOP: a late cycle is abandoned, SRCFLT ends after a HALT, and waiting STOP commands complete (R326, R327,
R329). -/
def State.taskStop (s : State) (t p : Nat) : State :=
  let k := s.task t
  let u := if s.taskState t = 2 then s.srcFault (s.taskPoints t) false else s
  let u := u.setTask t { k with
    stack := []
    busy := false
    staged := []
    due := false
    late := false
    skip := false
    stops := [] }
  let u := u.taskMove t 0 p
  k.stops.foldl (fun u e => u.completeLate e.1 e.2.1 e.2.2 St.success (wd u.lgeFc) 0) u

/-- The partition for which a waiting STOP was issued. -/
def stopPart (k : LgeTask) : Nat :=
  match k.stops with
  | e :: _ => e.2.1
  | [] => 0

/-- A cycle halts at offset `ofs` (R325). A STOP that waited for its end then acts on the task in HALT.
(DEDUCED, log 129) -/
def State.taskHalt (s : State) (t cause ofs : Nat) : State :=
  let k := s.task t
  let u := s.setTask t { k with
    busy := false
    staged := []
    stack := []
    due := false
    late := false
    turned := true }
  let u := (((u.setF (F.LGE_TSTAT_STATE t) 2).setF (F.LGE_TSTAT_HCAUSE t) cause).setF (F.LGE_TSTAT_DEPTH t) k.stack.length).setF
    (F.LGE_THPC_OFS t) ofs
  let u := (u.taskPoints t).foldl (fun u e => u.setImg e.1 e.2.failValue) u
  let u := u.srcFault (u.taskPoints t) true
  let u := ((u.report 0x0B02 (s.taskEvTag t) (wd t) (wd cause) (wd ofs)).raiseLge 2).raiseLge 0
  if k.stops = [] then u else u.taskStop t (stopPart k)

/-! ## The window and its turns (R320 to R323) -/

/-- Begin a task's turn: a due cycle starts with four cycles and an empty stack; what ACC holds then is open.
(DESIGN CHOICE, log 46) -/
def State.beginTurn (s : State) (t : Nat) : State :=
  let k := s.task t
  let u : State := { s with lge := { s.lge with turn := some t } }
  if k.busy then u.setTask t { k with spent := 0 }
  else u.useFree.setTask t { k with
    acc := u.freeVal.toNat % 2 = 1
    stack := []
    pc := 0
    busy := true
    staged := []
    spent := 4
    cyc := 4
    due := false
    lastPc := 0 }

/-- The next task with work, in ascending number, gets its turn (R321). -/
def State.nextTurn (s : State) : State :=
  let s : State := { s with lge := { s.lge with turn := none } }
  match (List.range 16).find? (fun t => s.taskState t = 1 && !(s.task t).turned && ((s.task t).busy || (s.task t).due)) with
  | some t => s.beginTurn t
  | none => s

/-- The turn of task `t` ends with its budget spent: its cycle waits for the next window, and a STOP that waited for its end takes
effect at once (R321, R327). -/
def State.endTurn (s : State) (t : Nat) : State :=
  let k := s.task t
  (if k.stops = [] then s.setTask t { k with turned := true } else s.taskStop t (stopPart k)).nextTurn

/-- Task `t` in RUN, with the mark set once the frame that has begun is its first due frame or a later one (R320). -/
def State.begin (s : State) (t : Nat) : LgeTask :=
  let k := s.task t
  { k with begun := k.begun || (s.lgeFc + 2 ^ 32 - k.startFc % 2 ^ 32) % 2 ^ 32 < 2 ^ 31 }

/-- Whether LGE_FC is congruent to PHASE modulo PERIOD (R320). -/
def State.taskDue (s : State) (t : Nat) : Bool :=
  let n := s.rf (F.LGE_TSCH_PERIOD t)
  n != 0 && s.lgeFc % n = s.rf (F.LGE_TSCH_PHASE t) % n

/-- A frame begins for a task in RUN: a due start is made ready, or skipped after a late cycle or while one is unfinished (R320,
R322). -/
def State.frameTask (s : State) (t : Nat) : LgeTask :=
  let k := s.begin t
  if !(k.begun && s.taskDue t) then k
  else if k.skip then { k with skip := false }
  else if k.busy || k.due then k
  else { k with due := true, dueFc := s.lgeFc, cyc := 0 }

/-- A frame begins: LGE_FC advances, and the tasks in RUN take their due starts (R316, R320). -/
def State.lgeFrame (s : State) : State :=
  forUpto 16 (s.setF F.LGE_FC_FC ((s.lgeFc + 1) % 2 ^ 32))
    (fun t u => if u.taskState t = 1 then u.setTask t (u.frameTask t) else u)

/-- The window opens when the input latch completes (R315, R321). -/
def State.openWindow (s : State) : State :=
  let s : State := { s with lge := { s.lge with latched := s.ptx.image, latchedQ := s.ptx.qual, window := true, turn := none } }
  if s.inReset 11 then s
  else (forUpto 16 s (fun t u => u.setTask t { u.task t with turned := false, spent := 0 })).nextTurn

/-- The deadline at tick 6 (R322): the window closes, and a cycle not at END in the frame it was due in is late, also one that a
stalled engine has not begun: it then starts in the task's next turn. -/
def State.lgeDeadline (s : State) : State :=
  let s : State := { s with lge := { s.lge with window := false, turn := none } }
  forUpto 16 s (fun t u =>
    let k := u.task t
    if u.taskState t != 1 || !(k.busy || k.due) || k.late then u
    else
      let u := u.setTask t { k with late := true, skip := true }
      let u := (u.setF (F.LGE_TSTAT_OVR t) 1).addSat (F.LGE_TOVR_CNT t) 1
      let u := (u.report 0x0B01 (u.taskEvTag t) (wd t) (wd k.dueFc) (wd k.cyc)).raiseLge 1
      if k.stops = [] then u else u.taskStop t (stopPart k))

/-! ## Reading and writing within a cycle (R309, R314, R315) -/

/-- The value the current cycle reads of a point. -/
def State.cycRead (s : State) (t pt : Nat) : Word :=
  match (s.task t).staged.find? (fun e => e.1 = pt) with
  | some e => e.2
  | none => if (s.pt pt).wsrc = 1 then s.img pt else Store.get wordZero s.lge.latched pt

/-- QBAD as the quality view presents it. -/
def State.cycQbad (s : State) (pt : Nat) : Bool :=
  let q := if (s.pt pt).wsrc = 1 then s.rawQual pt else Store.get wordZero s.lge.latchedQ pt
  fieldOf (withQbad q) 7 7 = 1

/-- A timer. -/
def State.timer (s : State) (t n : Nat) : LgeTimer := Store.get LgeTimer.dflt s.lge.timers (256 * t + n)

/-- Replace a timer. -/
def State.setTimer (s : State) (t n : Nat) (v : LgeTimer) : State :=
  { s with lge := { s.lge with timers := Store.put LgeTimer.dflt s.lge.timers (256 * t + n) v } }

/-- A counter. -/
def State.counter (s : State) (t n : Nat) : LgeCounter := Store.get LgeCounter.dflt s.lge.counters (256 * t + n)

/-- Replace a counter. -/
def State.setCounter (s : State) (t n : Nat) (v : LgeCounter) : State :=
  { s with lge := { s.lge with counters := Store.put LgeCounter.dflt s.lge.counters (256 * t + n) v } }

/-- A marker bit. -/
def State.marker (s : State) (t m : Nat) : Bool := Store.get noFlag s.lge.markers (4096 * t + m)

/-- Replace a marker bit. -/
def State.setMarker (s : State) (t m : Nat) (b : Bool) : State :=
  { s with lge := { s.lge with markers := Store.put noFlag s.lge.markers (4096 * t + m) b } }

/-- The bit an operand names (R308, R309). -/
def State.readOp (s : State) (t : Nat) (o : BitOp) : Bool :=
  match o.sp with
  | 0 => bitOf (s.cycRead t o.index).toNat o.bit
  | 1 => s.cycQbad o.index
  | 2 => s.marker t o.index
  | _ => if o.index < 256 then (s.timer t o.index).q else (s.counter t (o.index - 256)).q

/-- Stage a point write of the cycle (R314). -/
def State.stageWrite (s : State) (t pt : Nat) (v : Word) : State :=
  let k := s.task t
  s.setTask t { k with staged := (pt, v) :: k.staged.filter (fun e => e.1 != pt) }

/-- Write the bit an operand names (R309). -/
def State.writeOp (s : State) (t : Nat) (o : BitOp) (b : Bool) : State :=
  match o.sp with
  | 0 => s.stageWrite t o.index (wd (withBit (s.cycRead t o.index).toNat o.bit b))
  | 2 => s.setMarker t o.index b
  | _ => s

/-- Set ACC. -/
def State.setAcc (s : State) (t : Nat) (b : Bool) : State := s.setTask t { s.task t with acc := b }

/-! ## Timers, counters and comparison (R312, R316, R317) -/

/-- Evaluate a timer with input `a`, `d` frames after its last evaluation (R316). -/
def evalTimer (onDelay : Bool) (k : LgeTimer) (a : Bool) (l d : Nat) (fc : Word) : LgeTimer :=
  let et :=
    if onDelay then (if a then (if k.inp then min (k.et + d) l else 0) else 0)
    else if a || k.inp then 0 else min (k.et + d) l
  let q :=
    if onDelay then a && l ≤ et
    else a || (if k.inp then 0 < l else et < l)
  { et := et, q := q, inp := a, last := fc }

/-- Run TON or TOF (R316). -/
def State.runTimer (s : State) (t n l : Nat) (onDelay : Bool) : State :=
  let k := s.timer t n
  let fc := s.reg Reg.LGE_FC
  let k' := evalTimer onDelay k (s.task t).acc l (fc - k.last).toNat fc
  (s.setTimer t n k').setAcc t k'.q

/-- Evaluate a counter: up or down, with input `a` (R317). -/
def evalCounter (up : Bool) (k : LgeCounter) (a : Bool) (l : Word) : LgeCounter :=
  if up then
    let cv := if a && !k.eu then (if k.cv.toInt < 2 ^ 31 - 1 then k.cv + 1 else k.cv) else k.cv
    { k with cv := cv, eu := a, q := l.toInt ≤ cv.toInt }
  else
    let cv := if a && !k.ed then (if -(2 ^ 31) < k.cv.toInt then k.cv - 1 else k.cv) else k.cv
    { k with cv := cv, ed := a, q := cv.toInt ≤ l.toInt }

/-- Run CTU or CTD (R317). -/
def State.runCounter (s : State) (t n : Nat) (l : Word) (up : Bool) : State :=
  let k := evalCounter up (s.counter t n) (s.task t).acc l
  (s.setCounter t n k).setAcc t k.q

/-- The relation of CMP in the format of the point (R312). -/
def compareWords (fmt cond : Nat) (v l : Word) : Bool :=
  let rel (lt eq : Bool) : Bool :=
    match cond with
    | 0 => eq
    | 1 => !eq
    | 2 => !lt && !eq
    | 3 => !lt
    | 4 => lt
    | _ => lt || eq
  if fmt = 3 then
    match (f32 v).cmp (f32 l) with
    | none => cond = 1
    | some .lt => rel true false
    | some .eq => rel false true
    | some .gt => rel false false
  else if fmt = 4 then rel (v.toNat < l.toNat) (v = l)
  else rel (v.toInt < l.toInt) (v = l)

/-- Combine ACC with a result (R312). -/
def combine (comb : Nat) (acc r : Bool) : Bool := if comb = 0 then r else if comb = 1 then acc && r else acc || r

/-! ## Executing one instruction (R311, R314, R325) -/

/-- END: the cycle commits in one step and the turn ends (R314, R321, R333). -/
def State.endCycle (s : State) (t : Nat) : State :=
  let k := s.task t
  let s := k.staged.foldl (fun u e => u.sourceWrite e.1 e.2) s
  let n := k.cyc + k.staged.length
  let shown := min n 0x3FFFF
  let s := (s.setF (F.LGE_TCYC_CNT t) shown).setF (F.LGE_TCMAX_CNT t) (max (s.rf (F.LGE_TCMAX_CNT t)) shown)
  let s := s.setTask t { k with
    busy := false
    staged := []
    late := false
    spent := k.spent + k.staged.length
    cyc := n
    turned := true }
  (if k.stops = [] then s else s.taskStop t (stopPart k)).nextTurn

/-- Charge `c` cycles and go to offset `pc`; a cycle that runs past its region halts (R325). -/
def State.goOn (s : State) (t here pc c : Nat) : State :=
  let k := s.task t
  let s := s.setTask t { k with pc := pc, spent := k.spent + c, cyc := k.cyc + c, lastPc := here }
  if s.regionLen t ≤ pc then (s.taskHalt t 9 here).nextTurn else s

/-- The cycle halts at the instruction at `here`, and the turn ends. -/
def State.haltHere (s : State) (t cause here : Nat) : State := (s.taskHalt t cause here).nextTurn

/-- A branch instruction that pops S and combines with ACC (R311). -/
def State.popWith (s : State) (t here : Nat) (f : Bool → Bool → Bool) : State :=
  let k := s.task t
  match k.stack with
  | [] => s.haltHere t 2 here
  | b :: rest => (s.setTask t { k with stack := rest, acc := f b k.acc }).goOn t here (here + 1) 1

/-- RE or FE on a marker (R311). -/
def State.edge (s : State) (t m : Nat) (rising : Bool) : State :=
  let a := (s.task t).acc
  let o := s.marker t m
  (s.setMarker t m a).setAcc t (if rising then a && !o else o && !a)

/-- A taken or untaken jump (R311). -/
def State.jumpIf (s : State) (t here n : Nat) (c : Bool) : State :=
  if c then s.goOn t here (here + n) 2 else s.goOn t here (here + 1) 1

/-- Execute the instruction at offset `here` of the task whose turn it is (R311). -/
def State.runI (s : State) (t here : Nat) (i : LgeI) : State :=
  let a := (s.task t).acc
  let one (u : State) : State := u.goOn t here (here + 1) 1
  let two (u : State) : State := u.goOn t here (here + 2) 2
  match i with
  | .stop => if (s.task t).stack = [] then
      (s.setTask t { s.task t with spent := (s.task t).spent + 1, cyc := (s.task t).cyc + 1, lastPc := here }).endCycle t
    else s.haltHere t 3 here
  | .nop => one s
  | .ldk b => one (s.setAcc t b)
  | .ld o => one (s.setAcc t (s.readOp t o))
  | .ldn o => one (s.setAcc t (!s.readOp t o))
  | .and o => one (s.setAcc t (a && s.readOp t o))
  | .andn o => one (s.setAcc t (a && !s.readOp t o))
  | .or o => one (s.setAcc t (a || s.readOp t o))
  | .orn o => one (s.setAcc t (a || !s.readOp t o))
  | .xor o => one (s.setAcc t (a != s.readOp t o))
  | .st o => one (s.writeOp t o a)
  | .stn o => one (s.writeOp t o (!a))
  | .set o => one (if a then s.writeOp t o true else s)
  | .rst o => one (if a then s.writeOp t o false else s)
  | .bro => if 16 ≤ (s.task t).stack.length then s.haltHere t 1 here
    else one (s.setTask t { s.task t with stack := a :: (s.task t).stack })
  | .brca => s.popWith t here (fun b c => b && c)
  | .brco => s.popWith t here (fun b c => b || c)
  | .re m => one (s.edge t m true)
  | .fe m => one (s.edge t m false)
  | .ton n l => two (s.runTimer t n l true)
  | .tof n l => two (s.runTimer t n l false)
  | .ctu n l => two (s.runCounter t n l true)
  | .ctd n l => two (s.runCounter t n l false)
  | .cres n => one (if a then s.setCounter t n { s.counter t n with cv := 0 } else s)
  | .cmp comb cond pt l => two (s.setAcc t (combine comb a (compareWords (s.pt pt).fmt cond (s.cycRead t pt) l)))
  | .movk pt l => two (if a then s.stageWrite t pt (normValue (s.pt pt).fmt l) else s)
  | .mov d c => two (if a then s.stageWrite t d (s.cycRead t c) else s)
  | .jc n => s.jumpIf t here n a
  | .jnc n => s.jumpIf t here n (!a)

/-- The engine executes the next instruction of the task whose turn it is, if it is one the command names; a word that does
not decode halts the task (R325). (DESIGN CHOICE, log 47) -/
def State.lgeStep (s : State) (sel : LgeI → Bool) : State :=
  match s.lge.turn with
  | none => s
  | some t =>
    let k := s.task t
    if !s.lge.window || s.inReset 11 || !k.busy || s.rf (F.LGE_TBUD_BUDGET t) ≤ k.spent then s
    else
      let w := s.progWord t k.pc
      let l := s.progWord t (k.pc + 1)
      if twoWords w && s.regionLen t ≤ k.pc + 1 then s.haltHere t 4 k.pc
      else
        match lgeDecode w l with
        | .ok i => if sel i then s.runI t k.pc i else s
        | _ => s.haltHere t 4 k.pc

/-- A turn whose budget is spent ends (R321). -/
def turnBudgetExhaustedEff (s : State) : State :=
  match s.lge.turn with
  | none => s
  | some t => if s.lge.window && s.rf (F.LGE_TBUD_BUDGET t) ≤ (s.task t).spent then s.endTurn t else s

/-- TURN_BUDGET_EXHAUSTED (R321). -/
def execTurnBudgetExhausted (s : State) : Host.Outcome State Fault Refusal := .next (turnBudgetExhaustedEff s)

/-! ### The instructions of R311 -/

/-- END (R311). -/
def execLgeEnd (s : State) : Host.Outcome State Fault Refusal := .next (s.lgeStep (fun i => i matches .stop))
/-- NOP (R311). -/
def execLgeNop (s : State) : Host.Outcome State Fault Refusal := .next (s.lgeStep (fun i => i matches .nop))
/-- LDK (R311). -/
def execLgeLdk (s : State) : Host.Outcome State Fault Refusal := .next (s.lgeStep (fun i => i matches .ldk _))
/-- LD (R311). -/
def execLgeLd (s : State) : Host.Outcome State Fault Refusal := .next (s.lgeStep (fun i => i matches .ld _))
/-- LDN (R311). -/
def execLgeLdn (s : State) : Host.Outcome State Fault Refusal := .next (s.lgeStep (fun i => i matches .ldn _))
/-- AND (R311). -/
def execLgeAnd (s : State) : Host.Outcome State Fault Refusal := .next (s.lgeStep (fun i => i matches .and _))
/-- ANDN (R311). -/
def execLgeAndn (s : State) : Host.Outcome State Fault Refusal := .next (s.lgeStep (fun i => i matches .andn _))
/-- OR (R311). -/
def execLgeOr (s : State) : Host.Outcome State Fault Refusal := .next (s.lgeStep (fun i => i matches .or _))
/-- ORN (R311). -/
def execLgeOrn (s : State) : Host.Outcome State Fault Refusal := .next (s.lgeStep (fun i => i matches .orn _))
/-- XOR (R311). -/
def execLgeXor (s : State) : Host.Outcome State Fault Refusal := .next (s.lgeStep (fun i => i matches .xor _))
/-- ST (R311). -/
def execLgeSt (s : State) : Host.Outcome State Fault Refusal := .next (s.lgeStep (fun i => i matches .st _))
/-- STN (R311). -/
def execLgeStn (s : State) : Host.Outcome State Fault Refusal := .next (s.lgeStep (fun i => i matches .stn _))
/-- SET (R311). -/
def execLgeSet (s : State) : Host.Outcome State Fault Refusal := .next (s.lgeStep (fun i => i matches .set _))
/-- RST (R311). -/
def execLgeRst (s : State) : Host.Outcome State Fault Refusal := .next (s.lgeStep (fun i => i matches .rst _))
/-- BRO (R311). -/
def execLgeBro (s : State) : Host.Outcome State Fault Refusal := .next (s.lgeStep (fun i => i matches .bro))
/-- BRCA (R311). -/
def execLgeBrca (s : State) : Host.Outcome State Fault Refusal := .next (s.lgeStep (fun i => i matches .brca))
/-- BRCO (R311). -/
def execLgeBrco (s : State) : Host.Outcome State Fault Refusal := .next (s.lgeStep (fun i => i matches .brco))
/-- RE (R311). -/
def execLgeRe (s : State) : Host.Outcome State Fault Refusal := .next (s.lgeStep (fun i => i matches .re _))
/-- FE (R311). -/
def execLgeFe (s : State) : Host.Outcome State Fault Refusal := .next (s.lgeStep (fun i => i matches .fe _))
/-- TON (R311, R316). -/
def execLgeTon (s : State) : Host.Outcome State Fault Refusal := .next (s.lgeStep (fun i => i matches .ton _ _))
/-- TOF (R311, R316). -/
def execLgeTof (s : State) : Host.Outcome State Fault Refusal := .next (s.lgeStep (fun i => i matches .tof _ _))
/-- CTU (R311, R317). -/
def execLgeCtu (s : State) : Host.Outcome State Fault Refusal := .next (s.lgeStep (fun i => i matches .ctu _ _))
/-- CTD (R311, R317). -/
def execLgeCtd (s : State) : Host.Outcome State Fault Refusal := .next (s.lgeStep (fun i => i matches .ctd _ _))
/-- CRES (R311, R317). -/
def execLgeCres (s : State) : Host.Outcome State Fault Refusal := .next (s.lgeStep (fun i => i matches .cres _))
/-- CMP (R311, R312). -/
def execLgeCmp (s : State) : Host.Outcome State Fault Refusal := .next (s.lgeStep (fun i => i matches .cmp _ _ _ _))
/-- MOVK (R311, R313). -/
def execLgeMovk (s : State) : Host.Outcome State Fault Refusal := .next (s.lgeStep (fun i => i matches .movk _ _))
/-- MOV (R311, R313). -/
def execLgeMov (s : State) : Host.Outcome State Fault Refusal := .next (s.lgeStep (fun i => i matches .mov _ _))
/-- JC (R311). -/
def execLgeJc (s : State) : Host.Outcome State Fault Refusal := .next (s.lgeStep (fun i => i matches .jc _))
/-- JNC (R311). -/
def execLgeJnc (s : State) : Host.Outcome State Fault Refusal := .next (s.lgeStep (fun i => i matches .jnc _))

/-! ## Task registers (R298, R300, R332, R333) -/

/-- A task's assignment: EN, BASE, SIZE, PERIOD, PHASE, BUDGET. -/
structure TaskCfg where
  en : Bool
  base : Nat
  size : Nat
  period : Nat
  phase : Nat
  budget : Nat
  deriving DecidableEq, Repr

/-- The assignment in force. -/
def State.taskCfg (s : State) (t : Nat) : TaskCfg :=
  { en := s.on (F.LGE_TCFG_EN t), base := s.rf (F.LGE_TCFG_BASE t), size := s.rf (F.LGE_TCFG_SIZE t),
    period := s.rf (F.LGE_TSCH_PERIOD t), phase := s.rf (F.LGE_TSCH_PHASE t), budget := s.rf (F.LGE_TBUD_BUDGET t) }

/-- Whether an assignment of task `t` keeps within R298 and R333 beside the other tasks'. The cell of PERIOD limits it while EN is 1;
that a PERIOD above 1,000 is no defined value while EN is 0 either is the model's choice, as is a PHASE of 0 beside a PERIOD of 0.
(DESIGN CHOICE, log 179) -/
def State.taskFits (s : State) (t : Nat) (c : TaskCfg) : Bool :=
  let others := (List.range 16).filter (fun u => u != t && (s.taskCfg u).en)
  c.base + c.size ≤ 1024 && c.period ≤ 1000 && c.phase < max 1 c.period && c.budget ≤ 140000 &&
  (!c.en || (1 ≤ c.size && 1 ≤ c.period
    && others.all (fun u => let d := s.taskCfg u; d.base + d.size ≤ c.base || c.base + c.size ≤ d.base)
    && c.budget + others.foldl (fun a u => a + (s.taskCfg u).budget) 0 ≤ 140000))

/-- Clear a task's markers, timers and counters (R300). -/
def State.clearTaskMem (s : State) (t : Nat) : State :=
  { s with lge := { s.lge with
      markers := s.lge.markers.filter (fun e => e.1 / 4096 != t)
      timers := s.lge.timers.filter (fun e => e.1 / 256 != t)
      counters := s.lge.counters.filter (fun e => e.1 / 256 != t) } }

/-- LGE_BUDSUM follows the assignments. -/
def State.updBudget (s : State) : State :=
  s.setF F.LGE_BUDSUM_SUM ((List.range 16).foldl (fun a t => if (s.taskCfg t).en then a + (s.taskCfg t).budget else a) 0)

/-- The region of a task that has been assigned anew holds END, and nothing of its past is left (R300). A task that does not
exist has no region to fill. -/
def State.reassign (s : State) (t : Nat) (v : Word) : State :=
  let a := s.regionBase t
  let b := a + s.regionLen t
  let s : State :=
    if s.on (F.LGE_TCFG_EN t) then
      { s with lge := { s.lge with prog := s.lge.prog.filter (fun e => e.1 < a || b ≤ e.1) } }
    else s
  let s := ((s.clearTaskMem t).setF (F.LGE_TSTAT_VERIFIED t) 0).setReg (Reg.LGE_TOVR t) 0
  (s.setF (F.LGE_TSTAT_FILL t) 1).report 0x0B05 0 (wd t) v 0

/-- The fields of LGE_TCFG[t], LGE_TSCH[t] and LGE_TBUD[t] (`k` 0, 1, 2) that a limit of R298 or R333 may keep, fewest first; TAG
is in no limit. -/
def taskTries (k : Nat) : List (List (Nat × Nat)) :=
  if k = 0 then [[], [(22, 12), (9, 0)], [(31, 31)], [(31, 31), (22, 12), (9, 0)]]
  else if k = 1 then [[], [(25, 16)], [(9, 0)], [(25, 16), (9, 0)]]
  else [[], [(17, 0)]]

/-- A host write to LGE_TCFG[t], LGE_TSCH[t] or LGE_TBUD[t] (`k` 0, 1, 2): outside STOP nothing is accepted, and a limit keeps the
fields it joins (R11, R298). -/
def State.writeTask (s : State) (t k : Nat) (v : Word) : State :=
  let off := if k = 0 then Reg.LGE_TCFG t else if k = 1 then Reg.LGE_TSCH t else Reg.LGE_TBUD t
  if s.taskState t != 0 then s.badVal
  else
    let u := s.writeFields off v
    let w := settleWord (fun w => s.taskFits t ((s.setReg off w).taskCfg t)) (s.reg off) (u.reg off) (taskTries k)
    let u := (u.setReg off w.1).badValIf w.2
    let same := u.reg (Reg.LGE_TCFG t) = s.reg (Reg.LGE_TCFG t)
    (if same then u else u.reassign t (u.reg (Reg.LGE_TCFG t))).updBudget

/-- LGE_TASK_ASSIGN (R298): a write by the port that holds SEM0. -/
def lgeTaskAssignEff (x : HPort) (t : Fin 16) (k : Fin 3) (v : Word) (s : State) : State :=
  s.asWrite x 11 (s.writeTask t k v)

/-- LGE_TASK_ASSIGN (R298). -/
def execLgeTaskAssign (x : HPort) (t : Fin 16) (k : Fin 3) (v : Word) (s : State) : Host.Outcome State Fault Refusal :=
  .next (lgeTaskAssignEff x t k v s)

/-- REGION_FILL_COMPLETE (R300). -/
def execRegionFillComplete (t : Fin 16) (s : State) : Host.Outcome State Fault Refusal :=
  .next (s.setF (F.LGE_TSTAT_FILL t) 0)

/-- The words LGE_SETCRC covers (R332). (DEDUCED, log 139) -/
def State.lgeSetWords (s : State) : List Word :=
  (List.range 16).map (fun t => s.reg (Reg.LGE_TCFG t)) ++ (List.range 16).map (fun t => s.reg (Reg.LGE_TSCH t))
  ++ (List.range 16).map (fun t => s.reg (Reg.LGE_TBUD t))
  ++ (List.range 16).flatMap (fun t => if s.on (F.LGE_TSTAT_VERIFIED t) then s.region t else [])

/-- LGE_SETCRC_RECOMPUTE (R332). -/
def execLgeSetcrcRecompute (s : State) : Host.Outcome State Fault Refusal :=
  .next (s.setReg Reg.LGE_SETCRC (crc32Words s.lgeSetWords))

/-! ## Ring commands (R301, R303 to R306, R329, R330) -/

/-- What every command on a task checks first: the filter, and a fill in progress (R300). -/
def State.taskGate (s : State) (p : Part) (t : Nat) (k : State → CmdEnd) : CmdEnd :=
  let st := s.filterWrite p (s.taskTag t) Cls.task t
  if st != St.success then .refuse s Cls.task t st
  else if s.on (F.LGE_TSTAT_FILL t) then .done s St.busy 0 0
  else k s

/-- The forces on a task's points that its program does not write (R306). -/
def State.orphanForces (s : State) (t : Nat) : Nat :=
  let wr := (lgeSweep 0 (s.region t)).flatMap (fun k => (k.inst.map LgeI.written).getD [])
  ((s.taskPoints t).filter (fun e => (s.force e.1).isSome && !wr.contains e.1)).length

/-- LGE_LOAD's body (R303, R306). -/
def lgeLoadBody (x : HPort) (p : Part) (d : Desc) (s : State) (_id : Nat) : CmdEnd :=
  let t := fieldOf d.w2 3 0
  s.taskGate p t (fun s =>
    if s.taskState t != 0 then .done s St.state 0 0
    else if s.regionLen t < d.w3.toNat + d.len then .done s St.noSpace 0 0
    else
      match s.dmaRead x p d.addr (4 * d.len) with
      | (none, u) => .done u St.dmaError 0 0
      | (some bs, u) =>
        let u : State := { u with lge := { u.lge with
          prog := Store.putList wordZero u.lge.prog (u.regionBase t + d.w3.toNat) (wordsOf bs) } }
        let u := (u.setF (F.LGE_TSTAT_VERIFIED t) 0).audit p (s.taskEvTag t) Cls.task t 0x28
        .done u St.success (wd d.len) (wd (u.orphanForces t)))

/-- LGE_LOAD (R303). -/
def lgeLoadEff (x : HPort) (p : Part) (d : Desc) (s : State) : State :=
  s.command x p d (d.opcode = 0x28) (d.buf 0xF allBits 0 1 (2 ^ 32)) true false (lgeLoadBody x p d)

/-- LGE_LOAD (R303). -/
def execLgeLoad (x : HPort) (p : Part) (d : Desc) (s : State) : Host.Outcome State Fault Refusal := .next (lgeLoadEff x p d s)

/-- LGE_CTL with operation `op`. (DEDUCED, log 128) -/
def State.lgeCtl (s : State) (x : HPort) (p : Part) (d : Desc) (op : Nat) (wf sel : Bool)
    (body : Nat → State → Nat → CmdEnd) : State :=
  s.command x p d (d.opcode = 0x29 && fieldOf d.w3 2 0 = op && sel) wf true false
    (fun s id => s.taskGate p (fieldOf d.w2 3 0) (fun s => body (fieldOf d.w2 3 0) s id))

/-- VERIFY's body (R304, R305); the point table is the latest accepted one. (DEDUCED, log 178) -/
def lgeVerifyBody (p : Part) (d : Desc) (t : Nat) (s : State) (_id : Nat) : CmdEnd :=
  if s.taskState t != 0 then .done s St.state 0 0
  else
    let ws := s.region t
    let c := crc32Words ws
    if c != d.w7 then .done s St.verifyFail c 0
    else
      match leastFault (lgeFaults s.nextPt t (s.taskEvTag t) ws) with
      | some f => .done s St.rejected (wd f.1) (wd f.2)
      | none =>
        let n := worstCase ws
        let u := (s.setF (F.LGE_TSTAT_VERIFIED t) 1).setTask t { s.task t with worst := n }
        .done ((u.report 0x0B04 (s.taskEvTag t) (wd t) c (wd n)).audit p (s.taskEvTag t) Cls.task t 0x29) St.success c (wd n)

/-- LGE_CTL VERIFY (R304). (DEDUCED, log 128) -/
def lgeVerifyEff (x : HPort) (p : Part) (d : Desc) (s : State) : State :=
  s.lgeCtl x p d 1 (d.clean 0xF 7 0 0 0 allBits) true (lgeVerifyBody p d)

/-- LGE_CTL VERIFY (R304). -/
def execLgeVerify (x : HPort) (p : Part) (d : Desc) (s : State) : Host.Outcome State Fault Refusal :=
  .next (lgeVerifyEff x p d s)

/-- LGE_FC in the first due frame after the current one, also across the wrap of the count (R320). -/
def State.firstDue (s : State) (t : Nat) : Nat :=
  let n := max 1 (s.rf (F.LGE_TSCH_PERIOD t))
  let c := (s.lgeFc + 1) % 2 ^ 32
  let d := (s.rf (F.LGE_TSCH_PHASE t) + n - c % n) % n
  if c + d < 2 ^ 32 then c + d else s.rf (F.LGE_TSCH_PHASE t)

/-- START's body (R301, R318); a standby answers STATE (R528). -/
def lgeStartBody (p : Part) (t : Nat) (s : State) (_id : Nat) : CmdEnd :=
  if !s.active then .done s St.state 0 0
  else if s.taskState t = 1 then .done s St.success (wd (s.task t).startFc) 0
  else if s.taskState t != 0 || !s.on (F.LGE_TSTAT_VERIFIED t) || s.rf (F.LGE_TBUD_BUDGET t) < 8 then .done s St.state 0 0
  else
    let n := s.firstDue t
    let fc := s.reg Reg.LGE_FC
    let u := s.setTask t { LgeTask.dflt t with startFc := n, worst := (s.task t).worst }
    let u := forUpto 256 u (fun i u => u.setTimer t i { et := 0, q := false, inp := false, last := fc })
    let u := ((u.setReg (Reg.LGE_TOVR t) 0).taskMove t 1 p).audit p (s.taskEvTag t) Cls.task t 0x29
    .done u St.success (wd n) 0

/-- LGE_CTL START (R301). -/
def lgeStartEff (x : HPort) (p : Part) (d : Desc) (s : State) : State :=
  s.lgeCtl x p d 2 (d.clean 0xF 7 0 0 0 0) true (lgeStartBody p)

/-- LGE_CTL START (R301). -/
def execLgeStart (x : HPort) (p : Part) (d : Desc) (s : State) : Host.Outcome State Fault Refusal := .next (lgeStartEff x p d s)

/-- STOP's body (R301, R326, R327); a standby answers STATE (R528). -/
def lgeStopBody (x : HPort) (p : Part) (t : Nat) (s : State) (id : Nat) : CmdEnd :=
  if !s.active then .done s St.state 0 0
  else if s.taskState t = 0 then .done s St.success (wd s.lgeFc) 0
  else
    let s := s.audit p (s.taskEvTag t) Cls.task t 0x29
    let k := s.task t
    if s.taskState t = 1 && k.busy && s.lge.turn = some t then
      .wait (s.setTask t { k with stops := k.stops ++ [(x, p, id)] })
    else
      let u := s.taskStop t p
      .done u St.success (wd u.lgeFc) 0

/-- LGE_CTL STOP (R327). -/
def lgeStopEff (x : HPort) (p : Part) (d : Desc) (s : State) : State :=
  s.lgeCtl x p d 3 (d.clean 0xF 7 0 0 0 0) true (lgeStopBody x p)

/-- LGE_CTL STOP (R327). -/
def execLgeStop (x : HPort) (p : Part) (d : Desc) (s : State) : Host.Outcome State Fault Refusal := .next (lgeStopEff x p d s)

/-- LGE_CTL STATUS (R329). -/
def lgeStatusEff (x : HPort) (p : Part) (d : Desc) (s : State) : State :=
  s.lgeCtl x p d 4 (d.clean 0xF 7 0 0 0 0) true
    (fun t s _ => .done s St.success (s.reg (Reg.LGE_TSTAT t)) (s.reg (Reg.LGE_TOVR t)))

/-- LGE_CTL STATUS (R329). -/
def execLgeStatus (x : HPort) (p : Part) (d : Desc) (s : State) : Host.Outcome State Fault Refusal :=
  .next (lgeStatusEff x p d s)

/-- The bytes of `n` marker bits from `m` on. -/
def State.markerByte (s : State) (t b : Nat) : Byte :=
  BitVec.ofNat 8 ((List.range 8).foldl (fun a k => a + ofBool (s.marker t (8 * b + k)) * 2 ^ k) 0)

/-- The dump of a task (R330). -/
def State.taskDump (s : State) (t : Nat) : List Byte :=
  wordsBytes [s.reg (Reg.LGE_TSTAT t), s.reg (Reg.LGE_TOVR t), s.reg (Reg.LGE_TCYC t), wd (s.task t).worst]
  ++ (List.range 512).map (fun b => s.markerByte t b)
  ++ (List.range 256).flatMap (fun n => let k := s.timer t n
      wordsBytes [wd k.et, wd (2 * ofBool k.inp + ofBool k.q)])
  ++ (List.range 256).flatMap (fun n => let k := s.counter t n
      wordsBytes [k.cv, wd (4 * ofBool k.eu + 2 * ofBool k.ed + ofBool k.q)])

/-- DUMP's body (R330). -/
def lgeDumpBody (x : HPort) (p : Part) (d : Desc) (t : Nat) (s : State) (_id : Nat) : CmdEnd :=
  match s.dmaWrite x p d.addr (s.taskDump t) with
  | (false, u) => .done u St.dmaError 0 0
  | (true, u) => .done u St.success 4624 (wd u.lgeFc)

/-- LGE_CTL DUMP (R330): it executes between two of the task's cycles. -/
def lgeDumpEff (x : HPort) (p : Part) (d : Desc) (s : State) : State :=
  s.lgeCtl x p d 5 (d.buf 0xF 7 0 4624 4624) (!(s.task (fieldOf d.w2 3 0)).busy) (lgeDumpBody x p d)

/-- LGE_CTL DUMP (R330). -/
def execLgeDump (x : HPort) (p : Part) (d : Desc) (s : State) : Host.Outcome State Fault Refusal := .next (lgeDumpEff x p d s)

/-! ## Point table loads and block reset (R307, R328) -/

/-- The points at which a table breaks a reference of a task's program. -/
def State.brokenRefs (s : State) (t : Nat) (look : Nat → Point) : List Nat :=
  let ks := lgeSweep 0 (s.region t)
  ks.flatMap (fun k => match k.dec with
    | .ok i => ((i.refs.filter (fun r => refFaults look t (s.taskEvTag t) r != [])).map (fun r => r.pt)) ++
        (if movMismatch look i then i.refs.map (fun r => r.pt) else [])
    | _ => [])

/-- The points at which a table breaks a task in RUN (R307). -/
def State.runTaskRefs (s : State) (look : Nat → Point) : List Nat :=
  (List.range 16).flatMap (fun t => if s.taskState t = 1 then s.brokenRefs t look else [])

/-- Tasks not in RUN whose references an accepted table breaks lose VERIFIED (R307). (DEDUCED, log 178) -/
def State.unverify (s : State) : State :=
  forUpto 16 s (fun t u =>
    if u.on (F.LGE_TSTAT_VERIFIED t) && u.taskState t != 1 && u.brokenRefs t u.nextPt != [] then
      u.setF (F.LGE_TSTAT_VERIFIED t) 0
    else u)

/-- The LGE block enters reset: every task in RUN halts with cause 0x07; a STOP that waited has been ABORTED and acts no more
(R328). -/
def State.lgeResetIn (s : State) : State :=
  let halt (t : Nat) (u : State) : State :=
    let k := u.task t
    (u.setTask t { k with stops := [] }).taskHalt t 7 (if k.busy then k.pc else 0)
  let s := forUpto 16 s (fun t u => if u.taskState t = 1 then halt t u else u)
  { s with lge := { s.lge with turn := none } }

end Sys2Proof.Machine
end

