-- ==== Sys2Proof/Machine/LocalIO.lean ====
section
/-! DEFINITION. Local I/O: analogue and digital channels, pulse inputs and PWM outputs (chapter "Closed-Loop Control
Engine and Local I/O"). -/

namespace Sys2Proof.Machine

/-- An LIO register as phase 0 of the current base tick found it (R364). -/
def State.lioCfg (s : State) (off : Nat) : Word := Store.get (Reg.resetVal s.variant) s.lio.cfg off

/-- A field of an LIO register as phase 0 of the current base tick found it. -/
def State.lioRf (s : State) (f : Fld) : Nat := fieldOf (s.lioCfg f.off) f.hi f.lo

/-- A direct value: scaled and offset, each operation rounded to binary32 (R364, R367). -/
def scaleF32 (z : Int) (gain ofs : Word) : Word :=
  toF32 ((f32 (toF32 ((fpInt z).mul (f32 gain)))).add (f32 ofs))

/-- The scaled value of analogue input `c` (R364). -/
def State.aiValue (s : State) (c : Nat) : Word :=
  scaleF32 (s.rf (F.LIO_AIRAW_CODE c)) (s.lioCfg (Reg.LIO_AIG c)) (s.lioCfg (Reg.LIO_AIO c))

/-- The scaled frequency of pulse input `n` (R367). -/
def State.pulseFreq (s : State) (n : Nat) : Word :=
  toF32 ((f32 (s.reg (Reg.LIO_PIFRQ n))).mul (f32 (s.lioCfg (Reg.LIO_PIFG n))))

/-- The direct count of pulse input `n`: signed 32 bits, scaled (R367). -/
def State.pulseCount (s : State) (n : Nat) : Word :=
  toF32 ((fpInt (s.reg (Reg.LIO_PICNT n)).toInt).mul (f32 (s.lioCfg (Reg.LIO_PICG n))))

/-- The value a local input point of class `cls`, channel `ch` and format `fmt` takes at the latch (R250, R364, R366, R367). -/
def State.localInput (s : State) (cls ch fmt : Nat) : Word :=
  if cls = 0 then (if fmt = 1 then wd (s.rf (F.LIO_AIRAW_CODE ch) / 2) else s.aiValue ch)
  else if cls = 2 then wd (ofBool (bitOf (s.reg Reg.LIO_DIN).toNat ch))
  else if cls = 4 then s.reg (Reg.LIO_PICNT ch)
  else s.pulseFreq ch

/-! ## Phase 0 -/

/-- The pulse input's state. -/
def State.pulse (s : State) (n : Nat) : PulseIn := Store.get PulseIn.dflt s.lio.pulses n

/-- Replace a pulse input's state. -/
def State.setPulse (s : State) (n : Nat) (p : PulseIn) : State :=
  { s with lio := { s.lio with pulses := Store.put PulseIn.dflt s.lio.pulses n p } }

/-- Whether the last code of an analogue input was clamped. -/
def State.aiClamped (s : State) (c : Nat) : Bool := Store.get noFlag s.lio.clamped c

/-- Sample analogue input `c` with the unclamped code the converter finds (R364). Event 0x0D01 tells the entry into
over-range (R370). (DEDUCED, log 134) -/
def State.sampleAnalogue (s : State) (c : Nat) (raw : Int) : State :=
  let code := (clampInt 0 65535 raw).toNat
  let t := s.setReg (Reg.LIO_AIRAW c) (wd code)
  let hit := raw < 0 || 65535 < raw
  let u := if hit then t.raise Reg.LIO_STAT Reg.LIO_IEN 13 c else t
  let u := if hit && !s.aiClamped c then u.report 0x0D01 0 (wd c) (wd code) 0 else u
  { u with lio := { u.lio with clamped := Store.put noFlag u.lio.clamped c hit } }

/-- Sample digital pin `k` if it is an input: its filtered state changes after FILT + 1 equal samples (R366). -/
def State.samplePin (s : State) (k : Nat) (level : Bool) : State :=
  if bitOf (s.lioCfg Reg.LIO_DDIR).toNat k then s
  else
    let n := if level = bitOf (s.reg Reg.LIO_DIN).toNat k then 0 else Store.get natZero s.lio.diff k + 1
    let take := s.lioRf F.LIO_DFILT_FILT < n
    let t := if take then s.setF (regBit Reg.LIO_DIN k) (ofBool level) else s
    { t with lio := { t.lio with diff := Store.put natZero t.lio.diff k (if take then 0 else n) } }

/-- The frequency in Hz from the counted edges of a window, oldest first; times are in 5 ns (R367). -/
def edgeFreq : List PulseEdge → Word
  | [] => 0
  | e :: rest =>
    match rest.getLast? with
    | none => 0
    | some l => toF32 ((fpInt ((l.cnt - e.cnt).toInt * 200000000)).div (fpInt (Int.ofNat l.time - Int.ofNat e.time)))

/-! ### Pulse edges -/

/-- What an edge of a pin counts in each MODE: nothing, up or down (R367). `a` and `b` are the levels after the edge.
Quadrature counts up while A leads B. -/
def edgeStep (mode : Nat) (onB level a b : Bool) : Int :=
  if mode = 1 then (if !onB && level then 1 else 0)
  else if mode = 2 then (if !onB && level then (if b then -1 else 1) else 0)
  else if mode = 3 then (if (onB = (a = b)) then 1 else -1)
  else 0

/-- An edge that no short pulse has undone acts (R367): counted, or discarded when it follows the previous counted edge by less
than 1 µs. (DESIGN CHOICE, log 56) -/
def State.takeEdge (s : State) (n : Nat) (onB level : Bool) (time : Nat) : State :=
  let p := s.pulse n
  let p := if onB then { p with b := level } else { p with a := level }
  let d := edgeStep (s.lioRf (F.LIO_PICFG_MODE n)) onB level p.a p.b
  if d = 0 then s.setPulse n p
  else if p.last != 0 && time + 1 < p.last + 200 then
    let t := (s.setPulse n p).addSat (F.LIO_PIOVR_CNT n) 1
    (t.raise Reg.LIO_STAT Reg.LIO_IEN 13 (16 + n)).report 0x0D02 0 (wd n) (t.reg (Reg.LIO_PIOVR n)) 0
  else
    let c := p.cnt + wdInt d
    let es : List PulseEdge := p.edges ++ [{ tick := s.lio.tick, time := time, cnt := c }]
    s.setPulse n { p with cnt := c, last := time + 1, edges := es }

/-- The waiting edges of pulse input `n` that a test finds old enough act, in their order (R367). -/
def State.settleEdges (s : State) (n : Nat) (old : Nat → Bool) : State :=
  let p := s.pulse n
  let now := p.pend.takeWhile (fun e => old e.2.2)
  now.foldl (fun t e => t.takeEdge n e.1 e.2.1 e.2.2) (s.setPulse n { p with pend := p.pend.drop now.length })

/-- The level of a pin with its waiting edge. -/
def PulseIn.level (p : PulseIn) (onB : Bool) : Bool :=
  match p.pend.find? (fun e => e.1 = onB) with
  | some e => e.2.1
  | none => if onB then p.b else p.a

/-- Take pulse count and frequency of input `n` (R367); an edge that waits acts now. (DESIGN CHOICE, log 56) -/
def State.samplePulse (s : State) (n : Nat) : State :=
  let s := s.settleEdges n (fun _ => true)
  let p := s.pulse n
  let win := s.lioRf (F.LIO_PICFG_WIN n)
  let t := s.setPulse n { p with edges := p.edges.filter (fun e => decide (s.lio.tick < e.tick + 8000)) }
  let near := p.edges.filter (fun e => decide (s.lio.tick < e.tick + win))
  (t.setReg (Reg.LIO_PICNT n) p.cnt).setReg (Reg.LIO_PIFRQ n)
    (if s.lioRf (F.LIO_PICFG_MODE n) = 0 then 0 else edgeFreq near)

/-- Phase 0 of a base tick: the configuration comes into force, and all inputs are sampled (R345, R364).
(DESIGN CHOICE, log 56) -/
def State.lioSample (s : State) (ain : List Int) (dio : BitVec 32) : State :=
  let cfg : Store Word := s.regs.filter (fun e => e.1 / 0x10000 = 13 && !(s.lio.dirHeld && e.1 = Reg.LIO_DDIR))
  let t : State := { s with lio := { s.lio with cfg := cfg } }
  let t := if s.inReset 13 then t
    else
      let t := forUpto 16 t (fun c t => t.sampleAnalogue c (ain.getD c 0))
      let t := forUpto 32 t (fun k t => t.samplePin k (bitOf dio.toNat k))
      forUpto 8 t (fun n t => t.samplePulse n)
  { t with lio := { t.lio with tick := t.lio.tick + 1 } }

/-- An edge on pin A or B of pulse input `n` at a time in 5 ns (R367): edges that have stood for 100 ns act; an edge that ends a
shorter pulse undoes that pulse's first edge, and another waits. A block in reset counts nothing. (DESIGN CHOICE, log 56) -/
def pulseInputEdgeEff (n : Fin 8) (onB level : Bool) (time : Nat) (s : State) : State :=
  if s.inReset 13 then
    let p := s.pulse n
    s.setPulse n (if onB then { p with b := level } else { p with a := level })
  else
    let t := s.settleEdges n (fun u => decide (u + 20 ≤ time))
    let p := t.pulse n
    if p.level onB = level then t
    else if p.pend.any (fun e => e.1 = onB) then t.setPulse n { p with pend := p.pend.filter (fun e => e.1 != onB) }
    else t.setPulse n { p with pend := p.pend ++ [(onB, level, time)] }

/-- PULSE_INPUT_EDGE (R367). -/
def execPulseInputEdge (n : Fin 8) (onB level : Bool) (time : Nat) (s : State) : Host.Outcome State Fault Refusal :=
  .next (pulseInputEdgeEff n onB level time s)

/-! ## Outputs -/

/-- The code of an analogue output for a point's value (R365): a tie and a value that is no number are left open, as
`free` decides. (DESIGN CHOICE, log 54) -/
def aoCode (fmt : Nat) (v gain ofs free : Word) : Nat :=
  if fmt = 1 then (clampInt 0 32767 v.toInt).toNat * 2
  else
    match (f32 (toF32 ((f32 v).mul (f32 gain)))).add (f32 ofs) with
    | .nan => free.toNat % 65536
    | .inf neg => if neg then 0 else 65535
    | .fin neg m e =>
      let z : Int := if neg then -(m : Int) else m
      let r := if 0 ≤ e then z * 2 ^ e.toNat else roundNearest z (2 ^ (-e).toNat) (bitOf free.toNat 0)
      (clampInt 0 65535 r).toNat

/-- The duty of a PWM point's value in units of 2^-149 (R368); a value that is no number is left open.
(DESIGN CHOICE, log 54) -/
def pwmDuty (fmt : Nat) (v free : Word) : Nat :=
  if fmt = 1 then (clampInt 0 32767 v.toInt).toNat * 2 ^ 134
  else
    match f32 v with
    | .nan => free.toNat * 2 ^ 117
    | .inf neg => if neg then 0 else 2 ^ 149
    | .fin neg m e => if neg then 0 else min (2 ^ 149) (m * 2 ^ (e + 149).toNat)

/-- Drive a local output channel from a value in its point's format (R365, R366, R368). (DESIGN CHOICE, log 54) -/
def State.driveLocal (s : State) (cls ch fmt : Nat) (v : Word) : State :=
  if s.inReset 13 then s
  else if cls = 1 then
    let code := aoCode fmt v (s.lioCfg (Reg.LIO_AOG ch)) (s.lioCfg (Reg.LIO_AOO ch)) s.freeVal
    (s.useFree.setReg (Reg.LIO_AOCODE ch) (wd code)).emit (.analogue ch code)
  else if cls = 3 then
    let t := s.setF (regBit Reg.LIO_DOUT ch) (v.toNat % 2)
    if bitOf (s.lioCfg Reg.LIO_DDIR).toNat ch then t.emit (.digital ch (bitOf v.toNat 0)) else t
  else if cls = 6 then
    let d := pwmDuty fmt v s.freeVal
    let t := s.useFree
    { t with lio := { t.lio with duty := Store.put natZero t.lio.duty ch d } }
  else s

/-- The active time in 5 ns of PWM output `n` for its duty: round(duty × PER) (R368); a tie is left open.
(DESIGN CHOICE, log 55) -/
def State.pwmActive (s : State) (n : Nat) : Nat :=
  (roundNearest (Store.get natZero s.lio.duty n * s.rf (F.LIO_PWCFG_PER n) : Nat) (2 ^ 149)
    (bitOf s.freeVal.toNat 0)).toNat

/-- PWM output `n` is enabled and not held by a block reset (R368, R369). -/
def State.pwmRuns (s : State) (n : Nat) : Bool := s.on (F.LIO_PWCFG_EN n) && !Store.get noFlag s.lio.pwmHeld n

/-- A period of PWM output `n` starts: new duty and polarity take effect (R368, R377). -/
def pwmPeriodStartEff (n : Fin 8) (s : State) : State :=
  if s.inReset 13 || !s.pwmRuns n || s.lio.tick < Store.get natZero s.lio.restart n then s
  else
    let d := s.pwmActive n
    let t := s.useFree.setReg (Reg.LIO_PWDUTY n) (wd d)
    let t : State := { t with lio := { t.lio with restart := Store.put natZero t.lio.restart n 0 } }
    t.emit (.pwm n d (s.on (F.LIO_PWCFG_POL n)))

/-- PWM_PERIOD_START (R368). -/
def execPwmPeriodStart (n : Fin 8) (s : State) : Host.Outcome State Fault Refusal := .next (pwmPeriodStartEff n s)

/-- Whether the fields of LIO_PWCFG fit together (R368, R376): PER is 2,000 to 16,777,215 while EN is 1, and ALIGN = 1
needs a PER that divides 25,000. -/
def pwmCfgOk (v : Word) : Bool :=
  (fieldOf v 31 31 = 0 || 2000 ≤ fieldOf v 23 0) && (fieldOf v 30 30 = 0 || 25000 % fieldOf v 23 0 = 0)

/-- The fields of LIO_PWCFG that those limits may keep, fewest first; POL is in no limit. -/
def pwmTries : List (List (Nat × Nat)) :=
  [[], [(30, 30)], [(23, 0)], [(30, 30), (23, 0)], [(31, 31)], [(31, 31), (30, 30)], [(31, 31), (23, 0)],
    [(31, 31), (30, 30), (23, 0)]]

/-- The inactive level on a PWM output. -/
def State.pwmIdle (s : State) (n : Nat) (low : Bool) : State :=
  (s.setReg (Reg.LIO_PWDUTY n) 0).emit (.pwm n 0 low)

/-- What a new LIO_PWCFG[n] does to the output (R368, R377): disabled, it holds the inactive level of its POL; a new PER or ALIGN
restarts it at phase 100 µs of the next base tick, at the inactive level until then. -/
def State.pwmConfigured (s : State) (n : Nat) (ran : Bool) (old : Word) : State :=
  let v := s.reg (Reg.LIO_PWCFG n)
  if fieldOf v 31 31 = 0 then
    (if ran || fieldOf old 29 29 != fieldOf v 29 29 then s.pwmIdle n (fieldOf v 29 29 = 1) else s)
  else if ran && (fieldOf old 30 30 != fieldOf v 30 30 || fieldOf old 23 0 != fieldOf v 23 0) then
    let t : State := { s with lio := { s.lio with restart := Store.put natZero s.lio.restart n (s.lio.tick + 1) } }
    t.pwmIdle n (fieldOf old 29 29 = 1)
  else s

/-- A write to LIO_PWCFG[n] (R11, R368, R369, R377). -/
def State.writePwm (s : State) (n : Nat) (v : Word) : State :=
  let old := s.reg (Reg.LIO_PWCFG n)
  let ran := s.pwmRuns n
  let t := s.writeFields (Reg.LIO_PWCFG n) v
  let w := settleWord pwmCfgOk old (t.reg (Reg.LIO_PWCFG n)) pwmTries
  let t := (t.setReg (Reg.LIO_PWCFG n) w.1).badValIf w.2
  let t : State := { t with lio := { t.lio with pwmHeld := Store.put noFlag t.lio.pwmHeld n false } }
  t.pwmConfigured n ran old

/-- PWM_CONFIG_WRITE (R377). -/
def pwmConfigWriteEff (x : HPort) (n : Fin 8) (v : Word) (s : State) : State :=
  s.asWrite x 13 (s.writePwm n v)

/-- PWM_CONFIG_WRITE (R377). -/
def execPwmConfigWrite (x : HPort) (n : Fin 8) (v : Word) (s : State) : Host.Outcome State Fault Refusal :=
  .next (pwmConfigWriteEff x n v s)

/-- The local outputs go to the states of R369: code 0, inputs, and the inactive level; the levels on the pulse pins are the
outside world's and stay. -/
def State.lioSafe (s : State) : State :=
  let t := forUpto 8 s (fun o t => (t.setReg (Reg.LIO_AOCODE o) 0).emit (.analogue o 0))
  let t := forUpto 8 t (fun n t => t.pwmIdle n (t.on (F.LIO_PWCFG_POL n)))
  let ps : Store PulseIn := t.lio.pulses.filterMap (fun e =>
    if e.2.level false || e.2.level true then
      some (e.1, { PulseIn.dflt 0 with a := e.2.level false, b := e.2.level true })
    else none)
  { t with lio := { LioSt.reset with pulses := ps } }

/-- An LIO block reset, which keeps the configuration registers: the states of R369 last until the first write of LIO_DDIR and of
each LIO_PWCFG. (DEDUCED, log 180) -/
def State.lioResetIn (s : State) : State :=
  let t := s.lioSafe
  { t with lio := { t.lio with dirHeld := true, pwmHeld := (List.range 8).map (fun n => (n, true)) } }

end Sys2Proof.Machine
end

