-- ==== Sys2Proof/Machine/Sine.lean ====
section
/-! DEFINITION. The stepped sine of an injection (R357): the lengths of its steps, exactly, and its samples, worked out in
fixed point far beyond binary32 and rounded once. (DEDUCED, log 52) -/

namespace Sys2Proof.Machine

/-- A positive binary32 word in units of 2^-149, exactly; 0 for a word that is no positive number. -/
def fixed149 (w : Word) : Nat :=
  match f32 w with
  | .fin false m e => m * 2 ^ (e + 149).toNat
  | .fin true _ _ => 0
  | .inf _ => 0
  | .nan => 0

/-- The roots that the step frequencies of R357 are: NSTEP − 1, or 1 for a single step. -/
def sineRoot (nstep : Nat) : Nat := max 1 (nstep - 1)

/-- (f_k × T)^K in units of 2^(-298 K), with K = `sineRoot`: F0^(K-k) × F1^k × T^K, exactly (R357). -/
def sinePower (f0 f1 t : Word) (nstep k : Nat) : Nat :=
  let r := sineRoot nstep
  fixed149 f0 ^ (r - k) * fixed149 f1 ^ k * fixed149 t ^ r

/-- The samples of step `k`: the least number n, at least 1, with n × f_k × T ≥ NCYC (R357). -/
def sineSamples (f0 f1 t : Word) (nstep ncyc k : Nat) : Nat :=
  let r := sineRoot nstep
  let c := ceilDiv (ncyc ^ r * 2 ^ (298 * r)) (sinePower f0 f1 t nstep k)
  rootFrom r (c - 1) (Nat.log2 c / r + 1) 0 + 1

/-- The bits after the point of the fixed-point numbers here. -/
def sineBits : Nat := 384

/-- The phase f_k × m × T of sample `m` of step `k`, in turns, rounded down (R357). -/
def sinePhase (f0 f1 t : Word) (nstep k m : Nat) : Nat :=
  let r := sineRoot nstep
  let p := m ^ r * sinePower f0 f1 t nstep k * 2 ^ (sineBits * r) / 2 ^ (298 * r)
  rootFrom r p (Nat.log2 p / r + 1) 0

/-- The arc tangent of 1/n: the terms from the one with divisor `d` on, `p` being 2^384 / n^d; `add` tells the sign. -/
def atanInv (n : Nat) : Nat → Nat → Nat → Bool → Int
  | 0, _, _, _ => 0
  | fuel + 1, d, p, add => (if add then Int.ofNat (p / d) else -Int.ofNat (p / d)) + atanInv n fuel (d + 2) (p / (n * n)) (!add)

/-- π by Machin's formula, 16 atan 1/5 − 4 atan 1/239. -/
def piFixed : Nat :=
  (16 * atanInv 5 90 1 (2 ^ sineBits / 5) true - 4 * atanInv 239 30 1 (2 ^ sineBits / 239) true).toNat

/-- The sine series from its term `p` with number `j` on, for a squared argument `q`. -/
def sinTerms (q : Nat) : Nat → Nat → Nat → Bool → Int
  | 0, _, _, _ => 0
  | fuel + 1, j, p, add =>
    (if add then Int.ofNat p else -Int.ofNat p) + sinTerms q fuel (j + 2) (p * q / 2 ^ sineBits / ((j + 1) * (j + 2))) (!add)

/-- The sine of a part of the first quarter turn. -/
def sinQuarter (r : Nat) : Nat :=
  let x := 2 * piFixed * r / 2 ^ sineBits
  (sinTerms (x * x / 2 ^ sineBits) 50 1 x true).toNat

/-- The sine of a phase in turns: its sign and its magnitude. -/
def sinTurns (phase : Nat) : Bool × Nat :=
  let q := phase / 2 ^ (sineBits - 2) % 4
  let r := phase % 2 ^ (sineBits - 2)
  let v := sinQuarter (if q % 2 = 0 then r else 2 ^ (sineBits - 2) - r)
  (2 ≤ q && v != 0, v)

/-- AMP × sin(2π × f_k × m × T) (R357). -/
def sineValue (amp f0 f1 t : Word) (nstep k m : Nat) : Word :=
  let v := sinTurns (sinePhase f0 f1 t nstep k m)
  toF32 ((f32 amp).mul (.fin v.1 v.2 (-(sineBits : Int))))

end Sys2Proof.Machine
end

