-- ==== Sys2Proof/Machine/Loops.lean ====
section
/-! DEFINITION. The control engine: loop slots and their entries, the control law, test signals and response captures
(chapter "Closed-Loop Control Engine and Local I/O"). -/

namespace Sys2Proof.Machine

/-! ## Loop table entries (R338, R339) -/

/-- A field of word `k` of an entry. -/
def entF (e : List Word) (k hi lo : Nat) : Nat := fieldOf (e.getD k 0) hi lo

/-- LAW. -/
def entLaw (e : List Word) : Nat := entF e 0 31 30
/-- REV. -/
def entRev (e : List Word) : Bool := entF e 0 29 29 = 1
/-- FFSEL. -/
def entFf (e : List Word) : Nat := entF e 0 28 27
/-- SPSRC. -/
def entSpSrc (e : List Word) : Nat := entF e 0 26 24
/-- PVSRC. -/
def entPvSrc (e : List Word) : Nat := entF e 0 23 21
/-- NOOUT. -/
def entNoOut (e : List Word) : Bool := entF e 0 20 20 = 1
/-- FFCH. -/
def entFfCh (e : List Word) : Nat := entF e 0 19 16
/-- CASC. -/
def entCasc (e : List Word) : Nat := entF e 0 15 8
/-- SPCH. -/
def entSpCh (e : List Word) : Nat := entF e 0 7 4
/-- PVCH. -/
def entPvCh (e : List Word) : Nat := entF e 0 3 0
/-- PHASE. -/
def entPhase (e : List Word) : Nat := entF e 1 28 16
/-- PERIOD. -/
def entPeriod (e : List Word) : Nat := entF e 1 12 0
/-- PVPT. -/
def entPvPt (e : List Word) : Nat := entF e 2 31 16
/-- OUTPT. -/
def entOutPt (e : List Word) : Nat := entF e 2 15 0
/-- SPPT. -/
def entSpPt (e : List Word) : Nat := entF e 3 31 16
/-- FETIME. -/
def entFeTime (e : List Word) : Nat := entF e 3 15 0
/-- A binary32 parameter, by its word. -/
def entPar (e : List Word) (k : Nat) : Word := e.getD k 0

/-- The loop period T in binary32: PERIOD × 125 µs, rounded once (R338). (DEDUCED, log 142) -/
def entT (e : List Word) : Word := toF32 ((fpInt (entPeriod e)).div (fpInt 8000))

/-- The direct channels an entry uses: whether a pulse channel, and its number (R339, R341). -/
def entChans (e : List Word) : List (Bool × Nat) :=
  (if entPvSrc e = 1 then [(false, entPvCh e)] else if entPvSrc e = 2 || entPvSrc e = 3 then [(true, entPvCh e)] else [])
  ++ (if entSpSrc e = 2 then [(false, entSpCh e)] else if entSpSrc e = 3 || entSpSrc e = 4 then [(true, entSpCh e)] else [])
  ++ (if entFf e = 1 then [(false, entFfCh e)] else [])

/-- The image points an entry reads (R339). -/
def entReads (e : List Word) : List Nat :=
  (if entPvSrc e = 0 then [entPvPt e] else []) ++ (if entSpSrc e = 5 then [entSpPt e] else [])

/-- Whether an encoding is undefined or a reserved bit is set (R340 reason 0x01); a pulse channel above 7 is undefined. -/
def entUndefined (e : List Word) : Bool :=
  1 < entLaw e || entFf e = 3 || 5 < entSpSrc e || 3 < entPvSrc e || entF e 1 31 29 != 0 || entF e 1 15 13 != 0
  || entPar e 17 != 0 || entPar e 18 != 0 || entPar e 19 != 0 || (entChans e).any (fun c => c.1 && 7 < c.2)

/-- Parameters in use, whose values must be finite (R340 reason 0x07). -/
def entUsed (e : List Word) : List Nat :=
  [4, 5, 11, 12, 13, 14] ++ (if entLaw e = 1 then [6, 7] else []) ++ (if entSpSrc e = 0 then [8] else [])
  ++ (if 2 ≤ entSpSrc e && entSpSrc e ≤ 4 then [9, 10] else []) ++ (if entFeTime e = 0 then [] else [15])
  ++ (if entFf e = 0 then [] else [16])

/-- `a < b` on binary32 words. -/
def fLt (a b : Word) : Bool := (f32 a).lt (f32 b)

/-- Whether a parameter breaks R340 reason 0x07. A negative gain counts whether or not it is in use.
(DEDUCED, log 138) -/
def entBadPar (e : List Word) : Bool :=
  (entUsed e).any (fun k => !finite32 (entPar e k)) || [4, 5, 6, 7, 15].any (fun k => fLt (entPar e k) 0)
  || !fLt (entPar e 11) (entPar e 12) || fLt (entPar e 14) (entPar e 13)
  || (entFf e = 1 && !fLt 0 (entPar e 16))

/-- The structural fields of an entry (R342). -/
def entStructure (e : List Word) : List Nat := [entF e 0 31 0, entF e 1 31 0, entF e 2 31 0, entF e 3 31 16]

/-! ## Slots -/

/-- A slot's state besides its registers. -/
def State.slot (s : State) (i : Nat) : LoopSlot := Store.get LoopSlot.dflt s.cle.slots i

/-- Replace a slot's state. -/
def State.setSlot (s : State) (i : Nat) (k : LoopSlot) : State :=
  { s with cle := { s.cle with slots := Store.put LoopSlot.dflt s.cle.slots i k } }

/-- STATE of a slot: 0 OFF, 1 RUN, 2 FAULT (R336). -/
def State.slotState (s : State) (i : Nat) : Nat := s.rf (F.CLE_SSTAT_STATE i)

/-- The slot's tag. -/
def State.slotEvTag (s : State) (i : Nat) : Nat := s.rf (F.CLE_SCFG_TAG i)

/-- The slot's tag, if it exists (R334). -/
def State.slotTag (s : State) (i : Nat) : Option Nat :=
  if s.on (F.CLE_SCFG_EN i) then some (s.slotEvTag i) else none

/-- The entry last loaded: a tuning load that waits for its sample is the newest (R342). -/
def LoopSlot.newest (k : LoopSlot) : List Word := k.tuned.getD k.entry

/-- Set a bit of CLE_STAT (R371). -/
def State.raiseCle (s : State) (bit : Nat) : State := s.raise Reg.CLE_STAT Reg.CLE_IEN 12 bit

/-- A slot changes state for the issuing partition (R370). A tuning load that waited is in force when RUN ends.
(DEDUCED, log 129) -/
def State.slotMove (s : State) (i st p : Nat) : State :=
  let k := s.slot i
  let t := (s.setF (F.CLE_SSTAT_STATE i) st).setSlot i { k with entry := k.newest, tuned := none }
  (t.report 0x0C01 (s.slotEvTag i) (wd i) (wd st) (wd p)).raiseCle 0

/-- The next base tick at or after `n` in which a slot with this entry is due (R344). (DESIGN CHOICE, log 48) -/
def nextDue (e : List Word) (n : Nat) : Nat :=
  let per := max 1 (entPeriod e)
  n + (entPhase e + per - n % per) % per

/-! ## Test signals and captures (R356 to R361) -/

/-- A slot's injection ends: event 0x0C03 and INJEND (R358). -/
def State.injEnd (s : State) (i reason : Nat) : State :=
  let k := s.slot i
  match k.inj with
  | none => s
  | some j =>
    let t := (s.setSlot i { k with inj := none }).setF (F.CLE_SSTAT_INJ i) 0
    (t.report 0x0C03 (s.slotEvTag i) (wd i) (wd j.n) (wd reason)).raiseCle 2

/-- Replace the captures. -/
def State.setCaps (s : State) (cs : List Capture) : State := { s with cle := { s.cle with caps := cs } }

/-- A running capture ends: event 0x0C04 and CAPDONE (R361); its data stay. -/
def State.capEnd (s : State) (c : Capture) (early : Nat) : State :=
  let t := s.setCaps (s.cle.caps.map (fun d => if d.part = c.part then { d with running := false, armed := false } else d))
  let t := t.setF (F.CLE_SSTAT_CAP c.slot) 0
  (t.report 0x0C04 c.part (wd c.slot) (wd c.data.length) (wd early)).raiseCle 3

/-- End the running captures that a test selects, early. -/
def State.capsEnd (s : State) (sel : Capture → Bool) : State :=
  (s.cle.caps.filter (fun c => c.running && sel c)).foldl (fun t c => t.capEnd c 1) s

/-- Injection and capture of a slot end with a fault or a disable (R354, R358, R361). -/
def State.endTests (s : State) (i reason : Nat) : State := (s.injEnd i reason).capsEnd (fun c => c.slot = i)

/-- A slot faults with a cause (R354): its FAIL value follows at phase 100 µs. `e` is the error of the faulting sample. -/
def State.slotFault (s : State) (i cause : Nat) (e : Word) : State :=
  let k := s.slot i
  let t := s.setSlot i { k with entry := k.newest, tuned := none, taken := none, computed := false, failDue := true }
  let t := (t.setF (F.CLE_SSTAT_STATE i) 2).setF (F.CLE_SSTAT_FCAUSE i) cause
  let t := t.endTests i 2
  ((t.report 0x0C02 (s.slotEvTag i) (wd i) (wd cause) e).raiseCle 1).raiseCle 0

/-- A fault outside a sample: its event carries an error that is open. (DESIGN CHOICE, log 49) -/
def State.slotFaultNow (s : State) (i cause : Nat) : State := s.useFree.slotFault i cause s.freeVal

/-- The slots in RUN that a test on their entries selects. -/
def State.runSlots (s : State) (sel : List Word → Bool) : List Nat :=
  (List.range 256).filter (fun i => s.slotState i = 1 && sel (s.slot i).entry)

/-- Slots in RUN fault: all with a CLE block reset (R337), those that read direct channels with an LIO block reset (R369). -/
def State.faultSlots (s : State) (sel : List Word → Bool) (cause : Nat) : State :=
  (s.runSlots sel).foldl (fun t i => t.slotFaultNow i cause) s

/-- The CLE block enters reset: every slot in RUN faults with cause 0x07; a disable that waited has been ABORTED and acts no more
(R337). -/
def State.cleResetIn (s : State) : State :=
  forUpto 256 (s.faultSlots (fun _ => true) 7) (fun i t => t.setSlot i { t.slot i with stops := [] })

/-! ## Entry checks (R340, R341, R343) -/

/-- Whether a slot tagged `p` may read a direct channel, by the points that exist (R341). -/
def chanOk (pts : List (Nat × Point)) (p : Nat) (c : Bool × Nat) : Bool :=
  p = 0 || pts.any (fun e => e.2.tag = p && e.2.kind = 2 && e.2.ofs = c.2
    && (if c.1 then e.2.stn = 4 || e.2.stn = 5 else e.2.stn = 0))

/-- Whether slot `i`, tagged `p`, may use a point as its output (R340 reason 0x03). -/
def outPtOk (i p : Nat) (q : Point) : Bool :=
  q.valid && q.dir != 1 && 1 ≤ q.fmt && q.fmt ≤ 3 && q.wsrc = 2 && q.widx = i && q.tag = p

/-- Whether a slot tagged `p` may read a point (R340 reason 0x04). -/
def readPtOk (p : Nat) (q : Point) : Bool := q.valid && q.fmt != 0 && (p = 0 || q.tag = p)

/-- Whether an entry of slot `i`, tagged `p`, fails reason 0x03, 0x04 or 0x05 against a point table. -/
def refReason (pt : Nat → Point) (pts : List (Nat × Point)) (i p : Nat) (e : List Word) : Option Nat :=
  if !entNoOut e && !outPtOk i p (pt (entOutPt e)) then some 3
  else if (entReads e).any (fun q => !readPtOk p (pt q)) then some 4
  else if (entChans e).any (fun c => !chanOk pts p c) then some 5
  else none

/-- The points at which a new table `look`, with the points `pts`, breaks the references of an entry of slot `i` tagged `p`: the
output, process-value or set-point point that no longer serves, and for a direct channel that the slot loses, the points of the
table before (`was`) that granted it (R341, R343). -/
def brokenBy (look : Nat → Point) (was pts : List (Nat × Point)) (i p : Nat) (e : List Word) : List Nat :=
  (if !entNoOut e && !outPtOk i p (look (entOutPt e)) then [entOutPt e] else [])
  ++ (entReads e).filter (fun q => !readPtOk p (look q))
  ++ ((entChans e).filter (fun c => !chanOk pts p c)).flatMap (fun c => (was.filter (fun q => chanOk [q] p c)).map (fun q => q.1))

/-- Whether following cascades from slot `j` leads back to slot `i` (R340 reason 0x06). -/
def chainBack (ent : Nat → List Word) (i : Nat) : Nat → Nat → Bool
  | 0, _ => false
  | n + 1, j => j = i || (entSpSrc (ent j) = 1 && chainBack ent i n (entCasc (ent j)))

/-- Whether the cascade of an entry is refused (R340 reason 0x06). -/
def State.cascBad (s : State) (ent : Nat → List Word) (i : Nat) (e : List Word) : Bool :=
  entSpSrc e = 1 && (entCasc e = i || s.slotTag (entCasc e) != some (s.slotEvTag i) || chainBack ent i 256 (entCasc e))

/-- The lowest reason that the entry of slot `i` fails (R340); the point table is the latest accepted one. (DEDUCED, log 178)
A structural change in RUN is rejected with reason 0x08. (DEDUCED, log 175) -/
def State.entReason (s : State) (ent : Nat → List Word) (i : Nat) (e : List Word) : Option Nat :=
  if entUndefined e then some 1
  else if entPeriod e = 0 || 8000 < entPeriod e || entPeriod e ≤ entPhase e then some 2
  else
    match refReason s.nextPt s.nextPoints i (s.slotEvTag i) e with
    | some r => some r
    | none =>
      if s.cascBad ent i e then some 6
      else if entBadPar e then some 7
      else if s.slotState i = 1 && entStructure e != entStructure (s.slot i).entry then some 8
      else none

/-! ## CLE_LOAD (R340, R342) -/

/-- Cut a list of words into entries of 20. -/
def entriesOf : Nat → List Word → List (List Word)
  | 0, _ => []
  | n + 1, ws => ws.take 20 :: entriesOf n (ws.drop 20)

/-- The first slot of a range whose entry fails, with its reason. -/
def State.firstBad (s : State) (ent : Nat → List Word) : Nat → List (List Word) → Option (Nat × Nat)
  | _, [] => none
  | i, e :: es =>
    match s.entReason ent i e with
    | some r => some (i, r)
    | none => s.firstBad ent (i + 1) es

/-- Store an accepted entry (R336, R342). -/
def State.storeEntry (s : State) (p i : Nat) (e : List Word) : State :=
  let k := s.slot i
  let t := if s.slotState i = 1 then s.setSlot i { k with tuned := some e }
    else (s.setSlot i { k with entry := e, tuned := none, hasU := false }).setF (F.CLE_SSTAT_LOADED i) 1
  t.audit p (s.slotEvTag i) Cls.loop i 0x2C

/-- The first slot of a range that the filter refuses a partition. -/
def State.slotRefused (s : State) (p first n : Nat) : Option Nat :=
  ((List.range n).map (first + ·)).find? (fun i => s.filterWrite p (s.slotTag i) Cls.loop i != St.success)

/-- CLE_LOAD's body (R340). -/
def cleLoadBody (x : HPort) (p : Part) (d : Desc) (s : State) (_id : Nat) : CmdEnd :=
  let first := fieldOf d.w2 7 0
  let n := fieldOf d.w3 8 0
  match s.slotRefused p first n with
  | some i => .refuse s Cls.loop i (s.filterWrite p (s.slotTag i) Cls.loop i)
  | none =>
    match s.dmaRead x p d.addr (80 * n) with
    | (none, t) => .done t St.dmaError 0 0
    | (some bs, t) =>
      let es := entriesOf n (wordsOf bs)
      let ent (j : Nat) : List Word := if first ≤ j && j < first + n then es.getD (j - first) []
        else if t.on (F.CLE_SSTAT_LOADED j) then (t.slot j).newest else []
      match t.firstBad ent first es with
      | some (i, r) => .done t St.rejected (wd i) (wd r)
      | none => .done (forUpto n t (fun k t => t.storeEntry p (first + k) (es.getD k []))) St.success (wd n) 0

/-- CLE_LOAD (R340). -/
def cleLoadEff (x : HPort) (p : Part) (d : Desc) (s : State) : State :=
  s.command x p d (d.opcode = 0x2C)
    (d.clean 0xFF 0x1FF allBits allBits 0 0 && d.addr % 8 = 0 && 1 ≤ fieldOf d.w3 8 0 && fieldOf d.w3 8 0 ≤ 256
      && fieldOf d.w2 7 0 + fieldOf d.w3 8 0 ≤ 256) true false (cleLoadBody x p d)

/-- CLE_LOAD (R340). -/
def execCleLoad (x : HPort) (p : Part) (d : Desc) (s : State) : Host.Outcome State Fault Refusal := .next (cleLoadEff x p d s)

/-! ## CLE_CTL (R336, R351, R355 to R362) -/

/-- CLE_CTL with operation `op`: the filter, and on a standby the STATE of R528. (DEDUCED, log 128) -/
def State.cleCtl (s : State) (x : HPort) (p : Part) (d : Desc) (op : Nat) (wf : Bool)
    (body : Nat → State → Nat → CmdEnd) : State :=
  s.command x p d (d.opcode = 0x2D && fieldOf d.w3 3 0 = op) wf true false
    (fun s id =>
      let i := fieldOf d.w2 7 0
      let st := s.filterWrite p (s.slotTag i) Cls.loop i
      if st != St.success then .refuse s Cls.loop i st
      else if !s.active && op != 6 then .done s St.state 0 0
      else body i s id)

/-- A standby that has applied a record takes a field input from the mirrored inputs (R363, R517). (DEDUCED, log 176) -/
def State.mirrored (s : State) (i : Nat) : Bool :=
  !s.active && s.twn.last.isSome && (s.pt i).isIn && (s.pt i).kind = 1

/-- The image value that loops see of a point. -/
def State.loopImg (s : State) (i : Nat) : Word :=
  if s.mirrored i then Store.get wordZero s.twn.inputs i else s.img i

/-- QBAD as loops see it: a record carries no quality of inputs. (DEDUCED, log 176) -/
def State.loopBad (s : State) (i : Nat) : Bool := !s.mirrored i && s.qbad i

/-- A point's value as binary32 (R339): signed formats and counters are converted, rounded to nearest. -/
def State.pointF32 (s : State) (i : Nat) : Word :=
  let f := (s.pt i).fmt
  let w := s.loopImg i
  if f = 3 then w else if f = 4 then toF32 (fpInt w.toNat) else toF32 (fpInt w.toInt)

/-- The process value an entry reads now (R339). -/
def State.loopPv (s : State) (e : List Word) : Word :=
  let c := entPvCh e
  match entPvSrc e with
  | 0 => s.pointF32 (entPvPt e)
  | 1 => s.aiValue c
  | 2 => s.pulseFreq c
  | _ => s.pulseCount c

/-- A value scaled by SPGAIN and SPOFS (R339). -/
def entScale (e : List Word) (v : Word) : Word :=
  toF32 ((f32 (toF32 ((f32 v).mul (f32 (entPar e 9))))).add (f32 (entPar e 10)))

/-- The set point an entry reads now (R339). -/
def State.loopSp (s : State) (e : List Word) : Word :=
  let c := entSpCh e
  match entSpSrc e with
  | 0 => entPar e 8
  | 1 => s.reg (Reg.CLE_SOUT (entCasc e))
  | 2 => entScale e (s.aiValue c)
  | 3 => entScale e (s.pulseFreq c)
  | 4 => entScale e (s.pulseCount c)
  | _ => s.pointF32 (entSpPt e)

/-- Sum, difference, product and quotient in binary32. (PRESUMED, log 53) -/
def fAdd (a b : Word) : Word := toF32 ((f32 a).add (f32 b))
/-- Difference in binary32. (PRESUMED, log 53) -/
def fSub (a b : Word) : Word := toF32 ((f32 a).sub (f32 b))
/-- Product in binary32. (PRESUMED, log 53) -/
def fMul (a b : Word) : Word := toF32 ((f32 a).mul (f32 b))
/-- Quotient in binary32. (PRESUMED, log 53) -/
def fDiv (a b : Word) : Word := toF32 ((f32 a).div (f32 b))
/-- A value limited to a range, as the law's `clamp`. -/
def fClamp (lo hi v : Word) : Word := if fLt v lo then lo else if fLt hi v then hi else v

/-- Enable's body (R336, R351): the state is set up so that the output does not jump. (DESIGN CHOICE, log 48) -/
def cleEnableBody (p : Part) (i : Nat) (s : State) (_id : Nat) : CmdEnd :=
  let k := s.slot i
  if s.slotState i = 1 then .done s St.success (wd k.firstTc) 0
  else if s.slotState i != 0 || !s.on (F.CLE_SSTAT_LOADED i) then .done s St.state 0 0
  else
    let e := k.entry
    let pv := s.loopPv e
    let sp := s.loopSp e
    let w := if entNoOut e then (if k.hasU then s.reg (Reg.CLE_SOUT i) else 0) else s.pointF32 (entOutPt e)
    let e0 := if entRev e then fSub pv sp else fSub sp pv
    let first := nextDue e (s.cle.tc + 1 + s.freeVal.toNat % 2)
    let t := s.useFree.setSlot i { k with
      iPrev := fClamp (entPar e 13) (entPar e 14) (fSub w (fMul (entPar e 4) e0))
      dPrev := 0
      pvPrev := pv
      sp1 := sp
      sp2 := sp
      firstTc := first
      taken := none
      computed := false
      stops := [] }
    let t := ((t.setF (F.CLE_SSTAT_SAT i) 0).setF (F.CLE_SSTAT_FECNT i) 0).setF (F.CLE_SSTAT_LOWV i) 0
    .done ((t.slotMove i 1 p).audit p (s.slotEvTag i) Cls.loop i 0x2D) St.success (wd first) 0

/-- CLE_CTL enable (R351). -/
def cleEnableEff (x : HPort) (p : Part) (d : Desc) (s : State) : State :=
  s.cleCtl x p d 1 (d.clean 0xFF 0xF 0 0 0 0) (cleEnableBody p)

/-- CLE_CTL enable (R351). -/
def execCleEnable (x : HPort) (p : Part) (d : Desc) (s : State) : Host.Outcome State Fault Refusal :=
  .next (cleEnableEff x p d s)

/-- SRCFLT of a slot's output point (R354, R355). -/
def State.outSrcFlt (s : State) (i : Nat) (b : Bool) : State :=
  let e := (s.slot i).entry
  if entNoOut e then s else s.qbit (entOutPt e) 6 b

/-- Disable's body (R336, R355). -/
def cleDisableBody (x : HPort) (p : Part) (i : Nat) (s : State) (id : Nat) : CmdEnd :=
  let k := s.slot i
  let tc := wd s.cle.tc
  if s.slotState i = 0 then .done s St.success tc 0
  else
    let t := s.audit p (s.slotEvTag i) Cls.loop i 0x2D
    if s.slotState i = 1 then .wait (t.setSlot i { k with stops := k.stops ++ [(x, p, id)] })
    else .done ((t.outSrcFlt i false).slotMove i 0 p) St.success tc 0

/-- CLE_CTL disable (R355). (DEDUCED, log 128) -/
def cleDisableEff (x : HPort) (p : Part) (d : Desc) (s : State) : State :=
  s.cleCtl x p d 2 (d.clean 0xFF 0xF 0 0 0 0) (cleDisableBody x p)

/-- CLE_CTL disable (R355). -/
def execCleDisable (x : HPort) (p : Part) (d : Desc) (s : State) : Host.Outcome State Fault Refusal :=
  .next (cleDisableEff x p d s)

/-- TYPE of an injection descriptor (R356). -/
def injType (ws : List Word) : Nat := entF ws 0 31 30

/-- Whether an injection descriptor keeps every range of R356 for a loop with period `t` in binary32 (R338). -/
def injOk (t : Word) (ws : List Word) : Bool :=
  let ty := injType ws
  let sine := ty = 3
  ty != 0 && entF ws 0 28 8 = 0 && (if ty = 1 then entF ws 0 7 0 != 0 else entF ws 0 7 0 = 0)
  && finite32 (entPar ws 1) && fLt 0 (entPar ws 1) && entPar ws 6 = 0 && entPar ws 7 = 0
  && (if sine then entPar ws 2 = 0 && finite32 (entPar ws 3) && finite32 (entPar ws 4) && fLt 0 (entPar ws 3)
        && !fLt (entPar ws 4) (entPar ws 3) && ((f32 (entPar ws 4)).mul ((f32 t).mul (fpInt 4))).le (fpInt 1)
        && entF ws 5 31 16 != 0 && 1 ≤ entF ws 5 15 0 && entF ws 5 15 0 ≤ 1024
      else true)

/-- Samples of step `k` of a stepped sine (R357). -/
def sineLen (t : Word) (ws : List Word) (k : Nat) : Nat :=
  sineSamples (entPar ws 3) (entPar ws 4) t (entF ws 5 15 0) (entF ws 5 31 16) k

/-- The samples an injection lasts; `none` until stopped (R356, R357, R362). -/
def injTotal (t : Word) (ws : List Word) : Option Nat :=
  if injType ws = 3 then some ((List.range (entF ws 5 15 0)).foldl (fun a k => a + sineLen t ws k) 0)
  else if entPar ws 2 = 0 then none else some (entPar ws 2).toNat

/-- The injected value of the next sample (R357). -/
def injValue (t : Word) (j : Inj) : Word :=
  let amp := entPar j.desc 1
  match injType j.desc with
  | 1 => if bitOf j.lfsr 14 then amp else amp ^^^ 0x80000000
  | 2 => amp
  | _ => sineValue amp (entPar j.desc 3) (entPar j.desc 4) t (entF j.desc 5 15 0) j.k j.m

/-- The shift register after one shift with feedback x^15 + x^14 + 1. -/
def prbsShift (l : Nat) : Nat := (2 * l + ofBool (bitOf l 14 != bitOf l 13)) % 2 ^ 15

/-- The generator after one sample (R357). -/
def injNext (t : Word) (j : Inj) : Inj :=
  let hold := max 1 (entF j.desc 0 7 0)
  let lfsr := if injType j.desc = 1 && (j.n + 1) % hold = 0 then prbsShift j.lfsr else j.lfsr
  let step := injType j.desc = 3 && sineLen t j.desc j.k ≤ j.m + 1
  { j with n := j.n + 1, lfsr := lfsr, k := if step then j.k + 1 else j.k, m := if step then 0 else j.m + 1 }

/-- The next due sample of a running slot. -/
def State.upcoming (s : State) (i : Nat) : Nat :=
  let k := s.slot i
  nextDue k.entry (max k.firstTc (s.cle.tc + 1))

/-- Inject start's body (R336, R356, R358). -/
def cleInjectStartBody (x : HPort) (p : Part) (d : Desc) (i : Nat) (s : State) (_id : Nat) : CmdEnd :=
  let k := s.slot i
  if s.slotState i != 1 then .done s St.state 0 0
  else if k.inj.isSome then .done s St.busy 0 0
  else
    match s.dmaRead x p d.addr 32 with
    | (none, t) => .done t St.dmaError 0 0
    | (some bs, t) =>
      let ws := wordsOf bs
      let per := entT k.entry
      if !injOk per ws then .done t St.badDesc 0 0
      else
        let n := s.upcoming i
        let j : Inj := { desc := ws, start := n, n := 0, lfsr := 0x7FFF, k := 0, m := 0, stopped := false }
        let t := (t.setSlot i { k with inj := some j }).setF (F.CLE_SSTAT_INJ i) 1
        .done (t.audit p (s.slotEvTag i) Cls.loop i 0x2D) St.success (wd n)
          (match injTotal per ws with
          | some m => wd m
          | none => 0xFFFFFFFF)

/-- CLE_CTL inject start (R356). -/
def cleInjectStartEff (x : HPort) (p : Part) (d : Desc) (s : State) : State :=
  s.cleCtl x p d 3 (d.buf 0xFF 0xF 0 32 32) (cleInjectStartBody x p d)

/-- CLE_CTL inject start (R356). -/
def execCleInjectStart (x : HPort) (p : Part) (d : Desc) (s : State) : Host.Outcome State Fault Refusal :=
  .next (cleInjectStartEff x p d s)

/-- Inject stop's body (R336, R358): the injection ends at the next sample. -/
def cleInjectStopBody (p : Part) (i : Nat) (s : State) (_id : Nat) : CmdEnd :=
  let k := s.slot i
  match k.inj with
  | none => .done s St.success 0 0
  | some j =>
    .done ((s.setSlot i { k with inj := some { j with stopped := true } }).audit p (s.slotEvTag i) Cls.loop i 0x2D)
      St.success (wd j.n) 0

/-- CLE_CTL inject stop (R358). -/
def cleInjectStopEff (x : HPort) (p : Part) (d : Desc) (s : State) : State :=
  s.cleCtl x p d 4 (d.clean 0xFF 0xF 0 0 0 0) (cleInjectStopBody p)

/-- CLE_CTL inject stop (R358). -/
def execCleInjectStop (x : HPort) (p : Part) (d : Desc) (s : State) : Host.Outcome State Fault Refusal :=
  .next (cleInjectStopEff x p d s)

/-- The tag field of capture segment `g` (R372). -/
def segTagF (g : Nat) : Fld := ⟨Reg.CLE_CAPSEG (g / 4), 8 * (g % 4) + 6, 8 * (g % 4)⟩

/-- The segments tagged `p`, in ascending order (R359). -/
def State.segsOf (s : State) (p : Nat) : List Nat := (List.range 16).filter (fun g => s.rf (segTagF g) = p)

/-- A partition's capture. -/
def State.capOf (s : State) (p : Nat) : Option Capture := s.cle.caps.find? (fun c => c.part = p)

/-- Whether a capture descriptor keeps every range of R360. -/
def capOk (ws : List Word) : Bool :=
  entF ws 0 31 17 = 0 && [0, 4, 8, 12].all (fun b => entF ws 0 (b + 3) b ≤ 11)
  && entF ws 1 31 8 = 0 && entF ws 1 7 0 != 0
  && entF ws 2 31 15 = 0 && 1 ≤ entF ws 2 14 0 && entF ws 2 14 0 ≤ 16384 && entPar ws 3 = 0

/-- Capture start's body (R336, R359 to R361). -/
def cleCaptureStartBody (x : HPort) (p : Part) (d : Desc) (i : Nat) (s : State) (_id : Nat) : CmdEnd :=
  let tag := s.slotEvTag i
  if s.slotState i != 1 then .done s St.state 0 0
  else if (match s.capOf tag with | some c => c.running | none => false) then .done s St.busy 0 0
  else
    match s.dmaRead x p d.addr 16 with
    | (none, t) => .done t St.dmaError 0 0
    | (some bs, t) =>
      let ws := wordsOf bs
      let n := entF ws 2 14 0
      let segs := s.segsOf tag
      if !capOk ws then .done t St.badDesc 0 0
      else if 1024 * segs.length < n then .done t St.noSpace 0 0
      else
        let trig := entF ws 0 16 16 = 1
        let first := s.upcoming i
        let c : Capture := { part := tag, slot := i, desc := ws, segs := segs.take (ceilDiv n 1024), running := true,
                             armed := trig, start := first, seen := 0, data := [] }
        let t := (t.setCaps (t.cle.caps.filter (fun c => c.part != tag) ++ [c])).setF (F.CLE_SSTAT_CAP i) 1
        .done (t.audit p tag Cls.loop i 0x2D) St.success (if trig then 0xFFFFFFFF else wd first) (wd n)

/-- CLE_CTL capture start (R360). -/
def cleCaptureStartEff (x : HPort) (p : Part) (d : Desc) (s : State) : State :=
  s.cleCtl x p d 5 (d.buf 0xFF 0xF 0 16 16) (cleCaptureStartBody x p d)

/-- CLE_CTL capture start (R360). -/
def execCleCaptureStart (x : HPort) (p : Part) (d : Desc) (s : State) : Host.Outcome State Fault Refusal :=
  .next (cleCaptureStartEff x p d s)

/-- Capture read's body (R361, R362): the captured samples of the slot's partition, up to LEN bytes. -/
def cleCaptureReadBody (x : HPort) (p : Part) (d : Desc) (i : Nat) (s : State) (_id : Nat) : CmdEnd :=
  let data := match s.capOf (s.slotEvTag i) with
    | some c => c.data
    | none => []
  let out := wordsBytes ((data.take (d.len / 16)).flatMap id)
  match s.dmaWrite x p d.addr out with
  | (false, t) => .done t St.dmaError 0 0
  | (true, t) => .done t St.success (wd out.length) (wd data.length)

/-- CLE_CTL capture read (R361). -/
def cleCaptureReadEff (x : HPort) (p : Part) (d : Desc) (s : State) : State :=
  s.cleCtl x p d 6 (d.buf 0xFF 0xF 0 0 allBits && d.len % 16 = 0) (cleCaptureReadBody x p d)

/-- CLE_CTL capture read (R361). -/
def execCleCaptureRead (x : HPort) (p : Part) (d : Desc) (s : State) : Host.Outcome State Fault Refusal :=
  .next (cleCaptureReadEff x p d s)

/-! ## The base tick (R344 to R347) -/

/-- Whether slot `i` is due in the current base tick (R344). -/
def State.slotDue (s : State) (i : Nat) : Bool :=
  let k := s.slot i
  s.slotState i = 1 && k.firstTc ≤ s.cle.tc && s.cle.tc % max 1 (entPeriod k.entry) = entPhase k.entry

/-- A due slot takes its values at phase 0; a tuning load comes into force (R342, R346, R347, R352).
(DESIGN CHOICE, log 50) -/
def State.takeSlot (s : State) (i : Nat) : State :=
  if !s.slotDue i then s
  else
    let k := s.slot i
    let e := k.newest
    let ip := if k.tuned.isSome then fClamp (entPar e 13) (entPar e 14) k.iPrev else k.iPrev
    let bad := (entReads e).any (fun q => s.loopBad q)
    let lone := entSpSrc e = 1 && s.slotState (entCasc e) != 1
    let cause := if bad && lone then (if bitOf s.freeVal.toNat 0 then 2 else 4) else if bad then 2 else if lone then 4 else 0
    let v : LoopIn := { pv := s.loopPv e, sp := s.loopSp e, vs := if entFf e = 1 then s.aiValue (entFfCh e) else 0,
                        cause := cause }
    s.useFree.setSlot i { k with entry := e, tuned := none, iPrev := ip, taken := some v, computed := false }

/-- A disabled slot stops after the tick (R355): OFF, and the waiting commands complete (R362). -/
def State.stopSlot (s : State) (i : Nat) : State :=
  let k := s.slot i
  match k.stops with
  | [] => s
  | (_, p, _) :: _ =>
    let t := s.setSlot i { k with stops := [], taken := none, computed := false }
    let t := if s.slotState i = 0 then t
      else (((if s.slotState i = 2 then t.outSrcFlt i false else t).endTests i 2).slotMove i 0 p)
    k.stops.foldl (fun t e => t.completeLate e.1 e.2.1 e.2.2 St.success (wd s.cle.tc) 0) t

/-- A base tick begins: CLE_TC advances by `n`, slots that were disabled stop, and the due slots take their values. -/
def State.cleTick (s : State) (n : Nat) : State :=
  let t : State := { s with cle := { s.cle with tc := s.cle.tc + n } }
  forUpto 256 (forUpto 256 t (fun i t => t.stopSlot i)) (fun i t => t.takeSlot i)

/-! ## The control law (R350) -/

/-- What one sample of the law yields. -/
structure LawOut where
  ok : Bool
  sp : Word
  e : Word
  p : Word
  i : Word
  d : Word
  f : Word
  v : Word
  u : Word
  sat : Nat
  lowv : Bool
  deriving DecidableEq, Repr

/-- One sample of the control law, every operation rounded to binary32 (R350). `sat` is the stored sat_prev: 0 none,
1 high, 2 low; `injSp` and `injOut` are the injected values. Any intermediate value that is not finite clears `ok` (R352). -/
def loopLaw (en : List Word) (k : LoopSlot) (sat : Nat) (x : LoopIn) (injSp injOut : Word) : LawOut :=
  let par := entPar en
  let tt := entT en
  let sp := fAdd x.sp injSp
  let e := if entRev en then fSub x.pv sp else fSub sp x.pv
  let p := fMul (par 4) e
  let dm := if entRev en then fSub x.pv k.pvPrev else fSub k.pvPrev x.pv
  let d1 := fMul (par 7) k.dPrev
  let d2 := fMul (par 6) dm
  let d3 := fAdd d1 d2
  let d4 := fAdd (par 7) tt
  let pid := entLaw en = 1
  let d := if pid then fDiv d3 d4 else 0
  let a1 := fMul 0x40000000 k.sp1
  let a2 := fSub x.sp a1
  let a3 := fAdd a2 k.sp2
  let a4 := fMul (par 16) a3
  let accel := entFf en = 2
  let f := if accel then fDiv a4 (fMul tt tt) else 0
  let g1 := fMul (par 5) tt
  let g2 := fMul g1 e
  let di := if (sat = 1 && fLt 0 g2) || (sat = 2 && fLt g2 0) then 0 else g2
  let i0 := fAdd k.iPrev di
  let i := fClamp (par 13) (par 14) i0
  let v1 := fAdd p i
  let v2 := fAdd v1 d
  let v3 := fAdd v2 f
  let supply := entFf en = 1
  let q := fDiv (par 16) 0x40800000
  let low := supply && fLt x.vs q
  let w1 := fMul v3 (par 16)
  let v4 := if supply then fDiv w1 (if fLt x.vs q then q else x.vs) else v3
  let v := fAdd v4 injOut
  { ok := ([x.sp, x.pv, sp, e, p, g1, g2, i0, v1, v2, v3, v4, v]
        ++ (if pid then [dm, d1, d2, d3, d4, d] else [])
        ++ (if accel then [a1, a2, a3, a4, f] else [])
        ++ (if supply then [x.vs, q, w1] else [])).all finite32
    sp := sp
    e := e
    p := p
    i := i
    d := d
    f := f
    v := v
    u := fClamp (par 11) (par 12) v
    sat := if fLt (par 12) v then 1 else if fLt v (par 11) then 2 else 0
    lowv := low }

/-- The value of a captured signal (R360). -/
def capSignal (o : LawOut) (x : LoopIn) (inj : Word) : Nat → Word
  | 1 => o.sp
  | 2 => x.pv
  | 3 => o.e
  | 4 => o.p
  | 5 => o.i
  | 6 => o.d
  | 7 => o.f
  | 8 => o.v
  | 9 => o.u
  | 10 => inj
  | 11 => x.vs
  | _ => 0

/-- A capture after one due sample of its slot (R360, R361). `trig` says that this sample is an injection's first. -/
def capStep (c : Capture) (o : LawOut) (x : LoopIn) (inj : Word) (tc : Nat) (trig : Bool) : Capture :=
  if !c.running || tc < c.start || (c.armed && !trig) then c
  else
    let take := c.seen % max 1 (entF c.desc 1 7 0) = 0
    let row := [0, 4, 8, 12].map (fun b => capSignal o x inj (entF c.desc 0 (b + 3) b))
    { c with armed := false, seen := c.seen + 1, data := if take then c.data ++ [row] else c.data }

/-- The injection runs in this sample: it has begun and has not been stopped. -/
def Inj.live (j : Inj) (tc : Nat) : Bool := j.start ≤ tc && !j.stopped

/-- Advance the generator after a sample; it ends with its last sample (R357, R358). -/
def State.injStep (s : State) (i : Nat) : State :=
  let k := s.slot i
  match k.inj with
  | none => s
  | some j =>
    if j.stopped then s.injEnd i 1
    else if s.cle.tc < j.start then s
    else
      let per := entT k.entry
      let j' := injNext per j
      let t := s.setSlot i { k with inj := some j' }
      if injTotal per j.desc = some j'.n then t.injEnd i 0 else t

/-- Captures of a slot take a sample; one that has all its samples ends (R361). -/
def State.capSteps (s : State) (i : Nat) (o : LawOut) (x : LoopIn) (inj : Word) (trig : Bool) : State :=
  let cs := s.cle.caps.map (fun c => if c.slot = i then capStep c o x inj s.cle.tc trig else c)
  let t := s.setCaps cs
  (cs.filter (fun c => c.slot = i && c.running && entF c.desc 2 14 0 ≤ c.data.length)).foldl (fun t c => t.capEnd c 0) t

/-- Whether the sample's error faults the slot: FECNT would exceed FETIME (R353). -/
def State.followFault (s : State) (i : Nat) (en : List Word) (e : Word) : Bool :=
  entFeTime en != 0 && (f32 (entPar en 15)).lt (f32 e).abs && entFeTime en < s.rf (F.CLE_SSTAT_FECNT i) + 1

/-- Compute the sample a due slot took (R350 to R353). (DEDUCED, log 51) -/
def State.computeSlot (s : State) (i : Nat) : State :=
  let k := s.slot i
  match k.taken with
  | none => s
  | some x =>
    let en := k.entry
    let casc := entSpSrc en = 1
    let cause := if x.cause != 0 then x.cause else if casc && s.slotState (entCasc en) != 1 then 4 else 0
    let x := if casc then { x with sp := s.reg (Reg.CLE_SOUT (entCasc en)) } else x
    let inj := match k.inj with
      | some j => if j.live s.cle.tc then injValue (entT en) j else 0
      | none => 0
    let trig : Bool := match k.inj with
      | some j => j.live s.cle.tc && j.n = 0
      | none => false
    let atOut : Bool := match k.inj with
      | some j => entF j.desc 0 29 29 = 1
      | none => false
    let o := loopLaw en k (s.rf (F.CLE_SSTAT_SAT i)) x (if atOut then 0 else inj) (if atOut then inj else 0)
    if cause != 0 then s.slotFault i cause o.e
    else if !o.ok then s.slotFault i 3 o.e
    else if s.followFault i en o.e then s.slotFault i 1 o.e
    else
      let t := s.setSlot i { k with
        iPrev := o.i
        dPrev := o.d
        pvPrev := x.pv
        sp1 := x.sp
        sp2 := k.sp1
        taken := none
        computed := true
        hasU := true
        err := o.e }
      let t := ((t.setReg (Reg.CLE_SOUT i) o.u).setF (F.CLE_SSTAT_SAT i) o.sat).setF (F.CLE_SSTAT_LOWV i) (ofBool o.lowv)
      (t.capSteps i o x inj trig).injStep i

/-- From phase 4 µs: every due slot in ascending number (R345). (DEDUCED, log 51) -/
def cleComputeEff (s : State) : State := forUpto 256 s (fun i t => t.computeSlot i)

/-- CLE_COMPUTE (R350). -/
def execCleCompute (s : State) : Host.Outcome State Fault Refusal := .next (cleComputeEff s)

/-! ## Phase 100 µs (R348, R353, R354) -/

/-- A loop output in a point's format (R348). -/
def loopFormat (fmt : Nat) (u : Word) : Word :=
  if fmt = 3 then u
  else
    let lim : Int := if fmt = 1 then 32767 else 2147483647
    match (f32 u).toInt 0 with
    | some z => wdInt (clampInt (-lim - 1) lim z)
    | none => u

/-- Drive the local channel of a point that has one: a force prevails (R266, R348). -/
def State.driveOut (s : State) (i : Nat) (v : Word) : State :=
  let p := s.pt i
  if p.kind = 2 && p.isOut then
    s.driveLocal p.stn p.ofs p.fmt (match s.force i with
      | some f => f.value
      | none => v)
  else s

/-- Write a slot's output, or the FAIL value of a fault (R348, R354). (DEDUCED, log 136) -/
def State.writeSlot (s : State) (i : Nat) : State :=
  let k := s.slot i
  let q := entOutPt k.entry
  let no := entNoOut k.entry
  if k.failDue then
    let t := s.setSlot i { k with failDue := false, computed := false }
    if no then t
    else
      let v := (s.pt q).failValue
      let t := (t.setImg q v).driveOut q v
      if s.slotState i = 2 then t.qbit q 6 true else t
  else if k.computed then
    let t := s.setSlot i { k with computed := false }
    let t := if entFeTime k.entry = 0 then t
      else if (f32 (entPar k.entry 15)).lt (f32 k.err).abs then t.addSat (F.CLE_SSTAT_FECNT i) 1
      else t.setF (F.CLE_SSTAT_FECNT i) 0
    if no then t
    else
      let v := loopFormat (s.pt q).fmt (s.reg (Reg.CLE_SOUT i))
      (t.sourceWrite q v).driveOut q v
  else s

/-- Phase 100 µs: outputs, faults and following-error counts in ascending slot order (R345). -/
def cleOutputWriteEff (s : State) : State := forUpto 256 s (fun i t => t.writeSlot i)

/-- CLE_OUTPUT_WRITE (R348). -/
def execCleOutputWrite (s : State) : Host.Outcome State Fault Refusal := .next (cleOutputWriteEff s)

/-! ## Registers (R335, R359, R371) -/

/-- Clear a slot that changed hands (R335). -/
def State.clearSlot (s : State) (i : Nat) : State :=
  let t := (s.capsEnd (fun c => c.slot = i)).setSlot i (LoopSlot.dflt i)
  (t.setReg (Reg.CLE_SSTAT i) 0).setReg (Reg.CLE_SOUT i) 0

/-- A write to CLE_SCFG (R335). -/
def State.writeSlotCfg (s : State) (i : Nat) (v : Word) : State :=
  if s.slotState i != 0 then s.badVal
  else
    let old := s.reg (Reg.CLE_SCFG i)
    let t := s.writeFields (Reg.CLE_SCFG i) v
    let new := t.reg (Reg.CLE_SCFG i)
    if old = new then t else (t.clearSlot i).report 0x0C05 0 (wd i) new 0

/-- SLOT_ASSIGN (R335). -/
def slotAssignEff (x : HPort) (i : Fin 256) (v : Word) (s : State) : State :=
  s.asWrite x 12 (s.writeSlotCfg i v)

/-- SLOT_ASSIGN (R335). -/
def execSlotAssign (x : HPort) (i : Fin 256) (v : Word) (s : State) : Host.Outcome State Fault Refusal :=
  .next (slotAssignEff x i v s)

/-- A write to CLE_CAPSEG (R359): captures that use a segment whose tag changes end, and their data are gone. -/
def State.writeCapSeg (s : State) (j : Nat) (v : Word) : State :=
  let t := s.writeFields (Reg.CLE_CAPSEG j) v
  let gone := ((List.range 4).map (4 * j + ·)).filter (fun g => s.rf (segTagF g) != t.rf (segTagF g))
  let hit (c : Capture) : Bool := c.segs.any (fun g => gone.contains g)
  let t := t.capsEnd hit
  t.setCaps (t.cle.caps.filter (fun c => !hit c))

/-- CAPTURE_SEGMENT_TAG (R359). -/
def captureSegmentTagEff (x : HPort) (j : Fin 4) (v : Word) (s : State) : State :=
  s.asWrite x 12 (s.writeCapSeg j v)

/-- CAPTURE_SEGMENT_TAG (R359). -/
def execCaptureSegmentTag (x : HPort) (j : Fin 4) (v : Word) (s : State) : Host.Outcome State Fault Refusal :=
  .next (captureSegmentTagEff x j v s)

/-- Copy CLE_TC [63:32] into a port's CLE_TCH (R371). -/
def State.snapTc (s : State) (x : HPort) : State :=
  let v := wd (s.cle.tc / 2 ^ 32)
  match x with
  | .hp0 => { s with cle := { s.cle with tch0 := v } }
  | .hp1 => { s with cle := { s.cle with tch1 := v } }

/-- A port's CLE_TCH. -/
def State.tcSnap (s : State) : HPort → Word
  | .hp0 => s.cle.tch0
  | .hp1 => s.cle.tch1

/-- A read of CLE_TCL (R371); in block reset it is answered with a Completer Abort (R657). -/
def cleTclReadEff (x : HPort) (s : State) : State :=
  if s.inReset 12 then s.emit (.completerAbort x Reg.CLE_TCL)
  else (s.snapTc x).showRead x Reg.CLE_TCL 4 (wd s.cle.tc)

/-- CLE_TCL_READ (R371). -/
def execCleTclRead (x : HPort) (s : State) : Host.Outcome State Fault Refusal := .next (cleTclReadEff x s)

/-- The words CLE_SETCRC covers (R371). (DEDUCED, log 139) -/
def State.cleSetWords (s : State) : List Word :=
  (List.range 256).map (fun i => s.reg (Reg.CLE_SCFG i))
  ++ (List.range 256).flatMap (fun i => if s.on (F.CLE_SSTAT_LOADED i) then (s.slot i).newest else [])

/-- CLE_SETCRC_RECOMPUTE (R371). -/
def execCleSetcrcRecompute (s : State) : Host.Outcome State Fault Refusal :=
  .next (s.setReg Reg.CLE_SETCRC (crc32Words s.cleSetWords))

end Sys2Proof.Machine
end

