-- ==== Sys2Proof/Machine/Exchange.lean ====
section
/-! DEFINITION. Loads of the point table, the station table and the exchange schedule, their application, the input latch
and the output publish (chapter "Point Table, Exchange Schedule and Point Image"). -/

namespace Sys2Proof.Machine

/-! ## Point table loads (R249 to R252, R97, R307, R343) -/

/-- The entries of a point table image. -/
def pointsOf : List Word → List Point
  | a :: b :: c :: d :: rest => { w0 := a, w1 := b, w2 := c, w3 := d } :: pointsOf rest
  | _ => []

/-- A reserved bit set to 1, which is refused with VALID = 0 as well (R247, R251). (DEDUCED, log 140) -/
def Point.reserved (p : Point) : Bool := fieldOf p.w0 2 0 != 0 || fieldOf p.w1 29 28 != 0

/-- An undefined encoding, RATE and WIDX included (R247, R251). -/
def Point.undefinedEnc (p : Point) : Bool :=
  p.dir = 3 || 4 < p.fmt || 4 < p.wsrc || 10 < p.rate
  || (if p.wsrc = 1 then 15 < p.widx else p.wsrc != 2 && p.widx != 0)

/-- A combination of DIR, KIND and WSRC of R249. -/
def Point.combined (p : Point) : Bool :=
  match p.dir with
  | 1 => p.kind != 0 && p.wsrc = 0
  | 2 => (p.kind = 1 || p.kind = 2) && (p.wsrc = 1 || p.wsrc = 2 || p.wsrc = 4)
  | _ => p.kind = 0 && p.wsrc != 0

/-- Direction, number of channels and formats of a local I/O class (R250). -/
def localClass : Nat → Nat × Nat × List Nat
  | 0 => (1, 16, [1, 3])
  | 1 => (2, 8, [1, 3])
  | 2 => (1, 32, [0])
  | 3 => (2, 32, [0])
  | 4 => (1, 8, [4])
  | 5 => (1, 8, [3])
  | 6 => (2, 8, [1, 3])
  | _ => (0, 0, [])

/-- STN, OFS and RATE fit the KIND (R250, R251). -/
def State.placed (s : State) (p : Point) : Bool :=
  match p.kind with
  | 0 => p.rate = 0 && p.stn = 0 && p.ofs = 0
  | 1 => p.stn ≤ 2047 && (p.fmt = 0 || p.ofs % 8 = 0)
  | 2 => let c := localClass p.stn
    p.rate = 0 && c.1 = p.dir && p.ofs < c.2.1 && c.2.2.contains p.fmt
  | _ => p.stn ≤ 127 && p.stn != s.rf F.FLD_CTL_FLOOR

/-- The bits of a data area that a field point fills end before this one. -/
def Point.reach (p : Point) : Nat := p.ofs + fmtBits p.fmt

/-- The latest accepted schedule's entry that carries a field point (R260, R263). -/
def entFor (es : List Ent) (p : Point) : Option Ent := es.find? (fun e => e.valid && e.epn = p.stn && e.rate = p.rate)

/-- A field point reaches past its data area (R251). -/
def pastEnd (es : List Ent) (p : Point) : Bool :=
  p.kind = 1 && (match entFor es p with
    | some e => 8 * (if p.isOut then e.rqLen else e.rpLen) < p.reach
    | none => false)

/-- Two points share a data area and overlap, or are outputs on one local channel (R251). (DEDUCED, log 132) -/
def Point.clash (p q : Point) : Bool :=
  (p.kind = 1 && q.kind = 1 && p.stn = q.stn && p.rate = q.rate && p.dir = q.dir && p.ofs < q.reach && q.ofs < p.reach)
  || (p.kind = 2 && q.kind = 2 && p.isOut && q.isOut && p.stn = q.stn && p.ofs = q.ofs)

/-- The force on a point forbids its new entry (R97, R251). -/
def forceForbids (f : Option Force) (p : Point) : Bool :=
  match f with
  | none => false
  | some f => !p.valid || p.dir = 0 || (f.owner != 0 && f.owner != p.tag)

/-- The entry at index `i` of a load offends by itself (R251, R34). (DEDUCED, log 140) -/
def State.entryOffends (s : State) (es : List Ent) (i : Nat) (p : Point) : Bool :=
  p.reserved || forceForbids (s.force i) p
  || (p.valid && (p.undefinedEnc || !p.combined || !s.placed p || pastEnd es p || (p.wsrc = 3 && s.variant.lacks 14)))

/-- The points of a table that clash with a point of lower index. (DEDUCED, log 132) -/
def laterClash : List (Nat × Point) → List Nat
  | [] => []
  | e :: rest => (rest.filter (fun f => e.2.clash f.2)).map (fun f => f.1) ++ laterClash rest

/-- The point that takes the published points over 4,096 (R251). -/
def rpubOver (pts : List (Nat × Point)) : List Nat := (((pts.filter (fun e => e.2.rpub)).drop 4096).take 1).map (fun e => e.1)

/-- The points at which a new table breaks a slot in RUN (R343). -/
def State.runSlotRefs (s : State) (tbl : Store Point) : List Nat :=
  let look := Store.get Point.dflt tbl
  let pts := tbl.filter (fun e => e.2.valid)
  (s.runSlots (fun _ => true)).flatMap (fun i => brokenBy look s.nextPoints pts i (s.slotEvTag i) (s.slot i).entry)

/-- The offending points of a load, in no order. -/
def State.offenders (s : State) (first : Nat) (ps : List Point) : List Nat :=
  let es := entsOf (s.lastSchedule.drop 1)
  let tbl := putPoints s.lastTable first ps
  let pts := tbl.filter (fun e => e.2.valid)
  let own := (List.range ps.length).filter (fun k => s.entryOffends es (first + k) (ps.getD k (Point.dflt 0)))
  own.map (first + ·) ++ laterClash pts ++ rpubOver pts ++ s.runTaskRefs (Store.get Point.dflt tbl) ++ s.runSlotRefs tbl

/-- Slots not in RUN whose references an accepted table breaks lose LOADED (R343). (DEDUCED, log 178) -/
def State.unloadSlots (s : State) : State :=
  let pts := s.nextPoints
  forUpto 256 s (fun i t =>
    if t.on (F.CLE_SSTAT_LOADED i) && t.slotState i != 1
        && (refReason t.nextPt pts i (t.slotEvTag i) (t.slot i).entry).isSome then t.setF (F.CLE_SSTAT_LOADED i) 0
    else t)

/-- A CFG_LOAD image of TYPE 0x01 (R251, R307, R343). -/
def pointCfg (len : Nat) (ws : List Word) (s : State) (_id : Nat) : CmdEnd :=
  let first := (ws.getD 0 0).toNat
  let n := (ws.getD 1 0).toNat
  if 2 ^ 16 ≤ first || 2 ^ 17 ≤ n || 65536 < first + n || len != 8 + 16 * n then rejected s 0xFFFFFFFD 0
  else
    let ps := pointsOf (ws.drop 2)
    match (s.offenders first ps).min? with
    | some i => rejected s (wd i) 0
    | none =>
      let t : State := { s with ptx := { s.ptx with loads := s.ptx.loads ++ [.points first ps] } }
      accepted (t.unverify.unloadSlots)

/-- CFG_LOAD of a point table (R251). -/
def cfgLoadPointTableEff (x : HPort) (p : Part) (d : Desc) (s : State) : State :=
  s.cfgLoad x p d 0x01 (24 ≤ d.len && d.len ≤ 8 + 16 * 65536 && d.len % 16 = 8) true (pointCfg d.len)

/-- CFG_LOAD_POINT_TABLE (R251). -/
def execCfgLoadPointTable (x : HPort) (p : Part) (d : Desc) (s : State) : Host.Outcome State Fault Refusal :=
  .next (cfgLoadPointTableEff x p d s)

/-! ## Station table loads (R210, R253, R254) -/

/-- Reserved bits of a station entry (R253). -/
def Stn.reserved (e : Stn) : Bool :=
  fieldOf e.w0 14 11 != 0 || fieldOf e.w2 31 16 != 0 || fieldOf e.w3 31 11 != 0

/-- Whether a station entry breaks a rule by itself or against the valid entries before it (R210, R254). -/
def State.stnBad (s : State) (before : List Stn) (e : Stn) : Bool :=
  e.reserved || (e.valid &&
    (!s.fieldFitted e.port || !s.on (F.FLD_PCTL_EN e.port) || e.miss < 2
      || before.any (fun b => b.epn = e.epn || (b.port = e.port && b.mac = e.mac))
      || 128 ≤ (before.filter (fun b => b.port = e.port)).length
      || (if e.port < 48 then e.node != 0 || e.maxLen != 0
        else e.node = 0 || s.rf (F.FLD_PLCA_NCNT (e.port - 48)) ≤ e.node || e.maxLen < 64 || 1518 < e.maxLen)))

/-- The first station entry that breaks a rule. -/
def State.firstBadStn (s : State) : List Stn → Nat → List Stn → Option Nat
  | _, _, [] => none
  | before, i, e :: es =>
    if s.stnBad before e then some i
    else s.firstBadStn (if e.valid then before ++ [e] else before) (i + 1) es

/-- A CFG_LOAD image of TYPE 0x03 (R210, R254). -/
def stationCfg (ws : List Word) (s : State) (_id : Nat) : CmdEnd :=
  let es := stnsOf ws
  match s.firstBadStn [] 0 es with
  | some i => rejected s (wd i) 0
  | none =>
    let orphan := (entsOf (s.lastSchedule.drop 1)).findIdx? (fun e =>
      e.valid && !es.any (fun t => t.valid && t.epn = e.epn && t.port = e.port))
    match orphan with
    | some i => rejected s (wd (0x80000000 + i)) 0
    | none => accepted { s with ptx := { s.ptx with loads := s.ptx.loads ++ [.stations ws] } }

/-- CFG_LOAD of a station table (R253). -/
def cfgLoadStationTableEff (x : HPort) (p : Part) (d : Desc) (s : State) : State :=
  s.cfgLoad x p d 0x03 (16 ≤ d.len && d.len ≤ 16 * 2048 && d.len % 16 = 0) true stationCfg

/-- CFG_LOAD_STATION_TABLE (R254). -/
def execCfgLoadStationTable (x : HPort) (p : Part) (d : Desc) (s : State) : Host.Outcome State Fault Refusal :=
  .next (cfgLoadStationTableEff x p d s)

/-! ## Schedule loads (R259 to R262) -/

/-- A PLCA cycle length in µs. -/
def State.plcaMicros (s : State) (g : Nat) : Nat := 125 * 2 ^ s.rf (F.FLD_PLCA_CYC g)

/-- Whether an entry breaks a rule other than the fit, by itself or against the valid entries before it (R262). -/
def State.entBad (s : State) (stns : List Stn) (pts : List (Nat × Point)) (before : List Ent) (e : Ent) : Bool :=
  fieldOf e.w1 31 22 != 0 || fieldOf e.w1 11 0 != 0 || fieldOf e.w2 31 27 != 0 || fieldOf e.w2 15 11 != 0
  || (e.valid &&
    (10 < e.rate || 2 ^ e.rate ≤ e.phase || 1492 < e.rqLen || 1492 < e.rpLen || 999 < e.start
      || !s.fieldFitted e.port || (48 ≤ e.port && e.start % s.plcaMicros (e.port - 48) != 0)
      || !stns.any (fun t => t.valid && t.epn = e.epn && t.port = e.port)
      || before.any (fun b => b.epn = e.epn && b.rate = e.rate)
      || pts.any (fun q => q.2.kind = 1 && q.2.stn = e.epn && q.2.rate = e.rate
          && 8 * (if q.2.isOut then e.rqLen else e.rpLen) < q.2.reach)))

/-- The first entry that breaks a rule other than the fit. -/
def State.firstBadEnt (s : State) (stns : List Stn) (pts : List (Nat × Point)) : List Ent → Nat → List Ent → Option Nat
  | _, _, [] => none
  | before, i, e :: es =>
    if s.entBad stns pts before e then some i
    else s.firstBadEnt stns pts (if e.valid then before ++ [e] else before) (i + 1) es

/-- Byte times of a point frame with `n` data bytes (R208, R255, R261). -/
def pointWire (n : Nat) : Nat := max 64 (26 + n) + 20

/-- Entry `e` takes the entries `before` it on its T1L port over a limit (R261). -/
def t1lBad (turn : Nat) (before : List Ent) (e : Ent) : Bool :=
  let after (a b : Ent) : Bool := 10 * a.start + 8 * pointWire a.rqLen ≤ 10 * b.start
  1000 < before.foldl (fun n b => n + pointWire b.rqLen) (pointWire e.rqLen)
  || 1000 < before.foldl (fun n b => n + pointWire b.rpLen) (pointWire e.rpLen)
  || before.any (fun b => if b.start ≤ e.start then !after b e else !after e b)
  || 10000 < 10 * e.start + 8 * (pointWire e.rqLen + pointWire e.rpLen) + 10 * turn

/-- The longest frame of a node of a segment: 1,518 without any station (R261). -/
def nodeMax (stns : List Stn) (port node : Nat) : Nat :=
  match ((stns.filter (fun t => t.valid && t.port = port && t.node = node)).map Stn.maxLen).max? with
  | some n => n
  | none => 1518

/-- Entry `e` takes the entries `before` it on its T1S segment over a limit (R261). -/
def State.t1sBad (s : State) (stns : List Stn) (before : List Ent) (e : Ent) : Bool :=
  let g := e.port - 48
  let cyc := s.plcaMicros g
  let c := 1000 / cyc
  let n := s.rf (F.FLD_PLCA_NCNT g)
  let nodes := (List.range (n - 1)).foldl (fun a k => a + nodeMax stns e.port (k + 1) + 20) 0
  let reqs := before.foldl (fun a b => a + pointWire b.rqLen) (pointWire e.rqLen)
  let node := match stns.find? (fun t => t.valid && t.epn = e.epn) with
    | some t => t.node
    | none => 0
  8000 < c * (24 + n * s.rf (F.FLD_PLCA_TOT g)) + 8 * reqs + 8 * c * nodes
  || nodeMax stns e.port node < 26 + e.rpLen
  || s.rf (F.FLD_PLCA_BCNT g) + 1 < ((e :: before).filter (fun b => b.start / cyc = e.start / cyc)).length

/-- The first entry, in index order, that takes a residue over a limit (R262). -/
def State.residueBad (s : State) (stns : List Stn) (turn f : Nat) : List Ent → Nat → List Ent → Option Nat
  | _, _, [] => none
  | before, i, e :: es =>
    if !e.activeIn f then s.residueBad stns turn f before (i + 1) es
    else
      let here := before.filter (fun b => b.port = e.port)
      if (if e.port < 48 then t1lBad turn here e else s.t1sBad stns here e) then some i
      else s.residueBad stns turn f (before ++ [e]) (i + 1) es

/-- A CFG_LOAD image of TYPE 0x02 (R259 to R262). -/
def scheduleCfg (len : Nat) (ws : List Word) (s : State) (_id : Nat) : CmdEnd :=
  let h := ws.getD 0 0
  let turn := fieldOf h 23 16
  if fieldOf h 31 28 != 0 || fieldOf h 27 24 < 2 || turn = 0 || len != 4 + 12 * fieldOf h 15 0 then rejected s 0xFFFFFFFD 0
  else
    let es := entsOf (ws.drop 1)
    let stns := stnsOf s.lastStations
    let pts := s.lastTable.filter (fun e => e.2.valid)
    match s.firstBadEnt stns pts [] 0 es with
    | some i => rejected s (wd i) 0
    | none =>
      match (List.range 1024).findSome? (fun f => s.residueBad stns turn f [] 0 es) with
      | some i => rejected s (wd i) 0
      | none => accepted { s with ptx := { s.ptx with loads := s.ptx.loads ++ [.schedule ws] } }

/-- CFG_LOAD of an exchange schedule (R259). -/
def cfgLoadExchangeScheduleEff (x : HPort) (p : Part) (d : Desc) (s : State) : State :=
  s.cfgLoad x p d 0x02 (16 ≤ d.len && d.len ≤ 4 + 12 * 4096 && d.len % 12 = 4) true (scheduleCfg d.len)

/-- CFG_LOAD_EXCHANGE_SCHEDULE (R262). -/
def execCfgLoadExchangeSchedule (x : HPort) (p : Part) (d : Desc) (s : State) : Host.Outcome State Fault Refusal :=
  .next (cfgLoadExchangeScheduleEff x p d s)

/-! ## Application (R252, R263, R294) -/

/-- Set a bit of PTX_STAT (R293). -/
def State.raisePtx (s : State) (bit : Nat) : State := s.raise Reg.PTX_STAT Reg.PTX_IEN 10 bit

/-- Event 0x0A03 and LOADCHG (R292, R293). -/
def State.tableApplied (s : State) (ty n : Nat) (crc : Word) : State :=
  (s.report 0x0A03 0 (wd ty) (wd n) crc).raisePtx 3

/-- PTX_UNSCHED: field points without a schedule entry (R260). -/
def State.countUnscheduled (s : State) : State :=
  s.setReg Reg.PTX_UNSCHED (wd (s.allPoints.filter (fun e => e.2.kind = 1 && (entFor s.ents e.2).isNone)).length)

/-- PTX_STALECNT (R294). -/
def State.countStale (s : State) : State :=
  s.setReg Reg.PTX_STALECNT (wd (s.stns.filter (fun t => s.on (F.PTX_STN_STALE t.epn))).length)

/-- A point whose entry changes takes its FAIL value with quality INIT; other changes keep value and quality (R252). The output image
stays as published (R265). -/
def State.pointChange (s : State) (i : Nat) (old new : Point) : State :=
  if old.valid = new.valid && old.dir = new.dir && old.fmt = new.fmt && old.kind = new.kind && old.stn = new.stn
      && old.ofs = new.ofs then s
  else
    let t := (s.setImg i new.failValue).setQual i 0x20
    { t with ptx := { t.ptx with
        sourced := Store.put noSource t.ptx.sourced i none
        subPts := Store.put SubPoint.dflt t.ptx.subPts i (SubPoint.dflt i) } }

/-- Change the points of a load, in index order. -/
def State.pointChanges (s : State) : Nat → List Point → State
  | _, [] => s
  | i, p :: ps => (s.pointChange i (s.pt i) p).pointChanges (i + 1) ps

/-- Every word of the point table, in index order (R294). -/
def State.tableWords (s : State) : List Word :=
  (List.range 65536).flatMap (fun i => let p := s.pt i
    [p.w0, p.w1, p.w2, p.w3])

/-- Apply a point table load (R252, R96, R98). -/
def State.applyPoints (s : State) (first : Nat) (ps : List Point) : State :=
  let t := s.pointChanges first ps
  let t : State := { t with ptx := { t.ptx with table := putPoints t.ptx.table first ps } }
  let t := t.cullSubs.countUnscheduled
  let crc := crc32Words t.tableWords
  (t.setReg Reg.PTX_PTCRC crc).tableApplied 0x01 t.allPoints.length crc

/-- The exchange state that a schedule entry starts with: its own if it was there, else its station's (R263). -/
def State.startExch (s : State) (old : List Ent) (e : Ent) : Exch :=
  if old.any (fun o => o.valid && o.key = e.key) then s.exch e.key
  else
    let st := s.on (F.PTX_STN_STALE e.epn)
    let ret := s.on (F.PTX_STN_RET e.epn)
    { Exch.dflt 0 with markNow := if st then 1 else if ret then 2 else 0, retDue := ret }

/-- Apply a schedule (R263, R293). -/
def State.applySchedule (s : State) (ws : List Word) : State :=
  let old := s.ents
  let h := ws.getD 0 0
  let es := (entsOf (ws.drop 1)).filter Ent.valid
  let ex := es.foldl (fun m e => Store.put Exch.dflt m e.key (s.startExch old e)) ([] : Store Exch)
  let t : State := { s with ptx := { s.ptx with schedule := ws, exch := ex } }
  let t := t.setReg Reg.PTX_SCHEDCTL (wd (es.length * 2 ^ 16 + fieldOf h 23 16 * 2 ^ 8 + fieldOf h 27 24 * 2 ^ 4 + 1))
  let t := t.countUnscheduled
  (t.setReg Reg.PTX_SCCRC (crc32Words ws)).tableApplied 0x02 es.length (crc32Words ws)

/-- The register of a station that stays or comes: its state is kept if it stays on its port (R263, R296). -/
def State.stationReg (s : State) (old : List Stn) (e : Stn) : State :=
  let keep := old.any (fun o => o.epn = e.epn && o.port = e.port)
  let t := if keep then s else s.setReg (Reg.PTX_STN e.epn) 0
  ((t.setF (F.PTX_STN_VALID e.epn) 1).setF (F.PTX_STN_RESUME e.epn) e.resume).setF (F.PTX_STN_MISS e.epn) e.miss

/-- Apply a station table (R263). -/
def State.applyStations (s : State) (ws : List Word) : State :=
  let old := s.stns
  let t : State := { s with ptx := { s.ptx with stations := ws } }
  let t := (old.filter (fun o => !t.stns.any (fun e => e.epn = o.epn))).foldl (fun t o => t.setReg (Reg.PTX_STN o.epn) 0) t
  let t := t.stns.foldl (fun t e => t.stationReg old e) t
  let t : State := { t with ptx := { t.ptx with staleFor := t.ptx.staleFor.filter (fun k => t.on (F.PTX_STN_STALE k.1)) } }
  ((t.countStale).setReg Reg.PTX_STCRC (crc32Words ws)).tableApplied 0x03 t.stns.length (crc32Words ws)

/-- Apply one accepted load. -/
def State.applyLoad (s : State) : TableLoad → State
  | .points first ps => s.applyPoints first ps
  | .schedule ws => s.applySchedule ws
  | .stations ws => s.applyStations ws

/-- Whether a load waits for the input latch (R252). -/
def TableLoad.atLatch : TableLoad → Bool
  | .points _ _ => true
  | .schedule _ => false
  | .stations _ => false

/-- Apply the accepted loads in the order of acceptance (R263). While PTX is in block reset no latch runs (R692): a point table waits
for the first latch after the release, and what was accepted after it waits with it. (DEDUCED, log 164) -/
def State.applyLoads (s : State) : State :=
  let now := if s.inReset 10 then s.ptx.loads.takeWhile (fun l => !l.atLatch) else s.ptx.loads
  now.foldl State.applyLoad { s with ptx := { s.ptx with loads := s.ptx.loads.drop now.length } }

/-! ## The input latch (R264, R271 to R279) -/

/-- PTX reads everything that is complete in a queue. -/
def State.drainPoints (s : State) (q : Nat) : Nat → State
  | 0 => s
  | n + 1 =>
    match s.takePkt q with
    | (none, t) => if t.queue q = [] then t else t.drainPoints q n
    | (some k, t) => (t.toInbox q k).drainPoints q n

/-- Every point and subscription frame complete before the latch is in the inbox. -/
def State.drainAll (s : State) : State :=
  ((List.range 64).map (256 + ·) ++ [416, 417]).foldl (fun t q => t.drainPoints q (t.queue q).length) s

/-- A valid reply taken at a latch: its entry, the request's frame, whether it is late, and its data. -/
structure Taken where
  ent : Ent
  frame : Nat
  late : Bool
  data : List Byte
  deriving DecidableEq, Repr

/-- The valid replies of the inbox, the first to each request (R257). -/
def State.replies (s : State) : List Taken :=
  s.ptx.inbox.foldl (fun acc k =>
    if k.1 < 256 || 320 ≤ k.1 || k.2.err = 0 then acc
    else
      match s.answers (k.1 - 256) k.2.data with
      | none => acc
      | some (e, r) =>
        match (s.exch e.key).reqs.find? (fun q => q.frame % 2 ^ 32 = r.frame) with
        | none => acc
        | some q =>
          if acc.any (fun a => a.ent.key = e.key && a.frame = q.frame) then acc
          else acc ++ [{ ent := e, frame := q.frame, late := q.pend, data := r.data.take e.rpLen }]) []

/-- Change a quality bit of a list of points. -/
def State.qbits (s : State) (ps : List (Nat × Point)) (bit : Nat) (b : Bool) : State := ps.foldl (fun t e => t.qbit e.1 bit b) s

/-- The outstanding requests of an entry at a latch: those without a reply are pending once while a frame of the station
is being received, and misses otherwise (R271, R275). (DEDUCED, log 43) -/
def State.latchEntry (s : State) (rs : List Taken) (recv : List (Nat × Nat)) (e : Ent) : State :=
  let x := s.exch e.key
  let un := x.reqs.filter (fun q => !rs.any (fun a => a.ent.key = e.key && a.frame = q.frame))
  let live := s.stns.any (fun t => t.epn = e.epn && recv.contains (e.port, t.mac))
  let kept := un.filter (fun q => live && !q.pend)
  let m := un.length - kept.length
  let t := s.setExch e.key { x with reqs := kept.map (fun q => { q with pend := true }) }
  if m = 0 then t
  else
    let t := ((t.addSat (F.PTX_STN_MCNT e.epn) m).addSat (F.PTX_STNMISS_CNT e.epn) m).addSat F.PTX_MISS_CNT m
    t.qbits (t.fieldPoints e.epn e.rate true) 2 true

/-- The value of a field point in a data area (R248, R250). -/
def fieldValue (data : List Byte) (p : Point) : Word :=
  normValue p.fmt (wd (natLE data / 2 ^ p.ofs % 2 ^ fmtBits p.fmt))

/-- An input takes a value from a valid source: INIT ends, AGE is 0 (R270). -/
def State.latchInput (s : State) (i : Nat) (v : Word) (late : Bool) : State :=
  let t := s.sourceWrite i v
  t.setQual i (withField (withField (t.rawQual i) 31 16 0) 1 1 (ofBool late))

/-- A stale station returns (R274). -/
def State.stationReturns (s : State) (e : Stn) : State :=
  let n := Store.get natZero s.ptx.staleFor e.epn
  let t := (s.setF (F.PTX_STN_STALE e.epn) 0).setF (F.PTX_STN_RET e.epn) (1 - e.resume)
  let t : State := { t with ptx := { t.ptx with staleFor := Store.put natZero t.ptx.staleFor e.epn 0 } }
  let t := t.ents.foldl (fun t x => if x.valid && x.epn = e.epn then
    t.setExch x.key { t.exch x.key with retDue := e.resume = 0 } else t) t
  (t.report 0x0A02 0 (wd e.epn) (wd (min n 0xFFFFFFFF)) (wd e.resume)).raisePtx 2

/-- A valid reply is latched (R264 step 1, R271, R274, R275). (DEDUCED, log 43) -/
def State.latchReply (s : State) (a : Taken) : State :=
  let t := (s.fieldPoints a.ent.epn a.ent.rate false).foldl
    (fun t e => t.latchInput e.1 (fieldValue a.data e.2) a.late) s
  let t := t.qbits (t.fieldPoints a.ent.epn a.ent.rate true) 2 false
  let t := (t.setF (F.PTX_STN_MCNT a.ent.epn) 0).setF (F.PTX_STN_AGE a.ent.epn) 0
  let t := if a.late then (t.addSat F.PTX_LATE_CNT 1).raisePtx 1 else t
  if t.on (F.PTX_STN_STALE a.ent.epn) then
    match t.stns.find? (fun e => e.epn = a.ent.epn) with
    | some e => t.stationReturns e
    | none => t
  else t

/-- Whether a later exchange of the same entry also delivers a reply at this latch (R271). -/
def Taken.outdone (a : Taken) (rs : List Taken) : Bool := rs.any (fun b => b.ent.key = a.ent.key && a.frame < b.frame)

/-- A station goes stale (R272, R219). -/
def State.stationStale (s : State) (e : Stn) (why : Nat) : State :=
  if s.on (F.PTX_STN_STALE e.epn) then s
  else
    let t := (s.setF (F.PTX_STN_STALE e.epn) 1).setF (F.PTX_STN_RET e.epn) 0
    (t.report 0x0A01 0 (wd e.epn) (wd e.port) (wd why)).raisePtx 2

/-- The stations of a lost port go stale and their outputs are undelivered (R219). (DEDUCED, log 135) -/
def State.losePort (s : State) (i why : Nat) : State :=
  let es := s.stns.filter (fun e => e.port = i)
  let t := es.foldl (fun t e => (t.qbits (t.stnPoints e.epn true) 2 true).stationStale e 1) s
  t.report 0x0909 0 (wd i) (wd es.length) (wd why)

/-- The lost ports of a frame, each once. -/
def firstLosses : List (Nat × Nat) → List (Nat × Nat)
  | [] => []
  | l :: ls => l :: (firstLosses ls).filter (fun m => m.1 != l.1)

/-- The field part of a latch: misses, replies, stale stations, port losses (R264, R271 to R276). -/
def State.latchField (s : State) (recv : List (Nat × Nat)) : State :=
  let rs := s.replies
  let t := s.stns.foldl (fun t e => t.addSat (F.PTX_STN_AGE e.epn) 1) s
  let t := (t.ents.filter Ent.valid).foldl (fun t e => t.latchEntry rs recv e) t
  let t := (rs.filter (fun a => !a.outdone rs)).foldl (fun t a => t.latchReply a) t
  let t := t.stns.foldl (fun t e => if e.miss ≤ t.rf (F.PTX_STN_MCNT e.epn) then t.stationStale e 0 else t) t
  let t := (firstLosses t.ptx.lost).foldl (fun t l => t.losePort l.1 l.2) t
  let t : State := { t with ptx := { t.ptx with lost := [] } }
  let t := (t.stns.filter (fun e => t.on (F.PTX_STN_STALE e.epn))).foldl (fun t e =>
    { t with ptx := { t.ptx with
        staleFor := Store.put natZero t.ptx.staleFor e.epn (Store.get natZero t.ptx.staleFor e.epn + 1) } }) t
  t.countStale

/-- A publication (R490): publishing floor, FRAME, and per entry the index, value and quality. -/
def pubOf (frame : List Byte) : Option (Nat × Nat × List (Nat × Word × Word)) :=
  let o := if natBE ((frame.drop 12).take 2) = 0x8100 then 18 else 14
  let n := halfAt frame (o + 4)
  if natLE ((frame.drop o).take 1) = 0x13 && o + 12 + 12 * n ≤ frame.length then
    some (natLE ((frame.drop (o + 2)).take 1) % 128, natLE ((frame.drop (o + 8)).take 4), (List.range n).map (fun j =>
      let b := frame.drop (o + 12 + 12 * j)
      (halfAt b 0, wordAt b 1, wordAt b 2)))
  else none

/-- A copy of a published point: the floor, the publication's FRAME, the point's index, its value and its quality. -/
structure PubCopy where
  floor : Nat
  frame : Nat
  point : Nat
  value : Word
  qual : Word
  deriving DecidableEq, Repr

/-- Put a packet among others by its order of arrival. -/
def putArrived (k : Nat × Pkt) : List (Nat × Pkt) → List (Nat × Pkt)
  | [] => [k]
  | l :: ls => if k.2.seq < l.2.seq then k :: l :: ls else l :: putArrived k ls

/-- The copies that have arrived on both LANs, in order of arrival (R278). -/
def State.copies (s : State) : List PubCopy :=
  let ks := (s.ptx.inbox.filter (fun k => k.1 = 416 || k.1 = 417)).foldl (fun l k => putArrived k l) []
  ks.flatMap (fun k => match pubOf k.2.data with
    | some (fl, fr, es) => es.map (fun e => { floor := fl, frame := fr, point := e.1, value := e.2.1, qual := e.2.2 })
    | none => [])

/-- A subscription point's state. -/
def State.subPt (s : State) (i : Nat) : SubPoint := Store.get SubPoint.dflt s.ptx.subPts i

/-- Replace it. -/
def State.setSubPt (s : State) (i : Nat) (b : SubPoint) : State :=
  { s with ptx := { s.ptx with subPts := Store.put SubPoint.dflt s.ptx.subPts i b } }

/-- A copy reaches its subscription point (R278): value and quality; STALE ends (R279). -/
def State.latchCopy (s : State) (i : Nat) (p : Point) (c : PubCopy) : State :=
  let b := s.subPt i
  let t := s.latchInput i (normValue p.fmt c.value) false
  let t := ((t.qbit i 0 (fieldOf c.qual 0 0 = 1)).qbit i 5 (fieldOf c.qual 5 5 = 1)).qbit i 6 (fieldOf c.qual 6 6 = 1)
  let t := t.setSubPt i { b with stale := false, seen := (c.frame :: b.seen).take 16 }
  if b.stale then t.report 0x0A07 p.tag (wd i) 0 (wd p.stn) else t

/-- Whether the point expects a copy at this latch, that of the frame before the last, modulo 2^32 (R279). -/
def State.expectsCopy (s : State) (p : Point) : Bool := (s.frameNo + 2 ^ 16 * 2 ^ p.rate - 2 - p.ofs) % 2 ^ p.rate = 0

/-- An expected copy has failed to arrive (R279). -/
def State.missCopy (s : State) (i : Nat) (p : Point) : State :=
  let b := s.subPt i
  let m := min 15 (b.miss + 1)
  if b.stale || m < s.rf F.PTX_SCHEDCTL_RMISS then s.setSubPt i { b with miss := m }
  else ((s.setSubPt i { b with miss := m, stale := true }).qbit i 0 true).report 0x0A07 p.tag (wd i) 1 (wd p.stn)

/-- A subscription point at the latch (R278, R279): the first copy to arrive whose publication it has not taken before; and the copy
it expects ends the run of misses or, failing to arrive by now, lengthens it. (DEDUCED, log 165) -/
def State.latchSub (s : State) (cs : List PubCopy) (i : Nat) (p : Point) : State :=
  let fr := (s.frameNo + 2 ^ 32 - 2) % 2 ^ 32
  let mine := cs.filter (fun c => c.floor = p.stn && c.point = p.ofs)
  let came := mine.any (fun c => c.frame = fr) || (s.subPt i).seen.contains fr
  let t := match mine.find? (fun c => !(s.subPt i).seen.contains c.frame) with
    | some c => s.latchCopy i p c
    | none => s
  if !s.expectsCopy p then t
  else if came then t.setSubPt i { t.subPt i with miss := 0 }
  else t.missCopy i p

/-- Subscriptions and local inputs (R264 step 2). Local inputs keep their values while LIO is in reset (R369). -/
def State.latchOthers (s : State) : State :=
  let cs := s.copies
  s.allPoints.foldl (fun t e =>
    if e.2.kind = 3 then t.latchSub cs e.1 e.2
    else if e.2.kind = 2 && e.2.isIn && !t.inReset 13 then t.latchInput e.1 (t.localInput e.2.stn e.2.ofs e.2.fmt) false
    else t) s

/-- Input points age by one frame; those latched in this frame are set to 0 afterwards (R270). -/
def State.ageInputs (s : State) : State :=
  s.allPoints.foldl (fun t e => if e.2.isIn then
    t.setQual e.1 (withField (t.rawQual e.1) 31 16 (min 65535 (fieldOf (t.rawQual e.1) 31 16 + 1))) else t) s

/-- FORCED of the points of a direction follows their forces (R270). -/
def State.markForced (s : State) (dir : Nat) : State :=
  s.allPoints.foldl (fun t e => if e.2.dir = dir then t.qbit e.1 3 (t.force e.1).isSome else t) s

/-- STALE of field inputs on the module that exchanges (R270, R272). -/
def State.markStale (s : State) : State :=
  if !s.active then s
  else s.allPoints.foldl (fun t e => if e.2.isIn && e.2.kind = 1 then t.qbit e.1 0 (t.on (F.PTX_STN_STALE e.2.stn)) else t) s

/-- A forced input point takes the forced value; what its source gave is set aside (R281). (DEDUCED, log 143) -/
def State.forceInput (s : State) (i : Nat) (v : Word) : State :=
  let kept := if (Store.get noSource s.ptx.sourced i).isSome then s.ptx.sourced
    else Store.put noSource s.ptx.sourced i (some (s.img i))
  { s with ptx := { s.ptx with sourced := kept } }.setImg i v

/-- Input forces replace the source's values (R264 step 5, R281). -/
def State.forceInputs (s : State) : State :=
  s.forceList.foldl (fun t e => if (t.pt e.1).isIn then t.forceInput e.1 e.2.value else t) s

/-- At a latch the forced input points first hold what their sources gave last: a cleared force stops here (R283).
(DEDUCED, log 143) -/
def State.unforceInputs (s : State) : State :=
  let t := s.ptx.sourced.foldl (fun t e => match e.2 with
    | some v => t.setImg e.1 v
    | none => t) s
  { t with ptx := { t.ptx with sourced := [] } }

/-- The input latch without the metering quantities and the notifications (R264). `recv` names the ports on which a frame
of a station is being received, with its source address. -/
def State.latchInputs (s : State) (recv : List (Nat × Nat)) : State :=
  let t := (s.unforceInputs.drainAll.ageInputs.latchField recv).latchOthers
  let t := ((t.forceInputs).markForced 1).markStale
  { t with ptx := { t.ptx with inbox := [] } }

/-- Notifications at the latch: input points and metering points (R264 step 7). -/
def State.latchNotify (s : State) : State := s.notify (fun i => (s.pt i).isIn || (s.pt i).wsrc = 3)

/-! ## The output publish (R265, R273, R274, R277) -/

/-- Steps 1 and 2: the output image with its forces, and the points it carries. -/
def State.publishImage (s : State) : State :=
  let t := s.markForced 2
  let ps := t.allPoints.filter (fun e => e.2.isOut || e.2.rpub)
  let img := ps.foldl (fun m e => Store.put wordZero m e.1 (match t.force e.1 with
    | some f => f.value
    | none => t.img e.1)) []
  { t with ptx := { t.ptx with outImg := img, outTbl := ps } }

/-- The quality words that go with the output image, as step 3 leaves them (R270, R277). -/
def State.publishQuality (s : State) : State :=
  let q := s.ptx.outTbl.foldl (fun m e => Store.put wordZero m e.1 (s.quality e.1)) []
  { s with ptx := { s.ptx with outQual := q } }

/-- Step 3: how the requests of the next frame are marked (R273, R274). A request marked after the return that leaves in
this frame is the entry's first. -/
def State.markEntry (s : State) (e : Ent) : State :=
  let x := s.exch e.key
  let st := s.on (F.PTX_STN_STALE e.epn)
  let leaves := x.markNow = 2 && e.activeIn s.frameNo && s.on (F.FLD_PSTAT_LINK e.port)
  let m := if st then 1 else if x.retDue && !leaves then 2 else 0
  let t := s.setExch e.key { x with markNext := m }
  if e.activeIn (s.frameNo + 1) then t.qbits (t.fieldPoints e.epn e.rate true) 4 (m != 0) else t

/-- Step 3 for every entry. -/
def State.markEntries (s : State) : State := (s.ents.filter Ent.valid).foldl (fun t e => t.markEntry e) s

/-- At the frame boundary the marks and the published image are those of the new frame's requests (R256, R265). -/
def State.handOver (s : State) : State :=
  let t := (s.ents.filter Ent.valid).foldl (fun t e => t.setExch e.key { t.exch e.key with markNow := (t.exch e.key).markNext }) s
  { t with ptx := { t.ptx with txImg := t.ptx.outImg, txQual := t.ptx.outQual, txTbl := t.ptx.outTbl } }

/-- Notifications at the publish: output points and the internal points not evaluated at the latch (R265 step 5). -/
def State.publishNotify (s : State) : State := s.notify (fun i => !((s.pt i).isIn || (s.pt i).wsrc = 3))

/-- Steps 1 to 5 of the output publish (R265). -/
def State.publish (s : State) : State := s.publishImage.markEntries.publishQuality.publishNotify

/-- When the publish completes, local outputs take their values from the output image (R266). -/
def State.driveOutputs (s : State) : State :=
  s.ptx.outTbl.foldl (fun t e => if e.2.kind = 2 && e.2.isOut then
    t.driveLocal e.2.stn e.2.ofs e.2.fmt (Store.get wordZero t.ptx.outImg e.1) else t) s

/-! ## Resets and takeover (R691, R692, R291) -/

/-- A twin that gains ACT: stations start stale where their inputs carry STALE, the others without misses (R291); frames stale count
from here. -/
def State.exchangeTakeover (s : State) : State :=
  let t := s.stns.foldl (fun t e =>
    let stale := (t.stnPoints e.epn false).any (fun p => fieldOf (t.rawQual p.1) 0 0 = 1)
    ((t.setF (F.PTX_STN_MCNT e.epn) 0).setF (F.PTX_STN_RET e.epn) 0).setF (F.PTX_STN_STALE e.epn) (ofBool stale)) s
  let t := (t.ents.filter Ent.valid).foldl (fun t e =>
    t.setExch e.key { Exch.dflt 0 with markNow := ofBool (t.on (F.PTX_STN_STALE e.epn))
                                       markNext := ofBool (t.on (F.PTX_STN_STALE e.epn)) }) t
  let t : State := { t with ptx := { t.ptx with staleFor := [] } }
  t.countStale

end Sys2Proof.Machine
end

