-- ==== Sys2Proof/Machine/Metering.lean ====
section
/-! DEFINITION. The metering engine: samples, quantities, energy, intervals, saves, pulse outputs and theft watch (chapter
"Energy and Quantity Computation"). -/

namespace Sys2Proof.Machine

/-! ## Images (R384 to R392) -/

/-- A binary64 value from its bits. -/
def d64 (n : Nat) : FpVal := b64.unpack n
/-- A value rounded to binary64. -/
def p64 (v : FpVal) : Nat := b64.pack v

/-- Word `k` of channel `c` in a calibration image. -/
def calW (im : List Word) (c k : Nat) : Word := im.getD (4 * c + k) 0
/-- EN of channel `c`. -/
def calEn (im : List Word) (c : Nat) : Bool := fieldOf (calW im c 0) 31 31 = 1
/-- The modulator clock of channel `c`. -/
def calClk (im : List Word) (c : Nat) : Nat := fieldOf (calW im c 0) 29 28
/-- PHT of channel `c`. -/
def calPht (im : List Word) (c : Nat) : Int := signedOf 16 (fieldOf (calW im c 0) 15 0)
/-- OFS of channel `c`. -/
def calOfs (im : List Word) (c : Nat) : Int := signedOf 24 (fieldOf (calW im c 3) 23 0)

/-- Word `k` of circuit `c` in a circuit table image. -/
def circW (im : List Word) (c k : Nat) : Word := im.getD (8 * c + k) 0
/-- VALID of circuit `c`. -/
def circValid (im : List Word) (c : Nat) : Bool := fieldOf (circW im c 0) 31 31 = 1
/-- TAG of circuit `c`. -/
def circTag (im : List Word) (c : Nat) : Nat := fieldOf (circW im c 0) 30 24
/-- TYPE of circuit `c`. -/
def circType (im : List Word) (c : Nat) : Nat := fieldOf (circW im c 0) 23 22
/-- VCH of phase `k` + 1. -/
def circV (im : List Word) (c k : Nat) : Nat := fieldOf (circW im c 0) (21 - 3 * k) (19 - 3 * k)
/-- ICH of phase `k` + 1. -/
def circI (im : List Word) (c k : Nat) : Nat := fieldOf (circW im c 1) (30 - 8 * k) (24 - 8 * k)
/-- Whether the current of phase `k` + 1 is inverted. -/
def circInv (im : List Word) (c k : Nat) : Bool := bitOf (circW im c 0).toNat (10 + k)
/-- PBASE. -/
def circBase (im : List Word) (c : Nat) : Nat := fieldOf (circW im c 2) 31 16
/-- Whether quantity `k` is published. -/
def circPub (im : List Word) (c k : Nat) : Bool := bitOf (circW im c 2).toNat k

/-- The phases a TYPE uses, counted from 0 (R389). -/
def phasesOf (ty : Nat) : List Nat := if ty = 0 then [0] else if ty = 1 then [0, 1, 2] else [0, 2]

/-- The phases of circuit `c`. -/
def circPhases (im : List Word) (c : Nat) : List Nat := phasesOf (circType im c)

/-- The channels of circuit `c`. -/
def circChans (im : List Word) (c : Nat) : List Nat :=
  (circPhases im c).flatMap (fun k => [circV im c k, circI im c k])

/-- The points circuit `c` publishes, with their quantities. -/
def circPoints (im : List Word) (c : Nat) : List (Nat × Nat) :=
  ((List.range 13).filter (circPub im c)).map (fun k => (k, circBase im c + k))

/-- Whether a binary32 word is finite and at least 0. -/
def nonNeg32 (w : Word) : Bool := finite32 w && !(f32 w).lt (fpInt 0)

/-- A calibration entry breaks R384 or R386. -/
def calBad (im : List Word) (used : List Nat) (c : Nat) : Bool :=
  let g := calW im c 1
  fieldOf (calW im c 0) 27 16 != 0 || fieldOf (calW im c 3) 31 24 != 0 || 1250 < (calPht im c).natAbs
  || !finite32 g || (f32 g).lt (f32 0x3F000000) || (f32 0x40000000).lt (f32 g)
  || !finite32 (calW im c 2) || !(fpInt 0).lt (f32 (calW im c 2))
  || calOfs im c < -4194304 || 4194303 < calOfs im c
  || (!calEn im c && used.contains c)

/-- Whether a point may carry quantity `k` of a circuit tagged `tag` (R390, R391). -/
def quantityPointOk (p : Point) (tag k : Nat) : Bool :=
  p.valid && p.dir = 0 && p.wsrc = 3 && p.tag = tag && p.fmt = (if k ≤ 10 then 3 else 4)

/-- A circuit entry breaks R388, R389 or R391 by itself or against the circuits before it. -/
def State.circBad (s : State) (im cal : List Word) (c : Nat) : Bool :=
  let used := circPhases im c
  let before := (List.range c).filter (circValid im)
  circType im c = 3 || fieldOf (circW im c 0) 9 0 != 0 || fieldOf (circW im c 1) 31 31 != 0
  || fieldOf (circW im c 1) 23 23 != 0 || fieldOf (circW im c 1) 15 15 != 0 || fieldOf (circW im c 1) 7 0 != 0
  || fieldOf (circW im c 2) 15 13 != 0 || circW im c 5 != 0 || circW im c 6 != 0 || circW im c 7 != 0
  || (circValid im c &&
    ([0, 1, 2].any (fun k => if used.contains k then circI im c k < 8 || 79 < circI im c k
        else circV im c k != 0 || circI im c k != 0)
      || !(used.map (circI im c)).Nodup
      || before.any (fun b => (circPhases im b).any (fun j => used.any (fun k => circI im b j = circI im c k)))
      || (circChans im c).any (fun ch => !calEn cal ch)
      || !nonNeg32 (circW im c 3) || !nonNeg32 (circW im c 4)
      || (circPoints im c).any (fun q => 65535 < q.2 || !quantityPointOk (s.pt q.2) (circTag im c) q.1
          || before.any (fun b => (circPoints im b).any (fun r => r.2 = q.2)))))

/-- The calibration set that will be in force when a circuit table accepted now applies: the last one accepted.
(DEDUCED, log 154) -/
def State.lastCal (s : State) : List Word :=
  match s.mtr.calPend.getLast? with
  | some p => p.1
  | none => s.mtr.cal

/-- The channels that the circuits of a table use. -/
def usedChans (im : List Word) : List Nat := ((List.range 72).filter (circValid im)).flatMap (circChans im)

/-- A CFG_LOAD image of TYPE 0x06: the command completes when the set is applied (R386). -/
def calCfg (x : HPort) (p : Part) (ws : List Word) (s : State) (id : Nat) : CmdEnd :=
  match (List.range 80).find? (calBad ws (usedChans s.mtr.circ)) with
  | some c => rejected s (wd c) 0
  | none => .wait { s with mtr := { s.mtr with
      calPend := s.mtr.calPend ++ [(ws, x, p, id)]
      kept := { s.mtr.kept with calImg := some (ws, true) } } }

/-- CFG_LOAD of a calibration set (R384). -/
def cfgLoadCalibrationSetEff (x : HPort) (p : Part) (d : Desc) (s : State) : State :=
  s.cfgLoad x p d 0x06 (d.len = 1280) (!s.variant.lacks 14) (calCfg x p)

/-- CFG_LOAD_CALIBRATION_SET (R386). -/
def execCfgLoadCalibrationSet (x : HPort) (p : Part) (d : Desc) (s : State) : Host.Outcome State Fault Refusal :=
  .next (cfgLoadCalibrationSetEff x p d s)

/-- A CFG_LOAD image of TYPE 0x05 (R391). -/
def circCfg (ws : List Word) (s : State) (_id : Nat) : CmdEnd :=
  match (List.range 72).find? (s.circBad ws s.lastCal) with
  | some c => rejected s (wd c) 0
  | none => accepted { s with mtr := { s.mtr with
      circPend := s.mtr.circPend ++ [ws]
      kept := { s.mtr.kept with circImg := some (ws, true) } } }

/-- CFG_LOAD of a circuit table (R388). -/
def cfgLoadCircuitTableEff (x : HPort) (p : Part) (d : Desc) (s : State) : State :=
  s.cfgLoad x p d 0x05 (d.len = 2304) (!s.variant.lacks 14) circCfg

/-- CFG_LOAD_CIRCUIT_TABLE (R391). -/
def execCfgLoadCircuitTable (x : HPort) (p : Part) (d : Desc) (s : State) : Host.Outcome State Fault Refusal :=
  .next (cfgLoadCircuitTableEff x p d s)

/-! ## Samples (R381 to R385, R422) -/

/-- Set a bit of MTR_STAT (R425). -/
def State.raiseMtr (s : State) (bit : Nat) : State := s.raise Reg.MTR_STAT Reg.MTR_IEN 14 bit

/-- Replace the metering part. -/
def State.setMtr (s : State) (m : MtrSt) : State := { s with mtr := m }

/-- Whether channel `c` is faulted (R383). -/
def State.chanFaulted (s : State) (c : Nat) : Bool := s.on (regBit (Reg.MTR_CHFLT (c / 32)) (c % 32))

/-- Metering runs: fitted, out of reset, with both images (R378, R387, R423). -/
def State.metering (s : State) : Bool := !s.variant.lacks 14 && !s.inReset 14 && !s.on F.MTR_STAT_NOCFG

/-- Voltage channel `v` serves as mains reference: in use and not faulted (R422). -/
def State.mainsRef (s : State) (v : Nat) : Bool := s.metering && calEn s.mtr.cal v && !s.chanFaulted v

/-- A mains measurement whose channel serves no longer ends (R69, R422). -/
def State.mainsWatch (s : State) : State :=
  if !s.measNet && !s.mainsRef (s.rf F.RTC_MEASCTL_VCH) then s.measFail 2 else s

/-- A channel's fault state changes (R383, R424). -/
def State.setChanFault (s : State) (c : Nat) (b : Bool) : State :=
  let t := s.setF (regBit (Reg.MTR_CHFLT (c / 32)) (c % 32)) (ofBool b)
  let t := if b then t.raiseMtr 0 else t
  (t.report 0x0E01 0 (wd c) (wd (ofBool b)) (wd (s.frameNo % 2 ^ 32))).mainsWatch

/-- The fault detector of a channel over one base tick (R383). -/
def State.watchChan (s : State) (c : Nat) (stuck : Bool) : State :=
  let was := s.chanFaulted c
  let g := if stuck then 0 else Store.get natZero s.mtr.good c + 1
  let t := s.setMtr { s.mtr with good := Store.put natZero s.mtr.good c (if was then min g 8 else 0) }
  let t := if stuck && !was then t.setChanFault c true else if was && 8 ≤ g then t.setChanFault c false else t
  if (was || t.chanFaulted c) && !t.mtr.frameBad.contains c then
    t.setMtr { t.mtr with frameBad := t.mtr.frameBad ++ [c] }
  else t

/-- The calibrated value of a code before the high-pass filter, as binary64 bits (R385). -/
def calValue (im : List Word) (c : Nat) (code : Int) : Nat :=
  p64 (((fpInt (code - calOfs im c)).mul (f32 (calW im c 1))).mul ((f32 (calW im c 2)).mul (.fin false 1 (-23))))

/-- A detector before its timestamp: the instant at which the signal passed 0, by linear interpolation (R422).
(DESIGN CHOICE, log 57) -/
def crossTime (neg pos : Nat × Nat) (up : Bool) : Nat :=
  match d64 neg.1, d64 pos.1 with
  | .fin _ mn en, .fin _ mp ep =>
    let e0 := min en ep
    let a := mn * 2 ^ (en - e0).toNat
    let b := mp * 2 ^ (ep - e0).toNat
    if a + b = 0 then pos.2 else (roundNearest ((neg.2 * (a + b) + (pos.2 - neg.2) * a : Nat) : Int) (a + b) up).toNat
  | _, _ => pos.2

/-- The zero-crossing detector of voltage channel `v` takes a sample (R422), and its crossing is timed by a measurement that runs
on the channel (R68). (DESIGN CHOICE, log 57) -/
def State.detect (s : State) (v x time : Nat) : State :=
  let z := Store.get ZeroDet.dflt s.mtr.zero v
  let fs := f32 (calW s.mtr.cal v 2)
  let x100 := (d64 x).mul (fpInt 100)
  let isNeg := (d64 x).lt (fpInt 0)
  let z := if isNeg then { z with neg := some (x, time), pos := none }
    else if z.pos = none then { z with pos := some (x, time) } else z
  let z := if x100.lt fs.neg then { z with armed := true } else z
  let keep (z : ZeroDet) (t : State) : State := t.setMtr { t.mtr with zero := Store.put ZeroDet.dflt t.mtr.zero v z }
  match z.neg, z.pos with
  | some n, some p =>
    if z.armed && fs.le x100 then
      let tm := crossTime n p (bitOf s.freeVal.toNat 0)
      let ts := (tm :: z.times).filter (fun t => decide (time ≤ t + 858993459))
      let t := s.useFree.setReg (Reg.MTR_ZCCNT v) (s.reg (Reg.MTR_ZCCNT v) + 1)
      (keep { z with armed := false, times := ts } t).measCross v tm
    else keep z s
  | _, _ => keep z s

/-- Channel `c` delivers a sample at an instant of the count (R381, R383, R385). (DESIGN CHOICE, log 58) -/
def State.sampleChan (s : State) (c : Nat) (code : Int) (time : Nat) : State :=
  let im := s.mtr.cal
  let t := if 7969177 < code.natAbs then
    (s.raiseMtr 1).report 0x0E02 0 (wd c) (wdInt code) 0 else s
  let raw := calValue im c code
  let h := Store.get zeroPair t.mtr.hp c
  let hpf := fieldOf (calW im c 0) 30 30 = 1
  let x := if hpf then Config.highPass h.1 h.2 raw else raw
  let t := t.setMtr { t.mtr with
    hp := if hpf then Store.put zeroPair t.mtr.hp c (raw, x) else t.mtr.hp
    samples := Store.put noNats t.mtr.samples c ((x :: Store.get noNats t.mtr.samples c).take 256) }
  if c < 8 then t.detect c x time else t

/-- The `m`-th triangular number. -/
def tri (m : Nat) : Nat := m * (m + 1) / 2

/-- The weight of the bit `i` cycles back in the sinc3 decimator: three running means over 1,250 cycles in a row (R381). -/
def sincWeight (i : Nat) : Nat := tri (i + 1) + 3 * tri (i + 1 - 2500) - 3 * tri (i + 1 - 1250)

/-- The decimator's code for a window that ends `e` cycles back in the bits `h`, bit 0 of `h` the newest; a 1 counts as +1 and a
0 as -1, full scale is 2^23, and `up` rounds an inexact code (R381). (DESIGN CHOICE, log 155) -/
def sincCode (h e : Nat) (up : Bool) : Int :=
  let ones := (List.range 3748).foldl (fun a i => if bitOf h (e + i) then a + sincWeight i else a) 0
  let num : Int := (2 * (ones : Int) - 1250 ^ 3) * 2 ^ 23
  let q := num / 1250 ^ 3
  clampInt (-8388608) 8388607 (if num % 1250 ^ 3 = 0 then q else q + Int.ofNat (ofBool up))

/-- The bits of channel `c` in a window, at the clock its calibration entry selects (R379). -/
def MeterIn.bitsOf (m : MeterIn) (im : List Word) (c : Nat) : Nat := (m.mdat.getD (calClk im c) []).getD c 0

/-- A run of equal levels after `n` more bits of a window, from bit `n - 1` on, with the longest run seen: level, run and longest
(R383). -/
def runOver (w : Nat) : Nat → Nat × Nat × Nat → Nat × Nat × Nat
  | 0, r => r
  | n + 1, (lvl, len, top) =>
    let b := ofBool (bitOf w n)
    let len := if b = lvl then min 256 (len + 1) else 1
    runOver w n (b, len, max top len)

/-- The decimators take the bits of a window (R381), unless the block is absent or in reset. -/
def State.pushWindow (s : State) (m : MeterIn) : State :=
  if s.variant.lacks 14 || s.inReset 14 then s
  else forUpto 80 s (fun c t => t.setMtr { t.mtr with
    bits := Store.put natZero t.mtr.bits c ((Store.get natZero t.mtr.bits c * 2 ^ 1250 + m.bitsOf s.mtr.cal c) % 2 ^ 5000) })

/-- The instant of the count `idx` cycles before the end of a window that ended `back` ns ago. -/
def State.cycleTime (s : State) (m : MeterIn) (back idx : Nat) : Nat :=
  s.count - (back * 1250 + m.ns * idx) * 2 ^ 32 / (1250 * 1000000000)

/-- The samples that end within the newest window `m`, `back` ns before the count (R381): with `late` those of the channels whose
phase trim puts sample j after base tick j, else those of the others. (DESIGN CHOICE, log 155) -/
def State.takeSamples (s : State) (m : MeterIn) (back : Nat) (late : Bool) : State :=
  forUpto 80 s (fun c t =>
    let p := calPht t.mtr.cal c
    if calEn t.mtr.cal c && (decide (0 < p) = late) then
      let e := if late then 1250 - p.toNat else (-p).toNat
      let code := sincCode (Store.get natZero t.mtr.bits c) e (bitOf t.freeVal.toNat 0)
      t.useFree.sampleChan c code (t.cycleTime m back e)
    else t)

/-- The fault detectors of the channels in use look at a window (R383). -/
def State.watchWindow (s : State) (m : MeterIn) : State :=
  forUpto 80 s (fun c t =>
    let r := Store.get zeroPair t.mtr.runs c
    let (lvl, len, top) := runOver (m.bitsOf t.mtr.cal c) 1250 (r.1, r.2, 0)
    let t := t.setMtr { t.mtr with runs := Store.put zeroPair t.mtr.runs c (lvl, len) }
    if calEn t.mtr.cal c then t.watchChan c (decide (256 ≤ top)) else t)

/-- A window that has just ended belongs to the frame that runs: its duration, its fault detectors, the samples that end with it or
before its end, and one more sample for each circuit's window (R381, R382). -/
def State.closeWindow (s : State) (m : MeterIn) (back : Nat) : State :=
  let t := (s.setMtr { s.mtr with frameNs := s.mtr.frameNs + m.ns }).watchWindow m
  forUpto 72 (t.takeSamples m back false) (fun c t =>
    if circValid t.mtr.circ c then
      t.setMtr { t.mtr with filled := Store.put natZero t.mtr.filled c (min 4096 (Store.get natZero t.mtr.filled c + 1)) }
    else t)

/-- The length of some windows. -/
def windowsNs (ms : List MeterIn) : Nat := ms.foldl (fun a k => a + k.ns) 0

/-- Windows end, oldest first; those after the first bring the late samples of the one before (R382). -/
def State.closeWindows (s : State) : List MeterIn → State
  | [] => s
  | [m] => s.closeWindow m 0
  | m :: k :: ms =>
    let t := s.closeWindow m (windowsNs (k :: ms))
    ((t.pushWindow k).takeSamples k (windowsNs ms) true).closeWindows (k :: ms)

/-- The first of the windows that end with a base tick brings the late samples of the base tick before it, whose frame they belong
to (R47, R381). (DEDUCED, log 26) -/
def State.meterLate (s : State) (ms : List MeterIn) : State :=
  match ms with
  | [] => s
  | m :: rest =>
    let t := s.pushWindow m
    if t.metering then t.takeSamples m (windowsNs rest) true else t

/-- The windows that end with a base tick close, after the frame before has been settled (R47, R382). (DEDUCED, log 26) -/
def State.meterNow (s : State) (ms : List MeterIn) : State :=
  if s.metering then s.closeWindows ms else (ms.drop 1).foldl State.pushWindow s

/-- A number moved by `d`, where it stays a number. -/
def movedBy (d : Int) (n : Nat) : Option Nat := if (n : Int) + d < 0 then none else some ((n : Int) + d).toNat

/-- The count has stepped by `d` units of 2^-32 s: the instants that detectors and pulse outputs hold are moved with it, so that the
intervals they measure stay what they are (R394, R413). (DEDUCED, log 63) -/
def State.mtrStepped (s : State) (d : Int) : State :=
  let us := d * 1000000 / 2 ^ 32
  let pair (e : Option (Nat × Nat)) : Option (Nat × Nat) := e.bind (fun k => (movedBy d k.2).map (fun n => (k.1, n)))
  let zero (z : ZeroDet) : ZeroDet := { z with neg := pair z.neg, pos := pair z.pos, times := z.times.filterMap (movedBy d) }
  let at1 (n : Nat) : Nat := if n = 0 then 0 else ((movedBy us n).getD 0) + ofBool ((movedBy us n).getD 0 = 0)
  s.setMtr { s.mtr with
    zero := (s.mtr.zero.map (fun e => (e.1, zero e.2))).filter (fun e => decide (e.2 != ZeroDet.dflt e.1))
    starts := s.mtr.starts.map (fun e => (e.1, e.2.map (fun n => (movedBy us n).getD 0)))
    lastStart := s.mtr.lastStart.map (fun e => (e.1, at1 e.2))
    ends := (s.mtr.ends.map (fun e => (e.1, (movedBy us e.2).getD 0))).filter (fun e => decide (e.2 != 0)) }

/-- The modulator clocks are driven from the base tick after ACT is gained, and released with it (R380). -/
def State.driveMclk (s : State) : State :=
  if s.variant.lacks 14 || s.active = s.mtr.mclk then s
  else (s.setMtr { s.mtr with mclk := s.active }).emit (.mclk 15 s.active)

/-! ## Quantities (R393, R394) -/

/-- The sum of a list in binary64, in order. (PRESUMED, log 53) -/
def sum64 (xs : List FpVal) : FpVal := xs.foldl (fun a x => d64 (p64 (a.add x))) (.fin false 0 0)

/-- The mean over `n` in binary64. -/
def mean64 (n : Nat) (xs : List FpVal) : FpVal := d64 (p64 ((sum64 xs).div (fpInt n)))

/-- A square root in binary64. (PRESUMED, log 53) -/
def root64 (v : FpVal) : FpVal := d64 (p64 v.sqrt)

/-- A product in binary64. -/
def mul64 (a b : FpVal) : FpVal := d64 (p64 (a.mul b))

/-- A sum in binary64. -/
def add64 (a b : FpVal) : FpVal := d64 (p64 (a.add b))

/-- Sample `k` of a channel, 0 the newest; one that the window has not taken yet is 0. -/
def State.sampleAt (s : State) (c k : Nat) : FpVal := d64 ((Store.get noNats s.mtr.samples c).getD k 0)

/-- A voltage sample delayed by a quarter of the window, by linear interpolation (R393). -/
def State.delayed (s : State) (c k n : Nat) : FpVal :=
  let d := n / 4
  let f := n % 4
  let w (m : Nat) : FpVal := .fin false m (-2)
  add64 (mul64 (s.sampleAt c (k + d)) (w (4 - f))) (mul64 (s.sampleAt c (k + d + 1)) (w f))

/-- What a circuit's window yields: net P and Q, the quantities of R390 and the state bits of R410. -/
structure Quantities where
  p : FpVal
  q : FpVal
  words : List Word
  bits : Nat
  freq : Nat
  deriving DecidableEq, Repr

/-- The length of the window of circuit `c` in samples (R393). (DEDUCED, log 60) -/
def State.windowLen (s : State) (c : Nat) : Nat :=
  let f := Store.get natZero s.mtr.freq c
  if f = 0 then (if s.on F.MTR_CTL_FNOM then 133 else 160)
  else
    match ((fpInt 8000).div (d64 f)).toInt 0 with
    | some z => z.toNat
    | none => 160

/-- The frequency of voltage channel `v` over the last 200 ms as binary64 bits; 0 when it is not valid (R394). -/
def State.chanFreq (s : State) (v : Nat) : Nat :=
  let ts := (Store.get ZeroDet.dflt s.mtr.zero v).times.filter (fun t => decide (s.count ≤ t + 858993459))
  match ts, ts.getLast? with
  | b :: _ :: _, some a =>
    if b ≤ a then 0
    else
      let f := (fpInt ((ts.length - 1) * 2 ^ 32 : Nat)).div (fpInt (Int.ofNat (b - a)))
      if f.lt (fpInt 45) || (fpInt 65).lt f then 0 else p64 f
  | _, _ => 0

/-- The quantities of circuit `c` over its window (R393, R394). (DEDUCED, log 60) -/
def State.quantities (s : State) (c : Nat) : Quantities :=
  let im := s.mtr.circ
  let n := s.windowLen c
  let ks := (List.range n).reverse
  let phs := circPhases im c
  let u (k : Nat) (j : Nat) : FpVal := s.sampleAt (circV im c k) j
  let i (k : Nat) (j : Nat) : FpVal := let x := s.sampleAt (circI im c k) j
    if circInv im c k then x.neg else x
  let p := sum64 (phs.map (fun k => mean64 n (ks.map (fun j => mul64 (u k j) (i k j)))))
  let q := sum64 (phs.map (fun k => mean64 n (ks.map (fun j => mul64 (s.delayed (circV im c k) j n) (i k j)))))
  let rms (x : Nat → FpVal) : FpVal := root64 (mean64 n (ks.map (fun j => mul64 (x j) (x j))))
  let ur := phs.map (fun k => (k, rms (u k)))
  let ir := phs.map (fun k => (k, rms (i k)))
  let idle := ir.all (fun e => e.2.lt (f32 (circW im c 3)))
  let zero : FpVal := .fin false 0 0
  let p := if idle then zero else p
  let q := if idle then zero else q
  let sa := root64 (add64 (mul64 p p) (mul64 q q))
  let pf := if zero.lt sa then d64 (p64 (p.div sa)) else fpInt 1
  let low := match ur.head? with
    | some e => e.2.lt (f32 (circW im c 4))
    | none => true
  let f := if low then 0 else s.chanFreq (circV im c 0)
  let of (xs : List (Nat × FpVal)) (k : Nat) : Word := match xs.find? (fun e => e.1 = k) with
    | some e => toF32 e.2
    | none => 0
  { p := p
    q := q
    words := [toF32 p, toF32 q, toF32 sa, toF32 pf, toF32 (d64 f), of ur 0, of ur 1, of ur 2, of ir 0, of ir 1, of ir 2]
    bits := ofBool low * 2 ^ 29 + ofBool idle * 2 ^ 28
    freq := f }

/-! ## Energy (R395, R396) -/

/-- The signed integer of a value at exponent `e0`. -/
def fixedAt (v : FpVal) (e0 : Int) : Int :=
  match v with
  | .fin n m e => scaled n m e e0
  | _ => 0

/-- The exponent of a finite value. -/
def expOf : FpVal → Int
  | .fin _ _ e => e
  | _ => 0

/-- The energies of a frame in units of 2^-32 of the LSB: e_P, e_Q and e_S, each rounded to nearest (R396); `up` decides
a tie. (DESIGN CHOICE, log 59) -/
def frameEnergy (p q : FpVal) (ns : Nat) (up : Bool) : Int × Int × Nat :=
  let e0 := min (expOf p) (expOf q)
  let num : Nat := ns * 2 ^ 32 * 10 * (if 0 ≤ e0 then 2 ^ e0.toNat else 1)
  let den : Nat := 36000000000 * (if 0 ≤ e0 then 1 else 2 ^ (-e0).toNat)
  let a := fixedAt p e0
  let b := fixedAt q e0
  let n2 : Nat := a.natAbs * a.natAbs + b.natAbs * b.natAbs
  (roundNearest (a * num) den up, roundNearest (b * num) den up, (Nat.sqrt (4 * n2 * num * num / (den * den)) + 1) / 2)

/-- The eight credits of a frame by quadrant, in the order of R395. -/
def credits (ep eq : Int) (es : Nat) : List Nat :=
  let imp := 0 ≤ ep
  let ind := 0 ≤ eq
  let p := ep.natAbs
  let q := eq.natAbs
  [if imp then p else 0, if imp then 0 else p,
   if imp && ind then q else 0, if !imp && ind then q else 0, if !imp && !ind then q else 0, if imp && !ind then q else 0,
   if imp then es else 0, if imp then 0 else es]

/-- Accumulator `q` of circuit `c`. -/
def State.accum (s : State) (c q : Nat) : Nat := Store.get natZero s.mtr.acc (8 * c + q)

/-- Credit a circuit; the accumulators wrap (R395). -/
def State.creditCirc (s : State) (c : Nat) (cs : List Nat) : State :=
  forUpto 8 s (fun q t => t.setMtr { t.mtr with
    acc := Store.put natZero t.mtr.acc (8 * c + q) ((t.accum c q + cs.getD q 0) % 2 ^ 96)
    credit := Store.put natZero t.mtr.credit (8 * c + q) (cs.getD q 0) })

/-- A flag that the circuit's next snapshot carries (R399). -/
def State.ivFlag (s : State) (c bit : Nat) : State :=
  s.setMtr { s.mtr with ivFlags := Store.put natZero s.mtr.ivFlags c (withBit (Store.get natZero s.mtr.ivFlags c) bit true) }

/-- A flag that every circuit's next snapshot carries: 0 STEP, 1 PWR (R399, R400). -/
def State.ivFlagAll (s : State) (bit : Nat) : State := forUpto 72 s (fun c t => t.ivFlag c bit)

/-- A frame that credits nothing because of a channel fault or a block reset (R383, R399, R423). -/
def State.faultFrame (s : State) (c : Nat) : State :=
  let n := min (2 ^ 32 - 1) (Store.get natZero s.mtr.fltfr c + 1)
  (s.setMtr { s.mtr with fltfr := Store.put natZero s.mtr.fltfr c n }).ivFlag c 3

/-- Whether a channel of circuit `c` was faulted in the frame. -/
def State.circFaulted (s : State) (c : Nat) : Bool := (circChans s.mtr.circ c).any (fun ch => s.mtr.frameBad.contains ch)

/-- The state bits of a circuit: a channel faulted now, INIT, phase-1 voltage absent, currents below ISTART (R410); bit 32, beyond
the word, says that a channel was faulted in the frame (R383). -/
def State.circBits (s : State) (c bits : Nat) : Nat :=
  bits + ofBool (s.circFaulted c) * 2 ^ 32 + ofBool ((circChans s.mtr.circ c).any s.chanFaulted) * 2 ^ 31
  + ofBool (Store.get natZero s.mtr.filled c < s.windowLen c) * 2 ^ 30

/-- Compute and credit circuit `c` for the frame that ended (R393, R396). (DESIGN CHOICE, log 59) -/
def State.meterCirc (s : State) (c : Nat) : State :=
  if !circValid s.mtr.circ c then s
  else
    let z := s.quantities c
    let bits := s.circBits c z.bits
    let t := s.setMtr { s.mtr with
      quant := Store.put noWords s.mtr.quant c z.words
      flags := Store.put natZero s.mtr.flags c bits
      freq := Store.put natZero s.mtr.freq c z.freq }
    if s.circFaulted c then t.faultFrame c
    else
      let (ep, eq, es) := frameEnergy z.p z.q s.mtr.frameNs (bitOf t.freeVal.toNat 0)
      t.useFree.creditCirc c (credits ep eq es)

/-- The value circuit `c` publishes as quantity `k` (R390). -/
def State.quantityValue (s : State) (c k : Nat) : Word :=
  if k ≤ 10 then (Store.get noWords s.mtr.quant c).getD k 0 else wd (s.accum c (k - 11) / 2 ^ 32)

/-- Publish the quantities of circuit `c` into its points (R264 step 3, R383, R390, R393). `dead` is a block reset. -/
def State.publishCirc (s : State) (c : Nat) (dead : Bool) : State :=
  let bits := Store.get natZero s.mtr.flags c
  (circPoints s.mtr.circ c).foldl (fun t e =>
    let p := t.pt e.2
    if !(p.valid && p.wsrc = 3) then t
    else if dead || bitOf bits 32 then (t.setImg e.2 p.failValue).qbit e.2 6 true
    else if bitOf bits 30 then (t.qbit e.2 6 false).qbit e.2 5 true
    else (t.sourceWrite e.2 (t.quantityValue c e.1)).qbit e.2 6 false) s

/-! ## Intervals and snapshots (R397 to R402) -/

/-- The eight accumulators of circuit `c` without their fractions. -/
def State.accums (s : State) (c : Nat) : List Nat := (List.range 8).map (fun q => s.accum c q / 2 ^ 32)

/-- A capture instant: the next sequence number (R399). -/
def State.captureInstant (s : State) : State :=
  let n := s.mtr.kept.ivSeq + 1
  (s.setMtr { s.mtr with kept := { s.mtr.kept with ivSeq := n } }).setReg Reg.MTR_IVSEQ n

/-- The interval index of the frame that begins (R397). -/
def State.intervalIndex (s : State) : Nat := s.time.sec.toNat / max 1 (s.rf F.MTR_IVCTL_LEN)

/-- Snapshot circuit `c` under a tag with further flags and those that wait (R399). (DEDUCED, log 156) -/
def State.snapCirc (s : State) (c tag flags : Nat) : State :=
  let fl := Store.get natZero s.mtr.ivFlags c ||| flags ||| ofBool (s.on F.RTC_STAT_OSF) * 4
  let n : Snap := { seq := s.mtr.kept.ivSeq, index := s.intervalIndex, frame := s.frameNo, flags := fl, tag := tag,
                    acc := s.accums c, torn := false }
  let old := Store.get noSnaps s.mtr.kept.snaps c
  let sn : Store (List Snap) := Store.put noSnaps s.mtr.kept.snaps c ((n :: old).take 96)
  s.setMtr { s.mtr with kept := { s.mtr.kept with snaps := sn } }

/-- Snapshot every valid circuit at one capture instant; the interval closes, and the flags that waited end with it (R397 to R399).
(DEDUCED, log 156) -/
def State.snapAll (s : State) (flags : Nat) : State :=
  forUpto 72 s.captureInstant (fun c t =>
    if circValid t.mtr.circ c then
      let t := t.snapCirc c (circTag t.mtr.circ c) flags
      t.setMtr { t.mtr with ivFlags := Store.put natZero t.mtr.ivFlags c 0 }
    else t)

/-- Zero the accumulators and the fault-frame count of circuit `c`. -/
def State.zeroCirc (s : State) (c : Nat) : State :=
  let t := forUpto 8 s (fun q t => t.setMtr { t.mtr with acc := Store.put natZero t.mtr.acc (8 * c + q) 0 })
  t.setMtr { t.mtr with fltfr := Store.put natZero t.mtr.fltfr c 0 }

/-- An accumulator clear at the frame boundary (R402). -/
def State.clearCirc (s : State) (c : Nat) : State :=
  let v := circValid s.mtr.circ c
  let tag := Store.get natZero s.mtr.kept.tags c
  let t := if v then s.captureInstant.snapCirc c (circTag s.mtr.circ c) 0x20 else s
  (t.zeroCirc c).report 0x0E07 tag (wd c) (wd (s.accum c 0 / 2 ^ 32)) (wd (s.accum c 1 / 2 ^ 32))

/-- The theft-watch total of a circuit is cleared (R392). -/
def State.clearWatch (s : State) (c : Nat) : State :=
  forUpto 16 s (fun k t => if t.rf (F.MTR_TW_CIRC k) = c then t.setReg (Reg.MTR_TWAS k) 0 else t)

/-- Circuit `c` under a new table: a retag, a first validity, changed channels, which begin with INIT (R392, R393, R398). -/
def State.recircuit (s : State) (old : List Word) (c : Nat) : State :=
  let new := s.mtr.circ
  let tag := circTag new c
  let was := Store.get natZero s.mtr.kept.tags c
  let t :=
    if circValid new c && tag != was then
      let t := s.captureInstant.snapCirc c was 0x10
      let t := ((t.zeroCirc c).clearWatch c).report 0x0E0C 0 (wd c) (wd was) (wd tag)
      t.setMtr { t.mtr with kept := { t.mtr.kept with tags := Store.put natZero t.mtr.kept.tags c tag } }
    else s
  let fresh := circValid new c && !circValid old c
  let t := if fresh then t.captureInstant.snapCirc c tag 0x80 else t
  if fresh || circType new c != circType old c || circChans new c != circChans old c then
    t.setMtr { t.mtr with
      filled := Store.put natZero t.mtr.filled c 0
      freq := Store.put natZero t.mtr.freq c 0
      quant := Store.put noWords t.mtr.quant c []
      flags := Store.put natZero t.mtr.flags c (2 ^ 30) }
  else t

/-- Copy the watched channels' calibration into the always-on domain (R416). -/
def State.copyWatch (s : State) : State := s.setMtr { s.mtr with kept := { s.mtr.kept with watchCal := s.mtr.cal } }

/-- Apply an accepted calibration set, and complete its command (R386). -/
def State.applyCal (s : State) (e : List Word × HPort × Part × Nat) : State :=
  let (ws, x, p, id) := e
  let old := s.reg Reg.MTR_CALCRC
  let t := (s.setMtr { s.mtr with cal := ws, loaded := withBit s.mtr.loaded 0 true }).copyWatch.mainsWatch
  let t := (t.setReg Reg.MTR_CALCRC (crc32Words ws)).report 0x0E05 0 old (crc32Words ws) 0
  t.completeLate x p id St.success allOnes 0

/-- Apply an accepted circuit table (R392). -/
def State.applyCirc (s : State) (ws : List Word) : State :=
  let old := s.mtr.circ
  let crc := s.reg Reg.MTR_CIRCCRC
  let t := s.setMtr { s.mtr with circ := ws, loaded := withBit s.mtr.loaded 1 true }
  let t := forUpto 72 t (fun c t => t.recircuit old c)
  ((t.setReg Reg.MTR_CIRCCRC (crc32Words ws)).report 0x0E06 0 crc (crc32Words ws) 0).copyWatch

/-- Metering that lacked an image at the start runs once both have been loaded (R387). -/
def State.settleCfg (s : State) : State := if s.mtr.loaded = 3 then s.setF F.MTR_STAT_NOCFG 0 else s

/-- The images accepted since the last boundary take effect, each kind in the order of acceptance (R386, R392). -/
def State.applyImages (s : State) : State :=
  let t := s.mtr.calPend.foldl State.applyCal (s.setMtr { s.mtr with calPend := [], circPend := [] })
  (s.mtr.circPend.foldl State.applyCirc t).settleCfg

/-- The interval decision of a latch (R397, R398). -/
def State.interval (s : State) : State :=
  let len := max 1 (s.rf F.MTR_IVCTL_LEN)
  let k := s.intervalIndex
  let t :=
    if len != s.mtr.len then s.snapAll 0x40
    else if s.on F.MTR_IVCTL_EN && k != s.mtr.index then s.snapAll 0
    else s
  t.setMtr { t.mtr with index := k, len := len }

/-! ## Pulse outputs (R412 to R415) -/

/-- The last frame's credit of a pulse output's quantity (R412). -/
def State.pulseCredit (s : State) (k : Nat) : Nat :=
  let c := s.rf (F.MTR_PCFG_CIRC k)
  let q := s.rf (F.MTR_PCFG_QTY k)
  let g (q : Nat) : Nat := Store.get natZero s.mtr.credit (8 * c + q)
  if q < 8 then g q else if q = 8 then g 2 + g 3 else g 4 + g 5

/-- The starts scheduled for a frame's credit: weight `w`, residue `r` before it, credit `e` in the same units, and the
instant in µs at which the frame two later begins; each lies at least 1 ms after the one before (R413). -/
def pulseStarts (w r e base : Nat) : Nat → Nat → Nat → List Nat
  | 0, _, _ => []
  | n + 1, j, last =>
    if w = 0 || r + e < j * w then []
    else
      let t := max (base + (j * w - r) * 1000 / max 1 e) last
      t :: pulseStarts w r e base n (j + 1) (t + 1000)

/-- The end of the running pulse of output `k`, if any, when the starts `new` are scheduled after none that waited: a start
before it moves it to the midpoint, but not before now (R414). (DEDUCED, log 63) -/
def State.pulseStop (s : State) (k : Nat) (new : List Nat) : Nat :=
  let stop := Store.get natZero s.mtr.ends k
  match Store.get noFlag s.mtr.active k, Store.get noNats s.mtr.starts k, new with
  | true, [], n :: _ =>
    if n < stop then max ((Store.get natZero s.mtr.lastStart k - 1 + n) / 2) (s.frameNo * 1000) else stop
  | _, _, _ => stop

/-- A pulse output at the latch: its residue grows, and starts are scheduled (R413 to R415). -/
def State.pulseLatch (s : State) (k : Nat) : State :=
  let m := s.mtr
  if !s.on (F.MTR_PCFG_EN k) || s.rf (F.MTR_PMC_MC k) = 0 then
    s.setMtr { m with clearRes := Store.put noFlag m.clearRes k false,
                      residue := if Store.get noFlag m.clearRes k then Store.put natZero m.residue k 0 else m.residue }
  else
    let w := 1000000 * 2 ^ 32
    let r := if Store.get noFlag m.clearRes k then 0 else Store.get natZero m.residue k
    let e := s.pulseCredit k * s.rf (F.MTR_PMC_MC k)
    let wait := Store.get noNats m.starts k
    let lastT := match wait.getLast? with
      | some t => t + 1000
      | none => Store.get natZero m.lastStart k + 999
    let new := pulseStarts w r e ((s.frameNo + 1) * 1000) ((r + e) / w) 1 lastT
    let ws := wait ++ new
    let t := s.setMtr { m with
      clearRes := Store.put noFlag m.clearRes k false
      residue := Store.put natZero m.residue k ((r + e) % w)
      starts := Store.put noNats m.starts k ws
      ends := Store.put natZero m.ends k (s.pulseStop k new) }
    if 1000 < ws.length then (t.raiseMtr 3).report 0x0E0A 0 (wd k) (wd ws.length) 0 else t

/-- A scheduled pulse start (R413, R414): it lasts WIDTH or half the interval since the start before.
(DEDUCED, log 63) -/
def pulseStartEff (k : Fin 8) (s : State) : State :=
  let m := s.mtr
  match Store.get noNats m.starts k with
  | [] => s
  | t :: rest =>
    if s.inReset 14 || !s.on (F.MTR_PCFG_EN k) then s
    else
      let prev := Store.get natZero m.lastStart k
      let width := s.rf (F.MTR_PCFG_WIDTH k) * 1000
      let len := if prev = 0 then width else min width ((t + 1 - prev) / 2)
      let stop := match rest with
        | n :: _ => if n < t + len then (t + n) / 2 else t + len
        | [] => t + len
      let u := s.setMtr { m with
        starts := Store.put noNats m.starts k rest
        lastStart := Store.put natZero m.lastStart k (t + 1)
        ends := Store.put natZero m.ends k stop
        active := Store.put noFlag m.active k true }
      (u.setReg (Reg.MTR_PCNT k) (u.reg (Reg.MTR_PCNT k) + 1)).emit (.pulse k true (s.on (F.MTR_PCFG_POL k)))

/-- PULSE_START (R413). -/
def execPulseStart (k : Fin 8) (s : State) : Host.Outcome State Fault Refusal := .next (pulseStartEff k s)

/-- The running pulse ends (R414). -/
def pulseEndEff (k : Fin 8) (s : State) : State :=
  if Store.get noFlag s.mtr.active k then
    (s.setMtr { s.mtr with active := Store.put noFlag s.mtr.active k false }).emit
      (.pulse k false (s.on (F.MTR_PCFG_POL k)))
  else s

/-- PULSE_END (R414). -/
def execPulseEnd (k : Fin 8) (s : State) : Host.Outcome State Fault Refusal := .next (pulseEndEff k s)

/-! ## Saves (R403 to R407) -/

/-- Whether sequence number `a` is newer than `b` in serial-number order. -/
def newerSeq (a b : Word) : Bool := (a - b) != 0 && (a - b).toNat < 2 ^ 31

/-- The newest of two banks whose CRC is good. -/
def newestBank (a b : Option Bank) : Option Bank :=
  match a.filter (fun k => !k.torn), b.filter (fun k => !k.torn) with
  | some x, some y => some (if newerSeq y.seq x.seq then y else x)
  | some x, none => some x
  | none, y => y

/-- A copy of the accumulators with the next sequence number (R403). -/
def State.bankCopy (s : State) : Bank :=
  let n := match newestBank s.mtr.kept.bank0 s.mtr.kept.bank1 with
    | some b => b.seq + 1
    | none => 1
  { seq := n, frame := s.frameNo, index := s.mtr.index, acc := s.mtr.acc, fltfr := s.mtr.fltfr,
    residue := s.mtr.residue, mc := (List.range 8).foldl (fun m k => Store.put natZero m k (s.rf (F.MTR_PMC_MC k))) []
    torn := false }

/-- Write a bank over the one that does not hold the newest complete save (R403). -/
def State.writeBank (s : State) (b : Bank) : State :=
  let k := s.mtr.kept
  let into1 : Bool := match newestBank k.bank0 k.bank1, k.bank0 with
    | some n, some a => n = a
    | _, _ => false
  let k := if into1 then { k with bank1 := some b } else { k with bank0 := some b }
  (s.setMtr { s.mtr with kept := k }).setReg Reg.MTR_BANKSEQ b.seq

/-- A regular save is complete (R403). -/
def regularSaveCompleteEff (s : State) : State :=
  match s.mtr.saving with
  | none => s
  | some b => (s.setMtr { s.mtr with saving := none }).writeBank b

/-- REGULAR_SAVE_COMPLETE (R403). -/
def execRegularSaveComplete (s : State) : Host.Outcome State Fault Refusal := .next (regularSaveCompleteEff s)

/-- The bank written before a system reset (R405). -/
def State.saveBank (s : State) : State :=
  if s.variant.lacks 14 then s
  else
    let t := s.setMtr { s.mtr with saving := none }
    t.writeBank t.bankCopy

/-- At a supply warning the copy is taken and written as the warning bank (R404). The time in the event is open.
(DESIGN CHOICE, log 61) -/
def State.warnBank (s : State) : State :=
  if s.variant.lacks 14 then s
  else
    let t := s.setMtr { s.mtr with saving := none }
    let b := t.bankCopy
    let t := t.setMtr { t.mtr with warned := some b }
    (t.useFree.writeBank b).report 0x0E04 0 b.seq (wd (t.freeVal.toNat % 1201)) 0

/-- The supply has recovered: delta records stop, and the next snapshots carry PWR (R407). -/
def State.warnOver (s : State) : State := (s.setMtr { s.mtr with warned := none }).ivFlagAll 1

/-- The increment of pulse residue `k` since a bank's copy in units of 2^-16 of the LSB, rounded down (R404).
(DESIGN CHOICE, log 157) -/
def State.residueStep (s : State) (b : Bank) (k : Nat) : Int :=
  let m := max 1 (s.rf (F.MTR_PMC_MC k))
  let m0 := max 1 (Store.get natZero b.mc k)
  (Int.ofNat (Store.get natZero s.mtr.residue k * m0) - Int.ofNat (Store.get natZero b.residue k * m)) / Int.ofNat (m * m0 * 2 ^ 16)

/-- The delta record of a frame after a warning, in the older slot (R404): increments as 48-bit counts of 2^-16 of the LSB. -/
def State.writeDelta (s : State) : State :=
  match s.mtr.warned with
  | none => s
  | some b =>
    let keys := (List.range 576).map (fun k =>
      (k, (Store.get natZero s.mtr.acc k + 2 ^ 96 - Store.get natZero b.acc k) % 2 ^ 96 / 2 ^ 16 % 2 ^ 48))
    let res := (List.range 8).map (fun k => (k, unsignedOf 48 (s.residueStep b k)))
    let d : Delta := { seq := b.seq, frame := s.frameNo, acc := keys.filter (fun e => e.2 != 0),
                       residue := res.filter (fun e => e.2 != 0), torn := false }
    let k := s.mtr.kept
    let into1 : Bool := match k.delta0, k.delta1 with
      | some a, some c => c.frame < a.frame
      | some _, none => true
      | none, _ => false
    s.setMtr { s.mtr with kept := if into1 then { k with delta1 := some d } else { k with delta0 := some d } }

/-- The delta record that continues a bank: the newest with a good CRC and the bank's number (R406). -/
def State.deltaFor (s : State) (b : Bank) : Option Delta :=
  let ok (d : Option Delta) : Option Delta := d.filter (fun d => !d.torn && d.seq = b.seq)
  match ok s.mtr.kept.delta0, ok s.mtr.kept.delta1 with
  | some x, some y => some (if x.frame < y.frame then y else x)
  | some x, none => some x
  | none, y => y

/-- Whether anything written in the energy region is torn (R406). -/
def MtrKept.anyTorn (k : MtrKept) : Bool :=
  (k.bank0.any (fun b => b.torn)) || (k.bank1.any (fun b => b.torn)) || (k.delta0.any (fun d => d.torn))
    || (k.delta1.any (fun d => d.torn))

/-- Restore the accumulators at a restart (R406). (DEDUCED, log 120) -/
def State.restoreAcc (s : State) : State :=
  let torn := s.mtr.kept.anyTorn
  let t := if torn then s.setF F.MTR_STAT_TORN 1 else s
  match newestBank s.mtr.kept.bank0 s.mtr.kept.bank1 with
  | none => (t.setF F.MTR_STAT_NOBANK 1).report 0x0E03 0 0 0 (wd (ofBool torn + 2))
  | some b =>
    let d := s.deltaFor b
    let t := t.setMtr { t.mtr with
      acc := (List.range 576).foldl (fun m k => Store.put natZero m k
        ((Store.get natZero b.acc k + (match d with
          | some d => Store.get natZero d.acc k * 2 ^ 16
          | none => 0)) % 2 ^ 96)) []
      fltfr := b.fltfr
      residue := (List.range 8).foldl (fun m k => Store.put natZero m k
        (Int.ofNat (Store.get natZero b.residue k) + (match d with
          | some d => signedOf 48 (Store.get natZero d.residue k) * Int.ofNat (max 1 (Store.get natZero b.mc k) * 2 ^ 16)
          | none => 0)).toNat) []
      index := b.index }
    (t.setReg Reg.MTR_BANKSEQ b.seq).report 0x0E03 0 b.seq (wd (ofBool d.isSome)) (wd (ofBool torn))

/-- Reload an image of configuration storage; a missing or broken copy stops metering (R387). -/
def State.reloadCfg (s : State) : State :=
  let k := s.mtr.kept
  let img (o : Option (List Word × Bool)) : List Word := match o with
    | some (ws, true) => ws
    | _ => []
  let cal := img k.calImg
  let circ := img k.circImg
  let t := s.setMtr { s.mtr with cal := cal, circ := circ }
  let t := t.setReg Reg.MTR_CALCRC (if cal = [] then 0 else crc32Words cal)
  let t := t.setReg Reg.MTR_CIRCCRC (if circ = [] then 0 else crc32Words circ)
  let t := if cal = [] || circ = [] then t.setF F.MTR_STAT_NOCFG 1 else t
  let t := if circ = [] then t.report 0x0E0B 0 0x05 0 0 else t
  if cal = [] then t.report 0x0E0B 0 0x06 0 0 else t

/-- What the start sequence does for metering (R387, R406, R400). (DEDUCED, log 120) -/
def State.startMetering (s : State) : State :=
  if s.variant.lacks 14 then s
  else
    let t := ((s.reloadCfg).restoreAcc).ivFlagAll 1
    t.setReg Reg.MTR_IVSEQ t.mtr.kept.ivSeq

/-! ## The frame (R264 step 3, R397, R401) -/

/-- Frequencies of the voltage channels (R427). -/
def State.showFreqs (s : State) : State :=
  forUpto 8 s (fun v t => t.setReg (Reg.MTR_FREQ v) (toF32 (d64 (t.chanFreq v))))

/-- A mains measurement that has run for 200 ms ends when the frequency of its channel is not valid (R69, R394).
(DEDUCED, log 147) -/
def State.mainsBand (s : State) : State :=
  if !s.measNet && s.time.measFrom + 858993459 ≤ s.count && s.chanFreq (s.rf F.RTC_MEASCTL_VCH) = 0 then s.measFail 3 else s

/-- Tick 0: the frame that ended is computed and credited, pulses are scheduled, accepted images, clears and snapshots
follow, and the frame's sums start again (R393 to R402, R413). -/
def State.meterFrame (s : State) : State :=
  if s.variant.lacks 14 then s
  else
    let live := s.metering
    let t := s.setMtr { s.mtr with credit := [] }
    let t := if live then forUpto 72 t (fun c t => t.meterCirc c)
      else if s.inReset 14 then forUpto 72 t (fun c t => if circValid t.mtr.circ c then t.faultFrame c else t)
      else t
    let t := forUpto 8 t.showFreqs.mainsBand (fun k t => t.pulseLatch k)
    let t := t.applyImages
    let t := (t.mtr.clears).foldl (fun t c => t.clearCirc c) t
    let t := (t.setMtr { t.mtr with clears := [] }).interval
    let t := forUpto 72 t (fun c t => if circValid t.mtr.circ c && (live || s.inReset 14) && !s.inReset 10 then t.publishCirc c (s.inReset 14) else t)
    let t := t.setMtr { t.mtr with frameNs := 0, frameBad := [] }
    if t.mtr.warned.isSome then t.writeDelta
    else if t.rf F.TCK_CUR_FIDX = 500 then t.setMtr { t.mtr with saving := some t.bankCopy }
    else t

/-- A block reset of MTR keeps accumulators, residues and images; the windows restart empty (R423), and a mains measurement has lost
its reference (R69). Pulse starts that wait are kept, since pulses are never dropped (R413). (DEDUCED, log 63 and 147) -/
def State.mtrResetIn (s : State) : State :=
  let t := if s.measNet then s else s.measFail 2
  t.setMtr { t.mtr with
    bits := []
    runs := []
    samples := []
    hp := []
    good := []
    zero := []
    filled := []
    freq := []
    quant := []
    flags := []
    credit := [] }

/-! ## Register writes (R402, R398, R415, R416) -/

/-- A write to MTR_ACCCLR (R402); GO with an undefined CIRC clears nothing. (DEDUCED, log 184) -/
def State.writeAccClr (s : State) (v : Word) : State :=
  let c := fieldOf v 6 0
  let t := s.writeFields Reg.MTR_ACCCLR v
  if fieldOf v 31 31 = 1 && c < 72 then t.setMtr { t.mtr with clears := t.mtr.clears ++ [c] } else t

/-- ACCUMULATOR_CLEAR_REQUEST (R402). -/
def accumulatorClearRequestEff (x : HPort) (v : Word) (s : State) : State :=
  s.asWrite x 14 (s.writeAccClr v)

/-- ACCUMULATOR_CLEAR_REQUEST (R402). -/
def execAccumulatorClearRequest (x : HPort) (v : Word) (s : State) : Host.Outcome State Fault Refusal :=
  .next (accumulatorClearRequestEff x v s)

/-- A write to MTR_IVCTL (R398, R426): LEN is 60 to 3,600 and divides 3,600. -/
def State.writeIvCtl (s : State) (v : Word) : State :=
  let n := fieldOf v 11 0
  if 60 ≤ n && n ≤ 3600 && 3600 % n = 0 then s.writeFields Reg.MTR_IVCTL v
  else (s.setF F.MTR_IVCTL_EN (fieldOf v 31 31)).badVal

/-- INTERVAL_CONTROL_WRITE (R398). -/
def intervalControlWriteEff (x : HPort) (v : Word) (s : State) : State := s.asWrite x 14 (s.writeIvCtl v)

/-- INTERVAL_CONTROL_WRITE (R398). -/
def execIntervalControlWrite (x : HPort) (v : Word) (s : State) : Host.Outcome State Fault Refusal :=
  .next (intervalControlWriteEff x v s)

/-- Whether a pulse width in ms is one that an output may run with (R428). -/
def widthOk (w : Nat) : Bool := 2 ≤ w && w ≤ 100

/-- A write to MTR_PCFG[k] (R415, R428): with EN = 1 a WIDTH outside 2 to 100 ms is kept out, and EN with it when the WIDTH that
stays is outside too (R11); a new POL turns the level of the pin. (DEDUCED, log 158) -/
def State.writePulseCfg (s : State) (k : Nat) (v : Word) : State :=
  let bad := fieldOf v 31 31 = 1 && !widthOk (fieldOf v 15 8)
  let old := s.rf (F.MTR_PCFG_WIDTH k)
  let v' := if bad then withField v 15 8 old else v
  let v' := if bad && !widthOk old then withField v' 31 31 (s.rf (F.MTR_PCFG_EN k)) else v'
  let t := s.writeFields (Reg.MTR_PCFG k) v'
  let t := if bad then t.badVal else t
  let t := if t.rf (F.MTR_PCFG_POL k) = s.rf (F.MTR_PCFG_POL k) then t
    else t.emit (.pulse k (Store.get noFlag t.mtr.active k) (t.on (F.MTR_PCFG_POL k)))
  if t.rf (F.MTR_PCFG_CIRC k) != s.rf (F.MTR_PCFG_CIRC k) || t.rf (F.MTR_PCFG_QTY k) != s.rf (F.MTR_PCFG_QTY k) then
    t.setMtr { t.mtr with clearRes := Store.put noFlag t.mtr.clearRes k true }
  else t

/-- A write to MTR_PMC[k] (R415). -/
def State.writePulseMc (s : State) (k : Nat) (v : Word) : State :=
  let t := s.writeFields (Reg.MTR_PMC k) v
  if t.rf (F.MTR_PMC_MC k) != s.rf (F.MTR_PMC_MC k) then
    t.setMtr { t.mtr with clearRes := Store.put noFlag t.mtr.clearRes k true }
  else t

/-- A write to MTR_PCFG or MTR_PMC (R415). -/
def pulseOutputConfigWriteEff (x : HPort) (k : Fin 8) (mc : Bool) (v : Word) (s : State) : State :=
  s.asWrite x 14 (if mc then s.writePulseMc k v else s.writePulseCfg k v)

/-- PULSE_OUTPUT_CONFIG_WRITE (R415). -/
def execPulseOutputConfigWrite (x : HPort) (k : Fin 8) (mc : Bool) (v : Word) (s : State) :
    Host.Outcome State Fault Refusal := .next (pulseOutputConfigWriteEff x k mc v s)

/-- A write to MTR_TW[k] (R416). -/
def State.writeWatch (s : State) (k : Nat) (v : Word) : State := (s.writeFields (Reg.MTR_TW k) v).copyWatch

/-- THEFT_WATCH_CONFIG_WRITE (R416). -/
def theftWatchConfigWriteEff (x : HPort) (k : Fin 16) (v : Word) (s : State) : State :=
  s.asWrite x 14 (s.writeWatch k v)

/-- THEFT_WATCH_CONFIG_WRITE (R416). -/
def execTheftWatchConfigWrite (x : HPort) (k : Fin 16) (v : Word) (s : State) : Host.Outcome State Fault Refusal :=
  .next (theftWatchConfigWriteEff x k v s)

/-- A write to MTR_TWCLR (R420, R429). -/
def State.writeWatchClr (s : State) (v : Word) : State :=
  forUpto 16 s (fun k t => if bitOf v.toNat k then t.setReg (Reg.MTR_TWAS k) 0 else t)

/-- THEFT_WATCH_CLEAR (R420). -/
def theftWatchClearEff (x : HPort) (v : Word) (s : State) : State := s.asWrite x 14 (s.writeWatchClr v)

/-- THEFT_WATCH_CLEAR (R420). -/
def execTheftWatchClear (x : HPort) (v : Word) (s : State) : Host.Outcome State Fault Refusal :=
  .next (theftWatchClearEff x v s)

/-! ## Theft watch (R416 to R420) -/

/-- The always-on domain watches now: enabled, VMAIN absent, VBAK at 2.7 V or more (R416, R419). -/
def State.watching (s : State) : Bool :=
  !s.variant.lacks 14 && s.time.keep && s.on F.MTR_TWCTL_EN && 270 ≤ s.rf F.PWR_MEAS_VBAK

/-- The RMS value of a burst's samples of channel `c`, with OFS, GAIN and FS applied and without high-pass filtering, in binary64
(R417). (PRESUMED, log 53) -/
def watchRms (im : List Word) (c : Nat) (codes : List Int) : Nat :=
  p64 (root64 (mean64 codes.length (codes.map (fun z => let x := d64 (calValue im c z); mul64 x x))))

/-- A burst: the carrier rail is switched on, MCLK3 starts, and the RMS values of all channels are taken from their samples
(R417). -/
def theftWatchBurstEff (codes : List (List Int)) (s : State) : State :=
  if !s.variant.lacks 14 && s.time.keep && s.on F.MTR_TWCTL_EN && s.rf F.PWR_MEAS_VBAK < 270 then
    s.setF F.MTR_TWSTAT_LOWB 1
  else if s.watching then
    let k := s.mtr.kept
    let rms := (List.range 80).map (fun c => watchRms k.watchCal c (codes.getD c []))
    ((s.emit (.modPower true)).emit (.mclk 8 true)).setMtr { s.mtr with kept := { k with watchRms := rms } }
  else s

/-- THEFT_WATCH_BURST (R417). -/
def execTheftWatchBurst (codes : List (List Int)) (s : State) : Host.Outcome State Fault Refusal :=
  .next (theftWatchBurstEff codes s)

/-- A circuit entry as configuration storage holds it, which the always-on domain uses. -/
def MtrKept.circ (k : MtrKept) : List Word :=
  match k.circImg with
  | some (ws, _) => ws
  | none => []

/-- A value in whole units, an inexact one rounded in an open way. (DESIGN CHOICE, log 159) -/
def wholeUnits (v : FpVal) (up : Bool) : Nat :=
  match v.toInt 1 with
  | some z => z.toNat + ofBool (up && (fpInt z).lt v)
  | none => 0

/-- The largest phase current of a watched circuit in A, and whether it qualifies (R418). -/
def State.watchJudge (s : State) (k : Nat) : FpVal × Bool :=
  let im := s.mtr.kept.circ
  let c := s.rf (F.MTR_TW_CIRC k)
  let r (ch : Nat) : FpVal := d64 (s.mtr.kept.watchRms.getD ch 0)
  let phs := circPhases im c
  let cur := phs.foldl (fun a j => a.max (r (circI im c j))) (.fin false 0 0)
  (cur, circValid im c && phs.all (fun j => (r (circV im c j)).lt (fpInt (s.rf F.MTR_TWCTL_VABS)))
    && (fpInt (s.rf (F.MTR_TW_ITH k))).lt (cur.mul (fpInt 100)))

/-- Replace the stored part of metering. -/
def State.setKept (s : State) (k : MtrKept) : State := s.setMtr { s.mtr with kept := k }

/-- Judge one watch entry at the end of a burst (R418, R419): the total grows by 10 s times the current.
(DESIGN CHOICE, log 159) -/
def State.watchEntry (s : State) (k : Nat) : State :=
  if !s.on (F.MTR_TW_EN k) then s
  else
    let (amps, yes) := s.watchJudge k
    let cur := wholeUnits (amps.mul (fpInt 100)) (bitOf s.freeVal.toNat 0)
    let total := wholeUnits (amps.mul (fpInt 10)) (bitOf s.freeVal.toNat 1)
    let s := s.useFree
    let m := s.mtr.kept
    if !yes then
      s.setKept { m with qualified := Store.put noFlag m.qualified k false, recorded := Store.put noFlag m.recorded k false }
    else
      let t := s.addSat (F.MTR_TWAS_AS k) total
      let isOn := Store.get noFlag m.qualified k
      let q := Store.put noFlag m.qualified k true
      if isOn then
        if Store.get noFlag m.recorded k then
          let i := m.episodes.length - 1 - (m.episodes.reverse.findIdx (fun e => e.entry = k))
          t.setKept { m with qualified := q, episodes := m.episodes.modify i (fun e =>
            { e with bursts := min 65535 (e.bursts + 1), peak := max e.peak cur }) }
        else t
      else if m.episodes.length < 32 then
        let e : Episode := { entry := k, start := wd (s.time.sec.toNat % 2 ^ 32), bursts := 1, peak := cur }
        (t.setKept { m with qualified := q, recorded := Store.put noFlag m.recorded k true,
                            episodes := m.episodes ++ [e] }).setF F.MTR_TWSTAT_NREC (m.episodes.length + 1)
      else (t.setKept { m with qualified := q }).addSat F.MTR_TWSTAT_OVF 1

/-- The evaluation at the end of a burst, after MCLK3 has stopped and the carrier rail is off (R417, R418). -/
def theftWatchEvaluationEff (s : State) : State :=
  if s.watching then forUpto 16 ((s.emit (.mclk 8 false)).emit (.modPower false)) (fun k t => t.watchEntry k) else s

/-- THEFT_WATCH_EVALUATION (R418). -/
def execTheftWatchEvaluation (s : State) : Host.Outcome State Fault Refusal := .next (theftWatchEvaluationEff s)

/-- VMAIN has returned: every episode record becomes event 0x0E08 and is freed (R420). -/
def State.watchReturn (s : State) : State :=
  if s.variant.lacks 14 then s
  else
    let es := s.mtr.kept.episodes
    let t := es.foldl (fun t e =>
      let c := t.rf (F.MTR_TW_CIRC e.entry)
      t.report 0x0E08 (Store.get natZero t.mtr.kept.tags c) (wd c) e.start (wd (e.bursts % 65536 * 2 ^ 16 + min e.peak 65535))) s
    let t := t.setKept { t.mtr.kept with episodes := [], qualified := [], recorded := [] }
    let t := if es = [] then t else (t.setF F.MTR_TWSTAT_NREC 0).raiseMtr 2
    if t.rf F.MTR_TWSTAT_OVF != 0 || t.on F.MTR_TWSTAT_LOWB then
      ((t.report 0x0E09 0 (wd (t.rf F.MTR_TWSTAT_OVF)) (wd (t.rf F.MTR_TWSTAT_LOWB)) 0).setF F.MTR_TWSTAT_OVF 0)
    else t

/-! ## MTR_READ (R410, R411) -/

/-- A circuit's tag, if it exists (R388, R411). -/
def State.circuitTag (s : State) (c : Nat) : Option Nat :=
  if c < 72 && circValid s.mtr.circ c then some (circTag s.mtr.circ c) else none

/-- The bytes of a snapshot (R410). -/
def Snap.bytes (k : Snap) : List Byte :=
  wordsBytes [k.seq, wd (k.index % 2 ^ 32), wd (k.frame % 2 ^ 32), wd (k.flags % 65536 + k.tag * 2 ^ 16)]
  ++ k.acc.flatMap (bytesLE 8)

/-- The theft-watch total of a circuit (R410, R419). -/
def State.watchTotal (s : State) (c : Nat) : Word :=
  match (List.range 16).find? (fun k => s.on (F.MTR_TW_EN k) && s.rf (F.MTR_TW_CIRC k) = c) with
  | some k => s.reg (Reg.MTR_TWAS k)
  | none => 0

/-- What MTR_READ delivers, with at most `m` snapshots (R410, R411). -/
def State.meterBytes (s : State) (p c m : Nat) : List Byte :=
  let sn := ((Store.get noSnaps s.mtr.kept.snaps c).filter (fun k =>
    !k.torn && s.filterRead p (some k.tag) Cls.circuit c = St.success)).take m
  wordsBytes [wd (Store.get natZero s.mtr.flags c + c), wd (s.frameNo / 2 ^ 32), wd sn.length, 0]
  ++ (s.accums c).flatMap (bytesLE 8)
  ++ wordsBytes ((List.range 11).map (fun k => (Store.get noWords s.mtr.quant c).getD k 0) ++ [0])
  ++ wordsBytes [wd (Store.get natZero s.mtr.fltfr c), s.watchTotal c, 0, 0]
  ++ sn.flatMap Snap.bytes

/-- MTR_READ's body (R410). -/
def mtrReadBody (x : HPort) (p : Part) (d : Desc) (s : State) (_id : Nat) : CmdEnd :=
  let c := fieldOf d.w2 6 0
  let st := s.filterRead p (s.circuitTag c) Cls.circuit c
  if st != St.success then .refuse s Cls.circuit c st
  else
    match s.dmaWrite x p d.addr (s.meterBytes p c ((d.len - 144) / 80)) with
    | (false, t) => .done t St.dmaError 0 0
    | (true, t) => .done t St.success (wd (s.frameNo % 2 ^ 32)) 0

/-- MTR_READ (R410). -/
def mtrReadEff (x : HPort) (p : Part) (d : Desc) (s : State) : State :=
  s.command x p d (d.opcode = 0x20) (d.buf 0x7F 0 0 144 7824 && (d.len - 144) % 80 = 0) (!s.variant.lacks 14) false
    (mtrReadBody x p d)

/-- MTR_READ (R410). -/
def execMtrRead (x : HPort) (p : Part) (d : Desc) (s : State) : Host.Outcome State Fault Refusal := .next (mtrReadEff x p d s)

end Sys2Proof.Machine
end

