-- ==== Sys2Proof/Machine/Measure.lean ====
section
/-! DEFINITION. Measurements of the clock's rate error against the mains or the network (chapter "Tick, Frame and Building Time",
R68 to R71, R82). -/

namespace Sys2Proof.Machine

/-- The reference that SRC names is there: for the mains a channel in use without a fault, for the network a servo that follows it
and has not lost Sync (R69, R422). (DEDUCED, log 147) -/
def State.measRef (s : State) : Bool :=
  if s.rf F.RTC_MEASCTL_SRC = 1 then s.mainsRef (s.rf F.RTC_MEASCTL_VCH)
  else s.on F.RTC_CTL_NETSYNC && !s.on F.TCK_STAT_HOLD

/-- A host write to RTC_MEASCTL (R68, R70, R71, R82): the fields are stored, and START starts a measurement from the source that
SRC then holds. START with SRC = 0 starts nothing; a START while one runs begins it again; DONE and FAIL stay for software to
clear; a source that is lost at the start fails at once. (DESIGN CHOICE, log 148; DEDUCED, log 147) -/
def State.writeMeasCtl (s : State) (v : Word) : State :=
  let noMains := s.variant.lacks 14 && fieldOf v 25 24 = 1
  let v' := if noMains then withField v 25 24 (s.rf F.RTC_MEASCTL_SRC) else v
  let t := s.writeFields Reg.RTC_MEASCTL v'
  let t := if noMains then t.badVal else t
  if fieldOf v 31 31 = 1 && !t.autoTrim && t.rf F.RTC_MEASCTL_SRC != 0 then
    let t := t.measBegin false
    if t.measRef then t else t.measFail 2
  else t

/-- MEASUREMENT_START (R68). -/
def measurementStartEff (x : HPort) (v : Word) (s : State) : State := s.asWrite x 4 (s.writeMeasCtl v)

/-- MEASUREMENT_START (R68). -/
def execMeasurementStart (x : HPort) (v : Word) (s : State) : Host.Outcome State Fault Refusal :=
  .next (measurementStartEff x v s)

/-- The mains' rate error in trim units (R68): T × f0 / N − 1 for `n` cycles over `t` units of 2^-32 s, rounded to nearest; `up`
decides a tie. (DESIGN CHOICE, log 32) -/
def mainsError (f0 n t : Nat) (up : Bool) : Int := roundNearest ((t * f0 : Nat) - (n * 2 ^ 32 : Nat)) n up

/-- The network's rate error in trim units (R68): the change of the offset in ns over a window of `win` seconds.
(DESIGN CHOICE, log 32; DEDUCED, log 147) -/
def netError (change : Int) (win : Nat) (up : Bool) : Int := roundNearest (change * 2 ^ 32) (win * 1000000000) up

/-- The result of the measurement that runs (R68). -/
def State.measError (s : State) (up : Bool) : Int :=
  if s.measNet then netError (signedOf 32 (s.reg Reg.TCK_OFFSET).toNat - s.time.measOfs) (s.rf F.RTC_MEASCTL_WIN) up
  else mainsError (if s.on F.RTC_MEASCTL_FNOM then 60 else 50) (s.time.measN - 1) (s.time.measLast - s.time.measFirst) up

/-- The window of the measurement that runs ends before the next base tick. -/
def State.measOver (s : State) : Bool :=
  s.on F.RTC_MEASCTL_BUSY && (s.measEnd ≤ s.count || !s.on F.TCK_STAT_RUN || Nat.blt s.measEnd s.nextTick)

/-- The window of a measurement ends (R68): its result goes to RTC_MEASRES with DONE and event 0x0405; automatic trim applies it and
measures again (R71). Mains of which no cycle was counted are out of range (R69). (DESIGN CHOICE, log 32) -/
def measurementDoneEff (s : State) : State :=
  if !s.measOver then s
  else
    let t := if s.count < s.measEnd then s.setCount s.measEnd else s
    if !t.measNet && t.time.measN < 2 then t.measFail 3
    else
      let e := t.measError (bitOf t.freeVal.toNat 0)
      let t := ((t.useFree.setReg Reg.RTC_MEASRES (wdInt e)).setF F.RTC_MEASCTL_DONE 1).setF F.RTC_MEASCTL_BUSY 0
      let t := t.report 0x0405 0 (wdInt e) 0 0
      if t.time.measAuto && t.autoTrim then (t.setTrim (clampInt (-268435) 268435 (t.trim - e)) 1).autoStart else t

/-- MEASUREMENT_DONE (R68). -/
def execMeasurementDone (s : State) : Host.Outcome State Fault Refusal := .next (measurementDoneEff s)

end Sys2Proof.Machine
end

