-- ==== Sys2Proof/Machine/Legacy.lean ====
section
/-! DEFINITION. CAN FD controllers, RS-485 ports, their configuration image, and the consumers of the queue pool
(chapter "CAN FD and RS-485 Ports"). -/

namespace Sys2Proof.Machine

/-! ## CAN frames (R586, R587) -/

/-- Data length of a DLC; above 8 only in FD frames (R579, R589). -/
def dlcLen (fdf : Bool) (dlc : Nat) : Nat :=
  if dlc ≤ 8 then dlc
  else if !fdf then 8
  else match dlc with
    | 9 => 12
    | 10 => 16
    | 11 => 20
    | 12 => 24
    | 13 => 32
    | 14 => 48
    | _ => 64

/-- Whether a length is a DLC length (R589). -/
def isDlcLen (n : Nat) : Bool := n ≤ 8 || [12, 16, 20, 24, 32, 48, 64].contains n

/-- The identifier of a frame, a base identifier in [28:18]. -/
def CanIn.ident (f : CanIn) : Nat := if f.ide then f.id.toNat else f.id.toNat / 2 ^ 18 * 2 ^ 18

/-- The data bytes of a received frame. -/
def CanIn.bytes (f : CanIn) : List Byte := if f.rtr then [] else f.data.take (dlcLen f.fdf f.dlc.toNat)

/-- A received frame as buffer `b` passes it on (R587). -/
def CanIn.frame (f : CanIn) (b : Nat) : List Byte :=
  let w0 := ofBool f.ide * 2 ^ 31 + ofBool f.rtr * 2 ^ 30 + ofBool f.fdf * 2 ^ 29 + f.ident
  let w1 := ofBool f.brs * 2 ^ 31 + ofBool f.esi * 2 ^ 30 + b * 2 ^ 24 + f.dlc.toNat * 2 ^ 20 + f.bytes.length
  wordsBytes [wd w0, wd w1, f.frac, f.sec] ++ f.bytes

/-- Whether buffer `b` of controller `k` accepts a frame (R586). -/
def State.accepts (s : State) (k b : Nat) (f : CanIn) : Bool :=
  let mode := s.rf (F.CAN_MBCFG_MODE k b)
  let mask := s.rf (F.CAN_MBMSK_MASK k b)
  (mode = 2 || mode = 3)
    && f.ident &&& mask = s.rf (F.CAN_MBCFG_ID k b) &&& mask
    && (!s.on (F.CAN_MBMSK_MIDE k b) || f.ide = s.on (F.CAN_MBCFG_IDE k b))
    && (!f.rtr || s.on (F.CAN_MBMSK_RTRA k b))

/-! ## Error state (R583) -/

/-- The host port that a source's HPSEL bit selects (R578). -/
def hpOf (sel : Bool) : HPort := if sel then .hp1 else .hp0

/-- A receive frame of controller `k` goes to its ring (R578). -/
def State.canDeliver (s : State) (k err : Nat) (data : List Byte) : State :=
  (s.toHost (hpOf (s.on (F.CAN_CTL_HPSEL k))) (s.rf (F.CAN_CTL_TAG k)) (mkPkt data (srcCode 4 k) err s.frameNo)).2

/-- The header word 1 of a frame held for a transmit buffer; the model keeps BUF in [29:24] of it. -/
def txWord (f : List Byte) : Word := wordAt f 1

/-- The buffer a frame is held for. -/
def txBuf (f : List Byte) : Nat := fieldOf (txWord f) 29 24

/-- A frame with TXC = 1 produces one receive frame: its header and a time (R591). -/
def State.txReport (s : State) (k err : Nat) (frac sec : Word) (f : List Byte) : State :=
  if fieldOf (txWord f) 30 30 = 1 then
    s.canDeliver k err (wordsBytes [wordAt f 0, withField (txWord f) 29 24 0, frac, sec])
  else s

/-- The report of a frame that is discarded now (R591). -/
def State.txDiscard (s : State) (k err : Nat) (f : List Byte) : State :=
  s.txReport k err s.time.frac (wd (s.now % 2 ^ 32)) f

/-- The loaded transmit buffers of a controller with their frames. -/
def State.loaded (s : State) (k : Nat) : List (Nat × List Byte) :=
  (List.range 64).filterMap (fun b =>
    match Store.get noBytes s.can.tx (mbKey k b) with
    | [] => none
    | f => some (b, f))

/-- Put a frame into a transmit buffer or, with no bytes, empty it. -/
def State.putTx (s : State) (k b : Nat) (f : List Byte) : State :=
  (s.setCan { s.can with tx := Store.put noBytes s.can.tx (mbKey k b) f }).setF (F.CAN_MBST_FULL k b) (ofBool (f != []))

/-- Remove the packets of a queue that a test selects; a pending flush keeps to the packets it covers. -/
def State.dropPkts (s : State) (q : Nat) (sel : Pkt → Bool) : State :=
  let n := s.flushLeft q
  let left := (((s.queue q).take n).filter (fun k => !sel k)).length
  let t := s.setQueue q ((s.queue q).filter (fun k => !sel k))
  let fl : List (Nat × Nat) := t.pool.flushing.map (fun e => if e.1 = q then (e.1, left) else e)
  { t with pool := { t.pool with flushing := fl } }

/-- Discard the frames held for the buffers that a test selects, in the buffers and in the transmit queue (R583, R598).
(DEDUCED, log 100) -/
def State.discardTx (s : State) (k err : Nat) (sel : Nat → Bool) : State :=
  let bufs := (s.loaded k).filter (fun e => sel e.1)
  let held := (s.queue (420 + k)).filter (fun p => sel (txBuf p.data))
  let t := bufs.foldl (fun t e => (t.putTx k e.1 []).txDiscard k err e.2) s
  held.foldl (fun t p => t.txDiscard k err p.data) (t.dropPkts (420 + k) (fun p => sel (txBuf p.data)))

/-- A controller changes its error state (R583, R599). -/
def State.setEst (s : State) (k est : Nat) : State :=
  if s.rf (F.CAN_STAT_EST k) = est then s
  else
    ((s.setF (F.CAN_STAT_EST k) est).raise Reg.CAN_GSTAT Reg.CAN_GIEN 20 k).report 0x1401 0 (wd k) (wd est)
      (wd (s.rf (F.CAN_ERRC_TEC k)))

/-- The receive error count, with RP as its bit 7 (R600). -/
def State.canRec (s : State) (k : Nat) : Nat := s.rf (F.CAN_ERRC_RP k) * 128 + s.rf (F.CAN_ERRC_REC k)

/-- Give the error counters their values, which saturate (R600). -/
def State.setCounts (s : State) (k tec rec : Nat) : State :=
  let r := min rec 255
  ((s.setF (F.CAN_ERRC_TEC k) (min tec 255)).setF (F.CAN_ERRC_RP k) (r / 128)).setF (F.CAN_ERRC_REC k) (r % 128)

/-- Entry to bus-off: every frame held is discarded, and recovery starts with AUTOREC = 1 (R583). -/
def State.busOff (s : State) (k : Nat) : State :=
  let n := (s.loaded k).length + (s.queue (420 + k)).length
  let t := s.setEst k 2
  let t := t.setCan { t.can with lost := Store.put natZero t.can.lost k n }
  let t := t.discardTx k 0x81 (fun _ => true)
  if t.on (F.CAN_CTL_AUTOREC k) then t.setEst k 3 else t

/-- The counters take new values and the error state follows them (R583). -/
def State.countErrors (s : State) (k tec rec : Nat) : State :=
  let t := s.setCounts k tec rec
  if 256 ≤ tec then t.busOff k
  else t.setEst k (if 128 ≤ tec || 128 ≤ rec then 1 else 0)

/-- A controller that takes part in the bus: fitted, enabled and neither bus-off nor recovering. -/
def State.canRuns (s : State) (k : Nat) : Bool :=
  !s.inReset 20 && s.on (F.CAN_CTL_EN k) && s.rf (F.CAN_STAT_EST k) < 2

/-- Whether the controller is in normal mode now (R584, R585). -/
def State.canNormal (s : State) (k : Nat) : Bool := s.rf (F.CAN_CTL_MODE k) = 0 && !s.on (F.CAN_STAT_MON k)

/-- Whether the controller is in restricted operation, in which TEC and REC do not change (R584). (DEDUCED, log 98) -/
def State.canRestricted (s : State) (k : Nat) : Bool := s.rf (F.CAN_CTL_MODE k) = 1 && !s.on (F.CAN_STAT_MON k)

/-- A detected error: the last error code, the counters and the state (R583, R584). (PRESUMED, log 95) -/
def State.canError (s : State) (k lec tec rec : Nat) : State :=
  let t := (s.setF (F.CAN_ERRC_LEC k) lec).addSat (F.CAN_ERRCNT_CNT k) 1
  if t.canRestricted k then t
  else t.countErrors k (t.rf (F.CAN_ERRC_TEC k) + tec) (t.canRec k + rec)

/-- CAN_BUS_ERROR (R583): the error and the increments that ISO 11898-1 gives it. -/
def canBusErrorEff (k : Fin 4) (lec : Fin 7) (tec rec : Nat) (s : State) : State :=
  if s.canRuns k && lec.val != 0 then s.canError k lec tec rec else s

/-- CAN_BUS_ERROR (R583). -/
def execCanBusError (k : Fin 4) (lec : Fin 7) (tec rec : Nat) (s : State) : Host.Outcome State Fault Refusal :=
  .next (canBusErrorEff k lec tec rec s)

/-- CAN_RECOVER (R583): a write of CAN_CMD.RECOVER in bus-off. -/
def State.canRecover (s : State) (k : Nat) : State := if s.rf (F.CAN_STAT_EST k) = 2 then s.setEst k 3 else s

/-- CAN_RECOVER (R583). -/
def canRecoverEff (x : HPort) (k : Fin 4) (s : State) : State := s.asWrite x 20 (s.canRecover k)

/-- CAN_RECOVER (R583). -/
def execCanRecover (x : HPort) (k : Fin 4) (s : State) : Host.Outcome State Fault Refusal := .next (canRecoverEff x k s)

/-- BUS_OFF_RECOVERY_COMPLETE (R583): 128 occurrences of 11 recessive bits. -/
def busOffRecoveryCompleteEff (k : Fin 4) (s : State) : State :=
  if s.rf (F.CAN_STAT_EST k) = 3 && !s.inReset 20 then
    ((s.setCounts k 0 0).setEst k 0).report 0x1402 0 (wd k) (wd (Store.get natZero s.can.lost k)) 0
  else s

/-- BUS_OFF_RECOVERY_COMPLETE (R583). -/
def execBusOffRecoveryComplete (k : Fin 4) (s : State) : Host.Outcome State Fault Refusal :=
  .next (busOffRecoveryCompleteEff k s)

/-! ## Reception and transmission (R586 to R591) -/

/-- A successful reception lowers REC; from above 127 it takes a value from 119 to 127, which ISO 11898-1 leaves open.
(PRESUMED, log 95; DESIGN CHOICE, log 96) -/
def State.goodReception (s : State) (k : Nat) : State :=
  let r := s.canRec k
  if s.canRestricted k then s
  else if 127 < r then s.useFree.countErrors k (s.rf (F.CAN_ERRC_TEC k)) (119 + s.freeVal.toNat % 9)
  else s.countErrors k (s.rf (F.CAN_ERRC_TEC k)) (r - 1)

/-- An accepted frame goes to its buffer (R586 to R588). -/
def State.takeFrame (s : State) (k b : Nat) (f : CanIn) : State :=
  let t := s.addSat (F.CAN_RXOK_CNT k) 1
  if t.rf (F.CAN_MBCFG_MODE k b) = 3 then t.toMailbox k b (f.frame b) else t.canDeliver k 0 (f.frame b)

/-- CAN_FRAME_RECEIVED (R586): the lowest accepting buffer takes the frame; one that no buffer accepts is discarded. -/
def canFrameReceivedEff (k : Fin 4) (f : CanIn) (s : State) : State :=
  if !s.canRuns k || (f.fdf && !s.on (F.CAN_CTL_FDEN k)) then s
  else
    let t := s.goodReception k
    match (List.range 64).find? (fun b => t.accepts k b f) with
    | some b => t.takeFrame k b f
    | none => t

/-- CAN_FRAME_RECEIVED (R586). -/
def execCanFrameReceived (k : Fin 4) (f : CanIn) (s : State) : Host.Outcome State Fault Refusal :=
  .next (canFrameReceivedEff k f s)

/-- The bits of a frame in the order in which arbitration compares them; the lower number wins. -/
def arbKey (f : List Byte) : Nat :=
  let w := wordAt f 0
  let id := fieldOf w 28 0
  let rtr := fieldOf w 30 30
  if fieldOf w 31 31 = 1 then id / 2 ^ 18 * 2 ^ 21 + 2 ^ 20 + 2 ^ 19 + id % 2 ^ 18 * 2 + rtr
  else id / 2 ^ 18 * 2 ^ 21 + rtr * 2 ^ 20

/-- The buffer offered first: best in arbitration, then lowest in number (R590). -/
def bestTx : List (Nat × List Byte) → Option (Nat × List Byte)
  | [] => none
  | e :: es =>
    match bestTx es with
    | none => some e
    | some g => if arbKey e.2 ≤ arbKey g.2 then some e else some g

/-- Whether the loop delay is measured in a frame (R582): an FD frame with BRS. -/
def State.measures (s : State) (k : Nat) (f : List Byte) : Bool :=
  s.on (F.CAN_CTL_TDCEN k) && fieldOf (wordAt f 0) 29 29 = 1 && fieldOf (txWord f) 31 31 = 1

/-- A delay that the secondary sample point cannot hold: TDCFLT, event 0x1404 and a bit error (R582).
(DESIGN CHOICE, log 97) -/
def State.delayFault (s : State) (k : Nat) : State :=
  let t := (s.setF (F.CAN_STAT_TDCFLT k) 1).report 0x1404 0 (wd k) (wd (s.rf (F.CAN_STAT_TDCV k))) (wd (s.rf (F.CAN_TDC_TDCO k)))
  t.useFree.canError k (4 + t.freeVal.toNat % 2) 8 0

/-- A frame has been transmitted (R590, R591). -/
def State.sentFrame (s : State) (k b : Nat) (frac sec : Word) (f : List Byte) : State :=
  let t := ((s.putTx k b []).addSat (F.CAN_TXOK_CNT k) 1).countErrors k (s.rf (F.CAN_ERRC_TEC k) - 1) (s.canRec k)
  t.txReport k 0x80 frac sec f

/-- CAN_FRAME_TRANSMITTED (R590, R591): SOF at `sec` and `frac`, and the loop delay in mtq of a frame that measures it. -/
def canFrameTransmittedEff (k : Fin 4) (frac sec : Word) (delay : Nat) (s : State) : State :=
  if !s.canRuns k || !s.canNormal k then s
  else
    match bestTx (s.loaded k) with
    | none => s
    | some (b, f) =>
      if s.measures k f then
        let t := s.setF (F.CAN_STAT_TDCV k) (min delay 127)
        if 127 < delay + t.rf (F.CAN_TDC_TDCO k) then t.delayFault k else t.sentFrame k b frac sec f
      else s.sentFrame k b frac sec f

/-- CAN_FRAME_TRANSMITTED (R591). -/
def execCanFrameTransmitted (k : Fin 4) (frac sec : Word) (delay : Nat) (s : State) : Host.Outcome State Fault Refusal :=
  .next (canFrameTransmittedEff k frac sec delay s)

/-- CAN_MODE_SWITCH (R585): 11 recessive bits after the module entered ACTIVE. (DEDUCED, log 98) -/
def canModeSwitchEff (k : Fin 4) (s : State) : State :=
  if s.active && !s.inReset 20 then s.setF (F.CAN_STAT_MON k) 0 else s

/-- CAN_MODE_SWITCH (R585). -/
def execCanModeSwitch (k : Fin 4) (s : State) : Host.Outcome State Fault Refusal := .next (canModeSwitchEff k s)

/-- The first offending field of a CAN_TX header, by its byte offset (R589). -/
def State.txHeaderBad (s : State) (k len : Nat) (bs : List Byte) : Option Nat :=
  let w0 := wordAt bs 0
  let w1 := wordAt bs 1
  let fdf := fieldOf w0 29 29 = 1
  let n := fieldOf w1 6 0
  if fdf && (!s.on (F.CAN_CTL_FDEN k) || fieldOf w0 30 30 = 1) then some 3
  else if fieldOf w1 29 7 != 0 || !isDlcLen n || (8 < n && !fdf) || len != 8 + n then some 4
  else if fieldOf w1 31 31 = 1 && !fdf then some 7
  else none

/-- CAN_TX's body (R578, R584, R589). (DEDUCED, log 100) -/
def canTxBody (x : HPort) (p : Part) (d : Desc) (s : State) (id : Nat) : CmdEnd :=
  let k := fieldOf d.w2 1 0
  let b := fieldOf d.w2 13 8
  let tag := s.rf (F.CAN_CTL_TAG k)
  let st := s.filterWrite p (some tag) 0 k
  if st != St.success then .refuse s 0 k st
  else if !s.active || !s.canRuns k || !s.canNormal k || s.rf (F.CAN_MBCFG_MODE k b) != 1 then .done s St.state 0 0
  else
    match s.dmaRead x p d.addr d.len with
    | (none, t) => .done t St.dmaError 0 0
    | (some bs, t) =>
      match t.txHeaderBad k d.len bs with
      | some o => .done t St.rejected (wd o) 0
      | none => CmdEnd.audited (t.stage x p id (420 + k)
          (bs.take 4 ++ wordBytes (withField (wordAt bs 1) 29 24 b) ++ bs.drop 8)) p tag 0 k 0x50

/-- CAN_TX (R589). -/
def canTxEff (x : HPort) (p : Part) (d : Desc) (s : State) : State :=
  s.command x p d (d.opcode = 0x50) (d.buf 0x3F03 0 0 0 (2 ^ 32)) true false (canTxBody x p d)

/-- CAN_TX (R589). -/
def execCanTx (x : HPort) (p : Part) (d : Desc) (s : State) : Host.Outcome State Fault Refusal := .next (canTxEff x p d s)

/-- The head frame of a CAN transmit queue passes into its buffer when that is empty; a buffer that no longer transmits
discards it (R590, R598). -/
def State.canLoad (s : State) (k : Nat) : State :=
  match s.queue (420 + k) with
  | [] => s
  | h :: _ =>
    let b := txBuf h.data
    let off := s.rf (F.CAN_MBCFG_MODE k b) != 1
    if !off && s.on (F.CAN_MBST_FULL k b) then s
    else
      match s.takePkt (420 + k) with
      | (none, t) => t
      | (some h, t) => if off then t.txDiscard k 0x82 h.data else t.putTx k b h.data

/-! ## RS-485 (R592 to R596) -/

/-- A status bit of the RS-485 ports. -/
def State.raiseSer (s : State) (bit : Nat) : State := s.raise Reg.SER_GSTAT Reg.SER_GIEN 21 bit

/-- SER_FRAME_END (R593): a frame with its first error and the time of its first start bit. While the port drives the line, what
it hears is not delivered (R594, R595). -/
def serFrameEndEff (j : Fin 8) (data : List Byte) (err : Fin 5) (frac sec : Word) (s : State) : State :=
  if s.inReset 21 || !s.on (F.SER_CTL_EN j) || s.on (F.SER_STAT_TXACT j) then s
  else
    let t := s.addSat (F.SER_RXFRM_CNT j) 1
    let t := if err.val = 0 then t else (t.addSat (F.SER_RXERR_CNT j) 1).raiseSer j
    let t := if err.val = 4 then (t.addSat (F.SER_TRUNC_CNT j) 1).report 0x1503 0 (wd j) 0 0 else t
    (t.toHost (hpOf (t.on (F.SER_CTL_HPSEL j))) (t.rf (F.SER_CTL_TAG j))
      (mkPkt (wordsBytes [frac, sec] ++ data.take 4096) (srcCode 5 j) err.val t.frameNo)).2

/-- SER_FRAME_END (R593). -/
def execSerFrameEnd (j : Fin 8) (data : List Byte) (err : Fin 5) (frac sec : Word) (s : State) :
    Host.Outcome State Fault Refusal := .next (serFrameEndEff j data err frac sec s)

/-- SER_BURST_START (R594): the line has been idle, and the next burst of queue 424 + p leaves with DE high.
(DEDUCED, log 103) -/
def serBurstStartEff (j : Fin 8) (s : State) : State :=
  if s.inReset 21 || !s.active || !s.on (F.SER_CTL_EN j) || s.on (F.SER_STAT_TXACT j) then s
  else
    match s.takePkt (424 + j) with
    | (none, t) => t
    | (some k, t) =>
      let t := t.setCan { t.can with burst := Store.put noBytes t.can.burst j k.data }
      (t.setF (F.SER_STAT_TXACT j) 1).emit (.serialBurst j k.data (!t.on (F.SER_CTL_ECHO j)))

/-- SER_BURST_START (R594). -/
def execSerBurstStart (j : Fin 8) (s : State) : Host.Outcome State Fault Refusal := .next (serBurstStartEff j s)

/-- SERp_DE goes low and the port hears the line again (R594). -/
def State.serRelease (s : State) (j : Nat) : State :=
  let t := s.setCan { s.can with burst := Store.put noBytes s.can.burst j [] }
  (t.setF (F.SER_STAT_TXACT j) 0).emit (.serialRelease j)

/-- SER_DRIVER_RELEASE (R594, R595): the burst is over; `bad` is the byte whose echo differed. -/
def serDriverReleaseEff (j : Fin 8) (bad : Option Nat) (s : State) : State :=
  if !s.on (F.SER_STAT_TXACT j) then s
  else
    let n := (Store.get noBytes s.can.burst j).length
    let t := s.addSat (F.SER_TXFRM_CNT j) 1
    let t := match bad with
      | some o =>
        if t.on (F.SER_CTL_ECHO j) && o < n then
          ((t.addSat (F.SER_ECHOERR_CNT j) 1).raiseSer (8 + j)).report 0x1502 0 (wd j) (wd o) 0
        else t
      | none => t
    t.serRelease j

/-- SER_DRIVER_RELEASE (R594). -/
def execSerDriverRelease (j : Fin 8) (bad : Option Nat) (s : State) : Host.Outcome State Fault Refusal :=
  .next (serDriverReleaseEff j bad s)

/-- SER_TX's body (R578, R594, R596). A port that is disabled takes no burst. -/
def serTxBody (x : HPort) (p : Part) (d : Desc) (s : State) (id : Nat) : CmdEnd :=
  let j := fieldOf d.w2 2 0
  let tag := s.rf (F.SER_CTL_TAG j)
  let st := s.filterWrite p (some tag) 0 j
  if st != St.success then .refuse s 0 j st
  else if !s.active then .done s St.state 0 0
  else
    match s.dmaRead x p d.addr d.len with
    | (none, t) => .done t St.dmaError 0 0
    | (some bs, t) => (t.stage x p id (424 + j) bs).audited p tag 0 j 0x51

/-- SER_TX (R594). -/
def serTxEff (x : HPort) (p : Part) (d : Desc) (s : State) : State :=
  s.command x p d (d.opcode = 0x51) (d.buf 7 0 0 1 4096) true false (serTxBody x p d)

/-- SER_TX (R594). -/
def execSerTx (x : HPort) (p : Part) (d : Desc) (s : State) : Host.Outcome State Fault Refusal := .next (serTxEff x p d s)

/-- What leaving ACTIVE does to the ports: bus monitoring on every enabled controller, and no SERp_DE high (R585, R596).
(DEDUCED, log 98) -/
def State.legacyStandby (s : State) : State :=
  let t := forUpto 4 s (fun k t => if t.on (F.CAN_CTL_EN k) then t.setF (F.CAN_STAT_MON k) 1 else t)
  forUpto 8 t (fun j t => if t.on (F.SER_STAT_TXACT j) then t.serRelease j else t)

/-! ## Configuration image (R597, R598) -/

/-- The register that word `i` of the image sets. -/
def legacyReg (i : Nat) : Nat :=
  if i < 528 then
    let k := i / 132
    match i % 132 with
    | 0 => Reg.CAN_CTL k
    | 1 => Reg.CAN_NBT k
    | 2 => Reg.CAN_DBT k
    | 3 => Reg.CAN_TDC k
    | j => if j % 2 = 0 then Reg.CAN_MBCFG k ((j - 4) / 2) else Reg.CAN_MBMSK k ((j - 4) / 2)
  else
    match (i - 528) % 3 with
    | 0 => Reg.SER_CTL ((i - 528) / 3)
    | 1 => Reg.SER_FMT ((i - 528) / 3)
    | _ => Reg.SER_TIM ((i - 528) / 3)

/-- Length of a nominal bit in mtq (R580); a timing field holds its value minus 1. -/
def nominalBit (w : Word) : Nat := (fieldOf w 31 24 + 1) * (1 + (fieldOf w 23 16 + 1) + (fieldOf w 14 8 + 1))

/-- Length of a data bit in mtq (R580). -/
def dataBit (w : Word) : Nat := (fieldOf w 28 24 + 1) * (1 + (fieldOf w 20 16 + 1) + (fieldOf w 11 8 + 1))

/-- Whether word `i` of the image offends against R597. (DEDUCED, log 99) -/
def legacyBad (ws : List Word) (i : Nat) : Bool :=
  let v := ws.getD i 0
  !wordOk (legacyReg i) v
    || (if i < 528 then
          match i % 132 with
          | 0 => (fieldOf v 19 19 = 1 && nominalBit (ws.getD (i + 1) 0) < 640)
              || (fieldOf v 16 16 = 1 && 1 < fieldOf (ws.getD (i + 2) 0) 28 24)
          | 1 => nominalBit v < 80
          | 2 => dataBit v < 10
          | _ => false
        else (i - 528) % 3 = 1 && fieldOf v 31 12 < 33)

/-- The CAN and RS-485 configuration image (R597). -/
def legacyBody (ws : List Word) (s : State) (_id : Nat) : CmdEnd :=
  match (List.range 552).find? (legacyBad ws) with
  | some i => rejected s (wd i) 0
  | none => accepted (s.setCan { s.can with img := some ws, imgPend := ws, left := List.range 12 })

/-- CFG_LOAD of a CAN and RS-485 configuration (R597). -/
def cfgLoadCanRs485ConfigurationEff (x : HPort) (p : Part) (d : Desc) (s : State) : State :=
  s.cfgLoad x p d 0x0A (d.len = 2208) true legacyBody

/-- CFG_LOAD_CAN_RS485_CONFIGURATION (R597). -/
def execCfgLoadCanRs485Configuration (x : HPort) (p : Part) (d : Desc) (s : State) : Host.Outcome State Fault Refusal :=
  .next (cfgLoadCanRs485ConfigurationEff x p d s)

/-- Write the image words from `i` on into their registers. -/
def State.legacyRegs (s : State) (ws : List Word) (i n : Nat) : State :=
  forUpto n s (fun j t => t.setReg (legacyReg (i + j)) (ws.getD (i + j) 0))

/-- A buffer whose mode changes starts empty, without flags and locks. (DEDUCED, log 100) -/
def State.clearBuffer (s : State) (k b : Nat) : State :=
  let t := s.setCan { s.can with
    locks := s.can.locks.filter (fun l => !(l.2.1 = k && l.2.2 = b))
    cur := Store.put noBytes s.can.cur (mbKey k b) []
    shadow := Store.put noBytes s.can.shadow (mbKey k b) [] }
  t.setReg (Reg.CAN_MBST k b) 0

/-- A controller takes its part of the image (R598). -/
def State.applyController (s : State) (ws : List Word) (k : Nat) : State :=
  let mode (b : Nat) : Nat := fieldOf (ws.getD (132 * k + 4 + 2 * b) 0) 31 30
  let t := s.discardTx k 0x82 (fun b => mode b != 1)
  let t := forUpto 64 t (fun b t => if t.rf (F.CAN_MBCFG_MODE k b) = mode b then t else t.clearBuffer k b)
  let t := t.legacyRegs ws (132 * k) 132
  t.setF (F.CAN_STAT_MON k) (ofBool (t.on (F.CAN_CTL_EN k) && !t.active))

/-- A unit, controller or port, takes its part of the image (R598). -/
def State.applyLegacy (s : State) (u : Nat) : State :=
  let ws := s.can.imgPend
  let t := s.setCan { s.can with left := s.can.left.filter (fun v => v != u) }
  if u < 4 then t.applyController ws u else t.legacyRegs ws (528 + 3 * (u - 4)) 3

/-- LEGACY_CONFIGURATION_APPLY (R598): unit `u` (controllers 0 to 3, ports 4 to 11) is idle. -/
def legacyConfigurationApplyEff (u : Fin 12) (s : State) : State :=
  if s.can.left.contains u.val && !(4 ≤ u.val && s.on (F.SER_STAT_TXACT (u.val - 4))) then s.applyLegacy u else s

/-- LEGACY_CONFIGURATION_APPLY (R598). -/
def execLegacyConfigurationApply (u : Fin 12) (s : State) : Host.Outcome State Fault Refusal :=
  .next (legacyConfigurationApplyEff u s)

/-- At a start the stored image is loaded before the first frame (R598). -/
def State.startLegacy (s : State) : State :=
  match s.can.img with
  | none => s
  | some ws => forUpto 12 (s.setCan { s.can with imgPend := ws }) (fun u t => t.applyLegacy u)

/-! ## The consumers of the pool (R185) -/

/-- PACKET_READ (R185): the consumer of queue `q` reads its head packet. The update chain and the RS-485 ports read theirs
with commands of their own. -/
def packetReadEff (q : Fin 1024) (s : State) : State :=
  if q.val < 256 then s.deliverHead (if q.val < 128 then .hp0 else .hp1) (q.val % 128)
  else if 512 ≤ q.val && q.val < 768 then s.moveStaged q 1
  else if q.val = 418 || (424 ≤ q.val && q.val < 432) then s
  else if 420 ≤ q.val && q.val < 424 then s.canLoad (q.val - 420)
  else
    match s.takePkt q with
    | (none, t) => t
    | (some k, t) => if pointQueue q then t.toInbox q k else t.emit (.packet q k.data)

/-- PACKET_READ (R185). -/
def execPacketRead (q : Fin 1024) (s : State) : Host.Outcome State Fault Refusal := .next (packetReadEff q s)

end Sys2Proof.Machine
end

