-- ==== Sys2Proof/Machine/Island.lean ====
section
/-! DEFINITION. The safety island: its parameter set, its two channels' cycles, safety messages, brake tests, lock-out and
local reset, and what the controller does for it (chapter "Serac Safety Island"). -/

namespace Sys2Proof.Machine

/-- Replace the island. -/
def State.setSaf (s : State) (v : SafSt) : State := { s with saf := v }

/-- The island is fitted (R430). -/
def State.hasIsland (s : State) : Bool := !s.variant.lacks 15

/-- A channel of the island. -/
def State.chan (s : State) : SafCh → SafChan
  | .x => s.saf.x
  | .y => s.saf.y

/-- Replace a channel. -/
def State.setChan (s : State) (c : SafCh) (v : SafChan) : State :=
  match c with
  | .x => s.setSaf { s.saf with x := v }
  | .y => s.setSaf { s.saf with y := v }

/-- The other channel. -/
def SafCh.other : SafCh → SafCh
  | .x => .y
  | .y => .x

/-- Replace the non-volatile memory. -/
def State.setSafKept (s : State) (k : SafKept) : State := s.setSaf { s.saf with kept := k }

/-! ## The parameter set (R462) -/

/-- Word `i` of the stored set. -/
def State.setWord (s : State) (i : Nat) : Word := s.saf.kept.set.getD i 0
/-- Safe input `n` is enabled. -/
def State.inEn (s : State) (n : Nat) : Bool := fieldOf (s.setWord (2 + n)) 31 31 = 1
/-- Word `w` of brake channel `k`. -/
def State.brkWord (s : State) (k w : Nat) : Word := s.setWord (18 + 8 * k + w)
/-- Brake channel `k` is enabled. -/
def State.brkEn (s : State) (k : Nat) : Bool := fieldOf (s.brkWord k 0) 31 31 = 1
/-- Brake channel `k` has brake tests: BT of SW_SOPT and BTEN (R453, R459). -/
def State.brkTested (s : State) (k : Nat) : Bool :=
  s.brkEn k && fieldOf (s.brkWord k 0) 29 29 = 1 && (match s.saf.kept.sw with
    | some w => bitOf w.2 0
    | none => false)
/-- Receive stream `j` is enabled. -/
def State.rxEn (s : State) (j : Nat) : Bool := fieldOf (s.setWord (82 + 2 * j)) 31 31 = 1
/-- Transmit stream `j` is enabled. -/
def State.txEn (s : State) (j : Nat) : Bool := fieldOf (s.setWord (114 + 2 * j)) 31 31 = 1
/-- BTINT of a channel in ms. -/
def State.btInt (s : State) (k : Nat) : Nat := fieldOf (s.brkWord k 6) 31 24 * 3600000
/-- The degraded time class (R459). -/
def State.degClass (s : State) : Nat :=
  match s.saf.kept.sw with
  | some w => w.2 / 2 % 4
  | none => 0
/-- The full degraded time in ms (R451). -/
def degTime : Nat → Nat
  | 1 => 60000
  | 2 => 600000
  | 3 => 1800000
  | _ => 0

/-- The CRC of the stored set, as word 122 holds it. -/
def State.safCrc (s : State) : Word := s.setWord 122

/-- The stored set is there, its CRC is good, and it expects the switch values (R457 cause 0x11, R459). -/
def State.setMatches (s : State) (sw : Nat × Nat) : Bool :=
  let ws := s.saf.kept.set
  ws.length = 123 && crc32Words (ws.take 122) = s.safCrc && fieldOf (s.setWord 1) 31 16 = sw.1
    && fieldOf (s.setWord 1) 15 8 = sw.2 % 128 && sw.2 / 8 % 16 = 0

/-! ## Views for the host (R473, R474) -/

/-- A receive stream. -/
def State.stream (s : State) (j : Nat) : SafStream := Store.get SafStream.dflt s.saf.streams j

/-- Replace a receive stream. -/
def State.setStream (s : State) (j : Nat) (v : SafStream) : State :=
  s.setSaf { s.saf with streams := Store.put SafStream.dflt s.saf.streams j v }

/-- Both channels drive their switches of channel `k`. -/
def State.brakeOn (s : State) (k : Nat) : Bool := bitOf s.saf.x.gates k && bitOf s.saf.y.gates k

/-- Channels on and their permissions, as both channels agree on them. -/
def State.onBits (s : State) : Nat := s.saf.x.gates &&& s.saf.y.gates
/-- Permissions, as both channels agree on them. -/
def State.permBits (s : State) : Nat := s.saf.x.perm &&& s.saf.y.perm
/-- Input states, as both channels agree on them. -/
def State.inBits (s : State) : Nat := s.saf.x.states &&& s.saf.y.states
/-- The island is locked out. -/
def State.safLocked (s : State) : Bool := s.saf.x.locked || s.saf.y.locked
/-- Degraded streams. -/
def State.degraded (s : State) : List Nat := (List.range 16).filter (fun j => (s.stream j).degr)
/-- SAF_OEACT as both channels see it. -/
def State.oeact (s : State) : Bool := s.saf.x.oe && s.saf.y.oe
/-- The phase of a channel's brake test. -/
def State.brakeTest (s : State) (k : Nat) : Nat := Store.get natZero s.saf.test k

/-- The bits of two words of two fields. -/
def pack (hi : Nat) (v : Nat) : Nat := v * 2 ^ hi

/-- SAF_STAT as the island gives it. -/
def State.safStat (s : State) : Word :=
  let now := match s.saf.x.seen with
    | some v => bitOf v.sopt.toNat 7
    | none => false
  wd (pack 31 (ofBool s.saf.link) + pack 30 (ofBool s.oeact) + pack 29 (ofBool s.safLocked) + pack 28 (ofBool (s.degraded != []))
    + pack 27 (ofBool now) + pack 26 (s.rf F.SAF_STAT_PARAMOK) + pack 25 (ofBool s.saf.selfTest)
    + pack 24 (ofBool s.saf.reqDrop) + pack 8 s.onBits + s.permBits)

/-- SAF_BRK of a channel. Off and waiting for an edge is shown while only the request edge is missing (R474). -/
def State.safBrk (s : State) (k : Nat) : Word :=
  let ready := bitOf s.permBits k && !s.safLocked && s.oeact && s.degraded = [] && !s.saf.warn
  let st := if s.brakeTest k != 0 then 2 else if s.brakeOn k then 1 else if ready then 3 else 0
  match s.saf.x.seen with
  | some v => wd (pack 30 st + pack 29 (ofBool (bitOf s.saf.req k)) + pack 28 (ofBool (bitOf v.hsrb.toNat k))
      + pack 27 (ofBool (bitOf v.lsrb.toNat k)) + pack 26 (ofBool (bitOf s.saf.openW k)) + min (v.isns.getD k 0) 4095)
  | none => wd (pack 30 st + pack 29 (ofBool (bitOf s.saf.req k)) + pack 26 (ofBool (bitOf s.saf.openW k)))

/-- SAF_BTST of a channel. -/
def State.safBtst (s : State) (k : Nat) : Word :=
  wd (pack 30 (Store.get natZero s.saf.last k) + pack 29 (ofBool (bitOf s.saf.due k)) + pack 28 (ofBool (s.brakeTest k != 0))
    + pack 16 (min (Store.get natZero s.saf.edges k) 4095) + min (Store.get natZero s.saf.elapsed k / 3600000) 65535)

/-- SAF_RXS of a stream. -/
def State.safRxs (s : State) (j : Nat) : Word :=
  let v := s.stream j
  wd (pack 31 (ofBool (s.rxEn j)) + pack 30 (ofBool v.okA) + pack 29 (ofBool v.okB) + pack 28 (ofBool v.degr)
    + pack 24 (min v.miss 3) + fieldOf (s.setWord (82 + 2 * j)) 15 0)

/-- A transmit stream. -/
def State.safTx (s : State) (j : Nat) : SafTx := Store.get SafTx.dflt s.saf.tx j

/-- SAF_TXS of a stream. -/
def State.safTxs (s : State) (j : Nat) : Word :=
  let w := s.setWord (114 + 2 * j)
  wd (pack 31 (ofBool (s.txEn j)) + pack 30 (ofBool (s.safTx j).started) + pack 16 (fieldOf w 23 16) + fieldOf w 15 0)

/-- SAF_DEGR. -/
def State.safDegr (s : State) : Word :=
  match s.degraded with
  | j :: _ => wd (pack 16 (s.saf.x.rem / 1000) + pack 12 j + pack 11 (ofBool (s.stream j).degrB) + s.degClass)
  | [] => wd (pack 16 (s.saf.x.rem / 1000) + s.degClass)

/-- A pair of switch values in the form of SAF_SW. -/
def swWord (w : Nat × Nat) : Word := wd (pack 16 w.1 + pack 8 w.2)

/-- The switch values in force, 0 before the first start. -/
def State.swForce (s : State) : Nat × Nat := s.saf.kept.sw.getD (0, 0)

/-- The switches as read now. -/
def State.swNow (s : State) : Nat × Nat :=
  match s.saf.x.seen with
  | some v => (v.saddr.toNat, v.sopt.toNat)
  | none => s.swForce

/-- SAF_LOCK (R473). -/
def State.safLockWord (s : State) : Word := wd (pack 8 s.saf.kept.causes + s.saf.kept.first)

/-- Contacts that disagree about an input's state now. -/
def State.discNow (s : State) (c : SafCh) : Nat :=
  (List.range 16).foldl (fun a n => a + ofBool (Store.get natZero (s.chan c).disc n != 0) * 2 ^ n) 0

/-- The module fills the SAF registers from the island; a change of SAF_STAT [29:24] signals the unit vector (R471). -/
def State.safShow (s : State) : State :=
  if !s.hasIsland || s.inReset 15 then s
  else
    let old := s.rf ⟨Reg.SAF_STAT, 29, 24⟩
    let t := s.setReg Reg.SAF_STAT s.safStat
    let t := (t.setReg Reg.SAF_LOCK s.safLockWord).setReg Reg.SAF_SW (swWord s.swForce)
    let t := (t.setReg Reg.SAF_SWNOW (swWord s.swNow)).setReg Reg.SAF_PCRC s.safCrc
    let t := (t.setReg Reg.SAF_DEGR s.safDegr).setReg Reg.SAF_SIN (wd (pack 16 (s.discNow .x ||| s.discNow .y) + s.inBits))
    let t := forUpto 8 t (fun k t => (t.setReg (Reg.SAF_BRK k) (s.safBrk k)).setReg (Reg.SAF_BTST k) (s.safBtst k))
    let t := forUpto 16 t (fun j t => (t.setReg (Reg.SAF_RXS j) (s.safRxs j)).setReg (Reg.SAF_RXSEQ j) (wd (s.stream j).seq))
    let t := forUpto 4 t (fun j t => (t.setReg (Reg.SAF_TXS j) (s.safTxs j)).setReg (Reg.SAF_TXSEQ j)
      (wd (if (s.safTx j).started then (s.safTx j).seq + 2 ^ 32 - 1 else 0)))
    if t.rf ⟨Reg.SAF_STAT, 29, 24⟩ != old then t.signalUnit 15 else t

/-- An event of the island: partition 0, and the unit vector (R471). -/
def State.safEvent (s : State) (code : Nat) (p1 p2 p3 : Word) : State := (s.report code 0 p1 p2 p3).signalUnit 15

/-! ## Lock-out (R435, R456) -/

/-- Drive a channel's gate signals. -/
def State.setGates (s : State) (c : SafCh) (g : Nat) : State :=
  let old := (s.chan c).gates
  let t := s.setChan c { s.chan c with gates := g }
  forUpto 8 t (fun k t => if bitOf old k = bitOf g k then t else t.emit (.gate c k (bitOf g k)))

/-- A channel in lock-out switches every switch off. -/
def State.lockChan (s : State) (c : SafCh) : State :=
  (s.setChan c { s.chan c with locked := true, told := false }).setGates c 0

/-- A brake test of channel `k` ends (R453): 1 passed, 2 failed, 3 aborted; the event's result is one less. A test that ends before
its window has counted nothing. (DEDUCED, log 185) -/
def State.endTest (s : State) (k res : Nat) : State :=
  let n (h : SafChan) : Nat := if s.brakeTest k = 2 then Store.get natZero h.enc k else 0
  let ex := n s.saf.x
  let ey := n s.saf.y
  let t := s.setSaf { s.saf with
    test := Store.put natZero s.saf.test k 0
    last := Store.put natZero s.saf.last k res
    edges := Store.put natZero s.saf.edges k (max ex ey) }
  t.safEvent 0x0F05 (wd k) (wd (res - 1)) (wd (pack 16 (min ex 65535) + min ey 65535))

/-- Running tests end without result (R453, R455, R464). -/
def State.abortTests (s : State) : State := forUpto 8 s (fun k t => if t.brakeTest k = 0 then t else t.endTest k 3)

/-- The object that a cause concerns is remembered for its way out of lock-out (R457). -/
def State.markCause (s : State) (cause obj : Nat) : State :=
  let k := s.saf.kept
  if cause = 0x03 then
    s.setSafKept { k with discIn := withBit k.discIn obj true, demA := withBit k.demA obj false, demB := withBit k.demB obj false }
  else if cause = 0x04 then
    s.setSafKept { k with pulseIn := withBit k.pulseIn obj true, folA := withBit k.folA obj false, folB := withBit k.folB obj false }
  else if cause = 0x0E then s.setSafKept { k with failedK := withBit k.failedK obj true }
  else if cause = 0x0F then s.setSafKept { k with overdueK := withBit k.overdueK obj true }
  else s

/-- Causes 0x01, 0x02 and 0x15 are faults of the island itself (R466). -/
def ownFault (cause : Nat) : Bool := cause = 0x01 || cause = 0x02 || cause = 0x15

/-- A cause is recorded: FIRST, CAUSES, event 0x0F01 when it was not pending, and REQDROP on the island of the active twin. -/
def State.safCause (s : State) (cause obj : Nat) : State :=
  let t := s.markCause cause obj
  let t := if cause = 0x0E || cause = 0x0F then t else t.abortTests
  let t := if ownFault cause && (t.saf.x.oe || t.saf.y.oe) then t.setSaf { t.saf with reqDrop := true } else t
  let k := t.saf.kept
  if bitOf k.causes (cause - 1) then t
  else
    let t := t.setSafKept { k with causes := withBit k.causes (cause - 1) true, first := if k.first = 0 then cause else k.first }
    t.safEvent 0x0F01 (wd cause) (wd obj) (wd t.saf.kept.causes)

/-- One channel detects a fault: it acts at once, the other channel in its next cycle (R456). -/
def State.faultBy (s : State) (c : SafCh) (cause obj : Nat) : State :=
  let t := (s.safCause cause obj).lockChan c
  let o := t.chan c.other
  t.setChan c.other { o with told := o.told || !o.locked }

/-- Both channels detect a fault. -/
def State.faultBoth (s : State) (cause obj : Nat) : State := ((s.safCause cause obj).lockChan .x).lockChan .y

/-- Causes 0x11 to 0x13 for switch values in force (R457, R459, R460). -/
def State.checkSwitches (s : State) (sw : Nat × Nat) : State :=
  let t := if s.setMatches sw then s else s.faultBoth 0x11 0xFF
  let t := if bitOf sw.2 7 then t.faultBoth 0x12 0xFF else t
  if sw.1 = 0 || sw.1 = 0xFFFF then t.faultBoth 0x13 0xFF else t

/-! ## Safe inputs and permissions (R438, R440, R443) -/

/-- A contact's filter: the state in force and the cycles a change has been stable. -/
def filterContact (raw old : Bool) (n filt : Nat) : Bool × Nat :=
  if raw = old then (old, 0) else if filt ≤ n then (raw, 0) else (old, n + 1)

/-- Whether contact A or B shows healthy (R438). -/
def healthyA (closed : Bool) : Bool := closed
/-- Contact B of an antivalent input is healthy when open. -/
def healthyB (antivalent closed : Bool) : Bool := if antivalent then !closed else closed

/-- Take input `n` of a channel's cycle: filters, state, disagreement (R438, R440). -/
def State.takeInput (s : State) (c : SafCh) (v : SafView) (n : Nat) : State :=
  if !s.inEn n then s
  else
    let w := s.setWord (2 + n)
    let h := s.chan c
    let filt := fieldOf w 28 24
    let (a, na) := filterContact (bitOf v.sinA.toNat n) (bitOf h.ca n) (Store.get natZero h.stable n) filt
    let (b, nb) := filterContact (bitOf v.sinB.toNat n) (bitOf h.cb n) (Store.get natZero h.stable (16 + n)) filt
    let ha := healthyA a
    let hb := healthyB (fieldOf w 30 30 = 1) b
    let d := if ha = hb then 0 else Store.get natZero h.disc n + 1
    let t := s.setChan c { h with
      ca := withBit h.ca n a
      cb := withBit h.cb n b
      stable := Store.put natZero (Store.put natZero h.stable n na) (16 + n) nb
      disc := Store.put natZero h.disc n d
      states := withBit h.states n (ha && hb) }
    let k := t.saf.kept
    let t := if bitOf k.discIn n then
        t.setSafKept { k with demA := withBit k.demA n (bitOf k.demA n || !ha), demB := withBit k.demB n (bitOf k.demB n || !hb) }
      else t
    if fieldOf w 23 16 * 10 < d then t.faultBy c 0x03 n else t

/-- A message reference: stream and bit; it is 1 only for an enabled stream that has delivered a compared pair (R443). -/
def State.refBit (s : State) (r : Nat) : Bool :=
  let j := r / 2 ^ 11 % 16
  s.rxEn j && (s.stream j).compared && bitOf (s.stream j).bits (r % 512)

/-- The four references of a brake channel that are valid. -/
def State.brkRefs (s : State) (k : Nat) : List Nat :=
  [fieldOf (s.brkWord k 2) 15 0, fieldOf (s.brkWord k 2) 31 16, fieldOf (s.brkWord k 3) 15 0, fieldOf (s.brkWord k 3) 31 16].filter
    (fun r => bitOf r 15)

/-- The permission of brake channel `k` as a channel sees it (R443). -/
def State.permission (s : State) (c : SafCh) (k : Nat) : Bool :=
  let mask := fieldOf (s.brkWord k 1) 31 16
  s.brkEn k && (s.chan c).states &&& mask = mask && (s.brkRefs k).all s.refBit

/-! ## The cycle (R432 to R436) -/

/-- Count consecutive cycles with a condition. -/
def countWhile (m : Store Nat) (i : Nat) (b : Bool) : Nat := if b then Store.get natZero m i + 1 else 0

/-- Readback and current supervision of brake channel `k` (R436): an over-current switches both switches off at once. -/
def State.superviseBrake (s : State) (c : SafCh) (v : SafView) (k : Nat) : State :=
  if !s.brkEn k || !(s.chan c).oe then s
  else
    let h := s.chan c
    let cur := v.isns.getD k 0
    let hs := countWhile h.badRb (2 * k) (bitOf v.hsrb.toNat k && !bitOf s.saf.x.gates k)
    let ls := countWhile h.badRb (2 * k + 1) (bitOf v.lsrb.toNat k && !bitOf s.saf.y.gates k)
    let hi := countWhile h.high k (fieldOf (s.brkWord k 5) 31 16 < cur)
    let imin := fieldOf (s.brkWord k 5) 15 0
    let lowNow := imin != 0 && cur < imin && s.brakeOn k
    let lo := countWhile h.low k lowNow
    let t := s.setChan c { h with
      badRb := Store.put natZero (Store.put natZero h.badRb (2 * k) hs) (2 * k + 1) ls
      high := Store.put natZero h.high k hi
      low := Store.put natZero h.low k (min lo 100) }
    let t := if lowNow then t else t.setSaf { t.saf with openW := withBit t.saf.openW k false }
    if 2 ≤ hs || 2 ≤ ls then t.faultBy c 0x05 k
    else if 3 ≤ hi then t.faultBoth 0x06 k
    else if 100 ≤ lo then
      if fieldOf (s.brkWord k 0) 30 30 = 1 then t.faultBy c 0x07 k
      else if bitOf t.saf.openW k then t
      else (t.setSaf { t.saf with openW := withBit t.saf.openW k true }).safEvent 0x0F0A (wd k) (wd cur) 0
    else t

/-- What a channel may drive in this cycle (R434, R444, R451): a channel stays on while every condition holds, and comes on at
a rising request edge while it is not degraded. -/
def State.decide (s : State) (c : SafCh) (k : Nat) : Bool :=
  let h := s.chan c
  let req := bitOf s.saf.req k
  let hold := !h.locked && bitOf h.perm k && req && s.brakeTest k = 0 && h.oe && !s.saf.warn
  hold && (bitOf h.gates k || (!bitOf h.prevReq k && s.degraded = []))

/-- Whether two channels' last views and decisions differ (R433). (DEDUCED, log 65) -/
def State.viewsDiffer (s : State) : Bool :=
  s.saf.x.states != s.saf.y.states || s.saf.x.gates != s.saf.y.gates || s.saf.x.ca != s.saf.y.ca || s.saf.x.cb != s.saf.y.cb
    || (match s.saf.x.seen, s.saf.y.seen with
      | some a, some b => a.saddr != b.saddr || a.sopt != b.sopt || a.oe != b.oe || a.hsrb != b.hsrb || a.lsrb != b.lsrb
        || a.srA != b.srA || a.srB != b.srB
      | _, _ => false)

/-- Switch channels on that were held ready in shadow for the last 100 ms (R465). -/
def State.oeRise (s : State) (c : SafCh) : State :=
  let h := s.chan c
  if h.oe then s
  else
    let ready := (List.range 8).foldl (fun a k => a + ofBool (100 ≤ Store.get natZero h.held k && !h.locked && s.brakeTest k = 0
      && s.degraded = [] && !s.saf.warn) * 2 ^ k) 0
    (s.setChan c { h with oe := true }).setGates c ready

/-- Elapsed hours count in the cycles of channel X, and are stored once per minute (R455). -/
def State.countHours (s : State) : State :=
  forUpto 8 s (fun k t =>
    if !t.brkTested k then t
    else
      let n := Store.get natZero t.saf.elapsed k + 1
      let t := t.setSaf { t.saf with elapsed := Store.put natZero t.saf.elapsed k n }
      if n % 60000 = 0 then t.setSafKept { t.saf.kept with hours := Store.put natZero t.saf.kept.hours k n } else t)

/-- Count the time that both LANs have been good, and the degraded timer of a channel (R451, R452). -/
def State.countDegraded (s : State) (c : SafCh) : State :=
  let bad := (List.range 16).any (fun j => s.rxEn j && (!(s.stream j).okA || !(s.stream j).okB))
  let t := if c = .x then s.setSaf { s.saf with good := if bad then 0 else s.saf.good + 1 } else s
  if s.degraded = [] then t
  else t.setChan c { t.chan c with rem := (t.chan c).rem - 1 }

/-- The switch bank (R460): a changed reading gives fault 0x10 and event 0x0F08, the programming position cause 0x12. -/
def State.watchSwitches (s : State) (c : SafCh) (v : SafView) : State :=
  let now := (v.saddr.toNat, v.sopt.toNat)
  let was := match (s.chan c).seen with
    | some w => some (w.saddr.toNat, w.sopt.toNat)
    | none => none
  let t := if now = s.swForce then s
    else
      let t := s.faultBy c 0x10 0xFF
      if was = some now || c = .y then t else t.safEvent 0x0F08 (swWord now) (swWord s.swForce) 0
  if bitOf now.2 7 then t.faultBy c 0x12 0xFF else t

/-- Steps 1 to 3 of a cycle. -/
def State.cycleChecks (s : State) (c : SafCh) (v : SafView) : State :=
  let t := forUpto 16 s (fun n t => t.takeInput c v n)
  let t := t.setChan c { t.chan c with perm := (List.range 8).foldl (fun a k => a + ofBool (t.permission c k) * 2 ^ k) 0 }
  let t := t.watchSwitches c v
  let h := t.chan c
  let sr := if v.srA != v.srB then h.srDiff + 1 else 0
  let silent := if v.report then 0 else h.silent + 1
  let differ := if t.viewsDiffer then h.differ + 1 else 0
  let enc := (List.range 8).foldl (fun m k => if t.brakeTest k = 2
    then Store.put natZero m k (Store.get natZero m k + v.enc.getD k 0) else m) h.enc
  let t := t.setChan c { h with srDiff := sr, silent := silent, differ := differ, enc := enc }
  let t := forUpto 8 t (fun k t => t.superviseBrake c v k)
  let t := if 50 < sr then t.faultBy c 0x14 0xFF else t
  let t := if v.diag then t.faultBy c 0x02 0xFF else t
  if 2 ≤ silent || 3 ≤ differ then t.faultBy c 0x01 0xFF else t

/-- A channel's cycle of 1 ms (R432). (DEDUCED, log 65) -/
def safetyCycleEff (c : SafCh) (v : SafView) (s : State) : State :=
  if !s.hasIsland || !s.saf.run || s.saf.selfTest then s
  else
    let t := if (s.chan c).told then s.lockChan c else s
    let t := if v.oe then t.oeRise c
      else (if (t.chan c).oe then t.abortTests else t).setChan c { t.chan c with oe := false }
    let t := if v.oe then t else
      forUpto 4 t (fun j t => t.setSaf { t.saf with tx := Store.put SafTx.dflt t.saf.tx j (SafTx.dflt j) })
    let t := t.cycleChecks c v
    let g := (List.range 8).foldl (fun a k => a + ofBool (t.decide c k) * 2 ^ k) 0
    let t := t.setGates c (if (t.chan c).locked then 0 else g)
    let h := t.chan c
    let held := (List.range 8).foldl (fun m k =>
      Store.put natZero m k (if bitOf h.perm k && bitOf t.saf.req k then min 100 (Store.get natZero m k + 1) else 0)) h.held
    let t := t.setChan c { h with prevReq := t.saf.req, held := held, seen := some v }
    let t := t.countDegraded c
    (if c = .x then t.countHours else t).safShow

/-- SAFETY_CYCLE (R432). -/
def execSafetyCycle (c : SafCh) (v : SafView) (s : State) : Host.Outcome State Fault Refusal := .next (safetyCycleEff c v s)

/-- A test pulse of one switch (R436): `fell` says that the readback went to 0 within the pulse, `rose` that it was 1 again
within 200 µs after it. -/
def switchTestPulseEff (c : SafCh) (k : Fin 8) (fell rose : Bool) (s : State) : State :=
  if !s.hasIsland || !s.brakeOn k || !(s.chan c).oe then s
  else
    let t := (s.emit (.gate c k false)).emit (.gate c k true)
    (if fell && rose then t else t.faultBy c 0x05 k).safShow

/-- SWITCH_TEST_PULSE (R436). -/
def execSwitchTestPulse (c : SafCh) (k : Fin 8) (fell rose : Bool) (s : State) : Host.Outcome State Fault Refusal :=
  .next (switchTestPulseEff c k fell rose s)

/-- Judge one closed contact against a pulse: contact 0 must follow STP_X and ignore STP_Y, contact 1 the other way round
(R439). `open` says that it read open during the pulse. -/
def State.judgePulse (s : State) (c stp : SafCh) (n contact : Nat) (wentOpen : Bool) : State :=
  let h := s.chan c
  let closed := bitOf (if contact = 0 then h.ca else h.cb) n
  let own : Bool := (contact = 0) = (stp = .x)
  let key := 4 * n + 2 * contact + ofBool (stp = .y)
  let bad := closed && (wentOpen != own)
  let m := if bad then Store.get natZero h.failed key + 1 else 0
  let t := s.setChan c { h with failed := Store.put natZero h.failed key m }
  let k := t.saf.kept
  let t := if closed && own && !bad && bitOf k.pulseIn n then
      t.setSafKept (if contact = 0 then { k with folA := withBit k.folA n true } else { k with folB := withBit k.folB n true })
    else t
  if 2 ≤ m then t.faultBy c 0x04 n else t

/-- A pulse of one test supply as channel `c` sees it: `a` and `b` are the contacts that read closed during it (R439). -/
def safeInputTestPulseEff (stp c : SafCh) (a b : BitVec 16) (s : State) : State :=
  if !s.hasIsland || !s.saf.run || s.saf.selfTest then s
  else (forUpto 16 s (fun n t =>
    if t.inEn n && fieldOf (t.setWord (2 + n)) 29 29 = 1 then
      (t.judgePulse c stp n 0 (!bitOf a.toNat n)).judgePulse c stp n 1 (!bitOf b.toNat n)
    else t)).safShow

/-- SAFE_INPUT_TEST_PULSE (R439). -/
def execSafeInputTestPulse (stp c : SafCh) (a b : BitVec 16) (s : State) : Host.Outcome State Fault Refusal :=
  .next (safeInputTestPulseEff stp c a b s)

/-- SAF_OEACT rises (R465). -/
def safOeactRiseEff (s : State) : State :=
  if !s.hasIsland || !s.saf.run then s else ((s.oeRise .x).oeRise .y).safShow

/-- SAF_OEACT_RISE (R465). -/
def execSafOeactRise (s : State) : Host.Outcome State Fault Refusal := .next (safOeactRiseEff s)

/-! ## Safety messages (R445 to R452) -/

/-- CRC-32C (R445) with an initial value; reflection and final XOR are those of the standard CRC-32C.
(PRESUMED, log 66) -/
def crc32c (seed : Nat) (bs : List Byte) : Nat := crcRefl 0x82F63B78 seed bs ^^^ 0xFFFFFFFF

/-- The baseline a copy is checked against, and whether it is the LAN's own (R448). -/
def SafStream.base (v : SafStream) (lanB : Bool) : Option ((Nat × Nat) × Bool) :=
  match (if lanB then v.baseB else v.baseA), (if lanB then v.baseA else v.baseB) with
  | some b, _ => some (b, true)
  | none, some b => some (b, false)
  | none, none => none

/-- Steps 3 and 4 of R447 with R448: the fault, if any. -/
def SafStream.orderBad (v : SafStream) (lanB : Bool) (seq time : Nat) (rst stepped : Bool) : Bool :=
  match v.base lanB with
  | none => false
  | some ((bs, bt), own) =>
    let d := (seq + 2 ^ 32 - bs) % 2 ^ 32
    let seqBad := !(rst && seq = 0) && ((own && d = 0) || 3 < d)
    let timeBad := !(rst || stepped) && (time < bt || (own && time = bt) || 40 * 65536 < (time - bt) * 1000)
    seqBad || timeBad

/-- The 320 data bits of a message. -/
def safData (m : List Byte) : Nat := natLE ((m.drop 20).take 40)

/-- A valid copy is taken (R447 to R450): its partner makes a compared pair, else its bits act at once where they are 0. -/
def SafStream.accept (v : SafStream) (lanB : Bool) (seq time : Nat) (m : List Byte) : SafStream :=
  let mate := v.single.find? (fun k => k.1 != lanB && k.2.1 = seq)
  let v := if lanB then { v with baseB := some (seq, time), okB := true, ever := true }
    else { v with baseA := some (seq, time), okA := true, ever := true }
  match mate with
  | none => { v with single := v.single ++ [(lanB, seq, m)], bits := v.bits &&& safData m }
  | some k =>
    let rest := v.single.filter (fun e => e != k)
    { v with
      single := rest
      bits := rest.foldl (fun b e => b &&& safData e.2.2) (safData m)
      compared := true
      seq := seq
      miss := 0
      pairs := v.pairs + 1 }

/-- The last copy of a LAN was not valid. -/
def SafStream.spoil (v : SafStream) (lanB : Bool) : SafStream :=
  if lanB then { v with okB := false, pairs := 0 } else { v with okA := false, pairs := 0 }

/-- Degraded operation ends when every degraded stream has delivered 3 compared pairs in a row (R452). -/
def State.endDegraded (s : State) : State :=
  match s.degraded with
  | [] => s
  | j :: js =>
    if (j :: js).any (fun i => (s.stream i).pairs < 3) then s
    else
      let t := (j :: js).foldl (fun t i => t.setStream i { t.stream i with degr := false }) s
      t.safEvent 0x0F04 (wd j) (wd (t.saf.x.rem / 1000)) 0

/-- A copy is checked in the order of R447 and applied; of several enabled receive streams of its source the lowest takes it.
(DEDUCED, log 185) -/
def State.takeCopy (s : State) (lanB : Bool) (m : List Byte) : State :=
  let src := natLE (m.take 2)
  match (List.range 16).find? (fun j => s.rxEn j && fieldOf (s.setWord (82 + 2 * j)) 15 0 = src) with
  | none => s.addSat F.SAF_DISCARD_CNT 1
  | some j =>
    let v := s.stream j
    let fail (cause : Nat) : State := (s.setStream j (v.spoil lanB)).faultBoth cause j
    let seq := natLE ((m.drop 4).take 4)
    let time := natLE ((m.drop 8).take 8)
    let flags := natLE ((m.drop 16).take 1)
    if crc32c (s.setWord (82 + 2 * j + 1)).toNat (m.take 60) != natLE (m.drop 60) then fail 0x08
    else if v.orderBad lanB seq time (bitOf flags 0) (bitOf flags 1) then fail 0x0A
    else if v.single.any (fun k => k.1 != lanB && k.2.1 = seq && k.2.2 != m) then fail 0x09
    else (s.setStream j (v.accept lanB seq time m)).endDegraded

/-- The island takes the oldest message copy that the riser has delivered (R447). -/
def safetyMessageCopyEff (s : State) : State :=
  match s.saf.inbox with
  | [] => s
  | (lanB, m) :: rest =>
    let t := s.setSaf { s.saf with inbox := rest }
    if !t.hasIsland || !t.saf.run || t.saf.selfTest then t else (t.takeCopy lanB m).safShow

/-- SAFETY_MESSAGE_COPY (R447). -/
def execSafetyMessageCopy (s : State) : Host.Outcome State Fault Refusal := .next (safetyMessageCopyEff s)

/-- The third consecutive message with the same LAN missing: degraded operation, or fault 0x0D (R450, R451). -/
def State.startDegraded (s : State) (j : Nat) (lanB : Bool) : State :=
  if s.degClass = 0 || s.degraded.any (fun i => (s.stream i).degrB != lanB) then s.faultBoth 0x0D j
  else
    let first := s.degraded = []
    let t := s.setStream j { s.stream j with degr := true, degrB := lanB }
    if first then t.safEvent 0x0F03 (wd j) (wd (ofBool lanB)) (wd (t.saf.x.rem / 1000)) else t

/-- The copy of stream `j` on a LAN is missing: its partner's 5 ms are over (R450). -/
def copyMissingEff (j : Fin 16) (lanB : Bool) (s : State) : State :=
  let v := s.stream j
  match v.single.find? (fun k => k.1 != lanB) with
  | none => s
  | some k =>
    let n := if v.missB = lanB then min 3 (v.miss + 1) else 1
    let w := if lanB then { v with baseB := none, okB := false } else { v with baseA := none, okA := false }
    let t := s.setStream j { w with
      single := v.single.filter (fun e => e != k)
      miss := n
      missB := lanB
      pairs := 0 }
    (if n = 3 && !v.degr && s.saf.kept.causes / 2 ^ 7 % 16 = 0 then t.startDegraded j lanB else t).safShow

/-- COPY_MISSING (R450). -/
def execCopyMissing (j : Fin 16) (lanB : Bool) (s : State) : Host.Outcome State Fault Refusal := .next (copyMissingEff j lanB s)

/-- A channel's degraded timer reaches 0 (R451). -/
def degradedTimerExpiryEff (c : SafCh) (s : State) : State :=
  if s.degraded = [] || (s.chan c).rem != 0 then s else (s.faultBy c 0x0C 0xFF).safShow

/-- DEGRADED_TIMER_EXPIRY (R451). -/
def execDegradedTimerExpiry (c : SafCh) (s : State) : Host.Outcome State Fault Refusal := .next (degradedTimerExpiryEff c s)

/-- The timers return to their full class (R452). -/
def State.fullDegraded (s : State) : State :=
  let n := degTime s.degClass
  s.setSaf { s.saf with x := { s.saf.x with rem := n }, y := { s.saf.y with rem := n } }

/-- Both LANs have been good on every stream for 60 s (R452). -/
def degradedTimerRestoreEff (s : State) : State :=
  if s.degraded != [] || s.saf.good < 60000 then s else s.fullDegraded.safShow

/-- DEGRADED_TIMER_RESTORE (R452). -/
def execDegradedTimerRestore (s : State) : Host.Outcome State Fault Refusal := .next (degradedTimerRestoreEff s)

/-- A stream that has delivered copies has been silent for 20 ms (R450). -/
def streamWatchdogEff (j : Fin 16) (s : State) : State :=
  if s.hasIsland && s.rxEn j && (s.stream j).ever then
    ((s.setStream j { s.stream j with pairs := 0 }).faultBoth 0x0B j).safShow
  else s

/-- STREAM_WATCHDOG (R450). -/
def execStreamWatchdog (j : Fin 16) (s : State) : Host.Outcome State Fault Refusal := .next (streamWatchdogEff j s)

/-- The 60 checked bytes of a message (R445, R446). -/
def State.safMessage (s : State) (j : Nat) (v : SafTx) : List Byte :=
  let flags := ofBool (!v.started) + 2 * ofBool v.stepped + 4 * ofBool s.safLocked + 8 * ofBool (s.degraded != [])
  let data := s.inBits + pack 16 s.onBits + pack 24 s.permBits + pack 32 (ofBool s.safLocked) + pack 33 (ofBool (s.degraded != []))
  bytesLE 2 s.swForce.1 ++ bytesLE 2 (fieldOf (s.setWord (114 + 2 * j)) 15 0) ++ bytesLE 4 v.seq
    ++ bytesLE 8 (s.time.sec.toNat * 65536 + s.time.frac.toNat / 65536) ++ bytesLE 1 flags ++ bytesLE 1 j ++ bytesLE 2 0
    ++ bytesLE 40 data

/-- The island transmits while both channels see SAF_OEACT; the controller sends the message in TC6 to the safety group on both
ring ports of both LANs (R446, R464, R488). -/
def safetyMessageSendEff (j : Fin 4) (s : State) : State :=
  if !s.hasIsland || !s.saf.run || s.saf.selfTest || !s.oeact || !s.txEn j then s
  else
    let v := s.safTx j
    let body := s.safMessage j v
    let m := body ++ bytesLE 4 (crc32c (s.setWord (114 + 2 * j.val + 1)).toNat body)
    let t := s.setSaf { s.saf with
      tx := Store.put SafTx.dflt s.saf.tx j { started := true, seq := (v.seq + 1) % 2 ^ 32, stepped := false } }
    let f := t.riserFrame 0x03505A000F00 6 (t.rf F.RSR_CTL_SETYPE) ([0x11, 0, 0, 0] ++ m)
    let t := if t.on F.SAF_STAT_PARAMOK && !t.inReset 15
      then forUpto 4 t (fun r t => t.toRiser r 6 (mkPkt f (srcCode 3 r) 0 t.frameNo)) else t
    t.safShow

/-- SAFETY_MESSAGE_SEND (R446). -/
def execSafetyMessageSend (j : Fin 4) (s : State) : Host.Outcome State Fault Refusal := .next (safetyMessageSendEff j s)

/-! ## Requests and brake tests (R441, R442, R453 to R455) -/

/-- The controller sends the requests at an output publish: release requests and test requests of the accepted set (R441). -/
def State.safSend (s : State) : State :=
  if !s.hasIsland || s.inReset 15 || !s.on F.SAF_STAT_PARAMOK || s.saf.ctl = [] then s
  else
    let bit (w : Nat) (k : Nat) : Nat :=
      let off := 18 + 8 * k
      let en := fieldOf (s.saf.ctl.getD off 0) 31 31 = 1 && (w = 0 || fieldOf (s.saf.ctl.getD off 0) 29 29 = 1)
      if en then (s.notifyValue (fieldOf (s.saf.ctl.getD (off + w) 0) 15 0)).toNat % 2 else 0
    let sum (w : Nat) : Nat := (List.range 8).foldl (fun a k => a + bit w k * 2 ^ k) 0
    s.setSaf { s.saf with sent := some (sum 0, sum 1) }

/-- Whether a brake test of a channel may run: outside lock-out, or while only causes 0x0E and 0x0F are pending (R455). -/
def State.testAllowed (s : State) (k : Nat) : Bool :=
  let others := s.saf.kept.causes &&& (2 ^ 21 - 1 - 2 ^ 13 - 2 ^ 14)
  s.brkTested k && others = 0 && s.oeact && !bitOf s.saf.x.gates k && !bitOf s.saf.y.gates k && s.brakeTest k = 0
    && !s.saf.selfTest

/-- Test requests rise and fall (R453). -/
def State.testEdges (s : State) (old new : Nat) : State :=
  forUpto 8 s (fun k t =>
    if bitOf new k && !bitOf old k then
      if t.testAllowed k then t.setSaf { t.saf with test := Store.put natZero t.saf.test k 1 } else t
    else if !bitOf new k && t.brakeTest k != 0 then t.endTest k 3
    else t)

/-- The island receives the requests; after an interruption they are only the new starting point for edges (R441, R442). -/
def requestUpdateEff (s : State) : State :=
  match s.saf.sent with
  | none => s
  | some (req, treq) =>
    let t := s.setSaf { s.saf with sent := none }
    if !t.hasIsland || !t.saf.run then t
    else if t.saf.link then ((t.setSaf { t.saf with req := req, treq := treq }).testEdges s.saf.treq treq).safShow
    else
      let t := t.setSaf { t.saf with
        link := true
        req := req
        treq := treq
        x := { t.saf.x with prevReq := req }
        y := { t.saf.y with prevReq := req } }
      (t.safEvent 0x0F09 0 0 0).safShow

/-- REQUEST_UPDATE (R441). -/
def execRequestUpdate (s : State) : Host.Outcome State Fault Refusal := .next (requestUpdateEff s)

/-- No request update for 3 ms (R442). -/
def safLinkTimeoutEff (s : State) : State :=
  if !s.hasIsland || !s.saf.link then s
  else
    let t := (s.setSaf { s.saf with link := false, req := 0, treq := 0 }).testEdges s.saf.treq 0
    (t.safEvent 0x0F09 1 0 0).safShow

/-- SAF_LINK_TIMEOUT (R442). -/
def execSafLinkTimeout (s : State) : Host.Outcome State Fault Refusal := .next (safLinkTimeoutEff s)

/-- TDLY after a test's start the channels begin to count (R453). -/
def brakeTestDelayExpiryEff (k : Fin 8) (s : State) : State :=
  if s.brakeTest k != 1 then s
  else
    let t := s.setSaf { s.saf with test := Store.put natZero s.saf.test k 2 }
    let t := t.setChan .x { t.chan .x with enc := Store.put natZero (t.chan .x).enc k 0 }
    (t.setChan .y { t.chan .y with enc := Store.put natZero (t.chan .y).enc k 0 }).safShow

/-- BRAKE_TEST_DELAY_EXPIRY (R453). -/
def execBrakeTestDelayExpiry (k : Fin 8) (s : State) : Host.Outcome State Fault Refusal := .next (brakeTestDelayExpiryEff k s)

/-- A passed test: hours return to 0, and causes 0x0E and 0x0F of the channel go (R453, R455). -/
def State.testPassed (s : State) (k : Nat) : State :=
  let t := s.endTest k 1
  let q := t.saf.kept
  let f := withBit q.failedK k false
  let o := withBit q.overdueK k false
  let c := if f = 0 then withBit q.causes 13 false else q.causes
  let c := if o = 0 then withBit c 14 false else c
  let t := t.setSafKept { q with failedK := f, overdueK := o, causes := c, hours := Store.put natZero q.hours k 0 }
  t.setSaf { t.saf with elapsed := Store.put natZero t.saf.elapsed k 0, due := withBit t.saf.due k false }

/-- The window ends and the island judges the counts (R453). -/
def brakeTestWindowEndEff (k : Fin 8) (s : State) : State :=
  if s.brakeTest k != 2 then s
  else
    let ex := Store.get natZero s.saf.x.enc k
    let ey := Store.get natZero s.saf.y.enc k
    let slip := fieldOf (s.brkWord k 6) 23 12
    let apart := max ex ey - min ex ey
    let t := if ex ≤ slip && ey ≤ slip && apart ≤ 2 then s.testPassed k
      else
        let t := s.endTest k 2
        let t := if slip < max ex ey then t.faultBoth 0x0E k else t
        if 2 < apart then t.faultBoth 0x15 k else t
    t.safShow

/-- BRAKE_TEST_WINDOW_END (R453). -/
def execBrakeTestWindowEnd (k : Fin 8) (s : State) : Host.Outcome State Fault Refusal := .next (brakeTestWindowEndEff k s)

/-- BTINT hours since the last pass (R455). -/
def brakeTestDueEff (k : Fin 8) (s : State) : State :=
  if !s.hasIsland || !s.brkTested k || bitOf s.saf.due k || Store.get natZero s.saf.elapsed k < s.btInt k then s
  else
    let t := s.setSaf { s.saf with due := withBit s.saf.due k true }
    (t.safEvent 0x0F06 (wd k) (wd (Store.get natZero t.saf.elapsed k / 3600000)) (wd (fieldOf (t.brkWord k 6) 31 24))).safShow

/-- BRAKE_TEST_DUE (R455). -/
def execBrakeTestDue (k : Fin 8) (s : State) : Host.Outcome State Fault Refusal := .next (brakeTestDueEff k s)

/-- 1.5 times BTINT hours since the last pass (R455). -/
def brakeTestOverdueEff (k : Fin 8) (s : State) : State :=
  if !s.hasIsland || !s.brkTested k || bitOf s.saf.kept.overdueK k || 2 * Store.get natZero s.saf.elapsed k < 3 * s.btInt k then s
  else (s.faultBoth 0x0F k).safShow

/-- BRAKE_TEST_OVERDUE (R455). -/
def execBrakeTestOverdue (k : Fin 8) (s : State) : Host.Outcome State Fault Refusal := .next (brakeTestOverdueEff k s)

/-! ## Local reset and start (R457, R458, R460, R467) -/

/-- Every enabled stream's last 3 messages compared equal on both LANs. -/
def State.streamsGood (s : State) : Bool := (List.range 16).all (fun j => !s.rxEn j || 3 ≤ (s.stream j).pairs)

/-- A channel's last view shows every switch off and every current below 10 mA. -/
def SafChan.quiet (h : SafChan) : Bool :=
  match h.seen with
  | some v => v.hsrb = 0 && v.lsrb = 0 && v.isns.all (fun i => i < 10)
  | none => false

/-- Whether a pending cause is gone, apart from those that a self-test decides (R457). -/
def State.causeGone (s : State) (cause : Nat) : Bool :=
  let k := s.saf.kept
  let agree (n : Nat) : Bool := s.discNow .x / 2 ^ n % 2 = 0 && s.discNow .y / 2 ^ n % 2 = 0
  if ownFault cause then true
  else if cause = 0x03 then (List.range 16).all (fun n => !bitOf k.discIn n || (bitOf k.demA n && bitOf k.demB n && agree n))
  else if cause = 0x04 then (List.range 16).all (fun n => !bitOf k.pulseIn n || (bitOf k.folA n && bitOf k.folB n))
  else if cause ≤ 0x07 then s.saf.x.quiet && s.saf.y.quiet
  else if cause ≤ 0x0D then s.streamsGood
  else if cause = 0x0E then k.failedK = 0
  else if cause = 0x0F then k.overdueK = 0
  else if cause = 0x10 then s.swNow = s.swForce
  else if cause = 0x11 then s.setMatches s.swForce
  else if cause = 0x12 then !bitOf s.swNow.2 7
  else if cause = 0x13 then s.swForce.1 != 0 && s.swForce.1 != 0xFFFF
  else match s.saf.x.seen, s.saf.y.seen with
    | some a, some b => a.srA = a.srB && b.srA = b.srB
    | _, _ => false

/-- A pending switch change is adopted where both channels read the same, and the values are checked (R457 cause 0x10). -/
def State.adoptSwitches (s : State) : State :=
  match s.saf.x.seen, s.saf.y.seen with
  | some a, some b =>
    if bitOf s.saf.kept.causes 15 && a.saddr = b.saddr && a.sopt = b.sopt then
      let sw := (a.saddr.toNat, a.sopt.toNat)
      ((s.setSafKept { s.saf.kept with sw := some sw }).fullDegraded).checkSwitches sw
    else s
  | _, _ => s

/-- Lock-out ends (R458). -/
def State.clearLock (s : State) : State :=
  let was := s.saf.kept.causes
  let t := s.setSafKept { s.saf.kept with causes := 0, first := 0, discIn := 0, pulseIn := 0, failedK := 0, overdueK := 0 }
  let t := t.setSaf { t.saf with
    reqDrop := false
    x := { t.saf.x with locked := false, told := false, differ := 0, silent := 0 }
    y := { t.saf.y with locked := false, told := false, differ := 0, silent := 0 } }
  t.safEvent 0x0F02 (wd was) 0 0

/-- A refused or ignored reset (R458). -/
def State.refuseReset (s : State) (press : Nat) : State := s.safEvent 0x0F0B (wd s.saf.kept.causes) (wd press) 0

/-- Both SRESET contacts open after `press` ms (R458). -/
def localResetEff (press : Nat) (s : State) : State :=
  if !s.hasIsland || !s.saf.run || s.saf.selfTest || press < 500 then s
  else if 5000 < press then (s.refuseReset press).safShow
  else if !s.safLocked then s
  else
    let t := s.adoptSwitches
    let pending := (List.range 21).filter (fun c => bitOf t.saf.kept.causes c)
    if !pending.all (fun c => t.causeGone (c + 1)) then (t.refuseReset press).safShow
    else if pending.any (fun c => ownFault (c + 1)) then
      (t.setSaf { t.saf with selfTest := true, resetWait := some press }).safShow
    else t.clearLock.safShow

/-- LOCAL_RESET (R458). -/
def execLocalReset (press : Nat) (s : State) : Host.Outcome State Fault Refusal := .next (localResetEff press s)

/-- The island starts (R467): only its non-volatile memory is left; the first reading of the switches comes into force, a later
one that differs is fault 0x10 (R460). -/
def islandStartEff (saddr : BitVec 16) (sopt : BitVec 8) (s : State) : State :=
  if !s.hasIsland then s
  else
    let now := (saddr.toNat, sopt.toNat)
    let k := s.saf.kept
    let t := s.setSaf { SafSt.reset { k with sw := some (k.sw.getD now) } with
      run := true
      selfTest := true
      restored := k.causes != 0
      ctl := s.saf.ctl
      sent := s.saf.sent
      inbox := s.saf.inbox }
    let t := t.fullDegraded
    let t := if k.causes != 0 then (t.lockChan .x).lockChan .y else t
    let t := if now = t.swForce then t
      else (t.faultBoth 0x10 0xFF).safEvent 0x0F08 (swWord now) (swWord t.swForce) 0
    (t.checkSwitches t.swForce).safShow

/-- ISLAND_START (R467). -/
def execIslandStart (saddr : BitVec 16) (sopt : BitVec 8) (s : State) : Host.Outcome State Fault Refusal :=
  .next (islandStartEff saddr sopt s)

/-- The self-test ends: 0 passed, else the cause it found (R467, R457). -/
def islandSelfTestCompleteEff (cause : Nat) (s : State) : State :=
  if !s.hasIsland || !s.saf.selfTest then s
  else
    let t := s.setSaf { s.saf with selfTest := false, resetWait := none }
    let found := if cause = 0x01 || cause = 0x15 then cause else 0x02
    match s.saf.resetWait with
    | some press => (if cause = 0 then t.clearLock else (t.faultBoth found 0xFF).refuseReset press).safShow
    | none =>
      let t := t.safEvent 0x0F0C (if cause = 0 then 0 else wd found) t.safCrc (wd (ofBool t.saf.restored))
      (if cause = 0 then t else t.faultBoth found 0xFF).safShow

/-- ISLAND_SELF_TEST_COMPLETE (R467). -/
def execIslandSelfTestComplete (cause : Nat) (s : State) : Host.Outcome State Fault Refusal :=
  .next (islandSelfTestCompleteEff cause s)

/-! ## The controller's side (R442, R461, R467) -/

/-- A supply warning holds every channel off and the island writes its non-volatile state (R467). -/
def State.safWarn (s : State) (b : Bool) : State :=
  let t := s.setSaf { s.saf with warn := b }
  if b then t.setSafKept { t.saf.kept with hours := t.saf.elapsed } else t

/-- The supply of the island fails (R467): only its non-volatile memory is left. -/
def State.safOff (s : State) : State := s.setSaf (SafSt.reset s.saf.kept)

/-- A system reset, or a block reset of SAF, ends what is on its way between controller and island; a system reset also drops
the accepted set (R442, R461). -/
def State.safReset (s : State) (sys : Bool) : State :=
  s.setSaf { s.saf with sent := none, inbox := [], ctl := if sys then [] else s.saf.ctl }

/-- The clock steps: the next message of each transmit stream carries STEP (R445). -/
def State.safStepped (s : State) : State :=
  forUpto 4 s (fun j t => t.setSaf { t.saf with tx := Store.put SafTx.dflt t.saf.tx j { t.safTx j with
    stepped := (t.safTx j).started } })

/-- A field lies outside its range. -/
def outside (w : Word) (hi lo a b : Nat) : Bool := fieldOf w hi lo < a || b < fieldOf w hi lo

/-- A named point of the set: it exists, has format bit and is tagged 0 (R461). -/
def State.badRequestPoint (s : State) (i : Nat) : Bool := !(s.pt i).valid || (s.pt i).fmt != 0 || (s.pt i).tag != 0

/-- Word `w` of a brake channel offends (R462). -/
def State.brakeWordBad (s : State) (en bt : Bool) (w : Nat) (v : Word) : Bool :=
  if !en then v != 0
  else match w with
    | 0 => fieldOf v 28 16 != 0 || s.badRequestPoint (fieldOf v 15 0)
    | 1 => bt && s.badRequestPoint (fieldOf v 15 0)
    | 2 | 3 => fieldOf v 10 9 != 0 || fieldOf v 26 25 != 0 || 319 < fieldOf v 8 0 || 319 < fieldOf v 24 16
    | 4 => fieldOf v 15 0 != 0 || outside v 31 22 1 1000 || outside v 21 16 5 30
    | 5 => outside v 31 16 1 2500 || 2500 < fieldOf v 15 0
    | 6 => fieldOf v 11 0 != 0 || outside v 31 24 1 168 || outside v 23 12 1 4095
    | _ => outside v 15 0 100 60000

/-- Word `i` of a parameter set offends (R461, R462). -/
def State.setWordBad (s : State) (ws : List Word) (i : Nat) : Bool :=
  let v := ws.getD i 0
  let at0 (k : Nat) : Word := ws.getD k 0
  if i = 0 then v != 0x01000000
  else if i = 1 then fieldOf v 7 0 != 0 || fieldOf v 15 11 != 0
  else if i < 18 then fieldOf v 15 0 != 0 || 20 < fieldOf v 28 24 || 200 < fieldOf v 23 16
    || (fieldOf v 31 31 = 1 && fieldOf v 23 16 = 0)
  else if i < 82 then
    let w0 := at0 (18 + (i - 18) / 8 * 8)
    s.brakeWordBad (fieldOf w0 31 31 = 1) (fieldOf w0 29 29 = 1) ((i - 18) % 8) v
  else if i < 114 then
    let w0 := at0 (82 + (i - 82) / 2 * 2)
    (fieldOf w0 31 31 = 0 && v != 0) || ((i - 82) % 2 = 0 && fieldOf v 30 16 != 0)
  else
    let w0 := at0 (114 + (i - 114) / 2 * 2)
    (fieldOf w0 31 31 = 0 && v != 0)
      || ((i - 114) % 2 = 0 && fieldOf w0 31 31 = 1 && (fieldOf v 30 24 != 0 || outside v 23 16 2 10))

/-- The controller takes or drops the set: a change of SAF_STAT.PARAMOK signals the unit vector (R461, R471). -/
def State.paramOk (s : State) (b : Bool) : State :=
  if s.on F.SAF_STAT_PARAMOK = b then s else (s.setF F.SAF_STAT_PARAMOK (ofBool b)).signalUnit 15

/-- A parameter set is decided in the order of R461. -/
def safetySetBody (ws : List Word) (s : State) (_id : Nat) : CmdEnd :=
  match (List.range 122).find? (s.setWordBad ws) with
  | some i => rejected s (wd i) 0
  | none =>
    let crc := crc32Words (ws.take 122)
    if crc != ws.getD 122 0 then .done s St.verifyFail crc 0
    else if s.saf.selfTest && s.saf.resetWait = none then .done s St.busy 0 0
    else if bitOf s.swNow.2 7 then
      let old := s.safCrc
      accepted ((s.setSafKept { s.saf.kept with set := ws }).safEvent 0x0F07 crc old 0).safShow
    else if crc != s.safCrc || s.saf.kept.set = [] then
      .done ((s.setSaf { s.saf with ctl := [] }).paramOk false).safShow St.verifyFail crc 0
    else accepted ((s.setSaf { s.saf with ctl := ws }).paramOk true).safShow

/-- CFG_LOAD of a safety parameter set (R461). -/
def cfgLoadSafetyParameterSetEff (x : HPort) (p : Part) (d : Desc) (s : State) : State :=
  s.cfgLoad x p d 0x0D (d.len = 492) s.hasIsland safetySetBody

/-- CFG_LOAD_SAFETY_PARAMETER_SET (R461). -/
def execCfgLoadSafetyParameterSet (x : HPort) (p : Part) (d : Desc) (s : State) : Host.Outcome State Fault Refusal :=
  .next (cfgLoadSafetyParameterSetEff x p d s)

end Sys2Proof.Machine
end

