-- ==== Sys2Proof/Machine/Crypto.lean ====
section
/-! DEFINITION. The standard algorithms that the key vault and the update chain name (R602, R611, R612, R618): SHA-384 (FIPS
180-4), HMAC-SHA-384 (FIPS 198-1), AES-256 (FIPS 197) with key wrap (SP 800-38F), the counter-mode KDF (SP 800-108) and
ECDSA P-384 verification (FIPS 186-5). The chapters name them without stating them; they are taken from those standards
(PRESUMED, assumption log). Byte strings are big-endian. -/

namespace Sys2Proof.Machine

/-! ## SHA-384 -/

/-- A 64-bit word of SHA-512 and its relatives. -/
abbrev W64 := BitVec 64

/-- The primes below 410, of which there are 80: no prime up to 19 divides them but themselves. -/
def shaPrimes : List Nat :=
  (List.range 410).filter (fun n => 2 ≤ n && [2, 3, 5, 7, 11, 13, 17, 19].all (fun d => n = d || n % d != 0))

/-- The first 64 bits of the fractional part of the `k`-th root of `p`, from which FIPS 180-4 takes its constants. -/
def rootBits (k p : Nat) : W64 := BitVec.ofNat 64 (rootFrom k (p * 2 ^ (64 * k)) 69 0)

/-- The constant of each round: the cube roots of the first 80 primes. -/
def shaK : List W64 := shaPrimes.map (rootBits 3)

/-- The initial value of SHA-384: the square roots of the ninth to the sixteenth prime. -/
def sha384Init : List W64 := ((shaPrimes.drop 8).take 8).map (rootBits 2)

/-- The message of a multiple of 128 bytes that SHA-512 processes. -/
def shaPad (m : List Byte) : List Byte :=
  m ++ [0x80] ++ List.replicate ((239 - m.length % 128) % 128) 0 ++ bytesBE 16 (8 * m.length)

/-- Small sigma 0 of the message schedule. -/
def shaS0 (x : W64) : W64 := x.rotateRight 1 ^^^ x.rotateRight 8 ^^^ (x >>> 7)
/-- Small sigma 1. -/
def shaS1 (x : W64) : W64 := x.rotateRight 19 ^^^ x.rotateRight 61 ^^^ (x >>> 6)

/-- The message schedule, newest word first. -/
def shaSchedule (w : List W64) : Nat → List W64
  | 0 => w
  | n + 1 => shaSchedule ((shaS1 (w.getD 1 0) + w.getD 6 0 + shaS0 (w.getD 14 0) + w.getD 15 0) :: w) n

/-- The eight working variables. -/
structure ShaVars where
  a : W64
  b : W64
  c : W64
  d : W64
  e : W64
  f : W64
  g : W64
  h : W64

/-- One round with constant and schedule word. -/
def shaRound (v : ShaVars) (k w : W64) : ShaVars :=
  let s1 := v.e.rotateRight 14 ^^^ v.e.rotateRight 18 ^^^ v.e.rotateRight 41
  let ch := (v.e &&& v.f) ^^^ (~~~v.e &&& v.g)
  let t1 := v.h + s1 + ch + k + w
  let s0 := v.a.rotateRight 28 ^^^ v.a.rotateRight 34 ^^^ v.a.rotateRight 39
  let maj := (v.a &&& v.b) ^^^ (v.a &&& v.c) ^^^ (v.b &&& v.c)
  { a := t1 + (s0 + maj), b := v.a, c := v.b, d := v.c, e := v.d + t1, f := v.e, g := v.f, h := v.g }

/-- Process one block of 128 bytes. -/
def shaBlock (hs : List W64) (blk : List Byte) : List W64 :=
  let w0 := (List.range 16).foldl (fun acc i => BitVec.ofNat 64 (natBE ((blk.drop (8 * i)).take 8)) :: acc) ([] : List W64)
  let w := (shaSchedule w0 64).reverse
  let i (n : Nat) : W64 := hs.getD n 0
  let v0 : ShaVars := { a := i 0, b := i 1, c := i 2, d := i 3, e := i 4, f := i 5, g := i 6, h := i 7 }
  let v := (shaK.zip w).foldl (fun v kw => shaRound v kw.1 kw.2) v0
  [i 0 + v.a, i 1 + v.b, i 2 + v.c, i 3 + v.d, i 4 + v.e, i 5 + v.f, i 6 + v.g, i 7 + v.h]

/-- Process `n` blocks. -/
def shaBlocks : Nat → List W64 → List Byte → List W64
  | 0, hs, _ => hs
  | n + 1, hs, m => shaBlocks n (shaBlock hs (m.take 128)) (m.drop 128)

/-- SHA-384. (PRESUMED, log 104) -/
def sha384 (m : List Byte) : List Byte :=
  let p := shaPad m
  ((shaBlocks (p.length / 128) sha384Init p).take 6).flatMap (fun w => bytesBE 8 w.toNat)

/-- HMAC-SHA-384. (PRESUMED, log 104) -/
def hmac384 (key m : List Byte) : List Byte :=
  let k := if 128 < key.length then sha384 key else key
  let k := k ++ List.replicate (128 - k.length) 0
  sha384 (k.map (fun b => b ^^^ 0x5C) ++ sha384 (k.map (fun b => b ^^^ 0x36) ++ m))

/-! ## AES-256 and key wrap -/

/-- Multiplication by x in GF(2^8). -/
def gfDouble (a : Byte) : Byte := if a.toNat < 128 then a <<< 1 else (a <<< 1) ^^^ 0x1B

/-- Multiplication in GF(2^8); `n` bits of the second factor remain. -/
def gfMulBits : Nat → Byte → Byte → Byte
  | 0, _, _ => 0
  | n + 1, a, b => (if b.toNat % 2 = 1 then a else 0) ^^^ gfMulBits n (gfDouble a) (b >>> 1)

/-- Multiplication in GF(2^8). -/
def gfMul (a b : Byte) : Byte := gfMulBits 8 a b

/-- The inverse in GF(2^8), a^254. -/
def gfInv (a : Byte) : Byte :=
  let a2 := gfMul a a
  let a4 := gfMul a2 a2
  let a8 := gfMul a4 a4
  let a16 := gfMul a8 a8
  let a32 := gfMul a16 a16
  let a64 := gfMul a32 a32
  let a128 := gfMul a64 a64
  gfMul (gfMul (gfMul a2 a4) (gfMul a8 a16)) (gfMul (gfMul a32 a64) a128)

/-- The S-box. -/
def aesS (a : Byte) : Byte :=
  let b := gfInv a
  b ^^^ b.rotateLeft 1 ^^^ b.rotateLeft 2 ^^^ b.rotateLeft 3 ^^^ b.rotateLeft 4 ^^^ 0x63

/-- The inverse S-box. -/
def aesInvS (a : Byte) : Byte := gfInv (a.rotateLeft 1 ^^^ a.rotateLeft 3 ^^^ a.rotateLeft 6 ^^^ 0x05)

/-- Bytewise exclusive or. -/
def xorBytes (a b : List Byte) : List Byte := List.zipWith (fun x y => x ^^^ y) a b

/-- The key schedule, newest word first; `i` counts the words and `n` those still to come. -/
def aesExpand (ws : List (List Byte)) (rcon : Byte) : Nat → Nat → List (List Byte)
  | _, 0 => ws
  | i, n + 1 =>
    let prev := ws.getD 0 []
    let t := if i % 8 = 0 then xorBytes ((prev.drop 1 ++ prev.take 1).map aesS) [rcon, 0, 0, 0]
      else if i % 8 = 4 then prev.map aesS else prev
    aesExpand (xorBytes (ws.getD 7 []) t :: ws) (if i % 8 = 0 then gfDouble rcon else rcon) (i + 1) n

/-- The fifteen round keys of AES-256. -/
def aesKeys (key : List Byte) : List (List Byte) :=
  let w0 := (List.range 8).foldl (fun acc i => (key.drop (4 * i)).take 4 :: acc) ([] : List (List Byte))
  let ws := (aesExpand w0 1 8 52).reverse
  (List.range 15).map (fun r => ((ws.drop (4 * r)).take 4).flatten)

/-- Row `r` of column `c` moves to column `c - r`. -/
def aesShift (st : List Byte) : List Byte := (List.range 16).map (fun i => st.getD (4 * ((i / 4 + i % 4) % 4) + i % 4) 0)

/-- The inverse of `aesShift`. -/
def aesInvShift (st : List Byte) : List Byte := (List.range 16).map (fun i => st.getD (4 * ((i / 4 + 4 - i % 4) % 4) + i % 4) 0)

/-- Multiply each column by the circulant of `m`. -/
def aesMix (m : List Byte) (st : List Byte) : List Byte :=
  (List.range 16).map (fun i => (List.range 4).foldl (fun a j =>
    a ^^^ gfMul (m.getD ((j + 4 - i % 4) % 4) 0) (st.getD (4 * (i / 4) + j) 0)) 0)

/-- Encrypt one block of 16 bytes. (PRESUMED, log 104) -/
def aesEncrypt (key blk : List Byte) : List Byte :=
  let ks := aesKeys key
  let st := ((ks.drop 1).take 13).foldl (fun st k => xorBytes (aesMix [2, 3, 1, 1] (aesShift (st.map aesS))) k)
    (xorBytes blk (ks.getD 0 []))
  xorBytes (aesShift (st.map aesS)) (ks.getD 14 [])

/-- Decrypt one block of 16 bytes. -/
def aesDecrypt (key blk : List Byte) : List Byte :=
  let ks := (aesKeys key).reverse
  let st := ((ks.drop 1).take 13).foldl (fun st k => aesMix [14, 11, 13, 9] (xorBytes ((aesInvShift st).map aesInvS) k))
    (xorBytes blk (ks.getD 0 []))
  xorBytes ((aesInvShift st).map aesInvS) (ks.getD 14 [])

/-- The integrity value of KW. -/
def kwIv : List Byte := List.replicate 8 0xA6

/-- Groups of 8 bytes. -/
def groups8 : Nat → List Byte → List (List Byte)
  | 0, _ => []
  | n + 1, bs => bs.take 8 :: groups8 n (bs.drop 8)

/-- SP 800-38F key wrap (KW) of a multiple of 8 bytes. (PRESUMED, log 104) -/
def kwWrap (key data : List Byte) : List Byte :=
  let n := data.length / 8
  let r := (List.range (6 * n)).foldl (fun (ar : List Byte × List (List Byte)) t =>
    let b := aesEncrypt key (ar.1 ++ ar.2.getD (t % n) [])
    (xorBytes (b.take 8) (bytesBE 8 (t + 1)), setAt ar.2 (t % n) (b.drop 8))) (kwIv, groups8 n data)
  r.1 ++ r.2.flatten

/-- SP 800-38F key unwrap; nothing on an integrity failure. (PRESUMED, log 104) -/
def kwUnwrap (key data : List Byte) : Option (List Byte) :=
  let n := data.length / 8 - 1
  let r := (List.range (6 * n)).reverse.foldl (fun (ar : List Byte × List (List Byte)) t =>
    let b := aesDecrypt key (xorBytes ar.1 (bytesBE 8 (t + 1)) ++ ar.2.getD (t % n) [])
    (b.take 8, setAt ar.2 (t % n) (b.drop 8))) (data.take 8, groups8 n (data.drop 8))
  if r.1 = kwIv then some r.2.flatten else none

/-- The SP 800-108 counter-mode KDF with one iteration of HMAC-SHA-384, as R612 lays its input out.
(PRESUMED, log 104) -/
def kdf (root label ctx : List Byte) (bits : Nat) : List Byte :=
  (hmac384 root (bytesBE 4 1 ++ label ++ [0] ++ ctx ++ bytesBE 4 bits)).take (bits / 8)

/-! ## P-384 -/

/-- The field prime. -/
def p384 : Nat := 2 ^ 384 - 2 ^ 128 - 2 ^ 96 + 2 ^ 32 - 1
/-- The group order. -/
def n384 : Nat := 0xffffffffffffffffffffffffffffffffffffffffffffffffc7634d81f4372ddf581a0db248b0a77aecec196accc52973
/-- The curve coefficient b. -/
def b384 : Nat := 0xb3312fa7e23ee7e4988e056be3f82d19181d9c6efe8141120314088f5013875ac656398d8a2ed19d2a85c8edd3ec2aef
/-- The base point. -/
def g384 : Nat × Nat :=
  (0xaa87ca22be8b05378eb1c71ef320ad746e1d3b628ba79b9859f741e082542a385502f25dbf55296c3a545e3872760ab7,
   0x3617de4a96262c6f5d9e98bf9292dc29f8f41dbd289a147ce9da3113b5f0b8c00a60b1ce1d7e819d7a431d7c90ea0e5f)

/-- `a ^ e mod m`; `n` bits of the exponent remain. -/
def powMod (m : Nat) : Nat → Nat → Nat → Nat
  | 0, _, _ => 1 % m
  | n + 1, a, e => (if e % 2 = 1 then a else 1) * powMod m n (a * a % m) (e / 2) % m

/-- The inverse modulo a prime of 384 bits. -/
def invMod (m a : Nat) : Nat := powMod m 384 (a % m) (m - 2)

/-- Whether the coordinates are those of a point on the curve. -/
def onP384 (x y : Nat) : Bool := x < p384 && y < p384 && y * y % p384 = (x * x * x + (p384 - 3) * x + b384) % p384

/-- Addition on the curve; `none` is the point at infinity. -/
def ecAdd : Option (Nat × Nat) → Option (Nat × Nat) → Option (Nat × Nat)
  | none, q => q
  | p, none => p
  | some (x1, y1), some (x2, y2) =>
    if x1 = x2 && (y1 + y2) % p384 = 0 then none
    else
      let l := if x1 = x2 then (3 * x1 * x1 + (p384 - 3)) * invMod p384 (2 * y1) % p384
        else (y2 + p384 - y1) * invMod p384 (x2 + p384 - x1) % p384
      let x3 := (l * l + 2 * p384 - x1 - x2) % p384
      some (x3, (l * (x1 + p384 - x3) + p384 - y1) % p384)

/-- Multiplication of a point; `n` bits of the factor remain. -/
def ecMul : Nat → Nat → Option (Nat × Nat) → Option (Nat × Nat)
  | 0, _, _ => none
  | n + 1, k, p => ecAdd (if k % 2 = 1 then p else none) (ecMul n (k / 2) (ecAdd p p))

/-- ECDSA P-384 verification of a SHA-384 digest. (PRESUMED, log 104) -/
def ecdsaOk (pub digest r s : List Byte) : Bool :=
  let x := natBE (pub.take 48)
  let y := natBE (pub.drop 48)
  let rn := natBE r
  let sn := natBE s
  if rn = 0 || n384 ≤ rn || sn = 0 || n384 ≤ sn || !onP384 x y then false
  else
    let w := invMod n384 sn
    match ecAdd (ecMul 384 (natBE digest * w % n384) (some g384)) (ecMul 384 (rn * w % n384) (some (x, y))) with
    | none => false
    | some (x1, _) => x1 % n384 = rn

end Sys2Proof.Machine
end

