-- ==== Sys2Proof/Machine/Vault.lean ====
section
/-! DEFINITION. The key vault: slots, staging and commit, uses, key operations and stored copies (chapter "Firn Key Vault"). -/

namespace Sys2Proof.Machine

/-- Replace the vault part. -/
def State.setKey (s : State) (k : KeySt) : State := { s with key := k }

/-- Slot `i`. -/
def State.slotKey (s : State) (i : Nat) : KeySlot := Store.get KeySlot.dflt s.key.slots i

/-- Replace slot `i`. -/
def State.putSlot (s : State) (i : Nat) (k : KeySlot) : State :=
  s.setKey { s.key with slots := Store.put KeySlot.dflt s.key.slots i k }

/-- Set a bit of KEY_STAT (R619). -/
def State.raiseKey (s : State) (bit : Nat) : State := s.raise Reg.KEY_STAT Reg.KEY_IEN 22 bit

/-- The slot's tag, if it exists (R602). -/
def State.keyTag (s : State) (i : Nat) : Option Nat := if s.on (F.KEY_SATTR_EN i) then some (s.rf (F.KEY_SATTR_TAG i)) else none

/-- The type of a slot's key. -/
def State.ktype (s : State) (i : Nat) : Nat := s.rf (F.KEY_SATTR_KTYPE i)

/-- A slot is volatile (R610, R615). -/
def State.volatileSlot (s : State) (i : Nat) : Bool :=
  s.on (F.KEY_SATTR_CNTEN i) || s.on (F.KEY_SATTR_EXPR i) || s.on (F.KEY_SATTR_VOL i) || s.key.root != 0

/-- Bytes of key material of a type (R602). -/
def keyLen : Nat → Nat
  | 1 => 32
  | 2 => 48
  | 3 => 96
  | _ => 0

/-- The check value of key material (R602). -/
def checkValue (ktype : Nat) (m : List Byte) : List Byte :=
  match ktype with
  | 1 => (aesEncrypt m (List.replicate 16 0)).take 8
  | 2 => (hmac384 m (List.replicate 16 0)).take 8
  | _ => (sha384 m).take 8

/-- The root that DERIVE and the internal wrapping key use: the fused one, or the fixed test root (R612, R615). -/
def State.rootKey (s : State) : List Byte :=
  (List.range 48).map (if s.key.root = 0 then Config.fusedRoot else Config.testRoot)

/-- Show a slot's keys in KEY_SSTAT (R619). -/
def State.showSlot (s : State) (i : Nat) : State :=
  let k := s.slotKey i
  let code := if k.key.isNone then 0
    else if s.on (F.KEY_SATTR_CNTEN i) && s.rf (F.KEY_SREM_REM i) = 0 then 2 else 1
  let t := (s.setF (F.KEY_SSTAT_KEY i) code).setF (F.KEY_SSTAT_SHADOW i) (ofBool k.shadow.isSome)
  t.setF (F.KEY_SSTAT_KTYPE i) (if k.key.isSome then s.ktype i else 0)

/-! ## Stored slots (R613, R614) -/

/-- A copy of configuration storage. -/
def State.storedKey (s : State) (i c : Nat) : Option StoredKey := Store.get noStoredKey s.key.kept (2 * i + c)

/-- Replace a copy. -/
def State.putStored (s : State) (i c : Nat) (v : Option StoredKey) : State :=
  s.setKey { s.key with kept := Store.put noStoredKey s.key.kept (2 * i + c) v }

/-- The sequence number of a copy. -/
def seqOf (c : Option StoredKey) : Nat :=
  match c with
  | some k => k.seq
  | none => 0

/-- The internal wrapping key: what DERIVE's rule gives for the label "Firn store", an empty context and AES-256, with 0 in the place
of a slot's tag (R612, R613). (DESIGN CHOICE, log 174) -/
def State.wrapKey (s : State) : List Byte :=
  kdf s.rootKey (("Firn store".toList).map (fun c => BitVec.ofNat 8 c.toNat)) [0] 256

/-- Write a stored slot's attributes and its wrapped committed key over the older copy (R614). (DEDUCED, log 15) -/
def State.storeSlot (s : State) (i : Nat) : State :=
  if s.volatileSlot i then s
  else
    let a := seqOf (s.storedKey i 0)
    let b := seqOf (s.storedKey i 1)
    let seq := max a b + 1
    let k : StoredKey := { seq := seq, attr := s.reg (Reg.KEY_SATTR i), scnt := s.reg (Reg.KEY_SCNT i),
                           wrapped := (s.slotKey i).key.map (kwWrap s.wrapKey), bad := false }
    (s.putStored i (if a ≤ b then 0 else 1) (some k)).setF (F.KEY_SSTAT_STSEQ i) seq

/-- A stored copy with the key that it unwraps to, if any; nothing where the copy is damaged or its unwrap fails (R614). -/
def State.unwrapCopy (s : State) (c : Option StoredKey) : Option (StoredKey × Option (List Byte)) :=
  match c with
  | none => none
  | some k =>
    if k.bad then none
    else
      match k.wrapped with
      | none => some (k, none)
      | some w => (kwUnwrap s.wrapKey w).map (fun m => (k, some m))

/-- The copy a start loads: the one with the higher sequence number that unwraps (R614). -/
def State.goodCopy (s : State) (i : Nat) : Option (StoredKey × Option (List Byte)) :=
  match s.unwrapCopy (s.storedKey i 0), s.unwrapCopy (s.storedKey i 1) with
  | some a, some b => some (if a.1.seq < b.1.seq then b else a)
  | some a, none => some a
  | none, b => b

/-- The start loads slot `i` (R614). -/
def State.loadSlot (s : State) (i : Nat) : State :=
  match s.goodCopy i with
  | some (k, m) =>
    let t := (s.setReg (Reg.KEY_SATTR i) k.attr).setReg (Reg.KEY_SCNT i) k.scnt
    let t := (t.setReg (Reg.KEY_SREM i) 0xFFFFFFFF).putSlot i { key := m, shadow := none }
    (t.showSlot i).setF (F.KEY_SSTAT_STSEQ i) k.seq
  | none =>
    if (s.storedKey i 0).isSome || (s.storedKey i 1).isSome then (s.raiseKey 3).report 0x1605 0 (wd i) 0 0 else s

/-- KEY_STORE_LOAD: under the test root nothing is loaded, and event 0x1606 tells why (R614, R615). -/
def State.loadKeys (s : State) : State :=
  if s.key.root != 0 then (s.setF F.KEY_STAT_TESTROOT 1).report 0x1606 0 (wd s.key.root) 0 0
  else forUpto 64 s (fun i t => t.loadSlot i)

/-- What a system or power-on reset does to the vault: keys that expire are recorded, and everything in its registers and
slots is lost (R610). -/
def State.keyReset (s : State) : State :=
  let t := forUpto 64 s (fun i t =>
    if t.on (F.KEY_SATTR_EXPR i) && (t.slotKey i).key.isSome then t.report 0x1604 (t.rf (F.KEY_SATTR_TAG i)) (wd i) 3 0 else t)
  t.setKey { KeySt.reset t.key.kept with unlocked := t.key.unlocked }

/-- A block reset of KEY empties the shadows (R617). -/
def State.keyBlockReset (s : State) : State :=
  forUpto 64 s (fun i t => (t.putSlot i { t.slotKey i with shadow := none }).showSlot i)

/-! ## Uses (R608, R609) -/

/-- The slot holds a committed key of type `kt` that allows the use with bit `u` of USES now (R608). -/
def State.keyUsable (s : State) (i kt u : Nat) : Bool :=
  s.on (F.KEY_SATTR_EN i) && (s.slotKey i).key.isSome && s.ktype i = kt && bitOf (s.rf (F.KEY_SATTR_USES i)) u
    && !(s.on (F.KEY_SATTR_CNTEN i) && s.rf (F.KEY_SREM_REM i) = 0)

/-- Count one use; the one that brings the count to 0 makes the key unusable (R609). -/
def State.countUse (s : State) (i : Nat) : State :=
  if !s.on (F.KEY_SATTR_CNTEN i) || s.rf (F.KEY_SREM_REM i) = 0 then s
  else
    let t := s.setReg (Reg.KEY_SREM i) (s.reg (Reg.KEY_SREM i) - 1)
    if t.rf (F.KEY_SREM_REM i) != 0 then t
    else (((t.showSlot i).raiseKey 2).report 0x1603 (t.rf (F.KEY_SATTR_TAG i)) (wd i) 0 0).keyGone i

/-- A frame that riser port `r` protects (direction 0) or verifies (direction 1) with a slot: each 65,536 are one use (R608). -/
def State.countFrame (s : State) (i r dir : Nat) : State :=
  let k := 8 * i + 2 * r + dir
  let n := Store.get natZero s.key.frames k + 1
  let t := s.setKey { s.key with frames := Store.put natZero s.key.frames k (n % 65536) }
  if n = 65536 then t.countUse i else t

/-- Erase a slot's committed key and shadow (R611, R616). -/
def State.eraseSlot (s : State) (i cause tag : Nat) : State :=
  let t := (s.putSlot i (KeySlot.dflt i)).setReg (Reg.KEY_SREM i) 0
  let t := t.setReg (Reg.KEY_SSTAT i) 0
  ((t.report 0x1604 tag (wd i) (wd cause) 0).keyGone i)

/-! ## Attributes (R616) -/

/-- A write to KEY_SATTR (R616); a value it does not define is refused field by field, and KTYPE 0 is defined only while EN is 0. -/
def State.writeSattr (s : State) (i : Nat) (v : Word) : State :=
  let off := Reg.KEY_SATTR i
  let old := s.reg off
  let kt := fieldOf v 19 16
  let ok := kt ≤ 3 && (kt != 0 || fieldOf v 31 31 = 0)
  let new := (if ok then v else withField v 19 16 (fieldOf old 19 16)) &&& 0xFFEF3F00
  let t := (if ok then s else s.badVal).setReg off new
  if fieldOf old 31 21 = fieldOf new 31 21 && fieldOf old 19 16 = fieldOf new 19 16 then t.storeSlot i
  else
    let t := t.eraseSlot i 2 (fieldOf old 30 24)
    let t := if t.key.root = 0 then (t.putStored i 0 none).putStored i 1 none else t
    let t := t.setReg (Reg.KEY_SREM i) (if fieldOf new 21 21 = 1 then 0 else 0xFFFFFFFF)
    t.storeSlot i

/-- KEY_SLOT_ATTRIBUTE_WRITE (R616). -/
def keySlotAttributeWriteEff (x : HPort) (i : Fin 64) (v : Word) (s : State) : State :=
  s.asWrite x 22 (s.writeSattr i v)

/-- KEY_SLOT_ATTRIBUTE_WRITE (R616). -/
def execKeySlotAttributeWrite (x : HPort) (i : Fin 64) (v : Word) (s : State) : Host.Outcome State Fault Refusal :=
  .next (keySlotAttributeWriteEff x i v s)

/-! ## Staging and commit (R605, R606) -/

/-- The slot a key command names. -/
def Desc.keySlot (d : Desc) : Nat := fieldOf d.w2 5 0

/-- A key command's filter, and then its own rules (R604). -/
def State.keyFilter (s : State) (p : Nat) (d : Desc) (body : State → CmdEnd) : CmdEnd :=
  let i := d.keySlot
  let st := s.filterWrite p (s.keyTag i) Cls.slot i
  if st != St.success then .refuse s Cls.slot i st else body s

/-- A key command of the operator that uses a tenant's key or changes its slot is audited; one that ends without an effect on the slot
is not (R115, R604). -/
def State.keyAudited (s : State) (p : Nat) (d : Desc) (body : State → CmdEnd) : CmdEnd :=
  let i := d.keySlot
  match s.keyFilter p d body with
  | .done t st r0 r1 =>
    .done (if st = St.success || t.slotKey i != s.slotKey i then t.audit p (s.rf (F.KEY_SATTR_TAG i)) Cls.slot i d.opcode
      else t) st r0 r1
  | e => e

/-- The vault refuses staged material (R605 step 5). -/
def State.stageFails (s : State) (i : Nat) : State :=
  let t := (s.putSlot i { s.slotKey i with shadow := none }).showSlot i
  (t.raiseKey 1).report 0x1602 (t.rf (F.KEY_SATTR_TAG i)) (wd i) (wd (t.ktype i)) 0

/-- KEY_STAGE's rules (R605). -/
def keyStageBody (x : HPort) (p : Part) (d : Desc) (s : State) (_id : Nat) : CmdEnd :=
  s.keyAudited p d (fun s =>
    let i := d.keySlot
    let kt := fieldOf d.w2 11 8
    if kt != s.ktype i then .done s St.state 0 0
    else
      match s.dmaRead x p d.addr d.len with
      | (none, t) => .done t St.dmaError 0 0
      | (some bs, t) =>
        let m := bs.take (keyLen kt)
        if checkValue kt m != bs.drop (keyLen kt) || (kt = 3 && !onP384 (natBE (m.take 48)) (natBE (m.drop 48))) then
          .done (t.stageFails i) St.verifyFail 0 0
        else .done ((t.putSlot i { t.slotKey i with shadow := some m }).showSlot i) St.success 0 0)

/-- KEY_STAGE (R605). -/
def keyStageEff (x : HPort) (p : Part) (d : Desc) (s : State) : State :=
  let kt := fieldOf d.w2 11 8
  s.command x p d (d.opcode = 0x40) (d.buf 0xF3F 0 0 40 104 && keyLen kt != 0 && d.len = keyLen kt + 8) true false
    (keyStageBody x p d)

/-- KEY_STAGE (R605). -/
def execKeyStage (x : HPort) (p : Part) (d : Desc) (s : State) : Host.Outcome State Fault Refusal := .next (keyStageEff x p d s)

/-- The commit itself (R606): RESULT0 is the remaining use count. -/
def State.commitKey (s : State) (i : Nat) (m : List Byte) : State :=
  let t := s.putSlot i { key := some m, shadow := none }
  let t := t.setReg (Reg.KEY_SREM i) (if t.on (F.KEY_SATTR_CNTEN i) then t.reg (Reg.KEY_SCNT i) else 0xFFFFFFFF)
  let t := (t.showSlot i).storeSlot i
  (t.report 0x1601 (t.rf (F.KEY_SATTR_TAG i)) (wd i) (wd (t.ktype i)) (wordAt (checkValue (t.ktype i) m) 0)).raiseKey 0

/-- KEY_COMMIT's rules (R606). -/
def keyCommitBody (p : Part) (d : Desc) (s : State) (_id : Nat) : CmdEnd :=
  s.keyAudited p d (fun s =>
    match (s.slotKey d.keySlot).shadow with
    | none => .done s St.state 0 0
    | some m =>
      let t := s.commitKey d.keySlot m
      .done t St.success (t.reg (Reg.KEY_SREM d.keySlot)) 0)

/-- KEY_COMMIT (R606). -/
def keyCommitEff (x : HPort) (p : Part) (d : Desc) (s : State) : State :=
  s.command x p d (d.opcode = 0x41) (d.clean 0x3F 0 0 0 0 0) true false (keyCommitBody p d)

/-- KEY_COMMIT (R606). -/
def execKeyCommit (x : HPort) (p : Part) (d : Desc) (s : State) : Host.Outcome State Fault Refusal := .next (keyCommitEff x p d s)

/-! ## Key operations (R611, R612) -/

/-- Write an operation's output at ADDR + LEN, rounded up to 8, and complete. -/
def State.keyOut (s : State) (x : HPort) (p : Part) (d : Desc) (out : List Byte) : CmdEnd :=
  match s.dmaWrite x p (d.addr + (d.len + 7) / 8 * 8) out with
  | (false, t) => .done t St.dmaError 0 0
  | (true, t) => .done t St.success (wd out.length) 0

/-- An operation that reads LEN bytes of input. -/
def State.keyIn (s : State) (x : HPort) (p : Part) (d : Desc) (body : List Byte → State → CmdEnd) : CmdEnd :=
  match s.dmaRead x p d.addr d.len with
  | (none, t) => .done t St.dmaError 0 0
  | (some bs, t) => body bs t

/-- An operation that is a use of the slot's key (R608): type `kt`, bit `u`; `f` gives its output, if it has one. -/
def keyUseBody (x : HPort) (p : Part) (d : Desc) (kt u : Nat) (f : List Byte → List Byte → Option (List Byte))
    (s : State) (_id : Nat) : CmdEnd :=
  s.keyAudited p d (fun s =>
    let i := d.keySlot
    if !s.keyUsable i kt u then .done s St.state 0 0
    else
      match (s.slotKey i).key with
      | none => .done s St.state 0 0
      | some k => s.keyIn x p d (fun bs t =>
          match f k bs with
          | none => .done t St.verifyFail 0 0
          | some out =>
            match t.keyOut x p d out with
            | .done u st r0 r1 => .done (if st = St.success then u.countUse i else u) st r0 r1
            | e => e))

/-- A KEY_OP with operation `op`; `lenOk` says which LEN the row takes. -/
def State.keyOp (s : State) (x : HPort) (p : Part) (d : Desc) (op : Nat) (lenOk : Bool)
    (body : State → Nat → CmdEnd) : State :=
  s.command x p d (d.opcode = 0x42 && fieldOf d.w3 3 0 = op) (d.buf 0x3F 0xF 0 0 65536 && lenOk) true false body

/-- KEY_OP MAC (R611). -/
def keyOpMacEff (x : HPort) (p : Part) (d : Desc) (s : State) : State :=
  s.keyOp x p d 1 (1 ≤ d.len) (keyUseBody x p d 2 0 (fun k m => some (hmac384 k m)))

/-- KEY_OP_MAC (R611). -/
def execKeyOpMac (x : HPort) (p : Part) (d : Desc) (s : State) : Host.Outcome State Fault Refusal := .next (keyOpMacEff x p d s)

/-- The output of VERIFY: byte 0 tells the result. -/
def verifyOut (k m : List Byte) : List Byte :=
  BitVec.ofNat 8 (ofBool (ecdsaOk k (m.take 48) ((m.drop 48).take 48) (m.drop 96))) :: List.replicate 7 0

/-- KEY_OP VERIFY (R611). -/
def keyOpVerifyEff (x : HPort) (p : Part) (d : Desc) (s : State) : State :=
  s.keyOp x p d 2 (d.len = 144) (keyUseBody x p d 3 1 (fun k m => some (verifyOut k m)))

/-- KEY_OP_VERIFY (R611). -/
def execKeyOpVerify (x : HPort) (p : Part) (d : Desc) (s : State) : Host.Outcome State Fault Refusal := .next (keyOpVerifyEff x p d s)

/-- KEY_OP WRAP (R611). -/
def keyOpWrapEff (x : HPort) (p : Part) (d : Desc) (s : State) : State :=
  s.keyOp x p d 3 (16 ≤ d.len && d.len ≤ 4096 && d.len % 8 = 0) (keyUseBody x p d 1 2 (fun k m => some (kwWrap k m)))

/-- KEY_OP_WRAP (R611). -/
def execKeyOpWrap (x : HPort) (p : Part) (d : Desc) (s : State) : Host.Outcome State Fault Refusal := .next (keyOpWrapEff x p d s)

/-- KEY_OP UNWRAP: a failed one does not count as a use (R611). -/
def keyOpUnwrapEff (x : HPort) (p : Part) (d : Desc) (s : State) : State :=
  s.keyOp x p d 4 (24 ≤ d.len && d.len ≤ 4104 && d.len % 8 = 0) (keyUseBody x p d 1 3 kwUnwrap)

/-- KEY_OP_UNWRAP (R611). -/
def execKeyOpUnwrap (x : HPort) (p : Part) (d : Desc) (s : State) : Host.Outcome State Fault Refusal := .next (keyOpUnwrapEff x p d s)

/-- DERIVE's rules (R612). -/
def keyDeriveBody (x : HPort) (p : Part) (d : Desc) (s : State) (_id : Nat) : CmdEnd :=
  s.keyAudited p d (fun s => s.keyIn x p d (fun bs t =>
    let i := d.keySlot
    let kt := natLE (bs.take 1)
    let a := natLE ((bs.drop 1).take 1)
    let b := natLE ((bs.drop 2).take 1)
    if a = 0 || 64 < a || 64 < b || natLE ((bs.drop 3).take 1) != 0 || bs.length != 4 + a + b || kt = 0 || 2 < kt then
      .done t St.badDesc 0 0
    else if kt != t.ktype i then .done t St.state 0 0
    else
      let ctx := (bs.drop (4 + a)).take b ++ [BitVec.ofNat 8 (t.rf (F.KEY_SATTR_TAG i))]
      let m := kdf t.rootKey ((bs.drop 4).take a) ctx (if kt = 1 then 256 else 384)
      ((t.putSlot i { t.slotKey i with shadow := some m }).showSlot i).keyOut x p d (checkValue kt m)))

/-- KEY_OP DERIVE (R612). -/
def keyOpDeriveEff (x : HPort) (p : Part) (d : Desc) (s : State) : State :=
  s.keyOp x p d 5 (5 ≤ d.len && d.len ≤ 132) (keyDeriveBody x p d)

/-- KEY_OP_DERIVE (R612). -/
def execKeyOpDerive (x : HPort) (p : Part) (d : Desc) (s : State) : Host.Outcome State Fault Refusal := .next (keyOpDeriveEff x p d s)

/-- CHECK's rules (R611). -/
def keyCheckBody (x : HPort) (p : Part) (d : Desc) (s : State) (_id : Nat) : CmdEnd :=
  s.keyFilter p d (fun s =>
    match (s.slotKey d.keySlot).key with
    | none => .done s St.state 0 0
    | some k => s.keyOut x p d (checkValue (s.ktype d.keySlot) k))

/-- KEY_OP CHECK (R611). -/
def keyOpCheckEff (x : HPort) (p : Part) (d : Desc) (s : State) : State := s.keyOp x p d 6 (d.len = 0) (keyCheckBody x p d)

/-- KEY_OP_CHECK (R611). -/
def execKeyOpCheck (x : HPort) (p : Part) (d : Desc) (s : State) : Host.Outcome State Fault Refusal := .next (keyOpCheckEff x p d s)

/-- STATUS's rules (R611). -/
def keyStatusBody (x : HPort) (p : Part) (d : Desc) (s : State) (_id : Nat) : CmdEnd :=
  s.keyFilter p d (fun s => s.keyOut x p d
    (wordsBytes [s.reg (Reg.KEY_SSTAT d.keySlot), s.reg (Reg.KEY_SREM d.keySlot), wd (s.rf F.KEY_STAT_TESTROOT), 0]))

/-- KEY_OP STATUS (R611). -/
def keyOpStatusEff (x : HPort) (p : Part) (d : Desc) (s : State) : State := s.keyOp x p d 7 (d.len = 0) (keyStatusBody x p d)

/-- KEY_OP_STATUS (R611). -/
def execKeyOpStatus (x : HPort) (p : Part) (d : Desc) (s : State) : Host.Outcome State Fault Refusal := .next (keyOpStatusEff x p d s)

/-- ERASE's rules (R611, R614). -/
def keyEraseBody (p : Part) (d : Desc) (s : State) (_id : Nat) : CmdEnd :=
  s.keyAudited p d (fun s =>
    let i := d.keySlot
    let t := s.eraseSlot i 1 (s.rf (F.KEY_SATTR_TAG i))
    let t := t.setReg (Reg.KEY_SREM i) (if t.on (F.KEY_SATTR_CNTEN i) then 0 else 0xFFFFFFFF)
    .done (t.storeSlot i) St.success 0 0)

/-- KEY_OP ERASE (R611). -/
def keyOpEraseEff (x : HPort) (p : Part) (d : Desc) (s : State) : State := s.keyOp x p d 8 (d.len = 0) (keyEraseBody p d)

/-- KEY_OP_ERASE (R611). -/
def execKeyOpErase (x : HPort) (p : Part) (d : Desc) (s : State) : Host.Outcome State Fault Refusal := .next (keyOpEraseEff x p d s)

end Sys2Proof.Machine
end

