-- ==== Sys2Proof/Machine/Riser.lean ====
section
/-! DEFINITION. The riser switch: forwarding, the copy table, transmission, ring redundancy, publications, MACsec, its
configuration and its counters (chapter "Riser Network"). -/

namespace Sys2Proof.Machine

/-! ## Sending (R481, R494) -/

/-- Frames that MACsec leaves unprotected: MAC control, 802.1AS and MRP test (R494). -/
def macsecExempt (data : List Byte) : Bool :=
  dstOf data = 0x0180C2000001 || dstOf data = 0x0180C200000E || dstOf data = 0x01154E000001

/-- The slot of a port's association (R503). -/
def State.saSlot (s : State) (r : Nat) (b : Bool) : Nat := if b then s.rf (F.RSR_MSEC_SLOTB r) else s.rf (F.RSR_MSEC_SLOTA r)

/-- Whether the key of the transmit association allows a frame to leave (R494, R608). -/
def State.canSend (s : State) (r : Nat) (data : List Byte) : Bool :=
  !s.on (F.RSR_PCTL_MSEC r) || macsecExempt data || s.keyUsable (s.saSlot r (s.on (F.RSR_MSEC_TXSA r))) 1 4

/-- A frame leaves on a port, counted, protected by MACsec where it is on. -/
def State.sendRiser (s : State) (r : Nat) (data : List Byte) : State :=
  let t := (s.countRsr 5 r 1).countRsr 9 r (data.length + 4)
  if !s.on (F.RSR_PCTL_MSEC r) || macsecExempt data then t.emit (.riserFrame r data true none)
  else
    let b := s.on (F.RSR_MSEC_TXSA r)
    let key := 2 * r + ofBool b
    let pn := Store.get natZero s.rsr.txPn key + 1
    let t := t.setRsr { t.rsr with txPn := Store.put natZero t.rsr.txPn key pn }
    (t.emit (.riserFrame r data true (some (ofBool b, pn)))).countFrame (s.saSlot r b) r 0

/-- A class that the port may serve now: not held by a pause (R495). -/
def State.classFree (s : State) (r c : Nat) : Bool := 6 ≤ c || !s.on (F.RSR_PSTAT_PAUSED r)

/-- The weights of TC0 to TC4 (R481). (DESIGN CHOICE, log 72) -/
def classWeight : Nat → Nat
  | 4 => 8
  | 3 => 4
  | 2 => 2
  | _ => 1

/-- A class with a frame that may leave. -/
def State.classReady (s : State) (r c : Nat) : Bool :=
  s.classFree r c && (match s.queue (riserTx r c) with
    | k :: _ => s.canSend r k.data
    | [] => false)

/-- What a class may still send in its round. -/
def State.classShare (s : State) (r c : Nat) : Nat := Store.get natZero s.rsr.share (8 * r + c)

/-- A new round of the weighted round robin. (DESIGN CHOICE, log 72) -/
def State.newRound (s : State) (r : Nat) : State :=
  forUpto 5 s (fun c t => t.setRsr { t.rsr with share := Store.put natZero t.rsr.share (8 * r + c) (classWeight c) })

/-- The class the port serves next: TC7, TC6, TC5 by priority, TC4 to TC0 by weighted round robin (R481).
(DESIGN CHOICE, log 72) -/
def State.nextClass (s : State) (r : Nat) : Option Nat × State :=
  match [7, 6, 5].find? (s.classReady r) with
  | some c => (some c, s)
  | none =>
    let low := [4, 3, 2, 1, 0].filter (s.classReady r)
    match low with
    | [] => (none, s)
    | _ =>
      let t := if low.any (fun c => s.classShare r c != 0) then s else s.newRound r
      match low.find? (fun c => t.classShare r c != 0) with
      | none => (none, t)
      | some c => (some c, t.setRsr { t.rsr with share := Store.put natZero t.rsr.share (8 * r + c) (t.classShare r c - 1) })

/-- A port sends its next queued frame; while it is `busy` with a preemptable frame only an express frame may leave, by
preemption (R481). -/
def riserFrameTransmitEff (r : Fin 4) (busy : Bool) (s : State) : State :=
  if !s.riserUp r then s
  else
    match s.nextClass r with
    | (none, _) => s
    | (some c, t) =>
      if busy && !(6 ≤ c && s.on (F.RSR_PSTAT_PRE r)) then s
      else
        match t.takePkt (riserTx r c) with
        | (none, t) => t
        | (some k, t) => (if busy then t.countRsr 11 r 1 else t).sendRiser r k.data

/-- RISER_FRAME_TRANSMIT (R481). -/
def execRiserFrameTransmit (r : Fin 4) (busy : Bool) (s : State) : Host.Outcome State Fault Refusal :=
  .next (riserFrameTransmitEff r busy s)

/-- The MAC of port `r` lacks data of the head frame of class `c`, a frame from ETH_TX that is longer than the threshold; any other
frame waits in its queue whole and cannot underrun (R496). -/
def transmitUnderrunEff (r : Fin 4) (c : Fin 8) (s : State) : State :=
  match s.queue (riserTx r c) with
  | [] => s
  | k :: _ =>
    if !s.riserUp r || k.src < 1024 || k.data.length ≤ 256 * s.rf (F.RSR_PTXTH_TH r) then s
    else
      match s.takePkt (riserTx r c) with
      | (none, t) => t
      | (some k, t) =>
        let th := min 36 (s.rf (F.RSR_PTXTH_TH r) + 1)
        let t := ((t.emit (.riserFrame r k.data false none)).setF (F.RSR_PTXTH_TH r) th).countRsr 6 r 1
        (t.report 0x1005 0 (wd r) (wd th) (wd k.data.length)).raiseRsr 3

/-- TRANSMIT_UNDERRUN (R496). -/
def execTransmitUnderrun (r : Fin 4) (c : Fin 8) (s : State) : Host.Outcome State Fault Refusal := .next (transmitUnderrunEff r c s)

/-! ## Rings (R485) -/

/-- A LAN forgets its learned addresses. -/
def State.flushLan (s : State) (l : Nat) : State := s.setRsr { s.rsr with fdb := s.rsr.fdb.filter (fun e => e.lan != l) }

/-- Topology changes wrap (R503). (PRESUMED, log 68) -/
def State.topologyChange (s : State) (l : Nat) : State :=
  (s.setF (F.RSR_MRPSTAT_TCHG l) (s.rf (F.RSR_MRPSTAT_TCHG l) + 1)).flushLan l

/-- A ring opens or closes (R485). A manager that closes its ring blocks one of its ring ports; which one is open.
(DESIGN CHOICE, log 70) -/
def State.ringChange (s : State) (l : Nat) (isOpen : Bool) : State :=
  if s.on (F.RSR_MRPSTAT_OPEN l) = isOpen then s
  else
    let t := (s.setF (F.RSR_MRPSTAT_OPEN l) (ofBool isOpen)).topologyChange l
    let t := (t.setF (F.RSR_MRPSTAT_BLKUP l) 0).setF (F.RSR_MRPSTAT_BLKDN l) 0
    let t := if isOpen || t.rf (F.RSR_MRP_ROLE l) != 2 then t
      else t.useFree.setF (if t.freeVal.toNat % 2 = 0 then F.RSR_MRPSTAT_BLKDN l else F.RSR_MRPSTAT_BLKUP l) 1
    (t.report 0x1003 0 (wd l) (wd (ofBool isOpen)) (wd (t.rf (F.RSR_MRP_ROLE l)))).raiseRsr 1

/-- A manager stops receiving its test frames (R485). -/
def mrpRingOpenDetectedEff (l : Fin 2) (s : State) : State :=
  if s.rf (F.RSR_MRP_ROLE l) != 2 || s.inReset 16 then s else s.ringChange l true

/-- MRP_RING_OPEN_DETECTED (R485). -/
def execMrpRingOpenDetected (l : Fin 2) (s : State) : Host.Outcome State Fault Refusal := .next (mrpRingOpenDetectedEff l s)

/-- An MRP frame (R485): a manager's own test frame closes its ring, a client takes the ring state from test frames and the
topology change. The frame's layout is that of IEC 62439-2. (PRESUMED, log 68) -/
def State.mrpFrame (s : State) (l : Nat) (data : List Byte) : State :=
  let role := s.rf (F.RSR_MRP_ROLE l)
  let b := data.drop (headerLen data)
  let ty := natBE ((b.drop 2).take 1)
  if role = 0 then s
  else if ty = 0x02 then
    if role = 2 then (if natBE ((b.drop 6).take 6) = s.riserMac then s.ringChange l false else s)
    else s.ringChange l (natBE ((b.drop 14).take 2) = 0)
  else if ty = 0x03 && role = 1 then s.topologyChange l
  else s

/-! ## Receiving (R478, R479, R487, R488) -/

/-- The PRP sequence number of a frame with a valid trailer of its LAN (R487). -/
def prpSeqOf (l : Nat) (data : List Byte) : Option Nat :=
  let t := data.drop (data.length - 6)
  let w := natBE ((t.drop 2).take 2)
  if headerLen data + 6 ≤ data.length && natBE (t.drop 4) = 0x88FB && w / 2 ^ 12 = 0xA + l
      && w % 2 ^ 12 = (data.length - headerLen data) % 2 ^ 12
  then some (natBE (t.take 2)) else none

/-- Duplicate discard (R487): the frame without its trailer, or nothing. -/
def State.prpTake (s : State) (r : Nat) (data : List Byte) : Option (List Byte) × State :=
  match prpSeqOf (lanOf r) data with
  | none => (some data, s)
  | some q =>
    let now := s.nowMs
    let live := s.rsr.nodes.filter (fun e => now < e.ms + s.rf F.RSR_PRP_FORGET)
    let body := data.take (data.length - 6)
    if live.any (fun e => e.mac = srcOf data && e.seq = q) then (none, s.countRsr 3 r 1)
    else
      let macs := (live.map PrpSeen.mac).eraseDups
      let add := macs.contains (srcOf data) || macs.length < 1024
      (some body, s.setRsr { s.rsr with
        nodes := if add then { mac := srcOf data, seq := q, ms := now } :: live else live })

/-- A frame goes to ring set 0 of the riser's host port (R488 row 10). -/
def State.riserToHost (s : State) (r : Nat) (data : List Byte) : State :=
  match s.prpTake r data with
  | (none, t) => t
  | (some body, t) =>
    ((t.countRsr 0 r 1).toHost (if t.on F.RSR_CTL_HPSEL then .hp1 else .hp0) 0 (mkPkt body (srcCode 3 r) 0 t.frameNo)).2

/-- A safety message for the island (R488 row 7, R461). -/
def State.riserToIsland (s : State) (r : Nat) (m : List Byte) : State :=
  if s.hasIsland && !s.inReset 15 && s.on F.SAF_STAT_PARAMOK && natLE ((m.drop 2).take 2) = s.rf F.SAF_SW_SADDR then
    (s.countRsr 0 r 1).setSaf { s.saf with inbox := s.saf.inbox ++ [((lanOf r = 1 : Bool), m)] }
  else s

/-- Whether a floor is named by a subscription point in force (R488 row 8). -/
def State.floorNamed (s : State) (fl : Nat) : Bool := s.allPoints.any (fun e => e.2.kind = 3 && e.2.stn = fl)

/-- Whether a valid filter entry of port `r` matches (R489, R214). -/
def State.riserFilter (s : State) (r dst : Nat) : Bool :=
  (List.range 16).any (fun e => let n := 16 * r + e
    s.on (F.RSR_AFH_VALID n) && (s.reg (Reg.RSR_AFL n)).toNat + s.rf (F.RSR_AFH_ADDR n) * 2 ^ 32 = dst)

/-- A frame with EtherType SETYPE and a KIND (R488). -/
def State.kindIs (s : State) (data : List Byte) (k : Nat) : Bool :=
  typeOf data = s.rf F.RSR_CTL_SETYPE && natLE ((data.drop (headerLen data)).take 1) % 16 = k

/-- The module's copy by rows 5 to 11 of R488. -/
def State.copyFrame (s : State) (r : Nat) (data : List Byte) : State :=
  let d := dstOf data
  let p := data.drop (headerLen data)
  if d = 0x01154E000001 || d = 0x01154E000002 then s.mrpFrame (lanOf r) data
  else if d = 0x01154E000100 then s
  else if d = 0x03505A000F00 && s.kindIs data 1 then s.riserToIsland r ((p.drop 4).take 64)
  else if d = 0x03505A000A00 && typeOf data = s.rf F.FLD_CTL_ETYPE && natLE (p.take 1) % 16 = 3 then
    if s.floorNamed (natLE ((p.drop 2).take 1) % 128) then
      ((s.countRsr 0 r 1).enqueue (416 + lanOf r) { mkPkt data (srcCode 3 r) 0 s.frameNo with point := true }).2
    else s
  else if d = s.riserMac && s.kindIs data 2 then
    match s.prpTake r data with
    | (none, t) => t
    | (some body, t) => ((t.countRsr 0 r 1).enqueue 418 (mkPkt body (srcCode 3 r) 0 t.frameNo)).2
  else if d = s.riserMac || s.riserFilter r d || (d = 0xFFFFFFFFFFFF && s.on F.RSR_CTL_BCAST) || s.on F.RSR_CTL_PROM then
    s.riserToHost r data
  else s.countRsr 2 r 1

/-- The other port of a LAN's bridge. -/
def ringPeer (r : Nat) : Nat := if r % 2 = 0 then r + 1 else r - 1

/-- Whether the bridge forwards a frame from port `r` (R478, R479, R485, R488). -/
def State.forwards (s : State) (r : Nat) (data : List Byte) : Bool :=
  let e := ringPeer r
  let d := dstOf data
  let mrp := d = 0x01154E000001 || d = 0x01154E000002
  s.riserUp e && d != s.riserMac && (isGroup d || s.learned (lanOf r) d != some r)
    && (if mrp then s.rf (F.RSR_MRP_ROLE (lanOf r)) != 2 else !s.mrpBlocked r && !s.mrpBlocked e)

/-- Forward a good frame: by cut-through on an idle port, through its queue otherwise (R479). (DEDUCED, log 71) -/
def State.forward (s : State) (r : Nat) (data : List Byte) (idle : Bool) : State :=
  let e := ringPeer r
  let c := classOf data
  if !s.forwards r data then s
  else if idle && s.classFree e c && s.canSend e data then s.sendRiser e data
  else s.toRiser e c (mkPkt data (srcCode 3 r) 0 s.frameNo)

/-- A pause frame (R495). -/
def State.takePause (s : State) (r : Nat) (data : List Byte) : State :=
  let q := natBE ((data.drop (headerLen data + 2)).take 2)
  let t := (s.setF (F.RSR_PSTAT_PAUSED r) (ofBool (q != 0))).setF (F.RSR_PSTAT_PQ r) q
  (t.countRsr 4 r 1).raiseRsr 4

/-- An Announce message (R493): the module follows the better priority vector of the domain, unless it is itself
grandmaster with a better priority1; event 0x1009 tells a new grandmaster. (PRESUMED, log 69) -/
def State.takeAnnounce (s : State) (r : Nat) (data : List Byte) : State :=
  if natLE ((data.drop 14).take 1) % 16 != 0xB then s
  else
    let vec := natBE ((data.drop 61).take 14)
    let steps := natBE ((data.drop 75).take 2)
    let l := lanOf r
    let old := Store.get noMaster s.rsr.gm l
    let better := match old with
      | none => !(s.on F.RSR_TSCTL_GMCAP && s.rf F.RSR_TSCTL_PRIO1 < vec / 2 ^ 104)
      | some g => vec < g.vec || (g.port = r && vec != g.vec)
    if !better then s
    else
      let g : GrandMaster := { vec := vec, steps := steps, port := r }
      let t := s.setRsr { s.rsr with gm := Store.put noMaster s.rsr.gm l (some g) }
      let same : Bool := match old with
        | some o => o.vec % 2 ^ 64 = vec % 2 ^ 64
        | none => false
      if same then t else t.report 0x1009 0 (wd l) (wd (vec % 2 ^ 32)) (wd steps)

/-- The MACsec check of a received frame (R494): whether it passes, and the state. -/
def State.macsecCheck (s : State) (r : Nat) (data : List Byte) (sec : Option (Bool × Nat × Bool)) : Bool × State :=
  if !s.on (F.RSR_PCTL_MSEC r) || (macsecExempt data && sec = none) then (true, s)
  else
    let bad : Bool × State := (false, ((s.countRsr 10 r 1).macsecFail r 0))
    match sec with
    | none => bad
    | some (b, pn, ok) =>
      let key := 2 * r + ofBool b
      let next := Store.get natZero s.rsr.rxPn key
      if !ok || !s.keyUsable (s.saSlot r b) 1 4 || pn + s.rf (F.RSR_MSEC_REPLAY r) < next then bad
      else
        let t := s.setRsr { s.rsr with rxPn := Store.put natZero s.rsr.rxPn key (max next (pn + 1)) }
        (true, t.countFrame (s.saSlot r b) r 1)

/-- A frame received on riser port `r` (R488). A frame that fails after its egress has begun is ended there with a bad FCS
(R479). (DEDUCED, log 71) -/
def riserFrameReceivedEff (r : Fin 4) (data : List Byte) (m : RiserRx) (s : State) : State :=
  let d := dstOf data
  let cut (t : State) : State :=
    if m.idle && 64 ≤ data.length && d / 16 != 0x0180C200000 && s.forwards r data && s.classFree (ringPeer r) (classOf data)
    then (t.emit (.riserFrame (ringPeer r) data false none)).countRsr 1 r 1 else t
  if !s.riserUp r then s
  else if m.err || data.length < 60 || 9028 < data.length then
    let t := cut s
    if t.rsrCnt 1 r = s.rsrCnt 1 r then s.countRsr 1 r 1 else t
  else
    let s := s.countRsr 8 r (data.length + 4)
    match s.macsecCheck r data m.sec with
    | (false, t) => cut t
    | (true, s) =>
      if d = 0x0180C2000001 && typeOf data = 0x8808 && natBE ((data.drop (headerLen data)).take 2) = 1 then s.takePause r data
      else if d = 0x0180C200000E then s.takeAnnounce r data
      else if d / 16 = 0x0180C200000 then s.countRsr 2 r 1
      else if (match tagOf data with | some t => t.2 != 0 && t.2 != s.rf F.RSR_CTL_VID | none => false) then s.countRsr 2 r 1
      else (((s.learn r (srcOf data)).forward r data m.idle)).copyFrame r data

/-- RISER_FRAME_RECEIVED (R488). -/
def execRiserFrameReceived (r : Fin 4) (data : List Byte) (m : RiserRx) (s : State) : Host.Outcome State Fault Refusal :=
  .next (riserFrameReceivedEff r data m s)

/-- The pause time runs out (R495). -/
def pauseExpiryEff (r : Fin 4) (s : State) : State := (s.setF (F.RSR_PSTAT_PAUSED r) 0).setF (F.RSR_PSTAT_PQ r) 0

/-- PAUSE_EXPIRY (R495). -/
def execPauseExpiry (r : Fin 4) (s : State) : Host.Outcome State Fault Refusal := .next (pauseExpiryEff r s)

/-! ## Own traffic (R486, R490 to R493) -/

/-- PRP supervision frames (R486); their layout is that of IEC 62439-3. (PRESUMED, log 67) -/
def prpSupervisionSendEff (s : State) : State :=
  if s.inReset 16 then s
  else
    let q := s.rsr.supSeq
    let t := s.setRsr { s.rsr with supSeq := (q + 1) % 65536 }
    let f := bytesBE 6 0x01154E000100 ++ bytesBE 6 t.riserMac ++ bytesBE 2 0x88FB ++ bytesBE 2 1 ++ bytesBE 2 q
      ++ bytesBE 1 20 ++ bytesBE 1 6 ++ bytesBE 6 t.riserMac ++ bytesBE 2 0
    t.sendOwn 0 (mkPkt f (srcCode 3 0) 0 t.frameNo)

/-- PRP_SUPERVISION_SEND (R486). -/
def execPrpSupervisionSend (s : State) : Host.Outcome State Fault Refusal := .next (prpSupervisionSendEff s)

/-- The points that the last publish, that of frame `p`, hands to the riser scheduler, in ascending index (R277). -/
def State.published (s : State) (p : Nat) : List (Nat × Point) :=
  s.ptx.txTbl.filter (fun e => e.2.rpub && p % 2 ^ e.2.rate = e.1 % 2 ^ e.2.rate)

/-- Groups of `n` entries; `fuel` bounds their number. -/
def groupsOf {α : Type} (n : Nat) : Nat → List α → List (List α)
  | 0, _ => []
  | fuel + 1, l => if l.isEmpty then [] else l.take n :: groupsOf n fuel (l.drop n)

/-- One publication frame (R490). -/
def State.pubFrame (s : State) (p : Nat) (last : Bool) (es : List (Nat × Point)) : List Byte :=
  s.riserFrame 0x03505A000A00 5 (s.rf F.FLD_CTL_ETYPE)
    ([0x13] ++ bytesLE 1 (ofBool last) ++ bytesLE 1 (s.rf F.FLD_CTL_FLOOR) ++ [0] ++ bytesLE 2 es.length ++ [0, 0] ++ bytesLE 4 p
      ++ es.flatMap (fun e => bytesLE 2 e.1 ++ [0, 0] ++ wordBytes (Store.get wordZero s.ptx.txImg e.1)
        ++ wordBytes (Store.get wordZero s.ptx.txQual e.1)))

/-- START after the frame's beginning the publications of the frame before leave in TC5 (R491). -/
def publicationSendEff (s : State) : State :=
  if !s.active || s.twn.fresh || s.inReset 16 || s.inReset 10 then s
  else
    let p := s.frameNo - 1
    let gs := groupsOf 120 547 (s.published p)
    forUpto gs.length s (fun i t =>
      t.sendOwn 5 { mkPkt (t.pubFrame p (i + 1 = gs.length) (gs.getD i [])) (srcCode 3 0) 0 t.frameNo with point := true })

/-- PUBLICATION_SEND (R491). -/
def execPublicationSend (s : State) : Host.Outcome State Fault Refusal := .next (publicationSendEff s)

/-- Own publications that wait in riser transmit queues. -/
def State.unsentPubs (s : State) : Nat :=
  (List.range 4).foldl (fun a r => a + ((s.queue (riserTx r 5)).filter Pkt.point).length) 0

/-- 900 µs after the frame's beginning (R492). -/
def publicationLateCheckEff (s : State) : State :=
  if !s.active || s.unsentPubs = 0 then s
  else (s.report 0x1006 0 (wd (s.frameNo - 1)) (wd s.unsentPubs) 0).raiseRsr 2

/-- PUBLICATION_LATE_CHECK (R492). -/
def execPublicationLateCheck (s : State) : Host.Outcome State Fault Refusal := .next (publicationLateCheckEff s)

/-- Sync messages leave on every port whose link is up, except a LAN's slave port (R493). (PRESUMED, log 69) -/
def syncTransmitEff (s : State) : State :=
  forUpto 4 s (fun r t =>
    let slave := match Store.get noMaster t.rsr.gm (lanOf r) with
      | some g => g.port = r
      | none => false
    let master := (Store.get noMaster t.rsr.gm (lanOf r)).isSome || t.on F.RSR_TSCTL_GMCAP
    if t.riserUp r && !slave && master then t.emit (.syncMessage r t.time.sec t.time.frac) else t)

/-- SYNC_TRANSMIT (R493). -/
def execSyncTransmit (s : State) : Host.Outcome State Fault Refusal := .next (syncTransmitEff s)

/-! ## Links and optics (R477, R481, R484, R497) -/

/-- Whether an optic of wavelength `nm` fits a speed: 850 nm or 1310 nm windows of the standards of R476. -/
def wavelengthFits (slow : Bool) (nm : Nat) : Bool :=
  (840 ≤ nm && nm ≤ 860) || (if slow then 1260 ≤ nm && nm ≤ 1355 else 1295 ≤ nm && nm ≤ 1325)

/-- Whether the optic of a port is refused (R477): power class 1 is 1.0 W, 2 is 1.5 W, higher ones are above. -/
def State.opticRefused (s : State) (r : Nat) : Bool :=
  match Store.get noOptic s.rsr.optics r with
  | some (cls, nm) => 2 < cls || !wavelengthFits (s.on (F.RSR_PCTL_SPEED r)) nm
  | none => false

/-- What a port's indicator shows: 2 flashing while the optic reports LOS or TXFLT, 1 lit while the link is up, 0 dark (R685).
(DEDUCED, log 183) -/
def State.portMode (s : State) (r : Nat) : Nat :=
  if s.on (F.RSR_PSTAT_LOS r) || s.on (F.RSR_PSTAT_TXFLT r) then 2 else if s.on (F.RSR_PSTAT_LINK r) then 1 else 0

/-- The indicator follows a change of its port; `was` is what it showed. -/
def State.showPort (s : State) (r was : Nat) : State := if s.portMode r = was then s else s.emit (.portLight r (s.portMode r))

/-- What the optic of a port reports: loss of signal and transmit fault (R503). -/
def State.opticReports (s : State) (r : Nat) (los txFlt : Bool) : State :=
  ((s.setF (F.RSR_PSTAT_LOS r) (ofBool los)).setF (F.RSR_PSTAT_TXFLT r) (ofBool txFlt)).showPort r (s.portMode r)

/-- A riser link comes up; `pre` says that preemption verification succeeded. The optic of a link that is up reports neither LOS nor
TXFLT. (DEDUCED, log 183) -/
def riserLinkUpEff (r : Fin 4) (pre : Bool) (s : State) : State :=
  if !s.on (F.RSR_PCTL_EN r) || s.on (F.RSR_PSTAT_LINK r) || s.inReset 16 || s.opticRefused r then s
  else
    let want := s.on (F.RSR_PCTL_PRE r)
    let t := (s.setF (F.RSR_PSTAT_LINK r) 1).setF (F.RSR_PSTAT_PRE r) (ofBool (want && pre))
    let t := (t.showPort r (s.portMode r)).opticReports r false false
    let t := (t.report 0x1001 0 (wd r) (wd (t.rf (F.RSR_PCTL_SPEED r))) (wd (ofBool (want && pre)))).raiseRsr 0
    if want && !pre then t.report 0x1007 0 (wd r) 0 0 else t

/-- RISER_LINK_UP (R481). -/
def execRiserLinkUp (r : Fin 4) (pre : Bool) (s : State) : Host.Outcome State Fault Refusal := .next (riserLinkUpEff r pre s)

/-- Frames queued for a port are flushed (R497). -/
def State.flushPort (s : State) (r : Nat) : State :=
  forUpto 8 s (fun c t => (t.flushNow (riserTx r c)).countRsr 7 r (t.queue (riserTx r c)).length)

/-- A riser link falls (R497, R485). -/
def State.riserLinkFalls (s : State) (r : Nat) : State :=
  if !s.on (F.RSR_PSTAT_LINK r) then s
  else
    let n := (List.range 8).foldl (fun a c => a + (s.queue (riserTx r c)).length) 0
    let t := (s.flushPort r).setF (F.RSR_PSTAT_LINK r) 0
    let t := ((t.setF (F.RSR_PSTAT_PRE r) 0).setF (F.RSR_PSTAT_PAUSED r) 0).setF (F.RSR_PSTAT_PQ r) 0
    let t := t.showPort r (s.portMode r)
    let t := (t.report 0x1002 0 (wd r) (wd n) 0).raiseRsr 0
    if t.rf (F.RSR_MRP_ROLE (lanOf r)) = 0 then t else t.ringChange (lanOf r) true

/-- A riser link falls, with what the optic then reports (R497, R503). -/
def riserLinkDownEff (r : Fin 4) (los txFlt : Bool) (s : State) : State :=
  if !s.on (F.RSR_PSTAT_LINK r) then s else (s.riserLinkFalls r).opticReports r los txFlt

/-- RISER_LINK_DOWN (R497). -/
def execRiserLinkDown (r : Fin 4) (los txFlt : Bool) (s : State) : Host.Outcome State Fault Refusal :=
  .next (riserLinkDownEff r los txFlt s)

/-- A refused optic drops its port's link, with event 0x1008 (R477). -/
def State.judgeOptic (s : State) (r : Nat) : State :=
  match Store.get noOptic s.rsr.optics r with
  | some (cls, nm) => if s.opticRefused r then (s.riserLinkFalls r).report 0x1008 0 (wd r) (wd cls) (wd nm) else s
  | none => s

/-- The module reads the optic of a cage (R476, R477): its power class, its wavelength and what it reports. -/
def opticInsertedEff (r : Fin 4) (cls nm : Nat) (los txFlt : Bool) (s : State) : State :=
  if s.inReset 16 then s
  else
    let t := (s.setF (F.RSR_PSTAT_PRESENT r) 1).opticReports r los txFlt
    (t.setRsr { t.rsr with optics := Store.put noOptic t.rsr.optics r (some (cls, nm)) }).judgeOptic r

/-- OPTIC_INSERTED (R477). -/
def execOpticInserted (r : Fin 4) (cls nm : Nat) (los txFlt : Bool) (s : State) : Host.Outcome State Fault Refusal :=
  .next (opticInsertedEff r cls nm los txFlt s)

/-- A read of a counter (R504). -/
def rsrCntlReadEff (x : HPort) (k : Fin 12) (r : Fin 4) (s : State) : State :=
  let off := Reg.RSR_CNTL (4 * k.val + r.val)
  if s.inReset 16 then s.emit (.completerAbort x off)
  else
    let n := s.rsrCnt k r
    let t := s.showRead x off 4 (wd (n % 2 ^ 32))
    let t := t.setReg (Reg.RSR_CNTH x.num) (wd (n / 2 ^ 32))
    t.setRsr { t.rsr with cnt := Store.put natZero t.rsr.cnt (4 * k.val + r.val) 0 }

/-- RSR_CNTL_READ (R504). -/
def execRsrCntlRead (x : HPort) (k : Fin 12) (r : Fin 4) (s : State) : Host.Outcome State Fault Refusal :=
  .next (rsrCntlReadEff x k r s)

/-! ## Configuration (R499, R500) -/

/-- The registers an image carries, in its order. -/
def riserImageRegs : List Nat :=
  [Reg.RSR_CTL, Reg.RSR_SUBCTL, Reg.RSR_PRP, Reg.RSR_TSCTL] ++ (List.range 2).map Reg.RSR_MRP ++ (List.range 4).map Reg.RSR_PCTL
    ++ (List.range 4).map Reg.RSR_MSEC ++ (List.range 4).map Reg.RSR_PTXTH
    ++ (List.range 64).flatMap (fun n => [Reg.RSR_AFL n, Reg.RSR_AFH n])

/-- A slot holds a committed AES-256 key. -/
def State.holdsAes (s : State) (i : Nat) : Bool := (s.slotKey i).key.isSome && s.ktype i = 1

/-- Word `i` of an image offends (R499, R502, R503). -/
def State.riserWordBad (s : State) (ws : List Word) (i : Nat) : Bool :=
  let v := ws.getD i 0
  !wordOk (riserImageRegs.getD i 0) v
  || (i = 0 && fieldOf v 31 16 < 0x600)
  || (i = 1 && (fieldOf v 9 0 < 50 || 500 < fieldOf v 9 0))
  || (i = 2 && (fieldOf v 23 16 = 0 || fieldOf v 15 0 < 10 || 1000 < fieldOf v 15 0))
  || (i = 3 && 0 < fieldOf v 15 8 && fieldOf v 15 8 < 0xFB)
  || (4 ≤ i && i ≤ 5 && fieldOf v 31 30 = 3)
  || (6 ≤ i && i ≤ 9 && fieldOf v 30 29 = 3)
  || (10 ≤ i && i ≤ 13 && fieldOf (ws.getD (i - 4) 0) 27 27 = 1
      && (!s.holdsAes (fieldOf v 21 16) || !s.holdsAes (fieldOf v 29 24)))
  || (14 ≤ i && i ≤ 17 && (fieldOf v 5 0 = 0 || 36 < fieldOf v 5 0))

/-- A riser configuration (R499, R500): it is stored at once and applied at the next frame boundary. -/
def riserCfgBody (ws : List Word) (s : State) (_id : Nat) : CmdEnd :=
  match (List.range 146).find? (s.riserWordBad ws) with
  | some i => rejected s (wd i) 0
  | none => accepted (s.setRsr { s.rsr with img := some (ws, true), imgPend := some ws })

/-- CFG_LOAD of a riser configuration (R499). -/
def cfgLoadRiserConfigurationEff (x : HPort) (p : Part) (d : Desc) (s : State) : State :=
  s.cfgLoad x p d 0x0B (d.len = 584) true riserCfgBody

/-- CFG_LOAD_RISER_CONFIGURATION (R499). -/
def execCfgLoadRiserConfiguration (x : HPort) (p : Part) (d : Desc) (s : State) : Host.Outcome State Fault Refusal :=
  .next (cfgLoadRiserConfigurationEff x p d s)

/-- Put an image into force: links and MRP restart where their settings change (R500), the optics' supplies follow EN and their
wavelengths are held against a new SPEED (R477). -/
def State.applyRiser (s : State) (ws : List Word) : State :=
  let t := forUpto 4 s (fun r t =>
    if fieldOf (t.reg (Reg.RSR_PCTL r)) 31 28 = fieldOf (ws.getD (6 + r) 0) 31 28 then t else t.riserLinkFalls r)
  let t := forUpto 2 t (fun l t =>
    if fieldOf (t.reg (Reg.RSR_MRP l)) 31 28 = fieldOf (ws.getD (4 + l) 0) 31 28 then t
    else ((t.setF (F.RSR_MRPSTAT_OPEN l) 0).setF (F.RSR_MRPSTAT_BLKUP l) 0).setF (F.RSR_MRPSTAT_BLKDN l) 0)
  let u := (riserImageRegs.zip ws).foldl (fun t e => t.setReg e.1 e.2) t
  let u := forUpto 4 u (fun r u =>
    let u := if u.on (F.RSR_PCTL_EN r) = t.on (F.RSR_PCTL_EN r) then u else u.emit (.opticSupply r (u.on (F.RSR_PCTL_EN r)))
    if u.on (F.RSR_PCTL_SPEED r) = t.on (F.RSR_PCTL_SPEED r) then u else u.judgeOptic r)
  u.setF F.RSR_STAT_NOCFG 0

/-- The accepted image takes effect at the frame boundary (R500). -/
def State.riserBoundary (s : State) : State :=
  match s.rsr.imgPend with
  | none => s
  | some ws => (s.setRsr { s.rsr with imgPend := none }).applyRiser ws

/-- The start loads the stored image (R500). -/
def State.startRiser (s : State) : State :=
  match s.rsr.img with
  | some (ws, true) => s.applyRiser ws
  | _ => (s.setF F.RSR_STAT_NOCFG 1).report 0x100B 0 0 0 0

/-- A block reset of RSR switches the transmitters off (R497). -/
def State.rsrResetIn (s : State) : State :=
  let t := forUpto 4 s (fun r t => t.riserLinkFalls r)
  let t := t.setRsr { t.rsr with fdb := [], nodes := [], gm := [] }
  (t.flushNow 416).flushNow 417 |>.flushNow 418

/-! ## ETH_TX (R218, R486) -/

/-- ETH_TX's rules (R218): a tenant's frame on a field port carries the port's own source address.
(DESIGN CHOICE, log 34) -/
def ethTxBody (x : HPort) (p : Part) (d : Desc) (s : State) (id : Nat) : CmdEnd :=
  let i := fieldOf d.w2 6 0
  if i = 64 then
    match s.dmaRead x p d.addr d.len with
    | (none, t) => .done t St.dmaError 0 0
    | (some bs, t) => t.stage x p id (1024 + classOf bs) bs
  else if 64 < i then .refuse s 0 i St.noObject
  else
    let tag := s.rf (F.FLD_PCTL_TAG i)
    if s.filterWrite p (some tag) 0 i != St.success then .refuse s 0 i St.noObject
    else
      match s.dmaRead x p d.addr d.len with
      | (none, t) => .done t St.dmaError 0 0
      | (some bs, t) =>
        if p.val != 0 && (etherOf bs).1 = t.rf F.FLD_CTL_ETYPE then .refuse t 0 i St.denied
        else if !t.active || !t.on (F.FLD_PSTAT_LINK i) then .done t St.state 0 0
        else
          let bs := if p.val = 0 then bs else bs.take 6 ++ bytesBE 6 (t.portMac i) ++ bs.drop 12
          (t.stage x p id (fieldTx i) bs).audited p tag 0 i 0x58

/-- ETH_TX (R218): to PORT 64, the riser, it is a configuration-class command (R93, R94, R156). -/
def ethTxEff (x : HPort) (p : Part) (d : Desc) (s : State) : State :=
  let i := fieldOf d.w2 6 0
  s.command x p d (d.opcode = 0x58) (d.buf 0x7F 0 0 14 (if i = 64 then 9018 else 1514))
    (64 ≤ i || s.fieldFitted i) (i = 64) (ethTxBody x p d)

/-- ETH_TX (R218). -/
def execEthTx (x : HPort) (p : Part) (d : Desc) (s : State) : Host.Outcome State Fault Refusal := .next (ethTxEff x p d s)

end Sys2Proof.Machine
end

