-- ==== Sys2Proof/Machine/Twin.lean ====
section
/-! DEFINITION. Twin operation: the roles and the claim, the frame record, the standby's comparison and application,
eligibility, health and giving up control (chapter "Twin Operation and Fail-Over"). -/

namespace Sys2Proof.Machine

/-! ## Small parts -/

/-- Replace the state of twin operation. -/
def State.setTwn (s : State) (t : TwnSt) : State := { s with twn := t }

/-- Set a bit of TWN_EVT (R533). -/
def State.raiseTwn (s : State) (bit : Nat) : State := s.raise Reg.TWN_EVT Reg.TWN_IEN 17 bit

/-- The role (R508): 0 STANDBY, 1 CLAIMING, 2 ACTIVE. -/
def State.role (s : State) : Nat := s.rf F.TWN_STAT_ROLE

/-- Change the role. (DEDUCED, log 130) -/
def State.setRole (s : State) (r : Nat) : State := (s.setF F.TWN_STAT_ROLE r).raiseTwn 0

/-- Drive ACT_OUT (R508). -/
def State.setAct (s : State) (b : Bool) : State := (s.setF F.TWN_STAT_ACT (ofBool b)).emit (.actOut b)

/-- The low 32 bits of the current frame number. -/
def State.frameLow (s : State) : Word := s.frameWords.1

/-- Whether a self-diagnosis cause is pending (R523): one that waits for a system reset, the island's request, or a block whose
reset drops ACT. (DEDUCED, log 81) -/
def State.dropPending (s : State) : Bool :=
  s.twn.causes != [] || s.on F.SAF_STAT_REQDROP || [10, 11, 12, 14].any (fun b => s.inReset b)

/-- What the peer has last told, if anything. -/
def State.peerHas (s : State) (f : PeerNote → Bool) : Bool :=
  match s.twn.peer with
  | some n => f n
  | none => false

/-- TWN_ELIG (R521). (DEDUCED, log 79) -/
def State.twnElig (s : State) : Nat :=
  let bits : List Bool :=
    [!s.on F.TWN_CFG_MODE || !s.on F.TWN_CTL_ACTEN,
     !s.on F.TWN_STAT_LINK,
     !s.on F.TWN_STAT_SYNC,
     s.twn.lag != 0,
     s.peerHas (fun n => n.cap0 != s.reg Reg.SYS_CAP0 || n.cap1 != s.reg Reg.SYS_CAP1),
     s.reg Reg.TWN_CFGSIG != s.reg Reg.TWN_PCFGSIG,
     !s.variant.lacks 15 && s.peerHas (fun n => n.pcrc != s.reg Reg.SAF_PCRC || n.sw != s.reg Reg.SAF_SW),
     s.twn.cmpBad,
     s.dropPending,
     !s.on F.UPD_STAT_CONF || s.rf F.UPD_STAT_RUNSLOT = 3]
  bits.zipIdx.foldl (fun a e => a + ofBool e.1 * 2 ^ e.2) 0

/-- The health word (R522) with the frame number its last field carries. -/
def State.healthWord (s : State) (frame : Nat) : Word :=
  wd (s.role * 2 ^ 30 + s.rf F.TWN_STAT_LINK * 2 ^ 29 + s.rf F.TWN_STAT_SYNC * 2 ^ 28 + ofBool (s.twnElig = 0) * 2 ^ 27
    + ofBool s.twn.missed * 2 ^ 26 + ofBool s.twn.mism * 2 ^ 25 + ofBool s.dropPending * 2 ^ 24
    + min s.twn.mcnt 255 * 2 ^ 16 + frame % 2 ^ 16)

/-- A health word changes: a change in [29:24] sets HEALTH and records event 0x1104 (R522). (DEDUCED, log 82) -/
def State.healthChange (s : State) (off : Nat) (w : Word) : State :=
  let old := s.reg off
  let t := s.setReg off w
  if fieldOf old 29 24 = fieldOf w 29 24 then t
  else (t.raiseTwn 1).report 0x1104 0 (t.reg Reg.TWN_HEALTH) (t.reg Reg.TWN_PHEALTH) (wd t.twnElig)

/-- What this module tells its peer besides the mirrored state. -/
def State.ownNote (s : State) : PeerNote where
  health := s.reg Reg.TWN_HEALTH
  elig := wd s.twnElig
  sig := s.reg Reg.TWN_CFGSIG
  cap0 := s.reg Reg.SYS_CAP0
  cap1 := s.reg Reg.SYS_CAP1
  pcrc := s.reg Reg.SAF_PCRC
  sw := s.reg Reg.SAF_SW
  version := s.reg Reg.UPD_RUNVER
  confirmed := s.on F.UPD_STAT_CONF

/-- Take what the peer tells (R520 to R522, R633). (DEDUCED, log 82) -/
def State.takeNote (s : State) (n : PeerNote) : State :=
  let t := s.setTwn { s.twn with peer := some n }
  let t := t.setF F.TWN_STAT_PEERELIG (ofBool (n.elig = 0))
  let t := (t.setReg Reg.TWN_PCFGSIG n.sig).setReg Reg.UPD_PEERVER n.version
  let t := t.setF F.UPD_STAT_PEERCONF (ofBool n.confirmed)
  t.healthChange Reg.TWN_PHEALTH n.health

/-- Resynchronisation starts again (R519). -/
def State.resyncStart (s : State) : State :=
  (s.setF F.TWN_STAT_SYNC 0).setTwn { s.twn with cover := [], resync := 0, expect := none }

/-- A record is missed (R516, R521). (DEDUCED, log 75) -/
def State.recordMissed (s : State) (reason : Nat) : State :=
  let expected := match s.twn.expect with
    | some n => n
    | none => s.frameNo - 1
  let t := (s.addSat F.TWN_RECMISS_CNT 1).report 0x1106 0 (wd (expected % 2 ^ 32)) (wd reason) 0
  let t := t.setTwn { t.twn with missed := true, lag := 16 }
  t.resyncStart

/-! ## The mirrored state (R513) -/

/-- What a loop slot's item carries (R363). -/
def State.loopItem (s : State) (i : Nat) : RecLoop :=
  let k := s.slot i
  { stat := s.reg (Reg.CLE_SSTAT i), u := s.reg (Reg.CLE_SOUT i), iPrev := k.iPrev, dPrev := k.dPrev, pvPrev := k.pvPrev,
    sp1 := k.sp1, sp2 := k.sp2 }

/-- The item of a point. -/
def State.pointItem (s : State) (i : Nat) (p : Point) : RecItem :=
  if p.isIn then .input i (s.img i) else .slot i (s.img i) (s.rawQual i)

/-- The mirrored state in the order of R513. -/
def State.mirrorItems (s : State) : List RecItem :=
  let pts := s.allPoints
  let outs := (pts.filter (fun e => !e.2.isIn)).map (fun e => s.pointItem e.1 e.2)
  let ins := (pts.filter (fun e => e.2.isIn)).map (fun e => s.pointItem e.1 e.2)
  let forces := s.forceList.map (fun e => RecItem.force e.1 (some e.2))
  let tasks := (List.range 16).map (fun t => RecItem.task t (s.taskState t) (s.task t).late)
  let marks := s.lge.markers.map (fun e => RecItem.marker (e.1 / 4096) (e.1 % 4096) e.2)
  let tims := s.lge.timers.map (fun e => RecItem.timer (e.1 / 256) (e.1 % 256) e.2)
  let cnts := s.lge.counters.map (fun e => RecItem.counter (e.1 / 256) (e.1 % 256) e.2)
  let loops := (s.cle.slots.map Prod.fst).map (fun i => RecItem.loop i (s.loopItem i))
  let meters := ((List.range 72).filter (circValid s.mtr.circ)).map (fun c =>
    RecItem.meter c (s.accums c) (Store.get natZero s.mtr.fltfr c))
  let residues := (List.range 8).map (fun k => RecItem.residue k (Store.get natZero s.mtr.residue k))
  outs ++ ins ++ forces ++ tasks ++ marks ++ tims ++ cnts ++ loops ++ meters ++ residues

/-- The kind and the index of an item. -/
def RecItem.key : RecItem → Nat × Nat
  | .slot i _ _ => (0, i)
  | .input i _ => (1, i)
  | .force i _ => (2, i)
  | .task t _ _ => (3, t)
  | .marker t m _ => (4, 4096 * t + m)
  | .timer t n _ => (5, 256 * t + n)
  | .counter t n _ => (6, 256 * t + n)
  | .loop i _ => (7, i)
  | .meter c _ _ => (8, c)
  | .residue k _ => (9, k)

/-- The item that says an entry has returned to nothing, for the kinds whose entries are listed only while they hold something. -/
def RecItem.gone : RecItem → Option RecItem
  | .force i _ => some (.force i none)
  | .marker t m _ => some (.marker t m false)
  | .timer t n _ => some (.timer t n (LgeTimer.dflt 0))
  | .counter t n _ => some (.counter t n (LgeCounter.dflt 0))
  | .slot _ _ _ => none
  | .input _ _ => none
  | .task _ _ _ => none
  | .loop _ _ => none
  | .meter _ _ _ => none
  | .residue _ _ => none

/-- Items that every record carries (R513). -/
def RecItem.always : RecItem → Bool
  | .task _ _ _ => true
  | .loop _ l => fieldOf l.stat 31 30 = 1
  | .meter _ _ _ => true
  | .residue _ _ => true
  | .slot _ _ _ => false
  | .input _ _ => false
  | .force _ _ => false
  | .marker _ _ _ => false
  | .timer _ _ _ => false
  | .counter _ _ _ => false

/-- The items of a record without its refresh slice: what has changed since the last record, and what every record carries. -/
def changedItems (old new : List RecItem) : List RecItem :=
  let dead := old.filterMap (fun i => if new.any (fun j => j.key = i.key) then none else i.gone)
  new.filter (fun i => i.always || !old.contains i) ++ dead

/-- Cell `j` of the mirrored state as the refresh slices walk it. -/
def State.mirrorCell (s : State) (j : Nat) : Option RecItem :=
  if j < 65536 then
    if (s.pt j).valid then some (s.pointItem j (s.pt j)) else none
  else if j < 131072 then some (.force (j - 65536) (s.force (j - 65536)))
  else if j < 196608 then some (.marker ((j - 131072) / 4096) (j % 4096) (s.marker ((j - 131072) / 4096) (j % 4096)))
  else if j < 200704 then some (.timer ((j - 196608) / 256) (j % 256) (s.timer ((j - 196608) / 256) (j % 256)))
  else if j < 204800 then some (.counter ((j - 200704) / 256) (j % 256) (s.counter ((j - 200704) / 256) (j % 256)))
  else if j < 205056 then some (.loop (j - 204800) (s.loopItem (j - 204800)))
  else none

/-- The slices of one rotation, at most 2,000 (R514). -/
def recSlices : Nat := Config.recSlices % 2000 + 1

/-- The items of refresh slice `k`. -/
def State.sliceItems (s : State) (k : Nat) : List RecItem :=
  let w := ceilDiv 205056 recSlices
  (List.range w).filterMap (fun j => s.mirrorCell (k * w + j))

/-- The items that fit into a record of 280 KiB, and whether some were left out (R513, R514).
(DESIGN CHOICE, log 74) -/
def fitItems : Nat → List RecItem → List RecItem × Bool
  | _, [] => ([], false)
  | room, i :: is =>
    let n := Config.itemSize i.key.1
    if room < n then ([], true)
    else
      let (l, cut) := fitItems (room - n) is
      (i :: l, cut)

/-- The count at which the next frame begins and the join gap before it (R58, R59). -/
def State.nextFrame (s : State) : Nat × Nat :=
  let stop := match s.time.oldFrame with
    | some (sec, frac, j) => sec.toNat * 2 ^ 32 + frac.toNat + ceilDiv ((j + 8 - s.rf F.TCK_CUR_TICK) * 2 ^ 32) 8000
    | none => tickStart s.time.frameSec.toNat (s.rf F.TCK_CUR_FIDX * 8 + 8)
  let start := frameBoundary stop
  (start, start - stop)

/-- The record of the current frame (R513, R514). -/
def State.frameRecordOf (s : State) : TwinRec :=
  let all := changedItems s.twn.sent s.mirrorItems ++ s.sliceItems s.twn.slice
  let (items, cut) := fitItems (280 * 1024) all
  { frame := s.frameNo, epoch := s.epoch, next := s.nextFrame.1, gap := s.nextFrame.2, fc := s.reg Reg.LGE_FC, tc := s.cle.tc,
    head := s.rf F.EVR_HEADSEQ_SEQ, pwrw := s.on F.PWR_STAT_WARN, trunc := cut, items := items,
    slice := s.twn.slice, slices := recSlices, peer := s.ownNote, crcOk := true }

/-- The active twin sends its record (R513 to R515). -/
def State.sendRecord (s : State) : State :=
  if !s.on F.TWN_STAT_LINK then s
  else
    let r := s.frameRecordOf
    let t := (s.addSat F.TWN_RECTX_CNT 1).emit (.frameRecord r)
    let t := if r.trunc then t.addSat F.TWN_TRUNC_CNT 1 else t
    t.setTwn { t.twn with sent := s.mirrorItems, slice := (s.twn.slice + 1) % recSlices }

/-! ## The standby: applying records (R516, R517, R519) -/

/-- The module's own mirrored state. -/
def State.ownMirror (s : State) : Mirror where
  image := s.ptx.image
  qual := s.ptx.qual
  markers := s.lge.markers
  timers := s.lge.timers
  counters := s.lge.counters

/-- The mirror with one item of a record in it. -/
def Mirror.put (m : Mirror) : RecItem → Mirror
  | .slot i v q => { m with image := Store.put wordZero m.image i v, qual := Store.put wordZero m.qual i q }
  | .marker t n b => { m with markers := Store.put noFlag m.markers (4096 * t + n) b }
  | .timer t n k => { m with timers := Store.put LgeTimer.dflt m.timers (256 * t + n) k }
  | .counter t n k => { m with counters := Store.put LgeCounter.dflt m.counters (256 * t + n) k }
  | .input _ _ => m
  | .force _ _ => m
  | .task _ _ _ => m
  | .loop _ _ => m
  | .meter _ _ _ => m
  | .residue _ _ => m

/-- The mirror before the next record: the last record applied, or the module's own state where none has been.
(DEDUCED, log 76) -/
def State.mirrorBase (s : State) : Mirror :=
  match s.twn.last with
  | some _ => s.twn.base
  | none => s.ownMirror

/-- CLE_SSTAT of a slot as a record gives it: the injection, the capture and the loaded entry are the module's own. -/
def State.loopStat (s : State) (i : Nat) (w : Word) : Word :=
  let own := s.reg (Reg.CLE_SSTAT i)
  withField w 27 24 (fieldOf own 27 26 * 4 + fieldOf w 25 25 * 2 + fieldOf own 24 24)

/-- Take over the items that replace state outright; the accumulators continue with the credits of this frame (R409). -/
def State.applyItem (s : State) : RecItem → State
  | .force i f => s.setForce i f
  | .task t st late => (s.setF (F.LGE_TSTAT_STATE t) st).setTask t { s.task t with late := late }
  | .loop i l =>
    let k := s.slot i
    let t := s.setSlot i { k with iPrev := l.iPrev, dPrev := l.dPrev, pvPrev := l.pvPrev, sp1 := l.sp1, sp2 := l.sp2 }
    (t.setReg (Reg.CLE_SSTAT i) (s.loopStat i l.stat)).setReg (Reg.CLE_SOUT i) l.u
  | .meter c acc n =>
    let t := forUpto 8 s (fun q t => t.setMtr { t.mtr with
      acc := Store.put natZero t.mtr.acc (8 * c + q)
        ((acc.getD q 0 + Store.get natZero t.mtr.credit (8 * c + q)) % 2 ^ 96) })
    t.setMtr { t.mtr with fltfr := Store.put natZero t.mtr.fltfr c n }
  | .residue k r => s.setMtr { s.mtr with residue := Store.put natZero s.mtr.residue k r }
  | .slot _ _ _ => s
  | .input _ _ => s
  | .marker _ _ _ => s
  | .timer _ _ _ => s
  | .counter _ _ _ => s

/-- The later of two sequence numbers in serial-number arithmetic. -/
def laterSeq (a b : Nat) : Nat := if behind b a < 2 ^ 31 then b else a

/-- A refresh slice has been applied: with a full rotation the standby is synchronised (R519). -/
def State.coverSlice (s : State) (r : TwinRec) : State :=
  let cover := if s.twn.cover.contains r.slice then s.twn.cover else r.slice :: s.twn.cover
  let t := s.setTwn { s.twn with cover := cover }
  if r.slices ≤ cover.length && !t.on F.TWN_STAT_SYNC then
    (t.setF F.TWN_STAT_SYNC 1).report 0x1107 0 (wd t.twn.resync) 0 0
  else t

/-- Apply a record as the module's state (R517). (DEDUCED, log 76) -/
def State.applyRecord (s : State) (r : TwinRec) : State :=
  let base := r.items.foldl Mirror.put s.mirrorBase
  let img := s.allPoints.foldl (fun (m : Store Word × Store Word) e =>
    if e.2.isIn then m
    else (Store.put wordZero m.1 e.1 (Store.get wordZero base.image e.1),
      Store.put wordZero m.2 e.1 (Store.get wordZero base.qual e.1))) (s.ptx.image, s.ptx.qual)
  let t := s.setTwn { s.twn with base := base, last := some r, age := 1 }
  let t : State := { t with
    ptx := { t.ptx with image := img.1, qual := img.2 }
    lge := { t.lge with markers := base.markers, timers := base.timers, counters := base.counters } }
  let t := r.items.foldl State.applyItem t
  let t := (t.setReg Reg.LGE_FC r.fc).setF F.TWN_EPOCH_EPOCH r.epoch
  let t := t.setF F.EVR_HEADSEQ_SEQ (laterSeq (t.rf F.EVR_HEADSEQ_SEQ) r.head)
  let t : State := { t with cle := { t.cle with tc := r.tc + 8 } }
  (t.addSat F.TWN_RECRX_CNT 1).coverSlice r

/-! ## Comparison (R518) -/

/-- A task's item in a record: its state and whether it was late. -/
def TwinRec.task (r : TwinRec) (t : Nat) : Option (Nat × Bool) :=
  r.items.findSome? (fun i => match i with
    | .task u st late => if u = t then some (st, late) else none
    | _ => none)

/-- A loop slot's item in a record. -/
def TwinRec.loop (r : TwinRec) (i : Nat) : Option RecLoop :=
  r.items.findSome? (fun k => match k with
    | .loop j l => if j = i then some l else none
    | _ => none)

/-- A circuit's accumulators in a record. -/
def TwinRec.meter (r : TwinRec) (c : Nat) : Option (List Nat) :=
  r.items.findSome? (fun k => match k with
    | .meter d a _ => if d = c then some a else none
    | _ => none)

/-- Whether a task takes part in the comparison: RUN and not late in both records. -/
def taskCompared (a b : TwinRec) (t : Nat) : Bool := a.task t = some (1, false) && b.task t = some (1, false)

/-- The first image slot written by a compared task that differs. -/
def State.logicDiff (s : State) (a b : TwinRec) : Option Nat :=
  let base := b.items.foldl Mirror.put s.mirrorBase
  (s.allPoints.find? (fun e => e.2.wsrc = 1 && taskCompared a b e.2.widx
    && s.img e.1 != Store.get wordZero base.image e.1)).map Prod.fst

/-- The first circuit whose credits differ. -/
def State.meterDiff (s : State) (a b : TwinRec) : Option Nat :=
  (List.range 72).find? (fun c =>
    match a.meter c, b.meter c with
    | some x, some y => (List.range 8).any (fun q =>
        (y.getD q 0 + 2 ^ 96 - x.getD q 0 % 2 ^ 96) % 2 ^ 96 != Store.get natZero s.twn.credit (8 * c + q))
    | _, _ => false)

/-- Whether two loop outputs differ by more than the tolerance, computed exactly. -/
def loopsDiffer (tol : Nat) (e : List Word) (a b : Word) : Bool :=
  let span := (f32 (entPar e 12)).sub (f32 (entPar e 11))
  ((fpOfInt tol (-16) false).mul span).lt ((f32 a).sub (f32 b)).abs

/-- The first loop slot whose outputs differ by more than the tolerance. -/
def State.loopDiff (s : State) (a b : TwinRec) : Option Nat :=
  (List.range 256).find? (fun i =>
    match a.loop i, b.loop i with
    | some x, some y =>
      let e := (s.slot i).entry
      s.slotState i = 1 && fieldOf x.stat 31 30 = 1 && fieldOf y.stat 31 30 = 1
        && loopsDiffer (s.rf F.TWN_CFG_LTOL) e (s.reg (Reg.CLE_SOUT i)) y.u
    | _, _ => false)

/-- The first unequal value: its class and index. (DEDUCED, log 77) -/
def State.firstDiff (s : State) (a b : TwinRec) : Option (Nat × Nat) :=
  match s.logicDiff a b with
  | some i => some (1, i)
  | none =>
    match s.meterDiff a b with
    | some i => some (2, i)
    | none => (s.loopDiff a b).map (fun i => (3, i))

/-- The comparison of a frame (R518) against record `b` after record `a`. (DEDUCED, log 77) -/
def State.compareRecord (s : State) (a b : TwinRec) : State :=
  match s.firstDiff a b with
  | some (c, i) =>
    let n := s.twn.mcnt + 1
    let bad : Bool := s.twn.cmpBad || s.rf F.TWN_CFG_CMPLIM ≤ n
    let t := s.setTwn { s.twn with mism := true, mcnt := n, okRun := 0, cmpBad := bad }
    ((t.addSat F.TWN_MISMATCH_CNT 1).raiseTwn 2).report 0x1105 0 (wd c) (wd i) (wd (b.frame % 2 ^ 32))
  | none =>
    let n := s.twn.okRun + 1
    let bad : Bool := s.twn.cmpBad && n < 1000
    s.setTwn { s.twn with mcnt := 0, okRun := n, cmpBad := bad }

/-- Compare and apply the oldest held record. A record without its predecessor is applied without comparison. -/
def State.takeHeld (s : State) : State :=
  match s.twn.held with
  | [] => s
  | r :: rest =>
    let t := s.setTwn { s.twn with held := rest }
    let t := match t.twn.last with
      | some a => if t.twn.age = 2 then t.compareRecord a r else t
      | none => t
    t.applyRecord r

/-- Apply every record held (R526 step 1). -/
def State.applyHeld (s : State) : State := s.twn.held.foldl State.applyRecord (s.setTwn { s.twn with held := [] })

/-- The standby at tick 0 with a record in hand: its inputs become the shadow inputs, and the tasks have the states it shows
(R517). -/
def State.shadowTake (s : State) : State :=
  match s.twn.held with
  | [] => s
  | r :: _ =>
    r.items.foldl (fun t i => match i with
      | .input p v => t.setTwn { t.twn with inputs := Store.put wordZero t.twn.inputs p v }
      | .task k st late => t.applyItem (.task k st late)
      | _ => t) s

/-- The image that logic reads in the shadow cycle: the shadow inputs over the module's own image. -/
def State.shadowImage (s : State) : State :=
  let img := s.allPoints.foldl (fun m e =>
    if e.2.isIn then Store.put wordZero m e.1 (Store.get wordZero s.twn.inputs e.1) else m) s.lge.latched
  { s with lge := { s.lge with latched := img } }

/-- A frame begins (R516, R519, R512): counts in frames, and a record that has not arrived is missed.
(DEDUCED, log 75) -/
def State.twinFrame (s : State) : State :=
  let w := s.twn
  let seen := match w.peerEpoch with
    | some (e, n) => if n < 4 then some (e, n + 1) else none
    | none => none
  let t := s.setTwn { w with
    age := w.age + 1
    resync := w.resync + 1
    lag := w.lag - 1
    peerEpoch := seen
    got := false }
  if s.role = 0 && s.on F.TWN_STAT_PEERACT && !w.got then t.recordMissed (if s.on F.TWN_STAT_LINK then 1 else 5) else t

/-- A stored twin configuration applies at the frame boundary (R529). -/
def State.twinCfgApply (s : State) : State :=
  match s.twn.cfgPend with
  | none => s
  | some w => (s.setReg Reg.TWN_CFG w).setTwn { s.twn with cfgPend := none }

/-- At 760 µs (R517, R518, R522): the standby compares and applies; each twin forms its health word and sends it. -/
def State.twinPublish (s : State) : State :=
  if s.inReset 17 then s
  else
    let t := if s.active then s else s.takeHeld
    let frame := if t.active then t.frameNo else (match t.twn.last with
      | some r => r.frame
      | none => 0)
    let t := t.healthChange Reg.TWN_HEALTH (t.healthWord frame)
    let t := t.setTwn { t.twn with missed := false, mism := false }
    if t.active then t.sendRecord
    else if t.on F.TWN_STAT_LINK then t.emit (.returnRecord t.ownNote) else t

/-! ## Records and the link -/

/-- FRAME_RECORD_RECEIVED (R516, R517). -/
def frameRecordReceivedEff (r : TwinRec) (s : State) : State :=
  if s.inReset 17 || !s.on F.TWN_STAT_LINK || s.active then s
  else
    let t := s.setTwn { s.twn with got := true }
    if !r.crcOk then t.recordMissed 2
    else
      let t := t.takeNote r.peer
      let t := t.setTwn { t.twn with peerEpoch := some (r.epoch, 0), follow := some (r.next, r.gap) }
      if r.trunc then t.recordMissed 3
      else if (match t.twn.expect with
          | some n => n != r.frame
          | none => false) then t.recordMissed 4
      else
        let n := r.next / 2 ^ 32 * 1000 + r.next % 2 ^ 32 * 1000 / 2 ^ 32
        let n := if tickStart (r.next / 2 ^ 32) (8 * (n % 1000) + 8) ≤ r.next then n + 1 else n
        t.setTwn { t.twn with held := t.twn.held ++ [r], expect := some n }

/-- FRAME_RECORD_RECEIVED (R517). -/
def execFrameRecordReceived (r : TwinRec) (s : State) : Host.Outcome State Fault Refusal :=
  .next (frameRecordReceivedEff r s)

/-- RETURN_RECORD_RECEIVED (R522). -/
def returnRecordReceivedEff (n : PeerNote) (s : State) : State :=
  if s.inReset 17 || !s.on F.TWN_STAT_LINK then s else s.takeNote n

/-- RETURN_RECORD_RECEIVED (R522). -/
def execReturnRecordReceived (n : PeerNote) (s : State) : Host.Outcome State Fault Refusal :=
  .next (returnRecordReceivedEff n s)

/-- A note of a peer that has told only its capabilities. (DEDUCED, log 79) -/
def PeerNote.ofCaps (old : Option PeerNote) (cap0 cap1 : Word) (s : State) : PeerNote :=
  match old with
  | some n => { n with cap0 := cap0, cap1 := cap1 }
  | none => { s.ownNote with cap0 := cap0, cap1 := cap1, health := 0, elig := 0x3FF, version := 0, confirmed := false }

/-- TWIN_LINK_UP (R519, R521, R35): the peer's capability words come with the link. -/
def twinLinkUpEff (cap0 cap1 : Word) (s : State) : State :=
  if s.inReset 17 then s
  else
    let t := s.setF F.TWN_STAT_LINK 1
    let t := t.setTwn { t.twn with peer := some (PeerNote.ofCaps t.twn.peer cap0 cap1 t) }
    let t := if cap0 != t.reg Reg.SYS_CAP0 || cap1 != t.reg Reg.SYS_CAP1 then t.report 0x1109 0 cap0 cap1 0 else t
    if t.active then t else t.resyncStart

/-- TWIN_LINK_UP (R519). -/
def execTwinLinkUp (cap0 cap1 : Word) (s : State) : Host.Outcome State Fault Refusal := .next (twinLinkUpEff cap0 cap1 s)

/-- TWIN_LINK_DOWN (R521): the standby loses eligibility, and no peer reports any. -/
def twinLinkDownEff (s : State) : State :=
  ((s.setF F.TWN_STAT_LINK 0).setF F.TWN_STAT_PEERELIG 0).setF F.UPD_STAT_PEERCONF 0

/-- TWIN_LINK_DOWN (R521). -/
def execTwinLinkDown (s : State) : Host.Outcome State Fault Refusal := .next (twinLinkDownEff s)

/-- CONFIG_SIGNATURE_RECOMPUTE (R520). -/
def configSignatureRecomputeEff (s : State) : State :=
  s.setReg Reg.TWN_CFGSIG (crc32Words
    ([Reg.FLD_CTL, Reg.PRT_CFGCRC, Reg.PTX_PTCRC, Reg.PTX_STCRC, Reg.PTX_SCCRC, Reg.LGE_SETCRC, Reg.CLE_SETCRC, Reg.MTR_CALCRC,
      Reg.MTR_CIRCCRC].map s.reg ++ [s.twn.crc04, s.twn.crc09]))

/-- CONFIG_SIGNATURE_RECOMPUTE (R520). -/
def execConfigSignatureRecompute (s : State) : Host.Outcome State Fault Refusal := .next (configSignatureRecomputeEff s)

/-! ## The claim (R509 to R512) -/

/-- Whether the module may claim warm: eligible, and the last record at most 4 frames old (R509). -/
def State.warmOk (s : State) : Bool := s.twnElig = 0 && s.twn.last.isSome && s.twn.age ≤ 4

/-- Whether the module may claim cold (R509). -/
def State.coldOk (s : State) : Bool :=
  (s.twn.last.isNone || 4 < s.twn.age) && (s.on F.TWN_CTL_COLD || !s.on F.TWN_CFG_MODE)

/-- Whether a claim may start once the guard time has passed (R509, R523). -/
def State.mayClaim (s : State) : Bool :=
  s.role = 0 && !s.inReset 17 && (s.on F.TWN_CTL_ACTEN || !s.on F.TWN_CFG_MODE) && !s.on F.TWN_STAT_PEERACT
    && !s.dropPending && (s.warmOk || s.coldOk)

/-- CLAIM (R509, R510). -/
def claimEff (s : State) : State :=
  if s.mayClaim then
    let t := s.setTwn { s.twn with warm := s.warmOk, contended := false }
    (t.setRole 1).setAct true
  else s

/-- CLAIM (R509). -/
def execClaim (s : State) : Host.Outcome State Fault Refusal := .next (claimEff s)

/-- A claiming module returns to STANDBY (R510). -/
def State.withdraw (s : State) : State :=
  ((s.setTwn { s.twn with contended := false }).setRole 0).setAct false

/-- The epoch of a module that becomes active (R512). -/
def State.newEpoch (s : State) : Nat :=
  let up (n : Nat) : Nat := (n + 1) % 2 ^ 16
  if s.twn.warm then up (match s.twn.last with
    | some r => r.epoch
    | none => s.twn.epochKept)
  else match s.twn.peerEpoch with
    | some (e, _) => max (up e) (up s.twn.epochKept)
    | none => up s.twn.epochKept

/-- A KIND 0x05 entry to every running ring set (R163, R512). -/
def State.epochEntries (s : State) : State :=
  let fw := s.frameWords
  let ws : List Word := [wd (0x05 * 2 ^ 24), wd s.epoch, 0, 0, fw.1, fw.2, 0, 0]
  forUpto 128 s (fun p t => (t.eventEntry .hp0 p ws).eventEntry .hp1 p ws)

/-- The field inputs of a module that takes over hold the mirrored values until the exchange begins.
(DESIGN CHOICE, log 78) -/
def State.takeInputs (s : State) : State :=
  let img := s.allPoints.foldl (fun m e =>
    if e.2.isIn && e.2.kind = 1 then Store.put wordZero m e.1 (Store.get wordZero s.twn.inputs e.1) else m) s.ptx.image
  { s with ptx := { s.ptx with image := img, sourced := s.ptx.sourced.filter (fun e => (s.pt e.1).kind != 1) } }

/-- The takeover publish of a module that becomes active after the start of tick 6 (R526 step 4). -/
def State.takeoverPublish (s : State) : State :=
  if s.on F.TCK_STAT_RUN && 6 ≤ s.rf F.TCK_CUR_TICK && !s.inReset 10 then
    let t := s.publish
    { t with ptx := { t.ptx with publishing := true } }
  else s

/-- Entry to ACTIVE (R512, R526, R291, R237, R358, R361). -/
def State.enterActive (s : State) : State :=
  let warm := s.twn.warm
  let t := s.applyHeld
  let t := if warm then t.takeInputs else t
  let e := t.newEpoch
  let t := t.setTwn { t.twn with
    epochKept := e
    sent := []
    slice := 0
    long := false
    yielding := false
    got := false
    fresh := s.on F.TCK_STAT_RUN }
  let t := (t.setF F.TWN_EPOCH_EPOCH e).setRole 2
  let t := t.report 0x1101 0 2 (wd e) (wd (ofBool !warm))
  let t := t.epochEntries
  let t := forUpto 256 t (fun i t => t.injEnd i 3)
  let t := t.capsEnd (fun _ => true)
  (t.exchangeTakeover.seedPower.dspTakeover).takeoverPublish

/-- CONFIRM_WINDOW_END (R510). -/
def confirmWindowEndEff (s : State) : State :=
  if s.role = 1 && !s.on F.TWN_STAT_PEERACT && !s.twn.contended && !s.inReset 17 then s.enterActive else s

/-- CONFIRM_WINDOW_END (R510). -/
def execConfirmWindowEnd (s : State) : Host.Outcome State Fault Refusal := .next (confirmWindowEndEff s)

/-- Event 0x1103 (R530). (DEDUCED, log 80) -/
def State.contention (s : State) (us : Nat) : State :=
  s.report 0x1103 0 (wd s.role) (wd (min us (2 ^ 32 - 1))) (wd (s.rf F.TWN_STAT_TWINID))

/-- PEER_ACT_RISE (R509 to R511): PEER_ACT has been high for more than 1 µs. (DEDUCED, log 80) -/
def peerActRiseEff (s : State) : State :=
  let t := s.setF F.TWN_STAT_PEERACT 1
  if s.on F.TWN_STAT_PEERACT || s.inReset 17 then t
  else if s.role = 0 then t
  else
    let t := (t.contention 1).addSat F.TWN_CONTEND_CNT 1
    if s.role = 2 then t
    else
      let t := t.raiseTwn 3
      if s.on F.TWN_STAT_TWINID then t.withdraw else t.setTwn { t.twn with contended := true }

/-- PEER_ACT_RISE (R511). -/
def execPeerActRise (s : State) : Host.Outcome State Fault Refusal := .next (peerActRiseEff s)

/-- CONTENTION_WITHDRAW (R510): twin 0 gives way to a line that is still high after 50 µs. -/
def contentionWithdrawEff (s : State) : State :=
  if s.role = 1 && s.twn.contended && s.on F.TWN_STAT_PEERACT then s.withdraw else s

/-- CONTENTION_WITHDRAW (R510). -/
def execContentionWithdraw (s : State) : Host.Outcome State Fault Refusal := .next (contentionWithdrawEff s)

/-- ACTIVE_CONTENTION_TIMEOUT (R511): PEER_ACT has been high for more than 100 µs. (DEDUCED, log 80) -/
def activeContentionTimeoutEff (s : State) : State :=
  if s.active && s.on F.TWN_STAT_PEERACT then (s.setTwn { s.twn with long := true }).raiseTwn 3 else s

/-- ACTIVE_CONTENTION_TIMEOUT (R511). -/
def execActiveContentionTimeout (s : State) : Host.Outcome State Fault Refusal := .next (activeContentionTimeoutEff s)

/-- PEER_ACT_FALL (R509 to R511): the line falls after `us` microseconds. -/
def peerActFallEff (us : Nat) (s : State) : State :=
  let t := s.setF F.TWN_STAT_PEERACT 0
  if s.role = 1 then t.setTwn { t.twn with contended := false }
  else if s.active && s.twn.long then (t.setTwn { t.twn with long := false }).contention us
  else t

/-- PEER_ACT_FALL (R510). -/
def execPeerActFall (us : Nat) (s : State) : Host.Outcome State Fault Refusal := .next (peerActFallEff us s)

/-! ## Giving up control (R523, R525) -/

/-- The active twin drops ACT and becomes standby (R523, R519, R585, R596); the subscriptions of its ring sets end (R291). -/
def State.drop (s : State) (cause : Nat) : State :=
  let t := (s.setF F.TWN_STAT_DROPC cause).setAct false
  let t := t.setRole 0
  let t := t.report 0x1102 0 (wd cause) t.frameLow (if cause = 4 then wd (t.rf F.PWR_TEMP_TEMP) else 0)
  let t := t.report 0x1101 0 0 (wd t.epoch) 2
  let t := t.setTwn { t.twn with
    last := none
    held := []
    inputs := t.ptx.image
    yielding := false
    long := false
    follow := none }
  let t : State := { t with ptx := { t.ptx with subs := [] } }
  t.resyncStart.legacyStandby

/-- A self-diagnosis cause is detected (R523): it stays pending as the table gives, an active twin drops ACT and a claiming one
withdraws. (DEDUCED, log 81) -/
def State.selfCause (s : State) (cause : Nat) : State :=
  let keep : Bool := 1 ≤ cause && cause ≤ 4
  let t := if keep && !s.twn.causes.contains cause then s.setTwn { s.twn with causes := cause :: s.twn.causes } else s
  if t.active then t.drop cause
  else if t.role = 1 then t.withdraw
  else t

/-- DROP_ACT (R523): a cause is detected. The island's request and a block in reset are causes only while they last; a yield is
no cause of this row. -/
def dropActEff (cause : Fin 8) (s : State) : State :=
  match cause.val with
  | 5 => if s.on F.SAF_STAT_REQDROP then s.selfCause 5 else s
  | 7 => if [10, 11, 12, 14].any (fun b => s.inReset b) then s.selfCause 7 else s
  | 0 => s
  | 6 => s
  | c => s.selfCause c

/-- DROP_ACT (R523). -/
def execDropAct (cause : Fin 8) (s : State) : Host.Outcome State Fault Refusal := .next (dropActEff cause s)

/-- A write of 1 to TWN_CTL.YIELD (R525, R531): either port may write it while the module is ACTIVE. -/
def State.yield (s : State) : State :=
  if !s.active then s
  else if s.on F.TWN_STAT_PEERELIG then s.setTwn { s.twn with yielding := true }
  else
    let e := match s.twn.peer with
      | some n => n.elig
      | none => 0x3FF
    (s.raiseTwn 4).report 0x1108 0 e 0 0

/-- YIELD (R525). -/
def yieldEff (_x : HPort) (s : State) : State := if s.inReset 17 then s else s.yield

/-- YIELD (R525). -/
def execYield (x : HPort) (s : State) : Host.Outcome State Fault Refusal := .next (yieldEff x s)

/-- At the end of the frame the yielding twin drops ACT (R525). -/
def State.yieldDrop (s : State) : State := if s.active && s.twn.yielding then s.drop 6 else s

/-! ## Configuration image (R529) -/

/-- The twin configuration image (R529). -/
def twinCfgBody (ws : List Word) (s : State) (_id : Nat) : CmdEnd :=
  let w := ws.getD 0 0
  if wordOk Reg.TWN_CFG w then accepted (s.setTwn { s.twn with cfgKept := some w, cfgPend := some w })
  else rejected s 0 0

/-- CFG_LOAD of a twin configuration (R529). -/
def cfgLoadTwinConfigurationEff (x : HPort) (p : Part) (d : Desc) (s : State) : State :=
  s.cfgLoad x p d 0x0C (d.len = 4) true twinCfgBody

/-- CFG_LOAD_TWIN_CONFIGURATION (R529). -/
def execCfgLoadTwinConfiguration (x : HPort) (p : Part) (d : Desc) (s : State) : Host.Outcome State Fault Refusal :=
  .next (cfgLoadTwinConfigurationEff x p d s)

end Sys2Proof.Machine
end

