-- ==== Sys2Proof/Machine/Update.lean ====
section
/-! DEFINITION. The update chain: image slots, the manifest, FW_CHUNK, the hop protocol and the update commands (chapter
"Meltwater Update Chain and Start-Up"). -/

namespace Sys2Proof.Machine

/-! ## Slots (R620, R621) -/

/-- Replace the state of the update chain. -/
def State.setUpd (s : State) (u : UpdSt) : State := { s with upd := u }

/-- Set a bit of UPD_STAT (R641). -/
def State.raiseUpd (s : State) (bit : Nat) : State := s.raise Reg.UPD_STAT Reg.UPD_IEN 23 bit

/-- Slot A (0) or B. -/
def State.imgSlot (s : State) (j : Nat) : ImgSlot := if j = 0 then s.upd.kept.slotA else s.upd.kept.slotB

/-- Replace a slot. -/
def State.setImgSlot (s : State) (j : Nat) (v : ImgSlot) : State :=
  let k := s.upd.kept
  s.setUpd { s.upd with kept := if j = 0 then { k with slotA := v } else { k with slotB := v } }

/-- The slot the module does not run (R620). -/
def State.inactiveSlot (s : State) : Nat :=
  match s.rf F.UPD_STAT_RUNSLOT with
  | 0 => 1
  | 1 => 0
  | 2 => 0
  | _ => if s.upd.kept.ran then 1 - s.upd.kept.last else 0

/-! ## The manifest (R622, R623) -/

/-- VERSION of a manifest. -/
def mfVersion (m : List Byte) : Word := wordAt m 1
/-- NCHUNK. -/
def mfChunks (m : List Byte) : Nat := (wordAt m 2).toNat
/-- LASTLEN. -/
def mfLast (m : List Byte) : Nat := (wordAt m 3).toNat
/-- The word of the variant bits, CONFHOST and OPSIG. -/
def mfFlags (m : List Byte) : Nat := (wordAt m 4).toNat
/-- The signed bytes. -/
def mfHead (m : List Byte) : Nat := 256 + 48 * mfChunks m
/-- The length of a manifest. -/
def mfLen (m : List Byte) : Nat := mfHead m + (if bitOf (mfFlags m) 9 then 192 else 96)
/-- The parts of a manifest. -/
def mfParts (m : List Byte) : Nat := ceilDiv (mfLen m) 65536
/-- The length of part `p`. -/
def mfPartLen (m : List Byte) (p : Nat) : Nat := min 65536 (mfLen m - 65536 * p)
/-- The length of chunk `c`. -/
def mfChunkLen (m : List Byte) (c : Nat) : Nat := if c + 1 = mfChunks m then mfLast m else 65536
/-- The hash of chunk `c`. -/
def mfHash (m : List Byte) (c : Nat) : List Byte := (m.drop (256 + 48 * c)).take 48
/-- The VERSION that a slot's register shows: 0 when EMPTY (R641). -/
def ImgSlot.version (j : ImgSlot) : Word := if j.state = 0 then 0 else mfVersion j.manifest

/-- The bit of a manifest that the variant needs (R622). -/
def Variant.mfBit : Variant → Nat
  | .ofc960 => 0
  | .ofc940 => 1
  | .ofc920 => 2

/-- The first field of a manifest that fails R622 or R623, by its byte offset; `ver` is the version it came under. -/
def State.mfField (s : State) (m : List Byte) (ver : Word) : Option Nat :=
  let w0 := wordAt m 0
  let fl := mfFlags m
  let rev := (wordAt m 5).toNat
  if fieldOf w0 23 0 != 0 then some 0
  else if fieldOf w0 31 24 != 1 then some 3
  else if mfVersion m != ver || (mfVersion m).toNat < s.rf F.UPD_VFLOOR_VERSION then some 4
  else if mfChunks m = 0 || 4096 < mfChunks m then some 8
  else if mfLast m = 0 || 65536 < mfLast m then some 12
  else if !bitOf fl s.variant.mfBit || fl / 8 % 32 != 0 || fl / 1024 != 0 || (s.on F.UPD_CTL_OPSIG && !bitOf fl 9) then some 16
  else if 2 < rev then some 20
  else if ((m.drop 24).take 232).any (fun b => b != 0) then some 24
  else none

/-- The image key fused in the controller. -/
def imageKey : List Byte := (List.range 96).map Config.imageKey

/-- The Polzil signature of a manifest verifies (R622). -/
def polzilOk (m : List Byte) : Bool :=
  let h := mfHead m
  ecdsaOk imageKey (sha384 (m.take h)) ((m.drop h).take 48) ((m.drop (h + 48)).take 48)

/-- The operator signature of a manifest, checked under slot MSLOT: the result, and the use counted (R623, R608). -/
def State.operatorOk (s : State) (m : List Byte) : Bool × State :=
  let i := s.rf F.UPD_CTL_MSLOT
  if !s.keyUsable i 3 5 then (false, s)
  else
    match (s.slotKey i).key with
    | none => (false, s)
    | some k =>
      let h := mfHead m
      (ecdsaOk k (sha384 (m.take h)) ((m.drop (h + 96)).take 48) ((m.drop (h + 144)).take 48), s.countUse i)

/-- Event 0x1703 with VFAIL (R640, R641). -/
def State.verifyFailed (s : State) (chunk : Nat) (ver : Word) (kind : Nat) : State :=
  (s.raiseUpd 0).report 0x1703 0 (wd chunk) ver (wd kind)

/-- How the check of a whole manifest ends. -/
inductive MfCheck where
  | good (s : State)
  | field (offset : Nat)
  | signature (s : State)

/-- Check a manifest whose parts have all arrived (R623). (DEDUCED, log 108) -/
def State.mfCheck (s : State) (m : List Byte) (ver : Word) : MfCheck :=
  match s.mfField m ver with
  | some o => .field o
  | none =>
    if !polzilOk m then .signature (s.verifyFailed 0xFFFF ver 1)
    else if !s.on F.UPD_CTL_OPSIG then .good s
    else
      match s.operatorOk m with
      | (true, t) => .good t
      | (false, t) => .signature (t.verifyFailed 0xFFFF ver 2)

/-! ## The chain (R625 to R629) -/

/-- The entries of a chain table. -/
def chainCount (t : List Word) : Nat := fieldOf (t.getD 0 0) 8 0

/-- HOPTMO and the entries are kept as the image has them; the address of entry `m`. -/
def chainMac (t : List Word) (m : Nat) : Nat := fieldOf (t.getD (1 + 2 * m) 0) 15 0 * 2 ^ 32 + (t.getD (2 + 2 * m) 0).toNat

/-- The position of an address in a table. -/
def chainPos (t : List Word) (mac : Nat) : Option Nat := (List.range (chainCount t)).find? (fun m => chainMac t m = mac)

/-- The module's own position (R626). -/
def State.ownPos (s : State) (t : List Word) : Option Nat := chainPos t s.riserMac

/-- The position after `m`, unless that is the flow's ORIGIN (R626). -/
def chainNext (t : List Word) (m origin : Nat) : Option Nat :=
  let n := (m + 1) % chainCount t
  if chainCount t = 0 || n = origin then none else some n

/-- A chain frame to position `m` (R627); `test` marks a sender that runs under the test root. -/
def State.chainFrame (s : State) (t : List Word) (m op : Nat) (fwd : Bool) (idx : Nat) (ver : Word) (frag reason origin : Nat)
    (data : List Byte) : List Byte :=
  bytesBE 6 (chainMac t m) ++ bytesBE 6 s.riserMac ++ bytesBE 2 (s.rf F.RSR_CTL_SETYPE) ++ [0x12, 0, 0, 0]
    ++ bytesLE 1 op ++ bytesLE 1 (ofBool fwd + 2 * ofBool (s.key.root != 0)) ++ bytesLE 2 idx ++ wordBytes ver
    ++ bytesLE 1 frag ++ bytesLE 1 reason ++ bytesLE 1 origin ++ [0] ++ bytesLE 4 data.length ++ data

/-- Send a chain frame in class TC1 (R480, R486). (DEDUCED, log 107) -/
def State.sendChain (s : State) (data : List Byte) : State := s.sendOwn 1 (mkPkt data 0 0 s.frameNo)

/-- The bytes of item `k` of a send: its operation, its index and its data, once the module holds it. -/
def State.sendItem (s : State) (u : UpdSend) (k : Nat) : Option (Nat × Nat × List Byte) :=
  let j := s.imgSlot u.slot
  let n := mfParts j.manifest
  if k < n then some (1, k, (j.manifest.drop (65536 * k)).take 65536)
  else
    match Store.get noBytes j.chunks (k - n) with
    | [] => none
    | d => if k - n < mfChunks j.manifest then some (2, k - n, d) else none

/-- Send the fragments of an item (R627). -/
def State.sendFrags (s : State) (u : UpdSend) (op idx : Nat) (d : List Byte) : State :=
  forUpto (max 1 (ceilDiv d.length 8192)) s (fun f t =>
    t.sendChain (t.chainFrame u.table u.pos op u.fwd idx u.ver f 0 u.origin ((d.drop (8192 * f)).take 8192)))

/-- Send what may be sent: at most 4 items unacknowledged, manifest parts first (R628). -/
def State.pump (s : State) : Nat → State
  | 0 => s
  | n + 1 =>
    match s.upd.send with
    | none => s
    | some u =>
      if 4 ≤ u.waiting.length then s
      else
        match s.sendItem u u.next with
        | none => s
        | some (op, idx, d) =>
          let t := s.sendFrags u op idx d
          (t.setUpd { t.upd with send := some { u with next := u.next + 1, waiting := u.waiting ++ [u.next] } }).pump n

/-- Start sending to a position from manifest part 0. (DEDUCED, log 109) -/
def State.startSend (s : State) (slot pos origin : Nat) (ver : Word) (fwd : Bool) (table : List Word) : State :=
  let u : UpdSend := { slot := slot, ver := ver, pos := pos, origin := origin, fwd := fwd, table := table, next := 0,
                       waiting := [], naks := [], acked := 0 }
  (s.setUpd { s.upd with send := some u }).pump 4

/-- The bit of a position in UPD_PEND (R629). -/
def pendBit (m : Nat) : Fld := regBit (Reg.UPD_PEND (m / 32)) (m % 32)

/-- A flow is over (R630); what the module itself is receiving goes on (R628). -/
def State.endFlow (s : State) : State := s.setUpd { s.upd with flow := none, send := none }

/-- Offer the inactive image to the next position of a SERVE (R631). -/
def State.serveNext (s : State) : State :=
  match s.upd.serve with
  | [] => s
  | m :: rest =>
    let j := s.inactiveSlot
    let tab := s.upd.kept.table
    let t := s.setUpd { s.upd with serve := rest }
    let own := match t.ownPos tab with
      | some o => o
      | none => 0
    if (t.imgSlot j).state = 2 then t.startSend j m own (t.imgSlot j).version false tab else t

/-- The flow or the serve goes on after position `m` is done: `served` says that it took everything. -/
def State.afterSend (s : State) (u : UpdSend) (served : Bool) : State :=
  if !u.fwd then
    let t := if served then s.setF (pendBit u.pos) 0 else s
    (t.setUpd { t.upd with send := none }).serveNext
  else if served then s.endFlow.serveNext
  else
    match chainNext u.table u.pos u.origin with
    | some m => s.startSend u.slot m u.origin u.ver true u.table
    | none => s.endFlow.serveNext

/-- Everything has been acknowledged. -/
def State.sendDone (s : State) : State :=
  match s.upd.send with
  | none => s
  | some u =>
    let m := (s.imgSlot u.slot).manifest
    if u.waiting = [] && u.next = mfParts m + mfChunks m then s.afterSend u true else s

/-- A silent receiver is bypassed (R629). -/
def State.silence (s : State) : State :=
  match s.upd.send with
  | none => s
  | some u =>
    let t := ((s.setF (pendBit u.pos) 1).raiseUpd 3).report 0x1704 0 (wd u.pos) u.ver (wd u.acked)
    t.afterSend u false

/-- HOP_TIMEOUT (R629): no ACK within HOPTMO of the last fragment of an outstanding item. (DESIGN CHOICE, log 4) -/
def hopTimeoutEff (s : State) : State :=
  match s.upd.send with
  | none => s
  | some u => if u.waiting = [] || s.inReset 23 then s else s.silence

/-- HOP_TIMEOUT (R629). -/
def execHopTimeout (s : State) : Host.Outcome State Fault Refusal := .next (hopTimeoutEff s)

/-! ## Receiving an image (R621, R624, R628) -/

/-- The parts that have arrived under a version. -/
def State.partsOf (s : State) (ver : Word) : Store (List Byte) :=
  match s.upd.parts with
  | some (v, m) => if v = ver then m else []
  | none => []

/-- The whole manifest, if every part has arrived with the length part 0 gives it. -/
def wholeManifest (m : Store (List Byte)) : Option (List Byte) :=
  let p0 := Store.get noBytes m 0
  let n := mfParts p0
  if p0 != [] && n ≤ 4 && (List.range n).all (fun p => (Store.get noBytes m p).length = mfPartLen p0 p)
  then some ((List.range n).flatMap (fun p => Store.get noBytes m p)) else none

/-- Keep a manifest part. -/
def State.putPart (s : State) (ver : Word) (p : Nat) (d : List Byte) : State :=
  s.setUpd { s.upd with parts := some (ver, Store.put noBytes (s.partsOf ver) p d) }

/-- A verified manifest restarts the inactive slot (R621) and begins a flow where the image is to be forwarded (R626, R630).
`up` is the upstream position, 0xFF for a host. (DEDUCED, log 109) -/
def State.acceptManifest (s : State) (m : List Byte) (up origin : Nat) (fwd : Bool) : State :=
  let j := s.inactiveSlot
  let t := s.setImgSlot j { s.imgSlot j with state := 1, armed := false, manifest := m, chunks := [] }
  let t := t.report 0x1701 0 (mfVersion m) (wd (mfChunks m)) (wd up)
  let tab := t.upd.kept.table
  let t := t.setUpd { t.upd with parts := none }
  match (if fwd then t.ownPos tab else none) with
  | none => t
  | some own =>
    match chainNext tab own origin with
    | none => t
    | some next =>
      let f : UpdFlow := { ver := mfVersion m, up := up, origin := origin, table := tab }
      (t.setUpd { t.upd with flow := some f }).startSend j next origin (mfVersion m) true tab

/-- A slot becomes INVALID because a flash write failed (R621, R624). -/
def State.flashFailed (s : State) : State :=
  let j := s.inactiveSlot
  s.setImgSlot j { s.imgSlot j with state := 3 }

/-- Write a verified chunk; the last one completes the slot (R621), and the image moves on (R628). -/
def State.writeChunk (s : State) (c : Nat) (d : List Byte) : State :=
  let j := s.inactiveSlot
  let k := s.imgSlot j
  let k := { k with chunks := Store.put noBytes k.chunks c d }
  let t := s.setImgSlot j k
  let t := if k.state = 1 && k.chunks.length = mfChunks k.manifest then
      (((t.setImgSlot j { k with state := 2, boots := 0 }).raiseUpd 2).report 0x1702 0 (wd j) (mfVersion k.manifest)
        (wd (mfChunks k.manifest)))
    else t
  t.pump 4

/-- An accepted manifest of a version: the inactive slot is RECEIVING or COMPLETE with it. -/
def State.hasManifest (s : State) (ver : Word) : Bool :=
  let k := s.imgSlot s.inactiveSlot
  (k.state = 1 || k.state = 2) && mfVersion k.manifest = ver

/-- The chunks of a version that the module holds (R624). -/
def State.chunksHeld (s : State) (ver : Word) : Nat :=
  if s.hasManifest ver then (s.imgSlot s.inactiveSlot).chunks.length else 0

/-! ## FW_CHUNK (R624) -/

/-- VERSION differs from the flow in progress. -/
def State.otherFlow (s : State) (ver : Word) : Bool :=
  match s.upd.flow with
  | some f => f.ver != ver
  | none => false

/-- The flow in progress is cancelled for a newer version (R630): CANCEL goes downstream and forwarding stops. -/
def State.cancelFlow (s : State) (ver : Word) : State :=
  let old := match s.upd.flow with
    | some f => f.ver
    | none => (s.imgSlot s.inactiveSlot).version
  let t := match s.upd.send with
    | some u => s.sendChain (s.chainFrame u.table u.pos 5 u.fwd 0 ver 0 0 u.origin [])
    | none => s
  let t := t.endFlow
  ((t.setUpd { t.upd with frags := [] }).raiseUpd 1).report 0x1705 0 old ver 0

/-- The end of an FW_CHUNK: RESULT0 gives the chunks held. -/
def State.fwEnd (s : State) (ver : Word) (status : Nat) : CmdEnd := .done s status (wd (s.chunksHeld ver)) 0

/-- The module's position as an entry module, or 0. -/
def State.entryPos (s : State) : Nat :=
  match s.ownPos s.upd.kept.table with
  | some o => o
  | none => 0

/-- The length of part `p` differs from what a part 0 with a possible NCHUNK gives it (R624). -/
def partMisfit (p0 : List Byte) (p len : Nat) : Bool :=
  p0 != [] && mfChunks p0 != 0 && mfChunks p0 ≤ 4096 && len != mfPartLen p0 p

/-- A manifest part from the host (R623, R624). (DEDUCED, log 108) -/
def fwManifest (flash : Bool) (ver : Word) (p : Nat) (bs : List Byte) (s : State) : CmdEnd :=
  let p0 := if p = 0 then bs else Store.get noBytes (s.partsOf ver) 0
  if (p = 0 && bs.length < 400) || partMisfit p0 p bs.length then
    .done s St.badDesc 0 0
  else
    let t := s.putPart ver p bs
    match wholeManifest (t.partsOf ver) with
    | none =>
      if p = 0 && (mfChunks bs = 0 || 4096 < mfChunks bs) then .done { t with upd := { t.upd with parts := none } } St.rejected 8 0
      else t.fwEnd ver St.success
    | some m =>
      match t.mfCheck m ver with
      | .field o => .done { t with upd := { t.upd with parts := none } } St.rejected (wd o) 0
      | .signature t => ({ t with upd := { t.upd with parts := none } } : State).fwEnd ver St.verifyFail
      | .good t => if flash then (t.acceptManifest m 0xFF t.entryPos true).fwEnd ver St.success
          else t.flashFailed.fwEnd ver St.mediaError

/-- A data chunk from the host (R624). -/
def fwData (flash : Bool) (ver : Word) (c : Nat) (bs : List Byte) (s : State) : CmdEnd :=
  let k := s.imgSlot s.inactiveSlot
  if Store.get noBytes k.chunks c != [] then s.fwEnd ver St.success
  else if sha384 bs != mfHash k.manifest c then (s.verifyFailed c ver 0).fwEnd ver St.verifyFail
  else if !flash then s.flashFailed.fwEnd ver St.mediaError
  else (s.writeChunk c bs).fwEnd ver St.success

/-- FW_CHUNK's body: the conditions of R624 in order. (DEDUCED, log 108) -/
def fwBody (x : HPort) (p : Part) (d : Desc) (flash : Bool) (s : State) (_id : Nat) : CmdEnd :=
  let mf := fieldOf d.w2 30 30 = 1
  let cancel := fieldOf d.w2 31 31 = 1
  let c := fieldOf d.w2 15 0
  let ver := d.w3
  let m := (s.imgSlot s.inactiveSlot).manifest
  if (mf && (4 ≤ c || (c != 0 && partMisfit (Store.get noBytes (s.partsOf ver) 0) c d.len)))
    || (!mf && s.hasManifest ver && (mfChunks m ≤ c || d.len != mfChunkLen m c)) then .done s St.badDesc 0 0
  else
    let higher := match s.upd.flow with
      | some f => f.ver.toNat < ver.toNat
      | none => false
    if s.otherFlow ver && !(cancel && higher) then s.fwEnd ver St.busy
    else if !mf && !s.hasManifest ver then s.fwEnd ver St.state
    else
      match s.dmaRead x p d.addr d.len with
      | (none, t) => .done t St.dmaError 0 0
      | (some bs, t) =>
        match t.passThrough (stagingQueue x p) with
        | (false, t) => .done t St.mediaError 0 0
        | (true, t) =>
          let t := if s.otherFlow ver then t.cancelFlow ver else t
          if mf then fwManifest flash ver c bs t else fwData flash ver c bs t

/-- FW_CHUNK with MANIFEST and CANCEL as `sel` names them (R156). Its data passes through the ring set's staging queue to the update
chain, behind the frames staged before it (R179). (DESIGN CHOICE, log 42) -/
def State.fwChunk (s : State) (x : HPort) (p : Part) (d : Desc) (flash sel : Bool) : State :=
  s.command x p d (d.opcode = 0x48 && sel && s.queue (stagingQueue x p) = []) (d.buf 0xC000FFFF allBits 0 1 65536) true true (fwBody x p d flash)

/-- FW_CHUNK with MANIFEST = 1 (R623); `flash` says that a flash write succeeds. -/
def fwChunkManifestEff (x : HPort) (p : Part) (d : Desc) (flash : Bool) (s : State) : State :=
  s.fwChunk x p d flash (fieldOf d.w2 31 30 = 1)

/-- FW_CHUNK_MANIFEST (R623). -/
def execFwChunkManifest (x : HPort) (p : Part) (d : Desc) (flash : Bool) (s : State) : Host.Outcome State Fault Refusal :=
  .next (fwChunkManifestEff x p d flash s)

/-- FW_CHUNK with MANIFEST = 0 (R624). -/
def fwChunkEff (x : HPort) (p : Part) (d : Desc) (flash : Bool) (s : State) : State :=
  s.fwChunk x p d flash (fieldOf d.w2 31 30 = 0)

/-- FW_CHUNK (R624). -/
def execFwChunk (x : HPort) (p : Part) (d : Desc) (flash : Bool) (s : State) : Host.Outcome State Fault Refusal :=
  .next (fwChunkEff x p d flash s)

/-- FW_CHUNK with CANCEL = 1 (R630). -/
def fwChunkCancelEff (x : HPort) (p : Part) (d : Desc) (flash : Bool) (s : State) : State :=
  s.fwChunk x p d flash (fieldOf d.w2 31 31 = 1)

/-- FW_CHUNK_CANCEL (R630). -/
def execFwChunkCancel (x : HPort) (p : Part) (d : Desc) (flash : Bool) (s : State) : Host.Outcome State Fault Refusal :=
  .next (fwChunkCancelEff x p d flash s)

/-! ## The chain table (R625) -/

/-- The first offending word of a chain table. -/
def chainBad (n : Nat) (ws : List Word) : Option Nat :=
  let h := ws.getD 0 0
  let tmo := fieldOf h 31 16
  if fieldOf h 15 9 != 0 || tmo < 100 || 10000 < tmo || chainCount ws = 0 || 256 < chainCount ws || n != 1 + 2 * chainCount ws then some 0
  else
    let k := (List.range (chainCount ws)).find? (fun k =>
      let w := ws.getD (1 + 2 * k) 0
      fieldOf w 31 31 != 0 || fieldOf w 29 23 != 0 || (List.range k).any (fun i => chainMac ws i = chainMac ws k))
    k.map (fun k => 1 + 2 * k)

/-- The chain table image (R625); a flow in progress keeps the table it started with. -/
def chainBody (len : Nat) (ws : List Word) (s : State) (_id : Nat) : CmdEnd :=
  match chainBad (len / 4) ws with
  | some i => rejected s (wd i) 0
  | none =>
    let k := s.upd.kept
    accepted (s.setUpd { s.upd with kept := { k with table := ws } })

/-- CFG_LOAD of a chain table (R625): LEN is 4 + 8 × NENT. -/
def cfgLoadChainTableEff (x : HPort) (p : Part) (d : Desc) (s : State) : State :=
  s.cfgLoad x p d 0x0E (12 ≤ d.len && d.len ≤ 2052 && d.len % 8 = 4) true (chainBody d.len)

/-- CFG_LOAD_CHAIN_TABLE (R625). -/
def execCfgLoadChainTable (x : HPort) (p : Part) (d : Desc) (s : State) : Host.Outcome State Fault Refusal :=
  .next (cfgLoadChainTableEff x p d s)

/-! ## Chain frames (R627 to R630) -/

/-- A chain frame as received. -/
structure ChainIn where
  mac : Nat
  op : Nat
  fwd : Bool
  test : Bool
  idx : Nat
  ver : Word
  frag : Nat
  reason : Nat
  origin : Nat
  data : List Byte
  deriving DecidableEq, Repr

/-- Read a chain frame (R627). -/
def chainIn (f : List Byte) : ChainIn :=
  let h := f.drop (headerLen f + 4)
  let byte (i : Nat) : Nat := natLE ((h.drop i).take 1)
  { mac := srcOf f, op := byte 0, fwd := bitOf (byte 1) 0, test := bitOf (byte 1) 1, idx := halfAt h 2, ver := wordAt h 1,
    frag := byte 8, reason := byte 9, origin := byte 10, data := (h.drop 16).take (wordAt h 3).toNat }

/-- Answer the sender of a frame (R628, R629). -/
def State.answerChain (s : State) (c : ChainIn) (op reason : Nat) : State :=
  let tab : List Word := [1, wd (c.mac / 2 ^ 32), wd (c.mac % 2 ^ 32)]
  s.sendChain (s.chainFrame tab 0 op false c.idx c.ver 0 reason c.origin [])

/-- The position of a frame's sender, 0xFF if unknown. -/
def State.senderPos (s : State) (c : ChainIn) : Nat :=
  match chainPos s.upd.kept.table c.mac with
  | some m => m
  | none => 0xFF

/-- Take the head frame of queue 418 if it has operation `op` (R627). A frame in a poisoned cell is answered with NAK 0x02, one
from a sender under the test root with NAK 0x03 (R629). -/
def State.takeChain (s : State) (op : Nat) (body : ChainIn → State → State) : State :=
  if s.inReset 23 then s
  else
    match s.queue 418 with
    | [] => s
    | h :: _ =>
      if (chainIn h.data).op != op then s
      else
        match s.takePkt 418 with
        | (none, t) => if op = 1 || op = 2 then t.answerChain (chainIn h.data) 4 2 else t
        | (some k, t) =>
          let c := chainIn k.data
          if c.test && t.key.root = 0 then (t.answerChain c 4 3).report 0x170A 0 (wd (t.senderPos c)) 0 0
          else body c t

/-- A cell of the packet at position `pos` of queue `q` fails (R188); `begun` says that the transmission of the queue's head packet
has begun. The update chain asks for the chunk again (R629). -/
def cellPoisonedEff (q : Fin 1024) (pos cell : Nat) (begun : Bool) (s : State) : State :=
  match (s.queue q)[pos]? with
  | none => s
  | some k =>
    let t := s.dropPoisoned q pos cell begun k
    if q.val = 418 && ((chainIn k.data).op = 1 || (chainIn k.data).op = 2) then t.answerChain (chainIn k.data) 4 2 else t

/-- CELL_POISONED (R188). -/
def execCellPoisoned (q : Fin 1024) (pos cell : Nat) (begun : Bool) (s : State) : Host.Outcome State Fault Refusal :=
  .next (cellPoisonedEff q pos cell begun s)

/-- Keep a fragment. -/
def State.putFrag (s : State) (c : ChainIn) : State :=
  let rest := s.upd.frags.filter (fun f => !(f.op = c.op && f.idx = c.idx && f.ver = c.ver && f.num = c.frag))
  s.setUpd { s.upd with frags := { op := c.op, idx := c.idx, ver := c.ver, num := c.frag, data := c.data } :: rest }

/-- A fragment kept. -/
def State.fragOf (s : State) (c : ChainIn) (n : Nat) : List Byte :=
  match s.upd.frags.find? (fun f => f.op = c.op && f.idx = c.idx && f.ver = c.ver && f.num = n) with
  | some f => f.data
  | none => []

/-- Forget the fragments of a chunk or part. -/
def State.dropFrags (s : State) (c : ChainIn) : State :=
  s.setUpd { s.upd with frags := s.upd.frags.filter (fun f => !(f.op = c.op && f.idx = c.idx && f.ver = c.ver)) }

/-- The bytes of a chunk or part of `len` bytes once all its fragments have arrived. -/
def State.assembled (s : State) (c : ChainIn) (len : Nat) : Option (List Byte) :=
  let n := ceilDiv len 8192
  let d := (List.range n).flatMap (fun f => s.fragOf c f)
  if len != 0 && d.length = len && (List.range n).all (fun f => (s.fragOf c f).length = min 8192 (len - 8192 * f))
  then some d else none

/-- The length of the manifest part that a fragment belongs to, as far as part 0 tells it. -/
def State.partLen (s : State) (c : ChainIn) : Nat :=
  let p0 := if c.idx = 0 then s.fragOf c 0 else Store.get noBytes (s.partsOf c.ver) 0
  if p0 = [] then 0 else mfPartLen p0 c.idx

/-- Judge a manifest that has arrived whole over the chain (R628, R629). (DEDUCED, log 107) -/
def State.chainManifest (s : State) (c : ChainIn) (m : List Byte) (flash : Bool) : State :=
  match s.mfCheck m c.ver with
  | .field _ => ({ s with upd := { s.upd with parts := none } } : State).answerChain c 4 4
  | .signature t => ({ t with upd := { t.upd with parts := none } } : State).answerChain c 4 4
  | .good t =>
    if flash then (t.answerChain c 3 0).acceptManifest m (t.senderPos c) c.origin c.fwd
    else t.flashFailed.answerChain c 4 5

/-- CHAIN_MPART (R628, R630): a manifest part; one of another version than the flow in progress is answered BUSY. -/
def chainMpartEff (flash : Bool) (s : State) : State :=
  s.takeChain 1 (fun c s =>
    if s.otherFlow c.ver then s.answerChain c 6 0
    else if 4 ≤ c.idx || 8 ≤ c.frag then s.answerChain c 4 4
    else
      let t := s.putFrag c
      match t.assembled c (t.partLen c) with
      | none => t
      | some d =>
        let t := (t.dropFrags c).putPart c.ver c.idx d
        match wholeManifest (t.partsOf c.ver) with
        | none => t.answerChain c 3 0
        | some m => t.chainManifest c m flash)

/-- CHAIN_MPART (R628). -/
def execChainMpart (flash : Bool) (s : State) : Host.Outcome State Fault Refusal := .next (chainMpartEff flash s)

/-- Judge a chunk that has arrived whole (R628, R629). (DEDUCED, log 107) -/
def State.chainChunk (s : State) (c : ChainIn) (d : List Byte) (flash : Bool) : State :=
  let k := s.imgSlot s.inactiveSlot
  if sha384 d != mfHash k.manifest c.idx then (s.verifyFailed c.idx c.ver 0).answerChain c 4 1
  else if !flash then s.flashFailed.answerChain c 4 5
  else (s.answerChain c 3 0).writeChunk c.idx d

/-- CHAIN_DATA (R628): a chunk of the image whose manifest the module has accepted. -/
def chainDataEff (flash : Bool) (s : State) : State :=
  s.takeChain 2 (fun c s =>
    let k := s.imgSlot s.inactiveSlot
    if !s.hasManifest c.ver || mfChunks k.manifest ≤ c.idx then s.answerChain c 4 4
    else if Store.get noBytes k.chunks c.idx != [] then
      if (c.frag + 1) * 8192 < mfChunkLen k.manifest c.idx then s else s.answerChain c 3 0
    else
      let t := s.putFrag c
      match t.assembled c (mfChunkLen k.manifest c.idx) with
      | none => t
      | some d => (t.dropFrags c).chainChunk c d flash)

/-- CHAIN_DATA (R628). -/
def execChainData (flash : Bool) (s : State) : Host.Outcome State Fault Refusal := .next (chainDataEff flash s)

/-- Whether a frame comes from the receiver that the module sends to. -/
def fromReceiver (u : UpdSend) (c : ChainIn) : Bool := chainMac u.table u.pos = c.mac && u.ver = c.ver

/-- The outstanding item that an answer's CHUNK names: the oldest part or chunk with that index. -/
def State.itemOf (s : State) (u : UpdSend) (idx : Nat) : Option Nat :=
  let n := mfParts (s.imgSlot u.slot).manifest
  u.waiting.find? (fun k => if k < n then k = idx else k - n = idx)

/-- CHAIN_ACK (R628). -/
def chainAckEff (s : State) : State :=
  s.takeChain 3 (fun c s =>
    match s.upd.send with
    | none => s
    | some u =>
      match (if fromReceiver u c then s.itemOf u c.idx else none) with
      | none => s
      | some k =>
        let data : Bool := mfParts (s.imgSlot u.slot).manifest ≤ k
        let u := { u with waiting := u.waiting.filter (fun i => i != k), acked := u.acked + ofBool data }
        ((s.setUpd { s.upd with send := some u }).pump 4).sendDone)

/-- CHAIN_ACK (R628). -/
def execChainAck (s : State) : Host.Outcome State Fault Refusal := .next (chainAckEff s)

/-- CHAIN_NAK (R629): a chunk is sent again, and the fourth time or for another reason the receiver counts as silent. -/
def chainNakEff (s : State) : State :=
  s.takeChain 4 (fun c s =>
    match s.upd.send with
    | none => s
    | some u =>
      match (if fromReceiver u c then s.itemOf u c.idx else none) with
      | none => s
      | some k =>
        let n := Store.get natZero u.naks k + 1
        if (c.reason = 1 || c.reason = 2) && n < 4 then
          let u := { u with naks := Store.put natZero u.naks k n }
          let t := s.setUpd { s.upd with send := some u }
          match t.sendItem u k with
          | some (op, idx, d) => t.sendFrags u op idx d
          | none => t
        else s.silence)

/-- CHAIN_NAK (R629). -/
def execChainNak (s : State) : Host.Outcome State Fault Refusal := .next (chainNakEff s)

/-- CHAIN_BUSY (R629). -/
def chainBusyEff (s : State) : State :=
  s.takeChain 6 (fun c s =>
    match s.upd.send with
    | none => s
    | some u => if fromReceiver u c then s.silence else s)

/-- CHAIN_BUSY (R629). -/
def execChainBusy (s : State) : Host.Outcome State Fault Refusal := .next (chainBusyEff s)

/-- CHAIN_CANCEL (R630): the frame's VERSION is the new one. -/
def chainCancelEff (s : State) : State :=
  s.takeChain 5 (fun c s =>
    if s.upd.flow.isSome || (s.imgSlot s.inactiveSlot).state = 1 then s.cancelFlow c.ver else s)

/-- CHAIN_CANCEL (R630). -/
def execChainCancel (s : State) : Host.Outcome State Fault Refusal := .next (chainCancelEff s)

/-! ## Update commands (R631 to R635) -/

/-- ARM of slot `j` (R632): anything but a COMPLETE inactive slot is a value that R11 refuses. -/
def State.arm (s : State) (j : Nat) : State :=
  let k := s.imgSlot j
  if j = s.inactiveSlot && k.state = 2 then
    (s.setImgSlot j { k with armed := true }).report 0x1706 0 (wd j) k.version 0
  else s.badVal

/-- UPD_ARM (R632). -/
def updArmEff (x : HPort) (j : Fin 2) (s : State) : State := s.asWrite x 23 (s.arm j)

/-- UPD_ARM (R632). -/
def execUpdArm (x : HPort) (j : Fin 2) (s : State) : Host.Outcome State Fault Refusal := .next (updArmEff x j s)

/-- The armed slot. -/
def State.armedSlot (s : State) : Option Nat := [0, 1].find? (fun j => (s.imgSlot j).armed)

/-- DISARM (R632). -/
def State.disarm (s : State) : State :=
  match s.armedSlot with
  | none => s
  | some j =>
    let k := s.imgSlot j
    (s.setImgSlot j { k with armed := false }).report 0x1706 0 (wd j) k.version 1

/-- UPD_DISARM (R632). -/
def updDisarmEff (x : HPort) (s : State) : State := s.asWrite x 23 (s.disarm)

/-- UPD_DISARM (R632). -/
def execUpdDisarm (x : HPort) (s : State) : Host.Outcome State Fault Refusal := .next (updDisarmEff x s)

/-- SERVE (R631). -/
def State.serveAll (s : State) : State :=
  if (s.imgSlot s.inactiveSlot).state != 2 then s
  else
    let t := s.setUpd { s.upd with serve := (List.range (chainCount s.upd.kept.table)).filter (fun m => s.on (pendBit m)) }
    if t.upd.send.isSome then t else t.serveNext

/-- UPD_SERVE (R631). -/
def updServeEff (x : HPort) (s : State) : State := s.asWrite x 23 (s.serveAll)

/-- UPD_SERVE (R631). -/
def execUpdServe (x : HPort) (s : State) : Host.Outcome State Fault Refusal := .next (updServeEff x s)

/-- The start is boot-confirmed (R635, R639). -/
def State.bootConfirm (s : State) (sec : Nat) : State :=
  if s.on F.UPD_STAT_CONF then s
  else
    let j := s.rf F.UPD_STAT_RUNSLOT
    let t := s.setF F.UPD_STAT_CONF 1
    let t := if j < 2 then t.setImgSlot j { t.imgSlot j with boots := 0 } else t
    t.report 0x1708 0 (wd j) (t.reg Reg.UPD_RUNVER) (wd sec)

/-- BOOT_CONFIRMED (R635): the start-up checks have passed, `sec` seconds after reset. -/
def bootConfirmedEff (sec : Nat) (s : State) : State :=
  if s.rst.phase != 4 then s
  else
    let t := s.setUpd { s.upd with checks := true }
    if t.upd.confHost then t else t.bootConfirm sec

/-- BOOT_CONFIRMED (R635). -/
def execBootConfirmed (sec : Nat) (s : State) : Host.Outcome State Fault Refusal := .next (bootConfirmedEff sec s)

/-- CONFIRM (R635): for an image with CONFHOST, after its checks. (DESIGN CHOICE, log 110) -/
def State.hostConfirm (s : State) (sec : Nat) : State := if s.upd.confHost && s.upd.checks then s.bootConfirm sec else s

/-- UPD_CONFIRM (R635). -/
def updConfirmEff (x : HPort) (sec : Nat) (s : State) : State := s.asWrite x 23 (s.hostConfirm sec)

/-- UPD_CONFIRM (R635). -/
def execUpdConfirm (x : HPort) (sec : Nat) (s : State) : Host.Outcome State Fault Refusal := .next (updConfirmEff x sec s)

/-! ## Registers (R641) -/

/-- UPD_SLOT[j] (R641). -/
def State.slotReg (s : State) (j : Nat) : Word :=
  let k := s.imgSlot j
  wd (k.state * 2 ^ 29 + ofBool k.armed * 2 ^ 28 + min k.boots 3 * 2 ^ 26 + k.chunks.length)

/-- UPD_CHPOS (R641). -/
def State.chposReg (s : State) : Word :=
  match s.ownPos s.upd.kept.table with
  | some m => wd (2 ^ 31 + m % 256)
  | none => 0

/-- A write to UPD_CTL (R641): OPSIG and MSLOT are kept in MRAM. -/
def State.writeUpdCtl (s : State) (v : Word) : State :=
  let t := s.writeFields Reg.UPD_CTL v
  let k := t.upd.kept
  t.setUpd { t.upd with kept := { k with ctl := t.reg Reg.UPD_CTL &&& 0xBF000000 } }

/-- A write to UPD_VFLOOR: a lower value is refused by R11 (R641). -/
def State.writeVfloor (s : State) (v : Word) : State :=
  if v.toNat < s.rf F.UPD_VFLOOR_VERSION then s.badVal
  else
    let k := s.upd.kept
    (s.setReg Reg.UPD_VFLOOR v).setUpd { s.upd with kept := { k with vfloor := v } }

/-! ## Start-up (R634) -/

/-- Verify an image at start: the Polzil signature and every chunk hash (R634). -/
def ImgSlot.verifies (k : ImgSlot) : Bool :=
  polzilOk k.manifest && (List.range (mfChunks k.manifest)).all (fun c =>
    let d := Store.get noBytes k.chunks c
    d.length = mfChunkLen k.manifest c && sha384 d = mfHash k.manifest c)

/-- The choice of R634: the slot to run, or none for Whiteout, with the reason so far, and the slots' new marks. -/
def State.chooseSlot (s : State) : Nat → Nat → Nat → Option (Nat × Nat) × State
  | 0, _, _ => (none, s)
  | n + 1, j, reason =>
    let k := s.imgSlot j
    if k.state = 2 && k.boots < 3 then
      if k.verifies then
        let t := s.setImgSlot j { k with boots := k.boots + 1 }
        let m := t.upd.kept
        (some (j, reason), t.setUpd { t.upd with kept := { m with last := j, ran := true } })
      else (s.setImgSlot j { k with state := 3 }).chooseSlot n (1 - j) (if reason = 0 then 2 else reason)
    else s.chooseSlot n (1 - j) (if reason != 0 then reason else if 3 ≤ k.boots then 1 else 3)

end Sys2Proof.Machine
end

