-- ==== Sys2Proof/Machine/Reset.lean ====
section
/-! DEFINITION. Reset levels, the start sequence, block resets, clocks and supply supervision (chapter "Reset, Clocks and Supply
Supervision"), and what activates an image (chapter "Meltwater Update Chain and Start-Up"). -/

namespace Sys2Proof.Machine

/-- Replace the state of reset, clocks and supply. -/
def State.setRst (s : State) (r : RstSt) : State := { s with rst := r }

/-! ## Asserting a reset (R649, R667) -/

/-- Whether the register at `off` keeps its value: the always-on domain, RST_CAUSE through a system reset, and the recorder's
series, which is in MRAM (R14, R25). -/
def Reg.survives (por : Bool) (off : Nat) : Bool :=
  match Reg.row? off with
  | none => false
  | some r => r.dom = .aon || (!por && r.dom = .por) || off = Reg.EVR_HEADSEQ || off = Reg.EVR_KCNT || off = Reg.EVR_KBASE

/-- A save in progress is cut off by a loss of supply: the bank it was writing fails its CRC (R403, R406).
(DEDUCED, log 62) -/
def State.tornSave (s : State) : State :=
  match s.mtr.saving with
  | none => s
  | some b => (s.setMtr { s.mtr with saving := none }).writeBank { b with torn := true }

/-- The recorder writes what its buffer holds (R544). (DEDUCED, log 84) -/
def State.drainReports (s : State) : State := forUpto (s.evr.buf.length + 1) s (fun _ t => recordWriteEff t)

/-- The vault's part of a reset; the events of keys that expire are written before it (R610). -/
def State.expireKeys (s : State) : State :=
  let t := s.keyReset
  if t.evr.buf.length = s.evr.buf.length then t else t.drainReports

/-- The power signals of the panels go low. -/
def State.panelsOff (s : State) : State :=
  forUpto 2 s (fun n t => if (t.panel n).pwren || (t.panel n).vcomen then t.emit (.panelPower n false false) else t)

/-- Everything that a reset returns to its reset value; MRAM, flash, the always-on domain, the outside world and, for a system
reset, RST_CAUSE stay (R25, R649). (DEDUCED, log 119) -/
def State.cleared (s : State) (por : Bool) : State :=
  let regs : Store Word := s.regs.filter (fun e => Reg.survives por e.1)
  let time : TimeSt := { TimeSt.reset with
    sec := s.time.sec
    frac := s.time.frac
    keep := s.time.keep
    rolled := s.time.rolled
    osfLate := s.time.osfLate }
  let host : HostSt := { HostSt.reset with
    mem0 := s.host.mem0
    mem1 := s.host.mem1
    bad0 := s.host.bad0
    bad1 := s.host.bad1 }
  let rst : RstSt := { RstSt.reset with
    starts := if por then 0 else min 4095 (s.rst.starts + 1)
    tlcnt := s.rst.tlcnt
    outage := s.rst.outage
    hot := s.rst.hot
    level := s.rst.level }
  let evr : RecSt := { RecSt.reset with
    roll := s.evr.roll
    keep := s.evr.keep
    views := s.evr.views }
  let ptx : PtxSt := { PtxSt.reset with forces := s.ptx.forces }
  let t : State := { s with
    regs := regs
    time := time
    host := host
    prt := { shares := [] }
    pool := PoolSt.reset
    ptx := ptx
    fld := FldSt.reset
    lge := LgeSt.reset
    cle := CleSt.reset
    mtr := MtrSt.reset s.mtr.kept
    rsr := RsrSt.reset s.rsr.img
    dsp := DspSt.reset
    can := CanSt.reset s.can.img
    twn := TwnSt.reset s.twn.epochKept s.twn.cfgKept
    upd := UpdSt.reset s.upd.kept
    rst := rst
    evr := evr }
  t.setF F.TWN_STAT_PEERACT (s.rf F.TWN_STAT_PEERACT)

/-- ACT_OUT falls, the local outputs go to their reset states, panels and the island's link are let go, the vault is emptied, and
the rest is cleared (R507, R649). -/
def State.assertReset (s : State) (por : Bool) (cause : Nat) : State :=
  let t := if s.on F.TWN_STAT_ACT then s.emit (.actOut false) else s
  let t := (t.lioSafe.panelsOff.expireKeys).safReset true
  (t.cleared por).emit (.reset cause)

/-- Power-on reset is asserted: no reset of another cause has come since, and none has been released (R649, R667). -/
def State.porHeld (s : State) : Bool := s.rst.phase = 0 && s.rf F.RST_CAUSE_LAST = 0

/-- A system reset with a cause bit of RST_CAUSE (R649, R667): a metering bank is written first, except at the VMAIN reset level
(R405). While power-on reset is asserted, until its first release, no source of a lower level acts (R649). (DEDUCED, log 62) -/
def State.sysReset (s : State) (cause : Nat) : State :=
  if s.porHeld then s else
  let t := if cause = 1 then s.tornSave else if s.rst.phase = 1 || s.rst.phase = 4 then s.saveBank else s
  let t := t.assertReset false cause
  (t.setF (regBit Reg.RST_CAUSE cause) 1).setF F.RST_CAUSE_LAST cause

/-- Power-on reset (R649): everything outside the always-on domain, the island included. -/
def State.porReset (s : State) : State :=
  let t := s.tornSave.assertReset true 0
  t.safOff.setKey { t.key with unlocked := false }

/-- POWER_ON_RESET (R649). -/
def powerOnResetEff (s : State) : State := s.porReset

/-- POWER_ON_RESET (R649). -/
def execPowerOnReset (s : State) : Host.Outcome State Fault Refusal := .next (powerOnResetEff s)

/-- The bit of RST_CAUSE of a cause (R667). -/
def ResetCause.bit : ResetCause → Nat
  | .vlow => 1
  | .pin => 2
  | .pll => 7
  | .debug => 10

/-- SYSTEM_RESET (R649): VMAIN reset level, CRST_N, PLL lock lost, or a request through J9 while debug is enabled (R687).
(DEDUCED, log 84, 106) -/
def systemResetEff (c : ResetCause) (s : State) : State :=
  if c = .debug && s.key.root = 0 then s else s.sysReset c.bit

/-- SYSTEM_RESET (R649). -/
def execSystemReset (c : ResetCause) (s : State) : Host.Outcome State Fault Refusal := .next (systemResetEff c s)

/-- DEBUG_UNLOCK (R615, R687): it takes effect at the next system reset and lasts until power-on reset.
(DEDUCED, log 106) -/
def debugUnlockEff (s : State) : State := s.setKey { s.key with unlocked := true }

/-- DEBUG_UNLOCK (R687). -/
def execDebugUnlock (s : State) : Host.Outcome State Fault Refusal := .next (debugUnlockEff s)

/-! ## The always-on domain (R72, R664) -/

/-- KEEP_STATE_ENTRY (R664): VMAIN has failed, the internal rails collapse, and the domain runs from VBAK. -/
def keepStateEntryEff (s : State) : State :=
  if s.time.keep then s
  else
    let t := s.setReg Reg.PWR_LOSSSEC (wd (s.time.sec.toNat % 2 ^ 32))
    let t := t.porReset
    let t := t.setRst { t.rst with outage := true }
    let t := t.setF F.MTR_TWSTAT_LOWB 0
    { t with time := { t.time with keep := true, rolled := false } }

/-- KEEP_STATE_ENTRY (R664). -/
def execKeepStateEntry (s : State) : Host.Outcome State Fault Refusal := .next (keepStateEntryEff s)

/-- AON_POWER_ON_RESET (R72): the domain's registers, its count and its theft watch return to reset, with OSF and CPOR set. With
VMAIN present the domain runs from it, and no such reset comes (R664). (DEDUCED, log 117) -/
def aonPowerOnResetEff (s : State) : State :=
  if !s.time.keep && s.rst.phase != 0 then s
  else
    let t := s.osfCause 1
    let regs : Store Word := t.regs.filter (fun e => match Reg.row? e.1 with
      | none => true
      | some r => r.dom != .aon)
    let k := t.mtr.kept
    let kept : MtrKept := { k with
      watchCal := []
      watchRms := []
      episodes := []
      qualified := []
      recorded := [] }
    let t : State := { t with regs := regs, time := { t.time with sec := 0, frac := 0 } }
    t.setKept kept

/-- AON_POWER_ON_RESET (R72). -/
def execAonPowerOnReset (s : State) : Host.Outcome State Fault Refusal := .next (aonPowerOnResetEff s)

/-! ## Activation (R632, R633) and the confirmation deadline (R635) -/

/-- Whether an activation of slot `j` is refused (R633). -/
def State.activationRefused (s : State) (j : Nat) : Bool :=
  s.on F.TWN_CFG_MODE && s.active
    && !(s.reg Reg.UPD_PEERVER = (s.imgSlot j).version && s.on F.UPD_STAT_PEERCONF)

/-- An ACTIVATE request (R632, R633): ignored without an armed slot. -/
def State.activate (s : State) : State :=
  match s.armedSlot with
  | none => s
  | some j =>
    let v := (s.imgSlot j).version
    if s.activationRefused j then (s.raiseUpd 4).report 0x1706 0 (wd j) v 3
    else
      let k := s.upd.kept
      let t := s.setUpd { s.upd with kept := { k with activate := true } }
      ((t.report 0x1706 0 (wd j) v 2).drainReports).sysReset 5

/-- UPD_ACTIVATE (R632). -/
def updActivateEff (x : HPort) (s : State) : State := s.asWrite x 23 (s.activate)

/-- UPD_ACTIVATE (R632). -/
def execUpdActivate (x : HPort) (s : State) : Host.Outcome State Fault Refusal := .next (updActivateEff x s)

/-- CONFIRM_TIMEOUT (R635): 120 s from the release of reset without boot-confirmed. (DESIGN CHOICE, log 4) -/
def confirmTimeoutEff (s : State) : State :=
  if (s.rst.phase != 1 && s.rst.phase != 4) || s.on F.UPD_STAT_CONF then s
  else
    let j := s.rf F.UPD_STAT_RUNSLOT
    let boots := if j < 2 then (s.imgSlot j).boots else 0
    ((s.report 0x1709 0 (wd j) (wd boots) 0).drainReports).sysReset 6

/-- CONFIRM_TIMEOUT (R635). -/
def execConfirmTimeout (s : State) : Host.Outcome State Fault Refusal := .next (confirmTimeoutEff s)

/-! ## Host-requested resets and core resets (R650, R651) -/

/-- Complete with ABORTED the started commands that a test on their descriptors selects. -/
def State.abortOps (s : State) (sel : Desc → Bool) : State :=
  s.host.rings.foldl (fun t e =>
    let x : HPort := if e.1 % 2 = 0 then .hp0 else .hp1
    e.2.ops.foldl (fun t o =>
      if o.st = .started && sel o.desc then t.completeLate x (e.1 / 2) o.id St.aborted 0 0 else t) t) s

/-- A CFG_LOAD or FW_CHUNK that is executing completes with ABORTED and does not apply (R162). (DEDUCED, log 118) -/
def State.abortLoads (s : State) : State :=
  let t := s.abortOps (fun d => d.opcode = 0x30 || d.opcode = 0x48)
  if t.mtr.calPend = [] then t
  else
    let k := t.mtr.kept
    let img : Option (List Word × Bool) := if t.mtr.cal = [] then none else some (t.mtr.cal, true)
    t.setMtr { t.mtr with calPend := [], kept := { k with calImg := img } }

/-- Milliseconds of the watchdog core resets of the last 60 s. -/
def State.recentDogs (s : State) : List Nat := s.rst.dogs.filter (fun m => s.nowMs < m + 60000)

/-- A core reset (R649, R650): the cores' queues are flushed, and every other unit runs on. `dog` says that the watchdog caused
it. (DEDUCED, log 118) -/
def State.coreReset (s : State) (dog : Bool) : State :=
  let dogs : List Nat := if dog then s.nowMs :: s.recentDogs else s.recentDogs
  let t := s.setRst { s.rst with core := true, dogs := dogs }
  let t := (t.setF (regBit Reg.RST_CAUSE (if dog then 16 else 17)) 1).addSat F.RST_CORECNT_CNT 1
  let t := t.report 0x0202 0 (if dog then 1 else 2) (wd dogs.length) 0
  (forUpto 64 t (fun q t => t.flushNow (768 + q))).abortLoads

/-- CORE_WATCHDOG_EXPIRY (R650): the third within 60 s becomes a system reset. -/
def coreWatchdogExpiryEff (s : State) : State :=
  if s.rst.core || (s.rst.phase != 1 && s.rst.phase != 4) then s
  else
    let t := s.coreReset true
    if 3 ≤ t.rst.dogs.length then t.sysReset 9 else t

/-- CORE_WATCHDOG_EXPIRY (R650). -/
def execCoreWatchdogExpiry (s : State) : Host.Outcome State Fault Refusal := .next (coreWatchdogExpiryEff s)

/-- CORE_RESET_END (R650): the cores run again from the image in LPDDR5. -/
def coreResetEndEff (s : State) : State := s.setRst { s.rst with core := false }

/-- CORE_RESET_END (R650). -/
def execCoreResetEnd (s : State) : Host.Outcome State Fault Refusal := .next (coreResetEndEff s)

/-- A write to RST_CTL (R651, R667): SYSRST takes precedence over CORERST. -/
def State.writeRstCtl (s : State) (x : HPort) (v : Word) : State :=
  if fieldOf v 31 24 != 0xA5 then s.badVal
  else if fieldOf v 1 1 = 1 then s.sysReset (3 + x.num)
  else if fieldOf v 0 0 = 1 then s.coreReset false
  else s

/-- RST_CTL_SYSRST (R651). -/
def rstCtlSysrstEff (x : HPort) (v : Word) (s : State) : State := s.asWrite x 2 (s.writeRstCtl x v)

/-- RST_CTL_SYSRST (R651). -/
def execRstCtlSysrst (x : HPort) (v : Word) (s : State) : Host.Outcome State Fault Refusal := .next (rstCtlSysrstEff x v s)

/-- RST_CTL_CORERST (R651). -/
def rstCtlCorerstEff (x : HPort) (v : Word) (s : State) : State := s.asWrite x 2 (s.writeRstCtl x v)

/-- RST_CTL_CORERST (R651). -/
def execRstCtlCorerst (x : HPort) (v : Word) (s : State) : Host.Outcome State Fault Refusal := .next (rstCtlCorerstEff x v s)

/-! ## The start sequence (R642, R652 to R655) -/

/-- Mark the elements of a store at the given keys. -/
def markStore {α : Type} (keys : List Nat) (f : α → α) (m : Store (Option α)) : Store (Option α) :=
  m.map (fun e => if keys.contains e.1 then (e.1, e.2.map f) else e)

/-- A stored image fails its CRC from now on. -/
def breakImg (b : Bool) (o : Option (List Word × Bool)) : Option (List Word × Bool) :=
  o.map (fun k => (k.1, k.2 && !b))

/-- What the start finds failing in MRAM and configuration storage is marked so, until it is written again. -/
def State.markFaults (s : State) (f : StoreFaults) : State :=
  let rec1 (k : Rec) : Rec := { k with torn := true }
  let bank1 (i : Fin 4) (o : Option Bank) : Option Bank :=
    o.map (fun b => { b with torn := b.torn || f.energy.contains i })
  let delta1 (i : Fin 4) (o : Option Delta) : Option Delta :=
    o.map (fun d => { d with torn := d.torn || f.energy.contains i })
  let k := s.mtr.kept
  let kept : MtrKept := { k with
    bank0 := bank1 0 k.bank0
    bank1 := bank1 1 k.bank1
    delta0 := delta1 2 k.delta0
    delta1 := delta1 3 k.delta1
    calImg := breakImg f.cal k.calImg
    circImg := breakImg f.circ k.circImg }
  let forces : Store (Option Force) := markStore f.forces (fun v => { v with torn := true }) s.ptx.forces
  let roll : Store (Option Rec) := markStore f.roll rec1 s.evr.roll
  let keep : Store (Option Rec) := markStore f.keep rec1 s.evr.keep
  let keys : Store (Option StoredKey) := markStore f.keys (fun v => { v with bad := true }) s.key.kept
  { s with
    mtr := { s.mtr with kept := kept }
    ptx := { s.ptx with forces := forces }
    evr := { s.evr with roll := roll, keep := keep }
    key := { s.key with kept := keys }
    rsr := { s.rsr with img := breakImg f.riser s.rsr.img } }

/-- Force records that fail their CRC are dropped; the others stay in force (R285). -/
def State.restoreForces (s : State) : State :=
  let bad := (s.ptx.forces.filter (fun e => match e.2 with
    | some f => f.torn
    | none => false)).length
  let t : State := { s with ptx := { s.ptx with forces := s.ptx.forces.filter (fun e => match e.2 with
    | some f => !f.torn
    | none => true) } }
  if bad = 0 then t else (t.setF F.PTX_STAT_FAREA 1).report 0x0A06 0 (wd bad) (wd t.ptx.forces.length) 0

/-- Trim loading (R653): the copy used (2 for factory defaults), whether a copy is rewritten, and whether TRIMDEF is set. -/
def trimChoice (tlcnt : Nat) (copy0 copy1 : Bool) : Nat × Bool × Bool :=
  if 3 ≤ tlcnt then (2, false, true)
  else if copy0 then (0, !copy1, false)
  else if copy1 then (1, true, false)
  else (2, false, true)

/-- The trim load completes (R653). (DEDUCED, log 111) -/
def State.loadTrim (s : State) (copy0 copy1 : Bool) : State :=
  let n := s.rst.tlcnt
  let (copy, repaired, dflt) := trimChoice n copy0 copy1
  let t := s.setRst { s.rst with tlcnt := 0 }
  let t := t.setF F.SYS_STAT_TRIMDEF (ofBool dflt)
  let t := ((t.setF F.RST_TRIM_COPY copy).setF F.RST_TRIM_TLCNT n).setF F.RST_TRIM_REPAIRED (ofBool repaired)
  t.report 0x0204 0 (wd copy) (wd n) (wd (ofBool repaired))

/-- Straps and clocks at time 0 (R642, R643, R652, R664, R667). -/
def State.sampleStraps (s : State) (i : StartIn) : State :=
  let sel := i.clksel.toNat
  let t := if s.time.keep then s.keepCycles i.keepCycles else s
  let t := if s.time.keep then t.setReg Reg.PWR_RETSEC (wd (t.time.sec.toNat % 2 ^ 32)) else t
  let t : State := { t with time := { t.time with keep := false } }
  let t := (t.setF F.CLK_STAT_STRAP sel).setF F.CLK_STAT_SRC (if sel = 3 then 0 else sel)
  let t := t.setReg Reg.CLK_GOOD 0x1FFFFFF
  let t := ((t.setF F.RST_BOOTREC_DBG (ofBool i.dbgen)).setF F.RST_BOOTREC_BOOTSEL i.bootsel.toNat).setF F.RST_BOOTREC_CLKSEL sel
  let t := (t.setF F.RST_BOOTREC_NSTART s.rst.starts).setF F.RST_BOOTREC_SLOT 7
  let t := t.setF F.TWN_STAT_TWINID (ofBool i.twinId)
  let t := t.setKey { t.key with root := if i.dbgen then 1 else if t.key.unlocked then 2 else 0 }
  (t.setReg Reg.UPD_CTL t.upd.kept.ctl).setReg Reg.UPD_VFLOOR t.upd.kept.vfloor

/-- The firmware restores its state from MRAM and configuration storage, before the first frame (R652): the recorder starts with
event 0x1204, event 0x0403 tells causes of OSF not told yet (R72), and forces, keys, metering and the configurations follow. In
Whiteout the legacy buses stay in reset (R637). (DEDUCED, log 111) -/
def State.restoreAll (s : State) : State :=
  let white := s.on F.UPD_STAT_WHITEOUT
  let t := s.recorderStart [] []
  let late := t.time.osfLate
  let t := if late = 0 then t else
    ({ t with time := { t.time with osfLate := 0 } } : State).report 0x0403 0 (wd late) 0 0
  let t := t.restoreForces.loadKeys
  let t := t.startMetering.watchReturn.startRiser
  let t := if white then t else t.startLegacy
  let t := match t.twn.cfgKept with
    | some w => t.setReg Reg.TWN_CFG w
    | none => t
  t.setF F.TWN_EPOCH_EPOCH t.twn.epochKept

/-- An image starts (R634, R636, R639): slot 0 A, 1 B, 2 recovery, 3 loaded over HP0. -/
def State.startImage (s : State) (slot reason : Nat) (ver : Word) (confHost : Bool) : State :=
  let t := (s.setF F.RST_BOOTREC_SLOT slot).setF F.RST_BOOTREC_REASON reason
  let t := (t.setF F.UPD_STAT_RUNSLOT slot).setF F.UPD_STAT_WHITEOUT (ofBool (slot = 2))
  let t := (t.setF F.UPD_STAT_CONF 0).setReg Reg.UPD_RUNVER ver
  let t := t.setUpd { t.upd with confHost := confHost, checks := false }
  let t := t.report 0x1707 0 (wd slot) (wd reason) ver
  (t.setRst { t.rst with phase := 1 }).restoreAll

/-- Whiteout, or the load over HP0 when the recovery image fails (R636, R637, R654). (DEDUCED, log 112) -/
def State.startRecovery (s : State) (ok : Bool) (reason : Nat) : State :=
  if ok then s.startImage 2 reason Config.recoveryVersion false
  else (s.setF F.RST_BOOTREC_REASON 0x12).setRst { s.rst with phase := 2 }

/-- The boot ROM's choice among the slots (R634). -/
def State.bootSlots (s : State) (recovery : Bool) : State :=
  let k := s.upd.kept
  let first := if k.activate then s.armedSlot.getD k.last else k.last
  let t := s.setUpd { s.upd with kept := { k with activate := false } }
  match t.chooseSlot 2 first 0 with
  | (some (j, reason), t) =>
    let m := (t.imgSlot j).manifest
    t.startImage j reason (mfVersion m) (bitOf (mfFlags m) 8)
  | (none, t) => t.startRecovery recovery 0x10

/-- RESET_RELEASE (R642, R652 to R654): the reset is no longer held, straps are sampled, trim is loaded, and the boot ROM acts on
BOOTSEL. A load of trim that a further reset cuts short leaves only its count. (DEDUCED, log 111, 113) -/
def resetReleaseEff (i : StartIn) (s : State) : State :=
  if s.rst.phase != 0 || s.rst.hot then s
  else if i.cut && s.rst.tlcnt < 3 then s.setRst { s.rst with tlcnt := s.rst.tlcnt + 1 }
  else
    let t := ((s.sampleStraps i).loadTrim i.trim0 i.trim1).markFaults i.faults
    match i.bootsel.toNat with
    | 0 => t.bootSlots i.recovery
    | 1 => t.startRecovery i.recovery 0x11
    | 2 => t.setRst { t.rst with phase := 2 }
    | _ => t.setRst { t.rst with phase := 3 }

/-- RESET_RELEASE (R652). -/
def execResetRelease (i : StartIn) (s : State) : Host.Outcome State Fault Refusal := .next (resetReleaseEff i s)

/-- LOADER_GO (R655): RST_LDCMD.GO from HP0 while the loader waits; host memory is as the host has written it. -/
def loaderGoEff (x : HPort) (v : Word) (mem : HostMem) (s : State) : State :=
  let s := s.hostStores x mem
  if x = .hp0 && s.rst.phase = 2 && fieldOf v 31 31 = 1 && !s.on F.RST_LDCMD_BUSY then
    (s.setF F.RST_LDCMD_BUSY 1).setF F.RST_LDCMD_STATUS 0
  else s

/-- LOADER_GO (R655). -/
def execLoaderGo (x : HPort) (v : Word) (mem : HostMem) (s : State) : Host.Outcome State Fault Refusal :=
  .next (loaderGoEff x v mem s)

/-- The loader writes STATUS and waits for a new GO (R655). -/
def State.loaderEnd (s : State) (status : Nat) : State := (s.setF F.RST_LDCMD_BUSY 0).setF F.RST_LDCMD_STATUS status

/-- The chunks of an image lie one after the other; each matches its hash (R655). -/
def chunksMatch (m body : List Byte) : Bool :=
  (List.range (mfChunks m)).all (fun c =>
    sha384 ((body.drop (65536 * c)).take (mfChunkLen m c)) = mfHash m c)

/-- The manifest's checks but for the operator signature (R623, R655): the first field at fault. -/
def State.loaderField (s : State) (m : List Byte) : Option Nat := (s.setF F.UPD_CTL_OPSIG 0).mfField m (mfVersion m)

/-- LOADER_CHECK_COMPLETE (R655): the buffer's manifest and chunks are read and checked; a good image runs from LPDDR5. -/
def loaderCheckCompleteEff (s : State) : State :=
  if s.rst.phase != 2 || !s.on F.RST_LDCMD_BUSY then s
  else
    let addr := (s.reg Reg.RST_LDL).toNat + (s.reg Reg.RST_LDH).toNat * 2 ^ 32
    match s.dmaRead .hp0 0 addr 256 with
    | (none, t) => t.loaderEnd 2
    | (some h, t) =>
      if mfChunks h = 0 || 4096 < mfChunks h then t.loaderEnd 4
      else
        match t.dmaRead .hp0 0 addr (mfLen h) with
        | (none, t) => t.loaderEnd 2
        | (some m, t) =>
          if (t.loaderField m).isSome then t.loaderEnd 4
          else if !polzilOk m then t.loaderEnd 3
          else
            match t.dmaRead .hp0 0 (addr + mfLen h) (65536 * (mfChunks m - 1) + mfLast m) with
            | (none, t) => t.loaderEnd 2
            | (some body, t) =>
              if chunksMatch m body then
                (t.setF F.RST_LDCMD_BUSY 0).startImage 3 (t.rf F.RST_BOOTREC_REASON) (mfVersion m) (bitOf (mfFlags m) 8)
              else t.loaderEnd 3

/-- LOADER_CHECK_COMPLETE (R655). -/
def execLoaderCheckComplete (s : State) : Host.Outcome State Fault Refusal := .next (loaderCheckCompleteEff s)

/-- Blocks that Whiteout holds in block reset (R637). -/
def whiteoutHeld : List Nat := [9, 10, 11, 12, 13, 14, 15, 17, 19, 20, 21]

/-- START_COMPLETE (R652): the blocks are released, READY rises, and events 0x0201 and, after an outage, 0x0303 are recorded.
(DEDUCED, log 111) -/
def startCompleteEff (s : State) : State :=
  if s.rst.phase != 1 then s
  else
    let white := s.on F.UPD_STAT_WHITEOUT
    let held := whiteoutHeld.foldl (fun a b => a + ofBool (white && s.variant.resettable b) * 2 ^ b) 0
    let t := (s.setF F.RST_BLKSTAT_INRST held).setF F.RST_BOOTREC_READY 1
    let t := ((t.setRst { t.rst with phase := 4, outage := false }).signalUnit 2).safShow
    let t := t.report 0x0201 0 (t.reg Reg.RST_CAUSE) (t.reg Reg.RST_BOOTREC) (t.reg Reg.PWR_RETSEC)
    if s.rst.outage then
      t.report 0x0303 0 (t.reg Reg.PWR_LOSSSEC) (t.reg Reg.PWR_RETSEC) (wd (t.rf F.RTC_STAT_OSF))
    else t

/-- START_COMPLETE (R652). -/
def execStartComplete (s : State) : Host.Outcome State Fault Refusal := .next (startCompleteEff s)

/-! ## Block resets (R656 to R658) -/

/-- `n` queue numbers from `q` on. -/
def queuesFrom (q n : Nat) : List Nat := (List.range n).map (q + ·)

/-- Queues that block `b` consumes (R179). -/
def blockConsumes (b : Nat) : List Nat :=
  if b = 9 then queuesFrom 320 64
  else if b = 10 then queuesFrom 256 64 ++ [416, 417]
  else if b = 16 then queuesFrom 384 32
  else if b = 20 then queuesFrom 420 4
  else if b = 21 then queuesFrom 424 8
  else if b = 23 then [418]
  else []

/-- Queues that block `b` produces, alone or with others (R179). -/
def blockProduces (b : Nat) : List Nat :=
  if b = 9 then queuesFrom 256 64 ++ queuesFrom 0 256
  else if b = 10 then queuesFrom 320 96
  else if b = 16 then queuesFrom 384 35 ++ queuesFrom 0 256
  else if b = 20 || b = 21 then queuesFrom 0 256
  else if b = 23 then queuesFrom 384 32
  else []

/-- Queues that a block reset of block `b` flushes (R193). (DEDUCED, log 41) -/
def blockQueues (b : Nat) : List Nat := blockConsumes b ++ blockProduces b

/-- PTX enters reset: what was on its way is dropped, outstanding requests count no miss (R692). -/
def State.ptxResetIn (s : State) : State :=
  let ex := (s.ents.filter Ent.valid).foldl (fun t e => t.setExch e.key { t.exch e.key with reqs := [] }) s
  { ex with ptx := { ex.ptx with inbox := [], snaps := [], publishing := false } }

/-- What the chapter of block `b` gives for the beginning of its block reset. (DEDUCED, log 41) -/
def State.blockIn (s : State) (b : Nat) : State :=
  if b = 9 then s.fldResetIn
  else if b = 10 then s.ptxResetIn
  else if b = 11 then s.lgeResetIn
  else if b = 12 then s.cleResetIn
  else if b = 13 then (s.faultSlots (fun e => entChans e != []) 6).lioResetIn
  else if b = 14 then s.mtrResetIn
  else if b = 15 then s.safReset false
  else if b = 16 then s.rsrResetIn
  else if b = 19 then s.dspResetIn
  else if b = 22 then s.keyBlockReset
  else s

/-- What it gives for the release. Frames that came for PTX meanwhile are discarded (R692). (DEDUCED, log 41) -/
def State.blockOut (s : State) (b : Nat) : State :=
  if b = 9 then s.fldResetOut
  else if b = 10 then (blockConsumes 10).foldl (fun t q => t.flushNow q) s
  else if b = 15 then s.safShow
  else s

/-- Whether bit `b` of RST_BLKCTL takes a write (R656). Whiteout never releases the blocks it holds (R637). -/
def State.holdable (s : State) (b : Nat) : Bool :=
  s.on F.RST_BOOTREC_READY && s.variant.resettable b && !(s.on F.UPD_STAT_WHITEOUT && whiteoutHeld.contains b)

/-- Block `b` is placed in reset (R656, R657): its outstanding commands end, its queues are flushed, and a block whose reset makes
the outputs untrustworthy costs an active twin its role (R523). (DEDUCED, log 116) -/
def State.holdBlock (s : State) (b : Nat) : State :=
  if !s.holdable b || s.on (regBit Reg.RST_BLKCTL b) then s
  else
    let t := s.abortOps (fun d => d.block = b)
    let t := if s.inReset b then t else t.blockIn b
    let t := (blockQueues b).foldl (fun t q => (t.flushNow q).newHead q) t
    let t := (t.setF (regBit Reg.RST_BLKCTL b) 1).setF (regBit Reg.RST_BLKSTAT b) 1
    let t := t.setRst { t.rst with waited := t.rst.waited.filter (fun w => w != b) }
    let t := t.report 0x0203 0 (wd b) 1 0
    if [10, 11, 12, 14].contains b then t.selfCause 7 else t

/-- BLOCK_RESET_ASSERT (R656). -/
def blockResetAssertEff (x : HPort) (b : Fin 25) (s : State) : State := s.asWrite x 2 (s.holdBlock b)

/-- BLOCK_RESET_ASSERT (R656). -/
def execBlockResetAssert (x : HPort) (b : Fin 25) (s : State) : Host.Outcome State Fault Refusal :=
  .next (blockResetAssertEff x b s)

/-- Clock-good of a block (R643). (DEDUCED, log 113) -/
def State.clockGood (s : State) (b : Nat) : Bool := s.on (regBit Reg.CLK_GOOD b)

/-- The release of block `b` is written; without clock-good it waits (R658). (DEDUCED, log 116) -/
def State.releaseBlock (s : State) (b : Nat) : State :=
  if !s.holdable b || !s.on (regBit Reg.RST_BLKCTL b) then s
  else
    let t := s.setF (regBit Reg.RST_BLKCTL b) 0
    if s.clockGood b then t
    else (t.setF F.RST_BLKSTAT_CLKWAIT 1).setRst { t.rst with waited := t.rst.waited ++ [b] }

/-- BLOCK_RELEASE_REQUEST (R658). -/
def blockReleaseRequestEff (x : HPort) (b : Fin 25) (s : State) : State := s.asWrite x 2 (s.releaseBlock b)

/-- BLOCK_RELEASE_REQUEST (R658). -/
def execBlockReleaseRequest (x : HPort) (b : Fin 25) (s : State) : Host.Outcome State Fault Refusal :=
  .next (blockReleaseRequestEff x b s)

/-- BLOCK_RELEASE (R658): a base-tick boundary with the block's clock good. -/
def blockReleaseEff (b : Fin 25) (s : State) : State :=
  if !s.holdable b || !s.inReset b || s.on (regBit Reg.RST_BLKCTL b) || !s.clockGood b then s
  else
    let held := s.rst.waited.contains b.val
    let t := s.setF (regBit Reg.RST_BLKSTAT b) 0
    let t := t.setRst { t.rst with waited := t.rst.waited.filter (fun w => w != b.val) }
    let t := t.report 0x0203 0 (wd b) 0 (wd (ofBool held))
    (t.blockOut b).signalUnit 2

/-- BLOCK_RELEASE (R658). -/
def execBlockRelease (b : Fin 25) (s : State) : Host.Outcome State Fault Refusal := .next (blockReleaseEff b s)

/-! ## Clocks (R645 to R647) -/

/-- Set a bit of CLK_STAT (R666). -/
def State.raiseClk (s : State) (bit : Nat) : State := s.raise Reg.CLK_STAT Reg.CLK_IEN 1 bit

/-- EXTERNAL_REFERENCE_FALLBACK (R645): only an external reference, and only while the module starts. -/
def externalReferenceFallbackEff (s : State) : State :=
  let sel := s.rf F.CLK_STAT_STRAP
  if s.rst.phase = 0 || s.rst.phase = 4 || s.on F.CLK_STAT_FALLBK || (sel != 1 && sel != 2) then s
  else ((s.setF F.CLK_STAT_FALLBK 1).setF F.CLK_STAT_SRC 0).report 0x0102 0 (wd sel) 0 0

/-- EXTERNAL_REFERENCE_FALLBACK (R645). -/
def execExternalReferenceFallback (s : State) : Host.Outcome State Fault Refusal := .next (externalReferenceFallbackEff s)

/-- REFERENCE_LOST (R646). -/
def referenceLostEff (s : State) : State :=
  if s.rst.phase = 0 || s.on F.CLK_STAT_REFLOST then s
  else
    let t := (s.setF F.CLK_STAT_REFLOST 1).raiseClk 1
    (t.report 0x0101 0 1 (wd (t.rf F.CLK_STAT_SRC)) 0).selfCause 3

/-- REFERENCE_LOST (R646). -/
def execReferenceLost (s : State) : Host.Outcome State Fault Refusal := .next (referenceLostEff s)

/-- REFERENCE_RESTORED (R646). -/
def referenceRestoredEff (s : State) : State :=
  if !s.on F.CLK_STAT_REFLOST then s
  else
    let t := (s.setF F.CLK_STAT_REFLOST 0).raiseClk 1
    t.report 0x0101 0 0 (wd (t.rf F.CLK_STAT_SRC)) 0

/-- REFERENCE_RESTORED (R646). -/
def execReferenceRestored (s : State) : Host.Outcome State Fault Refusal := .next (referenceRestoredEff s)

/-- SERDES_LOCK_LOST (R643, R647): clock-good of a block that uses a SerDes changes. (DEDUCED, log 113) -/
def serdesLockLostEff (b : Fin 25) (good : Bool) (s : State) : State :=
  if !([7, 16, 17].contains b.val) || s.clockGood b = good || s.rst.phase = 0 then s
  else ((s.setF (regBit Reg.CLK_GOOD b) (ofBool good)).raiseClk 0).report 0x0103 0 (wd b) (wd (ofBool good)) 0

/-- SERDES_LOCK_LOST (R647). -/
def execSerdesLockLost (b : Fin 25) (good : Bool) (s : State) : Host.Outcome State Fault Refusal :=
  .next (serdesLockLostEff b good s)

/-! ## Supply (R659 to R663) -/

/-- Set a bit of PWR_STAT (R668). -/
def State.raisePwr (s : State) (bit : Nat) : State := s.raise Reg.PWR_STAT Reg.PWR_IEN 3 bit

/-- VMAIN_WARNING (R659, R660): VMAIN, in 10 mV, is below the warning level, or PFW_N is low while PFWEN is 1. -/
def vmainWarningEff (pfw : Bool) (vmain : Nat) (s : State) : State :=
  if s.rst.phase = 0 then s
  else
    let t := if pfw then s.setF F.PWR_STAT_PFW 1 else s
    if (pfw && !s.on F.PWR_CTL_PFWEN) || s.on F.PWR_STAT_SEQ then t
    else
      let t := ((t.setF F.PWR_STAT_WARN 1).setF F.PWR_STAT_SEQ 1).raisePwr 3
      let t := (t.report 0x0301 0 (wd vmain) (wd (ofBool pfw)) 0).safWarn true
      (if s.rst.phase = 1 || s.rst.phase = 4 then t.warnBank else t).dspWarn

/-- VMAIN_WARNING (R660). -/
def execVmainWarning (pfw : Bool) (vmain : Nat) (s : State) : Host.Outcome State Fault Refusal :=
  .next (vmainWarningEff pfw vmain s)

/-- WARNING_END (R661): the lowest VMAIN in 10 mV and the length of the warning in µs. (DEDUCED, log 115) -/
def warningEndEff (low us : Nat) (s : State) : State :=
  let t := s.setF F.PWR_STAT_PFW 0
  if !s.on F.PWR_STAT_WARN then t
  else
    let t := ((t.setF F.PWR_STAT_WARN 0).setF F.PWR_STAT_SEQ 0).raisePwr 4
    (t.report 0x0302 0 (wd low) (wd us) 0).safWarn false |>.warnOver

/-- WARNING_END (R661). -/
def execWarningEnd (low us : Nat) (s : State) : Host.Outcome State Fault Refusal := .next (warningEndEff low us s)

/-- Event 0x0304 for a crossing, remembered until the next (R649, R663, R665). -/
def State.tempEvent (s : State) (temp : Int) (level : Nat) : State :=
  (s.setRst { s.rst with level := level }).report 0x0304 0 (wdInt temp) (wd level) 0

/-- What a die temperature does (R649, R663, R523): above 125 °C a system reset that is held until below 105 °C, above 115 °C an
active twin drops ACT. -/
def State.tempReact (s : State) (temp : Int) : State :=
  if 125 < temp && s.rst.level < 2 then
    let t := (s.tempEvent temp 2).drainReports
    let t := t.sysReset 8
    t.setRst { t.rst with hot := true }
  else if 115 < temp && s.rst.level < 1 then (s.tempEvent temp 1).selfCause 4
  else if temp < 105 && s.rst.level != 0 then
    let t := s.tempEvent temp 0
    t.setRst { t.rst with hot := false }
  else s

/-- SUPPLY_MEASUREMENT (R663): VMAIN and VBAK in 10 mV, the die temperature in °C. (DESIGN CHOICE, log 114) -/
def supplyMeasurementEff (vmain vbak : Nat) (temp : Int) (s : State) : State :=
  let t := (s.setF F.PWR_MEAS_VMAIN (min vmain 4095)).setF F.PWR_MEAS_VBAK (min vbak 4095)
  let t := t.setF F.PWR_TEMP_TEMP (unsignedOf 8 (clampInt (-128) 127 temp))
  t.tempReact temp

/-- SUPPLY_MEASUREMENT (R663). -/
def execSupplyMeasurement (vmain vbak : Nat) (temp : Int) (s : State) : Host.Outcome State Fault Refusal :=
  .next (supplyMeasurementEff vmain vbak temp s)

/-! ## Output contacts (R673) -/

/-- Whether the D33 outputs of block `b` have a driver: not while VMAIN is absent or a reset is asserted, nor while the block is
held in reset before READY (R673). (DESIGN CHOICE, log 125) -/
def State.driven (s : State) (b : Nat) : Bool :=
  match s.rst.phase with
  | 0 => false
  | 4 => true
  | _ => !s.inReset b

/-- The level of ACT_OUT: driven low until a role raises it (R508, R673). (DESIGN CHOICE, log 125) -/
def State.actLevel (s : State) : Bool := s.on F.TWN_STAT_ACT

end Sys2Proof.Machine
end

