-- ==== Sys2Proof/Machine/Registers.lean ====
section
/-! DEFINITION. Register accesses through BAR0 (chapter "Introduction", R7 to R15; chapter "Module Architecture", R18 to R36):
which register a write reaches, what a write of each register does, what a read shows and clears. -/

namespace Sys2Proof.Machine

/-- The index of an offset in an array of `n` registers. -/
def arr? (off base n stride : Nat) : Option Nat :=
  if base ≤ off && off < base + n * stride && (off - base) % stride = 0 then some ((off - base) / stride) else none

/-! ## Writes -/

/-- A write to RTC_SETCTL (R54 to R56, R80). -/
def State.writeSetCtl (s : State) (x : HPort) (v : Word) : State :=
  let t := s.writeFields Reg.RTC_SETCTL v
  if fieldOf v 0 0 = 1 then t.setTimeGo x else t

/-- The alarm's time, and the count, at the resolution of the comparators (R63). -/
def State.alarmTime (s : State) (i : Nat) : Nat :=
  ((s.reg (Reg.RTC_ALMSECL i)).toNat + s.rf (F.RTC_ALMSECH_SEC i) * 2 ^ 32) * 2 ^ 16 + s.rf (F.RTC_ALMSECH_FRAC i)

/-- The count at the resolution of the comparators (R63). -/
def State.alarmCount (s : State) : Nat := s.count / 2 ^ 16

/-- Note whether an alarm will fire with SKIP (R63, R64). (DEDUCED, log 27; DESIGN CHOICE, log 28) -/
def State.noteLate (s : State) (i : Nat) (b : Bool) : State :=
  { s with time := { s.time with lateAlarms := withBit s.time.lateAlarms i b } }

/-- A write to RTC_ALMCTL[i] (R62, R64): an alarm armed after its time fires with SKIP. -/
def State.writeAlmCtl (s : State) (i : Nat) (v : Word) : State :=
  let was := s.on (F.RTC_ALMCTL_ARM i)
  let t := s.writeFields (Reg.RTC_ALMCTL i) v
  if !was && t.on (F.RTC_ALMCTL_ARM i) then t.noteLate i (Nat.blt (t.alarmTime i) t.alarmCount) else t

/-- A write of an RTC register (R54 to R71, R77 to R83). -/
def State.writeRtc (s : State) (x : HPort) (off : Nat) (v : Word) : State :=
  if off = Reg.RTC_CTL then s.writeRtcCtl v
  else if off = Reg.RTC_SETCTL then s.writeSetCtl x v
  else if off = Reg.RTC_TRIM then s.writeTrim v
  else if off = Reg.RTC_MEASCTL then s.writeMeasCtl v
  else match arr? off (Reg.RTC_ALMSECL 0) 8 16 with
    | some i => if s.on (F.RTC_ALMCTL_ARM i) then s else s.writeFields off v
    | none => match arr? off (Reg.RTC_ALMSECH 0) 8 16 with
      | some i => if s.on (F.RTC_ALMCTL_ARM i) then s else s.writeFields off v
      | none => match arr? off (Reg.RTC_ALMCTL 0) 8 16 with
        | some i => s.writeAlmCtl i v
        | none => s.writeFields off v

/-- A write to PRT_SHCMD (R123): ERR is cleared by 1, WR commits or else RD reads back, unless an action is in progress. -/
def State.writeShCmd (s : State) (v : Word) : State :=
  if s.on F.PRT_SHCMD_BUSY && v.toNat % 4 != 0 then s.badVal
  else
    let t := s.writeFields Reg.PRT_SHCMD v
    if fieldOf v 0 0 = 1 then t.shareAct t.shareCommit
    else if fieldOf v 1 1 = 1 then t.shareAct t.shareReadBack
    else t

/-- A write to a staging register of the share table is ignored and sets BADVAL while BUSY is 1 (R123). -/
def State.writeShStage (s : State) (off : Nat) (v : Word) : State :=
  if s.on F.PRT_SHCMD_BUSY then s.badVal else s.writeFields off v

/-- A write to PRT_PASIDx[p]: while ring set p of port x is RUNNING it is ignored and sets BADVAL (R125). -/
def State.writePasid (s : State) (x : HPort) (p off : Nat) (v : Word) : State :=
  if s.rsRunning x p then s.badVal else s.writeFields off v

/-- A write of a PRT register (R99 to R127). The bucket of partition 0 does not exist and its register is not written. -/
def State.writePrt (s : State) (x : HPort) (off : Nat) (v : Word) : State :=
  if off = Reg.PRT_SHCMD then s.writeShCmd v
  else if off = Reg.PRT_SHIDX || off = Reg.PRT_SHW0 || off = Reg.PRT_SHW1 then s.writeShStage off v
  else match arr? off (Reg.PRT_PEN 0) 4 4 with
    | some j => s.writePen x j v
    | none => match arr? off (Reg.PRT_PASID 0 0) 128 4 with
      | some p => s.writePasid .hp0 p off v
      | none => match arr? off (Reg.PRT_PASID 1 0) 128 4 with
        | some p => s.writePasid .hp1 p off v
        | none => match arr? off (Reg.PRT_EVLIM 0) 128 4 with
          | some 0 => s
          | some p => (s.writeFields off v).fillBucket (256 + p)
          | none => s.writeFields off v

/-- A write to HPC_RSCMDx (R175): ERR is cleared by 1, and the lowest-numbered action written is carried out. -/
def State.writeRsCmd (s : State) (x : HPort) (v : Word) : State :=
  if s.on (F.HPC_RSCMD_BUSY x.num) && v.toNat % 16 != 0 then s.badVal
  else
    let t := s.writeFields (Reg.HPC_RSCMD x.num) v
    if fieldOf v 0 0 = 1 then ringSetCommitEff x t
    else if fieldOf v 1 1 = 1 then ringSetReadBackEff x t
    else if fieldOf v 2 2 = 1 then ringSetStartEff x t
    else if fieldOf v 3 3 = 1 then ringSetStopEff x t
    else t

/-- The sum of R295 over all partitions, with `n` for the quota of partition `p`. (DESIGN CHOICE, log 13) -/
def quotaSum (quota use : Nat → Nat) (p n : Nat) : Nat :=
  (List.range 128).foldl (fun a q => a + max (if q = p then n else quota q) (use q)) 0

/-- A write to PTX_QUOTA[p] (R295): a quota raised beyond a limit keeps its value and sets BADVAL.
(DESIGN CHOICE, log 13) -/
def State.writeQuota (s : State) (p : Nat) (v : Word) : State :=
  let fq := fieldOf v 28 16
  let sq := fieldOf v 13 0
  let t :=
    if 4096 < fq || (s.rf (F.PTX_QUOTA_FQ p) < fq &&
      4096 < quotaSum (fun q => s.rf (F.PTX_QUOTA_FQ q)) s.forceUse p fq) then s.badVal
    else s.setF (F.PTX_QUOTA_FQ p) fq
  if 8192 < sq || (s.rf (F.PTX_QUOTA_SQ p) < sq &&
    8192 < quotaSum (fun q => s.rf (F.PTX_QUOTA_SQ q)) s.subUse p sq) then t.badVal
  else t.setF (F.PTX_QUOTA_SQ p) sq

/-- A write of an LGE register (R298, R333). -/
def State.writeLge (s : State) (off : Nat) (v : Word) : State :=
  match arr? off (Reg.LGE_TCFG 0) 16 4 with
  | some t => s.writeTask t 0 v
  | none => match arr? off (Reg.LGE_TSCH 0) 16 4 with
    | some t => s.writeTask t 1 v
    | none => match arr? off (Reg.LGE_TBUD 0) 16 4 with
      | some t => s.writeTask t 2 v
      | none => s.writeFields off v

/-- A write of a CLE register (R335, R359, R372, R373). -/
def State.writeCle (s : State) (off : Nat) (v : Word) : State :=
  match arr? off (Reg.CLE_SCFG 0) 256 4 with
  | some i => s.writeSlotCfg i v
  | none => match arr? off (Reg.CLE_CAPSEG 0) 4 4 with
    | some j => s.writeCapSeg j v
    | none => s.writeFields off v

/-- Whether a LIO register holds a float32 gain or offset, which has to be finite (R375). -/
def lioFloat (off : Nat) : Bool :=
  (Reg.LIO_AIG 0 ≤ off && off < Reg.LIO_AIRAW 0) || (Reg.LIO_AOG 0 ≤ off && off < Reg.LIO_AOCODE 0)
    || (Reg.LIO_PIFG 0 ≤ off && off < Reg.LIO_PICNT 0)

/-- A write of a LIO register (R374 to R377). -/
def State.writeLio (s : State) (off : Nat) (v : Word) : State :=
  match arr? off (Reg.LIO_PWCFG 0) 8 4 with
  | some n => s.writePwm n v
  | none =>
    let s : State := if off = Reg.LIO_DDIR then { s with lio := { s.lio with dirHeld := false } } else s
    if lioFloat off && !finite32 v then s.badVal else s.writeFields off v

/-- A write of an MTR register (R398, R402, R415, R416, R420). -/
def State.writeMtr (s : State) (off : Nat) (v : Word) : State :=
  if off = Reg.MTR_ACCCLR then s.writeAccClr v
  else if off = Reg.MTR_IVCTL then s.writeIvCtl v
  else if off = Reg.MTR_TWCLR then s.writeWatchClr v
  else match arr? off (Reg.MTR_PCFG 0) 8 4 with
    | some k => s.writePulseCfg k v
    | none => match arr? off (Reg.MTR_PMC 0) 8 4 with
      | some k => s.writePulseMc k v
      | none => match arr? off (Reg.MTR_TW 0) 16 4 with
        | some k => s.writeWatch k v
        | none => s.writeFields off v

/-- A write of an EVR register (R543, R547, R558). The bucket of code group 0x12 has no limit and its register is not written. -/
def State.writeEvr (s : State) (x : HPort) (off : Nat) (v : Word) : State :=
  if off = Reg.EVR_CTL then (if fieldOf v 0 0 = 1 then s.keepClear x else s)
  else match arr? off (Reg.EVR_BKT 0) 256 4 with
    | some 0x12 => s
    | some b => (s.writeFields off v).fillBucket b
    | none => s.writeFields off v

/-- Whether EVR_RSELx selects a slot that its area has (R557). -/
def rselOk (v : Word) : Bool := fieldOf v 31 31 = 0 || fieldOf v 13 0 < 1024

/-- A write to a port's own EVR_RSELx (R552, R557): a SLOT of 1,024 or above in the keep area is kept out, and AREA with it when the
SLOT that stays lies there too (R11). (DEDUCED, log 14 and 177) -/
def State.writeRsel (s : State) (x : HPort) (v : Word) : State :=
  let (w, kept) := settleWord rselOk (s.reg (Reg.EVR_RSEL x.num)) v [[], [(13, 0)], [(31, 31)]]
  (s.writeFields (Reg.EVR_RSEL x.num) w).badValIf kept

/-- A write of a DSP register (R563, R573, R577). EN is taken with the crack reading that the enabling takes, an open value; the band
shown follows a new DEFBAND (R566). -/
def State.writeDsp (s : State) (off : Nat) (v : Word) : State :=
  match arr? off (Reg.DSP_PCTL 0) 2 4 with
  | some n =>
    if fieldOf v 31 31 = 1 then s.useFree.enablePanel n (BitVec.ofNat 16 s.freeVal.toNat)
    else if s.on (F.DSP_PCTL_EN n) then s.disablePanel n
    else s
  | none =>
    let locked := [0, 1].any (fun n => (off = Reg.DSP_PCFG n || off = Reg.DSP_PTIM n) && s.on (F.DSP_PCTL_EN n))
    if locked then s.badVal else ((s.writeFields off v).showBand 0).showBand 1

/-- A write of a KEY register (R616, R619): KEY_SCNT is stored with its slot, and is not 0 while CNTEN is 1.
(DEDUCED, log 15) -/
def State.writeKey (s : State) (off : Nat) (v : Word) : State :=
  match arr? off (Reg.KEY_SATTR 0) 64 4 with
  | some i => s.writeSattr i v
  | none => match arr? off (Reg.KEY_SCNT 0) 64 4 with
    | some i => if v = 0 && s.on (F.KEY_SATTR_CNTEN i) then s.badVal else (s.writeFields off v).storeSlot i
    | none => s.writeFields off v

/-- A write to UPD_CMD (R641): arm, disarm, activate, confirm or serve. The seconds a confirmation reports are an open value. -/
def State.writeUpdCmd (s : State) (v : Word) : State :=
  let op := fieldOf v 31 28
  if op = 1 then s.arm (fieldOf v 0 0)
  else if op = 2 then s.disarm
  else if op = 3 then s.activate
  else if op = 4 then s.useFree.hostConfirm s.freeVal.toNat
  else if op = 5 then s.serveAll
  else s.badVal

/-- A write of a UPD register (R641). -/
def State.writeUpd (s : State) (off : Nat) (v : Word) : State :=
  if off = Reg.UPD_CTL then s.writeUpdCtl v
  else if off = Reg.UPD_VFLOOR then s.writeVfloor v
  else if off = Reg.UPD_CMD then s.writeUpdCmd v
  else s.writeFields off v

/-- A write of an RST register (R651, R656). -/
def State.writeRst (s : State) (x : HPort) (off : Nat) (v : Word) : State :=
  if off = Reg.RST_CTL then s.writeRstCtl x v
  else if off = Reg.RST_BLKCTL then
    forUpto 25 s (fun b t => if bitOf v.toNat b then t.holdBlock b else t.releaseBlock b)
  else s.writeFields off v

/-- A write of a QPL register (R191, R197, R199). -/
def State.writeQpl (s : State) (off : Nat) (v : Word) : State :=
  if off = Reg.QPL_CTL then s.writeQplCtl v
  else match arr? off (Reg.QPL_QSTAT 0) 1024 4 with
    | some q =>
      let t := s.writeFields off v
      if fieldOf v 3 3 = 1 then t.requestFlush q else t
    | none => s.writeFields off v

/-- A write by the port that holds SEM0 (R15). (DEDUCED, log 124) -/
def State.writeSetUp (s : State) (x : HPort) (off : Nat) (v : Word) : State :=
  match off / 0x10000 with
  | 1 => if off = Reg.CLK_TIN then s.writeClkTin v else s.writeFields off v
  | 2 => s.writeRst x off v
  | 4 => s.writeRtc x off v
  | 6 => s.writePrt x off v
  | 8 => s.writeQpl off v
  | 9 =>
    if off = Reg.FLD_PWRCMD then s.writePwrCmd v
    else if off = Reg.FLD_MDIO then s.writeMdio v
    else s.writeFields off v
  | 10 =>
    match arr? off (Reg.PTX_QUOTA 0) 128 4 with
    | some p => s.writeQuota p v
    | none => s.writeFields off v
  | 11 => s.writeLge off v
  | 12 => s.writeCle off v
  | 13 => s.writeLio off v
  | 14 => s.writeMtr off v
  | 18 => s.writeEvr x off v
  | 19 => s.writeDsp off v
  | 20 =>
    match arr? off (Reg.CAN_CMD 0) 4 0x1000 with
    | some k => if fieldOf v 0 0 = 1 then s.canRecover k else s
    | none => s.writeFields off v
  | 22 => s.writeKey off v
  | 23 => s.writeUpd off v
  | _ => s.writeFields off v

/-- A write to SEM_CMD[i], which either port may write (R140, R177). -/
def State.writeSemCmd (s : State) (x : HPort) (i : Fin 64) (v : Word) : State :=
  if fieldOf v 31 30 = 1 then semAcquireEff x i (BitVec.ofNat 16 (fieldOf v 15 0)) s
  else if fieldOf v 31 30 = 2 then semReleaseEff x i s
  else s.badVal

/-- A write of the loader registers, from HP0 and while the loader waits (R655). -/
def State.writeLoader (s : State) (x : HPort) (off : Nat) (v : Word) : State :=
  if x = .hp0 && s.rst.phase = 2 then
    (if off = Reg.RST_LDCMD then loaderGoEff x v { cells := [], bad := s.hbad x } s else s.writeFields off v)
  else s

/-- A write to TWN_CTL: either port may write YIELD while the module is ACTIVE, the rest follows R15 (R525, R531). -/
def State.writeTwnCtl (s : State) (x : HPort) (v : Word) : State :=
  let t := if fieldOf v 2 2 = 1 then s.yield else s
  if t.holdsSem0 x then t.writeFields Reg.TWN_CTL v else t

/-- Whether the register belongs to a port's own set, which only that port writes, and without SEM0 (R143, R176, R552, R588).
(DEDUCED, log 12) -/
def ownReg (off : Nat) : Option HPort :=
  if (Reg.HPC_RSIDX 0 ≤ off && off ≤ Reg.HPC_RSCMD 0) || off = Reg.HPC_UVEN 0 || off = Reg.EVR_RSEL 0
    || off = Reg.CAN_MBSEL 0 then some .hp0
  else if (Reg.HPC_RSIDX 1 ≤ off && off ≤ Reg.HPC_RSCMD 1) || off = Reg.HPC_UVEN 1 || off = Reg.EVR_RSEL 1
    || off = Reg.CAN_MBSEL 1 then some .hp1
  else none

/-- A port's write to a register of its own set. (DEDUCED, log 12) -/
def State.writeOwn (s : State) (x : HPort) (off : Nat) (v : Word) : State :=
  if off = Reg.HPC_RSCMD x.num then s.writeRsCmd x v
  else if off = Reg.EVR_RSEL x.num then s.writeRsel x v
  else if off = Reg.CAN_MBSEL x.num then s.writeMbsel x v
  else s.writeFields off v

/-- A write to a defined register of a fitted unit that is not held in reset: each register's writers (R15, R140, R143, R525,
R655). -/
def State.writeReg (s : State) (x : HPort) (off : Nat) (v : Word) : State :=
  match ownReg off with
  | some y => if x = y then s.writeOwn x off v else s
  | none =>
    match arr? off (Reg.SEM_CMD 0) 64 4 with
    | some i => s.writeSemCmd x (Fin.ofNat 64 i) v
    | none =>
      if off = Reg.RST_LDL || off = Reg.RST_LDH || off = Reg.RST_LDCMD then s.writeLoader x off v
      else if off = Reg.TWN_CTL then s.writeTwnCtl x v
      else if s.holdsSem0 x then s.writeSetUp x off v
      else s

/-- A write to a doorbell page (R147 to R150); writes to other offsets of the page are ignored. -/
def State.writeDoorbell (s : State) (x : HPort) (p : Part) (o : Nat) (v : Word) : State :=
  if o = 0x000 then cmdPiWriteEff x p v { cells := [], bad := s.hbad x } s
  else if o = 0x004 then cplCiWriteEff x p v s
  else if o = 0x008 then evtCiWriteEff x p v s
  else if o = 0x00C then rxPiWriteEff x p v { cells := [], bad := s.hbad x } s
  else if o = 0x010 then armWriteEff x p v s
  else s

/-- Whether a BAR0 offset lies on a doorbell page (R19). -/
def isDoorbell (off : Nat) : Bool := 0x800000 ≤ off && off < 0x880000

/-- Whether the chapters define no register at an offset, or an absent unit or port owns it (R20, R31). -/
def State.noReg (s : State) (off : Nat) : Bool := (Reg.row? off).isNone || s.variant.absent off

/-- A 32-bit aligned write of port `x` to BAR0: to a doorbell page, to an undefined or absent offset (ABSWR, R20, R31), to a
block held in reset (discarded, R657), or to a register. -/
def State.hostWrite (s : State) (x : HPort) (off : Nat) (v : Word) : State :=
  if isDoorbell off then s.writeDoorbell x (Fin.ofNat 128 ((off - 0x800000) / 0x1000)) (off % 0x1000) v
  else if s.noReg off then s.absWr
  else if s.inReset (off / 0x10000) then s
  else s.writeReg x off v

/-! ## Reads -/

/-- RSR_PSTAT as it reads while `q` quanta of a pause were received: some of them, at least 1, remain (R503). The time since the
pause frame is not held, so that number is free. (DEDUCED, log 186) -/
def pauseView (q : Nat) (v w : Word) : Word := if q = 0 then w else w - wd (v.toNat % q)

/-- Registers that show what other parts of the state hold, as port `x` reads them; the rest shows what it stores.
(DESIGN CHOICE, log 39, 102) -/
def State.viewReg (s : State) (x : HPort) (off : Nat) : Word :=
  if off = Reg.RTC_FRAC then s.time.frac
  else if off = Reg.RTC_SECL then wd ((s.secSnap x).toNat % 2 ^ 32)
  else if off = Reg.RTC_SECH then wd ((s.secSnap x).toNat / 2 ^ 32)
  else if off = Reg.TCK_FSECL then s.frameSecSnap x
  else if off = Reg.PRT_SHCNT then wd (s.prt.shares.filter (fun e => e.2.valid)).length
  else if off = Reg.HPC_PSTAT 0 then withField (s.reg off) 24 16 (s.slotsUsed .hp0)
  else if off = Reg.HPC_PSTAT 1 then withField (s.reg off) 24 16 (s.slotsUsed .hp1)
  else if off = Reg.QPL_FREE then wd s.freeCells
  else if off = Reg.QPL_SHFREE then wd s.sharedFree
  else if off = Reg.QPL_RESVSUM then wd s.resvSum
  else if off = Reg.PTX_FCNT then wd s.forceList.length
  else if off = Reg.CLE_TCL then wd s.cle.tc
  else if off = Reg.CLE_TCH then s.tcSnap x
  else if off = Reg.TWN_ELIG then wd s.twnElig
  else if off = Reg.UPD_STAT then withField (s.reg off) 27 27 (ofBool s.upd.flow.isSome)
  else if off = Reg.UPD_CHPOS then s.chposReg
  else match arr? off (Reg.QPL_QFILL 0) 1024 4 with
    | some q => wd (s.fill q)
    | none => match arr? off (Reg.QPL_QSTAT 0) 1024 4 with
      | some q => s.qstat q
      | none => match arr? off (Reg.PTX_USE 0) 128 4 with
        | some p => wd (s.forceUse p * 2 ^ 16 + s.subUse p)
        | none => match arr? off (Reg.RSR_CNTL 0) 48 8 with
          | some i => wd (Store.get natZero s.rsr.cnt i % 2 ^ 32)
          | none => match arr? off (Reg.EVR_RWIN 0 0) 8 4 with
            | some i => s.windowWord .hp0 i
            | none => match arr? off (Reg.EVR_RWIN 1 0) 8 4 with
              | some i => s.windowWord .hp1 i
              | none => match arr? off (Reg.CAN_MBWIN 0 0) 21 4 with
                | some i => s.mailboxWord .hp0 i
                | none => match arr? off (Reg.CAN_MBWIN 1 0) 21 4 with
                  | some i => s.mailboxWord .hp1 i
                  | none => match arr? off (Reg.UPD_SLOT 0) 2 4 with
                    | some j => s.slotReg j
                    | none => match arr? off (Reg.UPD_SLOTVER 0) 2 4 with
                      | some j => (s.imgSlot j).version
                      | none => match arr? off (Reg.SER_STAT 0) 8 0x100 with
                        | some _ => (s.reg off &&& 0x9FFFFFFF) ||| (s.freeVal &&& 0x60000000)
                        | none => match arr? off (Reg.RSR_PSTAT 0) 4 4 with
                          | some r => pauseView (s.rf (F.RSR_PSTAT_PQ r)) s.freeVal (s.reg off)
                          | none => s.reg off

/-- What a read does besides showing the value: snapshots (R53, R84, R371, R504), the mailbox window of the port itself (R588),
and RC fields, which return to their reset values after a read of any size (R13). -/
def State.readAct (s : State) (x : HPort) (off : Nat) : State :=
  if off = Reg.RTC_FRAC then s.snapSec x
  else if off = Reg.TCK_CUR then s.snapFrameSec x
  else if off = Reg.CLE_TCL then s.snapTc x
  else if off = Reg.CAN_MBWIN x.num 0 then (s.readWindow0 x).2
  else if off = Reg.CAN_MBWIN x.num 20 then s.releaseMailbox x
  else match arr? off (Reg.RSR_CNTL 0) 48 8 with
    | some i =>
      let t := s.setReg (Reg.RSR_CNTH x.num) (wd (Store.get natZero s.rsr.cnt i / 2 ^ 32))
      t.setRsr { t.rsr with cnt := Store.put natZero t.rsr.cnt i 0 }
    | none => match arr? off (Reg.SER_STAT 0) 8 0x100 with
      | some _ => s.useFree
      | none => match arr? off (Reg.RSR_PSTAT 0) 4 4 with
        | some _ => s.useFree
        | none => s.clearRc off

/-- A read of `size` bytes at a BAR0 offset by port `x`: 0 from an undefined offset or an absent unit or port (R20, R31), a
Completer Abort from a block held in reset (R657) except for the recorder's windows (R553), else the addressed bytes of the
register (R12). (DEDUCED, log 11, 85) -/
def State.hostRead (s : State) (x : HPort) (off size : Nat) : State :=
  let base := off - off % 4
  if isDoorbell base then s.showRead x off size (s.readDoorbell x ((base - 0x800000) / 0x1000) (base % 0x1000))
  else if s.noReg base then s.showRead x off size 0
  else if s.inReset (base / 0x10000) then
    (if (arr? base (Reg.EVR_RWIN 0 0) 8 4).isSome || (arr? base (Reg.EVR_RWIN 1 0) 8 4).isSome then s.showRead x off size 0
    else s.emit (.completerAbort x off))
  else (s.readAct x base).showRead x off size (hideWo base (s.viewReg x base))

/-! ## The PCI Express function (R2, R128, R129, R171) -/

/-- The device ID of a variant (R2). -/
def Variant.deviceId : Variant → Nat
  | .ofc960 => 0x0960
  | .ofc940 => 0x0940
  | .ofc920 => 0x0920

/-- Word `o` of a function's configuration space: identity and capabilities as R128 gives them, in the standard header; the offsets
of the power management (0x40), MSI-X (0x50) and PASID (0x100) capabilities are the model's. (PRESUMED, log 40) -/
def State.cfgWord (s : State) (x : HPort) (o : Nat) : Word :=
  let c := s.pci x
  let dev := s.variant.deviceId
  if o = 0x00 then wd (dev * 2 ^ 16 + 0x1F3B)
  else if o = 0x04 then wd (2 ^ 20 + 4 * ofBool c.busMaster)
  else if o = 0x08 then wd (0x088000 * 2 ^ 8 + 0x02)
  else if o = 0x10 || o = 0x18 then 4
  else if o = 0x2C then wd (dev * 2 ^ 16 + 0x1F3B)
  else if o = 0x34 then 0x40
  else if o = 0x40 then 0x00035001
  else if o = 0x44 then wd (3 * ofBool c.d3hot)
  else if o = 0x50 then wd (ofBool c.msixOn * 2 ^ 31 + ofBool c.funcMask * 2 ^ 30 + 2047 * 2 ^ 16 + 0x11)
  else if o = 0x54 then 2
  else if o = 0x58 then 0x8002
  else if o = 0x100 then 0x0001001B
  else if o = 0x104 then wd (ofBool c.pasidOn * 2 ^ 16 + 20 * 2 ^ 8)
  else 0

/-- A write to a function's configuration space (R128). (PRESUMED, log 40) -/
def State.writeCfg (s : State) (x : HPort) (o : Nat) (v : Word) : State :=
  let c := s.pci x
  if o = 0x04 then s.setPci x { c with busMaster := bitOf v.toNat 2 }
  else if o = 0x44 then
    if fieldOf v 1 0 = 3 then (if c.d3hot then s else d3hotEntryEff x s)
    else if fieldOf v 1 0 = 0 then s.setPci x { c with d3hot := false }
    else s
  else if o = 0x50 then s.setPci x { c with msixOn := bitOf v.toNat 31, funcMask := bitOf v.toNat 30 }
  else if o = 0x104 then s.setPci x { c with pasidOn := bitOf v.toNat 16 }
  else s

/-- Write a word of the MSI-X table; a vector that this unmasks while it is pending is signalled (R129, R171). -/
def State.writeMsix (s : State) (x : HPort) (k : Nat) (v : Word) : State :=
  let v := if k % 4 = 3 then wd (v.toNat % 2) else if k % 4 = 0 then wd (v.toNat / 4 * 4) else v
  let t : State := match x with
    | .hp0 => { s with host := { s.host with tbl0 := Store.put msixReset s.host.tbl0 k v } }
    | .hp1 => { s with host := { s.host with tbl1 := Store.put msixReset s.host.tbl1 k v } }
  t.unpend x

/-- Word `j` of the pending-bit array (R129). -/
def State.pbaWord (s : State) (x : HPort) (j : Nat) : Word :=
  wd ((List.range 32).foldl (fun a b => a + ofBool (Store.get noFlag (s.pba x) (32 * j + b)) * 2 ^ b) 0)

/-- A write to BAR2 (64 KiB, then the model's window on the configuration space): the pending-bit array is not written (R129). -/
def State.pciWrite (s : State) (x : HPort) (o : Nat) (v : Word) : State :=
  if o < 0x8000 then s.writeMsix x (o / 4) v
  else if o < 0x10000 then s
  else s.writeCfg x (o - 0x10000) v

/-- A word of BAR2 or of the configuration space (R128, R129). -/
def State.pciRead (s : State) (x : HPort) (o : Nat) : Word :=
  if o < 0x8000 then s.msixWord x (o / 16) (o / 4 % 4)
  else if o < 0x8100 then s.pbaWord x ((o - 0x8000) / 4)
  else if o < 0x10000 then 0
  else s.cfgWord x (o - 0x10000)

/-! ## Rows -/

/-- A write of another size than 32 bits, or not aligned, is discarded (R12); at an undefined or absent offset it still sets ABSWR
(R20, R31). (DEDUCED, log 11) -/
def State.narrowWrite (s : State) (off : Nat) : State :=
  if !isDoorbell off && s.noReg (off - off % 4) then s.absWr else s

/-- A register write of any size (R12), to BAR0 or, at the model's offsets from 16 MiB up, to BAR2 or to the configuration space of
the port's function (R128, R129). (DESIGN CHOICE, log 40) -/
def registerWriteEff (x : HPort) (off size : Nat) (v : Word) (s : State) : State :=
  if 0x1000000 ≤ off then (if size = 4 && off % 4 = 0 then s.pciWrite x (off - 0x1000000) v else s)
  else if size = 4 && off % 4 = 0 then s.hostWrite x off v
  else s.narrowWrite off

/-- REGISTER_WRITE (R15). -/
def execRegisterWrite (x : HPort) (off size : Nat) (v : Word) (s : State) : Host.Outcome State Fault Refusal :=
  .next (registerWriteEff x off size v s)

/-- A register read, of BAR0, BAR2 or the configuration space. (DESIGN CHOICE, log 40) -/
def rcFieldReadEff (x : HPort) (off size : Nat) (s : State) : State :=
  if 0x1000000 ≤ off then s.showRead x off size (s.pciRead x (off - 0x1000000 - off % 4)) else s.hostRead x off size

/-- RC_FIELD_READ (R13): a register read. -/
def execRcFieldRead (x : HPort) (off size : Nat) (s : State) : Host.Outcome State Fault Refusal :=
  .next (rcFieldReadEff x off size s)

/-- Whether an offset holds a bucket register (R547, R127, R558). -/
def isBucket (off : Nat) : Bool :=
  (arr? off (Reg.PRT_EVLIM 0) 128 4).isSome || (arr? off (Reg.EVR_BKT 0) 256 4).isSome

/-- A write of a bucket register (R547). -/
def bucketWriteEff (x : HPort) (off : Nat) (v : Word) (s : State) : State :=
  if isBucket off then s.hostWrite x off v else s

/-- BUCKET_WRITE (R547). -/
def execBucketWrite (x : HPort) (off : Nat) (v : Word) (s : State) : Host.Outcome State Fault Refusal :=
  .next (bucketWriteEff x off v s)

/-- A request of class P0 to P4 waited too long (R36, R37, R539): `wait` in ns, `blk` the requesting unit.
(DEDUCED, log 21; DESIGN CHOICE, log 126) -/
def blockingExceededEff (cls wait blk : Nat) (s : State) : State :=
  if cls ≤ 4 then (s.setF F.SYS_STAT_BLKEXC 1).report 0x0001 0 (wd cls) (wd wait) (wd blk) else s

/-- BLOCKING_EXCEEDED (R36). -/
def execBlockingExceeded (cls wait blk : Nat) (s : State) : Host.Outcome State Fault Refusal :=
  .next (blockingExceededEff cls wait blk s)

end Sys2Proof.Machine
end

