-- ==== Sys2Proof/Machine/Frame.lean ====
section
/-! DEFINITION. The frame timetable (chapter "Tick, Frame and Building Time", R42 to R66): base ticks, frame starts, time
steps and join gaps, the input latch and the output publish, and alarms. Memory errors and their reactions (R26, R27). -/

namespace Sys2Proof.Machine

/-! ## Time steps and join gaps (R58 to R61) -/

/-- Alarms that a step from the comparator count `old` leaves behind fire with SKIP (R63). (DEDUCED, log 27) -/
def State.stepAlarms (s : State) (old : Nat) : State :=
  forUpto 8 s (fun i t =>
    if t.on (F.RTC_ALMCTL_ARM i) && Nat.blt old (t.alarmTime i) && Nat.blt (t.alarmTime i) t.alarmCount then t.noteLate i true
    else t)

/-- The count has stepped by `d` units of 2^-32 s: what ages by elapsed time keeps its age, and frame numbers may repeat, so that
publications of the old time are no duplicates of those to come. (DESIGN CHOICE, log 160) -/
def State.stepAges (s : State) (d : Int) : State :=
  let ms := d * 1000 / 2 ^ 32
  let sec := d / 2 ^ 32
  let t := s.mtrStepped d
  let seen (b : SubPoint) : SubPoint := { b with seen := [] }
  let subPts : Store SubPoint := (t.ptx.subPts.map (fun e => (e.1, seen e.2))).filter (fun e => e.2 != SubPoint.dflt e.1)
  { t with
    rst := { t.rst with dogs := t.rst.dogs.filterMap (movedBy ms) }
    rsr := { t.rsr with
      fdb := t.rsr.fdb.map (fun e => { e with sec := (movedBy sec e.sec).getD 0 })
      nodes := t.rsr.nodes.map (fun e => { e with ms := (movedBy ms e.ms).getD 0 }) }
    ptx := { t.ptx with subPts := subPts } }

/-- A staged time is loaded at a base-tick boundary (R54, R58): OSF and its causes are cleared (R60), a measurement fails (R69),
and metering intervals and safety messages carry their flags. (DEDUCED, log 23) -/
def State.applyStep (s : State) : State :=
  match s.time.staged with
  | none => s
  | some (sec, frac, source) =>
    let old := s.time.sec
    let t : State := { s with time := { s.time with sec := sec, frac := frac, staged := none, stepped := true } }
    let t := (((t.setF F.RTC_STAT_OSF 0).setF F.RTC_STAT_CPOR 0).setF F.RTC_STAT_COSC 0).setF F.RTC_STAT_CVBAK 0
    let t := (t.setF F.RTC_SETCTL_PEND 0).report 0x0402 0 (wd (old.toNat % 2 ^ 32)) (wd (sec.toNat % 2 ^ 32)) (wd source)
    let t := t.stepAges ((t.count : Int) - (s.count : Int))
    (((t.measFail 1).stepAlarms s.alarmCount).ivFlagAll 0).safStepped

/-- The frame index of a frame boundary (R43). -/
def frameIndex (n : Nat) : Nat := n % 2 ^ 32 * 1000 / 2 ^ 32

/-- A frame begins at the count `start`: the count, the frame's second and index, tick 0. -/
def State.beginFrame (s : State) (start : Nat) : State :=
  let t := s.setCount start
  let t : State := { t with time := { t.time with
    frameSec := BitVec.ofNat 48 (start / 2 ^ 32)
    oldFrame := none
    gap := none
    stepped := false } }
  let t := (t.setF F.TCK_CUR_FIDX (frameIndex start)).setF F.TCK_CUR_TICK 0
  t.setTwn { t.twn with fresh := false }

/-- A join gap of `gap` units of 2^-32 s has passed (R59). A length that is no whole number of nanoseconds is rounded in an open
way. (DESIGN CHOICE, log 24) -/
def State.joinGap (s : State) (gap : Nat) : State :=
  let up := if gap * 1000000000 % 2 ^ 32 = 0 then 0 else s.freeVal.toNat % 2
  let t := (s.useFree.setF F.TCK_JOINLEN_LEN (gap * 1000000000 / 2 ^ 32 + up)).setF F.TCK_STAT_JOIN 1
  t.report 0x0501 0 (t.reg Reg.TCK_JOINLEN) (wd (t.rf F.TCK_CUR_FIDX)) 0

/-- Where the next frame begins, and the join gap before it, if there is one (R58); a standby follows the active twin (R61).
(DEDUCED, log 29) -/
def State.nextStart (s : State) : Nat × Option Nat :=
  let own := frameBoundary s.count
  match s.active, s.twn.follow with
  | false, some (n, g) => (n, if s.time.stepped || g != 0 || n != own then some g else none)
  | _, _ => (own, if s.time.stepped then some (own - s.count) else none)

/-- The end of a frame: the next frame begins at once, or the join gap before it (R58, R59). (DEDUCED, log 29) -/
def State.endFrame (s : State) : State :=
  let n := s.nextStart
  let t := s.setTwn { s.twn with follow := none }
  match n.2 with
  | none => t.beginFrame n.1
  | some 0 => (t.beginFrame n.1).joinGap 0
  | some g =>
    let t := t.setCount (n.1 - g)
    { t with time := { t.time with gap := some (n.1, g) } }

/-- The join gap ends (R58): the next frame begins, unless a time staged in the gap is loaded there and opens another.
(DESIGN CHOICE, log 24) -/
def State.endGap (s : State) : State :=
  match s.time.gap with
  | none => s
  | some (n, g) =>
    if s.time.staged.isSome then ({ s with time := { s.time with gap := none } } : State).applyStep.endFrame
    else (s.beginFrame n).joinGap g

/-- A base tick begins inside a frame; after a step the ticks of the old frame follow at 125 µs (R58).
(DEDUCED, log 29) -/
def State.nextInFrame (s : State) : State :=
  let stepped := s.time.staged.isSome
  let t := s.applyStep
  let old : Option (BitVec 48 × Word × Nat) :=
    if stepped then some (t.time.sec, t.time.frac, 0)
    else match s.time.oldFrame with
      | some (sec, frac, j) => some (sec, frac, j + 1)
      | none => none
  let t : State := { t with time := { t.time with oldFrame := old } }
  t.setF F.TCK_CUR_TICK (t.rf F.TCK_CUR_TICK + 1)

/-! ## The frame's work (R46) -/

/-- Start of tick 0 (R46, R264): tables and images whose boundary this is take effect, the quantities of the frame before are
published, and the input latch runs. (DEDUCED, log 25, 30) -/
def State.frameWork (s : State) (recv : List (Nat × Nat)) : State :=
  let t := if s.inReset 17 then s else s.twinFrame.twinCfgApply.shadowTake
  let t := (t.takePlca.handOver.applyLoads).lgeFrame
  let t := if t.inReset 10 then t else t.latchInputs recv
  let t := (t.setTwn { t.twn with credit := t.mtr.credit }).meterFrame
  let t := if t.inReset 10 then t else t.forceInputs.latchNotify
  let t : State := { t with ptx := { t.ptx with latching := true } }
  t.riserBoundary

/-- Start of tick 6 (R46, R265): the logic deadline, and the output publish. -/
def State.publishWork (s : State) : State :=
  let t := s.lgeDeadline
  let t := if t.inReset 10 then t else t.publish
  let t : State := { t with ptx := { t.ptx with publishing := true } }
  t.safSend

/-- What happens at phase 0 of a base tick (R46, R345): inputs are sampled, the control engine takes its values, `adv` ticks
are counted, and the tick's own work follows; at tick 0 the quantities of the frame before come from its samples 0 to 7, and the
modulator windows that ended in a join gap belong to the frame that begins (R47, R61, R382). (DEDUCED, log 25, 26) -/
def State.tickWork (s : State) (i : TickIn) (adv : Nat) : State :=
  let ms := s.mtr.heldWin ++ i.mtr
  let t := s.setMtr { s.mtr with heldWin := [] }
  let t := (((t.lioSample i.ain i.dio).cleTick adv).dspTick.driveMclk).meterLate ms
  let t := match t.rf F.TCK_CUR_TICK with
    | 0 => t.frameWork i.recv
    | 4 => t.powerTick
    | 6 => t.publishWork
    | _ => t
  t.meterNow ms

/-- The boundary that the count has reached: the end of a join gap, the end of a frame, or a base tick inside one (R42, R58). -/
def State.atBoundary (s : State) : State :=
  if s.time.gap.isSome then s.endGap
  else if s.rf F.TCK_CUR_TICK = 7 then s.yieldDrop.applyStep.endFrame
  else s.nextInFrame

/-- BASE_TICK (R42): the count reaches the next boundary. No tick is issued at the start of a join gap (R59), where only the
modulators go on (R61). -/
def baseTickEff (i : TickIn) (s : State) : State :=
  if !s.on F.TCK_STAT_RUN then s
  else
    let t := (s.idle.setCount s.nextTick).atBoundary
    if t.time.gap.isSome then t.setMtr { t.mtr with heldWin := t.mtr.heldWin ++ i.mtr } else t.tickWork i 1

/-- BASE_TICK (R42). -/
def execBaseTick (i : TickIn) (s : State) : Host.Outcome State Fault Refusal := .next (baseTickEff i s)

/-- TICK_GENERATOR_START (R45), `adv` units of 2^-32 s after the count was last seen: at READY, the first frame begins at the next
frame boundary, with CLE_TC as reset left it (R344, R349). (DEDUCED, log 23) -/
def tickGeneratorStartEff (adv : Nat) (i : TickIn) (s : State) : State :=
  if s.rst.phase != 4 || s.on F.TCK_STAT_RUN then s
  else
    let t := (s.advance adv).applyStep
    let t := (t.beginFrame (frameBoundary t.count)).setF F.TCK_STAT_RUN 1
    t.tickWork i 0

/-- TICK_GENERATOR_START (R45). -/
def execTickGeneratorStart (adv : Nat) (i : TickIn) (s : State) : Host.Outcome State Fault Refusal :=
  .next (tickGeneratorStartEff adv i s)

/-- INPUT_LATCH_COMPLETE (R47): the logic window opens, on a standby only for the shadow cycle of a record it holds (R517) or, while
PTX is in block reset, for tasks that run on the image as it stands (R692). (DEDUCED, log 168) -/
def inputLatchCompleteEff (s : State) : State :=
  if !s.ptx.latching then s
  else
    let t : State := { s with ptx := { s.ptx with latching := false } }
    if t.active then t.openWindow
    else if t.twn.held != [] then t.openWindow.shadowImage
    else if t.inReset 10 then t.openWindow
    else t

/-- INPUT_LATCH_COMPLETE (R47). -/
def execInputLatchComplete (s : State) : Host.Outcome State Fault Refusal := .next (inputLatchCompleteEff s)

/-- PUBLISH_COMPLETE (R266): local outputs take their values, snapshots are copied, and the output image goes to the twin.
(DEDUCED, log 30) -/
def publishCompleteEff (s : State) : State :=
  if !s.ptx.publishing then s
  else
    let t : State := { s with ptx := { s.ptx with publishing := false } }
    let t := if t.inReset 10 then t else t.driveOutputs.copySnaps
    t.twinPublish

/-- PUBLISH_COMPLETE (R266). -/
def execPublishComplete (s : State) : Host.Outcome State Fault Refusal := .next (publishCompleteEff s)

/-! ## Alarms (R62 to R65) -/

/-- The count reaches an armed alarm's time, unless it is there already. -/
def State.reachAlarm (s : State) (i : Nat) : State :=
  if s.alarmTime i ≤ s.alarmCount then s else s.setCount (s.alarmTime i * 2 ^ 16)

/-- Whether alarm `i` can fire before the next base tick. -/
def State.alarmDue (s : State) (i : Nat) : Bool :=
  s.on (F.RTC_ALMCTL_ARM i) && !s.time.keep &&
    (s.alarmTime i ≤ s.alarmCount || !s.on F.TCK_STAT_RUN || Nat.blt (s.alarmTime i * 2 ^ 16) s.nextTick)

/-- ALARM_FIRE (R62 to R64): ARM is cleared, FIRED set, and SKIP if the alarm is late; the event, the vector, and a scheduled
activation (R632) follow. (DESIGN CHOICE, log 28; DEDUCED, log 121) -/
def alarmFireEff (i : Fin 8) (s : State) : State :=
  if !s.alarmDue i then s
  else
    let late := bitOf s.time.lateAlarms i
    let t := ((s.reachAlarm i).setF (F.RTC_ALMCTL_ARM i) 0).setF (regBit Reg.RTC_ALMSTAT i) 1
    let t := if late then (t.setF (regBit Reg.RTC_ALMSTAT (8 + i)) 1).noteLate i false else t
    let t := if t.on (F.RTC_ALMCTL_EVT i) then
      t.report 0x0401 0 (wd i) (wd (ofBool late)) (t.reg (Reg.RTC_ALMSECL i)) else t
    let t := if t.on (F.RTC_ALMCTL_MSIX i) then t.signalUnit 4 else t
    if t.on F.UPD_CTL_ALMEN && t.rf F.UPD_CTL_ALM = i then t.activate else t

/-- ALARM_FIRE (R62). -/
def execAlarmFire (i : Fin 8) (s : State) : Host.Outcome State Fault Refusal := .next (alarmFireEff i s)

/-! ## Memory errors (R26, R27) -/

/-- A single-bit error is corrected, and counted by the unit that owns the region where its chapter gives a counter (R26).
(DESIGN CHOICE, log 20) -/
def singleBitErrorEff (r : MemRegion) (s : State) : State :=
  match r with
  | .cells q => s.corrected q
  | .task _ _ => s.addSat F.LGE_CERR_CNT 1
  | .slot _ => s.addSat F.CLE_CERR_CNT 1
  | .capture _ => s.addSat F.CLE_CERR_CNT 1
  | .image _ => s
  | .ptx => s
  | .twn => s
  | .meter _ => s
  | .other _ => s

/-- SINGLE_BIT_ERROR (R26). -/
def execSingleBitError (r : MemRegion) (s : State) : Host.Outcome State Fault Refusal := .next (singleBitErrorEff r s)

/-- Whether a task's program reads image slot `i`. (DEDUCED, log 19) -/
def State.taskReads (s : State) (t i : Nat) : Bool :=
  (lgeSweep 0 (s.region t)).any (fun k => match k.dec with
    | .ok ins => ins.refs.any (fun r => r.pt = i && !r.wr)
    | _ => false)

/-- A running task halts for an error in its memory or in an image slot it reads. -/
def State.haltRunning (s : State) (t cause : Nat) : State :=
  if s.taskState t != 1 then s
  else
    let u := s.taskHalt t cause (s.task t).lastPc
    if s.lge.turn = some t then u.nextTurn else u

/-- An uncorrectable error is reported to the owning unit, whose chapter states the reaction (R27): a poisoned cell (R188), a task
halt, a slot fault, and an active twin that gives up control (R523). Where a chapter states none, nothing further happens.
(DESIGN CHOICE, log 17, 20; DEDUCED, log 18, 19) -/
def uncorrectableErrorEff (r : MemRegion) (s : State) : State :=
  match r with
  | .cells q => cellPoisonedEff q 0 s.freeVal.toNat false s.useFree
  | .image i => (forUpto 16 s (fun t u => if u.taskReads t i.toNat then u.haltRunning t 8 else u)).selfCause 1
  | .ptx => s.selfCause 2
  | .twn => s.selfCause 2
  | .task t what => s.haltRunning t (if what.val = 0 then 5 else 6)
  | .slot i => if s.slotState i = 1 then s.slotFaultNow i 5 else s
  | .capture _ => s
  | .meter _ => s
  | .other _ => s

/-- UNCORRECTABLE_ERROR (R27). -/
def execUncorrectableError (r : MemRegion) (s : State) : Host.Outcome State Fault Refusal :=
  .next (uncorrectableErrorEff r s)

end Sys2Proof.Machine
end

