-- ==== Sys2Proof/Machine/Dispatch.lean ====
section
/-! DEFINITION. One arm per command: the meaning it has. -/

namespace Sys2Proof.Machine

def exec (instr : Instr) (s : State) : Host.Outcome State Fault Refusal :=
  match instr with
  | .registerWrite x off size v => Sys2Proof.Machine.execRegisterWrite x off size v s
  | .rcFieldRead x off size => Sys2Proof.Machine.execRcFieldRead x off size s
  | .singleBitError r => Sys2Proof.Machine.execSingleBitError r s
  | .uncorrectableError r => Sys2Proof.Machine.execUncorrectableError r s
  | .blockingExceeded cls wait blk => Sys2Proof.Machine.execBlockingExceeded cls wait blk s
  | .tickGeneratorStart adv t => Sys2Proof.Machine.execTickGeneratorStart adv t s
  | .baseTick t => Sys2Proof.Machine.execBaseTick t s
  | .inputLatchComplete => Sys2Proof.Machine.execInputLatchComplete s
  | .publishComplete => Sys2Proof.Machine.execPublishComplete s
  | .syncReceived lanB m => Sys2Proof.Machine.execSyncReceived lanB m s
  | .syncHoldover => Sys2Proof.Machine.execSyncHoldover s
  | .tinPpsEdge adv => Sys2Proof.Machine.execTinPpsEdge adv s
  | .rtcCtlWrite x v => Sys2Proof.Machine.execRtcCtlWrite x v s
  | .clkTinWrite x v => Sys2Proof.Machine.execClkTinWrite x v s
  | .rtcFracRead x adv => Sys2Proof.Machine.execRtcFracRead x adv s
  | .tckCurRead x => Sys2Proof.Machine.execTckCurRead x s
  | .setTimeGo x => Sys2Proof.Machine.execSetTimeGo x s
  | .alarmFire i => Sys2Proof.Machine.execAlarmFire i s
  | .measurementStart x v => Sys2Proof.Machine.execMeasurementStart x v s
  | .measurementDone => Sys2Proof.Machine.execMeasurementDone s
  | .oscillatorStop => Sys2Proof.Machine.execOscillatorStop s
  | .vbakBelowRetention => Sys2Proof.Machine.execVbakBelowRetention s
  | .aonPowerOnReset => Sys2Proof.Machine.execAonPowerOnReset s
  | .kcorrUpdate corr => Sys2Proof.Machine.execKcorrUpdate corr s
  | .keepStateEntry => Sys2Proof.Machine.execKeepStateEntry s
  | .keepSecondRollover => Sys2Proof.Machine.execKeepSecondRollover s
  | .shareCommit x => Sys2Proof.Machine.execShareCommit x s
  | .shareReadBack x => Sys2Proof.Machine.execShareReadBack x s
  | .prtPenWrite x j v => Sys2Proof.Machine.execPrtPenWrite x j v s
  | .cfgcrcRecompute => Sys2Proof.Machine.execCfgcrcRecompute s
  | .hostLinkDown x => Sys2Proof.Machine.execHostLinkDown x s
  | .hostLinkUp x speed width cfg => Sys2Proof.Machine.execHostLinkUp x speed width cfg s
  | .fundamentalReset x => Sys2Proof.Machine.execFundamentalReset x s
  | .functionLevelReset x => Sys2Proof.Machine.execFunctionLevelReset x s
  | .d3hotEntry x => Sys2Proof.Machine.execD3hotEntry x s
  | .semAcquire x i tag => Sys2Proof.Machine.execSemAcquire x i tag s
  | .semRelease x i => Sys2Proof.Machine.execSemRelease x i s
  | .leaseExpiry i => Sys2Proof.Machine.execLeaseExpiry i s
  | .heartbeatTimeout i => Sys2Proof.Machine.execHeartbeatTimeout i s
  | .ringSetCommit x => Sys2Proof.Machine.execRingSetCommit x s
  | .ringSetReadBack x => Sys2Proof.Machine.execRingSetReadBack x s
  | .ringSetStart x => Sys2Proof.Machine.execRingSetStart x s
  | .ringSetStop x => Sys2Proof.Machine.execRingSetStop x s
  | .ringSetStopped x p => Sys2Proof.Machine.execRingSetStopped x p s
  | .ringSetFault x p errc => Sys2Proof.Machine.execRingSetFault x p errc s
  | .cmdPiWrite x p v mem => Sys2Proof.Machine.execCmdPiWrite x p v mem s
  | .cplCiWrite x p v => Sys2Proof.Machine.execCplCiWrite x p v s
  | .evtCiWrite x p v => Sys2Proof.Machine.execEvtCiWrite x p v s
  | .rxPiWrite x p v mem => Sys2Proof.Machine.execRxPiWrite x p v mem s
  | .armWrite x p v => Sys2Proof.Machine.execArmWrite x p v s
  | .commandFetch x p => Sys2Proof.Machine.execCommandFetch x p s
  | .receiveFrameDelivery x p => Sys2Proof.Machine.execReceiveFrameDelivery x p s
  | .receiveHoldExpiry x p => Sys2Proof.Machine.execReceiveHoldExpiry x p s
  | .interruptCoalescingExpiry x p k => Sys2Proof.Machine.execInterruptCoalescingExpiry x p k s
  | .nop x p d => Sys2Proof.Machine.execNop x p d s
  | .ptRead x p d => Sys2Proof.Machine.execPtRead x p d s
  | .ptWrite x p d => Sys2Proof.Machine.execPtWrite x p d s
  | .ptListRead x p d => Sys2Proof.Machine.execPtListRead x p d s
  | .ptListWrite x p d => Sys2Proof.Machine.execPtListWrite x p d s
  | .ptSub x p d => Sys2Proof.Machine.execPtSub x p d s
  | .ptSubCancel x p d => Sys2Proof.Machine.execPtSubCancel x p d s
  | .forceSet x p d => Sys2Proof.Machine.execForceSet x p d s
  | .forceClr x p d => Sys2Proof.Machine.execForceClr x p d s
  | .forceList x p d => Sys2Proof.Machine.execForceList x p d s
  | .snapshot x p d => Sys2Proof.Machine.execSnapshot x p d s
  | .qFlush x p d => Sys2Proof.Machine.execQFlush x p d s
  | .qStat x p d => Sys2Proof.Machine.execQStat x p d s
  | .recRead x p d => Sys2Proof.Machine.execRecRead x p d s
  | .mtrRead x p d => Sys2Proof.Machine.execMtrRead x p d s
  | .lgeLoad x p d => Sys2Proof.Machine.execLgeLoad x p d s
  | .lgeVerify x p d => Sys2Proof.Machine.execLgeVerify x p d s
  | .lgeStart x p d => Sys2Proof.Machine.execLgeStart x p d s
  | .lgeStop x p d => Sys2Proof.Machine.execLgeStop x p d s
  | .lgeStatus x p d => Sys2Proof.Machine.execLgeStatus x p d s
  | .lgeDump x p d => Sys2Proof.Machine.execLgeDump x p d s
  | .cleLoad x p d => Sys2Proof.Machine.execCleLoad x p d s
  | .cleEnable x p d => Sys2Proof.Machine.execCleEnable x p d s
  | .cleDisable x p d => Sys2Proof.Machine.execCleDisable x p d s
  | .cleInjectStart x p d => Sys2Proof.Machine.execCleInjectStart x p d s
  | .cleInjectStop x p d => Sys2Proof.Machine.execCleInjectStop x p d s
  | .cleCaptureStart x p d => Sys2Proof.Machine.execCleCaptureStart x p d s
  | .cleCaptureRead x p d => Sys2Proof.Machine.execCleCaptureRead x p d s
  | .cfgLoadPointTable x p d => Sys2Proof.Machine.execCfgLoadPointTable x p d s
  | .cfgLoadExchangeSchedule x p d => Sys2Proof.Machine.execCfgLoadExchangeSchedule x p d s
  | .cfgLoadStationTable x p d => Sys2Proof.Machine.execCfgLoadStationTable x p d s
  | .cfgLoadFieldPortTable x p d => Sys2Proof.Machine.execCfgLoadFieldPortTable x p d s
  | .cfgLoadCircuitTable x p d => Sys2Proof.Machine.execCfgLoadCircuitTable x p d s
  | .cfgLoadCalibrationSet x p d => Sys2Proof.Machine.execCfgLoadCalibrationSet x p d s
  | .cfgLoadRegionTable x p d => Sys2Proof.Machine.execCfgLoadRegionTable x p d s
  | .cfgLoadWaveformTables x p d => Sys2Proof.Machine.execCfgLoadWaveformTables x p d s
  | .cfgLoadQueueConfiguration x p d => Sys2Proof.Machine.execCfgLoadQueueConfiguration x p d s
  | .cfgLoadCanRs485Configuration x p d => Sys2Proof.Machine.execCfgLoadCanRs485Configuration x p d s
  | .cfgLoadRiserConfiguration x p d => Sys2Proof.Machine.execCfgLoadRiserConfiguration x p d s
  | .cfgLoadTwinConfiguration x p d => Sys2Proof.Machine.execCfgLoadTwinConfiguration x p d s
  | .cfgLoadSafetyParameterSet x p d => Sys2Proof.Machine.execCfgLoadSafetyParameterSet x p d s
  | .cfgLoadChainTable x p d => Sys2Proof.Machine.execCfgLoadChainTable x p d s
  | .dspUpd x p d => Sys2Proof.Machine.execDspUpd x p d s
  | .dspUpdReadBack x p d => Sys2Proof.Machine.execDspUpdReadBack x p d s
  | .keyStage x p d => Sys2Proof.Machine.execKeyStage x p d s
  | .keyCommit x p d => Sys2Proof.Machine.execKeyCommit x p d s
  | .keyOpMac x p d => Sys2Proof.Machine.execKeyOpMac x p d s
  | .keyOpVerify x p d => Sys2Proof.Machine.execKeyOpVerify x p d s
  | .keyOpWrap x p d => Sys2Proof.Machine.execKeyOpWrap x p d s
  | .keyOpUnwrap x p d => Sys2Proof.Machine.execKeyOpUnwrap x p d s
  | .keyOpDerive x p d => Sys2Proof.Machine.execKeyOpDerive x p d s
  | .keyOpCheck x p d => Sys2Proof.Machine.execKeyOpCheck x p d s
  | .keyOpStatus x p d => Sys2Proof.Machine.execKeyOpStatus x p d s
  | .keyOpErase x p d => Sys2Proof.Machine.execKeyOpErase x p d s
  | .fwChunkManifest x p d flash => Sys2Proof.Machine.execFwChunkManifest x p d flash s
  | .fwChunk x p d flash => Sys2Proof.Machine.execFwChunk x p d flash s
  | .fwChunkCancel x p d flash => Sys2Proof.Machine.execFwChunkCancel x p d flash s
  | .canTx x p d => Sys2Proof.Machine.execCanTx x p d s
  | .serTx x p d => Sys2Proof.Machine.execSerTx x p d s
  | .ethTx x p d => Sys2Proof.Machine.execEthTx x p d s
  | .packetWrite q data src => Sys2Proof.Machine.execPacketWrite q data src s
  | .packetRead q => Sys2Proof.Machine.execPacketRead q s
  | .cellPoisoned q pos cell begun => Sys2Proof.Machine.execCellPoisoned q pos cell begun s
  | .linkWordError q cell lost => Sys2Proof.Machine.execLinkWordError q cell lost s
  | .linkAuditComplete => Sys2Proof.Machine.execLinkAuditComplete s
  | .queueFlush x q => Sys2Proof.Machine.execQueueFlush x q s
  | .queueFlushComplete q => Sys2Proof.Machine.execQueueFlushComplete q s
  | .queueConfigurationApply => Sys2Proof.Machine.execQueueConfigurationApply s
  | .injectCorrectable x q => Sys2Proof.Machine.execInjectCorrectable x q s
  | .injectUncorrectable x q => Sys2Proof.Machine.execInjectUncorrectable x q s
  | .fieldLinkUp i lv1 lead => Sys2Proof.Machine.execFieldLinkUp i lv1 lead s
  | .fieldLinkDown i => Sys2Proof.Machine.execFieldLinkDown i s
  | .sqiUpdate i snr => Sys2Proof.Machine.execSqiUpdate i snr s
  | .plcaCycleStart seg late => Sys2Proof.Machine.execPlcaCycleStart seg late s
  | .fieldFrameReceived i data good => Sys2Proof.Machine.execFieldFrameReceived i data good s
  | .pointFrameTransmit k => Sys2Proof.Machine.execPointFrameTransmit k s
  | .nonpointFrameTransmit i time => Sys2Proof.Machine.execNonpointFrameTransmit i time s
  | .pwrctlPoll rs => Sys2Proof.Machine.execPwrctlPoll rs s
  | .pwrctlFlt rs => Sys2Proof.Machine.execPwrctlFlt rs s
  | .powerBackoffExpiry i => Sys2Proof.Machine.execPowerBackoffExpiry i s
  | .faultCountClear i => Sys2Proof.Machine.execFaultCountClear i s
  | .powerClear x i => Sys2Proof.Machine.execPowerClear x i s
  | .powerCycle x i => Sys2Proof.Machine.execPowerCycle x i s
  | .powerCycleExpiry i => Sys2Proof.Machine.execPowerCycleExpiry i s
  | .powerHold x i => Sys2Proof.Machine.execPowerHold x i s
  | .mdioAccess x v => Sys2Proof.Machine.execMdioAccess x v s
  | .mdioComplete data => Sys2Proof.Machine.execMdioComplete data s
  | .lgeTaskAssign x t k v => Sys2Proof.Machine.execLgeTaskAssign x t k v s
  | .regionFillComplete t => Sys2Proof.Machine.execRegionFillComplete t s
  | .lgeSetcrcRecompute => Sys2Proof.Machine.execLgeSetcrcRecompute s
  | .lgeEnd => Sys2Proof.Machine.execLgeEnd s
  | .lgeNop => Sys2Proof.Machine.execLgeNop s
  | .lgeLdk => Sys2Proof.Machine.execLgeLdk s
  | .lgeLd => Sys2Proof.Machine.execLgeLd s
  | .lgeLdn => Sys2Proof.Machine.execLgeLdn s
  | .lgeAnd => Sys2Proof.Machine.execLgeAnd s
  | .lgeAndn => Sys2Proof.Machine.execLgeAndn s
  | .lgeOr => Sys2Proof.Machine.execLgeOr s
  | .lgeOrn => Sys2Proof.Machine.execLgeOrn s
  | .lgeXor => Sys2Proof.Machine.execLgeXor s
  | .lgeSt => Sys2Proof.Machine.execLgeSt s
  | .lgeStn => Sys2Proof.Machine.execLgeStn s
  | .lgeSet => Sys2Proof.Machine.execLgeSet s
  | .lgeRst => Sys2Proof.Machine.execLgeRst s
  | .lgeBro => Sys2Proof.Machine.execLgeBro s
  | .lgeBrca => Sys2Proof.Machine.execLgeBrca s
  | .lgeBrco => Sys2Proof.Machine.execLgeBrco s
  | .lgeRe => Sys2Proof.Machine.execLgeRe s
  | .lgeFe => Sys2Proof.Machine.execLgeFe s
  | .lgeTon => Sys2Proof.Machine.execLgeTon s
  | .lgeTof => Sys2Proof.Machine.execLgeTof s
  | .lgeCtu => Sys2Proof.Machine.execLgeCtu s
  | .lgeCtd => Sys2Proof.Machine.execLgeCtd s
  | .lgeCres => Sys2Proof.Machine.execLgeCres s
  | .lgeCmp => Sys2Proof.Machine.execLgeCmp s
  | .lgeMovk => Sys2Proof.Machine.execLgeMovk s
  | .lgeMov => Sys2Proof.Machine.execLgeMov s
  | .lgeJc => Sys2Proof.Machine.execLgeJc s
  | .lgeJnc => Sys2Proof.Machine.execLgeJnc s
  | .turnBudgetExhausted => Sys2Proof.Machine.execTurnBudgetExhausted s
  | .slotAssign x i v => Sys2Proof.Machine.execSlotAssign x i v s
  | .captureSegmentTag x j v => Sys2Proof.Machine.execCaptureSegmentTag x j v s
  | .cleTclRead x => Sys2Proof.Machine.execCleTclRead x s
  | .cleSetcrcRecompute => Sys2Proof.Machine.execCleSetcrcRecompute s
  | .cleCompute => Sys2Proof.Machine.execCleCompute s
  | .cleOutputWrite => Sys2Proof.Machine.execCleOutputWrite s
  | .pulseInputEdge n onB level time => Sys2Proof.Machine.execPulseInputEdge n onB level time s
  | .pwmPeriodStart n => Sys2Proof.Machine.execPwmPeriodStart n s
  | .pwmConfigWrite x n v => Sys2Proof.Machine.execPwmConfigWrite x n v s
  | .pulseStart k => Sys2Proof.Machine.execPulseStart k s
  | .pulseEnd k => Sys2Proof.Machine.execPulseEnd k s
  | .regularSaveComplete => Sys2Proof.Machine.execRegularSaveComplete s
  | .accumulatorClearRequest x v => Sys2Proof.Machine.execAccumulatorClearRequest x v s
  | .intervalControlWrite x v => Sys2Proof.Machine.execIntervalControlWrite x v s
  | .pulseOutputConfigWrite x k mc v => Sys2Proof.Machine.execPulseOutputConfigWrite x k mc v s
  | .theftWatchConfigWrite x k v => Sys2Proof.Machine.execTheftWatchConfigWrite x k v s
  | .theftWatchClear x v => Sys2Proof.Machine.execTheftWatchClear x v s
  | .theftWatchBurst codes => Sys2Proof.Machine.execTheftWatchBurst codes s
  | .theftWatchEvaluation => Sys2Proof.Machine.execTheftWatchEvaluation s
  | .safetyCycle c v => Sys2Proof.Machine.execSafetyCycle c v s
  | .switchTestPulse c k fell rose => Sys2Proof.Machine.execSwitchTestPulse c k fell rose s
  | .safeInputTestPulse stp c a b => Sys2Proof.Machine.execSafeInputTestPulse stp c a b s
  | .safetyMessageCopy => Sys2Proof.Machine.execSafetyMessageCopy s
  | .copyMissing j lanB => Sys2Proof.Machine.execCopyMissing j lanB s
  | .degradedTimerExpiry c => Sys2Proof.Machine.execDegradedTimerExpiry c s
  | .degradedTimerRestore => Sys2Proof.Machine.execDegradedTimerRestore s
  | .streamWatchdog j => Sys2Proof.Machine.execStreamWatchdog j s
  | .safetyMessageSend j => Sys2Proof.Machine.execSafetyMessageSend j s
  | .requestUpdate => Sys2Proof.Machine.execRequestUpdate s
  | .safLinkTimeout => Sys2Proof.Machine.execSafLinkTimeout s
  | .brakeTestDelayExpiry k => Sys2Proof.Machine.execBrakeTestDelayExpiry k s
  | .brakeTestWindowEnd k => Sys2Proof.Machine.execBrakeTestWindowEnd k s
  | .brakeTestDue k => Sys2Proof.Machine.execBrakeTestDue k s
  | .brakeTestOverdue k => Sys2Proof.Machine.execBrakeTestOverdue k s
  | .localReset press => Sys2Proof.Machine.execLocalReset press s
  | .safOeactRise => Sys2Proof.Machine.execSafOeactRise s
  | .islandStart saddr sopt => Sys2Proof.Machine.execIslandStart saddr sopt s
  | .riserFrameReceived r data m => Sys2Proof.Machine.execRiserFrameReceived r data m s
  | .riserFrameTransmit r busy => Sys2Proof.Machine.execRiserFrameTransmit r busy s
  | .pauseExpiry r => Sys2Proof.Machine.execPauseExpiry r s
  | .prpSupervisionSend => Sys2Proof.Machine.execPrpSupervisionSend s
  | .publicationSend => Sys2Proof.Machine.execPublicationSend s
  | .publicationLateCheck => Sys2Proof.Machine.execPublicationLateCheck s
  | .transmitUnderrun r c => Sys2Proof.Machine.execTransmitUnderrun r c s
  | .riserLinkUp r pre => Sys2Proof.Machine.execRiserLinkUp r pre s
  | .riserLinkDown r los txFlt => Sys2Proof.Machine.execRiserLinkDown r los txFlt s
  | .opticInserted r cls nm los txFlt => Sys2Proof.Machine.execOpticInserted r cls nm los txFlt s
  | .rsrCntlRead x k r => Sys2Proof.Machine.execRsrCntlRead x k r s
  | .claim => Sys2Proof.Machine.execClaim s
  | .peerActRise => Sys2Proof.Machine.execPeerActRise s
  | .contentionWithdraw => Sys2Proof.Machine.execContentionWithdraw s
  | .activeContentionTimeout => Sys2Proof.Machine.execActiveContentionTimeout s
  | .confirmWindowEnd => Sys2Proof.Machine.execConfirmWindowEnd s
  | .canModeSwitch k => Sys2Proof.Machine.execCanModeSwitch k s
  | .configSignatureRecompute => Sys2Proof.Machine.execConfigSignatureRecompute s
  | .dropAct cause => Sys2Proof.Machine.execDropAct cause s
  | .yield x => Sys2Proof.Machine.execYield x s
  | .twinLinkUp cap0 cap1 => Sys2Proof.Machine.execTwinLinkUp cap0 cap1 s
  | .twinLinkDown => Sys2Proof.Machine.execTwinLinkDown s
  | .eventReport r => Sys2Proof.Machine.execEventReport r s
  | .recordWrite => Sys2Proof.Machine.execRecordWrite s
  | .eventDelivery => Sys2Proof.Machine.execEventDelivery s
  | .bucketRefill b => Sys2Proof.Machine.execBucketRefill b s
  | .bucketWrite x off v => Sys2Proof.Machine.execBucketWrite x off v s
  | .keepClear x => Sys2Proof.Machine.execKeepClear x s
  | .displayFrameStart n ready => Sys2Proof.Machine.execDisplayFrameStart n ready s
  | .thermistorSample n code => Sys2Proof.Machine.execThermistorSample n code s
  | .panelEnable x n res => Sys2Proof.Machine.execPanelEnable x n res s
  | .panelDisable x n => Sys2Proof.Machine.execPanelDisable x n s
  | .pwrgdRise n => Sys2Proof.Machine.execPwrgdRise n s
  | .vcomEnableDelay n => Sys2Proof.Machine.execVcomEnableDelay n s
  | .pwrgdTimeout n => Sys2Proof.Machine.execPwrgdTimeout n s
  | .pwrgdLost n => Sys2Proof.Machine.execPwrgdLost n s
  | .powerdownDelayExpiry n => Sys2Proof.Machine.execPowerdownDelayExpiry n s
  | .pwrenOffDelay n => Sys2Proof.Machine.execPwrenOffDelay n s
  | .crackMeasurement n res => Sys2Proof.Machine.execCrackMeasurement n res s
  | .canFrameReceived k f => Sys2Proof.Machine.execCanFrameReceived k f s
  | .canFrameTransmitted k frac sec delay => Sys2Proof.Machine.execCanFrameTransmitted k frac sec delay s
  | .canBusError k lec tec rec => Sys2Proof.Machine.execCanBusError k lec tec rec s
  | .busOffRecoveryComplete k => Sys2Proof.Machine.execBusOffRecoveryComplete k s
  | .canRecover x k => Sys2Proof.Machine.execCanRecover x k s
  | .mailboxWindowLock x => Sys2Proof.Machine.execMailboxWindowLock x s
  | .mailboxWindowRelease x => Sys2Proof.Machine.execMailboxWindowRelease x s
  | .mailboxSelect x v => Sys2Proof.Machine.execMailboxSelect x v s
  | .serFrameEnd j data err frac sec => Sys2Proof.Machine.execSerFrameEnd j data err frac sec s
  | .serBurstStart j => Sys2Proof.Machine.execSerBurstStart j s
  | .serDriverRelease j bad => Sys2Proof.Machine.execSerDriverRelease j bad s
  | .legacyConfigurationApply u => Sys2Proof.Machine.execLegacyConfigurationApply u s
  | .keySlotAttributeWrite x i v => Sys2Proof.Machine.execKeySlotAttributeWrite x i v s
  | .chainMpart flash => Sys2Proof.Machine.execChainMpart flash s
  | .chainData flash => Sys2Proof.Machine.execChainData flash s
  | .chainAck => Sys2Proof.Machine.execChainAck s
  | .chainNak => Sys2Proof.Machine.execChainNak s
  | .chainCancel => Sys2Proof.Machine.execChainCancel s
  | .chainBusy => Sys2Proof.Machine.execChainBusy s
  | .hopTimeout => Sys2Proof.Machine.execHopTimeout s
  | .updArm x j => Sys2Proof.Machine.execUpdArm x j s
  | .updDisarm x => Sys2Proof.Machine.execUpdDisarm x s
  | .updActivate x => Sys2Proof.Machine.execUpdActivate x s
  | .updConfirm x sec => Sys2Proof.Machine.execUpdConfirm x sec s
  | .updServe x => Sys2Proof.Machine.execUpdServe x s
  | .bootConfirmed sec => Sys2Proof.Machine.execBootConfirmed sec s
  | .confirmTimeout => Sys2Proof.Machine.execConfirmTimeout s
  | .loaderGo x v mem => Sys2Proof.Machine.execLoaderGo x v mem s
  | .loaderCheckComplete => Sys2Proof.Machine.execLoaderCheckComplete s
  | .powerOnReset => Sys2Proof.Machine.execPowerOnReset s
  | .systemReset c => Sys2Proof.Machine.execSystemReset c s
  | .rstCtlSysrst x v => Sys2Proof.Machine.execRstCtlSysrst x v s
  | .rstCtlCorerst x v => Sys2Proof.Machine.execRstCtlCorerst x v s
  | .coreWatchdogExpiry => Sys2Proof.Machine.execCoreWatchdogExpiry s
  | .coreResetEnd => Sys2Proof.Machine.execCoreResetEnd s
  | .resetRelease i => Sys2Proof.Machine.execResetRelease i s
  | .startComplete => Sys2Proof.Machine.execStartComplete s
  | .externalReferenceFallback => Sys2Proof.Machine.execExternalReferenceFallback s
  | .referenceLost => Sys2Proof.Machine.execReferenceLost s
  | .referenceRestored => Sys2Proof.Machine.execReferenceRestored s
  | .serdesLockLost b good => Sys2Proof.Machine.execSerdesLockLost b good s
  | .blockResetAssert x b => Sys2Proof.Machine.execBlockResetAssert x b s
  | .blockReleaseRequest x b => Sys2Proof.Machine.execBlockReleaseRequest x b s
  | .blockRelease b => Sys2Proof.Machine.execBlockRelease b s
  | .vmainWarning pfw vmain => Sys2Proof.Machine.execVmainWarning pfw vmain s
  | .warningEnd low us => Sys2Proof.Machine.execWarningEnd low us s
  | .supplyMeasurement vmain vbak temp => Sys2Proof.Machine.execSupplyMeasurement vmain vbak temp s
  | .debugUnlock => Sys2Proof.Machine.execDebugUnlock s
  | .peerActFall us => Sys2Proof.Machine.execPeerActFall us s
  | .frameRecordReceived r => Sys2Proof.Machine.execFrameRecordReceived r s
  | .returnRecordReceived n => Sys2Proof.Machine.execReturnRecordReceived n s
  | .islandSelfTestComplete cause => Sys2Proof.Machine.execIslandSelfTestComplete cause s
  | .mrpRingOpenDetected l => Sys2Proof.Machine.execMrpRingOpenDetected l s
  | .syncTransmit => Sys2Proof.Machine.execSyncTransmit s

end Sys2Proof.Machine
end

