-- ==== Sys2Proof/WellFormed.lean ====
section
/-! DEFINITION. What a command's operands have to satisfy: what the world outside the block can send at all. Operand types
already bound most of them. -/

namespace Sys2Proof

open Sys2Proof.Machine

/-- An access of one to four bytes within one 32-bit word to BAR0, which is 16 MiB (R129), or, at the model's offsets above it, to
the 64 KiB of BAR2 and the 4 KiB of the function's configuration space. (DESIGN CHOICE, log 40) -/
def bar0 (off size : Nat) : Bool := off < 0x1011000 && 1 ≤ size && off % 4 + size ≤ 4

/-- A base tick brings one code for each of the 16 analogue inputs, and modulator windows that last, with the levels of the 80 MDAT inputs
at the 1,250 edges of each of the four clocks (R379, R382). -/
def tickWf (t : TickIn) : Bool :=
  t.ain.length = 16 && t.mtr.all (fun m => 1 ≤ m.ns && m.mdat.length = 4 &&
    m.mdat.all (fun k => k.length = 80 && k.all (fun b => b < 2 ^ 1250)))

/-- A well-formed command. -/
def Instr.wf : Instr → Bool
  | .registerWrite _ off size _ => bar0 off size
  | .rcFieldRead _ off size => bar0 off size
  | .singleBitError _ => true
  | .uncorrectableError _ => true
  | .blockingExceeded cls wait blk => cls ≤ 4 && blk < 25 && wait < 2 ^ 32
  | .tickGeneratorStart _ t => tickWf t
  | .baseTick t => tickWf t
  | .inputLatchComplete => true
  | .publishComplete => true
  | .syncReceived _ _ => true
  | .syncHoldover => true
  | .tinPpsEdge adv => adv < 2 ^ 32
  | .rtcCtlWrite _ _ => true
  | .clkTinWrite _ _ => true
  | .rtcFracRead _ adv => adv < 2 ^ 32
  | .tckCurRead _ => true
  | .setTimeGo _ => true
  | .alarmFire _ => true
  | .measurementStart _ _ => true
  | .measurementDone => true
  | .oscillatorStop => true
  | .vbakBelowRetention => true
  | .aonPowerOnReset => true
  | .kcorrUpdate corr => -2147483648 ≤ corr && corr ≤ 2147483647
  | .keepStateEntry => true
  | .keepSecondRollover => true
  | .shareCommit _ => true
  | .shareReadBack _ => true
  | .prtPenWrite _ _ _ => true
  | .cfgcrcRecompute => true
  | .hostLinkDown _ => true
  | .hostLinkUp _ speed width _ => 1 ≤ speed && speed ≤ 4 && [1, 2, 4].contains width
  | .fundamentalReset _ => true
  | .functionLevelReset _ => true
  | .d3hotEntry _ => true
  | .semAcquire _ _ _ => true
  | .semRelease _ _ => true
  | .leaseExpiry _ => true
  | .heartbeatTimeout _ => true
  | .ringSetCommit _ => true
  | .ringSetReadBack _ => true
  | .ringSetStart _ => true
  | .ringSetStop _ => true
  | .ringSetStopped _ _ => true
  | .ringSetFault _ _ _ => true
  | .cmdPiWrite _ _ _ _ => true
  | .cplCiWrite _ _ _ => true
  | .evtCiWrite _ _ _ => true
  | .rxPiWrite _ _ _ _ => true
  | .armWrite _ _ _ => true
  | .commandFetch _ _ => true
  | .receiveFrameDelivery _ _ => true
  | .receiveHoldExpiry _ _ => true
  | .interruptCoalescingExpiry _ _ _ => true
  | .nop _ _ _ => true
  | .ptRead _ _ _ => true
  | .ptWrite _ _ _ => true
  | .ptListRead _ _ _ => true
  | .ptListWrite _ _ _ => true
  | .ptSub _ _ _ => true
  | .ptSubCancel _ _ _ => true
  | .forceSet _ _ _ => true
  | .forceClr _ _ _ => true
  | .forceList _ _ _ => true
  | .snapshot _ _ _ => true
  | .qFlush _ _ _ => true
  | .qStat _ _ _ => true
  | .recRead _ _ _ => true
  | .mtrRead _ _ _ => true
  | .lgeLoad _ _ _ => true
  | .lgeVerify _ _ _ => true
  | .lgeStart _ _ _ => true
  | .lgeStop _ _ _ => true
  | .lgeStatus _ _ _ => true
  | .lgeDump _ _ _ => true
  | .cleLoad _ _ _ => true
  | .cleEnable _ _ _ => true
  | .cleDisable _ _ _ => true
  | .cleInjectStart _ _ _ => true
  | .cleInjectStop _ _ _ => true
  | .cleCaptureStart _ _ _ => true
  | .cleCaptureRead _ _ _ => true
  | .cfgLoadPointTable _ _ _ => true
  | .cfgLoadExchangeSchedule _ _ _ => true
  | .cfgLoadStationTable _ _ _ => true
  | .cfgLoadFieldPortTable _ _ _ => true
  | .cfgLoadCircuitTable _ _ _ => true
  | .cfgLoadCalibrationSet _ _ _ => true
  | .cfgLoadRegionTable _ _ _ => true
  | .cfgLoadWaveformTables _ _ _ => true
  | .cfgLoadQueueConfiguration _ _ _ => true
  | .cfgLoadCanRs485Configuration _ _ _ => true
  | .cfgLoadRiserConfiguration _ _ _ => true
  | .cfgLoadTwinConfiguration _ _ _ => true
  | .cfgLoadSafetyParameterSet _ _ _ => true
  | .cfgLoadChainTable _ _ _ => true
  | .dspUpd _ _ _ => true
  | .dspUpdReadBack _ _ _ => true
  | .keyStage _ _ _ => true
  | .keyCommit _ _ _ => true
  | .keyOpMac _ _ _ => true
  | .keyOpVerify _ _ _ => true
  | .keyOpWrap _ _ _ => true
  | .keyOpUnwrap _ _ _ => true
  | .keyOpDerive _ _ _ => true
  | .keyOpCheck _ _ _ => true
  | .keyOpStatus _ _ _ => true
  | .keyOpErase _ _ _ => true
  | .fwChunkManifest _ _ _ _ => true
  | .fwChunk _ _ _ _ => true
  | .fwChunkCancel _ _ _ _ => true
  | .canTx _ _ _ => true
  | .serTx _ _ _ => true
  | .ethTx _ _ _ => true
  | .packetWrite _ data src => data != [] && src < 2 ^ 16
  | .packetRead _ => true
  | .cellPoisoned _ _ cell _ => cell < 2 ^ 16
  | .linkWordError _ cell lost => cell < 2 ^ 16 && lost < 2 ^ 16
  | .linkAuditComplete => true
  | .queueFlush _ _ => true
  | .queueFlushComplete _ => true
  | .queueConfigurationApply => true
  | .injectCorrectable _ _ => true
  | .injectUncorrectable _ _ => true
  | .fieldLinkUp _ _ _ => true
  | .fieldLinkDown _ => true
  | .sqiUpdate _ _ => true
  | .plcaCycleStart _ _ => true
  | .fieldFrameReceived _ data _ => 14 ≤ data.length
  | .pointFrameTransmit _ => true
  | .nonpointFrameTransmit _ _ => true
  | .pwrctlPoll _ => true
  | .pwrctlFlt _ => true
  | .powerBackoffExpiry _ => true
  | .faultCountClear _ => true
  | .powerClear _ _ => true
  | .powerCycle _ _ => true
  | .powerCycleExpiry _ => true
  | .powerHold _ _ => true
  | .mdioAccess _ _ => true
  | .mdioComplete _ => true
  | .lgeTaskAssign _ _ _ _ => true
  | .regionFillComplete _ => true
  | .lgeSetcrcRecompute => true
  | .lgeEnd => true
  | .lgeNop => true
  | .lgeLdk => true
  | .lgeLd => true
  | .lgeLdn => true
  | .lgeAnd => true
  | .lgeAndn => true
  | .lgeOr => true
  | .lgeOrn => true
  | .lgeXor => true
  | .lgeSt => true
  | .lgeStn => true
  | .lgeSet => true
  | .lgeRst => true
  | .lgeBro => true
  | .lgeBrca => true
  | .lgeBrco => true
  | .lgeRe => true
  | .lgeFe => true
  | .lgeTon => true
  | .lgeTof => true
  | .lgeCtu => true
  | .lgeCtd => true
  | .lgeCres => true
  | .lgeCmp => true
  | .lgeMovk => true
  | .lgeMov => true
  | .lgeJc => true
  | .lgeJnc => true
  | .turnBudgetExhausted => true
  | .slotAssign _ _ _ => true
  | .captureSegmentTag _ _ _ => true
  | .cleTclRead _ => true
  | .cleSetcrcRecompute => true
  | .cleCompute => true
  | .cleOutputWrite => true
  | .pulseInputEdge _ _ _ time => time < 25000
  | .pwmPeriodStart _ => true
  | .pwmConfigWrite _ _ _ => true
  | .pulseStart _ => true
  | .pulseEnd _ => true
  | .regularSaveComplete => true
  | .accumulatorClearRequest _ _ => true
  | .intervalControlWrite _ _ => true
  | .pulseOutputConfigWrite _ _ _ _ => true
  | .theftWatchConfigWrite _ _ _ => true
  | .theftWatchClear _ _ => true
  | .theftWatchBurst codes => codes.length = 80 && codes.all (fun c => c.length = 136 &&
      c.all (fun z => -8388608 ≤ z && z ≤ 8388607))
  | .theftWatchEvaluation => true
  | .safetyCycle _ v => v.isns.length = 8 && v.enc.length = 8
  | .switchTestPulse _ _ _ _ => true
  | .safeInputTestPulse _ _ _ _ => true
  | .safetyMessageCopy => true
  | .copyMissing _ _ => true
  | .degradedTimerExpiry _ => true
  | .degradedTimerRestore => true
  | .streamWatchdog _ => true
  | .safetyMessageSend _ => true
  | .requestUpdate => true
  | .safLinkTimeout => true
  | .brakeTestDelayExpiry _ => true
  | .brakeTestWindowEnd _ => true
  | .brakeTestDue _ => true
  | .brakeTestOverdue _ => true
  | .localReset _ => true
  | .safOeactRise => true
  | .islandStart _ _ => true
  | .riserFrameReceived _ data _ => 14 ≤ data.length
  | .riserFrameTransmit _ _ => true
  | .pauseExpiry _ => true
  | .prpSupervisionSend => true
  | .publicationSend => true
  | .publicationLateCheck => true
  | .transmitUnderrun _ _ => true
  | .riserLinkUp _ _ => true
  | .riserLinkDown _ _ _ => true
  | .opticInserted _ _ _ _ _ => true
  | .rsrCntlRead _ _ _ => true
  | .claim => true
  | .peerActRise => true
  | .contentionWithdraw => true
  | .activeContentionTimeout => true
  | .confirmWindowEnd => true
  | .canModeSwitch _ => true
  | .configSignatureRecompute => true
  | .dropAct _ => true
  | .yield _ => true
  | .twinLinkUp _ _ => true
  | .twinLinkDown => true
  | .eventReport r => r.code < 2 ^ 16 && r.origin < 8
  | .recordWrite => true
  | .eventDelivery => true
  | .bucketRefill _ => true
  | .bucketWrite _ off _ => off % 4 = 0 && ((0x61400 ≤ off && off < 0x61600) || (0x121000 ≤ off && off < 0x121400))
  | .keepClear _ => true
  | .displayFrameStart _ _ => true
  | .thermistorSample _ _ => true
  | .panelEnable _ _ _ => true
  | .panelDisable _ _ => true
  | .pwrgdRise _ => true
  | .vcomEnableDelay _ => true
  | .pwrgdTimeout _ => true
  | .pwrgdLost _ => true
  | .powerdownDelayExpiry _ => true
  | .pwrenOffDelay _ => true
  | .crackMeasurement _ _ => true
  | .canFrameReceived _ f => f.data.length ≤ 64
  | .canFrameTransmitted _ _ _ _ => true
  | .canBusError _ _ _ _ => true
  | .busOffRecoveryComplete _ => true
  | .canRecover _ _ => true
  | .mailboxWindowLock _ => true
  | .mailboxWindowRelease _ => true
  | .mailboxSelect _ _ => true
  | .serFrameEnd _ data _ _ _ => data != []
  | .serBurstStart _ => true
  | .serDriverRelease _ _ => true
  | .legacyConfigurationApply _ => true
  | .keySlotAttributeWrite _ _ _ => true
  | .chainMpart _ => true
  | .chainData _ => true
  | .chainAck => true
  | .chainNak => true
  | .chainCancel => true
  | .chainBusy => true
  | .hopTimeout => true
  | .updArm _ _ => true
  | .updDisarm _ => true
  | .updActivate _ => true
  | .updConfirm _ _ => true
  | .updServe _ => true
  | .bootConfirmed _ => true
  | .confirmTimeout => true
  | .loaderGo _ _ _ => true
  | .loaderCheckComplete => true
  | .powerOnReset => true
  | .systemReset _ => true
  | .rstCtlSysrst _ _ => true
  | .rstCtlCorerst _ _ => true
  | .coreWatchdogExpiry => true
  | .coreResetEnd => true
  | .resetRelease i => i.keepCycles < 32768
  | .startComplete => true
  | .externalReferenceFallback => true
  | .referenceLost => true
  | .referenceRestored => true
  | .serdesLockLost _ _ => true
  | .blockResetAssert _ _ => true
  | .blockReleaseRequest _ _ => true
  | .blockRelease _ => true
  | .vmainWarning _ _ => true
  | .warningEnd _ _ => true
  | .supplyMeasurement _ _ _ => true
  | .debugUnlock => true
  | .peerActFall _ => true
  | .frameRecordReceived r => r.slice < r.slices && r.epoch < 65536 && r.gap ≤ 4294968
  | .returnRecordReceived _ => true
  | .islandSelfTestComplete cause => [0, 0x01, 0x02, 0x15].contains cause
  | .mrpRingOpenDetected _ => true
  | .syncTransmit => true

end Sys2Proof
end

