-- ==== Sys2Proof/Safety.lean ====
section
/-! DEFINITION. What counts as a safe state, and the terms the statements share: the canonical form of stored data, a
command that a ring set may carry out, and how it ends. -/

namespace Sys2Proof.Machine

/-- Set-up registers and both host memories are held in their one canonical form: keys rise strictly, and no entry equals
what an unlisted key reads as. Equal contents are then equal data. (DESIGN CHOICE, log 123) -/
def State.canonical (s : State) : Bool :=
  Store.wf (Reg.resetVal s.variant) s.regs && Store.wf byteZero s.host.mem0 && Store.wf byteZero s.host.mem1

/-- Bytes `[a, a + n)` of the host memory behind a port. -/
def State.memBytes (s : State) (x : HPort) (a n : Nat) : List Byte := Store.getList byteZero (s.hmem x) a n

/-- One byte of the host memory behind a port. -/
def State.memByte (s : State) (x : HPort) (a : Nat) : Byte := Store.get byteZero (s.hmem x) a

/-- Ring set `p` of port `x` is RUNNING and may start the fetched command `o` with descriptor `d`, whose epoch is current and
whose block is not held in block reset (R143, R151 to R154, R657). -/
def State.mayStart (s : State) (x : HPort) (p : Part) (d : Desc) (o : Op) : Bool :=
  s.rsRunning x p && startable d [] (s.ring x p).ops = some o && d.epoch = s.epoch && !s.inReset d.block

/-- A configuration-class command is allowed: partition 0, and the port holds SEM0 (R93, R94). -/
def State.mayConfigure (s : State) (x : HPort) (p : Part) : Bool := p.val = 0 && s.holdsSem0 x

/-- The state in which command `o` has started, under the current epoch (R153). -/
def State.started (s : State) (x : HPort) (p : Part) (o : Op) : State :=
  s.setRing x p { s.ring x p with ops := (s.ring x p).ops.map (fun q =>
    if q.id = o.id then { q with st := .started, epoch := s.epoch } else q) }

/-- The command that `s` started ends in `u` with a status and two result words (R154, R161). -/
def State.ends (s u : State) (x : HPort) (p : Part) (o : Op) (status : Nat) (r0 r1 : Word) : State :=
  u.complete x p o.id status s.epoch r0 r1

/-- The state in which command `o`, that `s` started, has ended as its own rule says (R154, R161). -/
def State.finish (s : State) (e : CmdEnd) (x : HPort) (p : Part) (o : Op) : State :=
  match e with
  | .done u status r0 r1 => s.ends u x p o status r0 r1
  | .refuse u cls i status => s.ends (u.refusal p cls i status) x p o status 0 0
  | .wait u => u
  | .later => s

/-- The key command `o`, that `s` started, ends in `u` with a status and two result words; an operator's use of a tenant's slot that
succeeds or changes the slot leaves its audit record (R115, R604). -/
def State.keyEnds (s u : State) (x : HPort) (p : Part) (d : Desc) (o : Op) (status : Nat) (r0 r1 : Word) : State :=
  s.ends (if status = St.success || u.slotKey d.keySlot != s.slotKey d.keySlot then
      u.audit p (s.rf (F.KEY_SATTR_TAG d.keySlot)) Cls.slot d.keySlot d.opcode else u) x p o status r0 r1

/-- The logic engine is about to execute instruction `i` of task `t`: its turn in an open window, a cycle that runs, budget left,
and the words at its offset decode to `i` (R311, R321, R325). -/
def State.lgeAt (s : State) (t : Nat) (i : LgeI) : Bool :=
  s.lge.turn = some t && s.lge.window && !s.inReset 11 && (s.task t).busy
    && Nat.blt (s.task t).spent (s.rf (F.LGE_TBUD_BUDGET t))
    && !(twoWords (s.progWord t (s.task t).pc) && Nat.ble (s.regionLen t) ((s.task t).pc + 1))
    && lgeDecode (s.progWord t (s.task t).pc) (s.progWord t ((s.task t).pc + 1)) = .ok i

/-- In `u`, the instruction of `n` words that `s` executed is done, and the task goes on after it (R311, R325). -/
def State.lgeDone (s u : State) (t n : Nat) : State := u.goOn t (s.task t).pc ((s.task t).pc + n) n

/-- The unit a command belongs to, for the frame of its rows. -/
inductive Home where
  | time | rights | meter | field | logic | control | localIO | safety | riser | recorder | display | legacy | key | update | twin | clock | pool | staging
  deriving DecidableEq, Repr

/-- The blocks (R18) whose set-up registers a command of the unit may change: its own, block 0 for SYS_STAT where it is a
host write, and the recorder's block 18 for EVR_LOST and EVR_STAT. -/
def Home.blocks : Home → List Nat
  | .time => [0, 1, 4, 5, 18]
  | .rights => [0, 6, 18, 24]
  | .meter => [0, 14, 18]
  | .field => [0, 9, 18]
  | .logic => [11, 18]
  | .control => [0, 12, 18]
  | .localIO => [0, 13, 18]
  | .safety => [15, 18]
  | .riser => [16, 18]
  | .recorder => [18]
  | .display => [0, 18, 19]
  | .legacy => [0, 18, 20, 21]
  | .key => [18, 22]
  | .update => [0, 18, 23]
  | .twin => [17, 18, 23]
  | .clock => [0, 1, 2, 3, 18]
  | .pool => [0, 8, 18]
  | .staging => [0, 7, 18]

/-- The rows that act inside one unit. -/
def homeOf : Instr → Option Home
  | .rtcCtlWrite _ _ | .clkTinWrite _ _ | .setTimeGo _ | .measurementStart _ _ | .measurementDone | .oscillatorStop
  | .vbakBelowRetention | .kcorrUpdate _ | .keepSecondRollover | .syncHoldover | .tinPpsEdge _ | .rtcFracRead _ _
  | .tckCurRead _ => some .time
  | .prtPenWrite _ _ _ | .shareReadBack _ | .cfgcrcRecompute | .semRelease _ _
  | .heartbeatTimeout _ | .leaseExpiry _ | .keepClear _ => some .rights
  | .intervalControlWrite _ _ | .regularSaveComplete | .theftWatchEvaluation | .accumulatorClearRequest _ _
  | .pulseOutputConfigWrite _ _ _ _ | .theftWatchClear _ _ | .theftWatchConfigWrite _ _ _ | .theftWatchBurst _
  | .pulseEnd _ => some .meter
  | .mdioComplete _ | .mdioAccess _ _ | .sqiUpdate _ _ | .faultCountClear _ | .plcaCycleStart _ _ | .fieldLinkUp _ _ _ => some .field
  | .lgeSetcrcRecompute | .regionFillComplete _ => some .logic
  | .cleSetcrcRecompute | .cleTclRead _ | .captureSegmentTag _ _ _ | .slotAssign _ _ _ => some .control
  | .pwmConfigWrite _ _ _ | .pwmPeriodStart _ | .pulseInputEdge _ _ _ _ => some .localIO
  | .brakeTestDelayExpiry _ | .degradedTimerRestore | .safOeactRise | .brakeTestDue _ | .brakeTestOverdue _
  | .brakeTestWindowEnd _ | .copyMissing _ _ | .degradedTimerExpiry _ | .islandSelfTestComplete _ | .islandStart _ _
  | .localReset _ | .requestUpdate | .safLinkTimeout | .safeInputTestPulse _ _ _ _ | .safetyCycle _ _
  | .streamWatchdog _ | .switchTestPulse _ _ _ _ => some .safety
  | .pauseExpiry _ | .rsrCntlRead _ _ _ | .riserLinkUp _ _ | .publicationLateCheck => some .riser
  | .recordWrite | .bucketRefill _ | .eventReport _ => some .recorder
  | .pwrgdRise _ | .vcomEnableDelay _ | .thermistorSample _ _ | .powerdownDelayExpiry _ | .pwrenOffDelay _
  | .panelEnable _ _ _ => some .display
  | .canModeSwitch _ | .busOffRecoveryComplete _ | .canRecover _ _ | .serDriverRelease _ _ | .mailboxSelect _ _ => some .legacy
  | .debugUnlock => some .key
  | .bootConfirmed _ | .updConfirm _ _ => some .update
  | .activeContentionTimeout | .claim | .contentionWithdraw | .peerActFall _ | .peerActRise | .yield _ | .twinLinkDown
  | .configSignatureRecompute => some .twin
  | .externalReferenceFallback | .referenceRestored | .serdesLockLost _ _ | .blockReleaseRequest _ _ | .coreResetEnd
  | .blockingExceeded _ _ _ | .syncTransmit => some .clock
  | .queueFlush _ _ | .injectCorrectable _ _ | .injectUncorrectable _ _ => some .pool
  | .ringSetReadBack _ => some .staging
  | _ => none

/-- The state with the registers, the input buffer of the recorder, the MSI-X pending bits, the outputs and the free values taken
from `t`: what any unit may change by its registers and its reports (R171, R544). -/
def State.withSinks (s t : State) : State :=
  { s with
    regs := t.regs
    evr := t.evr
    out := t.out
    free := t.free
    host := { s.host with pba0 := t.host.pba0, pba1 := t.host.pba1 } }

/-- The state with everything that a command of the unit may change taken from `t`. -/
def State.withHome (s t : State) : Home → State
  | .time => { s.withSinks t with time := t.time }
  | .rights => s.withSinks t
  | .meter => { s.withSinks t with mtr := t.mtr }
  | .field => { s.withSinks t with fld := t.fld }
  | .logic => { s.withSinks t with lge := t.lge }
  | .control => { s.withSinks t with cle := t.cle }
  | .localIO => { s.withSinks t with lio := t.lio }
  | .safety => { s.withSinks t with saf := t.saf }
  | .riser => { s.withSinks t with rsr := t.rsr }
  | .recorder => s.withSinks t
  | .display => { s.withSinks t with dsp := t.dsp }
  | .legacy => { s.withSinks t with can := t.can }
  | .key => { s.withSinks t with key := t.key }
  | .update => { s.withSinks t with upd := t.upd }
  | .twin => { s.withSinks t with twn := t.twn }
  | .clock => { s.withSinks t with rst := t.rst }
  | .pool => { s.withSinks t with pool := t.pool }
  | .staging => s.withSinks t

/-- The rows that are a host write of a set-up register under R15, with the port and the block of the register. -/
def setUpWriteOf : Instr → Option (HPort × Nat)
  | .rtcCtlWrite x _ => some (x, 4)
  | .clkTinWrite x _ => some (x, 1)
  | .setTimeGo x => some (x, 4)
  | .measurementStart x _ => some (x, 4)
  | .shareCommit x => some (x, 6)
  | .shareReadBack x => some (x, 6)
  | .prtPenWrite x _ _ => some (x, 6)
  | .queueFlush x _ => some (x, 8)
  | .injectCorrectable x _ => some (x, 8)
  | .injectUncorrectable x _ => some (x, 8)
  | .mdioAccess x _ => some (x, 9)
  | .powerClear x _ => some (x, 9)
  | .powerCycle x _ => some (x, 9)
  | .powerHold x _ => some (x, 9)
  | .lgeTaskAssign x _ _ _ => some (x, 11)
  | .slotAssign x _ _ => some (x, 12)
  | .captureSegmentTag x _ _ => some (x, 12)
  | .pwmConfigWrite x _ _ => some (x, 13)
  | .accumulatorClearRequest x _ => some (x, 14)
  | .intervalControlWrite x _ => some (x, 14)
  | .pulseOutputConfigWrite x _ _ _ => some (x, 14)
  | .theftWatchConfigWrite x _ _ => some (x, 14)
  | .theftWatchClear x _ => some (x, 14)
  | .panelEnable x _ _ => some (x, 19)
  | .panelDisable x _ => some (x, 19)
  | .canRecover x _ => some (x, 20)
  | .keySlotAttributeWrite x _ _ => some (x, 22)
  | .updArm x _ => some (x, 23)
  | .updDisarm x => some (x, 23)
  | .updActivate x => some (x, 23)
  | .updConfirm x _ => some (x, 23)
  | .updServe x => some (x, 23)
  | .rstCtlSysrst x _ => some (x, 2)
  | .rstCtlCorerst x _ => some (x, 2)
  | .blockResetAssert x _ => some (x, 2)
  | .blockReleaseRequest x _ => some (x, 2)
  | _ => none

/-- The rows during which no byte of host memory is written. -/
def storesNothing : Instr → Bool
  | .rcFieldRead _ _ _ | .singleBitError _ | .blockingExceeded _ _ _ | .inputLatchComplete | .syncReceived _ _
  | .syncHoldover | .tinPpsEdge _ | .rtcCtlWrite _ _ | .clkTinWrite _ _ | .rtcFracRead _ _ | .tckCurRead _
  | .setTimeGo _ | .measurementStart _ _ | .measurementDone | .oscillatorStop | .vbakBelowRetention
  | .aonPowerOnReset | .kcorrUpdate _ | .keepSecondRollover | .shareReadBack _ | .prtPenWrite _ _ _
  | .cfgcrcRecompute | .hostLinkDown _ | .hostLinkUp _ _ _ _ | .fundamentalReset _ | .functionLevelReset _
  | .semAcquire _ _ _ | .semRelease _ _ | .leaseExpiry _ | .heartbeatTimeout _ | .ringSetCommit _
  | .ringSetReadBack _ | .ringSetStart _ | .ringSetStopped _ _ | .ringSetFault _ _ _ | .cplCiWrite _ _ _
  | .armWrite _ _ _ | .interruptCoalescingExpiry _ _ _ | .linkAuditComplete | .queueFlush _ _
  | .queueConfigurationApply | .injectCorrectable _ _ | .injectUncorrectable _ _ | .fieldLinkUp _ _ _
  | .sqiUpdate _ _ | .plcaCycleStart _ _ | .pointFrameTransmit _ | .pwrctlPoll _
  | .pwrctlFlt _ | .powerBackoffExpiry _ | .faultCountClear _ | .powerClear _ _ | .powerCycle _ _
  | .powerCycleExpiry _ | .powerHold _ _ | .mdioAccess _ _ | .mdioComplete _ | .lgeTaskAssign _ _ _ _
  | .regionFillComplete _ | .lgeSetcrcRecompute | .slotAssign _ _ _
  | .captureSegmentTag _ _ _ | .cleTclRead _ | .cleSetcrcRecompute | .cleCompute | .cleOutputWrite
  | .pulseInputEdge _ _ _ _ | .pwmPeriodStart _ | .pwmConfigWrite _ _ _ | .pulseEnd _ | .regularSaveComplete
  | .accumulatorClearRequest _ _ | .intervalControlWrite _ _ | .pulseOutputConfigWrite _ _ _ _
  | .theftWatchConfigWrite _ _ _ | .theftWatchClear _ _ | .theftWatchBurst _ | .theftWatchEvaluation
  | .safetyCycle _ _ | .switchTestPulse _ _ _ _ | .safeInputTestPulse _ _ _ _ | .safetyMessageCopy
  | .copyMissing _ _ | .degradedTimerExpiry _ | .degradedTimerRestore | .streamWatchdog _
  | .safetyMessageSend _ | .requestUpdate | .safLinkTimeout | .brakeTestDelayExpiry _ | .brakeTestWindowEnd _
  | .brakeTestDue _ | .brakeTestOverdue _ | .localReset _ | .safOeactRise | .islandStart _ _ | .pauseExpiry _
  | .prpSupervisionSend | .publicationSend | .publicationLateCheck | .riserLinkUp _ _ | .riserLinkDown _ _ _
  | .opticInserted _ _ _ _ _ | .rsrCntlRead _ _ _ | .claim | .peerActRise | .contentionWithdraw
  | .activeContentionTimeout | .canModeSwitch _ | .configSignatureRecompute | .dropAct _ | .yield _
  | .twinLinkUp _ _ | .twinLinkDown | .eventReport _ | .recordWrite | .bucketRefill _ | .keepClear _
  | .thermistorSample _ _ | .panelEnable _ _ _ | .pwrgdRise _ | .vcomEnableDelay _ | .powerdownDelayExpiry _
  | .pwrenOffDelay _ | .busOffRecoveryComplete _ | .canRecover _ _ | .mailboxWindowLock _
  | .mailboxWindowRelease _ | .mailboxSelect _ _ | .serDriverRelease _ _ | .keySlotAttributeWrite _ _ _
  | .hopTimeout | .updArm _ _ | .updDisarm _ | .updConfirm _ _ | .updServe _ | .bootConfirmed _ | .coreResetEnd
  | .startComplete | .externalReferenceFallback | .referenceLost | .referenceRestored | .serdesLockLost _ _
  | .blockReleaseRequest _ _ | .blockRelease _ | .warningEnd _ _ | .debugUnlock | .peerActFall _
  | .frameRecordReceived _ | .returnRecordReceived _ | .islandSelfTestComplete _ | .mrpRingOpenDetected _
  | .syncTransmit => true
  | _ => false

end Sys2Proof.Machine
end

