-- ==== Sys2Proof/Certificates/Slice0/Obligations.lean ====
section
/-! DEFINITION. The statements about the model, for the provers. -/

open Sys2Proof Sys2Proof.Machine

/-- A step carries out the command at the front of the queue with the queue's rest, every command answers, and an empty
queue idles. With command c at the front, step answers what exec answers for c on the state whose queue is the rest. With
an empty queue it answers the same state but for PRT_SHCMD.BUSY, which reads 0 then (log entries 1 and 173, the model's
choice). For every command and every state, exec answers a next state: the model uses no fault and no refusal. -/
def Obligations.StepRunsTheFrontCommand : Prop :=
  (∀ (c : Instr) (rest : List Instr) (s : State),
    step { s with pending := c :: rest } = exec c { s with pending := rest }) ∧
  (∀ (s : State),
    s.pending = [] →
    s.on F.PRT_SHCMD_BUSY = false →
    step s = .next s) ∧
  (∀ (s : State),
    s.pending = [] →
    s.on F.PRT_SHCMD_BUSY = true →
    step s = .next (s.setF F.PRT_SHCMD_BUSY 0)) ∧
  (∀ (c : Instr) (s : State),
    ∃ t, exec c s = .next t)

/-- Which register a host write reaches: access size, absent offsets, blocks in reset, and SEM0. These are writes
below the model's windows (offset 0x1000000; log entry 40). A write that is not an aligned 32-bit write changes
nothing at a doorbell or at a register of a fitted unit; elsewhere it sets SYS_STAT.ABSWR (log entry 11, the model's
reading). An aligned one outside the doorbell pages to an offset without a register, or of an absent unit or port,
sets SYS_STAT.ABSWR; one to a block in block reset changes nothing; one to a set-up register that is not of a port's
own set, nor SEM_CMD, a loader register or TWN_CTL, takes its effect from the port that holds SEM0 and changes
nothing from the other; of the blocks 0, 3, 5, 7, 16 and 17 that effect is the word taken field by field.
BUCKET_WRITE of a bucket register does what REGISTER_WRITE does; of EVR_BKT[b] by the holder of SEM0 it takes the
fields and fills bucket b, and of EVR_BKT[0x12] it changes nothing. -/
def Obligations.RegisterWriteReachesItsRegister : Prop :=
  (∀ (x : HPort) (off size : Nat) (v : Word) (s : State),
    off < 0x1000000 →
    (size = 4 ∧ off % 4 = 0) = False →
    isDoorbell off = true ∨ s.noReg (off - off % 4) = false →
    exec (.registerWrite x off size v) s = .next s) ∧
  (∀ (x : HPort) (off size : Nat) (v : Word) (s : State),
    off < 0x1000000 →
    (size = 4 ∧ off % 4 = 0) = False →
    isDoorbell off = false →
    s.noReg (off - off % 4) = true →
    exec (.registerWrite x off size v) s = .next (s.setF F.SYS_STAT_ABSWR 1)) ∧
  (∀ (x : HPort) (off : Nat) (v : Word) (s : State),
    off < 0x1000000 →
    off % 4 = 0 →
    isDoorbell off = false →
    s.noReg off = true →
    exec (.registerWrite x off 4 v) s = .next (s.setF F.SYS_STAT_ABSWR 1)) ∧
  (∀ (x : HPort) (off : Nat) (v : Word) (s : State),
    off < 0x1000000 →
    off % 4 = 0 →
    isDoorbell off = false →
    s.noReg off = false →
    s.inReset (off / 0x10000) = true →
    exec (.registerWrite x off 4 v) s = .next s) ∧
  (∀ (x : HPort) (off : Nat) (v : Word) (s : State),
    off < 0x1000000 →
    off % 4 = 0 →
    isDoorbell off = false →
    s.noReg off = false →
    s.inReset (off / 0x10000) = false →
    ownReg off = none →
    arr? off (Reg.SEM_CMD 0) 64 4 = none →
    [Reg.RST_LDL, Reg.RST_LDH, Reg.RST_LDCMD, Reg.TWN_CTL].contains off = false →
    exec (.registerWrite x off 4 v) s = .next (if s.holdsSem0 x then s.writeSetUp x off v else s)) ∧
  (∀ (x : HPort) (off : Nat) (v : Word) (s : State),
    [0, 3, 5, 7, 16, 17].contains (off / 0x10000) = true →
    s.writeSetUp x off v = s.writeFields off v) ∧
  (∀ (x : HPort) (off : Nat) (v : Word) (s : State),
    isBucket off = true →
    off % 4 = 0 →
    exec (.bucketWrite x off v) s = exec (.registerWrite x off 4 v) s) ∧
  (∀ (x : HPort) (b : Fin 256) (v : Word) (s : State),
    s.holdsSem0 x = true →
    s.inReset 18 = false →
    b.val ≠ 0x12 →
    exec (.bucketWrite x (Reg.EVR_BKT b) v) s = .next ((s.writeFields (Reg.EVR_BKT b) v).fillBucket b)) ∧
  (∀ (x : HPort) (v : Word) (s : State),
    s.holdsSem0 x = true →
    s.inReset 18 = false →
    exec (.bucketWrite x (Reg.EVR_BKT 0x12) v) s = .next s)

/-- What a written word does to a field by its access code, and that an undefined value keeps the old one with
BADVAL. A permitted host write to a register of the blocks 0, 3, 5, 7, 16 and 17, below the model's windows (offset
0x1000000; log entry 40), applies the word field by field. For a field of a register other than SYS_STAT: RW with a
defined value takes the written bits; RW with a value its Meaning does not define keeps its value and sets
SYS_STAT.BADVAL; W1C clears the bits written 1; W1S sets them; RO, WO and RC store nothing. -/
def Obligations.FieldWriteByAccessCode : Prop :=
  (∀ (s : State) (off : Nat) (v : Word) (f : FieldRow),
    f.lo ≤ f.hi →
    f.hi < 32 →
    off ≠ Reg.SYS_STAT →
    (f.acc = .rw → f.defines (fieldOf v f.hi f.lo) = true →
      (s.writeField off v f).rf ⟨off, f.hi, f.lo⟩ = fieldOf v f.hi f.lo) ∧
      (f.acc = .rw → f.defines (fieldOf v f.hi f.lo) = false →
      (s.writeField off v f).rf ⟨off, f.hi, f.lo⟩ = s.rf ⟨off, f.hi, f.lo⟩ ∧
      (s.writeField off v f).rf F.SYS_STAT_BADVAL = 1) ∧
      (f.acc = .w1c → (s.writeField off v f).rf ⟨off, f.hi, f.lo⟩ =
      s.rf ⟨off, f.hi, f.lo⟩ - (s.rf ⟨off, f.hi, f.lo⟩ &&& fieldOf v f.hi f.lo)) ∧
      (f.acc = .w1s → (s.writeField off v f).rf ⟨off, f.hi, f.lo⟩ =
      (s.rf ⟨off, f.hi, f.lo⟩ ||| fieldOf v f.hi f.lo)) ∧
      (f.acc = .ro ∨ f.acc = .wo ∨ f.acc = .rc → s.writeField off v f = s)) ∧
  (∀ (x : HPort) (off : Nat) (v : Word) (r : RegRow) (s : State),
    off < 0x1000000 →
    off % 4 = 0 →
    isDoorbell off = false →
    s.noReg off = false →
    s.inReset (off / 0x10000) = false →
    ownReg off = none →
    arr? off (Reg.SEM_CMD 0) 64 4 = none →
    [Reg.RST_LDL, Reg.RST_LDH, Reg.RST_LDCMD, Reg.TWN_CTL].contains off = false →
    s.holdsSem0 x = true →
    [0, 3, 5, 7, 16, 17].contains (off / 0x10000) = true →
    Reg.row? off = some r →
    exec (.registerWrite x off 4 v) s = .next (r.fields.foldl (fun u f => u.writeField off v f) s))

/-- Giving a field a value: the field reads that value, every other field and register is unchanged. After a field of a
register takes n, it reads n modulo 2 to its width; a field of the same register that does not overlap it, every other
register, and all host memory read as before. -/
def Obligations.SetFieldChangesOnlyItsField : Prop :=
  ∀ (s : State) (f g : Fld) (n : Nat),
    f.lo ≤ f.hi →
    f.hi < 32 →
    (s.setF f n).rf f = n % 2 ^ (f.hi + 1 - f.lo) ∧
      (g.off ≠ f.off ∨ g.hi < f.lo ∨ f.hi < g.lo → (s.setF f n).rf g = s.rf g) ∧
      (s.setF f n).host = s.host ∧ (s.setF f n).out = s.out

/-- A host register read: 0 where there is no register, Completer Abort in block reset, else the register with its
read action. Below the model's windows (offset 0x1000000; log entry 40) and outside the doorbell pages, a read by
RC_FIELD_READ of an offset without a register (or of an absent unit or port) shows 0; of a block in block reset it
is answered with Completer Abort, but a word of the recorder's windows shows 0; otherwise it shows the register's
view without its WO fields after the register's read action. That action is the clearing of its RC fields for every
register but the counts with a snapshot, the mailbox window, RSR_CNTL, RSR_PSTAT and SER_STAT. A read of
QPL_QDROP[q] shows the stored counter and clears its RC field. -/
def Obligations.RegisterReadShowsAndClears : Prop :=
  (∀ (x : HPort) (off size : Nat) (s : State),
    off < 0x1000000 →
    isDoorbell (off - off % 4) = false →
    s.noReg (off - off % 4) = true →
    exec (.rcFieldRead x off size) s = .next (s.showRead x off size 0)) ∧
  (∀ (x : HPort) (off size : Nat) (s : State),
    off < 0x1000000 →
    isDoorbell (off - off % 4) = false →
    s.noReg (off - off % 4) = false →
    s.inReset ((off - off % 4) / 0x10000) = true →
    arr? (off - off % 4) (Reg.EVR_RWIN 0 0) 8 4 = none →
    arr? (off - off % 4) (Reg.EVR_RWIN 1 0) 8 4 = none →
    exec (.rcFieldRead x off size) s = .next (s.emit (.completerAbort x off))) ∧
  (∀ (x : HPort) (p i : Nat) (s : State),
    p < 2 →
    i < 8 →
    s.inReset 18 = true →
    exec (.rcFieldRead x (Reg.EVR_RWIN p i) 4) s = .next (s.showRead x (Reg.EVR_RWIN p i) 4 0)) ∧
  (∀ (x : HPort) (off : Nat) (s : State),
    [Reg.RTC_FRAC, Reg.TCK_CUR, Reg.CLE_TCL, Reg.CAN_MBWIN x.num 0, Reg.CAN_MBWIN x.num 20].contains off = false →
    arr? off (Reg.RSR_CNTL 0) 48 8 = none →
    arr? off (Reg.RSR_PSTAT 0) 4 4 = none →
    arr? off (Reg.SER_STAT 0) 8 0x100 = none →
    s.readAct x off = s.clearRc off) ∧
  (∀ (x : HPort) (off size : Nat) (s : State),
    off < 0x1000000 →
    isDoorbell (off - off % 4) = false →
    s.noReg (off - off % 4) = false →
    s.inReset ((off - off % 4) / 0x10000) = false →
    exec (.rcFieldRead x off size) s = .next ((s.readAct x (off - off % 4)).showRead x off size
      (hideWo (off - off % 4) (s.viewReg x (off - off % 4))))) ∧
  (∀ (x : HPort) (q : Fin 1024) (s : State),
    s.inReset 8 = false →
    exec (.rcFieldRead x (Reg.QPL_QDROP q) 4) s =
      .next ((s.clearRc (Reg.QPL_QDROP q)).showRead x (Reg.QPL_QDROP q) 4 (hideWo (Reg.QPL_QDROP q) (s.reg (Reg.QPL_QDROP q)))))

/-- A single-bit error is counted where the chapter gives a counter, an uncorrectable one has its unit's reaction; a
wait beyond the limit sets BLKEXC. SINGLE_BIT_ERROR adds one to the counters of a queue's cells and of the pool, of
the logic engine or of the control engine (a loop slot or a capture buffer) and otherwise changes nothing.
UNCORRECTABLE_ERROR in a cell is CELL_POISONED of the queue's head packet with an open cell number; in an active
loop slot it faults the slot with cause 5; in a running task's program it halts it with cause 5, in its state or
registers with cause 6; in an image slot it halts every running task that reads the slot, with cause 8, and is
self-diagnosis cause 1; in the memories of PTX and TWN it is self-diagnosis cause 2; elsewhere, and in a slot or
task that does not run, it changes nothing. BLOCKING_EXCEEDED of a class up to 4 sets SYS_STAT.BLKEXC and reports
event 0x0001; of another class it changes nothing. -/
def Obligations.MemoryErrorsCountAndReport : Prop :=
  (∀ (q : Fin 1024) (s : State),
    exec (.singleBitError (.cells q)) s = .next ((s.addSat (F.QPL_QCERR_CNT q) 1).addSat F.QPL_CERR_CNT 1)) ∧
  (∀ (t : Fin 16) (w : Fin 3) (i : Fin 256) (s : State),
    exec (.singleBitError (.task t w)) s = .next (s.addSat F.LGE_CERR_CNT 1) ∧
      exec (.singleBitError (.slot i)) s = .next (s.addSat F.CLE_CERR_CNT 1)) ∧
  (∀ (j : Fin 4) (s : State),
    exec (.singleBitError (.capture j)) s = .next (s.addSat F.CLE_CERR_CNT 1)) ∧
  (∀ (i : BitVec 16) (c : Fin 72) (b : Fin 25) (s : State),
    exec (.singleBitError (.image i)) s = .next s ∧ exec (.singleBitError .ptx) s = .next s ∧
      exec (.singleBitError .twn) s = .next s ∧ exec (.singleBitError (.meter c)) s = .next s ∧
      exec (.singleBitError (.other b)) s = .next s) ∧
  (∀ (i : Fin 256) (s : State),
    s.slotState i = 1 →
    exec (.uncorrectableError (.slot i)) s = .next (s.slotFaultNow i 5)) ∧
  (∀ (i : Fin 256) (s : State),
    s.slotState i ≠ 1 →
    exec (.uncorrectableError (.slot i)) s = .next s) ∧
  (∀ (i : BitVec 16) (s : State),
    exec (.uncorrectableError (.image i)) s =
      .next ((forUpto 16 s (fun t u => if u.taskReads t i.toNat then u.haltRunning t 8 else u)).selfCause 1)) ∧
  (∀ (j : Fin 4) (c : Fin 72) (b : Fin 25) (s : State),
    exec (.uncorrectableError (.capture j)) s = .next s ∧ exec (.uncorrectableError (.meter c)) s = .next s ∧
      exec (.uncorrectableError (.other b)) s = .next s) ∧
  (∀ (t : Fin 16) (w : Fin 3) (s : State),
    s.taskState t ≠ 1 →
    exec (.uncorrectableError (.task t w)) s = .next s) ∧
  (∀ (t : Fin 16) (w : Fin 3) (s : State),
    s.taskState t = 1 →
    exec (.uncorrectableError (.task t w)) s = .next (s.haltRunning t (if w.val = 0 then 5 else 6))) ∧
  (∀ (q : Fin 1024) (s : State),
    exec (.uncorrectableError (.cells q)) s = exec (.cellPoisoned q 0 s.freeVal.toNat false) s.useFree) ∧
  (∀ (s : State),
    exec (.uncorrectableError .ptx) s = .next (s.selfCause 2) ∧ exec (.uncorrectableError .twn) s = .next (s.selfCause 2)) ∧
  (∀ (cls wait blk : Nat) (s : State),
    4 < cls →
    exec (.blockingExceeded cls wait blk) s = .next s) ∧
  (∀ (cls wait blk : Nat) (s : State),
    cls ≤ 4 →
    exec (.blockingExceeded cls wait blk) s =
      .next ((s.setF F.SYS_STAT_BLKEXC 1).report 0x0001 0 (wd cls) (wd wait) (wd blk)))

/-- Base ticks: the generator's start, ticks within a frame, the frame boundary, join gaps, latch and publish. At READY with the generator stopped,
TICK_GENERATOR_START lets the count move on, applies a staged time, begins the first frame at the next frame boundary with RUN = 1 and does
tick 0's work. While RUN is 1, BASE_TICK sets the count to the next boundary. There a join gap that runs ends; after tick 7 the frame ends, a staged time being applied
first; at another tick the next one begins. Unless that opens a join gap, the tick's work follows; in a gap only the modulators' windows are kept.
INPUT_LATCH_COMPLETE of a latch that runs opens the logic window of an active module, of a standby that holds a record (with the shadow image), and of one whose PTX is in block reset; otherwise it only ends the latch.
PUBLISH_COMPLETE drives the outputs and copies the snapshots unless PTX is in reset, and sends the twin's record. A frame begins at tick 0. -/
def Obligations.TickAndFrameTimetable : Prop :=
  (∀ (adv : Nat) (i : TickIn) (s : State),
    s.rst.phase = 4 →
    s.on F.TCK_STAT_RUN = false →
    exec (.tickGeneratorStart adv i) s =
      .next ((((s.advance adv).applyStep.beginFrame (frameBoundary (s.advance adv).applyStep.count)).setF F.TCK_STAT_RUN 1).tickWork i 0)) ∧
  (∀ (i : TickIn) (s : State),
    s.on F.TCK_STAT_RUN = true →
    (s.idle.setCount s.nextTick).atBoundary.time.gap = none →
    exec (.baseTick i) s = .next ((s.idle.setCount s.nextTick).atBoundary.tickWork i 1)) ∧
  (∀ (i : TickIn) (s t : State),
    s.on F.TCK_STAT_RUN = true →
    t = (s.idle.setCount s.nextTick).atBoundary →
    t.time.gap ≠ none →
    exec (.baseTick i) s = .next (t.setMtr { t.mtr with heldWin := t.mtr.heldWin ++ i.mtr })) ∧
  (∀ (s : State),
    (s.time.gap ≠ none → s.atBoundary = s.endGap) ∧
      (s.time.gap = none → s.rf F.TCK_CUR_TICK = 7 → s.atBoundary = s.yieldDrop.applyStep.endFrame) ∧
      (s.time.gap = none → s.rf F.TCK_CUR_TICK ≠ 7 → s.atBoundary = s.nextInFrame)) ∧
  (∀ (s : State) (n : Nat),
    (s.beginFrame n).rf F.TCK_CUR_TICK = 0 ∧ (s.beginFrame n).time.gap = none) ∧
  (∀ (s : State),
    s.ptx.latching = true →
    s.active = true →
    exec .inputLatchComplete s = .next { s with ptx := { s.ptx with latching := false } }.openWindow) ∧
  (∀ (s : State),
    s.ptx.latching = true →
    s.active = false →
    exec .inputLatchComplete s = .next (if s.twn.held ≠ [] then { s with ptx := { s.ptx with latching := false } }.openWindow.shadowImage
      else if s.inReset 10 then { s with ptx := { s.ptx with latching := false } }.openWindow
      else { s with ptx := { s.ptx with latching := false } })) ∧
  (∀ (s : State),
    s.ptx.publishing = true →
    s.inReset 10 = false →
    exec .publishComplete s =
      .next ({ s with ptx := { s.ptx with publishing := false } }.driveOutputs.copySnaps.twinPublish)) ∧
  (∀ (s : State),
    s.ptx.publishing = true →
    s.inReset 10 = true →
    exec .publishComplete s = .next { s with ptx := { s.ptx with publishing := false } }.twinPublish)

/-- Alarms that fire, rate measurements, the flags of the always-on domain, and the count in Keep state. When armed
alarm i is due, ALARM_FIRE moves the count to its time unless it is there, clears ARM, sets FIRED, sets SKIP if the
alarm was late, reports event 0x0401 if EVT is 1, signals RTC's vector if MSIX is 1, and activates an update
scheduled by it; without EVT, MSIX, lateness and such an update nothing else changes. A permitted START with a
source begins a measurement: BUSY 1, FAILC 0, from the count now; without its reference it fails at once with cause
2; SRC = 1 without a metering unit keeps SRC and sets BADVAL. When its window ends, a measurement that host software
started writes its result to RTC_MEASRES with DONE, BUSY 0 and event 0x0405; mains of which no cycle was counted
fail with cause 3. The mains error is T × f0 / N - 1 rounded to nearest. A stopped oscillator and a low retention
supply set OSF with their cause; outside Keep state the crystal correction is clamped into RTC_KCORR; in Keep state
the count goes to the next second, keeping its 17 low bits, plus the correction. -/
def Obligations.AlarmsTrimAndKeepTime : Prop :=
  (∀ (i : Fin 8) (s : State),
    s.alarmDue i = true →
    s.on (F.RTC_ALMCTL_EVT i) = false →
    s.on (F.RTC_ALMCTL_MSIX i) = false →
    s.on F.UPD_CTL_ALMEN = false →
    bitOf s.time.lateAlarms i = false →
    exec (.alarmFire i) s =
      .next (((s.reachAlarm i).setF (F.RTC_ALMCTL_ARM i) 0).setF (regBit Reg.RTC_ALMSTAT i) 1)) ∧
  (∀ (i : Fin 8) (s t : State),
    s.alarmDue i = true →
    bitOf s.time.lateAlarms i = false →
    t = ((s.reachAlarm i).setF (F.RTC_ALMCTL_ARM i) 0).setF (regBit Reg.RTC_ALMSTAT i) 1 →
    (t.on (F.RTC_ALMCTL_EVT i) = true → t.on (F.RTC_ALMCTL_MSIX i) = false → s.on F.UPD_CTL_ALMEN = false →
      s.evr.buf.length < 512 →
      exec (.alarmFire i) s = .next (t.report 0x0401 0 (wd i) 0 (s.reg (Reg.RTC_ALMSECL i)))) ∧
      (t.on (F.RTC_ALMCTL_EVT i) = false → t.on (F.RTC_ALMCTL_MSIX i) = true → s.on F.UPD_CTL_ALMEN = false →
      exec (.alarmFire i) s = .next (t.signalUnit 4)) ∧
      (t.on (F.RTC_ALMCTL_EVT i) = false → t.on (F.RTC_ALMCTL_MSIX i) = false → s.on F.UPD_CTL_ALMEN = true →
      s.rf F.UPD_CTL_ALM = i → exec (.alarmFire i) s = .next t.activate)) ∧
  (∀ (i : Fin 8) (s t : State),
    s.alarmDue i = true →
    s.on F.UPD_CTL_ALMEN = false →
    exec (.alarmFire i) s = .next t →
    t.on (F.RTC_ALMCTL_ARM i) = false ∧ t.on (regBit Reg.RTC_ALMSTAT i) = true ∧
      (bitOf s.time.lateAlarms i = true → t.on (regBit Reg.RTC_ALMSTAT (8 + i)) = true) ∧ s.alarmTime i ≤ t.alarmCount) ∧
  (∀ (x : HPort) (v : Word) (s : State),
    s.mayWrite x 4 = true →
    (s.variant.lacks 14 && fieldOf v 25 24 = 1) = false →
    fieldOf v 31 31 = 1 →
    (s.writeFields Reg.RTC_MEASCTL v).autoTrim = false →
    (s.writeFields Reg.RTC_MEASCTL v).rf F.RTC_MEASCTL_SRC ≠ 0 →
    (((s.writeFields Reg.RTC_MEASCTL v).measBegin false).measRef = true →
      exec (.measurementStart x v) s = .next ((s.writeFields Reg.RTC_MEASCTL v).measBegin false)) ∧
      (((s.writeFields Reg.RTC_MEASCTL v).measBegin false).measRef = false →
      exec (.measurementStart x v) s = .next (((s.writeFields Reg.RTC_MEASCTL v).measBegin false).measFail 2))) ∧
  (∀ (x : HPort) (v : Word) (s : State),
    s.mayWrite x 4 = true →
    (s.variant.lacks 14 && fieldOf v 25 24 = 1) = true →
    fieldOf v 31 31 = 0 →
    exec (.measurementStart x v) s = .next (s.writeFields Reg.RTC_MEASCTL (withField v 25 24 (s.rf F.RTC_MEASCTL_SRC))).badVal) ∧
  (∀ (s : State) (auto : Bool),
    (s.measBegin auto).on F.RTC_MEASCTL_BUSY = true ∧ (s.measBegin auto).rf F.RTC_MEASCTL_FAILC = 0 ∧
      (s.measBegin auto).time.measAuto = auto ∧ (s.measBegin auto).time.measFrom = s.count) ∧
  (∀ (s t : State) (e : Int),
    s.measOver = true →
    s.time.measAuto = false →
    t = (if s.count < s.measEnd then s.setCount s.measEnd else s) →
    t.measNet = true ∨ 2 ≤ t.time.measN →
    e = t.measError (bitOf t.freeVal.toNat 0) →
    exec .measurementDone s = .next
      ((((t.useFree.setReg Reg.RTC_MEASRES (wdInt e)).setF F.RTC_MEASCTL_DONE 1).setF F.RTC_MEASCTL_BUSY 0).report
        0x0405 0 (wdInt e) 0 0)) ∧
  (∀ (s t : State),
    s.measOver = true →
    t = (if s.count < s.measEnd then s.setCount s.measEnd else s) →
    t.measNet = false →
    t.time.measN < 2 →
    exec .measurementDone s = .next (t.measFail 3)) ∧
  (∀ (f0 n t : Nat) (up : Bool),
    1 ≤ n →
    2 * (mainsError f0 n t up * n - ((t * f0 : Nat) - (n * 2 ^ 32 : Nat) : Int)).natAbs ≤ n) ∧
  (∀ (s : State),
    exec .oscillatorStop s = .next (s.osfCause 2) ∧ exec .vbakBelowRetention s = .next (s.osfCause 3)) ∧
  (∀ (s : State) (bit : Nat),
    bit = 2 ∨ bit = 3 →
    (s.osfCause bit).on F.RTC_STAT_OSF = true ∧ (s.osfCause bit).on (regBit Reg.RTC_STAT bit) = true) ∧
  (∀ (corr : Int) (s : State),
    s.time.keep = false →
    exec (.kcorrUpdate corr) s = .next (s.setReg Reg.RTC_KCORR (wdInt (clampInt (-2147483) 2147483 corr)))) ∧
  (∀ (s : State),
    s.time.keep = true →
    exec .keepSecondRollover s = .next
      (let t := s.setCount (Int.ofNat (s.keepNext * 2 ^ 32 + s.time.frac.toNat % 2 ^ 17) + signedOf 32 (s.reg Reg.RTC_KCORR).toNat).toNat
       { t with time := { t.time with rolled := true } })) ∧
  (∀ (s : State),
    s.time.rolled = false →
    s.keepNext = s.time.sec.toNat + 1)

/-- Time: clock controls, Sync and 1PPS measurements, holdover, staged time and the reads of the count. A permitted
write of RTC_CTL or CLK_TIN is stored; if the servo's source changed, LOCK and HOLD are 0 after it; a write of
RTC_CTL that takes NETSYNC from a network measurement fails it with cause 2, and automatic trim starts where ATRIM
and NETSYNC ask for it. Sync on the followed LAN is taken by the servo, and so is a 1PPS edge on TIN while NETSYNC
is 0 and CLK_TIN.EN is 1, with the offset read from the count. A measurement taken sets TCK_OFFSET (clamped) and
clears HOLD; above 1 ms it stages the measured time; the sixteenth in a row within 500 ns has LOCK at 1.
SYNC_HOLDOVER sets HOLD and clears LOCK, and on the network the servo changes LAN; with TIN as source and no network
measurement it also reports 0x0502 and otherwise only restarts the interval counts. A permitted GO stages the time
unless NETSYNC is 1, which sets REFUSED; reads of RTC_FRAC and TCK_CUR copy the seconds for the reading port. -/
def Obligations.TimeRegistersAndServo : Prop :=
  (∀ (x : HPort) (v : Word) (s : State),
    s.mayWrite x 4 = true →
    (s.sourceChanged (s.writeFields Reg.RTC_CTL v)).measNet = false ∨
      (s.sourceChanged (s.writeFields Reg.RTC_CTL v)).on F.RTC_CTL_NETSYNC = true →
    exec (.rtcCtlWrite x v) s = .next ((s.sourceChanged (s.writeFields Reg.RTC_CTL v)).autoStart)) ∧
  (∀ (x : HPort) (v : Word) (s : State),
    s.mayWrite x 4 = true →
    (s.sourceChanged (s.writeFields Reg.RTC_CTL v)).measNet = true →
    (s.sourceChanged (s.writeFields Reg.RTC_CTL v)).on F.RTC_CTL_NETSYNC = false →
    exec (.rtcCtlWrite x v) s = .next (((s.sourceChanged (s.writeFields Reg.RTC_CTL v)).measFail 2).autoStart)) ∧
  (∀ (s t : State),
    (s.servoSource = t.servoSource → s.sourceChanged t = t) ∧
      (s.servoSource ≠ t.servoSource → (s.sourceChanged t).on F.TCK_STAT_LOCK = false ∧ (s.sourceChanged t).on F.TCK_STAT_HOLD = false)) ∧
  (∀ (s : State),
    s.autoTrim = false →
    s.autoStart = s) ∧
  (∀ (x : HPort) (v : Word) (s : State),
    s.mayWrite x 1 = true →
    exec (.clkTinWrite x v) s = .next (s.sourceChanged (s.writeFields Reg.CLK_TIN v))) ∧
  (∀ (lanB : Bool) (m : SyncSample) (s : State),
    s.on F.RTC_CTL_NETSYNC = true →
    lanB = s.time.domB →
    exec (.syncReceived lanB m) s = .next (s.servoTake m)) ∧
  (∀ (adv : Nat) (s : State),
    s.on F.RTC_CTL_NETSYNC = false →
    s.on F.CLK_TIN_EN = true →
    exec (.tinPpsEdge adv) s = .next ((s.advance adv).useFree.servoTake (s.advance adv).ppsSample)) ∧
  (∀ (m : SyncSample) (s : State),
    (s.servoTake m).reg Reg.TCK_OFFSET = wdInt (clampInt (-2147483647) 2147483647 m.offset) ∧
      (s.servoTake m).on F.TCK_STAT_HOLD = false ∧
      (1000000 < m.offset.natAbs → (s.servoTake m).time.staged = some (m.sec, m.frac, 2)) ∧
      (15 ≤ s.time.good → m.offset.natAbs ≤ 500 → (s.servoTake m).on F.TCK_STAT_LOCK = true)) ∧
  (∀ (s t : State),
    s.servoSource ≠ 0 →
    s.on F.TCK_STAT_HOLD = false →
    exec .syncHoldover s = .next t →
    t.on F.TCK_STAT_HOLD = true ∧ t.on F.TCK_STAT_LOCK = false ∧
      (s.servoSource = 1 → t.time.domB = !s.time.domB)) ∧
  (∀ (s : State),
    s.servoSource = 2 →
    s.on F.TCK_STAT_HOLD = false →
    s.measNet = false →
    exec .syncHoldover s = .next (let t := ((s.setF F.TCK_STAT_HOLD 1).setF F.TCK_STAT_LOCK 0).lockEvent
      { t with time := { t.time with good := 0, wild := 0 } })) ∧
  (∀ (x : HPort) (s : State),
    s.mayWrite x 4 = true →
    s.on F.RTC_CTL_NETSYNC = false →
    ∃ t, exec (.setTimeGo x) s = .next t ∧ t.on F.RTC_SETCTL_PEND = true ∧
      t.time.staged = some (BitVec.ofNat 48 ((s.reg Reg.RTC_SETSECL).toNat + s.rf F.RTC_SETSECH_SEC * 2 ^ 32),
        s.reg Reg.RTC_SETFRAC, x.num) ∧ t.time.sec = s.time.sec ∧ t.time.frac = s.time.frac) ∧
  (∀ (x : HPort) (s : State),
    s.mayWrite x 4 = true →
    s.on F.RTC_CTL_NETSYNC = true →
    exec (.setTimeGo x) s = .next (s.setF F.RTC_SETCTL_REFUSED 1)) ∧
  (∀ (x : HPort) (adv : Nat) (s : State),
    exec (.rtcFracRead x adv) s = .next (((s.advance adv).snapSec x).showRead x Reg.RTC_FRAC 4 (s.advance adv).time.frac)) ∧
  (∀ (x : HPort) (s : State),
    exec (.tckCurRead x) s = .next ((s.snapFrameSec x).showRead x Reg.TCK_CUR 4 (s.reg Reg.TCK_CUR)))

/-- Partition set-up: share entries, enables and the configuration CRC. While BUSY is 0, a permitted PRT_SHCMD.WR of
an acceptable entry stores it at SHIDX (an invalid one as zero), reports 0x0602, ends the subscriptions it no longer
covers (cullSubs) and sets BUSY; a refused one sets ERR and BUSY; RD loads the entry into the staging registers and
sets BUSY. While BUSY is 1 both only set BADVAL. A permitted write of PRT_PEN[j] stores the word, with bit 0 of
PRT_PEN[0] at 1, and leaves the other three; the CRC register takes the CRC-32 of the configuration words. How long
BUSY stays is log entry 173. -/
def Obligations.PartitionConfiguration : Prop :=
  (∀ (x : HPort) (s : State),
    s.mayWrite x 6 = true →
    s.on F.PRT_SHCMD_BUSY = false →
    s.stagedShare.refused = false →
    exec (.shareCommit x) s = .next ((((let e : Share := if s.stagedShare.valid then s.stagedShare else { w0 := 0, w1 := 0 }
      { s with prt := { s.prt with shares := Store.put Share.dflt s.prt.shares (s.rf F.PRT_SHIDX_IDX) e } } : State).report
        0x0602 0 (wd (s.rf F.PRT_SHIDX_IDX)) (s.reg Reg.PRT_SHW0) (s.reg Reg.PRT_SHW1)).cullSubs).setF F.PRT_SHCMD_BUSY 1)) ∧
  (∀ (x : HPort) (s : State),
    s.mayWrite x 6 = true →
    s.on F.PRT_SHCMD_BUSY = false →
    s.stagedShare.refused = true →
    exec (.shareCommit x) s = .next ((s.setF F.PRT_SHCMD_ERR 1).setF F.PRT_SHCMD_BUSY 1)) ∧
  (∀ (x : HPort) (s : State),
    s.mayWrite x 6 = true →
    s.on F.PRT_SHCMD_BUSY = false →
    exec (.shareReadBack x) s = .next (((s.setReg Reg.PRT_SHW0
      (Store.get Share.dflt s.prt.shares (s.rf F.PRT_SHIDX_IDX)).w0).setReg Reg.PRT_SHW1
      (Store.get Share.dflt s.prt.shares (s.rf F.PRT_SHIDX_IDX)).w1).setF F.PRT_SHCMD_BUSY 1)) ∧
  (∀ (x : HPort) (s : State),
    s.mayWrite x 6 = true →
    s.on F.PRT_SHCMD_BUSY = true →
    exec (.shareCommit x) s = .next s.badVal ∧ exec (.shareReadBack x) s = .next s.badVal) ∧
  (∀ (x : HPort) (j : Fin 4) (v : Word) (s : State),
    s.mayWrite x 6 = true →
    ∃ t, exec (.prtPenWrite x j v) s = .next t ∧
      t.reg (Reg.PRT_PEN j) = (if j.val = 0 then v ||| 1 else v) ∧
      (∀ k : Fin 4, k ≠ j → t.reg (Reg.PRT_PEN k) = s.reg (Reg.PRT_PEN k)) ∧ t.enabled 0 = true) ∧
  (∀ (s : State),
    exec .cfgcrcRecompute s = .next (s.setReg Reg.PRT_CFGCRC (crc32Words s.cfgWords)))

/-- Semaphore cells: acquiring, refreshing, releasing, leases and heartbeats. ACQUIRE of a free cell makes the port its
holder with the tag and no lease; of an own cell it takes the tag and clears the lease; of the other port's it changes
nothing. RELEASE by the holder frees the cell, by another sets BADVAL. Lease expiry of a leased cell and a missed
heartbeat of a held one free it. A free cell has HELD and LEASE at 0. -/
def Obligations.SemaphoreCells : Prop :=
  (∀ (x : HPort) (i : Fin 64) (tag : BitVec 16) (s : State),
    s.on (F.SEM_CELL_HELD i) = false →
    ∃ t, exec (.semAcquire x i tag) s = .next t ∧ t.on (F.SEM_CELL_HELD i) = true ∧ t.cellPort i = x ∧
      t.rf (F.SEM_CELL_TAG i) = tag.toNat ∧ t.on (F.SEM_CELL_LEASE i) = false ∧
      (∀ j : Fin 64, j ≠ i → t.reg (Reg.SEM_CELL j) = s.reg (Reg.SEM_CELL j)) ∧ t.host.rings = s.host.rings) ∧
  (∀ (x : HPort) (i : Fin 64) (tag : BitVec 16) (s : State),
    s.on (F.SEM_CELL_HELD i) = true →
    exec (.semAcquire x i tag) s = .next (if s.cellPort i = x then
      (s.setF (F.SEM_CELL_TAG i) tag.toNat).setF (F.SEM_CELL_LEASE i) 0 else s)) ∧
  (∀ (x : HPort) (i : Fin 64) (s : State),
    s.on (F.SEM_CELL_HELD i) = true →
    s.cellPort i = x →
    ∃ t, exec (.semRelease x i) s = .next t ∧ t.on (F.SEM_CELL_HELD i) = false ∧
      t.on (F.SEM_CELL_LEASE i) = false ∧ (∀ j : Fin 64, j ≠ i → t.reg (Reg.SEM_CELL j) = s.reg (Reg.SEM_CELL j))) ∧
  (∀ (x : HPort) (i : Fin 64) (s : State),
    (s.on (F.SEM_CELL_HELD i) = true ∧ s.cellPort i = x) = False →
    exec (.semRelease x i) s = .next s.badVal) ∧
  (∀ (i : Fin 64) (s : State),
    s.on (F.SEM_CELL_HELD i) = true →
    s.on (F.SEM_CELL_LEASE i) = true →
    ∃ t, exec (.leaseExpiry i) s = .next t ∧ t.on (F.SEM_CELL_HELD i) = false ∧ t.on (F.SEM_CELL_LEASE i) = false) ∧
  (∀ (i : Fin 64) (s : State),
    s.on (F.SEM_CELL_HELD i) = true →
    s.rf F.SEM_CTL_HBTMO ≠ 0 →
    ∃ t, exec (.heartbeatTimeout i) s = .next t ∧ t.on (F.SEM_CELL_HELD i) = false ∧
      (∀ j : Fin 64, j ≠ i → t.reg (Reg.SEM_CELL j) = s.reg (Reg.SEM_CELL j)))

/-- Committing and reading back a ring set's configuration; a host port's link, fundamental reset, Function Level
Reset and D3hot. While BUSY is 0, WR stores the seven staged values into a STOPPED ring set and refuses others with
ERR and cause 3; RD shows SIZE, CFG, HOLD and the low word of the command base again and leaves the ring sets; while
BUSY is 1 a command only sets BADVAL. Link-up stores LINK, SPEED and WIDTH, reports 0x0702 and takes the function's
configuration; HP1 does not come up in Whiteout. Link-down of a port that is up clears LINK, SPEED and WIDTH, stops
every ring set of the port at once without a write to host memory, starts the lease of every cell the port holds and
reports 0x0701; of a port that is down it changes nothing. A fundamental reset does the same and resets the PCI
configuration; of a port that is down, and in a Function Level Reset, LINK stays, no lease starts and no event is
reported. D3HOT_ENTRY marks the function and stops each of the port's ring sets in turn: one in FAULT becomes
STOPPED, a RUNNING one without commands STOPPING, and others stay. A write of the configuration space's command word
stores Bus Master Enable (offset: log entry 40). -/
def Obligations.RingSetStagingAndHostLinks : Prop :=
  (∀ (x : HPort) (s : State),
    s.on (F.HPC_RSCMD_BUSY x.num) = false →
    s.rsState x (s.rsIdx x) = 0 →
    exec (.ringSetCommit x) s = .next (s.setRing x (s.rsIdx x) { s.ring x (s.rsIdx x) with
      cmdB := s.stagedBase (Reg.HPC_CMDBL x.num) (Reg.HPC_CMDBH x.num)
      cplB := s.stagedBase (Reg.HPC_CPLBL x.num) (Reg.HPC_CPLBH x.num)
      evtB := s.stagedBase (Reg.HPC_EVTBL x.num) (Reg.HPC_EVTBH x.num)
      rxB := s.stagedBase (Reg.HPC_RXBL x.num) (Reg.HPC_RXBH x.num)
      size := s.reg (Reg.HPC_RSSIZE x.num)
      cfg := s.reg (Reg.HPC_RSCFG x.num)
      hold := s.reg (Reg.HPC_RXHOLD x.num) })) ∧
  (∀ (x : HPort) (s : State),
    s.on (F.HPC_RSCMD_BUSY x.num) = false →
    s.rsState x (s.rsIdx x) ≠ 0 →
    exec (.ringSetCommit x) s = .next ((s.setF (F.HPC_RSCMD_ERR x.num) 1).setF (F.HPC_RSCMD_ERRC x.num) 3)) ∧
  (∀ (x : HPort) (s : State),
    s.on (F.HPC_RSCMD_BUSY x.num) = false →
    ∃ t, exec (.ringSetReadBack x) s = .next t ∧
      t.reg (Reg.HPC_RSSIZE x.num) = (s.ring x (s.rsIdx x)).size ∧
      t.reg (Reg.HPC_RSCFG x.num) = (s.ring x (s.rsIdx x)).cfg ∧
      t.reg (Reg.HPC_RXHOLD x.num) = (s.ring x (s.rsIdx x)).hold ∧
      t.reg (Reg.HPC_CMDBL x.num) = wd ((s.ring x (s.rsIdx x)).cmdB % 2 ^ 32) ∧ t.host = s.host) ∧
  (∀ (x : HPort) (s : State),
    s.on (F.HPC_RSCMD_BUSY x.num) = true →
    exec (.ringSetCommit x) s = .next s.badVal ∧ exec (.ringSetReadBack x) s = .next s.badVal ∧
      exec (.ringSetStart x) s = .next s.badVal ∧ exec (.ringSetStop x) s = .next s.badVal) ∧
  (∀ (x : HPort) (speed width : Nat) (cfg : PciCfg) (s : State),
    (x = .hp1 ∧ s.on F.UPD_STAT_WHITEOUT = true) = False →
    exec (.hostLinkUp x speed width cfg) s = .next
      (((((s.setF (F.HPC_PSTAT_LINK x.num) 1).setF (F.HPC_PSTAT_SPEED x.num) speed).setF (F.HPC_PSTAT_WIDTH x.num) width).report
        0x0702 0 (wd x.num) (wd (speed % 8)) (wd (width % 8))).setPci x cfg)) ∧
  (∀ (speed width : Nat) (cfg : PciCfg) (s : State),
    s.on F.UPD_STAT_WHITEOUT = true →
    exec (.hostLinkUp .hp1 speed width cfg) s = .next s) ∧
  (∀ (x : HPort) (cfg : PciCfg) (s : State),
    (s.setPci x cfg).pci x = cfg ∧ (s.setPci x cfg).pci x.other = s.pci x.other ∧
      (s.setPci x cfg).host.rings = s.host.rings) ∧
  (∀ (x : HPort) (s : State),
    s.on (F.HPC_PSTAT_LINK x.num) = true →
    exec (.hostLinkDown x) s = .next (((((((s.setF (F.HPC_PSTAT_LINK x.num) 0).setF (F.HPC_PSTAT_SPEED x.num) 0).setF
      (F.HPC_PSTAT_WIDTH x.num) 0).portLoss x).startLeases x).report 0x0701 0 (wd x.num) 0 0))) ∧
  (∀ (x : HPort) (s : State),
    s.on (F.HPC_PSTAT_LINK x.num) = false →
    exec (.hostLinkDown x) s = .next s) ∧
  (∀ (x : HPort) (p : Part) (s : State),
    (s.portLoss x).rsState x p = 0 ∧ (s.portLoss x).host.mem0 = s.host.mem0 ∧ (s.portLoss x).host.mem1 = s.host.mem1) ∧
  (∀ (x : HPort) (i : Fin 64) (s : State),
    s.on (F.SEM_CELL_HELD i) = true →
    s.cellPort i = x →
    (s.startLeases x).on (F.SEM_CELL_LEASE i) = true) ∧
  (∀ (x : HPort) (s : State),
    exec (.functionLevelReset x) s = .next ((s.portLoss x).resetPci x)) ∧
  (∀ (x : HPort) (s : State),
    s.on (F.HPC_PSTAT_LINK x.num) = true →
    exec (.fundamentalReset x) s = .next ((((((((s.setF (F.HPC_PSTAT_LINK x.num) 0).setF (F.HPC_PSTAT_SPEED x.num) 0).setF
      (F.HPC_PSTAT_WIDTH x.num) 0).portLoss x).startLeases x).report 0x0701 0 (wd x.num) 0 0)).resetPci x)) ∧
  (∀ (x : HPort) (s : State),
    s.on (F.HPC_PSTAT_LINK x.num) = false →
    exec (.fundamentalReset x) s = .next ((s.portLoss x).resetPci x)) ∧
  (∀ (x : HPort) (s : State),
    (s.resetPci x).pci x = PciCfg.reset) ∧
  (∀ (x : HPort) (s : State),
    exec (.d3hotEntry x) s = .next (forUpto 128 (s.setPci x { s.pci x with d3hot := true }) (fun p t => t.stopRing x p))) ∧
  (∀ (x : HPort) (p : Part) (s : State),
    (s.rsState x p = 3 → (s.stopRing x p).rsState x p = 0) ∧
      (s.rsState x p = 1 → (s.ring x p).ops = [] → (s.stopRing x p).rsState x p = 2) ∧
      (s.rsState x p = 0 ∨ s.rsState x p = 2 → s.stopRing x p = s)) ∧
  (∀ (x : HPort) (v : Word) (s : State),
    exec (.registerWrite x 0x1010004 4 v) s = .next (s.setPci x { s.pci x with busMaster := bitOf v.toNat 2 }))

/-- START, STOP and FAULT of a ring set. START of a ring set with no failing condition makes it RUNNING with all
indices and counters zero, phase 1, ERRC 0, no commands and ARM unchanged; with a failing condition it keeps its
state and sets ERR with the first failing condition's cause, in the order state 3, base alignment 1, sizes 2,
partition 4, Bus Master Enable 6, PASID 5. STOP of a RUNNING one without commands enters STOPPING, sets BUSY,
empties its receive queue and ends its subscriptions; of one in FAULT it enters STOPPED. A STOPPING ring set without
commands enters STOPPED, its staging queue is flushed, BUSY of the port's STOP that waits for it ends, and vector 8p
+ 3 is signalled. RING_SET_FAULT of a RUNNING or STOPPING one enters FAULT with its cause, without commands or
waiting frames, and writes no host memory. -/
def Obligations.RingSetLifeCycle : Prop :=
  (∀ (x : HPort) (s : State),
    s.on (F.HPC_RSCMD_BUSY x.num) = false →
    s.startCause x (s.rsIdx x) = none →
    ∃ t, exec (.ringSetStart x) s = .next t ∧ t.rsState x (s.rsIdx x) = 1 ∧
      (let r := t.ring x (s.rsIdx x)
       r.cmdPi = 0 ∧ r.cmdCi = 0 ∧ r.cplPi = 0 ∧ r.cplCi = 0 ∧ r.evtPi = 0 ∧ r.evtCi = 0 ∧ r.rxPi = 0 ∧ r.rxCi = 0 ∧
       r.cplPhase = true ∧ r.evtPhase = true ∧ r.errc = 0 ∧ r.rxNoBuf = 0 ∧ r.evtLost = 0 ∧ r.dbErr = 0 ∧
       r.armCpl = (s.ring x (s.rsIdx x)).armCpl ∧ r.armEvt = (s.ring x (s.rsIdx x)).armEvt ∧
       r.armRx = (s.ring x (s.rsIdx x)).armRx ∧ r.ops = [])) ∧
  (∀ (x : HPort) (s : State) (c : Nat),
    s.on (F.HPC_RSCMD_BUSY x.num) = false →
    s.startCause x (s.rsIdx x) = some c →
    exec (.ringSetStart x) s = .next ((s.setF (F.HPC_RSCMD_ERR x.num) 1).setF (F.HPC_RSCMD_ERRC x.num) c)) ∧
  (∀ (x : HPort) (p : Part) (s : State),
    (let r := s.ring x p;
      let state := s.rsState x p = 0;
      let bases := r.cmdB % 4096 = 0 ∧ r.cplB % 4096 = 0 ∧ r.evtB % 4096 = 0 ∧ r.rxB % 4096 = 0;
      let sizes := sizeOk (fieldOf r.size 3 0) = true ∧ sizeOk (fieldOf r.size 7 4) = true ∧
        sizeOk (fieldOf r.size 11 8) = true ∧ sizeOk (fieldOf r.size 15 12) = true ∧ fieldOf r.size 18 16 ≤ 6;
      let part := s.enabled p = true;
      let master := (s.pci x).busMaster = true;
      let pasid := s.on (F.PRT_PASID_EN x.num p) = true → (s.pci x).pasidOn = true;
      (s.startCause x p = none ↔ state ∧ bases ∧ sizes ∧ part ∧ master ∧ pasid) ∧
      (¬state → s.startCause x p = some 3) ∧
      (state → ¬bases → s.startCause x p = some 1) ∧
      (state → bases → ¬sizes → s.startCause x p = some 2) ∧
      (state → bases → sizes → ¬part → s.startCause x p = some 4) ∧
      (state → bases → sizes → part → ¬master → s.startCause x p = some 6) ∧
      (state → bases → sizes → part → master → ¬pasid → s.startCause x p = some 5))) ∧
  (∀ (x : HPort) (s : State),
    s.on (F.HPC_RSCMD_BUSY x.num) = false →
    s.rsState x (s.rsIdx x) = 3 →
    exec (.ringSetStop x) s = .next (s.setRs x (s.rsIdx x) 0)) ∧
  (∀ (x : HPort) (s : State),
    s.on (F.HPC_RSCMD_BUSY x.num) = false →
    s.rsState x (s.rsIdx x) = 1 →
    (s.ring x (s.rsIdx x)).ops = [] →
    ∃ t, exec (.ringSetStop x) s = .next t ∧ t.rsState x (s.rsIdx x) = 2 ∧ t.on (F.HPC_RSCMD_BUSY x.num) = true ∧
      t.queue (rxQueue x (s.rsIdx x)) = [] ∧ t.stopIdx x = some (s.rsIdx x) ∧
      (∀ b ∈ t.ptx.subs, (b.port = x ∧ b.part = s.rsIdx x) = False)) ∧
  (∀ (x : HPort) (p : Part) (s : State),
    s.rsState x p = 2 →
    (s.ring x p).ops = [] →
    exec (.ringSetStopped x p) s = .next
      (let t := (s.setRs x p 0).flushNow (stagingQueue x p)
       (if s.stopIdx x = some p.val then (t.setStop x none).setF (F.HPC_RSCMD_BUSY x.num) 0 else t).msix x (8 * p + 3))) ∧
  (∀ (x : HPort) (p : Part) (errc : Fin 4) (s : State),
    s.rsState x p = 1 ∨ s.rsState x p = 2 →
    errc.val ≠ 0 →
    ∃ t, exec (.ringSetFault x p errc) s = .next t ∧ t.rsState x p = 3 ∧ (t.ring x p).errc = errc.val ∧
      (t.ring x p).ops = [] ∧ t.queue (rxQueue x p) = [] ∧ t.host.mem0 = s.host.mem0 ∧ t.host.mem1 = s.host.mem1)

/-- Doorbell writes, command fetch, receive delivery and interrupt timers. An index write that names an entry of the
ring, to a RUNNING ring set of an enabled partition (dbOk), is taken (the host's own memory writes become visible
first), any other counts in DBERR; a write of ARM arms each vector whose bit is 1. A fetch of a known command that
transmits nothing reads its descriptor and adds it as a fetched command with an operation slot; a transmit command
passed over before is fetched once the staging queue has room. Delivery of a head frame whose buffers are free takes
it off the queue and fills the buffers, then notes the entries and looks at the next head; the end of the hold time
drops a head that lacks buffers with reason 1; the end of coalescing signals the vector if entries are unconsumed.
-/
def Obligations.DoorbellsFetchAndDelivery : Prop :=
  (∀ (x : HPort) (p : Part) (v : Word) (mem : HostMem) (s : State),
    (let t := s.hostStores x mem;
      (t.dbOk x p (t.ring x p).cmdN v = true →
        exec (.cmdPiWrite x p v mem) s = .next (t.setRing x p { t.ring x p with cmdPi := v.toNat })) ∧
      (t.dbOk x p (t.ring x p).cmdN v = false → exec (.cmdPiWrite x p v mem) s = .next (t.dbErr x p)) ∧
      (t.dbOk x p (t.ring x p).rxN v = true →
        exec (.rxPiWrite x p v mem) s = .next (t.setRing x p { t.ring x p with rxPi := v.toNat })) ∧
      (t.dbOk x p (t.ring x p).rxN v = false → exec (.rxPiWrite x p v mem) s = .next (t.dbErr x p)))) ∧
  (∀ (x : HPort) (p : Part) (v : Word) (s : State),
    (s.dbOk x p (s.ring x p).cplN v = true →
        exec (.cplCiWrite x p v) s = .next (s.setRing x p { s.ring x p with cplCi := v.toNat })) ∧
      (s.dbOk x p (s.ring x p).cplN v = false → exec (.cplCiWrite x p v) s = .next (s.dbErr x p)) ∧
      (s.dbOk x p (s.ring x p).evtN v = true →
        exec (.evtCiWrite x p v) s = .next ((s.setRing x p { s.ring x p with evtCi := v.toNat }).lostEntry x p)) ∧
      (s.dbOk x p (s.ring x p).evtN v = false → exec (.evtCiWrite x p v) s = .next (s.dbErr x p))) ∧
  (∀ (x : HPort) (p : Part) (v : Word) (s : State),
    exec (.armWrite x p v) s = .next (((s.armVec x p .cpl (bitOf v.toNat 0)).armVec x p .evt (bitOf v.toNat 1)).armVec
      x p .rx (bitOf v.toNat 2))) ∧
  (∀ (x : HPort) (p : Part) (s t : State) (bs : List Byte),
    (s.ring x p).ops.any (fun o => o.st = .passed) = false →
    s.mayFetch x p = true →
    s.dmaRead x p ((s.ring x p).cmdB + 32 * (s.ring x p).cmdCi) 32 = (some bs, t) →
    (descOf bs).known = true →
    (descOf bs).transmits = false →
    exec (.commandFetch x p) s = .next (((if (s.ring x p).slots = 0 then t else t.setTurn x p).setRing x p { s.ring x p with
      ops := (s.ring x p).ops ++ [{ id := (s.ring x p).nextOp, desc := descOf bs, st := .fetched, status := St.badDesc, epoch := s.epoch, r0 := 0, r1 := 0 }]
      nextOp := (s.ring x p).nextOp + 1
      cmdCi := if (s.ring x p).cmdCi + 1 = (s.ring x p).cmdN then 0 else (s.ring x p).cmdCi + 1 }).drain x p
        ((s.ring x p).ops.length + 1))) ∧
  (∀ (x : HPort) (p : Part) (s : State),
    s.rsRunning x p = true →
    s.enabled p = true →
    (s.ring x p).ops.any (fun o => o.st = .passed) = true →
    s.stagingFull x p = false →
    exec (.commandFetch x p) s = .next (s.setRing x p { s.ring x p with ops := fetchPassed (s.ring x p).ops })) ∧
  (∀ (x : HPort) (p : Part) (k : Pkt) (ks : List Pkt) (s : State),
    s.queue (rxQueue x p) = k :: ks →
    s.rsRunning x p = true →
    (s.ring x p).need k ≤ (s.ring x p).rxFree →
    exec (.receiveFrameDelivery x p) s = .next (match s.dequeue (rxQueue x p) with
      | (none, t) => t.headArrives x p ((t.queue (rxQueue x p)).length + 1)
      | (some k, t) =>
        match (t.setRing x p { t.ring x p with holding := false }).fillBuffers x p k with
        | (false, t) => t
        | (true, t) => (t.noteEntries x p .rx).headArrives x p (t.queue (rxQueue x p)).length)) ∧
  (∀ (x : HPort) (p : Part) (k : Pkt) (ks : List Pkt) (s : State),
    s.queue (rxQueue x p) = k :: ks →
    (s.ring x p).holding = true →
    (s.ring x p).rxFree < (s.ring x p).need k →
    exec (.receiveHoldExpiry x p) s = .next ((s.dropHead x p 1).headArrives x p
      ((s.dropHead x p 1).queue (rxQueue x p)).length)) ∧
  (∀ (x : HPort) (p : Part) (k : RingVec) (s : State),
    (s.ring x p).due k = true →
    exec (.interruptCoalescingExpiry x p k) s = .next (if (s.ring x p).unconsumed k then
      (s.setRing x p ((s.ring x p).setDue k false)).fireVec x p k else s.setRing x p ((s.ring x p).setDue k false)))

/-- Writing packets of the queue pool, and its errors. A packet written to a queue that is no receive queue is
appended, with the error that injection put into it, when its cells are granted, otherwise it is refused as
refuseWrite says; to a receive queue it goes as a received frame (toHost). A poisoned cell drops its packet, sets
PSN and ends the command the packet belongs to with MEDIA_ERROR; a dropped head of a receive queue has the next head
looked at, the head packet of a sending queue whose transmission had begun is shown with a bad FCS, and a lost chunk
or manifest part of queue 418 is answered with NAK 0x02. A failed link word empties the queue, ends its packets'
commands with MEDIA_ERROR, reports 0x0801, retires the cell and starts or extends the audit, whose end reports
0x0804. None of them does anything at an empty place. -/
def Obligations.QueuePoolPackets : Prop :=
  (∀ (q : Fin 1024) (data : List Byte) (src : Nat) (s : State),
    256 ≤ q.val →
    s.allocRefused q (cellsOf data.length) = none →
    ∃ t, exec (.packetWrite q data src) s = .next t ∧
      t.queue q = s.queue q ++ [{ mkPkt data src 0 s.frameNo with ecc := if data = [] then 0 else s.injected q, seq := s.pool.arrived }] ∧
      (∀ r, r ≠ q.val → t.queue r = s.queue r) ∧ t.regs = s.regs) ∧
  (∀ (q : Fin 1024) (data : List Byte) (src : Nat) (s : State) (cause : Nat),
    256 ≤ q.val →
    s.allocRefused q (cellsOf data.length) = some cause →
    exec (.packetWrite q data src) s = .next (s.refuseWrite q cause)) ∧
  (∀ (q : Fin 1024) (data : List Byte) (src : Nat) (s : State),
    q.val < 256 →
    exec (.packetWrite q data src) s = .next (s.toHost (if q.val < 128 then .hp0 else .hp1) (q.val % 128) (mkPkt data src 0 s.frameNo)).2) ∧
  (∀ (q : Fin 1024) (pos cell : Nat) (begun : Bool) (k : Pkt) (s : State),
    (s.queue q)[pos]? = some k →
    (256 ≤ q.val ∨ pos ≠ 0) →
    (begun = false ∨ pos ≠ 0 ∨ sendQueue q = false) →
    (q.val ≠ 418 ∨ ((chainIn k.data).op ≠ 1 ∧ (chainIn k.data).op ≠ 2)) →
    exec (.cellPoisoned q pos cell begun) s = .next ((s.poison q pos cell).endStaged St.mediaError [k])) ∧
  (∀ (q : Fin 1024) (cell : Nat) (begun : Bool) (k : Pkt) (s : State),
    (s.queue q)[0]? = some k →
    q.val < 256 →
    exec (.cellPoisoned q 0 cell begun) s = .next (((s.poison q 0 cell).endStaged St.mediaError [k]).newHead q)) ∧
  (∀ (q : Fin 1024) (cell : Nat) (k : Pkt) (s : State),
    (s.queue q)[0]? = some k →
    sendQueue q = true →
    exec (.cellPoisoned q 0 cell true) s =
      .next (((s.poison q 0 cell).endStaged St.mediaError [k]).emit (.badFcs q k.data))) ∧
  (∀ (pos cell : Nat) (begun : Bool) (k : Pkt) (s : State),
    (s.queue 418)[pos]? = some k →
    (chainIn k.data).op = 1 ∨ (chainIn k.data).op = 2 →
    exec (.cellPoisoned 418 pos cell begun) s =
      .next (((s.poison 418 pos cell).endStaged St.mediaError [k]).answerChain (chainIn k.data) 4 2)) ∧
  (∀ (q : Fin 1024) (pos cell : Nat) (begun : Bool) (s : State),
    (s.queue q)[pos]? = none →
    exec (.cellPoisoned q pos cell begun) s = .next s) ∧
  (∀ (q i cell : Nat) (s : State),
    (s.poison q i cell).queue q = (s.queue q).eraseIdx i ∧ (s.poison q i cell).on (F.QPL_QSTAT_PSN q) = true) ∧
  (∀ (q : Fin 1024) (cell lost : Nat) (s t : State),
    s.queue q ≠ [] →
    exec (.linkWordError q cell lost) s = .next t →
    t.on F.QPL_STAT_AUDIT = true ∧ ∃ n, t.pool.audit = some (n, q.val)) ∧
  (∀ (q : Fin 1024) (cell lost : Nat) (s : State),
    s.queue q ≠ [] →
    exec (.linkWordError q cell lost) s = .next (let u := (((s.flushNow q).endStaged St.mediaError (s.queue q)).report 0x0801 0 (wd cell) (wd q) 1).retireCell;
      let old := match u.pool.audit with | some a => a.1 | none => 0;
      ({ u with pool := { u.pool with audit := some (old + min lost (s.fill q - 1), q.val) } } : State).setF F.QPL_STAT_AUDIT 1)) ∧
  (∀ (q : Nat) (s : State),
    (s.flushNow q).queue q = []) ∧
  (∀ (q : Fin 1024) (cell lost : Nat) (s : State),
    s.queue q = [] →
    exec (.linkWordError q cell lost) s = .next s) ∧
  (∀ (s : State) (n q : Nat),
    s.pool.audit = some (n, q) →
    exec .linkAuditComplete s = .next ((({ s with pool := { s.pool with audit := none } } : State).setF F.QPL_STAT_AUDIT 0).report
      0x0804 0 (wd n) (wd q) 0)) ∧
  (∀ (s : State),
    s.pool.audit = none →
    exec .linkAuditComplete s = .next s)

/-- Flushes, the queue configuration taking effect, and error injection; the CAN mailbox window of a port. A
permitted FLUSH of an empty queue sets FLUSHED at once, of another it waits for the producer's packet boundary, and
a flush in progress is joined. At that boundary (QUEUE_FLUSH_COMPLETE) the packets counted go, FLUSHED is set, the
commands of those packets and the Q_FLUSH commands that wait complete with SUCCESS, and a new head of a receive
queue is looked at. An accepted queue configuration gives every queue its quota, reservation and tag, ends SHORT and
has the reservations checked against the cells left (shortfall). INJC and INJU note the queue. With CAN out of
reset, MAILBOX_SELECT releases the port's lock and stores the selection; reading word 20 releases the lock and shows
the word; reading word 0 of a window on a mailbox takes the lock, clears NEW and shows the word, and shows 0 of a
window on none; in CAN's block reset none of the three does anything. -/
def Obligations.QueueFlushInjectionAndMailboxWindow : Prop :=
  (∀ (x : HPort) (q : Fin 1024) (s : State),
    s.mayWrite x 8 = true →
    s.pool.flushing.any (fun e => e.1 = q.val) = false →
    exec (.queueFlush x q) s = .next (if s.queue q = [] then s.setF (F.QPL_QSTAT_FLUSHED q) 1
      else { s with pool := { s.pool with flushing := s.pool.flushing ++ [(q.val, (s.queue q).length)] } })) ∧
  (∀ (x : HPort) (q : Fin 1024) (s : State),
    s.mayWrite x 8 = true →
    s.pool.flushing.any (fun e => e.1 = q.val) = true →
    exec (.queueFlush x q) s = .next s) ∧
  (∀ (q : Fin 1024) (s : State),
    s.pool.flushing.any (fun e => e.1 = q.val) = false →
    exec (.queueFlushComplete q) s = .next s) ∧
  (∀ (q : Fin 1024) (s t : State),
    s.pool.flushing.any (fun e => e.1 = q.val) = true →
    t = s.setQueue q ((s.queue q).drop (s.flushLeft q)) →
    exec (.queueFlushComplete q) s = .next
      (let u := (({ t with pool := { t.pool with
          flushing := s.pool.flushing.filter (fun e => e.1 != q.val)
          flushOps := s.pool.flushOps.filter (fun e => e.1 != q.val) } } : State).setF (F.QPL_QSTAT_FLUSHED q) 1).endStaged St.success
            ((s.queue q).take (s.flushLeft q));
       (s.pool.flushOps.filter (fun e => e.1 = q.val)).foldl (fun t e => t.completeLate e.2.1 e.2.2.1 e.2.2.2 St.success 0 0)
         (if s.flushLeft q = 0 then u else u.newHead q))) ∧
  (∀ (q : Fin 1024) (s : State),
    s.pool.flushing.any (fun e => e.1 = q.val) = true →
    256 ≤ q.val →
    s.pool.flushOps = [] →
    (s.queue q).all (fun k => k.op.isNone) = true →
    ∃ t, exec (.queueFlushComplete q) s = .next t ∧ t.queue q = (s.queue q).drop (s.flushLeft q) ∧
      t.on (F.QPL_QSTAT_FLUSHED q) = true ∧ (∀ r, r ≠ q.val → t.queue r = s.queue r)) ∧
  (∀ (s : State) (ws : List Word),
    s.pool.cfgPend = some ws →
    exec .queueConfigurationApply s = .next (let t := forUpto 1024 s (fun q t =>
        (t.setReg (Reg.QPL_QCFG q) (queueWords ws q).1).setF (F.QPL_QATTR_TAG q) (fieldOf (queueWords ws q).2 22 16));
      (({ t with pool := { t.pool with cfgPend := none, guarBelow := 1024 } } : State).setF F.QPL_STAT_SHORT 0).shortfall)) ∧
  (∀ (s : State),
    s.pool.cfgPend = none →
    exec .queueConfigurationApply s = .next s) ∧
  (∀ (x : HPort) (q : Fin 1024) (s : State),
    s.mayWrite x 8 = true →
    exec (.injectCorrectable x q) s = .next (s.writeQplCtl (wd (q.val * 64 + 1)))) ∧
  (∀ (x : HPort) (q : Fin 1024) (s : State),
    s.mayWrite x 8 = true →
    exec (.injectUncorrectable x q) s = .next (s.writeQplCtl (wd (q.val * 64 + 2)))) ∧
  (∀ (q : Fin 1024) (s : State),
    (s.writeQplCtl (wd (q.val * 64 + 1))).pool.injC = some q.val ∧ (s.writeQplCtl (wd (q.val * 64 + 2))).pool.injU = some q.val) ∧
  (∀ (x : HPort) (v : Word) (s : State),
    s.inReset 20 = false →
    exec (.mailboxSelect x v) s = .next ((s.releaseMailbox x).writeFields (Reg.CAN_MBSEL x.num) v)) ∧
  (∀ (x : HPort) (s : State),
    s.inReset 20 = false →
    exec (.mailboxWindowRelease x) s = .next ((s.releaseMailbox x).showRead x (Reg.CAN_MBWIN x.num 20) 4 (s.mailboxWord x 20))) ∧
  (∀ (x : HPort) (s : State),
    s.inReset 20 = false →
    s.windowOn x = true →
    exec (.mailboxWindowLock x) s = .next (((s.lockMailbox x).setF
      (F.CAN_MBST_NEW ((s.lockMailbox x).selCtrl x) ((s.lockMailbox x).selBuf x)) 0).showRead x (Reg.CAN_MBWIN x.num 0) 4
      ((s.lockMailbox x).mailboxWord x 0))) ∧
  (∀ (x : HPort) (s : State),
    s.inReset 20 = false →
    s.windowOn x = false →
    exec (.mailboxWindowLock x) s = .next (s.showRead x (Reg.CAN_MBWIN x.num 0) 4 0)) ∧
  (∀ (x : HPort) (v : Word) (s : State),
    s.inReset 20 = true →
    exec (.mailboxSelect x v) s = .next s ∧ exec (.mailboxWindowRelease x) s = .next s ∧
      exec (.mailboxWindowLock x) s = .next s)

/-- Logic engine: END, NOP, LDK, LD, LDN, AND, ANDN, OR, ORN and XOR. When the engine is at the instruction in a
task's turn (lgeAt), NOP changes nothing but the task's place, LDK loads its bit into ACC, and LD to XOR put the bit
operand, or its combination with ACC, into ACC; the task goes on after one word at the cost of one cycle (lgeDone).
END with an empty stack costs one cycle and ends the task's cycle. -/
def Obligations.LogicBitInstructions : Prop :=
  (∀ (t : Nat) (s : State),
    s.lgeAt t .stop = true →
    (s.task t).stack = [] →
    exec .lgeEnd s = .next ((s.setTask t { s.task t with spent := (s.task t).spent + 1, cyc := (s.task t).cyc + 1, lastPc := (s.task t).pc }).endCycle t)) ∧
  (∀ (t : Nat) (s : State),
    s.lgeAt t .nop = true →
    exec .lgeNop s = .next (s.lgeDone s t 1)) ∧
  (∀ (t : Nat) (b : Bool) (s : State),
    s.lgeAt t (.ldk b) = true →
    exec .lgeLdk s = .next (s.lgeDone (s.setAcc t b) t 1)) ∧
  (∀ (t : Nat) (o : BitOp) (s : State),
    s.lgeAt t (.ld o) = true →
    exec .lgeLd s = .next (s.lgeDone (s.setAcc t (s.readOp t o)) t 1)) ∧
  (∀ (t : Nat) (o : BitOp) (s : State),
    s.lgeAt t (.ldn o) = true →
    exec .lgeLdn s = .next (s.lgeDone (s.setAcc t (!s.readOp t o)) t 1)) ∧
  (∀ (t : Nat) (o : BitOp) (s : State),
    s.lgeAt t (.and o) = true →
    exec .lgeAnd s = .next (s.lgeDone (s.setAcc t ((s.task t).acc && s.readOp t o)) t 1)) ∧
  (∀ (t : Nat) (o : BitOp) (s : State),
    s.lgeAt t (.andn o) = true →
    exec .lgeAndn s = .next (s.lgeDone (s.setAcc t ((s.task t).acc && !s.readOp t o)) t 1)) ∧
  (∀ (t : Nat) (o : BitOp) (s : State),
    s.lgeAt t (.or o) = true →
    exec .lgeOr s = .next (s.lgeDone (s.setAcc t ((s.task t).acc || s.readOp t o)) t 1)) ∧
  (∀ (t : Nat) (o : BitOp) (s : State),
    s.lgeAt t (.orn o) = true →
    exec .lgeOrn s = .next (s.lgeDone (s.setAcc t ((s.task t).acc || !s.readOp t o)) t 1)) ∧
  (∀ (t : Nat) (o : BitOp) (s : State),
    s.lgeAt t (.xor o) = true →
    exec .lgeXor s = .next (s.lgeDone (s.setAcc t ((s.task t).acc != s.readOp t o)) t 1))

/-- Logic engine: ST, STN, SET, RST, BRO, BRCA, BRCO, RE and FE. In a task's turn (lgeAt), ST and STN write ACC or
its complement to the operand, SET and RST write 1 or 0 if ACC is 1; BRO pushes ACC unless 16 entries are on the
stack, BRCA and BRCO pop one entry and combine it with ACC by and or or; RE and FE put the edge of ACC against the
marker into ACC and ACC into the marker; one word, one cycle (lgeDone). A BRO at 16 entries halts the task with
cause 1, a pop of an empty stack with cause 2, END with a stack that is not empty with cause 3, and the next task's
turn begins. -/
def Obligations.LogicStoresAndBranches : Prop :=
  (∀ (t : Nat) (o : BitOp) (s : State),
    s.lgeAt t (.st o) = true →
    exec .lgeSt s = .next (s.lgeDone (s.writeOp t o (s.task t).acc) t 1)) ∧
  (∀ (t : Nat) (o : BitOp) (s : State),
    s.lgeAt t (.stn o) = true →
    exec .lgeStn s = .next (s.lgeDone (s.writeOp t o (!(s.task t).acc)) t 1)) ∧
  (∀ (t : Nat) (o : BitOp) (s : State),
    s.lgeAt t (.set o) = true →
    exec .lgeSet s = .next (s.lgeDone (if (s.task t).acc then s.writeOp t o true else s) t 1)) ∧
  (∀ (t : Nat) (o : BitOp) (s : State),
    s.lgeAt t (.rst o) = true →
    exec .lgeRst s = .next (s.lgeDone (if (s.task t).acc then s.writeOp t o false else s) t 1)) ∧
  (∀ (t : Nat) (s : State),
    s.lgeAt t .bro = true →
    (s.task t).stack.length < 16 →
    exec .lgeBro s = .next (s.lgeDone (s.setTask t { s.task t with stack := (s.task t).acc :: (s.task t).stack }) t 1)) ∧
  (∀ (t : Nat) (b : Bool) (bs : List Bool) (s : State),
    s.lgeAt t .brca = true →
    (s.task t).stack = b :: bs →
    exec .lgeBrca s = .next (s.lgeDone (s.setTask t { s.task t with stack := bs, acc := b && (s.task t).acc }) t 1)) ∧
  (∀ (t : Nat) (b : Bool) (bs : List Bool) (s : State),
    s.lgeAt t .brco = true →
    (s.task t).stack = b :: bs →
    exec .lgeBrco s = .next (s.lgeDone (s.setTask t { s.task t with stack := bs, acc := b || (s.task t).acc }) t 1)) ∧
  (∀ (t : Nat) (m : Nat) (s : State),
    s.lgeAt t (.re m) = true →
    exec .lgeRe s = .next (s.lgeDone ((s.setMarker t m (s.task t).acc).setAcc t ((s.task t).acc && !s.marker t m)) t 1)) ∧
  (∀ (t : Nat) (m : Nat) (s : State),
    s.lgeAt t (.fe m) = true →
    exec .lgeFe s = .next (s.lgeDone ((s.setMarker t m (s.task t).acc).setAcc t (s.marker t m && !(s.task t).acc)) t 1)) ∧
  (∀ (t : Nat) (s : State),
    16 ≤ (s.task t).stack.length →
    s.lgeAt t .bro = true →
    exec .lgeBro s = .next ((s.taskHalt t 1 (s.task t).pc).nextTurn)) ∧
  (∀ (t : Nat) (s : State),
    (s.task t).stack = [] →
    (s.lgeAt t .brca = true → exec .lgeBrca s = .next ((s.taskHalt t 2 (s.task t).pc).nextTurn)) ∧
      (s.lgeAt t .brco = true → exec .lgeBrco s = .next ((s.taskHalt t 2 (s.task t).pc).nextTurn))) ∧
  (∀ (t : Nat) (s : State),
    s.lgeAt t .stop = true →
    (s.task t).stack ≠ [] →
    exec .lgeEnd s = .next ((s.taskHalt t 3 (s.task t).pc).nextTurn))

/-- Logic engine: TON, TOF, CTU, CTD, CRES, CMP, MOVK, MOV, JC and JNC. In a task's turn (lgeAt), TON and TOF
evaluate the timer with ACC and the frames since its last evaluation, CTU and CTD the counter, and put Q into ACC;
CRES zeroes the counter's value if ACC is 1; CMP compares the point with the literal in its format and combines the
result with ACC; MOVK and MOV stage a point write if ACC is 1; JC and JNC skip forward when ACC is 1 or 0. CRES and
a jump not taken cost one cycle, the others two. -/
def Obligations.LogicTimersCountersAndMoves : Prop :=
  (∀ (t : Nat) (n l : Nat) (s : State),
    s.lgeAt t (.ton n l) = true →
    exec .lgeTon s = .next ((let k := evalTimer true (s.timer t n) (s.task t).acc l (s.reg Reg.LGE_FC - (s.timer t n).last).toNat (s.reg Reg.LGE_FC); s.lgeDone ((s.setTimer t n k).setAcc t k.q) t 2))) ∧
  (∀ (t : Nat) (n l : Nat) (s : State),
    s.lgeAt t (.tof n l) = true →
    exec .lgeTof s = .next ((let k := evalTimer false (s.timer t n) (s.task t).acc l (s.reg Reg.LGE_FC - (s.timer t n).last).toNat (s.reg Reg.LGE_FC); s.lgeDone ((s.setTimer t n k).setAcc t k.q) t 2))) ∧
  (∀ (t : Nat) (n : Nat) (l : Word) (s : State),
    s.lgeAt t (.ctu n l) = true →
    exec .lgeCtu s = .next ((let k := evalCounter true (s.counter t n) (s.task t).acc l; s.lgeDone ((s.setCounter t n k).setAcc t k.q) t 2))) ∧
  (∀ (t : Nat) (n : Nat) (l : Word) (s : State),
    s.lgeAt t (.ctd n l) = true →
    exec .lgeCtd s = .next ((let k := evalCounter false (s.counter t n) (s.task t).acc l; s.lgeDone ((s.setCounter t n k).setAcc t k.q) t 2))) ∧
  (∀ (t : Nat) (n : Nat) (s : State),
    s.lgeAt t (.cres n) = true →
    exec .lgeCres s = .next (s.lgeDone (if (s.task t).acc then s.setCounter t n { s.counter t n with cv := 0 } else s) t 1)) ∧
  (∀ (t : Nat) (comb cond pt : Nat) (l : Word) (s : State),
    s.lgeAt t (.cmp comb cond pt l) = true →
    exec .lgeCmp s = .next (s.lgeDone (s.setAcc t (combine comb (s.task t).acc (compareWords (s.pt pt).fmt cond (s.cycRead t pt) l))) t 2)) ∧
  (∀ (t : Nat) (pt : Nat) (l : Word) (s : State),
    s.lgeAt t (.movk pt l) = true →
    exec .lgeMovk s = .next (s.lgeDone (if (s.task t).acc then s.stageWrite t pt (normValue (s.pt pt).fmt l) else s) t 2)) ∧
  (∀ (t : Nat) (dst src : Nat) (s : State),
    s.lgeAt t (.mov dst src) = true →
    exec .lgeMov s = .next (s.lgeDone (if (s.task t).acc then s.stageWrite t dst (s.cycRead t src) else s) t 2)) ∧
  (∀ (t : Nat) (n : Nat) (s : State),
    s.lgeAt t (.jc n) = true →
    exec .lgeJc s = .next (if (s.task t).acc then s.goOn t (s.task t).pc ((s.task t).pc + n) 2 else s.lgeDone s t 1)) ∧
  (∀ (t : Nat) (n : Nat) (s : State),
    s.lgeAt t (.jnc n) = true →
    exec .lgeJnc s = .next (if (s.task t).acc then s.lgeDone s t 1 else s.goOn t (s.task t).pc ((s.task t).pc + n) 2))

/-- Every ring command is checked in the order of R152, and the first failing check gives its status. For a started
command of a RUNNING ring set, with `wf` the check of its descriptor, `fitted` that of its unit and `cfg` that of
its class: a malformed one ends BAD_DESC, one of another epoch ROLE_CHANGED, one of a missing unit UNSUPPORTED, a
configuration-class one without SEM0 DENIED, and outside partition 0 DENIED as a refusal of an object that the spec
leaves open (log entry 34), one for a block in reset ABORTED; one that passes all ends as its own body says, or
stays fetched where the body puts it off. Where the row does not fit, the ring set is not RUNNING, or no such
command may start, nothing happens. A well-formed NOP ends SUCCESS with the frame number. -/
def Obligations.RingCommandChecks : Prop :=
  (∀ (x : HPort) (p : Part) (d : Desc) (o : Op) (wf fitted cfg : Bool) (body : State → Nat → CmdEnd) (s : State),
    s.rsRunning x p = true →
    startable d [] (s.ring x p).ops = some o →
    (wf = false → s.command x p d true wf fitted cfg body = s.ends (s.started x p o) x p o St.badDesc 0 0) ∧
      (wf = true → d.epoch ≠ s.epoch → s.command x p d true wf fitted cfg body = s.ends (s.started x p o) x p o St.roleChanged 0 0) ∧
      (wf = true → d.epoch = s.epoch → fitted = false →
        s.command x p d true wf fitted cfg body = s.ends (s.started x p o) x p o St.unsupported 0 0) ∧
      (wf = true → d.epoch = s.epoch → fitted = true → cfg = true → p.val = 0 → s.holdsSem0 x = false →
        s.command x p d true wf fitted cfg body = s.ends (s.started x p o) x p o St.denied 0 0) ∧
      (wf = true → d.epoch = s.epoch → fitted = true → (cfg = true → s.mayConfigure x p = true) →
        s.inReset d.block = true → s.command x p d true wf fitted cfg body = s.ends (s.started x p o) x p o St.aborted 0 0) ∧
      (wf = true → s.mayStart x p d o = true → fitted = true → (cfg = true → s.mayConfigure x p = true) →
        s.command x p d true wf fitted cfg body = (match body (s.started x p o) o.id with
          | .done u st r0 r1 => s.ends u x p o st r0 r1
          | .refuse u cls i st => s.ends (u.refusal p cls i st) x p o st 0 0
          | .wait u => u
          | .later => s)) ∧
      (wf = true → d.epoch = s.epoch → fitted = true → cfg = true → p.val ≠ 0 →
        s.command x p d true wf fitted cfg body = s.ends ((s.started x p o).useFree.useFree.refusal p
          (s.started x p o).freeVal.toNat (s.started x p o).useFree.freeVal.toNat St.denied) x p o St.denied 0 0)) ∧
  (∀ (x : HPort) (p : Part) (d : Desc) (sel wf fitted cfg : Bool) (body : State → Nat → CmdEnd) (s : State),
    sel = false ∨ s.rsRunning x p = false ∨ startable d [] (s.ring x p).ops = none →
    s.command x p d sel wf fitted cfg body = s) ∧
  (∀ (x : HPort) (p : Part) (d : Desc) (o : Op) (s : State),
    s.mayStart x p d o = true →
    d.opcode = 0x00 →
    d.clean 0 0 0 0 0 0 = true →
    exec (.nop x p d) s = .next (s.ends ((s.started x p o)) x p o St.success (wd (s.frameNo % 2 ^ 32)) (wd (s.frameNo / 2 ^ 32))))

/-- A completed command whose turn it is writes its completion entry, and frees its slot. When the ring set's oldest
command ends and its port can write the entry, the 16 bytes at the completion ring's producer index hold the command's
word 1, PHASE, status and epoch, and the two results; the producer index advances, wrapping with a change of PHASE, and
the command's slot is free. -/
def Obligations.CompletionsAndEntries : Prop :=
  ∀ (x : HPort) (p id status epoch : Nat) (r0 r1 : Word) (o : Op) (os : List Op) (s : State),
    (s.ring x p).ops = o :: os →
    o.id = id →
    os.all (fun q => q.st != .done && q.id != id) = true →
    s.dmaOk x ((s.ring x p).cplB + 16 * (s.ring x p).cplPi) 16 = true →
    (let t := s.complete x p id status epoch r0 r1; let r := s.ring x p;
      t.memBytes x (r.cplB + 16 * r.cplPi) 16 = wordsBytes [o.desc.w1,
        wd (ofBool r.cplPhase * 2 ^ 31 + status % 256 * 2 ^ 16 + epoch % 65536), r0, r1] ∧
      (t.ring x p).ops = os ∧
      (t.ring x p).cplPi = (if r.cplPi + 1 = r.cplN then 0 else r.cplPi + 1) ∧
      (t.ring x p).cplPhase = (if r.cplPi + 1 = r.cplN then !r.cplPhase else r.cplPhase) ∧
      (∀ a, a < r.cplB + 16 * r.cplPi ∨ r.cplB + 16 * r.cplPi + 16 ≤ a → t.memByte x a = s.memByte x a) ∧
      (∀ a, t.memByte x.other a = s.memByte x.other a))

/-- PT_READ, PT_WRITE, PT_LIST and PT_SUB of permitted points. PT_READ ends SUCCESS with the value, a forced
output's forced value unless DIAG, and the quality word. PT_WRITE of a point that host commands write, while ACTIVE,
stores the value in the point's format. PT_LIST, for writing while ACTIVE, reads its entries, reads or writes their
points, writes the entries back and ends with the number served, DMA_ERROR where the write-back fails. PT_SUB while
ACTIVE adds a subscription within the quota, or renews the one the ring set has, with the point's value and quality
as its baseline and its results; with CANCEL it removes it and ends SUCCESS. -/
def Obligations.PointReadsAndWrites : Prop :=
  (∀ (x : HPort) (p : Part) (d : Desc) (o : Op) (s : State),
    s.mayStart x p d o = true →
    d.opcode = 0x01 →
    d.clean 0x1FFFF 0 0 0 0 0 = true →
    (s.started x p o).filterRead p ((s.started x p o).ptTag (fieldOf d.w2 15 0)) Cls.point (fieldOf d.w2 15 0) = St.success →
    exec (.ptRead x p d) s = .next (s.ends ((s.started x p o)) x p o St.success ((s.started x p o).readValue (fieldOf d.w2 15 0) (fieldOf d.w2 16 16 = 1)) ((s.started x p o).quality (fieldOf d.w2 15 0)))) ∧
  (∀ (x : HPort) (p : Part) (d : Desc) (o : Op) (s : State),
    s.mayStart x p d o = true →
    d.opcode = 0x02 →
    d.clean 0xFFFF 0xFFFFFFFF 0 0 0 0 = true →
    (s.started x p o).filterWrite p ((s.started x p o).ptTag (fieldOf d.w2 15 0)) Cls.point (fieldOf d.w2 15 0) = St.success →
    (s.started x p o).active = true →
    ((s.started x p o).pt (fieldOf d.w2 15 0)).wsrc = 4 →
    exec (.ptWrite x p d) s = .next (s.ends (((s.started x p o).sourceWrite (fieldOf d.w2 15 0) (normValue ((s.started x p o).pt (fieldOf d.w2 15 0)).fmt d.w3)).audit p ((s.started x p o).pt (fieldOf d.w2 15 0)).tag Cls.point (fieldOf d.w2 15 0) 0x02) x p o St.success 0 0)) ∧
  (∀ (x : HPort) (p : Part) (d : Desc) (o : Op) (s : State) (bs : List Byte) (t : State),
    s.mayStart x p d o = true →
    d.opcode = 0x03 →
    fieldOf d.w2 0 0 = 0 →
    d.buf 1 0 0 1 4096 = true →
    (s.started x p o).dmaRead x p d.addr (8 * d.len) = (some bs, t) →
    exec (.ptListRead x p d) s = (let r := t.listRead p (wordsOf bs) ListRun.empty;
      match (t.noteFirst p r.first).dmaWrite x p d.addr (wordsBytes r.words) with
      | (false, u) => .next (s.ends u x p o St.dmaError 0 0)
      | (true, u) => .next (s.ends u x p o St.success (wd r.ok) 0))) ∧
  (∀ (x : HPort) (p : Part) (d : Desc) (o : Op) (s : State) (bs : List Byte) (t : State),
    s.mayStart x p d o = true →
    d.opcode = 0x03 →
    fieldOf d.w2 0 0 = 1 →
    d.buf 1 0 0 1 4096 = true →
    (s.started x p o).active = true →
    (s.started x p o).dmaRead x p d.addr (8 * d.len) = (some bs, t) →
    exec (.ptListWrite x p d) s = (let r := listWrite p (wordsOf bs) ListRun.empty t;
      match (r.2.noteFirst p r.1.first).dmaWrite x p d.addr (wordsBytes r.1.words) with
      | (false, u) => .next (s.ends u x p o St.dmaError 0 0)
      | (true, u) => .next (s.ends u x p o St.success (wd r.1.ok) 0))) ∧
  (∀ (x : HPort) (p : Part) (d : Desc) (o : Op) (s : State),
    s.mayStart x p d o = true →
    d.opcode = 0x04 →
    fieldOf d.w2 31 31 = 0 →
    d.clean 0x8000FFFF 0 0 0 0 0 = true →
    (s.started x p o).filterRead p ((s.started x p o).ptTag (fieldOf d.w2 15 0)) Cls.point (fieldOf d.w2 15 0) = St.success →
    (s.started x p o).active = true →
    (s.started x p o).ptx.subs.any (fun b => b.isFor x p (fieldOf d.w2 15 0)) = false →
    (s.started x p o).subUse p < (s.started x p o).rf (F.PTX_QUOTA_SQ p) →
    exec (.ptSub x p d) s = (let v := (s.started x p o).readValue (fieldOf d.w2 15 0) false; let q := (s.started x p o).quality (fieldOf d.w2 15 0);
      let b : Sub := { port := x, part := p, point := fieldOf d.w2 15 0, value := v, qual := q.toNat % 256 };
      .next (s.ends ({ (s.started x p o) with ptx := { (s.started x p o).ptx with subs := (s.started x p o).ptx.subs ++ [b] } }) x p o St.success v q))) ∧
  (∀ (x : HPort) (p : Part) (d : Desc) (o : Op) (s : State),
    s.mayStart x p d o = true →
    d.opcode = 0x04 →
    fieldOf d.w2 31 31 = 0 →
    d.clean 0x8000FFFF 0 0 0 0 0 = true →
    (s.started x p o).filterRead p ((s.started x p o).ptTag (fieldOf d.w2 15 0)) Cls.point (fieldOf d.w2 15 0) = St.success →
    (s.started x p o).active = true →
    (s.started x p o).ptx.subs.any (fun b => b.isFor x p (fieldOf d.w2 15 0)) = true →
    exec (.ptSub x p d) s = (let v := (s.started x p o).readValue (fieldOf d.w2 15 0) false; let q := (s.started x p o).quality (fieldOf d.w2 15 0);
      let b : Sub := { port := x, part := p, point := fieldOf d.w2 15 0, value := v, qual := q.toNat % 256 };
      .next (s.ends ({ (s.started x p o) with ptx := { (s.started x p o).ptx with subs := (s.started x p o).ptx.subs.map (fun c => if c.isFor x p (fieldOf d.w2 15 0) then b else c) } }) x p o St.success v q))) ∧
  (∀ (x : HPort) (p : Part) (d : Desc) (o : Op) (s : State),
    s.mayStart x p d o = true →
    d.opcode = 0x04 →
    fieldOf d.w2 31 31 = 1 →
    d.clean 0x8000FFFF 0 0 0 0 0 = true →
    (s.started x p o).filterRead p ((s.started x p o).ptTag (fieldOf d.w2 15 0)) Cls.point (fieldOf d.w2 15 0) = St.success →
    (s.started x p o).active = true →
    exec (.ptSubCancel x p d) s = .next (s.ends ({ (s.started x p o) with ptx := { (s.started x p o).ptx with subs := (s.started x p o).ptx.subs.filter (fun b => !b.isFor x p (fieldOf d.w2 15 0)) } }) x p o St.success 0 0))

/-- FORCE_SET, FORCE_CLR, FORCE_LIST and SNAPSHOT on permitted points. Outside the latch and publish windows of an
ACTIVE module: FORCE_SET of an input or output point without force, within the quota, stores the force with its
owner and its value in the point's format, reports 0x0A04, sets FORCECHG and ends with the partition's forces;
FORCE_CLR by the owner or by partition 0 removes it and ends with RESULT0 = 1; of a point without force it ends
SUCCESS with 0; with ALL it removes the partition's own forces and ends with their number. FORCE_LIST writes the
visible forces up to its limit and ends with those written and those visible. SNAPSHOT waits for the next publish
with the points its partition cannot read marked, counting one refusal if there is any. -/
def Obligations.ForcesAndSnapshots : Prop :=
  (∀ (x : HPort) (p : Part) (d : Desc) (o : Op) (s : State),
    s.mayStart x p d o = true →
    d.opcode = 0x05 →
    s.inWindow = false →
    d.clean 0xFFFF 0xFFFFFFFF 0 0 0 0 = true →
    (s.started x p o).filterWrite p ((s.started x p o).ptTag (fieldOf d.w2 15 0)) Cls.point (fieldOf d.w2 15 0) = St.success →
    (s.started x p o).active = true →
    ((s.started x p o).pt (fieldOf d.w2 15 0)).dir ≠ 0 →
    (s.started x p o).force (fieldOf d.w2 15 0) = none →
    (s.started x p o).forceUse p < (s.started x p o).rf (F.PTX_QUOTA_FQ p) →
    (s.started x p o).forceList.length < 4096 →
    exec (.forceSet x p d) s = (let i := fieldOf d.w2 15 0; let v := normValue ((s.started x p o).pt i).fmt d.w3;
      let f : Force := { owner := p, value := v, torn := false };
      let u := (((((s.started x p o).setForce i (some f)).report 0x0A04 ((s.started x p o).pt i).tag (wd i) (wd p) v).forceChg).audit p ((s.started x p o).pt i).tag Cls.point i 0x05);
      .next (s.ends u x p o St.success (wd (u.forceUse p)) 0))) ∧
  (∀ (x : HPort) (p : Part) (d : Desc) (o : Op) (s : State) (f : Force),
    s.mayStart x p d o = true →
    d.opcode = 0x06 →
    s.inWindow = false →
    d.clean 0x8000FFFF 0 0 0 0 0 = true →
    fieldOf d.w2 31 31 = 0 →
    (s.started x p o).filterWrite p ((s.started x p o).ptTag (fieldOf d.w2 15 0)) Cls.point (fieldOf d.w2 15 0) = St.success →
    (s.started x p o).active = true →
    (s.started x p o).force (fieldOf d.w2 15 0) = some f →
    p.val = 0 ∨ f.owner = p.val →
    exec (.forceClr x p d) s = .next (s.ends ((s.started x p o).clearForce p (fieldOf d.w2 15 0) f) x p o St.success 1 0)) ∧
  (∀ (x : HPort) (p : Part) (d : Desc) (o : Op) (s : State),
    s.mayStart x p d o = true →
    d.opcode = 0x06 →
    s.inWindow = false →
    d.clean 0x8000FFFF 0 0 0 0 0 = true →
    fieldOf d.w2 31 31 = 0 →
    (s.started x p o).filterWrite p ((s.started x p o).ptTag (fieldOf d.w2 15 0)) Cls.point (fieldOf d.w2 15 0) = St.success →
    (s.started x p o).active = true →
    (s.started x p o).force (fieldOf d.w2 15 0) = none →
    exec (.forceClr x p d) s = .next (s.ends (s.started x p o) x p o St.success 0 0)) ∧
  (∀ (x : HPort) (p : Part) (d : Desc) (o : Op) (s : State),
    s.mayStart x p d o = true →
    d.opcode = 0x06 →
    s.inWindow = false →
    d.clean 0x8000FFFF 0 0 0 0 0 = true →
    fieldOf d.w2 31 31 = 1 →
    (s.started x p o).active = true →
    exec (.forceClr x p d) s = (let own := (s.started x p o).forceList.filter (fun e => e.2.owner = p.val);
      .next (s.ends (own.foldl (fun t e => t.clearForce p e.1 e.2) (s.started x p o)) x p o St.success (wd own.length) 0))) ∧
  (∀ (x : HPort) (p : Part) (d : Desc) (o : Op) (s : State) (t : State),
    s.mayStart x p d o = true →
    d.opcode = 0x07 →
    d.buf 0 0 0 1 4096 = true →
    (s.started x p o).dmaWrite x p d.addr (wordsBytes ((((s.started x p o).forceList.filter (fun e => (s.started x p o).canRead p e.1)).take d.len).flatMap (fun e => [wd (e.1 + e.2.owner * 2 ^ 16), e.2.value]))) = (true, t) →
    exec (.forceList x p d) s = .next (s.ends t x p o St.success (wd (((s.started x p o).forceList.filter (fun e => (s.started x p o).canRead p e.1)).take d.len).length) (wd ((s.started x p o).forceList.filter (fun e => (s.started x p o).canRead p e.1)).length))) ∧
  (∀ (x : HPort) (p : Part) (d : Desc) (o : Op) (s : State),
    s.mayStart x p d o = true →
    d.opcode = 0x08 →
    d.clean 0xFFFF 0x1FFFF 0xFFFFFFFF 0xFFFFFFFF 0 0 = true →
    d.addr % 8 = 0 →
    1 ≤ fieldOf d.w3 16 0 →
    fieldOf d.w2 15 0 + fieldOf d.w3 16 0 ≤ 65536 →
    exec (.snapshot x p d) s = .next (let hidden := (List.range (fieldOf d.w3 16 0)).filterMap (fun k =>
        if (s.started x p o).canRead p (fieldOf d.w2 15 0 + k) then none else some (fieldOf d.w2 15 0 + k));
      let t := (s.started x p o).noteFirst p (hidden.head?.map (fun i => (i, St.noObject)));
      let k : SnapReq := { port := x, part := p, id := o.id, desc := d, hidden := hidden };
      { t with ptx := { t.ptx with snaps := t.ptx.snaps ++ [k] } }))

/-- Q_FLUSH, Q_STAT, REC_READ and MTR_READ on permitted objects. Q_FLUSH of an empty queue without a flush in
progress ends SUCCESS at once with FLUSHED set; of another it requests or joins the flush and waits for its end; an
operator's flush of a tenant's queue is audited. Q_STAT ends SUCCESS with the fill and the status bits; with CLR, on
a queue the partition may write, it clears OVR. REC_READ writes the records of the area from the number given on
that the partition's view shows, up to the count, and ends with their number and the view's head; records with a bad
CRC on the way are left out, counted in EVR_BADCRC and reported by EVR_STAT[4]. MTR_READ of a fitted metering engine
writes the circuit's data and ends with the frame number. -/
def Obligations.QueueAndDataCommands : Prop :=
  (∀ (x : HPort) (p : Part) (d : Desc) (o : Op) (s : State),
    s.mayStart x p d o = true →
    d.opcode = 0x10 →
    d.clean 0x3FF 0 0 0 0 0 = true →
    (s.started x p o).filterWrite p (some ((s.started x p o).queueTag (fieldOf d.w2 9 0))) Cls.queue (fieldOf d.w2 9 0) = St.success →
    s.flushRuns (fieldOf d.w2 9 0) = false →
    s.queue (fieldOf d.w2 9 0) = [] →
    exec (.qFlush x p d) s = .next (s.ends (((s.started x p o).requestFlush (fieldOf d.w2 9 0)).audit p ((s.started x p o).queueTag (fieldOf d.w2 9 0)) Cls.queue (fieldOf d.w2 9 0) 0x10) x p o St.success 0 0)) ∧
  (∀ (x : HPort) (p : Part) (d : Desc) (o : Op) (s : State),
    s.mayStart x p d o = true →
    d.opcode = 0x10 →
    d.clean 0x3FF 0 0 0 0 0 = true →
    (s.started x p o).filterWrite p (some ((s.started x p o).queueTag (fieldOf d.w2 9 0))) Cls.queue (fieldOf d.w2 9 0) = St.success →
    s.flushRuns (fieldOf d.w2 9 0) = true ∨ s.queue (fieldOf d.w2 9 0) ≠ [] →
    exec (.qFlush x p d) s = .next (let t := ((s.started x p o).requestFlush (fieldOf d.w2 9 0)).audit p ((s.started x p o).queueTag (fieldOf d.w2 9 0)) Cls.queue (fieldOf d.w2 9 0) 0x10;
      { t with pool := { t.pool with flushOps := t.pool.flushOps ++ [(fieldOf d.w2 9 0, x, p, o.id)] } })) ∧
  (∀ (x : HPort) (p : Part) (d : Desc) (o : Op) (s : State),
    s.mayStart x p d o = true →
    d.opcode = 0x11 →
    d.clean 0x800003FF 0 0 0 0 0 = true →
    fieldOf d.w2 31 31 = 0 →
    (s.started x p o).filterRead p (some ((s.started x p o).queueTag (fieldOf d.w2 9 0))) Cls.queue (fieldOf d.w2 9 0) = St.success →
    exec (.qStat x p d) s = .next (s.ends ((s.started x p o)) x p o St.success (wd ((s.started x p o).fill (fieldOf d.w2 9 0))) (wd (fieldOf ((s.started x p o).qstat (fieldOf d.w2 9 0)) 2 0)))) ∧
  (∀ (x : HPort) (p : Part) (d : Desc) (o : Op) (s : State),
    s.mayStart x p d o = true →
    d.opcode = 0x11 →
    d.clean 0x800003FF 0 0 0 0 0 = true →
    fieldOf d.w2 31 31 = 1 →
    (s.started x p o).filterWrite p (some ((s.started x p o).queueTag (fieldOf d.w2 9 0))) Cls.queue (fieldOf d.w2 9 0) = St.success →
    exec (.qStat x p d) s = .next (s.ends (((s.started x p o).setF (F.QPL_QSTAT_OVR (fieldOf d.w2 9 0)) 0).audit p ((s.started x p o).queueTag (fieldOf d.w2 9 0)) Cls.queue (fieldOf d.w2 9 0) 0x11) x p o St.success (wd ((s.started x p o).fill (fieldOf d.w2 9 0))) (wd (fieldOf ((s.started x p o).qstat (fieldOf d.w2 9 0)) 2 0)))) ∧
  (∀ (x : HPort) (p : Part) (d : Desc) (o : Op) (s : State) (ws : List Word) (bad : Nat) (t : State),
    s.mayStart x p d o = true →
    d.opcode = 0x18 →
    d.clean 0x1FFFF 0xFFFFFFFF 0xFFFFFFFF 0xFFFFFFFF 0 0 = true →
    d.addr % 8 = 0 →
    pickRecords p ((s.started x p o).viewHead p) d.w3.toNat (if fieldOf d.w2 16 16 = 1 then 8 else 0) ((s.started x p o).areaRecords (fieldOf d.w2 16 16 = 1)) (fieldOf d.w2 15 0) = (ws, bad) →
    (if bad = 0 then s.started x p o else ((s.started x p o).addSat F.EVR_BADCRC_CNT bad).raiseEvr 4).dmaWrite x p d.addr (wordsBytes ws) = (true, t) →
    exec (.recRead x p d) s = .next (s.ends t x p o St.success (wd (ws.length / 8)) (wd ((s.started x p o).viewHead p)))) ∧
  (∀ (x : HPort) (p : Part) (d : Desc) (o : Op) (s : State) (t : State),
    s.mayStart x p d o = true →
    d.opcode = 0x20 →
    d.buf 0x7F 0 0 144 7824 = true →
    (d.len - 144) % 80 = 0 →
    s.variant.lacks 14 = false →
    (s.started x p o).filterRead p ((s.started x p o).circuitTag (fieldOf d.w2 6 0)) Cls.circuit (fieldOf d.w2 6 0) = St.success →
    (s.started x p o).dmaWrite x p d.addr ((s.started x p o).meterBytes p (fieldOf d.w2 6 0) ((d.len - 144) / 80)) = (true, t) →
    exec (.mtrRead x p d) s = .next (s.ends t x p o St.success (wd ((s.started x p o).frameNo % 2 ^ 32)) 0))

/-- Logic tasks: assignment, region fill, load, verify, start, stop, status, dump, and the end of a turn. A
permitted assignment outside STOP sets BADVAL; in STOP the written fields are stored, but for those a limit keeps,
which sets BADVAL, and a changed LGE_TCFG assigns the task anew. A fill ends with FILL 0; LGE_SETCRC is computed. On
a task the partition may write with no fill in progress: LGE_LOAD in STOP stores the words within the region, clears
VERIFIED and ends with LEN and the orphan forces; VERIFY in STOP of a region whose CRC matches and that shows no
fault sets VERIFIED and ends with the CRC and the worst case; while ACTIVE, START in STOP of a verified task with a
budget of 8 or more puts it into RUN from its first due frame, START in RUN ends with the frame it has, STOP in STOP
ends with LGE_FC, STOP of a cycle in its turn waits, and any other STOP stops the task; STATUS and DUMP end with the
task's registers and image. A turn whose budget is spent ends, and a STOP that waited acts then; otherwise
TURN_BUDGET_EXHAUSTED changes nothing. -/
def Obligations.LogicTasksAndTurns : Prop :=
  (∀ (x : HPort) (t : Fin 16) (k : Fin 3) (v : Word) (s : State),
    s.mayWrite x 11 = true →
    s.taskState t ≠ 0 →
    exec (.lgeTaskAssign x t k v) s = .next s.badVal) ∧
  (∀ (x : HPort) (t : Fin 16) (k : Fin 3) (v : Word) (s : State),
    s.mayWrite x 11 = true →
    s.taskState t = 0 →
    exec (.lgeTaskAssign x t k v) s = .next (
      let off := if k.val = 0 then Reg.LGE_TCFG t else if k.val = 1 then Reg.LGE_TSCH t else Reg.LGE_TBUD t;
      let u := s.writeFields off v;
      let w := settleWord (fun w => s.taskFits t ((s.setReg off w).taskCfg t)) (s.reg off) (u.reg off) (taskTries k);
      let u := (u.setReg off w.1).badValIf w.2;
      (if u.reg (Reg.LGE_TCFG t) = s.reg (Reg.LGE_TCFG t) then u else u.reassign t (u.reg (Reg.LGE_TCFG t))).updBudget)) ∧
  (∀ (t : Fin 16) (s : State),
    exec (.regionFillComplete t) s = .next (s.setF (F.LGE_TSTAT_FILL t) 0)) ∧
  (∀ (s : State),
    exec .lgeSetcrcRecompute s = .next (s.setReg Reg.LGE_SETCRC (crc32Words s.lgeSetWords))) ∧
  (∀ (t : Nat) (s : State),
    s.lge.turn = some t →
    s.lge.window = true →
    s.rf (F.LGE_TBUD_BUDGET t) ≤ (s.task t).spent →
    (s.task t).stops = [] →
    exec .turnBudgetExhausted s = .next ((s.setTask t { s.task t with turned := true }).nextTurn)) ∧
  (∀ (t : Nat) (e : HPort × Machine.Part × Nat) (es : List (HPort × Machine.Part × Nat)) (s : State),
    s.lge.turn = some t →
    s.lge.window = true →
    s.rf (F.LGE_TBUD_BUDGET t) ≤ (s.task t).spent →
    (s.task t).stops = e :: es →
    exec .turnBudgetExhausted s = .next ((s.taskStop t e.2.1).nextTurn)) ∧
  (∀ (t : Nat) (s : State),
    s.lge.turn = none ∨ (s.lge.turn = some t ∧ (s.lge.window = false ∨ (s.task t).spent < s.rf (F.LGE_TBUD_BUDGET t))) →
    exec .turnBudgetExhausted s = .next s) ∧
  (∀ (x : HPort) (p : Part) (d : Desc) (o : Op) (s : State) (bs : List Byte) (t : State),
    s.mayStart x p d o = true →
    d.opcode = 0x28 →
    d.buf 0xF 0xFFFFFFFF 0 1 (2 ^ 32) = true →
    (s.started x p o).filterWrite p ((s.started x p o).taskTag (fieldOf d.w2 3 0)) Cls.task (fieldOf d.w2 3 0) = St.success →
    (s.started x p o).on (F.LGE_TSTAT_FILL (fieldOf d.w2 3 0)) = false →
    (s.started x p o).taskState (fieldOf d.w2 3 0) = 0 →
    d.w3.toNat + d.len ≤ (s.started x p o).regionLen (fieldOf d.w2 3 0) →
    (s.started x p o).dmaRead x p d.addr (4 * d.len) = (some bs, t) →
    exec (.lgeLoad x p d) s = (let k := fieldOf d.w2 3 0;
      let u : State := { t with lge := { t.lge with prog := Store.putList wordZero t.lge.prog (t.regionBase k + d.w3.toNat) (wordsOf bs) } };
      let u := (u.setF (F.LGE_TSTAT_VERIFIED k) 0).audit p ((s.started x p o).taskEvTag k) Cls.task k 0x28;
      .next (s.ends u x p o St.success (wd d.len) (wd (u.orphanForces k))))) ∧
  (∀ (x : HPort) (p : Part) (d : Desc) (o : Op) (s : State),
    s.mayStart x p d o = true →
    d.opcode = 0x29 →
    fieldOf d.w3 2 0 = 1 →
    d.clean 0xF 7 0 0 0 0xFFFFFFFF = true →
    (s.started x p o).filterWrite p ((s.started x p o).taskTag (fieldOf d.w2 3 0)) Cls.task (fieldOf d.w2 3 0) = St.success →
    (s.started x p o).on (F.LGE_TSTAT_FILL (fieldOf d.w2 3 0)) = false →
    (s.started x p o).taskState (fieldOf d.w2 3 0) = 0 →
    crc32Words ((s.started x p o).region (fieldOf d.w2 3 0)) = d.w7 →
    leastFault (lgeFaults (s.started x p o).nextPt (fieldOf d.w2 3 0) ((s.started x p o).taskEvTag (fieldOf d.w2 3 0)) ((s.started x p o).region (fieldOf d.w2 3 0))) = none →
    ∃ u, exec (.lgeVerify x p d) s = .next (s.ends u x p o St.success d.w7 (wd (worstCase ((s.started x p o).region (fieldOf d.w2 3 0))))) ∧
      u.on (F.LGE_TSTAT_VERIFIED (fieldOf d.w2 3 0)) = true) ∧
  (∀ (x : HPort) (p : Part) (d : Desc) (o : Op) (s : State),
    s.mayStart x p d o = true →
    d.opcode = 0x29 →
    fieldOf d.w3 2 0 = 2 →
    d.clean 0xF 7 0 0 0 0 = true →
    (s.started x p o).filterWrite p ((s.started x p o).taskTag (fieldOf d.w2 3 0)) Cls.task (fieldOf d.w2 3 0) = St.success →
    (s.started x p o).on (F.LGE_TSTAT_FILL (fieldOf d.w2 3 0)) = false →
    (s.started x p o).active = true →
    (s.started x p o).taskState (fieldOf d.w2 3 0) = 0 →
    (s.started x p o).on (F.LGE_TSTAT_VERIFIED (fieldOf d.w2 3 0)) = true →
    8 ≤ (s.started x p o).rf (F.LGE_TBUD_BUDGET (fieldOf d.w2 3 0)) →
    ∃ u, exec (.lgeStart x p d) s = .next (s.ends u x p o St.success (wd ((s.started x p o).firstDue (fieldOf d.w2 3 0))) 0) ∧
      u.taskState (fieldOf d.w2 3 0) = 1 ∧ (u.task (fieldOf d.w2 3 0)).startFc = (s.started x p o).firstDue (fieldOf d.w2 3 0)) ∧
  (∀ (x : HPort) (p : Part) (d : Desc) (o : Op) (s : State),
    s.mayStart x p d o = true →
    d.opcode = 0x29 →
    fieldOf d.w3 2 0 = 3 →
    d.clean 0xF 7 0 0 0 0 = true →
    (s.started x p o).filterWrite p ((s.started x p o).taskTag (fieldOf d.w2 3 0)) Cls.task (fieldOf d.w2 3 0) = St.success →
    (s.started x p o).on (F.LGE_TSTAT_FILL (fieldOf d.w2 3 0)) = false →
    (s.started x p o).active = true →
    (s.started x p o).taskState (fieldOf d.w2 3 0) ≠ 0 →
    (s.started x p o).taskState (fieldOf d.w2 3 0) ≠ 1 ∨ ((s.started x p o).task (fieldOf d.w2 3 0)).busy = false ∨ s.lge.turn ≠ some (fieldOf d.w2 3 0) →
    exec (.lgeStop x p d) s = (let k := fieldOf d.w2 3 0; let u := ((s.started x p o).audit p ((s.started x p o).taskEvTag k) Cls.task k 0x29).taskStop k p;
      .next (s.ends u x p o St.success (wd u.lgeFc) 0))) ∧
  (∀ (x : HPort) (p : Part) (d : Desc) (o : Op) (s : State),
    s.mayStart x p d o = true →
    d.opcode = 0x29 →
    fieldOf d.w3 2 0 = 3 →
    d.clean 0xF 7 0 0 0 0 = true →
    (s.started x p o).filterWrite p ((s.started x p o).taskTag (fieldOf d.w2 3 0)) Cls.task (fieldOf d.w2 3 0) = St.success →
    (s.started x p o).on (F.LGE_TSTAT_FILL (fieldOf d.w2 3 0)) = false →
    (s.started x p o).active = true →
    (s.started x p o).taskState (fieldOf d.w2 3 0) = 1 →
    ((s.started x p o).task (fieldOf d.w2 3 0)).busy = true →
    s.lge.turn = some (fieldOf d.w2 3 0) →
    exec (.lgeStop x p d) s = .next (let k := fieldOf d.w2 3 0; let u := (s.started x p o).audit p ((s.started x p o).taskEvTag k) Cls.task k 0x29;
      u.setTask k { u.task k with stops := (u.task k).stops ++ [(x, p, o.id)] })) ∧
  (∀ (x : HPort) (p : Part) (d : Desc) (o : Op) (s : State),
    s.mayStart x p d o = true →
    d.opcode = 0x29 →
    fieldOf d.w3 2 0 = 3 →
    d.clean 0xF 7 0 0 0 0 = true →
    (s.started x p o).filterWrite p ((s.started x p o).taskTag (fieldOf d.w2 3 0)) Cls.task (fieldOf d.w2 3 0) = St.success →
    (s.started x p o).on (F.LGE_TSTAT_FILL (fieldOf d.w2 3 0)) = false →
    (s.started x p o).active = true →
    (s.started x p o).taskState (fieldOf d.w2 3 0) = 0 →
    exec (.lgeStop x p d) s = .next (s.ends (s.started x p o) x p o St.success (wd (s.started x p o).lgeFc) 0)) ∧
  (∀ (x : HPort) (p : Part) (d : Desc) (o : Op) (s : State),
    s.mayStart x p d o = true →
    d.opcode = 0x29 →
    fieldOf d.w3 2 0 = 2 →
    d.clean 0xF 7 0 0 0 0 = true →
    (s.started x p o).filterWrite p ((s.started x p o).taskTag (fieldOf d.w2 3 0)) Cls.task (fieldOf d.w2 3 0) = St.success →
    (s.started x p o).on (F.LGE_TSTAT_FILL (fieldOf d.w2 3 0)) = false →
    (s.started x p o).active = true →
    (s.started x p o).taskState (fieldOf d.w2 3 0) = 1 →
    exec (.lgeStart x p d) s = .next (s.ends (s.started x p o) x p o St.success (wd ((s.started x p o).task (fieldOf d.w2 3 0)).startFc) 0)) ∧
  (∀ (x : HPort) (p : Part) (d : Desc) (o : Op) (s : State),
    s.mayStart x p d o = true →
    d.opcode = 0x29 →
    fieldOf d.w3 2 0 = 4 →
    d.clean 0xF 7 0 0 0 0 = true →
    (s.started x p o).filterWrite p ((s.started x p o).taskTag (fieldOf d.w2 3 0)) Cls.task (fieldOf d.w2 3 0) = St.success →
    (s.started x p o).on (F.LGE_TSTAT_FILL (fieldOf d.w2 3 0)) = false →
    exec (.lgeStatus x p d) s = .next (s.ends ((s.started x p o)) x p o St.success ((s.started x p o).reg (Reg.LGE_TSTAT (fieldOf d.w2 3 0))) ((s.started x p o).reg (Reg.LGE_TOVR (fieldOf d.w2 3 0))))) ∧
  (∀ (x : HPort) (p : Part) (d : Desc) (o : Op) (s : State) (t : State),
    s.mayStart x p d o = true →
    d.opcode = 0x29 →
    fieldOf d.w3 2 0 = 5 →
    d.buf 0xF 7 0 4624 4624 = true →
    (s.task (fieldOf d.w2 3 0)).busy = false →
    (s.started x p o).filterWrite p ((s.started x p o).taskTag (fieldOf d.w2 3 0)) Cls.task (fieldOf d.w2 3 0) = St.success →
    (s.started x p o).on (F.LGE_TSTAT_FILL (fieldOf d.w2 3 0)) = false →
    (s.started x p o).dmaWrite x p d.addr ((s.started x p o).taskDump (fieldOf d.w2 3 0)) = (true, t) →
    exec (.lgeDump x p d) s = .next (s.ends t x p o St.success 4624 (wd t.lgeFc)))

/-- CLE_LOAD and CLE_CTL: load, enable, disable, inject and capture. On slots the partition may write and, but for
the load and the capture read, on an ACTIVE module: CLE_LOAD of 1 to 256 entries without a fault stores them in
order and ends SUCCESS with their number. Enable of a loaded slot that is OFF puts it into RUN with d = 0 and ends
with its first sample, which lies after the current tick; of a slot in RUN it ends with the first sample it has.
Disable of a slot that is OFF ends with CLE_TC; of one in RUN it waits for the next tick; of one in FAULT it puts it
OFF. Inject start in RUN without an injection stores its descriptor and ends with the first sample and the samples
it lasts; inject stop marks it stopped and ends with the samples so far, or ends with 0 where there is none. Capture
start in RUN, with no capture of the slot's partition running and segments enough, begins one and ends with its
first sample, all ones for one that waits for an injection, and its samples. Capture read writes the samples
captured, up to LEN bytes. -/
def Obligations.LoopSlotCommands : Prop :=
  (∀ (x : HPort) (p : Part) (d : Desc) (o : Op) (s : State) (bs : List Byte) (t : State),
    s.mayStart x p d o = true →
    d.opcode = 0x2C →
    d.clean 0xFF 0x1FF 0xFFFFFFFF 0xFFFFFFFF 0 0 = true →
    d.addr % 8 = 0 →
    1 ≤ fieldOf d.w3 8 0 →
    fieldOf d.w3 8 0 ≤ 256 →
    fieldOf d.w2 7 0 + fieldOf d.w3 8 0 ≤ 256 →
    (s.started x p o).slotRefused p (fieldOf d.w2 7 0) (fieldOf d.w3 8 0) = none →
    (s.started x p o).dmaRead x p d.addr (80 * fieldOf d.w3 8 0) = (some bs, t) →
    t.firstBad (fun j => if fieldOf d.w2 7 0 ≤ j && j < fieldOf d.w2 7 0 + fieldOf d.w3 8 0 then (entriesOf (fieldOf d.w3 8 0) (wordsOf bs)).getD (j - fieldOf d.w2 7 0) [] else if t.on (F.CLE_SSTAT_LOADED j) then (t.slot j).newest else []) (fieldOf d.w2 7 0) (entriesOf (fieldOf d.w3 8 0) (wordsOf bs)) = none →
    exec (.cleLoad x p d) s = .next (s.ends (forUpto (fieldOf d.w3 8 0) t (fun k u => u.storeEntry p (fieldOf d.w2 7 0 + k) ((entriesOf (fieldOf d.w3 8 0) (wordsOf bs)).getD k []))) x p o St.success (wd (fieldOf d.w3 8 0)) 0)) ∧
  (∀ (x : HPort) (p : Part) (d : Desc) (o : Op) (s : State),
    s.mayStart x p d o = true →
    d.opcode = 0x2D →
    fieldOf d.w3 3 0 = 1 →
    d.clean 0xFF 0xF 0 0 0 0 = true →
    (s.started x p o).filterWrite p ((s.started x p o).slotTag (fieldOf d.w2 7 0)) Cls.loop (fieldOf d.w2 7 0) = St.success →
    (s.started x p o).active = true →
    (s.started x p o).slotState (fieldOf d.w2 7 0) = 1 →
    exec (.cleEnable x p d) s = .next (s.ends (s.started x p o) x p o St.success (wd ((s.started x p o).slot (fieldOf d.w2 7 0)).firstTc) 0)) ∧
  (∀ (x : HPort) (p : Part) (d : Desc) (o : Op) (s : State),
    s.mayStart x p d o = true →
    d.opcode = 0x2D →
    fieldOf d.w3 3 0 = 1 →
    d.clean 0xFF 0xF 0 0 0 0 = true →
    (s.started x p o).filterWrite p ((s.started x p o).slotTag (fieldOf d.w2 7 0)) Cls.loop (fieldOf d.w2 7 0) = St.success →
    (s.started x p o).active = true →
    (s.started x p o).slotState (fieldOf d.w2 7 0) = 0 →
    (s.started x p o).on (F.CLE_SSTAT_LOADED (fieldOf d.w2 7 0)) = true →
    ∃ u n, exec (.cleEnable x p d) s = .next (s.ends u x p o St.success (wd n) 0) ∧ u.slotState (fieldOf d.w2 7 0) = 1 ∧ (s.started x p o).cle.tc < n ∧
      (u.slot (fieldOf d.w2 7 0)).firstTc = n ∧ (u.slot (fieldOf d.w2 7 0)).dPrev = 0) ∧
  (∀ (x : HPort) (p : Part) (d : Desc) (o : Op) (s : State),
    s.mayStart x p d o = true →
    d.opcode = 0x2D →
    fieldOf d.w3 3 0 = 2 →
    d.clean 0xFF 0xF 0 0 0 0 = true →
    (s.started x p o).filterWrite p ((s.started x p o).slotTag (fieldOf d.w2 7 0)) Cls.loop (fieldOf d.w2 7 0) = St.success →
    (s.started x p o).active = true →
    (s.started x p o).slotState (fieldOf d.w2 7 0) = 0 →
    exec (.cleDisable x p d) s = .next (s.ends (s.started x p o) x p o St.success (wd (s.started x p o).cle.tc) 0)) ∧
  (∀ (x : HPort) (p : Part) (d : Desc) (o : Op) (s : State),
    s.mayStart x p d o = true →
    d.opcode = 0x2D →
    fieldOf d.w3 3 0 = 2 →
    d.clean 0xFF 0xF 0 0 0 0 = true →
    (s.started x p o).filterWrite p ((s.started x p o).slotTag (fieldOf d.w2 7 0)) Cls.loop (fieldOf d.w2 7 0) = St.success →
    (s.started x p o).active = true →
    2 ≤ (s.started x p o).slotState (fieldOf d.w2 7 0) →
    exec (.cleDisable x p d) s = (let i := fieldOf d.w2 7 0;
      .next (s.ends ((((s.started x p o).audit p ((s.started x p o).slotEvTag i) Cls.loop i 0x2D).outSrcFlt i false).slotMove i 0 p) x p o St.success (wd (s.started x p o).cle.tc) 0))) ∧
  (∀ (x : HPort) (p : Part) (d : Desc) (o : Op) (s : State),
    s.mayStart x p d o = true →
    d.opcode = 0x2D →
    fieldOf d.w3 3 0 = 2 →
    d.clean 0xFF 0xF 0 0 0 0 = true →
    (s.started x p o).filterWrite p ((s.started x p o).slotTag (fieldOf d.w2 7 0)) Cls.loop (fieldOf d.w2 7 0) = St.success →
    (s.started x p o).active = true →
    (s.started x p o).slotState (fieldOf d.w2 7 0) = 1 →
    exec (.cleDisable x p d) s = .next (let i := fieldOf d.w2 7 0; let k := (s.started x p o).slot i;
      ((s.started x p o).audit p ((s.started x p o).slotEvTag i) Cls.loop i 0x2D).setSlot i { k with stops := k.stops ++ [(x, p, o.id)] })) ∧
  (∀ (x : HPort) (p : Part) (d : Desc) (o : Op) (s : State) (bs : List Byte) (t : State),
    s.mayStart x p d o = true →
    d.opcode = 0x2D →
    fieldOf d.w3 3 0 = 3 →
    d.buf 0xFF 0xF 0 32 32 = true →
    (s.started x p o).filterWrite p ((s.started x p o).slotTag (fieldOf d.w2 7 0)) Cls.loop (fieldOf d.w2 7 0) = St.success →
    (s.started x p o).active = true →
    (s.started x p o).slotState (fieldOf d.w2 7 0) = 1 →
    ((s.started x p o).slot (fieldOf d.w2 7 0)).inj = none →
    (s.started x p o).dmaRead x p d.addr 32 = (some bs, t) →
    injOk (entT ((s.started x p o).slot (fieldOf d.w2 7 0)).entry) (wordsOf bs) = true →
    ∃ u, exec (.cleInjectStart x p d) s = .next (s.ends u x p o St.success (wd ((s.started x p o).upcoming (fieldOf d.w2 7 0)))
        (match injTotal (entT ((s.started x p o).slot (fieldOf d.w2 7 0)).entry) (wordsOf bs) with
          | some m => wd m
          | none => 0xFFFFFFFF)) ∧
      u.on (F.CLE_SSTAT_INJ (fieldOf d.w2 7 0)) = true ∧
      (u.slot (fieldOf d.w2 7 0)).inj = some { desc := wordsOf bs, start := (s.started x p o).upcoming (fieldOf d.w2 7 0), n := 0, lfsr := 0x7FFF, k := 0, m := 0, stopped := false }) ∧
  (∀ (x : HPort) (p : Part) (d : Desc) (o : Op) (s : State),
    s.mayStart x p d o = true →
    d.opcode = 0x2D →
    fieldOf d.w3 3 0 = 4 →
    d.clean 0xFF 0xF 0 0 0 0 = true →
    (s.started x p o).filterWrite p ((s.started x p o).slotTag (fieldOf d.w2 7 0)) Cls.loop (fieldOf d.w2 7 0) = St.success →
    (s.started x p o).active = true →
    ((s.started x p o).slot (fieldOf d.w2 7 0)).inj = none →
    exec (.cleInjectStop x p d) s = .next (s.ends (s.started x p o) x p o St.success 0 0)) ∧
  (∀ (x : HPort) (p : Part) (d : Desc) (o : Op) (s : State) (j : Inj),
    s.mayStart x p d o = true →
    d.opcode = 0x2D →
    fieldOf d.w3 3 0 = 4 →
    d.clean 0xFF 0xF 0 0 0 0 = true →
    (s.started x p o).filterWrite p ((s.started x p o).slotTag (fieldOf d.w2 7 0)) Cls.loop (fieldOf d.w2 7 0) = St.success →
    (s.started x p o).active = true →
    ((s.started x p o).slot (fieldOf d.w2 7 0)).inj = some j →
    exec (.cleInjectStop x p d) s = (let i := fieldOf d.w2 7 0; let k := (s.started x p o).slot i;
      .next (s.ends (((s.started x p o).setSlot i { k with inj := some { j with stopped := true } }).audit p ((s.started x p o).slotEvTag i) Cls.loop i 0x2D) x p o St.success (wd j.n) 0))) ∧
  (∀ (x : HPort) (p : Part) (d : Desc) (o : Op) (s : State) (bs : List Byte) (t : State),
    s.mayStart x p d o = true →
    d.opcode = 0x2D →
    fieldOf d.w3 3 0 = 5 →
    d.buf 0xFF 0xF 0 16 16 = true →
    (s.started x p o).filterWrite p ((s.started x p o).slotTag (fieldOf d.w2 7 0)) Cls.loop (fieldOf d.w2 7 0) = St.success →
    (s.started x p o).active = true →
    (s.started x p o).slotState (fieldOf d.w2 7 0) = 1 →
    (∀ c, (s.started x p o).capOf ((s.started x p o).slotEvTag (fieldOf d.w2 7 0)) = some c → c.running = false) →
    (s.started x p o).dmaRead x p d.addr 16 = (some bs, t) →
    capOk (wordsOf bs) = true →
    entF (wordsOf bs) 2 14 0 ≤ 1024 * ((s.started x p o).segsOf ((s.started x p o).slotEvTag (fieldOf d.w2 7 0))).length →
    ∃ u, exec (.cleCaptureStart x p d) s = .next (s.ends u x p o St.success
        (if entF (wordsOf bs) 0 16 16 = 1 then 0xFFFFFFFF else wd ((s.started x p o).upcoming (fieldOf d.w2 7 0))) (wd (entF (wordsOf bs) 2 14 0))) ∧
      u.on (F.CLE_SSTAT_CAP (fieldOf d.w2 7 0)) = true ∧ (∃ c ∈ u.cle.caps, c.slot = fieldOf d.w2 7 0 ∧ c.running = true ∧ c.data = [])) ∧
  (∀ (x : HPort) (p : Part) (d : Desc) (o : Op) (s : State) (data : List (List Word)) (t : State),
    s.mayStart x p d o = true →
    d.opcode = 0x2D →
    fieldOf d.w3 3 0 = 6 →
    d.buf 0xFF 0xF 0 0 0xFFFFFFFF = true →
    d.len % 16 = 0 →
    (s.started x p o).filterWrite p ((s.started x p o).slotTag (fieldOf d.w2 7 0)) Cls.loop (fieldOf d.w2 7 0) = St.success →
    (match (s.started x p o).capOf ((s.started x p o).slotEvTag (fieldOf d.w2 7 0)) with
      | some c => c.data
      | none => []) = data →
    (s.started x p o).dmaWrite x p d.addr (wordsBytes ((data.take (d.len / 16)).flatMap id)) = (true, t) →
    exec (.cleCaptureRead x p d) s = .next (s.ends t x p o St.success (wd (wordsBytes ((data.take (d.len / 16)).flatMap id)).length) (wd data.length)))

/-- Loop slots: assignment, capture segments, the time count, the set CRC, the phases of a base tick, and a sample's
law. A permitted write of CLE_SCFG to a slot that is OFF is stored, and where it changes the word the slot is
cleared and 0x0C05 reported; to another slot it sets BADVAL. A permitted write of CLE_CAPSEG with no reserved bit
stores it, and no capture is left that uses a segment whose tag changed. A read of CLE_TCL shows the low half and
keeps the high half for its port; in block reset it is a Completer Abort. CLE_SETCRC covers assignments and entries.
CLE_COMPUTE computes every slot that took a sample, CLE_OUTPUT_WRITE writes every output, in ascending order. For a
slot that took values without a cause, without cascade and without injection: if every result is finite and no
following error faults it, CLE_SOUT takes u limited to the output range and the slot keeps i, d, the process value
and the set points as the law gives them; a following error too long faults it with cause 1, a result not finite
with cause 3. -/
def Obligations.LoopRegistersAndSamples : Prop :=
  (∀ (x : HPort) (i : Fin 256) (v : Word) (s : State),
    s.mayWrite x 12 = true →
    exec (.slotAssign x i v) s = .next (if s.slotState i ≠ 0 then s.badVal else
      let t := s.writeFields (Reg.CLE_SCFG i) v;
      if s.reg (Reg.CLE_SCFG i) = t.reg (Reg.CLE_SCFG i) then t
      else (t.clearSlot i).report 0x0C05 0 (wd i) (t.reg (Reg.CLE_SCFG i)) 0)) ∧
  (∀ (x : HPort) (j : Fin 4) (v : Word) (s : State),
    s.mayWrite x 12 = true →
    exec (.captureSegmentTag x j v) s = .next (s.writeCapSeg j v)) ∧
  (∀ (j : Fin 4) (v : Word) (s : State),
    v.toNat &&& 0x7F7F7F7F = v.toNat →
    (s.writeCapSeg j v).reg (Reg.CLE_CAPSEG j) = v ∧
      ∀ c ∈ (s.writeCapSeg j v).cle.caps, ∀ g ∈ c.segs, g / 4 = j.val →
        (s.writeCapSeg j v).rf (segTagF g) = s.rf (segTagF g)) ∧
  (∀ (x : HPort) (s : State),
    s.inReset 12 = false →
    exec (.cleTclRead x) s = .next ((s.snapTc x).showRead x Reg.CLE_TCL 4 (wd s.cle.tc)) ∧ (s.snapTc x).tcSnap x = wd (s.cle.tc / 2 ^ 32)) ∧
  (∀ (x : HPort) (s : State),
    s.inReset 12 = true →
    exec (.cleTclRead x) s = .next (s.emit (.completerAbort x Reg.CLE_TCL))) ∧
  (∀ (s : State),
    exec .cleSetcrcRecompute s = .next (s.setReg Reg.CLE_SETCRC (crc32Words s.cleSetWords))) ∧
  (∀ (s : State),
    exec .cleCompute s = .next (forUpto 256 s (fun i t => t.computeSlot i)) ∧
      exec .cleOutputWrite s = .next (forUpto 256 s (fun i t => t.writeSlot i))) ∧
  (∀ (i : Fin 256) (v : LoopIn) (s : State),
    (s.slot i).taken = some v →
    v.cause = 0 →
    entSpSrc (s.slot i).entry ≠ 1 →
    (s.slot i).inj = none →
    (let r := loopLaw (s.slot i).entry (s.slot i) (s.rf (F.CLE_SSTAT_SAT i)) v 0 0;
      (r.ok = true → s.followFault i (s.slot i).entry r.e = false →
        (s.computeSlot i).reg (Reg.CLE_SOUT i) = r.u ∧ ((s.computeSlot i).slot i).iPrev = r.i ∧
        ((s.computeSlot i).slot i).dPrev = r.d ∧ ((s.computeSlot i).slot i).pvPrev = v.pv ∧
        ((s.computeSlot i).slot i).sp1 = v.sp ∧ ((s.computeSlot i).slot i).sp2 = (s.slot i).sp1) ∧
      (r.ok = true → s.followFault i (s.slot i).entry r.e = true →
        (s.computeSlot i).slotState i = 2 ∧ (s.computeSlot i).rf (F.CLE_SSTAT_FCAUSE i) = 1) ∧
      (r.ok = false → (s.computeSlot i).slotState i = 2 ∧ (s.computeSlot i).rf (F.CLE_SSTAT_FCAUSE i) = 3)))

/-- CFG_LOAD of a point table, an exchange schedule, a station table, a queue configuration and a field port table.
With SEM0, partition 0, a readable image whose CRC-32 is word 7 and which breaks no rule, the command ends SUCCESS
with RESULT0 all ones. The point table, the schedule, the stations and the queue configuration wait for their
boundary; a point table also takes VERIFIED and LOADED from the tasks and slots, not in RUN, whose references it
breaks. The field port table's words are put into their registers in order. -/
def Obligations.ExchangeConfigurationLoads : Prop :=
  (∀ (x : HPort) (p : Part) (d : Desc) (o : Op) (s : State) (bs : List Byte) (t : State),
    s.mayStart x p d o = true →
    s.mayConfigure x p = true →
    d.opcode = 0x30 →
    fieldOf d.w2 7 0 = 0x01 →
    d.buf 0xFF 0 0xFFFFFFFF 0 4294967296 = true →
    24 ≤ d.len →
    d.len ≤ 1048584 →
    d.len % 16 = 8 →
    (s.started x p o).dmaRead x p d.addr d.len = (some bs, t) →
    crc32 bs = d.w7 →
    ((wordsOf bs).getD 0 0).toNat + ((wordsOf bs).getD 1 0).toNat ≤ 65536 →
    ((wordsOf bs).getD 0 0).toNat < 65536 →
    ((wordsOf bs).getD 1 0).toNat < 131072 →
    d.len = 8 + 16 * ((wordsOf bs).getD 1 0).toNat →
    (t.offenders ((wordsOf bs).getD 0 0).toNat (pointsOf ((wordsOf bs).drop 2))).min? = none →
    exec (.cfgLoadPointTable x p d) s = .next (
      let u : State := { t with ptx := { t.ptx with loads := t.ptx.loads ++ [.points ((wordsOf bs).getD 0 0).toNat (pointsOf ((wordsOf bs).drop 2))] } };
      s.ends u.unverify.unloadSlots x p o St.success 0xFFFFFFFF 0)) ∧
  (∀ (x : HPort) (p : Part) (d : Desc) (o : Op) (s : State) (bs : List Byte) (t : State),
    s.mayStart x p d o = true →
    s.mayConfigure x p = true →
    d.opcode = 0x30 →
    fieldOf d.w2 7 0 = 0x02 →
    d.buf 0xFF 0 0xFFFFFFFF 0 4294967296 = true →
    16 ≤ d.len →
    d.len ≤ 49156 →
    d.len % 12 = 4 →
    (s.started x p o).dmaRead x p d.addr d.len = (some bs, t) →
    crc32 bs = d.w7 →
    fieldOf ((wordsOf bs).getD 0 0) 31 28 = 0 →
    2 ≤ fieldOf ((wordsOf bs).getD 0 0) 27 24 →
    fieldOf ((wordsOf bs).getD 0 0) 23 16 ≠ 0 →
    d.len = 4 + 12 * fieldOf ((wordsOf bs).getD 0 0) 15 0 →
    t.firstBadEnt (stnsOf t.lastStations) (t.lastTable.filter (fun e => e.2.valid)) [] 0 (entsOf ((wordsOf bs).drop 1)) = none →
    (List.range 1024).findSome? (fun f => t.residueBad (stnsOf t.lastStations) (fieldOf ((wordsOf bs).getD 0 0) 23 16) f [] 0 (entsOf ((wordsOf bs).drop 1))) = none →
    exec (.cfgLoadExchangeSchedule x p d) s = .next (s.ends ({ t with ptx := { t.ptx with loads := t.ptx.loads ++ [.schedule (wordsOf bs)] } }) x p o St.success 0xFFFFFFFF 0)) ∧
  (∀ (x : HPort) (p : Part) (d : Desc) (o : Op) (s : State) (bs : List Byte) (t : State),
    s.mayStart x p d o = true →
    s.mayConfigure x p = true →
    d.opcode = 0x30 →
    fieldOf d.w2 7 0 = 0x03 →
    d.buf 0xFF 0 0xFFFFFFFF 0 4294967296 = true →
    16 ≤ d.len →
    d.len ≤ 32768 →
    d.len % 16 = 0 →
    (s.started x p o).dmaRead x p d.addr d.len = (some bs, t) →
    crc32 bs = d.w7 →
    t.firstBadStn [] 0 (stnsOf (wordsOf bs)) = none →
    (entsOf (t.lastSchedule.drop 1)).findIdx? (fun e => e.valid && !(stnsOf (wordsOf bs)).any (fun u => u.valid && u.epn = e.epn && u.port = e.port)) = none →
    exec (.cfgLoadStationTable x p d) s = .next (s.ends ({ t with ptx := { t.ptx with loads := t.ptx.loads ++ [.stations (wordsOf bs)] } }) x p o St.success 0xFFFFFFFF 0)) ∧
  (∀ (x : HPort) (p : Part) (d : Desc) (o : Op) (s : State) (bs : List Byte) (t : State),
    s.mayStart x p d o = true →
    s.mayConfigure x p = true →
    d.opcode = 0x30 →
    fieldOf d.w2 7 0 = 0x09 →
    d.buf 0xFF 0 0xFFFFFFFF 0 4294967296 = true →
    d.len = 8192 →
    (s.started x p o).dmaRead x p d.addr d.len = (some bs, t) →
    crc32 bs = d.w7 →
    (List.range 1024).find? (fun q => queueBad q (queueWords (wordsOf bs) q)) = none →
    sumQueues (fun q => fieldOf (queueWords (wordsOf bs) q).1 15 0) + t.rf F.QPL_RETIRED_CNT ≤ 65536 →
    exec (.cfgLoadQueueConfiguration x p d) s = .next (s.ends ({ t with pool := { t.pool with cfgPend := some (wordsOf bs) }, twn := { t.twn with crc09 := crc32Words (wordsOf bs) } }) x p o St.success 0xFFFFFFFF 0)) ∧
  (∀ (x : HPort) (p : Part) (d : Desc) (o : Op) (s : State) (bs : List Byte) (t : State),
    s.mayStart x p d o = true →
    s.mayConfigure x p = true →
    d.opcode = 0x30 →
    fieldOf d.w2 7 0 = 0x04 →
    d.buf 0xFF 0 0xFFFFFFFF 0 4294967296 = true →
    d.len = 8752 →
    (s.started x p o).dmaRead x p d.addr d.len = (some bs, t) →
    crc32 bs = d.w7 →
    (fieldImageRegs.zip (wordsOf bs)).findIdx? (fun e => t.fieldWordBad e.1 e.2) = none →
    exec (.cfgLoadFieldPortTable x p d) s = (let u := (fieldImageRegs.zip (wordsOf bs)).foldl (fun u e => u.applyFieldWord e) t;
      .next (s.ends ({ u with twn := { u.twn with crc04 := crc32Words (wordsOf bs) } }) x p o St.success 0xFFFFFFFF 0)))

/-- CFG_LOAD of the metering, display, CAN and RS-485, riser, twin, safety and chain images. With SEM0, partition 0,
a fitted unit, a readable image whose CRC-32 is word 7 and which breaks no rule: a circuit table, regions not in
use, waveforms of an idle panel, and the CAN and RS-485, riser and twin configurations wait to be applied; a safety
parameter set whose own CRC is right is stored by the island with event 0x0F07 at the configuration switch, and
otherwise, where it is the stored one, becomes the controller's copy; the chain table is stored. The command ends
SUCCESS with RESULT0 all ones. A calibration set's command waits until the set is applied. -/
def Obligations.UnitConfigurationLoads : Prop :=
  (∀ (x : HPort) (p : Part) (d : Desc) (o : Op) (s : State) (bs : List Byte) (t : State),
    s.mayStart x p d o = true →
    s.mayConfigure x p = true →
    d.opcode = 0x30 →
    fieldOf d.w2 7 0 = 0x05 →
    d.buf 0xFF 0 0xFFFFFFFF 0 4294967296 = true →
    d.len = 2304 →
    s.variant.lacks 14 = false →
    (s.started x p o).dmaRead x p d.addr d.len = (some bs, t) →
    crc32 bs = d.w7 →
    (List.range 72).find? (t.circBad (wordsOf bs) t.lastCal) = none →
    exec (.cfgLoadCircuitTable x p d) s = (let k := { t.mtr.kept with circImg := some (wordsOf bs, true) };
      .next (s.ends ({ t with mtr := { t.mtr with circPend := t.mtr.circPend ++ [wordsOf bs], kept := k } }) x p o St.success 0xFFFFFFFF 0))) ∧
  (∀ (x : HPort) (p : Part) (d : Desc) (o : Op) (s : State) (bs : List Byte) (t : State),
    s.mayStart x p d o = true →
    s.mayConfigure x p = true →
    d.opcode = 0x30 →
    fieldOf d.w2 7 0 = 0x06 →
    d.buf 0xFF 0 0xFFFFFFFF 0 4294967296 = true →
    d.len = 1280 →
    s.variant.lacks 14 = false →
    (s.started x p o).dmaRead x p d.addr d.len = (some bs, t) →
    crc32 bs = d.w7 →
    (List.range 80).find? (calBad (wordsOf bs) (usedChans t.mtr.circ)) = none →
    exec (.cfgLoadCalibrationSet x p d) s = .next (let k := { t.mtr.kept with calImg := some (wordsOf bs, true) };
      { t with mtr := { t.mtr with calPend := t.mtr.calPend ++ [(wordsOf bs, x, p, o.id)], kept := k } })) ∧
  (∀ (x : HPort) (p : Part) (d : Desc) (o : Op) (s : State) (bs : List Byte) (t : State),
    s.mayStart x p d o = true →
    s.mayConfigure x p = true →
    d.opcode = 0x30 →
    fieldOf d.w2 7 0 = 0x07 →
    d.buf 0xFF 0 0xFFFFFFFF 0 4294967296 = true →
    d.len = 512 →
    s.hasDisplay = true →
    (s.started x p o).dmaRead x p d.addr d.len = (some bs, t) →
    crc32 bs = d.w7 →
    (List.range 64).find? (fun r => t.regionBad (wordsOf bs) r) = none →
    (List.range 64).any (fun r => regionChanged t.lastRegions (wordsOf bs) r && t.regionBusy r) = false →
    exec (.cfgLoadRegionTable x p d) s = .next (s.ends (t.setDsp { t.dsp with regPend := some (wordsOf bs) }) x p o St.success 0xFFFFFFFF 0)) ∧
  (∀ (x : HPort) (p : Part) (d : Desc) (o : Op) (s : State) (bs : List Byte) (t : State),
    s.mayStart x p d o = true →
    s.mayConfigure x p = true →
    d.opcode = 0x30 →
    fieldOf d.w2 7 0 = 0x08 →
    d.buf 0xFF 0 0xFFFFFFFF 0 4294967296 = true →
    (List.range 16).any (fun k => d.len = 36 + 17408 * (k + 1)) = true →
    s.hasDisplay = true →
    (s.started x p o).dmaRead x p d.addr d.len = (some bs, t) →
    crc32 bs = d.w7 →
    waveFault (wordsOf bs) = none →
    t.panelBusy (fieldOf ((wordsOf bs).getD 0 0) 8 8) = false →
    exec (.cfgLoadWaveformTables x p d) s = .next (s.ends (t.setDsp { t.dsp with wavePend := Store.put noWordList t.dsp.wavePend (fieldOf ((wordsOf bs).getD 0 0) 8 8) (wordsOf bs) }) x p o St.success 0xFFFFFFFF 0)) ∧
  (∀ (x : HPort) (p : Part) (d : Desc) (o : Op) (s : State) (bs : List Byte) (t : State),
    s.mayStart x p d o = true →
    s.mayConfigure x p = true →
    d.opcode = 0x30 →
    fieldOf d.w2 7 0 = 0x0A →
    d.buf 0xFF 0 0xFFFFFFFF 0 4294967296 = true →
    d.len = 2208 →
    (s.started x p o).dmaRead x p d.addr d.len = (some bs, t) →
    crc32 bs = d.w7 →
    (List.range 552).find? (legacyBad (wordsOf bs)) = none →
    exec (.cfgLoadCanRs485Configuration x p d) s = .next (s.ends (t.setCan { t.can with img := some (wordsOf bs), imgPend := wordsOf bs, left := List.range 12 }) x p o St.success 0xFFFFFFFF 0)) ∧
  (∀ (x : HPort) (p : Part) (d : Desc) (o : Op) (s : State) (bs : List Byte) (t : State),
    s.mayStart x p d o = true →
    s.mayConfigure x p = true →
    d.opcode = 0x30 →
    fieldOf d.w2 7 0 = 0x0B →
    d.buf 0xFF 0 0xFFFFFFFF 0 4294967296 = true →
    d.len = 584 →
    (s.started x p o).dmaRead x p d.addr d.len = (some bs, t) →
    crc32 bs = d.w7 →
    (List.range 146).find? (t.riserWordBad (wordsOf bs)) = none →
    exec (.cfgLoadRiserConfiguration x p d) s = .next (s.ends (t.setRsr { t.rsr with img := some (wordsOf bs, true), imgPend := some (wordsOf bs) }) x p o St.success 0xFFFFFFFF 0)) ∧
  (∀ (x : HPort) (p : Part) (d : Desc) (o : Op) (s : State) (bs : List Byte) (t : State),
    s.mayStart x p d o = true →
    s.mayConfigure x p = true →
    d.opcode = 0x30 →
    fieldOf d.w2 7 0 = 0x0C →
    d.buf 0xFF 0 0xFFFFFFFF 0 4294967296 = true →
    d.len = 4 →
    (s.started x p o).dmaRead x p d.addr d.len = (some bs, t) →
    crc32 bs = d.w7 →
    wordOk Reg.TWN_CFG ((wordsOf bs).getD 0 0) = true →
    exec (.cfgLoadTwinConfiguration x p d) s = .next (s.ends (t.setTwn { t.twn with cfgKept := some ((wordsOf bs).getD 0 0), cfgPend := some ((wordsOf bs).getD 0 0) }) x p o St.success 0xFFFFFFFF 0)) ∧
  (∀ (x : HPort) (p : Part) (d : Desc) (o : Op) (s : State) (bs : List Byte) (t : State),
    s.mayStart x p d o = true →
    s.mayConfigure x p = true →
    d.opcode = 0x30 →
    fieldOf d.w2 7 0 = 0x0D →
    d.buf 0xFF 0 0xFFFFFFFF 0 4294967296 = true →
    d.len = 492 →
    s.hasIsland = true →
    (s.started x p o).dmaRead x p d.addr d.len = (some bs, t) →
    crc32 bs = d.w7 →
    (List.range 122).find? (t.setWordBad (wordsOf bs)) = none →
    crc32Words ((wordsOf bs).take 122) = (wordsOf bs).getD 122 0 →
    t.saf.selfTest = false ∨ t.saf.resetWait ≠ none →
    bitOf t.swNow.2 7 = true →
    exec (.cfgLoadSafetyParameterSet x p d) s = .next (s.ends (((t.setSafKept { t.saf.kept with set := wordsOf bs }).safEvent 0x0F07 ((wordsOf bs).getD 122 0) t.safCrc 0).safShow) x p o St.success 0xFFFFFFFF 0)) ∧
  (∀ (x : HPort) (p : Part) (d : Desc) (o : Op) (s : State) (bs : List Byte) (t : State),
    s.mayStart x p d o = true →
    s.mayConfigure x p = true →
    d.opcode = 0x30 →
    fieldOf d.w2 7 0 = 0x0D →
    d.buf 0xFF 0 0xFFFFFFFF 0 4294967296 = true →
    d.len = 492 →
    s.hasIsland = true →
    (s.started x p o).dmaRead x p d.addr d.len = (some bs, t) →
    crc32 bs = d.w7 →
    (List.range 122).find? (t.setWordBad (wordsOf bs)) = none →
    crc32Words ((wordsOf bs).take 122) = (wordsOf bs).getD 122 0 →
    t.saf.selfTest = false ∨ t.saf.resetWait ≠ none →
    bitOf t.swNow.2 7 = false →
    (wordsOf bs).getD 122 0 = t.safCrc →
    t.saf.kept.set ≠ [] →
    exec (.cfgLoadSafetyParameterSet x p d) s = .next (s.ends (((t.setSaf { t.saf with ctl := wordsOf bs }).paramOk true).safShow) x p o St.success 0xFFFFFFFF 0)) ∧
  (∀ (x : HPort) (p : Part) (d : Desc) (o : Op) (s : State) (bs : List Byte) (t : State),
    s.mayStart x p d o = true →
    s.mayConfigure x p = true →
    d.opcode = 0x30 →
    fieldOf d.w2 7 0 = 0x0E →
    d.buf 0xFF 0 0xFFFFFFFF 0 4294967296 = true →
    12 ≤ d.len →
    d.len ≤ 2052 →
    d.len % 8 = 4 →
    (s.started x p o).dmaRead x p d.addr d.len = (some bs, t) →
    crc32 bs = d.w7 →
    chainBad (d.len / 4) (wordsOf bs) = none →
    exec (.cfgLoadChainTable x p d) s = (let k := { t.upd.kept with table := wordsOf bs }; .next (s.ends (t.setUpd { t.upd with kept := k }) x p o St.success 0xFFFFFFFF 0)))

/-- KEY_STAGE, KEY_COMMIT and slot attributes: staged material, its check value, the commit, and erasure by new
attributes. On a slot the partition may write: KEY_STAGE of material of the slot's type with its own check value
fills the slot's shadow and ends SUCCESS; a wrong check value or a point off the curve empties the shadow, reports
event 0x1602 and ends VERIFY_FAIL. KEY_COMMIT of a full shadow makes it the key, empties the shadow, sets the use
count, stores a stored slot, reports event 0x1601 and gives the use count in RESULT0; of an empty shadow it ends
STATE. A command that ends SUCCESS or changes the slot is audited. A permitted write of KEY_SATTR with a defined
KTYPE stores the attributes, and erases the slot where EN, TAG, VOL, EXPR, CNTEN or KTYPE changes; an undefined
KTYPE is kept and sets BADVAL. -/
def Obligations.KeyStagingAndCommit : Prop :=
  (∀ (x : HPort) (p : Part) (d : Desc) (o : Op) (s : State) (bs : List Byte) (t : State),
    s.mayStart x p d o = true →
    d.opcode = 0x40 →
    d.buf 0xF3F 0 0 40 104 = true →
    keyLen (fieldOf d.w2 11 8) ≠ 0 →
    d.len = keyLen (fieldOf d.w2 11 8) + 8 →
    (s.started x p o).filterWrite p ((s.started x p o).keyTag d.keySlot) Cls.slot d.keySlot = St.success →
    (s.started x p o).ktype d.keySlot = fieldOf d.w2 11 8 →
    (s.started x p o).dmaRead x p d.addr d.len = (some bs, t) →
    exec (.keyStage x p d) s =
      (let m := bs.take (keyLen (fieldOf d.w2 11 8));
       if checkValue (fieldOf d.w2 11 8) m ≠ bs.drop (keyLen (fieldOf d.w2 11 8)) ∨
          (fieldOf d.w2 11 8 = 3 ∧ onP384 (natBE (m.take 48)) (natBE (m.drop 48)) = false) then
        .next (s.keyEnds (t.stageFails d.keySlot) x p d o St.verifyFail 0 0)
       else .next (s.keyEnds ((t.putSlot d.keySlot { t.slotKey d.keySlot with shadow := some m }).showSlot d.keySlot) x p d o St.success 0 0))) ∧
  (∀ (x : HPort) (p : Part) (d : Desc) (o : Op) (s : State) (m : List Byte),
    s.mayStart x p d o = true →
    d.opcode = 0x41 →
    d.clean 0x3F 0 0 0 0 0 = true →
    (s.started x p o).filterWrite p ((s.started x p o).keyTag d.keySlot) Cls.slot d.keySlot = St.success →
    ((s.started x p o).slotKey d.keySlot).shadow = some m →
    exec (.keyCommit x p d) s = (let t := (s.started x p o).commitKey d.keySlot m; .next (s.keyEnds t x p d o St.success (t.reg (Reg.KEY_SREM d.keySlot)) 0))) ∧
  (∀ (x : HPort) (p : Part) (d : Desc) (o : Op) (s : State),
    s.mayStart x p d o = true →
    d.opcode = 0x41 →
    d.clean 0x3F 0 0 0 0 0 = true →
    (s.started x p o).filterWrite p ((s.started x p o).keyTag d.keySlot) Cls.slot d.keySlot = St.success →
    ((s.started x p o).slotKey d.keySlot).shadow = none →
    exec (.keyCommit x p d) s = .next (s.ends (s.started x p o) x p o St.state 0 0)) ∧
  (∀ (s : State) (i : Nat) (m : List Byte),
    i < 64 →
    (s.commitKey i m).slotKey i = { key := some m, shadow := none } ∧
      (∀ j : Nat, j ≠ i → (s.commitKey i m).slotKey j = s.slotKey j) ∧
      (s.on (F.KEY_SATTR_CNTEN i) = true → (s.commitKey i m).reg (Reg.KEY_SREM i) = s.reg (Reg.KEY_SCNT i)) ∧
      (s.on (F.KEY_SATTR_CNTEN i) = false → (s.commitKey i m).reg (Reg.KEY_SREM i) = 0xFFFFFFFF) ∧
      (s.commitKey i m).on (F.KEY_SSTAT_SHADOW i) = false) ∧
  (∀ (x : HPort) (i : Fin 64) (v : Word) (s : State),
    s.mayWrite x 22 = true →
    fieldOf v 19 16 ≤ 3 →
    fieldOf v 19 16 ≠ 0 ∨ fieldOf v 31 31 = 0 →
    fieldOf v 31 21 = fieldOf (s.reg (Reg.KEY_SATTR i)) 31 21 →
    fieldOf v 19 16 = fieldOf (s.reg (Reg.KEY_SATTR i)) 19 16 →
    exec (.keySlotAttributeWrite x i v) s = .next ((s.setReg (Reg.KEY_SATTR i) (v &&& 0xFFEF3F00)).storeSlot i)) ∧
  (∀ (x : HPort) (i : Fin 64) (v : Word) (s : State),
    s.mayWrite x 22 = true →
    fieldOf v 19 16 ≤ 3 →
    fieldOf v 19 16 ≠ 0 ∨ fieldOf v 31 31 = 0 →
    fieldOf v 31 21 ≠ fieldOf (s.reg (Reg.KEY_SATTR i)) 31 21 ∨ fieldOf v 19 16 ≠ fieldOf (s.reg (Reg.KEY_SATTR i)) 19 16 →
    ∃ t, exec (.keySlotAttributeWrite x i v) s = .next t ∧
      t.slotKey i = { key := none, shadow := none } ∧ t.reg (Reg.KEY_SATTR i) = v &&& 0xFFEF3F00 ∧
      (∀ j : Fin 64, j ≠ i → t.reg (Reg.KEY_SATTR j) = s.reg (Reg.KEY_SATTR j))) ∧
  (∀ (x : HPort) (i : Fin 64) (v : Word) (s : State),
    s.mayWrite x 22 = true →
    3 < fieldOf v 19 16 ∨ (fieldOf v 19 16 = 0 ∧ fieldOf v 31 31 = 1) →
    fieldOf v 31 21 = fieldOf (s.reg (Reg.KEY_SATTR i)) 31 21 →
    exec (.keySlotAttributeWrite x i v) s = .next ((s.badVal.setReg (Reg.KEY_SATTR i)
      (withField v 19 16 (fieldOf (s.reg (Reg.KEY_SATTR i)) 19 16) &&& 0xFFEF3F00)).storeSlot i))

/-- KEY_OP: MAC, VERIFY, WRAP and UNWRAP with a usable key, DERIVE into the shadow, CHECK, STATUS and ERASE. On a
slot the partition may write: an operation with a usable key of its type reads LEN bytes, writes its output after
them rounded up to 8 bytes, counts one use and ends SUCCESS with the output's length; an unwrap that fails ends
VERIFY_FAIL and counts none. DERIVE with a well-formed input for the slot's type puts the derived key into the
shadow and writes its check value; CHECK writes the key's check value; STATUS writes the slot's status, use count
and TESTROOT; ERASE empties the slot and stores it. An output that cannot be written ends DMA_ERROR and counts no
use. But for CHECK and STATUS, one that ends SUCCESS or changes the slot is audited. With a count of 2 or more left,
one use takes 1 from it. -/
def Obligations.KeyOperations : Prop :=
  (∀ (x : HPort) (p : Part) (d : Desc) (o : Op) (s : State) (k bs : List Byte) (t : State),
    s.mayStart x p d o = true →
    d.opcode = 0x42 →
    fieldOf d.w3 3 0 = 1 →
    d.buf 0x3F 0xF 0 1 65536 = true →
    (s.started x p o).filterWrite p ((s.started x p o).keyTag d.keySlot) Cls.slot d.keySlot = St.success →
    (s.started x p o).keyUsable d.keySlot 2 0 = true →
    ((s.started x p o).slotKey d.keySlot).key = some k →
    (s.started x p o).dmaRead x p d.addr d.len = (some bs, t) →
    exec (.keyOpMac x p d) s = (match t.dmaWrite x p (d.addr + (d.len + 7) / 8 * 8) (hmac384 k bs) with
      | (false, u) => .next (s.keyEnds u x p d o St.dmaError 0 0)
      | (true, u) => .next (s.keyEnds (u.countUse d.keySlot) x p d o St.success (wd (hmac384 k bs).length) 0))) ∧
  (∀ (x : HPort) (p : Part) (d : Desc) (o : Op) (s : State) (k bs : List Byte) (t : State),
    s.mayStart x p d o = true →
    d.opcode = 0x42 →
    fieldOf d.w3 3 0 = 2 →
    d.buf 0x3F 0xF 0 144 144 = true →
    (s.started x p o).filterWrite p ((s.started x p o).keyTag d.keySlot) Cls.slot d.keySlot = St.success →
    (s.started x p o).keyUsable d.keySlot 3 1 = true →
    ((s.started x p o).slotKey d.keySlot).key = some k →
    (s.started x p o).dmaRead x p d.addr d.len = (some bs, t) →
    exec (.keyOpVerify x p d) s =
      (match t.dmaWrite x p (d.addr + 144)
          ((if ecdsaOk k (bs.take 48) ((bs.drop 48).take 48) (bs.drop 96) = true then 1 else 0) :: List.replicate 7 0) with
      | (false, u) => .next (s.keyEnds u x p d o St.dmaError 0 0)
      | (true, u) => .next (s.keyEnds (u.countUse d.keySlot) x p d o St.success 8 0))) ∧
  (∀ (x : HPort) (p : Part) (d : Desc) (o : Op) (s : State) (k bs : List Byte) (t : State),
    s.mayStart x p d o = true →
    d.opcode = 0x42 →
    fieldOf d.w3 3 0 = 3 →
    d.buf 0x3F 0xF 0 16 4096 = true →
    d.len % 8 = 0 →
    (s.started x p o).filterWrite p ((s.started x p o).keyTag d.keySlot) Cls.slot d.keySlot = St.success →
    (s.started x p o).keyUsable d.keySlot 1 2 = true →
    ((s.started x p o).slotKey d.keySlot).key = some k →
    (s.started x p o).dmaRead x p d.addr d.len = (some bs, t) →
    exec (.keyOpWrap x p d) s = (match t.dmaWrite x p (d.addr + d.len) (kwWrap k bs) with
      | (false, u) => .next (s.keyEnds u x p d o St.dmaError 0 0)
      | (true, u) => .next (s.keyEnds (u.countUse d.keySlot) x p d o St.success (wd (kwWrap k bs).length) 0))) ∧
  (∀ (x : HPort) (p : Part) (d : Desc) (o : Op) (s : State) (k bs : List Byte) (t : State),
    s.mayStart x p d o = true →
    d.opcode = 0x42 →
    fieldOf d.w3 3 0 = 4 →
    d.buf 0x3F 0xF 0 24 4104 = true →
    d.len % 8 = 0 →
    (s.started x p o).filterWrite p ((s.started x p o).keyTag d.keySlot) Cls.slot d.keySlot = St.success →
    (s.started x p o).keyUsable d.keySlot 1 3 = true →
    ((s.started x p o).slotKey d.keySlot).key = some k →
    (s.started x p o).dmaRead x p d.addr d.len = (some bs, t) →
    exec (.keyOpUnwrap x p d) s = (match kwUnwrap k bs with
      | none => .next (s.keyEnds t x p d o St.verifyFail 0 0)
      | some m => match t.dmaWrite x p (d.addr + d.len) m with
        | (false, u) => .next (s.keyEnds u x p d o St.dmaError 0 0)
        | (true, u) => .next (s.keyEnds (u.countUse d.keySlot) x p d o St.success (wd m.length) 0))) ∧
  (∀ (x : HPort) (p : Part) (d : Desc) (o : Op) (s : State) (bs : List Byte) (t : State),
    s.mayStart x p d o = true →
    d.opcode = 0x42 →
    fieldOf d.w3 3 0 = 5 →
    d.buf 0x3F 0xF 0 5 132 = true →
    (s.started x p o).filterWrite p ((s.started x p o).keyTag d.keySlot) Cls.slot d.keySlot = St.success →
    (s.started x p o).dmaRead x p d.addr d.len = (some bs, t) →
    1 ≤ (bs.getD 1 0).toNat →
    (bs.getD 1 0).toNat ≤ 64 →
    (bs.getD 2 0).toNat ≤ 64 →
    bs.getD 3 0 = 0 →
    bs.length = 4 + (bs.getD 1 0).toNat + (bs.getD 2 0).toNat →
    (bs.getD 0 0).toNat = 1 ∨ (bs.getD 0 0).toNat = 2 →
    t.ktype d.keySlot = (bs.getD 0 0).toNat →
    exec (.keyOpDerive x p d) s =
      (let m := kdf t.rootKey ((bs.drop 4).take (bs.getD 1 0).toNat)
          ((bs.drop (4 + (bs.getD 1 0).toNat)).take (bs.getD 2 0).toNat ++ [BitVec.ofNat 8 (t.rf (F.KEY_SATTR_TAG d.keySlot))])
          (if (bs.getD 0 0).toNat = 1 then 256 else 384);
      match ((t.putSlot d.keySlot { t.slotKey d.keySlot with shadow := some m }).showSlot d.keySlot).dmaWrite x p
          (d.addr + (d.len + 7) / 8 * 8) (checkValue (bs.getD 0 0).toNat m) with
      | (false, u) => .next (s.keyEnds u x p d o St.dmaError 0 0)
      | (true, u) => .next (s.keyEnds u x p d o St.success (wd (checkValue (bs.getD 0 0).toNat m).length) 0))) ∧
  (∀ (x : HPort) (p : Part) (d : Desc) (o : Op) (s : State) (k : List Byte),
    s.mayStart x p d o = true →
    d.opcode = 0x42 →
    fieldOf d.w3 3 0 = 6 →
    d.buf 0x3F 0xF 0 0 0 = true →
    (s.started x p o).filterWrite p ((s.started x p o).keyTag d.keySlot) Cls.slot d.keySlot = St.success →
    ((s.started x p o).slotKey d.keySlot).key = some k →
    exec (.keyOpCheck x p d) s =
      (match (s.started x p o).dmaWrite x p d.addr (checkValue ((s.started x p o).ktype d.keySlot) k) with
      | (false, u) => .next (s.ends u x p o St.dmaError 0 0)
      | (true, u) => .next (s.ends u x p o St.success (wd (checkValue ((s.started x p o).ktype d.keySlot) k).length) 0))) ∧
  (∀ (x : HPort) (p : Part) (d : Desc) (o : Op) (s : State),
    s.mayStart x p d o = true →
    d.opcode = 0x42 →
    fieldOf d.w3 3 0 = 7 →
    d.buf 0x3F 0xF 0 0 0 = true →
    (s.started x p o).filterWrite p ((s.started x p o).keyTag d.keySlot) Cls.slot d.keySlot = St.success →
    exec (.keyOpStatus x p d) s =
      (match (s.started x p o).dmaWrite x p d.addr (wordsBytes [(s.started x p o).reg (Reg.KEY_SSTAT d.keySlot),
          (s.started x p o).reg (Reg.KEY_SREM d.keySlot), wd ((s.started x p o).rf F.KEY_STAT_TESTROOT), 0]) with
      | (false, u) => .next (s.ends u x p o St.dmaError 0 0)
      | (true, u) => .next (s.ends u x p o St.success 16 0))) ∧
  (∀ (x : HPort) (p : Part) (d : Desc) (o : Op) (s : State) (t : State),
    s.mayStart x p d o = true →
    d.opcode = 0x42 →
    fieldOf d.w3 3 0 = 8 →
    d.buf 0x3F 0xF 0 0 0 = true →
    (s.started x p o).filterWrite p ((s.started x p o).keyTag d.keySlot) Cls.slot d.keySlot = St.success →
    t = (s.started x p o).eraseSlot d.keySlot 1 ((s.started x p o).rf (F.KEY_SATTR_TAG d.keySlot)) →
    exec (.keyOpErase x p d) s =
      .next (s.keyEnds ((t.setReg (Reg.KEY_SREM d.keySlot) (if t.on (F.KEY_SATTR_CNTEN d.keySlot) then 0 else 0xFFFFFFFF)).storeSlot d.keySlot) x p d o St.success 0 0)) ∧
  (∀ (s : State) (i : Nat),
    s.on (F.KEY_SATTR_CNTEN i) = true →
    2 ≤ s.rf (F.KEY_SREM_REM i) →
    s.countUse i = s.setReg (Reg.KEY_SREM i) (s.reg (Reg.KEY_SREM i) - 1))

/-- FW_CHUNK: manifest parts, verified chunks, chunks already held, flash failures, and cancelling for a newer
version. With SEM0 in partition 0, an empty staging queue (log entry 42, the model's choice) and data that are read
and pass through it: a manifest part of the length part 0 gives, with no other flow in progress, is taken as
fwManifest says, and a part after part 0 that comes before it is kept and ends SUCCESS. A data chunk of the accepted
manifest and of the length it gives, with no other flow in progress, ends SUCCESS where the module holds it; else it
is checked against its hash: different, VERIFY_FAIL; equal, it is written and ends SUCCESS, or the flash failure
makes the slot INVALID and ends MEDIA_ERROR. RESULT0 gives the chunks held. CANCEL changes none of this; with it and
a version above that of the flow in progress, a manifest part is taken after the flow has been cancelled. -/
def Obligations.FirmwareChunks : Prop :=
  (∀ (x : HPort) (p : Part) (d : Desc) (o : Op) (s : State) (flash : Bool) (bs : List Byte) (t0 t : State),
    s.mayStart x p d o = true →
    s.mayConfigure x p = true →
    d.opcode = 0x48 →
    s.queue (stagingQueue x p) = [] →
    d.buf 0xC000FFFF 4294967295 0 1 65536 = true →
    fieldOf d.w2 15 0 < 4 →
    fieldOf d.w2 15 0 = 0 ∨ partMisfit (Store.get noBytes ((s.started x p o).partsOf d.w3) 0) (fieldOf d.w2 15 0) d.len = false →
    (s.started x p o).otherFlow d.w3 = false →
    (s.started x p o).dmaRead x p d.addr d.len = (some bs, t0) →
    t0.passThrough (stagingQueue x p) = (true, t) →
    (fieldOf d.w2 31 30 = 1 →
      exec (.fwChunkManifest x p d flash) s = .next (s.finish (fwManifest flash d.w3 (fieldOf d.w2 15 0) bs t) x p o)) ∧
    (fieldOf d.w2 31 30 = 3 →
      exec (.fwChunkCancel x p d flash) s = .next (s.finish (fwManifest flash d.w3 (fieldOf d.w2 15 0) bs t) x p o))) ∧
  (∀ (flash : Bool) (ver : Word) (p : Nat) (bs : List Byte) (s : State),
    1 ≤ p →
    Store.get noBytes (s.partsOf ver) 0 = [] →
    fwManifest flash ver p bs s = .done (s.putPart ver p bs) St.success (wd ((s.putPart ver p bs).chunksHeld ver)) 0) ∧
  (∀ (x : HPort) (p : Part) (d : Desc) (o : Op) (s : State) (flash : Bool) (bs : List Byte) (t0 t : State),
    s.mayStart x p d o = true →
    s.mayConfigure x p = true →
    d.opcode = 0x48 →
    s.queue (stagingQueue x p) = [] →
    d.buf 0xC000FFFF 4294967295 0 1 65536 = true →
    (s.started x p o).hasManifest d.w3 = true →
    fieldOf d.w2 15 0 < mfChunks ((s.started x p o).imgSlot (s.started x p o).inactiveSlot).manifest →
    d.len = mfChunkLen ((s.started x p o).imgSlot (s.started x p o).inactiveSlot).manifest (fieldOf d.w2 15 0) →
    (s.started x p o).otherFlow d.w3 = false →
    (s.started x p o).dmaRead x p d.addr d.len = (some bs, t0) →
    t0.passThrough (stagingQueue x p) = (true, t) →
    (let c := fieldOf d.w2 15 0; let k := t.imgSlot t.inactiveSlot;
      let r : Host.Outcome State Fault Refusal :=
        (if Store.get noBytes k.chunks c ≠ [] then .next (s.ends t x p o St.success (wd (t.chunksHeld d.w3)) 0)
        else if sha384 bs ≠ mfHash k.manifest c then
          (let u := t.verifyFailed c d.w3 0; .next (s.ends u x p o St.verifyFail (wd (u.chunksHeld d.w3)) 0))
        else if flash = false then (let u := t.flashFailed; .next (s.ends u x p o St.mediaError (wd (u.chunksHeld d.w3)) 0))
        else (let u := t.writeChunk c bs; .next (s.ends u x p o St.success (wd (u.chunksHeld d.w3)) 0)));
      (fieldOf d.w2 31 30 = 0 → exec (.fwChunk x p d flash) s = r) ∧
      (fieldOf d.w2 31 30 = 2 → exec (.fwChunkCancel x p d flash) s = r))) ∧
  (∀ (x : HPort) (p : Part) (d : Desc) (o : Op) (s : State) (flash : Bool) (f : UpdFlow) (bs : List Byte) (t0 t : State),
    s.mayStart x p d o = true →
    s.mayConfigure x p = true →
    d.opcode = 0x48 →
    s.queue (stagingQueue x p) = [] →
    d.buf 0xC000FFFF 4294967295 0 1 65536 = true →
    fieldOf d.w2 31 30 = 3 →
    fieldOf d.w2 15 0 < 4 →
    fieldOf d.w2 15 0 = 0 ∨ partMisfit (Store.get noBytes ((s.started x p o).partsOf d.w3) 0) (fieldOf d.w2 15 0) d.len = false →
    (s.started x p o).upd.flow = some f →
    f.ver.toNat < d.w3.toNat →
    (s.started x p o).dmaRead x p d.addr d.len = (some bs, t0) →
    t0.passThrough (stagingQueue x p) = (true, t) →
    exec (.fwChunkCancel x p d flash) s = .next (s.finish (fwManifest flash d.w3 (fieldOf d.w2 15 0) bs (t.cancelFlow d.w3)) x p o))

/-- Power-on and system resets, RST_CTL, core resets, the release of reset by BOOTSEL, and the start's completion. A
power-on reset clears all but the always-on domain and the debug unlock too. A system reset of one of its causes
(through J9 only while debug is enabled) asserts reset, records its cause in RST_CAUSE and LAST and keeps the
always-on count and RTC_STAT; while power-on reset is asserted it does nothing (log entry 62). A permitted write of
RST_CTL acts only with its key, SYSRST before CORERST, and sets BADVAL otherwise. A watchdog expiry while the image
runs is a core reset, and with two of the last 60 s before it a system reset too; a core reset's end lets the cores
run. At the release of reset BOOTSEL 2 waits for the loader and 3 halts; a trim load cut short leaves its count. The
start's completion sets READY, leaves no block in reset but in Whiteout, and ends the outage. -/
def Obligations.ResetsAndStart : Prop :=
  (∀ (s : State),
    exec .powerOnReset s = .next (let t := s.tornSave.assertReset true 0; t.safOff.setKey { t.key with unlocked := false })) ∧
  (∀ (c : ResetCause) (s : State),
    (c = .debug → s.key.root ≠ 0) →
    exec (.systemReset c) s = .next (s.sysReset c.bit)) ∧
  (∀ (s : State),
    s.key.root = 0 →
    exec (.systemReset .debug) s = .next s) ∧
  (∀ (cause : Nat) (s : State),
    s.porHeld = true →
    s.sysReset cause = s) ∧
  (∀ (cause : Nat) (s : State),
    1 ≤ cause →
    cause ≤ 10 →
    s.porHeld = false →
    (s.sysReset cause).rf F.RST_CAUSE_LAST = cause ∧ (s.sysReset cause).on (regBit Reg.RST_CAUSE cause) = true ∧
      (s.sysReset cause).rst.phase = 0 ∧ (s.sysReset cause).time.sec = s.time.sec ∧ (s.sysReset cause).reg Reg.RTC_STAT = s.reg Reg.RTC_STAT) ∧
  (∀ (x : HPort) (s : State),
    s.mayWrite x 2 = true →
    exec (.rstCtlSysrst x 0xA5000002) s = .next (s.sysReset (3 + x.num)) ∧ exec (.rstCtlSysrst x 0xA5000003) s = .next (s.sysReset (3 + x.num)) ∧
      exec (.rstCtlCorerst x 0xA5000001) s = .next (s.coreReset false) ∧
      (∀ v : Word, fieldOf v 31 24 ≠ 0xA5 → exec (.rstCtlSysrst x v) s = .next s.badVal ∧ exec (.rstCtlCorerst x v) s = .next s.badVal)) ∧
  (∀ (s : State),
    s.rst.core = false →
    s.rst.phase = 1 ∨ s.rst.phase = 4 →
    s.recentDogs.length < 2 →
    exec .coreWatchdogExpiry s = .next (s.coreReset true)) ∧
  (∀ (s : State),
    s.rst.core = false →
    s.rst.phase = 1 ∨ s.rst.phase = 4 →
    2 ≤ s.recentDogs.length →
    exec .coreWatchdogExpiry s = .next ((s.coreReset true).sysReset 9)) ∧
  (∀ (s : State),
    exec .coreResetEnd s = .next (s.setRst { s.rst with core := false })) ∧
  (∀ (i : StartIn) (s : State),
    s.rst.phase = 0 →
    s.rst.hot = false →
    i.cut = false →
    i.bootsel = 2 ∨ i.bootsel = 3 →
    exec (.resetRelease i) s = .next (let t := ((s.sampleStraps i).loadTrim i.trim0 i.trim1).markFaults i.faults;
      t.setRst { t.rst with phase := i.bootsel.toNat })) ∧
  (∀ (i : StartIn) (s : State),
    s.rst.phase = 0 →
    s.rst.hot = false →
    i.cut = true →
    s.rst.tlcnt < 3 →
    exec (.resetRelease i) s = .next (s.setRst { s.rst with tlcnt := s.rst.tlcnt + 1 })) ∧
  (∀ (s : State),
    s.rst.phase = 1 →
    ∃ t, exec .startComplete s = .next t ∧ t.rst.phase = 4 ∧ t.on F.RST_BOOTREC_READY = true ∧ t.rst.outage = false ∧
      (s.on F.UPD_STAT_WHITEOUT = false → ∀ b : Fin 25, t.inReset b = false))

/-- References and clock-good, block reset and release, supply warnings and measurements, and the debug unlock. An
external reference that fails while the module starts falls back to the crystal with event 0x0102; a lost reference
sets REFLOST, records event 0x0101 and is self-diagnosis cause 3; its return clears REFLOST and changes neither
source nor role. A SerDes that loses or finds its lock changes its block's clock-good with event 0x0103. A block put
in reset by a permitted write is in RST_BLKSTAT, other blocks as before, until its release is written, its clock is
good and a base tick comes; a release without the clock waits with CLKWAIT; a bit that cannot be held or has the
value already changes nothing. A supply warning while the image runs sets WARN and SEQ, keeps a bank of the
accumulators and holds the island's channels off; its end clears them; PFW_N without PFWEN sets PFW only. A
measurement is clamped into its fields; above 115 °C it is self-diagnosis cause 4, above 125 °C a system reset with
cause 8 held until below 105 °C. -/
def Obligations.ClocksBlocksAndSupply : Prop :=
  (∀ (s : State),
    s.rst.phase ≠ 0 →
    s.rst.phase ≠ 4 →
    s.on F.CLK_STAT_FALLBK = false →
    s.rf F.CLK_STAT_STRAP = 1 ∨ s.rf F.CLK_STAT_STRAP = 2 →
    exec .externalReferenceFallback s = .next (((s.setF F.CLK_STAT_FALLBK 1).setF F.CLK_STAT_SRC 0).report 0x0102 0 (wd (s.rf F.CLK_STAT_STRAP)) 0 0)) ∧
  (∀ (s : State),
    s.rst.phase ≠ 0 →
    s.on F.CLK_STAT_REFLOST = false →
    exec .referenceLost s = .next ((((s.setF F.CLK_STAT_REFLOST 1).raiseClk 1).report 0x0101 0 1
      (wd (((s.setF F.CLK_STAT_REFLOST 1).raiseClk 1).rf F.CLK_STAT_SRC)) 0).selfCause 3)) ∧
  (∀ (s : State),
    s.on F.CLK_STAT_REFLOST = true →
    ∃ t, exec .referenceRestored s = .next t ∧ t.on F.CLK_STAT_REFLOST = false ∧ t.rf F.CLK_STAT_SRC = s.rf F.CLK_STAT_SRC ∧ t.role = s.role) ∧
  (∀ (b : Fin 25) (good : Bool) (s : State),
    b.val = 7 ∨ b.val = 16 ∨ b.val = 17 →
    s.clockGood b ≠ good →
    s.rst.phase ≠ 0 →
    exec (.serdesLockLost b good) s = .next (((s.setF (regBit Reg.CLK_GOOD b) (ofBool good)).raiseClk 0).report 0x0103 0 (wd b) (wd (ofBool good)) 0)) ∧
  (∀ (x : HPort) (b : Fin 25) (s : State),
    s.mayWrite x 2 = true →
    s.holdable b = true →
    s.on (regBit Reg.RST_BLKCTL b) = false →
    ∃ t, exec (.blockResetAssert x b) s = .next t ∧ t.on (regBit Reg.RST_BLKCTL b) = true ∧ t.inReset b = true ∧
      (∀ c : Fin 25, c ≠ b → t.inReset c = s.inReset c)) ∧
  (∀ (x : HPort) (b : Fin 25) (s : State),
    s.mayWrite x 2 = true →
    s.holdable b = false ∨ s.on (regBit Reg.RST_BLKCTL b) = true →
    exec (.blockResetAssert x b) s = .next s) ∧
  (∀ (x : HPort) (b : Fin 25) (s : State),
    s.mayWrite x 2 = true →
    s.holdable b = false ∨ s.on (regBit Reg.RST_BLKCTL b) = false →
    exec (.blockReleaseRequest x b) s = .next s) ∧
  (∀ (x : HPort) (b : Fin 25) (s : State),
    s.mayWrite x 2 = true →
    s.holdable b = true →
    s.on (regBit Reg.RST_BLKCTL b) = true →
    s.clockGood b = false →
    exec (.blockReleaseRequest x b) s = .next (let t := (s.setF (regBit Reg.RST_BLKCTL b) 0).setF F.RST_BLKSTAT_CLKWAIT 1;
      t.setRst { t.rst with waited := t.rst.waited ++ [b.val] })) ∧
  (∀ (x : HPort) (b : Fin 25) (s : State),
    s.mayWrite x 2 = true →
    s.holdable b = true →
    s.on (regBit Reg.RST_BLKCTL b) = true →
    s.clockGood b = true →
    exec (.blockReleaseRequest x b) s = .next (s.setF (regBit Reg.RST_BLKCTL b) 0) ∧
      (s.inReset b = true → (s.setF (regBit Reg.RST_BLKCTL b) 0).inReset b = true)) ∧
  (∀ (b : Fin 25) (s : State),
    s.holdable b = true →
    s.inReset b = true →
    s.on (regBit Reg.RST_BLKCTL b) = false →
    s.clockGood b = true →
    ∃ t, exec (.blockRelease b) s = .next t ∧ t.inReset b = false ∧ (∀ c : Fin 25, c ≠ b → t.inReset c = s.inReset c)) ∧
  (∀ (b : Fin 25) (s : State),
    s.holdable b = false ∨ s.inReset b = false ∨ s.clockGood b = false ∨ s.on (regBit Reg.RST_BLKCTL b) = true →
    exec (.blockRelease b) s = .next s) ∧
  (∀ (pfw : Bool) (vmain : Nat) (s : State),
    s.rst.phase = 1 ∨ s.rst.phase = 4 →
    s.on F.PWR_STAT_SEQ = false →
    (pfw = true → s.on F.PWR_CTL_PFWEN = true) →
    ∃ t, exec (.vmainWarning pfw vmain) s = .next t ∧ t.on F.PWR_STAT_WARN = true ∧ t.on F.PWR_STAT_SEQ = true ∧ t.saf.warn = true ∧
      (s.variant.lacks 14 = false → t.mtr.warned.isSome = true) ∧ (pfw = true → t.on F.PWR_STAT_PFW = true)) ∧
  (∀ (vmain : Nat) (s : State),
    s.rst.phase ≠ 0 →
    s.on F.PWR_CTL_PFWEN = false →
    exec (.vmainWarning true vmain) s = .next (s.setF F.PWR_STAT_PFW 1)) ∧
  (∀ (low us : Nat) (s : State),
    s.on F.PWR_STAT_WARN = false →
    exec (.warningEnd low us) s = .next (s.setF F.PWR_STAT_PFW 0)) ∧
  (∀ (low us : Nat) (s : State),
    s.on F.PWR_STAT_WARN = true →
    ∃ t, exec (.warningEnd low us) s = .next t ∧ t.on F.PWR_STAT_WARN = false ∧ t.on F.PWR_STAT_SEQ = false ∧
      t.on F.PWR_STAT_PFW = false ∧ t.saf.warn = false ∧ t.mtr.warned = none) ∧
  (∀ (vmain vbak : Nat) (temp : Int) (s : State),
    (let u := ((s.setF F.PWR_MEAS_VMAIN (min vmain 4095)).setF F.PWR_MEAS_VBAK (min vbak 4095)).setF F.PWR_TEMP_TEMP (unsignedOf 8 (clampInt (-128) 127 temp));
      ((105 ≤ temp ∨ s.rst.level = 0) → (temp ≤ 115 ∨ 1 ≤ s.rst.level) → (temp ≤ 125 ∨ 2 ≤ s.rst.level) →
        exec (.supplyMeasurement vmain vbak temp) s = .next u) ∧
      (115 < temp → temp ≤ 125 → s.rst.level = 0 →
        exec (.supplyMeasurement vmain vbak temp) s = .next ((u.tempEvent temp 1).selfCause 4)) ∧
      (temp < 105 → s.rst.level ≠ 0 → ∃ t, exec (.supplyMeasurement vmain vbak temp) s = .next t ∧ t.rst.hot = false ∧ t.rst.level = 0) ∧
      (125 < temp → s.rst.level < 2 → ∃ t, exec (.supplyMeasurement vmain vbak temp) s = .next t ∧ t.rst.hot = true ∧ t.rst.phase = 0 ∧
        t.rst.level = 2 ∧ (s.porHeld = false → t.rf F.RST_CAUSE_LAST = 8)))) ∧
  (∀ (s : State),
    exec .debugUnlock s = .next (s.setKey { s.key with unlocked := true }))

/-- CAN_TX, SER_TX and ETH_TX stage a frame for its transmit queue; PACKET_READ gives a queue's head to its
consumer. For an object the partition may write and data that are read: CAN_TX of a correct header for a transmit
buffer of a running controller in normal mode, SER_TX, and ETH_TX on a fitted field port with LINK, each while
ACTIVE, stage their data for the queue of the controller or port, a tenant's frame, not of the point EtherType, with
the port's own source address; ETH_TX to PORT 64 under SEM0 stages for the riser. Where the ring set's own staging
quota is full the command ends NO_SPACE and the queue is as before; where only the shared cells are, it is not
started yet (log entry 42, the model's choice). PACKET_READ hands the head of a point queue to PTX, loads that of a
CAN transmit queue into its empty transmit buffer, moves on one staged packet, delivers the head of a receive queue,
nothing while its ring set is not RUNNING, and shows that of another queue. -/
def Obligations.LegacyAndEthernetCommands : Prop :=
  (∀ (x : HPort) (p : Part) (d : Desc) (o : Op) (s : State) (bs : List Byte) (t : State),
    s.mayStart x p d o = true →
    d.opcode = 0x50 →
    d.buf 0x3F03 0 0 0 4294967296 = true →
    (s.started x p o).filterWrite p (some ((s.started x p o).rf (F.CAN_CTL_TAG (fieldOf d.w2 1 0)))) 0 (fieldOf d.w2 1 0) = St.success →
    (s.started x p o).active = true →
    (s.started x p o).canRuns (fieldOf d.w2 1 0) = true →
    (s.started x p o).canNormal (fieldOf d.w2 1 0) = true →
    (s.started x p o).rf (F.CAN_MBCFG_MODE (fieldOf d.w2 1 0) (fieldOf d.w2 13 8)) = 1 →
    (s.started x p o).dmaRead x p d.addr d.len = (some bs, t) →
    t.txHeaderBad (fieldOf d.w2 1 0) d.len bs = none →
    exec (.canTx x p d) s = .next (s.finish (CmdEnd.audited (t.stage x p o.id (420 + fieldOf d.w2 1 0) (bs.take 4 ++ wordBytes (withField (wordAt bs 1) 29 24 (fieldOf d.w2 13 8)) ++ bs.drop 8))
      p ((s.started x p o).rf (F.CAN_CTL_TAG (fieldOf d.w2 1 0))) 0 (fieldOf d.w2 1 0) 0x50) x p o)) ∧
  (∀ (x : HPort) (p : Part) (d : Desc) (o : Op) (s : State) (bs : List Byte) (t : State),
    s.mayStart x p d o = true →
    d.opcode = 0x51 →
    d.buf 7 0 0 1 4096 = true →
    (s.started x p o).filterWrite p (some ((s.started x p o).rf (F.SER_CTL_TAG (fieldOf d.w2 2 0)))) 0 (fieldOf d.w2 2 0) = St.success →
    (s.started x p o).active = true →
    (s.started x p o).dmaRead x p d.addr d.len = (some bs, t) →
    exec (.serTx x p d) s = .next (s.finish ((t.stage x p o.id (424 + fieldOf d.w2 2 0) bs).audited
      p ((s.started x p o).rf (F.SER_CTL_TAG (fieldOf d.w2 2 0))) 0 (fieldOf d.w2 2 0) 0x51) x p o)) ∧
  (∀ (x : HPort) (p : Part) (d : Desc) (o : Op) (s : State) (bs : List Byte) (t : State),
    s.mayStart x p d o = true →
    d.opcode = 0x58 →
    d.buf 0x7F 0 0 14 1514 = true →
    fieldOf d.w2 6 0 < 64 →
    s.fieldFitted (fieldOf d.w2 6 0) = true →
    (s.started x p o).filterWrite p (some ((s.started x p o).rf (F.FLD_PCTL_TAG (fieldOf d.w2 6 0)))) 0 (fieldOf d.w2 6 0) = St.success →
    (s.started x p o).dmaRead x p d.addr d.len = (some bs, t) →
    p.val = 0 ∨ (etherOf bs).1 ≠ t.rf F.FLD_CTL_ETYPE →
    t.active = true →
    t.on (F.FLD_PSTAT_LINK (fieldOf d.w2 6 0)) = true →
    exec (.ethTx x p d) s = .next (s.finish ((t.stage x p o.id (320 + fieldOf d.w2 6 0)
      (if p.val = 0 then bs else bs.take 6 ++ bytesBE 6 (t.portMac (fieldOf d.w2 6 0)) ++ bs.drop 12)).audited
      p ((s.started x p o).rf (F.FLD_PCTL_TAG (fieldOf d.w2 6 0))) 0 (fieldOf d.w2 6 0) 0x58) x p o)) ∧
  (∀ (x : HPort) (p : Part) (d : Desc) (o : Op) (s : State) (bs : List Byte) (t : State),
    s.mayStart x p d o = true →
    s.mayConfigure x p = true →
    d.opcode = 0x58 →
    d.buf 0x7F 0 0 14 9018 = true →
    fieldOf d.w2 6 0 = 64 →
    (s.started x p o).dmaRead x p d.addr d.len = (some bs, t) →
    exec (.ethTx x p d) s = .next (s.finish (t.stage x p o.id (1024 + classOf bs) bs) x p o)) ∧
  (∀ (x : HPort) (p : Part) (id target : Nat) (data : List Byte) (s : State),
    s.allocRefused (stagingQueue x p) (mkPkt data target 0 s.frameNo).cells = some 1 →
    s.stage x p id target data = .later) ∧
  (∀ (x : HPort) (p : Part) (id target : Nat) (data : List Byte) (s : State),
    s.allocRefused (stagingQueue x p) (mkPkt data target 0 s.frameNo).cells = some 0 →
    ∃ t, s.stage x p id target data = .done t St.noSpace 0 0 ∧ t.queue (stagingQueue x p) = s.queue (stagingQueue x p)) ∧
  (∀ (q : Fin 1024) (k : Pkt) (s t : State),
    pointQueue q = true →
    s.takePkt q = (some k, t) →
    exec (.packetRead q) s = .next { t with ptx := { t.ptx with inbox := t.ptx.inbox ++ [(q.val, k)] } }) ∧
  (∀ (k : Fin 4) (h : Pkt) (hs : List Pkt) (s t : State) (q : Fin 1024),
    q.val = 420 + k.val →
    s.queue q = h :: hs →
    s.rf (F.CAN_MBCFG_MODE k (txBuf h.data)) = 1 →
    s.on (F.CAN_MBST_FULL k (txBuf h.data)) = false →
    s.takePkt q = (some h, t) →
    exec (.packetRead q) s = .next (t.putTx k (txBuf h.data) h.data)) ∧
  (∀ (q : Fin 1024) (k : Pkt) (s t : State),
    256 ≤ q.val →
    (q.val < 418 ∨ (418 < q.val ∧ q.val < 420) ∨ (432 ≤ q.val ∧ q.val < 512) ∨ 768 ≤ q.val) →
    pointQueue q = false →
    s.takePkt q = (some k, t) →
    exec (.packetRead q) s = .next (t.emit (.packet q k.data))) ∧
  (∀ (q : Fin 1024) (s : State),
    512 ≤ q.val →
    q.val < 768 →
    exec (.packetRead q) s = .next (s.moveStaged q 1)) ∧
  (∀ (q : Fin 1024) (s : State),
    q.val < 256 →
    exec (.packetRead q) s = .next (s.deliverHead (if q.val < 128 then .hp0 else .hp1) (q.val % 128)) ∧
      (s.rsRunning (if q.val < 128 then .hp0 else .hp1) (q.val % 128) = false → exec (.packetRead q) s = .next s))

/-- CAN controllers: reception, transmission in arbitration order, error counting, bus-off, recovery and the mode
switch. A frame received by a running controller, an FD frame with FDEN, counts as a good reception and goes to the
lowest buffer that accepts it. A frame sent in normal mode empties its buffer, which held the best frame in
arbitration, counts it, lowers TEC and reports it at TXC; one that measures the loop delay shows it in TDCV, and a
delay the secondary sample point cannot hold is a fault instead (log entry 97). A bus error sets LEC, counts, and
outside restricted operation gives TEC and REC their increments: the error state follows them, with bus-off at TEC
256. A permitted recover command in bus-off starts recovery, whose end clears both counters, returns to error-active
and reports event 0x1402. Eleven recessive bits while ACTIVE clear MON. A controller that does not run takes no
frame and no error, and the last three do nothing in another state. -/
def Obligations.CanControllers : Prop :=
  (∀ (k : Fin 4) (f : CanIn) (s : State),
    s.canRuns k = true →
    (f.fdf = true → s.on (F.CAN_CTL_FDEN k) = true) →
    exec (.canFrameReceived k f) s = .next (match (List.range 64).find? (fun b => (s.goodReception k).accepts k b f) with
      | some b => (s.goodReception k).takeFrame k b f
      | none => s.goodReception k)) ∧
  (∀ (k : Fin 4) (frac sec : Word) (delay b : Nat) (f : List Byte) (s : State),
    s.canRuns k = true →
    s.canNormal k = true →
    bestTx (s.loaded k) = some (b, f) →
    s.measures k f = false →
    exec (.canFrameTransmitted k frac sec delay) s = .next ((((s.putTx k b []).addSat (F.CAN_TXOK_CNT k) 1).countErrors k
      (s.rf (F.CAN_ERRC_TEC k) - 1) (s.canRec k)).txReport k 0x80 frac sec f)) ∧
  (∀ (k : Fin 4) (frac sec : Word) (delay b : Nat) (f : List Byte) (s : State),
    s.canRuns k = true →
    s.canNormal k = true →
    bestTx (s.loaded k) = some (b, f) →
    s.measures k f = true →
    (let t := s.setF (F.CAN_STAT_TDCV k) (min delay 127);
      exec (.canFrameTransmitted k frac sec delay) s = .next (if 127 < delay + t.rf (F.CAN_TDC_TDCO k) then t.delayFault k
        else t.sentFrame k b frac sec f))) ∧
  (∀ (k : Fin 4) (f : CanIn) (frac sec : Word) (delay : Nat) (lec : Fin 7) (tec rec : Nat) (s : State),
    s.canRuns k = false →
    exec (.canFrameReceived k f) s = .next s ∧ exec (.canFrameTransmitted k frac sec delay) s = .next s ∧
      exec (.canBusError k lec tec rec) s = .next s) ∧
  (∀ (k : Fin 4) (lec : Fin 7) (tec rec : Nat) (s : State),
    s.canRuns k = true →
    lec.val ≠ 0 →
    s.canRestricted k = true →
    exec (.canBusError k lec tec rec) s = .next ((s.setF (F.CAN_ERRC_LEC k) lec).addSat (F.CAN_ERRCNT_CNT k) 1)) ∧
  (∀ (es : List (Nat × List Byte)) (b : Nat) (f : List Byte),
    bestTx es = some (b, f) →
    (b, f) ∈ es ∧ ∀ e ∈ es, arbKey f ≤ arbKey e.2) ∧
  (∀ (k : Fin 4) (lec : Fin 7) (tec rec : Nat) (s : State),
    s.canRuns k = true →
    lec.val ≠ 0 →
    s.canRestricted k = false →
    exec (.canBusError k lec tec rec) s = .next (((s.setF (F.CAN_ERRC_LEC k) lec).addSat (F.CAN_ERRCNT_CNT k) 1).countErrors k
      (s.rf (F.CAN_ERRC_TEC k) + tec) (s.canRec k + rec))) ∧
  (∀ (k : Fin 4) (tec rec : Nat) (s : State),
    tec < 256 →
    (s.countErrors k tec rec).rf (F.CAN_ERRC_TEC k) = tec ∧ (s.countErrors k tec rec).canRec k = min rec 255 ∧
      (s.countErrors k tec rec).rf (F.CAN_STAT_EST k) = (if 128 ≤ tec ∨ 128 ≤ rec then 1 else 0) ∧
      (∀ j : Fin 4, j ≠ k → (s.countErrors k tec rec).reg (Reg.CAN_ERRC j) = s.reg (Reg.CAN_ERRC j) ∧
      (s.countErrors k tec rec).rf (F.CAN_STAT_EST j) = s.rf (F.CAN_STAT_EST j))) ∧
  (∀ (k : Fin 4) (tec rec : Nat) (s : State),
    256 ≤ tec →
    (s.countErrors k tec rec).rf (F.CAN_ERRC_TEC k) = 255 ∧
      (s.countErrors k tec rec).rf (F.CAN_STAT_EST k) = (if s.on (F.CAN_CTL_AUTOREC k) then 3 else 2) ∧
      (s.countErrors k tec rec).loaded k = []) ∧
  (∀ (x : HPort) (k : Fin 4) (s : State),
    s.mayWrite x 20 = true →
    s.rf (F.CAN_STAT_EST k) = 2 →
    exec (.canRecover x k) s = .next (s.setEst k 3)) ∧
  (∀ (x : HPort) (k : Fin 4) (s : State),
    s.mayWrite x 20 = true →
    s.rf (F.CAN_STAT_EST k) ≠ 2 →
    exec (.canRecover x k) s = .next s) ∧
  (∀ (k : Fin 4) (s : State),
    s.rf (F.CAN_STAT_EST k) ≠ 3 ∨ s.inReset 20 = true →
    exec (.busOffRecoveryComplete k) s = .next s) ∧
  (∀ (k : Fin 4) (s : State),
    s.active = false ∨ s.inReset 20 = true →
    exec (.canModeSwitch k) s = .next s) ∧
  (∀ (k : Fin 4) (s : State),
    s.rf (F.CAN_STAT_EST k) = 3 →
    s.inReset 20 = false →
    exec (.busOffRecoveryComplete k) s = .next (((s.setCounts k 0 0).setEst k 0).report 0x1402 0 (wd k) (wd (Store.get natZero s.can.lost k)) 0)) ∧
  (∀ (k : Fin 4) (s : State),
    s.active = true →
    s.inReset 20 = false →
    exec (.canModeSwitch k) s = .next (s.setF (F.CAN_STAT_MON k) 0))

/-- RS-485 frames, bursts and driver release, and the CAN and RS-485 configuration applied unit by unit. A frame
that ends on an enabled port that does not drive the line counts, an error counts and raises the port's bit, one cut
off at its greatest length counts and reports event 0x1503, and the frame goes to the ring set of the port and tag.
A burst of an ACTIVE module's idle enabled port leaves with TXACT 1 and the port deaf unless ECHO; in another state
neither happens. When the driver is released the burst counts, a wrong byte of it with ECHO counts and records event
0x1502, and TXACT is 0; of a port that does not drive it does nothing. A unit that the pending image still has to
reach takes its words when it is idle, and is then no longer to be reached. -/
def Obligations.SerialPortsAndLegacyConfiguration : Prop :=
  (∀ (j : Fin 8) (data : List Byte) (frac sec : Word) (s : State),
    s.inReset 21 = false →
    s.on (F.SER_CTL_EN j) = true →
    s.on (F.SER_STAT_TXACT j) = false →
    exec (.serFrameEnd j data 0 frac sec) s = .next ((s.addSat (F.SER_RXFRM_CNT j) 1).toHost
        (hpOf ((s.addSat (F.SER_RXFRM_CNT j) 1).on (F.SER_CTL_HPSEL j))) ((s.addSat (F.SER_RXFRM_CNT j) 1).rf (F.SER_CTL_TAG j))
        (mkPkt (wordsBytes [frac, sec] ++ data.take 4096) (srcCode 5 j) 0 (s.addSat (F.SER_RXFRM_CNT j) 1).frameNo)).2) ∧
  (∀ (j : Fin 8) (data : List Byte) (err : Fin 5) (frac sec : Word) (s : State),
    s.inReset 21 = false →
    s.on (F.SER_CTL_EN j) = true →
    s.on (F.SER_STAT_TXACT j) = false →
    err.val = 1 ∨ err.val = 2 ∨ err.val = 3 →
    exec (.serFrameEnd j data err frac sec) s = .next
      (let t := ((s.addSat (F.SER_RXFRM_CNT j) 1).addSat (F.SER_RXERR_CNT j) 1).raiseSer j;
       (t.toHost (hpOf (t.on (F.SER_CTL_HPSEL j))) (t.rf (F.SER_CTL_TAG j))
        (mkPkt (wordsBytes [frac, sec] ++ data.take 4096) (srcCode 5 j) err.val t.frameNo)).2)) ∧
  (∀ (j : Fin 8) (data : List Byte) (frac sec : Word) (s : State),
    s.inReset 21 = false →
    s.on (F.SER_CTL_EN j) = true →
    s.on (F.SER_STAT_TXACT j) = false →
    exec (.serFrameEnd j data 4 frac sec) s = .next
      (let t := ((((s.addSat (F.SER_RXFRM_CNT j) 1).addSat (F.SER_RXERR_CNT j) 1).raiseSer j).addSat (F.SER_TRUNC_CNT j) 1).report 0x1503 0 (wd j) 0 0;
       (t.toHost (hpOf (t.on (F.SER_CTL_HPSEL j))) (t.rf (F.SER_CTL_TAG j))
        (mkPkt (wordsBytes [frac, sec] ++ data.take 4096) (srcCode 5 j) 4 t.frameNo)).2)) ∧
  (∀ (j : Fin 8) (data : List Byte) (err : Fin 5) (frac sec : Word) (s : State),
    s.inReset 21 = true ∨ s.on (F.SER_CTL_EN j) = false ∨ s.on (F.SER_STAT_TXACT j) = true →
    exec (.serFrameEnd j data err frac sec) s = .next s ∧ exec (.serBurstStart j) s = .next s) ∧
  (∀ (j : Fin 8) (s : State),
    s.active = false →
    exec (.serBurstStart j) s = .next s) ∧
  (∀ (j : Fin 8) (k : Pkt) (s t : State),
    s.inReset 21 = false →
    s.active = true →
    s.on (F.SER_CTL_EN j) = true →
    s.on (F.SER_STAT_TXACT j) = false →
    s.takePkt (424 + j) = (some k, t) →
    exec (.serBurstStart j) s = .next (let u := t.setCan { t.can with burst := Store.put noBytes t.can.burst j k.data };
      (u.setF (F.SER_STAT_TXACT j) 1).emit (.serialBurst j k.data (!u.on (F.SER_CTL_ECHO j))))) ∧
  (∀ (j : Fin 8) (s : State),
    s.on (F.SER_STAT_TXACT j) = true →
    exec (.serDriverRelease j none) s = .next ((s.addSat (F.SER_TXFRM_CNT j) 1).serRelease j)) ∧
  (∀ (j : Fin 8) (bad : Option Nat) (s : State),
    s.on (F.SER_STAT_TXACT j) = false →
    exec (.serDriverRelease j bad) s = .next s) ∧
  (∀ (j : Fin 8) (n : Nat) (s : State),
    s.on (F.SER_STAT_TXACT j) = true →
    (s.addSat (F.SER_TXFRM_CNT j) 1).on (F.SER_CTL_ECHO j) = false ∨ (Store.get noBytes s.can.burst j).length ≤ n →
    exec (.serDriverRelease j (some n)) s = .next ((s.addSat (F.SER_TXFRM_CNT j) 1).serRelease j)) ∧
  (∀ (j : Fin 8) (n : Nat) (s : State),
    s.on (F.SER_STAT_TXACT j) = true →
    (s.addSat (F.SER_TXFRM_CNT j) 1).on (F.SER_CTL_ECHO j) = true →
    n < (Store.get noBytes s.can.burst j).length →
    exec (.serDriverRelease j (some n)) s = .next (((((s.addSat (F.SER_TXFRM_CNT j) 1).addSat (F.SER_ECHOERR_CNT j) 1).raiseSer
      (8 + j)).report 0x1502 0 (wd j) (wd n) 0).serRelease j)) ∧
  (∀ (j : Fin 8) (s : State),
    (s.serRelease j).on (F.SER_STAT_TXACT j) = false ∧
      (∀ i : Fin 8, i ≠ j → (s.serRelease j).reg (Reg.SER_STAT i) = s.reg (Reg.SER_STAT i))) ∧
  (∀ (u : Fin 12) (s : State),
    s.can.left.contains u.val = true →
    (4 ≤ u.val → s.on (F.SER_STAT_TXACT (u.val - 4)) = false) →
    exec (.legacyConfigurationApply u) s = .next (s.applyLegacy u)) ∧
  (∀ (u : Fin 12) (s : State),
    s.can.left.contains u.val = false ∨ (4 ≤ u.val ∧ s.on (F.SER_STAT_TXACT (u.val - 4)) = true) →
    exec (.legacyConfigurationApply u) s = .next s) ∧
  (∀ (u : Nat) (s : State),
    u < 4 →
    (s.applyLegacy u).reg (Reg.CAN_CTL u) = s.can.imgPend.getD (132 * u) 0 ∧
      (s.applyLegacy u).reg (Reg.CAN_NBT u) = s.can.imgPend.getD (132 * u + 1) 0 ∧
      (s.applyLegacy u).reg (Reg.CAN_DBT u) = s.can.imgPend.getD (132 * u + 2) 0 ∧
      (s.applyLegacy u).reg (Reg.CAN_TDC u) = s.can.imgPend.getD (132 * u + 3) 0 ∧
      (s.applyLegacy u).can.left.contains u = false) ∧
  (∀ (u : Nat) (s : State),
    4 ≤ u →
    u < 12 →
    (s.applyLegacy u).reg (Reg.SER_CTL (u - 4)) = s.can.imgPend.getD (528 + 3 * (u - 4)) 0 ∧
      (s.applyLegacy u).reg (Reg.SER_FMT (u - 4)) = s.can.imgPend.getD (528 + 3 * (u - 4) + 1) 0 ∧
      (s.applyLegacy u).reg (Reg.SER_TIM (u - 4)) = s.can.imgPend.getD (528 + 3 * (u - 4) + 2) 0 ∧
      (s.applyLegacy u).can.left.contains u = false)

/-- DSP_UPD stores a region's target levels and queues its update, or completes at once on a dark panel;
DSP_UPD_READ_BACK, display frames and thermistor samples. While ACTIVE, DSP_UPD of a region the partition may write
with LEN of W times H over 2 and fewer than 4 waiting updates stores the changed pixels' target levels. A panel that
takes updates queues the update, powering up from IDLE, and the command waits; on another panel the pixels' levels
become unknown and the command ends SUCCESS with the frame number. With RDBK = 1 the stored target levels are
written to host memory. A display frame of a fitted display, outside block reset and the power-fail sequence,
applies accepted tables, and drives the frame in DRIVE, entered here once VCOM is on, or a power-down's frame. A
thermistor sample sets the code and the band, and TFLT with event 0x1305 when it leaves 16 to 4079. -/
def Obligations.DisplayUpdates : Prop :=
  (∀ (x : HPort) (p : Part) (d : Desc) (o : Op) (s : State) (bs : List Byte) (t u : State),
    s.mayStart x p d o = true →
    s.hasDisplay = true →
    d.opcode = 0x38 →
    fieldOf d.w3 0 0 = 0 →
    d.buf 0xFF 3 0 0 4294967296 = true →
    (s.started x p o).filterWrite p ((s.started x p o).regionTagOf (fieldOf d.w2 7 0)) Cls.slot (fieldOf d.w2 7 0) = St.success →
    (s.started x p o).active = true →
    d.len = regionW (s.started x p o).dsp.regions (fieldOf d.w2 7 0) * regionH (s.started x p o).dsp.regions (fieldOf d.w2 7 0) / 2 →
    ((s.started x p o).dsp.upds.filter (fun v => v.region = fieldOf d.w2 7 0)).length < 4 →
    (s.started x p o).dmaRead x p d.addr d.len = (some bs, t) →
    u = (t.changedPixels (fieldOf d.w2 7 0) (fieldOf d.w3 1 1 = 1) bs).foldl (fun v e => v.setPixel e.1 { v.pixel e.1 with tgt := e.2 }) (t.audit p (((s.started x p o).regionTagOf (fieldOf d.w2 7 0)).getD 0) Cls.slot (fieldOf d.w2 7 0) 0x38) →
    (u.panelTakes (regionPanel (s.started x p o).dsp.regions (fieldOf d.w2 7 0)) = false → exec (.dspUpd x p d) s =
      .next (s.ends ((t.changedPixels (fieldOf d.w2 7 0) (fieldOf d.w3 1 1 = 1) bs).foldl (fun v e => v.setPixel e.1 { v.pixel e.1 with level := none }) u) x p o St.success u.frameWords.1 0)) ∧
      (u.panelTakes (regionPanel (s.started x p o).dsp.regions (fieldOf d.w2 7 0)) = true → ∃ v, exec (.dspUpd x p d) s = .next v ∧
      v.dsp.upds = u.dsp.upds ++ [{ num := u.dsp.nextNum, region := fieldOf d.w2 7 0, panel := regionPanel (s.started x p o).dsp.regions (fieldOf d.w2 7 0), pixels := t.changedPixels (fieldOf d.w2 7 0) (fieldOf d.w3 1 1 = 1) bs, tick := u.dsp.tick, op := some (x, p, o.id), band := none, frames := 0 }] ∧
      (u.panelState (regionPanel (s.started x p o).dsp.regions (fieldOf d.w2 7 0)) = 1 → u.on F.PWR_STAT_SEQ = false →
        v.panelState (regionPanel (s.started x p o).dsp.regions (fieldOf d.w2 7 0)) = 2))) ∧
  (∀ (x : HPort) (p : Part) (d : Desc) (o : Op) (s : State),
    s.mayStart x p d o = true →
    s.hasDisplay = true →
    d.opcode = 0x38 →
    fieldOf d.w3 0 0 = 1 →
    d.buf 0xFF 3 0 0 4294967296 = true →
    (s.started x p o).filterRead p ((s.started x p o).regionTagOf (fieldOf d.w2 7 0)) Cls.slot (fieldOf d.w2 7 0) = St.success →
    (s.started x p o).active = true →
    d.len = regionW (s.started x p o).dsp.regions (fieldOf d.w2 7 0) * regionH (s.started x p o).dsp.regions (fieldOf d.w2 7 0) / 2 →
    exec (.dspUpdReadBack x p d) s =
      (match (s.started x p o).dmaWrite x p d.addr (levelBytes ((regionKeys (s.started x p o).dsp.regions (fieldOf d.w2 7 0)).map (fun k => ((s.started x p o).pixel k).tgt))) with
      | (false, u) => .next (s.ends u x p o St.dmaError 0 0)
      | (true, u) => .next (s.ends u x p o St.success u.frameWords.1 0))) ∧
  (∀ (n : Fin 2) (ready : Bool) (s : State),
    s.hasDisplay = true →
    s.inReset 19 = false →
    s.on F.PWR_STAT_SEQ = false →
    (let t := (s.applyWaves n).applyRegions;
      (t.panelState n = 3 → exec (.displayFrameStart n ready) s = .next (t.driveFrame n ready)) ∧
      (t.panelState n = 4 → exec (.displayFrameStart n ready) s = .next (t.downFrame n)) ∧
      (t.panelState n = 2 → (t.panel n).vcomen = true → exec (.displayFrameStart n ready) s = .next ((t.panelMove n 3).driveFrame n ready)) ∧
      (t.panelState n = 2 → (t.panel n).vcomen = false → exec (.displayFrameStart n ready) s = .next t) ∧
      (t.panelState n ≠ 2 → t.panelState n ≠ 3 → t.panelState n ≠ 4 → exec (.displayFrameStart n ready) s = .next t))) ∧
  (∀ (n : Fin 2) (ready : Bool) (s : State),
    s.hasDisplay = false ∨ s.inReset 19 = true ∨ s.on F.PWR_STAT_SEQ = true →
    exec (.displayFrameStart n ready) s = .next s) ∧
  (∀ (n : Fin 2) (code : BitVec 12) (s : State),
    s.hasDisplay = false ∨ s.inReset 19 = true →
    exec (.thermistorSample n code) s = .next s) ∧
  (∀ (n : Fin 2) (code : BitVec 12) (s : State),
    s.hasDisplay = true →
    s.inReset 19 = false →
    code.toNat < 16 ∨ 4079 < code.toNat →
    s.on (F.DSP_PSTAT_TFLT n) = true →
    exec (.thermistorSample n code) s = .next (((s.setF (F.DSP_TEMP_CODE n) code.toNat).setF (F.DSP_PSTAT_TFLT n) 1).showBand n)) ∧
  (∀ (n : Fin 2) (code : BitVec 12) (s : State),
    s.hasDisplay = true →
    s.inReset 19 = false →
    16 ≤ code.toNat →
    code.toNat ≤ 4079 →
    exec (.thermistorSample n code) s = .next (((s.setF (F.DSP_TEMP_CODE n) code.toNat).setF (F.DSP_PSTAT_TFLT n) 0).showBand n)) ∧
  (∀ (n : Fin 2) (code : BitVec 12) (s : State),
    s.hasDisplay = true →
    s.inReset 19 = false →
    code.toNat < 16 ∨ 4079 < code.toNat →
    s.on (F.DSP_PSTAT_TFLT n) = false →
    exec (.thermistorSample n code) s = .next (((((s.setF (F.DSP_TEMP_CODE n) code.toNat).setF (F.DSP_PSTAT_TFLT n) 1).raiseDsp 3).report 0x1305 0 (wd n)
      (wd code.toNat) 0).showBand n))

/-- Panel enable and disable, power-up and its time-out, PWRGD lost, power-down, and the crack measurement. A
permitted enable of a panel whose timing fits takes the crack reading and goes from OFF to IDLE when it is good; one
whose timing does not fit sets BADVAL. A disable puts an IDLE or FAULT panel to OFF and starts or redirects the
power-down of a powered one. In POWERUP PWRGD is noted, VCOM is enabled 1 ms after it, and without it FAULT with
code 2 follows; PWRGD lost in DRIVE gives FAULT with code 3. PDLY without a waveform starts the power-down; 1 ms
after VCOMEN falls PWREN falls and the panel arrives, or notes the tick from which a waiting update powers it up
again. In another state these do nothing. A crack reading is stored outside OFF; the second bad one in a row acts on
the panel. -/
def Obligations.DisplayPanelPower : Prop :=
  (∀ (x : HPort) (n : Fin 2) (res : BitVec 16) (s : State),
    s.mayWrite x 19 = true →
    s.on (F.DSP_PCTL_EN n) = false →
    s.panelFits n = true →
    s.panelState n = 0 →
    res ≠ 0xFFFF →
    res.toNat ≤ s.rf (F.DSP_CRK_RMAX n) →
    ∃ t, exec (.panelEnable x n res) s = .next t ∧ t.on (F.DSP_PCTL_EN n) = true ∧ t.panelState n = 1 ∧
      t.rf (F.DSP_CRK_RES n) = res.toNat ∧ (t.panel n).bad = 0) ∧
  (∀ (x : HPort) (n : Fin 2) (res : BitVec 16) (s : State),
    s.mayWrite x 19 = true →
    s.on (F.DSP_PCTL_EN n) = false →
    s.panelFits n = true →
    s.panelState n ≠ 0 ∨ res = 0xFFFF ∨ s.rf (F.DSP_CRK_RMAX n) < res.toNat →
    exec (.panelEnable x n res) s = .next (((s.setF (F.DSP_PCTL_EN n) 1).setF (F.DSP_CRK_RES n) res.toNat).setPanel n { s.panel n with bad := 0 })) ∧
  (∀ (x : HPort) (n : Fin 2) (res : BitVec 16) (s : State),
    s.mayWrite x 19 = true →
    s.on (F.DSP_PCTL_EN n) = true →
    exec (.panelEnable x n res) s = .next s) ∧
  (∀ (x : HPort) (n : Fin 2) (res : BitVec 16) (s : State),
    s.mayWrite x 19 = true →
    s.on (F.DSP_PCTL_EN n) = false →
    s.panelFits n = false →
    exec (.panelEnable x n res) s = .next s.badVal) ∧
  (∀ (x : HPort) (n : Fin 2) (s : State),
    s.mayWrite x 19 = true →
    s.panelState n = 1 ∨ s.panelState n = 5 →
    exec (.panelDisable x n) s = .next ((((s.setF (F.DSP_PCTL_EN n) 0).endWaves n).setF (F.DSP_PSTAT_FCODE n) 0).panelMove n 0)) ∧
  (∀ (x : HPort) (n : Fin 2) (s : State),
    s.mayWrite x 19 = true →
    (s.panelState n = 2 → exec (.panelDisable x n) s = .next (((s.setF (F.DSP_PCTL_EN n) 0).endWaves n).powerDown n 0 false false)) ∧
      (s.panelState n = 3 → exec (.panelDisable x n) s = .next ((s.setF (F.DSP_PCTL_EN n) 0).powerDown n 0 true true)) ∧
      (s.panelState n = 4 → (s.panel n).pwren = true →
        exec (.panelDisable x n) s = .next ((s.setF (F.DSP_PCTL_EN n) 0).setPanel n { s.panel n with goal := 0, lowAt := 0 })) ∧
      (s.panelState n = 0 → exec (.panelDisable x n) s = .next (s.setF (F.DSP_PCTL_EN n) 0))) ∧
  (∀ (n : Fin 2) (s : State),
    s.panelState n = 2 →
    exec (.pwrgdRise n) s = .next (s.setPanel n { s.panel n with good := true })) ∧
  (∀ (n : Fin 2) (s : State),
    (s.panelState n ≠ 2 → exec (.pwrgdRise n) s = .next s ∧ exec (.vcomEnableDelay n) s = .next s ∧ exec (.pwrgdTimeout n) s = .next s) ∧
      (s.panelState n ≠ 3 → exec (.pwrgdLost n) s = .next s ∧ exec (.powerdownDelayExpiry n) s = .next s) ∧
      (s.panelState n ≠ 4 → exec (.pwrenOffDelay n) s = .next s)) ∧
  (∀ (n : Fin 2) (s : State),
    s.panelState n = 2 →
    (s.panel n).good = true →
    exec (.vcomEnableDelay n) s = .next (s.panelPower n true true)) ∧
  (∀ (n : Fin 2) (s : State),
    s.panelState n = 2 →
    (s.panel n).good = false →
    exec (.pwrgdTimeout n) s = .next (((s.endWaves n).panelPower n false false).panelFault n 2)) ∧
  (∀ (n : Fin 2) (s : State),
    s.panelState n = 3 →
    exec (.pwrgdLost n) s = .next (((s.endWaves n).panelPower n false false).panelFault n 3)) ∧
  (∀ (n : Fin 2) (code : Nat) (s : State),
    code < 256 →
    (s.panelFault n code).panelState n = 5 ∧ (s.panelFault n code).rf (F.DSP_PSTAT_FCODE n) = code) ∧
  (∀ (n : Fin 2) (s : State),
    s.panelState n = 3 →
    s.panelBusy n = false →
    exec (.powerdownDelayExpiry n) s = .next (s.powerDown n 1 false true)) ∧
  (∀ (n : Fin 2) (s : State),
    s.panelState n = 4 →
    s.vcomLow n = true →
    ((s.panel n).goal = 1 → s.updateWaits n = false) →
    exec (.pwrenOffDelay n) s = .next ((s.panelPower n false false).panelArrive n)) ∧
  (∀ (n : Fin 2) (s : State),
    s.panelState n = 4 →
    s.vcomLow n = true →
    (s.panel n).goal = 1 →
    s.updateWaits n = true →
    exec (.pwrenOffDelay n) s = .next (let t := s.panelPower n false false; t.setPanel n { t.panel n with lowAt := s.dsp.tick + 1 })) ∧
  (∀ (n : Fin 2) (res : BitVec 16) (s : State),
    s.hasDisplay = true →
    s.inReset 19 = false →
    s.panelState n ≠ 0 →
    s.crackBad n res = false →
    exec (.crackMeasurement n res) s = .next ((s.setF (F.DSP_CRK_RES n) res.toNat).setPanel n { s.panel n with bad := 0 })) ∧
  (∀ (n : Fin 2) (res : BitVec 16) (s : State),
    s.hasDisplay = true →
    s.inReset 19 = false →
    s.panelState n ≠ 0 →
    s.crackBad n res = true →
    (s.panel n).bad ≠ 1 →
    exec (.crackMeasurement n res) s = .next ((s.setF (F.DSP_CRK_RES n) res.toNat).setPanel n { s.panel n with bad := (s.panel n).bad + 1 })) ∧
  (∀ (n : Fin 2) (res : BitVec 16) (s : State),
    s.hasDisplay = false ∨ s.inReset 19 = true ∨ s.panelState n = 0 →
    exec (.crackMeasurement n res) s = .next s) ∧
  (∀ (n : Fin 2) (res : BitVec 16) (s : State),
    s.hasDisplay = true →
    s.inReset 19 = false →
    s.panelState n ≠ 0 →
    s.crackBad n res = true →
    (s.panel n).bad = 1 →
    exec (.crackMeasurement n res) s = .next (((s.setF (F.DSP_CRK_RES n) res.toNat).setPanel n { s.panel n with bad := 2 }).crack n))

/-- Field ports: links, signal quality, PLCA cycles, MDIO accesses, reception checks, and frames in and between
slots. A link that comes up as FLD_PCTL allows on an enabled fitted port sets LINK and reports event 0x0901, a T1L
port with its level and role, a segment with level 2 and a role left open; any other does nothing. A link that goes
down clears FLD_PSTAT, discards the frames waiting to be sent, also in the staging queues, counts them, loses the
port and leaves the other ports as they are. SQI follows the signal-to-noise ratio of a port with link. A PLCA cycle
sends a beacon, counts no frame as sent and opens node 0's opportunity for TOT bit times behind it; a late one opens
it later, counts and reports event 0x0908. A permitted MDIO read of a fitted port, or write of one that is not
enabled, sets GO until it completes, a read with its data; a write while GO is 1 does nothing; GO written 0 only
stores; a port that does not allow the access sets BADVAL and a read then gives 0. A frame on an enabled port with
link counts RXERR when bad, too short or too long; RXFILT when its destination is not accepted and PROM is 0; RXUNK
when it is a point frame of no station of the port; else it goes to the point receive queue or to the ring set of
the port's tag. In its slot, an entry exchanged in this frame over a port with link sends its request once; any
other sends nothing. The oldest other frame leaves when it may (a poisoned one is dropped); on a T1L port one that
does not fit before the next slot waits and counts TXDEFER once. (log 181, 182) -/
def Obligations.FieldLinksAndFrames : Prop :=
  (∀ (i : Fin 64) (lv1 lead : Bool) (s : State),
    i.val < 48 →
    s.fieldFitted i = true →
    s.on (F.FLD_PCTL_EN i) = true →
    s.on (F.FLD_PSTAT_LINK i) = false →
    s.inReset 9 = false →
    s.linkAgrees i lv1 lead = true →
    exec (.fieldLinkUp i lv1 lead) s = .next ((((((s.setF (F.FLD_PSTAT_LINK i) 1).setF (F.FLD_PSTAT_LV1 i) (ofBool lv1)).setF
      (F.FLD_PSTAT_LEAD i) (ofBool lead)).report 0x0901 0 (wd i) (wd (ofBool lv1)) (wd (ofBool !lead)))).raiseFld 0)) ∧
  (∀ (i : Fin 64) (lv1 lead : Bool) (s t : State),
    48 ≤ i.val →
    s.fieldFitted i = true →
    s.on (F.FLD_PCTL_EN i) = true →
    s.on (F.FLD_PSTAT_LINK i) = false →
    s.inReset 9 = false →
    t = ((s.setF (F.FLD_PSTAT_LINK i) 1).setF (F.FLD_PSTAT_LV1 i) 0).setF (F.FLD_PSTAT_LEAD i) 0 →
    exec (.fieldLinkUp i lv1 lead) s = .next ((t.useFree.report 0x0901 0 (wd i) 2 (wd (t.freeVal.toNat % 2))).raiseFld 0)) ∧
  (∀ (i : Fin 64) (lv1 lead : Bool) (s : State),
    s.fieldFitted i = false ∨ s.on (F.FLD_PCTL_EN i) = false ∨ s.on (F.FLD_PSTAT_LINK i) = true ∨ s.inReset 9 = true ∨
      s.linkAgrees i lv1 lead = false →
    exec (.fieldLinkUp i lv1 lead) s = .next s) ∧
  (∀ (i : Fin 64) (s : State),
    s.on (F.FLD_PSTAT_LINK i) = true →
    ∃ t, exec (.fieldLinkDown i) s = .next t ∧ t.reg (Reg.FLD_PSTAT i) = 0 ∧ t.queue (320 + i) = [] ∧
      (∀ q : Nat, q < 256 → (t.queue (512 + q)).all (fun k => !k.forPort i) = true) ∧
      t.ptx.lost = s.ptx.lost ++ [(i.val, 0)] ∧
      ((∀ q : Nat, q < 256 → (s.queue (512 + q)).all (fun k => !k.forPort i) = true) →
        t.rf (F.FLD_TXDROP_CNT i) = min 0xFFFFFFFF (s.rf (F.FLD_TXDROP_CNT i) + (s.queue (320 + i)).length)) ∧
      (∀ j : Fin 64, j ≠ i → t.reg (Reg.FLD_PSTAT j) = s.reg (Reg.FLD_PSTAT j) ∧ t.queue (320 + j) = s.queue (320 + j))) ∧
  (∀ (i : Fin 64) (s : State),
    s.on (F.FLD_PSTAT_LINK i) = false →
    exec (.fieldLinkDown i) s = .next s) ∧
  (∀ (i : Fin 48) (snr : Int) (s : State),
    s.on (F.FLD_PSTAT_LINK i) = true →
    exec (.sqiUpdate i snr) s = .next (s.setF (F.FLD_PSTAT_SQI i) (if snr < 15000 then 0 else min 7 (1 + ((snr - 15000) / 2000).toNat)))) ∧
  (∀ (i : Fin 48) (snr : Int) (s : State),
    s.on (F.FLD_PSTAT_LINK i) = false →
    exec (.sqiUpdate i snr) s = .next s) ∧
  (∀ (g : Fin 16) (s : State),
    s.on (F.FLD_PCTL_EN (48 + g.val)) = true →
    s.inReset 9 = false →
    ∃ t, exec (.plcaCycleStart g none) s = .next t ∧ t.out = (.beacon g) :: s.out ∧ t.plcaSent g = 0 ∧
      Store.get natZero t.fld.plcaFrom g = 24 ∧ Store.get natZero t.fld.plcaOpen g = 24 + fieldOf (s.plca g) 23 16 ∧
      (∀ h : Fin 16, h ≠ g → t.plcaSent h = s.plcaSent h ∧
        Store.get natZero t.fld.plcaFrom h = Store.get natZero s.fld.plcaFrom h ∧
        Store.get natZero t.fld.plcaOpen h = Store.get natZero s.fld.plcaOpen h) ∧
      t.regs = s.regs ∧
      ∀ node ns : Nat, exec (.plcaCycleStart g (some (node, ns))) s =
        .next (((t.setOpportunity g (ceilDiv ns 100 + 24)).addSat (F.FLD_PLCAOVR_CNT g) 1).report 0x0908 0 (wd g) (wd node) (wd ns))) ∧
  (∀ (g : Fin 16) (late : Option (Nat × Nat)) (s : State),
    s.on (F.FLD_PCTL_EN (48 + g.val)) = false ∨ s.inReset 9 = true →
    exec (.plcaCycleStart g late) s = .next s) ∧
  (∀ (x : HPort) (v : Word) (s : State),
    s.mayWrite x 9 = true →
    s.on F.FLD_MDIO_GO = false →
    fieldOf v 31 30 = 2 →
    s.fieldFitted (fieldOf v 29 24) = true →
    exec (.mdioAccess x v) s = .next (((s.setReg Reg.FLD_MDIO (v &&& 0x7F1FFFFF)).setF F.FLD_MDIO_GO 1).emit
      (.mdio (fieldOf v 29 24) (fieldOf v 20 16) (s.rf F.FLD_MDIOA_REGAD) none))) ∧
  (∀ (x : HPort) (v : Word) (s : State),
    s.mayWrite x 9 = true →
    s.on F.FLD_MDIO_GO = false →
    fieldOf v 31 30 = 3 →
    s.fieldFitted (fieldOf v 29 24) = true →
    s.on (F.FLD_PCTL_EN (fieldOf v 29 24)) = false →
    exec (.mdioAccess x v) s = .next (((s.setReg Reg.FLD_MDIO (v &&& 0x7F1FFFFF)).setF F.FLD_MDIO_GO 1).emit
      (.mdio (fieldOf v 29 24) (fieldOf v 20 16) (s.rf F.FLD_MDIOA_REGAD) (some (fieldOf v 15 0))))) ∧
  (∀ (x : HPort) (v : Word) (s : State),
    s.mayWrite x 9 = true →
    s.on F.FLD_MDIO_GO = false →
    (fieldOf v 31 31 = 0 →
      exec (.mdioAccess x v) s = .next (s.setReg Reg.FLD_MDIO (v &&& 0x7F1FFFFF))) ∧
    (fieldOf v 31 30 = 3 → s.fieldFitted (fieldOf v 29 24) = false ∨ s.on (F.FLD_PCTL_EN (fieldOf v 29 24)) = true →
      exec (.mdioAccess x v) s = .next (s.setReg Reg.FLD_MDIO (v &&& 0x7F1FFFFF)).badVal) ∧
    (fieldOf v 31 30 = 2 → s.fieldFitted (fieldOf v 29 24) = false →
      exec (.mdioAccess x v) s = .next ((s.setReg Reg.FLD_MDIO (v &&& 0x7F1FFFFF)).setF F.FLD_MDIO_DATA 0).badVal)) ∧
  (∀ (x : HPort) (v : Word) (s : State),
    s.mayWrite x 9 = true →
    s.on F.FLD_MDIO_GO = true →
    exec (.mdioAccess x v) s = .next s) ∧
  (∀ (data : BitVec 16) (s : State),
    s.on F.FLD_MDIO_GO = true →
    s.on F.FLD_MDIO_WR = false →
    exec (.mdioComplete data) s = .next ((s.setF F.FLD_MDIO_DATA data.toNat).setF F.FLD_MDIO_GO 0)) ∧
  (∀ (data : BitVec 16) (s : State),
    (s.on F.FLD_MDIO_GO = true → s.on F.FLD_MDIO_WR = true → exec (.mdioComplete data) s = .next (s.setF F.FLD_MDIO_GO 0)) ∧
    (s.on F.FLD_MDIO_GO = false → exec (.mdioComplete data) s = .next s)) ∧
  (∀ (i : Fin 64) (data : List Byte) (good : Bool) (s : State),
    s.on (F.FLD_PCTL_EN i) = true →
    s.on (F.FLD_PSTAT_LINK i) = true →
    s.inReset 9 = false →
    exec (.fieldFrameReceived i data good) s = .next
      (if good = false ∨ data.length < 60 ∨ 1518 < data.length then s.addSat (F.FLD_RXERR_CNT i) 1
       else if s.macAccepted i (natBE (data.take 6)) = false then
         (if s.on (F.FLD_PCTL_PROM i) = true then s.fieldToHost i data else s.addSat (F.FLD_RXFILT_CNT i) 1)
       else if (etherOf data).1 ≠ s.rf F.FLD_CTL_ETYPE then s.fieldToHost i data
       else if s.stns.any (fun t => t.port = i.val && t.mac = natBE ((data.drop 6).take 6)) = true then s.fieldToPoints i data
       else s.addSat (F.FLD_RXUNK_CNT i) 1)) ∧
  (∀ (i : Fin 64) (data : List Byte) (good : Bool) (s : State),
    s.on (F.FLD_PCTL_EN i) = false ∨ s.on (F.FLD_PSTAT_LINK i) = false ∨ s.inReset 9 = true →
    exec (.fieldFrameReceived i data good) s = .next s) ∧
  (∀ (k : Nat) (e : Ent) (t : Stn) (s : State),
    s.ents[k]? = some e →
    s.exchanges = true →
    e.activeIn s.frameNo = true →
    s.on (F.FLD_PSTAT_LINK e.port) = true →
    (s.exch e.key).sent ≠ s.frameNo + 1 →
    s.stns.find? (fun u => u.epn = e.epn) = some t →
    exec (.pointFrameTransmit k) s = .next (s.sendRequest e t.mac)) ∧
  (∀ (k : Nat) (e : Ent) (s : State),
    s.ents[k]? = some e →
    s.exchanges = false ∨ e.activeIn s.frameNo = false ∨ s.on (F.FLD_PSTAT_LINK e.port) = false ∨
      (s.exch e.key).sent = s.frameNo + 1 ∨ s.stns.find? (fun u => u.epn = e.epn) = none →
    exec (.pointFrameTransmit k) s = .next s) ∧
  (∀ (k : Nat) (s : State),
    s.ents[k]? = none →
    exec (.pointFrameTransmit k) s = .next s) ∧
  (∀ (i : Fin 64) (time : Nat) (k : Pkt) (ks : List Pkt) (s t : State),
    s.on (F.FLD_PSTAT_LINK i) = true →
    s.inReset 9 = false →
    s.queue (320 + i) = k :: ks →
    s.maySend i time k.data.length = true →
    s.takePkt (320 + i) = (some k, t) →
    exec (.nonpointFrameTransmit i time) s = .next (t.sendAt i time k.data)) ∧
  (∀ (i : Fin 64) (time : Nat) (k : Pkt) (ks : List Pkt) (s t : State),
    s.on (F.FLD_PSTAT_LINK i) = true →
    s.inReset 9 = false →
    s.queue (320 + i) = k :: ks →
    s.maySend i time k.data.length = true →
    s.takePkt (320 + i) = (none, t) →
    exec (.nonpointFrameTransmit i time) s = .next t) ∧
  (∀ (i : Fin 64) (time : Nat) (k : Pkt) (ks : List Pkt) (s : State),
    s.on (F.FLD_PSTAT_LINK i) = true →
    s.inReset 9 = false →
    s.queue (320 + i) = k :: ks →
    s.maySend i time k.data.length = false →
    i.val < 48 →
    s.isHeld i k.seq = false →
    exec (.nonpointFrameTransmit i time) s = .next ((s.setHeld i k.seq).addSat (F.FLD_TXDEFER_CNT i) 1)) ∧
  (∀ (i : Fin 64) (time : Nat) (k : Pkt) (ks : List Pkt) (s : State),
    s.queue (320 + i) = k :: ks →
    s.maySend i time k.data.length = false →
    48 ≤ i.val ∨ s.isHeld i k.seq = true →
    exec (.nonpointFrameTransmit i time) s = .next s) ∧
  (∀ (i : Fin 64) (time : Nat) (s : State),
    s.on (F.FLD_PSTAT_LINK i) = false ∨ s.inReset 9 = true ∨ s.queue (320 + i) = [] →
    exec (.nonpointFrameTransmit i time) s = .next s)

/-- Field power: the frame's poll, the extra reads, back-off, clear, cycle and hold, and the budget of a group. The
poll runs its transactions in order and counts the frame's outcome; a low PWRCTL_FLT_N reads every powered port
again and its failures count in the frame; in block reset neither does anything. The back-off's end starts
detection; 60 s in ON clear the fault count; elsewhere neither has an effect. Of a fitted port whose MODE is not
OFF, CLEAR clears the count and starts detection from FAULT or HOLD, CYCLE switches off, but not from FAULT or HOLD,
and detects after its second, HOLD holds; of any other port each sets BADVAL. A pending OFF stays before a DETECT or
ON. A port admitted at tick 4 keeps its group's charged sum within the budget; one that does not fit stays in WAIT
and its first refusal reports event 0x0904, a later one nothing. -/
def Obligations.FieldPower : Prop :=
  (∀ (rs : List SideResp) (s : State),
    s.inReset 9 = false →
    exec (.pwrctlPoll rs) s = .next ((s.sideFrame.runPoll s.pollList rs).2.sideOutcome (s.sideFrame.runPoll s.pollList rs).1)) ∧
  (∀ (rs : List SideResp) (s : State),
    s.inReset 9 = true →
    exec (.pwrctlPoll rs) s = .next s ∧ exec (.pwrctlFlt rs) s = .next s) ∧
  (∀ (rs : List SideResp) (cs : List SideCmd) (s : State),
    s.inReset 9 = false →
    cs = ((List.range 48).filter (fun i => s.fieldFitted i && s.pwrState i = Pwr.on)).map SideCmd.extra →
    exec (.pwrctlFlt rs) s = .next ((s.runPoll cs rs).2.sideFailed (s.runPoll cs rs).1)) ∧
  (∀ (i : Fin 48) (s : State),
    s.pwrState i = 5 →
    exec (.powerBackoffExpiry i) s = .next (s.toDetect i)) ∧
  (∀ (i : Fin 48) (s : State),
    s.pwrState i ≠ 5 →
    exec (.powerBackoffExpiry i) s = .next s) ∧
  (∀ (i : Fin 48) (s : State),
    s.pwrState i = 4 →
    exec (.faultCountClear i) s = .next (s.setF (F.FLD_PWRSTAT_FCNT i) 0)) ∧
  (∀ (i : Fin 48) (s : State),
    s.pwrState i ≠ 4 →
    exec (.faultCountClear i) s = .next s) ∧
  (∀ (x : HPort) (i : Fin 64) (s : State),
    s.mayWrite x 9 = true →
    i.val < 48 →
    s.fieldFitted i = true →
    s.rf (F.FLD_PWRCFG_MODE i) ≠ 0 →
    exec (.powerClear x i) s = .next (s.pwrClear i) ∧ exec (.powerCycle x i) s = .next (s.pwrCycle i) ∧
      exec (.powerHold x i) s = .next (s.pwrHold i)) ∧
  (∀ (x : HPort) (i : Fin 64) (s : State),
    s.mayWrite x 9 = true →
    48 ≤ i.val ∨ s.fieldFitted i = false ∨ s.rf (F.FLD_PWRCFG_MODE i) = 0 →
    exec (.powerClear x i) s = .next s.badVal ∧ exec (.powerCycle x i) s = .next s.badVal ∧ exec (.powerHold x i) s = .next s.badVal) ∧
  (∀ (i : Fin 48) (s : State),
    (s.pwrClear i).rf (F.FLD_PWRSTAT_FCNT i) = 0 ∧ ((s.pwrClear i).pwr i).wasOn = false ∧
      (s.pwrState i = 6 ∨ s.pwrState i = 7 → (s.pwrClear i).pwrState i = 1) ∧
      (s.pwrState i ≠ 6 → s.pwrState i ≠ 7 → (s.pwrClear i).pwrState i = s.pwrState i)) ∧
  (∀ (i : Fin 48) (s : State),
    (s.pwrState i = 6 ∨ s.pwrState i = 7 → s.pwrCycle i = s) ∧
    (s.pwrState i ≠ 6 → s.pwrState i ≠ 7 → (s.pwrCycle i).pwrState i = 0 ∧ ((s.pwrCycle i).pwr i).cycling = true ∧
      ((s.pwrCycle i).pwr i).cmds = [5] ∧ (s.pwrCycle i).ptx.lost = s.ptx.lost)) ∧
  (∀ (i : Fin 48) (s : State),
    (s.toDetect i).pwrState i = 1 ∧ (s.toDetect i).rf (F.FLD_PWRSTAT_CLASS i) = 0 ∧ ((s.toDetect i).pwr i).cmds = (s.pwr i).cmds.filter (fun k => k = 5) ++ [2] ∧
      (s.pwrHold i).pwrState i = 7 ∧ ((s.pwrHold i).pwr i).cmds = [5] ∧ (s.pwrHold i).ptx.lost = s.ptx.lost ∧
      (∀ j : Fin 48, j ≠ i → (s.pwrHold i).pwrState j = s.pwrState j ∧ (s.toDetect i).pwrState j = s.pwrState j)) ∧
  (∀ (i : Fin 48) (s : State),
    (s.pwr i).cycling = true →
    s.pwrState i = 0 →
    exec (.powerCycleExpiry i) s = .next ((s.setPwr i { s.pwr i with cycling := false }).toDetect i)) ∧
  (∀ (i : Fin 48) (s : State),
    (s.pwr i).cycling = false ∨ s.pwrState i ≠ 0 →
    exec (.powerCycleExpiry i) s = .next s) ∧
  (∀ (i : Fin 48) (s : State),
    s.pwrState i = 3 →
    s.charge (s.rf (F.FLD_PWRSTAT_CLASS i)) ≠ 0 →
    (s.chargeSum (s.pwrGroup i) + s.charge (s.rf (F.FLD_PWRSTAT_CLASS i)) ≤ s.effBudget (s.pwrGroup i) →
      (s.admitPort i).pwrState i = 4 ∧ ((s.admitPort i).pwr i).cmds = (s.pwr i).cmds.filter (fun k => k = 5) ++ [4] ∧
      (s.admitPort i).chargeSum (s.pwrGroup i) = s.chargeSum (s.pwrGroup i) + s.charge (s.rf (F.FLD_PWRSTAT_CLASS i))) ∧
      (s.effBudget (s.pwrGroup i) < s.chargeSum (s.pwrGroup i) + s.charge (s.rf (F.FLD_PWRSTAT_CLASS i)) →
      (s.admitPort i).pwrState i = 3 ∧ (s.admitPort i).chargeSum (s.pwrGroup i) = s.chargeSum (s.pwrGroup i) ∧
      (s.admitPort i = if (s.pwr i).refused = true then s else (s.setPwr i { s.pwr i with refused := true }).report 0x0904 0 (wd i)
        (wd (s.rf (F.FLD_PWRSTAT_CLASS i))) (wd (s.chargeSum (s.pwrGroup i))))))

/-- Pulse input edges filtered and counted by MODE, edges too close together, PWM periods and PWM configuration
writes. An edge that changes a pulse input's pin waits until it is 100 ns old; a second one on the pin within that
time removes both, one that changes nothing is dropped, and in block reset only the level follows. The one that has
waited counts as its MODE says, with its time kept; less than 1 µs after the last counted edge it counts an overrun
with event 0x0D02 instead. A period of an enabled PWM output takes round(duty times PER) as its active time, a tie
free, unless it is held inactive, waits for its restart or the unit is in reset. A permitted PWM write whose
register fits is stored: the output takes the inactive level where EN is 0 and it ran or POL changes, and ends its
period, to start again at the next base tick, where a running one's ALIGN or PER changes; one that does not fit sets
BADVAL, takes POL and leaves a register that fits. (log 56, 177, 180) -/
def Obligations.LocalPulsesAndPwm : Prop :=
  (∀ (n : Fin 8) (onB level : Bool) (time : Nat) (p : PulseIn) (s t : State),
    s.inReset 13 = false →
    t = s.settleEdges n (fun u => decide (u + 20 ≤ time)) →
    p = t.pulse n →
    (p.level onB = level → exec (.pulseInputEdge n onB level time) s = .next t) ∧
    (p.level onB ≠ level → p.pend.any (fun e => e.1 = onB) = true →
      exec (.pulseInputEdge n onB level time) s = .next (t.setPulse n { p with pend := p.pend.filter (fun e => e.1 != onB) })) ∧
    (p.level onB ≠ level → p.pend.any (fun e => e.1 = onB) = false →
      exec (.pulseInputEdge n onB level time) s = .next (t.setPulse n { p with pend := p.pend ++ [(onB, level, time)] }))) ∧
  (∀ (n : Fin 8) (onB level : Bool) (time : Nat) (s : State),
    s.inReset 13 = true →
    exec (.pulseInputEdge n onB level time) s =
      .next (s.setPulse n (if onB then { s.pulse n with b := level } else { s.pulse n with a := level }))) ∧
  (∀ (n : Fin 8) (b l : Bool) (u : Nat) (old : Nat → Bool) (s : State),
    (s.pulse n).pend = [(b, l, u)] →
    old u = true →
    s.settleEdges n old = (s.setPulse n { s.pulse n with pend := [] }).takeEdge n b l u) ∧
  (∀ (n : Fin 8) (old : Nat → Bool) (s : State),
    (s.pulse n).pend.all (fun e => !old e.2.2) = true →
    (s.settleEdges n old).pulse n = s.pulse n ∧ (s.settleEdges n old).regs = s.regs) ∧
  (∀ (n : Fin 8) (onB level : Bool) (time : Nat) (p : PulseIn) (d : Int) (s : State),
    p = (if onB then { s.pulse n with b := level } else { s.pulse n with a := level }) →
    d = edgeStep (s.lioRf (F.LIO_PICFG_MODE n)) onB level p.a p.b →
    (d = 0 → s.takeEdge n onB level time = s.setPulse n p) ∧
    (d ≠ 0 → p.last = 0 ∨ p.last + 200 ≤ time + 1 →
      s.takeEdge n onB level time = (let c := p.cnt + wdInt d;
        s.setPulse n { p with cnt := c, last := time + 1, edges := p.edges ++ [{ tick := s.lio.tick, time := time, cnt := c }] })) ∧
    (d ≠ 0 → p.last ≠ 0 → time + 1 < p.last + 200 →
      s.takeEdge n onB level time = (((s.setPulse n p).addSat (F.LIO_PIOVR_CNT n) 1).raise Reg.LIO_STAT Reg.LIO_IEN 13 (16 + n)).report
        0x0D02 0 (wd n) (((s.setPulse n p).addSat (F.LIO_PIOVR_CNT n) 1).reg (Reg.LIO_PIOVR n)) 0)) ∧
  (∀ (a b : Bool) (onB level : Bool),
    edgeStep 0 onB level a b = 0 ∧ edgeStep 1 onB level a b = (if onB = false ∧ level = true then 1 else 0) ∧
      edgeStep 2 onB level a b = (if onB = false ∧ level = true then (if b = true then -1 else 1) else 0)) ∧
  (∀ (n : Fin 8) (s : State),
    s.inReset 13 = false →
    s.on (F.LIO_PWCFG_EN n) = true →
    Store.get noFlag s.lio.pwmHeld n = false →
    Store.get natZero s.lio.restart n ≤ s.lio.tick →
    ∃ t, exec (.pwmPeriodStart n) s = .next t ∧ t.reg (Reg.LIO_PWDUTY n) = wd (s.pwmActive n) ∧
      t.out = (.pwm n (s.pwmActive n) (s.on (F.LIO_PWCFG_POL n))) :: s.out ∧
      (∀ m : Fin 8, m ≠ n → t.reg (Reg.LIO_PWDUTY m) = s.reg (Reg.LIO_PWDUTY m)) ∧ t.host = s.host) ∧
  (∀ (n : Fin 8) (s : State),
    s.inReset 13 = true ∨ s.on (F.LIO_PWCFG_EN n) = false ∨ Store.get noFlag s.lio.pwmHeld n = true ∨
      s.lio.tick < Store.get natZero s.lio.restart n →
    exec (.pwmPeriodStart n) s = .next s) ∧
  (∀ (x : HPort) (n : Fin 8) (v w : Word) (s : State),
    s.mayWrite x 13 = true →
    w = (s.writeFields (Reg.LIO_PWCFG n) v).reg (Reg.LIO_PWCFG n) →
    pwmCfgOk w = true →
    ∃ t, exec (.pwmConfigWrite x n v) s = .next t ∧ t.reg (Reg.LIO_PWCFG n) = w ∧ t.host = s.host ∧
      (∀ m : Fin 8, m ≠ n → t.reg (Reg.LIO_PWCFG m) = s.reg (Reg.LIO_PWCFG m) ∧ t.reg (Reg.LIO_PWDUTY m) = s.reg (Reg.LIO_PWDUTY m)) ∧
      (fieldOf w 31 31 = 0 → s.pwmRuns n = true ∨ fieldOf (s.reg (Reg.LIO_PWCFG n)) 29 29 ≠ fieldOf w 29 29 →
        t.reg (Reg.LIO_PWDUTY n) = 0 ∧ t.out = (.pwm n 0 (fieldOf w 29 29 = 1)) :: s.out) ∧
      (fieldOf w 31 31 = 1 → s.pwmRuns n = true →
        fieldOf (s.reg (Reg.LIO_PWCFG n)) 30 30 ≠ fieldOf w 30 30 ∨ fieldOf (s.reg (Reg.LIO_PWCFG n)) 23 0 ≠ fieldOf w 23 0 →
        t.reg (Reg.LIO_PWDUTY n) = 0 ∧ t.out = (.pwm n 0 (fieldOf (s.reg (Reg.LIO_PWCFG n)) 29 29 = 1)) :: s.out ∧
          Store.get natZero t.lio.restart n = s.lio.tick + 1) ∧
      (fieldOf w 31 31 = 1 → s.pwmRuns n = false → t.reg (Reg.LIO_PWDUTY n) = s.reg (Reg.LIO_PWDUTY n) ∧ t.out = s.out)) ∧
  (∀ (x : HPort) (n : Fin 8) (v w : Word) (s : State),
    s.mayWrite x 13 = true →
    w = (s.writeFields (Reg.LIO_PWCFG n) v).reg (Reg.LIO_PWCFG n) →
    pwmCfgOk w = false →
    pwmCfgOk (s.reg (Reg.LIO_PWCFG n)) = true →
    ∃ t, exec (.pwmConfigWrite x n v) s = .next t ∧ t.on F.SYS_STAT_BADVAL = true ∧ pwmCfgOk (t.reg (Reg.LIO_PWCFG n)) = true ∧
      fieldOf (t.reg (Reg.LIO_PWCFG n)) 29 29 = fieldOf w 29 29)

/-- Metering pulses, regular saves, clear requests, interval control and pulse configuration. The first waiting
start of an enabled pulse output starts a pulse, counts it and fixes its end: WIDTH, or half the interval since the
start before, and no later than the midpoint to a next start that comes sooner; its end drives the inactive level;
with no start waiting, in reset or disabled, and with no pulse, neither does anything. A regular save writes the
copied accumulators over the bank that does not hold the newest save and shows its number; with none it does
nothing. Permitted writes: a clear request names its circuit for the next latch, an interval length out of range is
refused with BADVAL and EN is taken; of an enabled pulse output a WIDTH out of range keeps the old one and sets
BADVAL, a changed POL drives the pin, and an output whose circuit, quantity or constant changes loses its residue at
the next latch. (log 158, 177) -/
def Obligations.MeteringPulsesAndSaves : Prop :=
  (∀ (k : Fin 8) (u : Nat) (us : List Nat) (s : State),
    Store.get noNats s.mtr.starts k = u :: us →
    s.inReset 14 = false →
    s.on (F.MTR_PCFG_EN k) = true →
    ∃ t, exec (.pulseStart k) s = .next t ∧ t.reg (Reg.MTR_PCNT k) = s.reg (Reg.MTR_PCNT k) + 1 ∧
      Store.get noNats t.mtr.starts k = us ∧ Store.get natZero t.mtr.lastStart k = u + 1 ∧ Store.get noFlag t.mtr.active k = true ∧
      t.out = (.pulse k true (s.on (F.MTR_PCFG_POL k))) :: s.out ∧
      Store.get natZero t.mtr.ends k ≤ u + s.rf (F.MTR_PCFG_WIDTH k) * 1000 ∧
      (us = [] → Store.get natZero s.mtr.lastStart k = 0 → Store.get natZero t.mtr.ends k = u + s.rf (F.MTR_PCFG_WIDTH k) * 1000) ∧
      (∀ j : Fin 8, j ≠ k → t.reg (Reg.MTR_PCNT j) = s.reg (Reg.MTR_PCNT j) ∧ Store.get noNats t.mtr.starts j = Store.get noNats s.mtr.starts j)) ∧
  (∀ (k : Fin 8) (u n p len : Nat) (us : List Nat) (s : State),
    Store.get noNats s.mtr.starts k = u :: n :: us →
    s.inReset 14 = false →
    s.on (F.MTR_PCFG_EN k) = true →
    p = Store.get natZero s.mtr.lastStart k →
    len = (if p = 0 then s.rf (F.MTR_PCFG_WIDTH k) * 1000 else min (s.rf (F.MTR_PCFG_WIDTH k) * 1000) ((u + 1 - p) / 2)) →
    ∃ t, exec (.pulseStart k) s = .next t ∧ Store.get natZero t.mtr.ends k = (if n < u + len then (u + n) / 2 else u + len)) ∧
  (∀ (k : Fin 8) (s : State),
    Store.get noNats s.mtr.starts k = [] ∨ s.inReset 14 = true ∨ s.on (F.MTR_PCFG_EN k) = false →
    exec (.pulseStart k) s = .next s) ∧
  (∀ (k : Fin 8) (s : State),
    Store.get noFlag s.mtr.active k = true →
    exec (.pulseEnd k) s = .next ((s.setMtr { s.mtr with active := Store.put noFlag s.mtr.active k false }).emit
      (.pulse k false (s.on (F.MTR_PCFG_POL k))))) ∧
  (∀ (k : Fin 8) (s : State),
    Store.get noFlag s.mtr.active k = false →
    exec (.pulseEnd k) s = .next s) ∧
  (∀ (s : State),
    s.mtr.saving = none →
    exec .regularSaveComplete s = .next s) ∧
  (∀ (b : Bank) (s : State),
    s.mtr.saving = some b →
    ∃ t, exec .regularSaveComplete s = .next t ∧ t.reg Reg.MTR_BANKSEQ = b.seq ∧ t.mtr.saving = none ∧ (t.mtr.kept.bank0 = some b ∨ t.mtr.kept.bank1 = some b) ∧
      (s.mtr.kept.bank0 ≠ s.mtr.kept.bank1 → ∀ n, newestBank s.mtr.kept.bank0 s.mtr.kept.bank1 = some n →
      t.mtr.kept.bank0 = some n ∨ t.mtr.kept.bank1 = some n)) ∧
  (∀ (b : Bank) (s : State),
    s.mtr.saving = some b →
    exec .regularSaveComplete s = .next ((s.setMtr { s.mtr with saving := none }).writeBank b)) ∧
  (∀ (x : HPort) (v : Word) (s : State),
    s.mayWrite x 14 = true →
    fieldOf v 31 31 = 1 →
    fieldOf v 6 0 < 72 →
    ∃ t, exec (.accumulatorClearRequest x v) s = .next t ∧ t.mtr.clears = s.mtr.clears ++ [fieldOf v 6 0] ∧ t.mtr.acc = s.mtr.acc) ∧
  (∀ (x : HPort) (v : Word) (s : State),
    s.mayWrite x 14 = true →
    fieldOf v 31 31 = 0 ∨ 72 ≤ fieldOf v 6 0 →
    exec (.accumulatorClearRequest x v) s = .next (s.writeFields Reg.MTR_ACCCLR v)) ∧
  (∀ (x : HPort) (v : Word) (s : State),
    s.mayWrite x 14 = true →
    60 ≤ fieldOf v 11 0 →
    3600 % fieldOf v 11 0 = 0 →
    fieldOf v 11 0 ≤ 3600 →
    exec (.intervalControlWrite x v) s = .next (s.writeFields Reg.MTR_IVCTL v)) ∧
  (∀ (x : HPort) (v : Word) (s : State),
    s.mayWrite x 14 = true →
    fieldOf v 11 0 < 60 ∨ 3600 < fieldOf v 11 0 ∨ 3600 % fieldOf v 11 0 ≠ 0 →
    exec (.intervalControlWrite x v) s = .next ((s.setF F.MTR_IVCTL_EN (fieldOf v 31 31)).badVal)) ∧
  (∀ (x : HPort) (k : Fin 8) (v : Word) (s : State),
    s.mayWrite x 14 = true →
    ∃ t, exec (.pulseOutputConfigWrite x k false v) s = .next t ∧
      (fieldOf v 31 31 = 1 → fieldOf v 15 8 < 2 ∨ 100 < fieldOf v 15 8 →
        t.rf (F.MTR_PCFG_WIDTH k) = s.rf (F.MTR_PCFG_WIDTH k) ∧ t.on F.SYS_STAT_BADVAL = true) ∧
      (t.rf (F.MTR_PCFG_POL k) ≠ s.rf (F.MTR_PCFG_POL k) →
        t.out = (.pulse k (Store.get noFlag s.mtr.active k) (t.on (F.MTR_PCFG_POL k))) :: s.out) ∧
      (t.rf (F.MTR_PCFG_CIRC k) ≠ s.rf (F.MTR_PCFG_CIRC k) → Store.get noFlag t.mtr.clearRes k = true) ∧
      (t.rf (F.MTR_PCFG_QTY k) ≠ s.rf (F.MTR_PCFG_QTY k) → Store.get noFlag t.mtr.clearRes k = true) ∧
      t.mtr.residue = s.mtr.residue ∧ t.reg (Reg.MTR_PMC k) = s.reg (Reg.MTR_PMC k)) ∧
  (∀ (x : HPort) (k : Fin 8) (v : Word) (s : State),
    s.mayWrite x 14 = true →
    fieldOf v 31 31 = 0 ∨ (2 ≤ fieldOf v 15 8 ∧ fieldOf v 15 8 ≤ 100) →
    ∃ t, exec (.pulseOutputConfigWrite x k false v) s = .next t ∧
      t.reg (Reg.MTR_PCFG k) = (s.writeFields (Reg.MTR_PCFG k) v).reg (Reg.MTR_PCFG k)) ∧
  (∀ (x : HPort) (k : Fin 8) (v : Word) (s : State),
    s.mayWrite x 14 = true →
    ∃ t, exec (.pulseOutputConfigWrite x k true v) s = .next t ∧
      (t.rf (F.MTR_PMC_MC k) ≠ s.rf (F.MTR_PMC_MC k) → Store.get noFlag t.mtr.clearRes k = true) ∧
      t.reg (Reg.MTR_PMC k) = (s.writeFields (Reg.MTR_PMC k) v).reg (Reg.MTR_PMC k) ∧
      t.mtr.residue = s.mtr.residue ∧ t.reg (Reg.MTR_PCFG k) = s.reg (Reg.MTR_PCFG k))

/-- Theft watch settings, bursts, evaluation and clearing; Keep state and the always-on domain's power-on reset. A
permitted watch entry write is stored with a copy of the calibration; a permitted clear zeroes the named totals. A
burst powers the modulators, clocks them and keeps the RMS of each channel's calibrated codes while the domain
watches, and sets LOWB instead with VBAK below 2.7 V. An evaluation switches them off and judges every enabled
entry: a qualifying entry's total grows by its current in tenths, a first qualifying burst opens an episode while
fewer than 32 are open and counts OVF otherwise, a non-qualifying one ends the run; outside the watch neither does
anything. Rounding of a current is open (log 159). Keep state records the second of the loss and resets all but the
always-on domain, and changes nothing in Keep; that domain's power-on reset in Keep or before start zeroes its count
and sets OSF with CPOR. -/
def Obligations.TheftWatchAndSupplyLoss : Prop :=
  (∀ (x : HPort) (k : Fin 16) (v : Word) (s : State),
    s.mayWrite x 14 = true →
    exec (.theftWatchConfigWrite x k v) s = .next ((s.writeFields (Reg.MTR_TW k) v).copyWatch)) ∧
  (∀ (x : HPort) (v : Word) (s : State),
    s.mayWrite x 14 = true →
    ∃ t, exec (.theftWatchClear x v) s = .next t ∧ (∀ k : Fin 16, t.reg (Reg.MTR_TWAS k) =
      if bitOf v.toNat k then 0 else s.reg (Reg.MTR_TWAS k)) ∧ t.mtr = s.mtr ∧ t.host = s.host) ∧
  (∀ (codes : List (List Int)) (s : State),
    s.watching = true →
    ∃ t, exec (.theftWatchBurst codes) s = .next t ∧
      t.mtr.kept.watchRms = (List.range 80).map (fun c => watchRms s.mtr.kept.watchCal c (codes.getD c [])) ∧
      t.out = (.mclk 8 true) :: (.modPower true) :: s.out ∧ t.regs = s.regs ∧ t.mtr.acc = s.mtr.acc) ∧
  (∀ (codes : List (List Int)) (s : State),
    s.variant.lacks 14 = true ∨ s.time.keep = false ∨ s.on F.MTR_TWCTL_EN = false →
    exec (.theftWatchBurst codes) s = .next s) ∧
  (∀ (codes : List (List Int)) (s : State),
    s.variant.lacks 14 = false →
    s.time.keep = true →
    s.on F.MTR_TWCTL_EN = true →
    s.rf F.PWR_MEAS_VBAK < 270 →
    exec (.theftWatchBurst codes) s = .next (s.setF F.MTR_TWSTAT_LOWB 1)) ∧
  (∀ (s : State),
    s.watching = true →
    exec .theftWatchEvaluation s = .next (forUpto 16 ((s.emit (.mclk 8 false)).emit (.modPower false)) (fun k t => t.watchEntry k))) ∧
  (∀ (s : State),
    s.watching = false →
    exec .theftWatchEvaluation s = .next s) ∧
  (∀ (k : Fin 16) (s : State),
    s.on (F.MTR_TW_EN k) = false →
    s.watchEntry k = s) ∧
  (∀ (k : Fin 16) (s : State),
    s.on (F.MTR_TW_EN k) = true →
    (s.watchJudge k).2 = false →
    Store.get noFlag (s.watchEntry k).mtr.kept.qualified k = false ∧ (s.watchEntry k).mtr.kept.episodes = s.mtr.kept.episodes ∧
      (s.watchEntry k).regs = s.regs) ∧
  (∀ (k : Fin 16) (s : State),
    s.on (F.MTR_TW_EN k) = true →
    (s.watchJudge k).2 = true →
    Store.get noFlag s.mtr.kept.qualified k = false →
    32 ≤ s.mtr.kept.episodes.length →
    (s.watchEntry k).mtr.kept.episodes = s.mtr.kept.episodes ∧ Store.get noFlag (s.watchEntry k).mtr.kept.qualified k = true ∧
      (s.watchEntry k).rf F.MTR_TWSTAT_OVF = ((s.addSat F.MTR_TWSTAT_OVF 1)).rf F.MTR_TWSTAT_OVF) ∧
  (∀ (k : Fin 16) (s : State),
    s.on (F.MTR_TW_EN k) = true →
    (s.watchJudge k).2 = true →
    Store.get noFlag s.mtr.kept.qualified k = true →
    Store.get noFlag s.mtr.kept.recorded k = false →
    (s.watchEntry k).mtr.kept = s.mtr.kept ∧ (s.watchEntry k).rf (F.MTR_TWAS_AS k) =
      min (s.rf (F.MTR_TWAS_AS k) + wholeUnits ((s.watchJudge k).1.mul (fpInt 10)) (bitOf s.freeVal.toNat 1)) 0xFFFFFFFF) ∧
  (∀ (k : Fin 16) (s : State),
    s.on (F.MTR_TW_EN k) = true →
    (s.watchJudge k).2 = true →
    Store.get noFlag s.mtr.kept.qualified k = false →
    s.mtr.kept.episodes.length < 32 →
    (s.watchEntry k).mtr.kept.episodes = s.mtr.kept.episodes ++ [{ entry := k, start := wd (s.time.sec.toNat % 2 ^ 32), bursts := 1, peak := wholeUnits ((s.watchJudge k).1.mul (fpInt 100)) (bitOf s.freeVal.toNat 0) }] ∧ Store.get noFlag (s.watchEntry k).mtr.kept.qualified k = true ∧
      (s.watchEntry k).rf (F.MTR_TWAS_AS k) = min (s.rf (F.MTR_TWAS_AS k) + wholeUnits ((s.watchJudge k).1.mul (fpInt 10)) (bitOf s.freeVal.toNat 1)) 0xFFFFFFFF ∧
      (s.watchEntry k).rf F.MTR_TWSTAT_NREC = (s.mtr.kept.episodes.length + 1) % 64) ∧
  (∀ (s : State),
    s.time.keep = false →
    ∃ t, exec .keepStateEntry s = .next t ∧ t.time.keep = true ∧ t.reg Reg.PWR_LOSSSEC = wd (s.time.sec.toNat % 2 ^ 32) ∧
      t.rst.outage = true ∧ t.time.sec = s.time.sec) ∧
  (∀ (s : State),
    s.time.keep = true →
    exec .keepStateEntry s = .next s) ∧
  (∀ (s : State),
    s.time.keep = false →
    s.rst.phase ≠ 0 →
    exec .aonPowerOnReset s = .next s) ∧
  (∀ (s : State),
    s.time.keep = true ∨ s.rst.phase = 0 →
    ∃ t, exec .aonPowerOnReset s = .next t ∧ t.time.sec = 0 ∧ t.time.frac = 0 ∧ t.mtr.kept.episodes = [] ∧ t.on F.RTC_STAT_OSF = true ∧ t.on F.RTC_STAT_CPOR = true ∧
      t.mtr.kept.snaps = s.mtr.kept.snaps ∧ t.ptx = s.ptx)

/-- A channel's cycle never drives a switch without permission, request and output enable; faults and test pulses
lock. After a cycle of a running channel, a gate signal is 1 only if the channel is not locked out and sees
SAF_OEACT, and the brake channel has permission and request, no test in progress and no supply warning. A switch
whose readback does not follow its test pulse is fault 0x05; safe input pulses are judged per contact; in a module
without the island, before its start and in a self-test neither cycle nor pulse does anything, and a switch that is
off is not tested. A fault by one channel locks it at once, with all its gate signals 0, and tells the other.
Requests that stop for 3 ms are 0; after an interruption they only start the edges anew; requests to an island that
does not run are lost. When SAF_OEACT rises, both channels switch on what they have held ready for 100 ms. -/
def Obligations.SafetyIslandCycle : Prop :=
  (∀ (c : SafCh) (v : SafView) (s : State),
    s.hasIsland = true →
    s.saf.run = true →
    s.saf.selfTest = false →
    ∃ t, exec (.safetyCycle c v) s = .next t ∧ (∀ k : Fin 8, bitOf (t.chan c).gates k = true →
      (t.chan c).locked = false ∧ (t.chan c).oe = true ∧ bitOf (t.chan c).perm k = true ∧ bitOf t.saf.req k = true ∧
      t.brakeTest k = 0 ∧ t.saf.warn = false) ∧ t.saf.req = s.saf.req) ∧
  (∀ (c : SafCh) (v : SafView) (stp : SafCh) (a b : BitVec 16) (s : State),
    s.hasIsland = false ∨ s.saf.run = false ∨ s.saf.selfTest = true →
    exec (.safetyCycle c v) s = .next s ∧ exec (.safeInputTestPulse stp c a b) s = .next s) ∧
  (∀ (c : SafCh) (k : Fin 8) (fell rose : Bool) (s : State),
    s.hasIsland = true →
    s.brakeOn k = true →
    (s.chan c).oe = true →
    exec (.switchTestPulse c k fell rose) s = .next (let t := (s.emit (.gate c k false)).emit (.gate c k true);
      (if fell = true ∧ rose = true then t else t.faultBy c 0x05 k).safShow)) ∧
  (∀ (c : SafCh) (k : Fin 8) (fell rose : Bool) (s : State),
    s.hasIsland = false ∨ s.brakeOn k = false ∨ (s.chan c).oe = false →
    exec (.switchTestPulse c k fell rose) s = .next s) ∧
  (∀ (c : SafCh) (cause obj : Nat) (s : State),
    ((s.faultBy c cause obj).chan c).locked = true ∧ ((s.faultBy c cause obj).chan c).gates = 0 ∧
      (((s.chan c.other).locked = false) → ((s.faultBy c cause obj).chan c.other).told = true) ∧
      ((s.faultBoth cause obj).chan c).locked = true ∧ ((s.faultBoth cause obj).chan c).gates = 0) ∧
  (∀ (stp c : SafCh) (a b : BitVec 16) (s : State),
    s.hasIsland = true →
    s.saf.run = true →
    s.saf.selfTest = false →
    exec (.safeInputTestPulse stp c a b) s = .next (forUpto 16 s (fun n t =>
      if t.inEn n = true ∧ fieldOf (t.setWord (2 + n)) 29 29 = 1 then
        (t.judgePulse c stp n 0 (!bitOf a.toNat n)).judgePulse c stp n 1 (!bitOf b.toNat n) else t)).safShow) ∧
  (∀ (req treq : Nat) (s : State),
    s.saf.sent = some (req, treq) →
    s.hasIsland = true →
    s.saf.run = true →
    ∃ t, exec .requestUpdate s = .next t ∧ t.saf.sent = none ∧ t.saf.link = true ∧ t.saf.req = req ∧ t.saf.treq = treq ∧
      (s.saf.link = false → (t.chan .x).prevReq = req ∧ (t.chan .y).prevReq = req)) ∧
  (∀ (s : State),
    (s.saf.sent = none → exec .requestUpdate s = .next s) ∧
    (s.saf.sent ≠ none → s.hasIsland = false ∨ s.saf.run = false →
      exec .requestUpdate s = .next (s.setSaf { s.saf with sent := none }))) ∧
  (∀ (s : State),
    s.hasIsland = true →
    s.saf.link = true →
    ∃ t, exec .safLinkTimeout s = .next t ∧ t.saf.link = false ∧ t.saf.req = 0 ∧ t.saf.treq = 0 ∧ (∀ k : Fin 8, bitOf s.saf.treq k = true → t.brakeTest k = 0)) ∧
  (∀ (s : State),
    s.hasIsland = false ∨ s.saf.link = false →
    exec .safLinkTimeout s = .next s) ∧
  (∀ (s : State),
    s.hasIsland = true →
    s.saf.run = true →
    exec .safOeactRise s = .next ((s.oeRise .x).oeRise .y).safShow) ∧
  (∀ (s : State),
    s.hasIsland = false ∨ s.saf.run = false →
    exec .safOeactRise s = .next s) ∧
  (∀ (c : SafCh) (s : State),
    (s.chan c).oe = true →
    s.oeRise c = s) ∧
  (∀ (c : SafCh) (k : Fin 8) (s : State),
    (s.chan c).oe = false →
    bitOf ((s.oeRise c).chan c).gates k = true →
    100 ≤ Store.get natZero (s.chan c).held k ∧ (s.chan c).locked = false ∧ s.brakeTest k = 0 ∧ s.degraded = [] ∧ s.saf.warn = false)

/-- Safety messages: copies taken in order, missing copies, degraded operation, the stream watchdog, and sending.
The oldest message copy is taken, and lost where the island does not run. A missing copy clears its LAN's baseline
and counts; the third in a row of one LAN starts degraded operation, unless a communication fault is pending, or
locks both channels where the time class is 0 or another LAN is degraded. A degraded channel's timer at 0 is fault
0x0C; 60 s of both LANs good outside degraded operation restore its full time. An enabled stream that has delivered
and is silent for 20 ms is fault 0x0B. An enabled transmit stream of a running island moves to its next sequence
number while both channels see SAF_OEACT. Otherwise none of these does anything. -/
def Obligations.SafetyMessagesAndDegradedOperation : Prop :=
  (∀ (lanB : Bool) (m : List Byte) (rest : List (Bool × List Byte)) (s : State),
    s.saf.inbox = (lanB, m) :: rest →
    s.hasIsland = true →
    s.saf.run = true →
    s.saf.selfTest = false →
    exec .safetyMessageCopy s = .next (((s.setSaf { s.saf with inbox := rest }).takeCopy lanB m).safShow)) ∧
  (∀ (k : Bool × List Byte) (rest : List (Bool × List Byte)) (s : State),
    s.saf.inbox = k :: rest →
    s.hasIsland = false ∨ s.saf.run = false ∨ s.saf.selfTest = true →
    exec .safetyMessageCopy s = .next (s.setSaf { s.saf with inbox := rest })) ∧
  (∀ (s : State),
    s.saf.inbox = [] →
    exec .safetyMessageCopy s = .next s) ∧
  (∀ (j : Fin 16) (lanB : Bool) (k : Bool × Nat × List Byte) (s : State),
    (s.stream j).single.find? (fun e => e.1 != lanB) = some k →
    (s.stream j).missB ≠ lanB ∨ (s.stream j).miss = 0 →
    ∃ t, exec (.copyMissing j lanB) s = .next t ∧ (t.stream j).miss = 1 ∧ (t.stream j).missB = lanB ∧ (t.stream j).pairs = 0 ∧
      (t.stream j).single = (s.stream j).single.filter (fun e => e != k) ∧
      (if lanB then (t.stream j).okB = false ∧ (t.stream j).baseB = none else (t.stream j).okA = false ∧ (t.stream j).baseA = none)) ∧
  (∀ (j : Fin 16) (lanB : Bool) (k : Bool × Nat × List Byte) (s : State),
    (s.stream j).single.find? (fun e => e.1 != lanB) = some k →
    (s.stream j).missB = lanB →
    2 ≤ (s.stream j).miss →
    (s.stream j).degr = false →
    s.saf.kept.causes / 2 ^ 7 % 16 = 0 →
    ∃ t, exec (.copyMissing j lanB) s = .next t ∧ (t.stream j).miss = 3 ∧
      (s.degClass ≠ 0 → s.degraded.any (fun i => (s.stream i).degrB != lanB) = false →
        (t.stream j).degr = true ∧ (t.stream j).degrB = lanB) ∧
      (s.degClass = 0 ∨ s.degraded.any (fun i => (s.stream i).degrB != lanB) = true →
        (t.stream j).degr = false ∧ (t.chan .x).locked = true ∧ (t.chan .y).locked = true)) ∧
  (∀ (j : Fin 16) (lanB : Bool) (s : State),
    (s.stream j).single.find? (fun e => e.1 != lanB) = none →
    exec (.copyMissing j lanB) s = .next s) ∧
  (∀ (c : SafCh) (s : State),
    s.degraded ≠ [] →
    (s.chan c).rem = 0 →
    exec (.degradedTimerExpiry c) s = .next (s.faultBy c 0x0C 0xFF).safShow) ∧
  (∀ (c : SafCh) (s : State),
    s.degraded = [] ∨ (s.chan c).rem ≠ 0 →
    exec (.degradedTimerExpiry c) s = .next s) ∧
  (∀ (s : State),
    s.degraded ≠ [] ∨ s.saf.good < 60000 →
    exec .degradedTimerRestore s = .next s) ∧
  (∀ (s : State),
    (s.fullDegraded.chan .x).rem = degTime s.degClass ∧ (s.fullDegraded.chan .y).rem = degTime s.degClass) ∧
  (∀ (s : State),
    s.degraded = [] →
    60000 ≤ s.saf.good →
    exec .degradedTimerRestore s = .next s.fullDegraded.safShow) ∧
  (∀ (j : Fin 16) (s : State),
    s.hasIsland = true →
    s.rxEn j = true →
    (s.stream j).ever = true →
    exec (.streamWatchdog j) s = .next ((s.setStream j { s.stream j with pairs := 0 }).faultBoth 0x0B j).safShow) ∧
  (∀ (j : Fin 16) (s : State),
    s.hasIsland = false ∨ s.rxEn j = false ∨ (s.stream j).ever = false →
    exec (.streamWatchdog j) s = .next s) ∧
  (∀ (j : Fin 4) (s : State),
    s.hasIsland = false ∨ s.saf.run = false ∨ s.saf.selfTest = true ∨ s.oeact = false ∨ s.txEn j = false →
    exec (.safetyMessageSend j) s = .next s) ∧
  (∀ (j : Fin 4) (s : State),
    s.hasIsland = true →
    s.saf.run = true →
    s.saf.selfTest = false →
    s.oeact = true →
    s.txEn j = true →
    ∃ t, exec (.safetyMessageSend j) s = .next t ∧ (t.safTx j) = { started := true, seq := ((s.safTx j).seq + 1) % 2 ^ 32, stepped := false } ∧
      (∀ i : Fin 4, i ≠ j → t.safTx i = s.safTx i))

/-- Brake tests, their due and overdue hours, the local reset, and the island's start and self-test. TDLY after a
brake test's start both counts begin at 0; at the window's end a test within SLIP whose counts differ by at most 2
has passed, with event 0x0F05; one beyond SLIP is fault 0x0E, one whose counts differ by more fault 0x15. BTINT
hours since the last pass record event 0x0F06 once, 1.5 times BTINT is fault 0x0F once. A press over 5 s is refused,
one under 0.5 s, or of an island that is not locked out or not running, ignored; a reset with every cause gone and
none of the island's own ends the lock-out, with one of its own it begins a self-test, and with one not gone it is
refused. A start leaves only the non-volatile memory and begins a self-test; a switch reading that differs is fault
0x10; a failed self-test is a fault, and both ends of a start's test record event 0x0F0C with whether a lock-out was
restored; the test of a reset ends the lock-out or refuses the reset. -/
def Obligations.BrakeTestsResetsAndIslandStart : Prop :=
  (∀ (k : Fin 8) (s : State),
    s.brakeTest k = 1 →
    ∃ t, exec (.brakeTestDelayExpiry k) s = .next t ∧ t.brakeTest k = 2 ∧ Store.get natZero (t.chan .x).enc k = 0 ∧ Store.get natZero (t.chan .y).enc k = 0) ∧
  (∀ (k : Fin 8) (s : State),
    (s.brakeTest k ≠ 1 → exec (.brakeTestDelayExpiry k) s = .next s) ∧
    (s.brakeTest k ≠ 2 → exec (.brakeTestWindowEnd k) s = .next s)) ∧
  (∀ (k : Fin 8) (ex ey slip : Nat) (s : State),
    s.brakeTest k = 2 →
    ex = Store.get natZero s.saf.x.enc k →
    ey = Store.get natZero s.saf.y.enc k →
    slip = fieldOf (s.brkWord k 6) 23 12 →
    (ex ≤ slip ∧ ey ≤ slip ∧ ex ≤ ey + 2 ∧ ey ≤ ex + 2 → exec (.brakeTestWindowEnd k) s = .next (s.testPassed k).safShow) ∧
      (slip < ex ∨ slip < ey → ex ≤ ey + 2 → ey ≤ ex + 2 →
      exec (.brakeTestWindowEnd k) s = .next ((s.endTest k 2).faultBoth 0x0E k).safShow) ∧
      (ex ≤ slip → ey ≤ slip → ey + 2 < ex ∨ ex + 2 < ey →
      exec (.brakeTestWindowEnd k) s = .next ((s.endTest k 2).faultBoth 0x15 k).safShow) ∧
      (slip < ex ∨ slip < ey → ey + 2 < ex ∨ ex + 2 < ey →
      exec (.brakeTestWindowEnd k) s = .next (((s.endTest k 2).faultBoth 0x0E k).faultBoth 0x15 k).safShow)) ∧
  (∀ (k : Fin 8) (s : State),
    s.brakeTest k = 2 →
    Store.get natZero s.saf.x.enc k = 0 →
    Store.get natZero s.saf.y.enc k = 0 →
    exec (.brakeTestWindowEnd k) s = .next (s.testPassed k).safShow) ∧
  (∀ (k : Fin 8) (s : State),
    s.hasIsland = true →
    s.brkTested k = true →
    bitOf s.saf.due k = false →
    s.btInt k ≤ Store.get natZero s.saf.elapsed k →
    ∃ t, exec (.brakeTestDue k) s = .next t ∧ bitOf t.saf.due k = true ∧ t.saf.kept = s.saf.kept ∧ t.saf.x = s.saf.x ∧ t.saf.y = s.saf.y) ∧
  (∀ (k : Fin 8) (s : State),
    s.hasIsland = false ∨ s.brkTested k = false →
    exec (.brakeTestDue k) s = .next s ∧ exec (.brakeTestOverdue k) s = .next s) ∧
  (∀ (k : Fin 8) (s : State),
    (bitOf s.saf.due k = true ∨ Store.get natZero s.saf.elapsed k < s.btInt k → exec (.brakeTestDue k) s = .next s) ∧
    (bitOf s.saf.kept.overdueK k = true ∨ 2 * Store.get natZero s.saf.elapsed k < 3 * s.btInt k →
      exec (.brakeTestOverdue k) s = .next s)) ∧
  (∀ (k : Fin 8) (s : State),
    s.hasIsland = true →
    s.brkTested k = true →
    bitOf s.saf.kept.overdueK k = false →
    3 * s.btInt k ≤ 2 * Store.get natZero s.saf.elapsed k →
    exec (.brakeTestOverdue k) s = .next (s.faultBoth 0x0F k).safShow) ∧
  (∀ (press : Nat) (s : State),
    s.hasIsland = true →
    s.saf.run = true →
    s.saf.selfTest = false →
    500 ≤ press →
    press ≤ 5000 →
    s.safLocked = true →
    (List.range 21).all (fun c => !bitOf s.adoptSwitches.saf.kept.causes c || (s.adoptSwitches.causeGone (c + 1) && !ownFault (c + 1))) = true →
    exec (.localReset press) s = .next s.adoptSwitches.clearLock.safShow) ∧
  (∀ (press : Nat) (s : State),
    s.hasIsland = true →
    s.saf.run = true →
    s.saf.selfTest = false →
    500 ≤ press →
    press ≤ 5000 →
    s.safLocked = true →
    (List.range 21).any (fun c => bitOf s.adoptSwitches.saf.kept.causes c && !s.adoptSwitches.causeGone (c + 1)) = true →
    exec (.localReset press) s = .next (s.adoptSwitches.refuseReset press).safShow) ∧
  (∀ (press : Nat) (s : State),
    s.hasIsland = true →
    s.saf.run = true →
    s.saf.selfTest = false →
    500 ≤ press →
    press ≤ 5000 →
    s.safLocked = true →
    (List.range 21).all (fun c => !bitOf s.adoptSwitches.saf.kept.causes c || s.adoptSwitches.causeGone (c + 1)) = true →
    (List.range 21).any (fun c => bitOf s.adoptSwitches.saf.kept.causes c && ownFault (c + 1)) = true →
    exec (.localReset press) s = .next (s.adoptSwitches.setSaf { s.adoptSwitches.saf with selfTest := true, resetWait := some press }).safShow) ∧
  (∀ (press : Nat) (s : State),
    s.hasIsland = true →
    s.saf.run = true →
    s.saf.selfTest = false →
    5000 < press →
    exec (.localReset press) s = .next (s.refuseReset press).safShow) ∧
  (∀ (press : Nat) (s : State),
    press < 500 ∨ s.hasIsland = false ∨ s.saf.run = false ∨ s.saf.selfTest = true ∨ (press ≤ 5000 ∧ s.safLocked = false) →
    exec (.localReset press) s = .next s) ∧
  (∀ (saddr : BitVec 16) (sopt : BitVec 8) (s : State),
    s.hasIsland = true →
    ∃ t, exec (.islandStart saddr sopt) s = .next t ∧ t.saf.run = true ∧ t.saf.selfTest = true ∧ t.saf.link = false ∧
      (t.chan .x).gates = 0 ∧ (t.chan .y).gates = 0 ∧ t.saf.kept.set = s.saf.kept.set ∧
      (s.saf.kept.causes ≠ 0 → (t.chan .x).locked = true ∧ (t.chan .y).locked = true) ∧
      (s.saf.kept.sw = none → t.saf.kept.sw = some (saddr.toNat, sopt.toNat)) ∧
      (∀ w, s.saf.kept.sw = some w → w ≠ (saddr.toNat, sopt.toNat) → bitOf t.saf.kept.causes 15 = true ∧ (t.chan .x).locked = true)) ∧
  (∀ (saddr : BitVec 16) (sopt : BitVec 8) (s : State),
    s.hasIsland = false →
    exec (.islandStart saddr sopt) s = .next s) ∧
  (∀ (cause : Nat) (s : State),
    s.hasIsland = false ∨ s.saf.selfTest = false →
    exec (.islandSelfTestComplete cause) s = .next s) ∧
  (∀ (press : Nat) (s t : State),
    s.hasIsland = true →
    s.saf.selfTest = true →
    s.saf.resetWait = some press →
    t = s.setSaf { s.saf with selfTest := false, resetWait := none } →
    exec (.islandSelfTestComplete 0) s = .next t.clearLock.safShow ∧
      exec (.islandSelfTestComplete 0x15) s = .next ((t.faultBoth 0x15 0xFF).refuseReset press).safShow) ∧
  (∀ (cause found : Nat) (s t : State),
    s.hasIsland = true →
    s.saf.selfTest = true →
    s.saf.resetWait = none →
    cause ≠ 0 →
    found = (if cause = 0x01 ∨ cause = 0x15 then cause else 0x02) →
    t = (s.setSaf { s.saf with selfTest := false, resetWait := none }).safEvent 0x0F0C (wd found) s.safCrc (wd (ofBool s.saf.restored)) →
    exec (.islandSelfTestComplete cause) s = .next (t.faultBoth found 0xFF).safShow) ∧
  (∀ (s : State),
    s.hasIsland = true →
    s.saf.selfTest = true →
    s.saf.resetWait = none →
    exec (.islandSelfTestComplete 0) s = .next ((s.setSaf { s.saf with selfTest := false, resetWait := none }).safEvent 0x0F0C 0 s.safCrc
      (wd (ofBool s.saf.restored))).safShow)

/-- Riser frames: the checks of reception, the two orders of transmission, pauses and transmit underruns. A frame on
a port that is up counts RXERR when it has an error or a wrong length, and one in error that is being cut through to
an idle ring peer goes on there as a broken frame; an accepted one that is no control frame and whose tag is absent,
0 or the LAN's own is learned, forwarded and copied; a pause frame sets PAUSED with its time, whose expiry clears
both; an Announce is taken; any other control frame or tag counts RXFILT; one that MACsec refuses goes no further. A
port that is up sends the frame of its next class: express classes 7, 6, 5 first; while it is busy only a frame of
class 6 or 7 leaves, by preemption where PRE is set, which is counted. A lack of data for a frame from host memory
(source code 1024 and above) longer than the threshold counts, raises the threshold up to 36 and reports event
0x1005. A port that is down, a port without a frame and a poisoned frame send nothing. -/
def Obligations.RiserFrames : Prop :=
  (∀ (r : Fin 4) (data : List Byte) (m : RiserRx) (s : State),
    s.riserUp r = true →
    m.err = true ∨ data.length < 60 ∨ 9028 < data.length →
    m.idle = false →
    exec (.riserFrameReceived r data m) s = .next (s.countRsr 1 r 1)) ∧
  (∀ (r : Fin 4) (data : List Byte) (m : RiserRx) (s : State),
    s.riserUp r = true →
    m.err = true →
    m.idle = true →
    exec (.riserFrameReceived r data m) s = .next ((if 64 ≤ data.length ∧ dstOf data / 16 ≠ 0x0180C200000 ∧ s.forwards r data = true ∧
      s.classFree (ringPeer r) (classOf data) = true then s.emit (.riserFrame (ringPeer r) data false none) else s).countRsr 1 r 1)) ∧
  (∀ (r : Fin 4) (data : List Byte) (m : RiserRx) (s : State),
    s.riserUp r = false →
    exec (.riserFrameReceived r data m) s = .next s) ∧
  (∀ (r : Fin 4) (data : List Byte) (m : RiserRx) (t s : State),
    s.riserUp r = true →
    m.err = false →
    60 ≤ data.length →
    data.length ≤ 9028 →
    (s.countRsr 8 r (data.length + 4)).macsecCheck r data m.sec = (true, t) →
    dstOf data / 16 ≠ 0x0180C200000 →
    tagOf data = none ∨ (∃ p, tagOf data = some (p, 0)) ∨ (∃ p, tagOf data = some (p, t.rf F.RSR_CTL_VID)) →
    exec (.riserFrameReceived r data m) s = .next (((t.learn r (srcOf data)).forward r data m.idle).copyFrame r data)) ∧
  (∀ (r : Fin 4) (data : List Byte) (m : RiserRx) (t s : State),
    s.riserUp r = true →
    m.err = false →
    60 ≤ data.length →
    data.length ≤ 9028 →
    (s.countRsr 8 r (data.length + 4)).macsecCheck r data m.sec = (true, t) →
    (dstOf data = 0x0180C2000001 ∧ typeOf data = 0x8808 ∧ natBE ((data.drop (headerLen data)).take 2) = 1 →
      exec (.riserFrameReceived r data m) s = .next (t.takePause r data)) ∧
    (dstOf data = 0x0180C200000E → exec (.riserFrameReceived r data m) s = .next (t.takeAnnounce r data)) ∧
    (dstOf data / 16 = 0x0180C200000 → dstOf data ≠ 0x0180C2000001 → dstOf data ≠ 0x0180C200000E →
      exec (.riserFrameReceived r data m) s = .next (t.countRsr 2 r 1)) ∧
    (∀ p vid, dstOf data / 16 ≠ 0x0180C200000 → tagOf data = some (p, vid) → vid ≠ 0 → vid ≠ t.rf F.RSR_CTL_VID →
      exec (.riserFrameReceived r data m) s = .next (t.countRsr 2 r 1))) ∧
  (∀ (r : Fin 4) (data : List Byte) (m : RiserRx) (t s : State),
    s.riserUp r = true →
    m.err = false →
    60 ≤ data.length →
    data.length ≤ 9028 →
    (s.countRsr 8 r (data.length + 4)).macsecCheck r data m.sec = (false, t) →
    m.idle = false →
    exec (.riserFrameReceived r data m) s = .next t) ∧
  (∀ (r : Fin 4) (c : Nat) (k : Pkt) (s t u : State),
    s.riserUp r = true →
    s.nextClass r = (some c, t) →
    t.takePkt (riserTx r c) = (some k, u) →
    exec (.riserFrameTransmit r false) s = .next (u.sendRiser r k.data) ∧
      (6 ≤ c → s.on (F.RSR_PSTAT_PRE r) = true → exec (.riserFrameTransmit r true) s = .next ((u.countRsr 11 r 1).sendRiser r k.data)) ∧
      (c < 6 ∨ s.on (F.RSR_PSTAT_PRE r) = false → exec (.riserFrameTransmit r true) s = .next s)) ∧
  (∀ (r : Fin 4) (c : Nat) (busy : Bool) (s t u : State),
    (s.riserUp r = false ∨ s.nextClass r = (none, t) → exec (.riserFrameTransmit r busy) s = .next s) ∧
    (s.riserUp r = true → s.nextClass r = (some c, t) → t.takePkt (riserTx r c) = (none, u) →
      exec (.riserFrameTransmit r false) s = .next u)) ∧
  (∀ (r : Fin 4) (c : Nat) (s t : State),
    s.nextClass r = (some c, t) →
    s.classReady r c = true ∧ (∀ d, d ≤ 7 → c < d → 5 ≤ d → s.classReady r d = false)) ∧
  (∀ (r : Fin 4) (s : State),
    exec (.pauseExpiry r) s = .next ((s.setF (F.RSR_PSTAT_PAUSED r) 0).setF (F.RSR_PSTAT_PQ r) 0)) ∧
  (∀ (r : Fin 4) (data : List Byte) (s : State),
    (s.takePause r data).rf (F.RSR_PSTAT_PQ r) = natBE ((data.drop (headerLen data + 2)).take 2) ∧
      ((s.takePause r data).on (F.RSR_PSTAT_PAUSED r) = true ↔ natBE ((data.drop (headerLen data + 2)).take 2) ≠ 0)) ∧
  (∀ (r : Fin 4) (c : Fin 8) (k : Pkt) (ks : List Pkt) (s t : State),
    s.queue (riserTx r c) = k :: ks →
    s.riserUp r = true →
    1024 ≤ k.src →
    256 * s.rf (F.RSR_PTXTH_TH r) < k.data.length →
    s.takePkt (riserTx r c) = (some k, t) →
    exec (.transmitUnderrun r c) s = .next (let th := min 36 (s.rf (F.RSR_PTXTH_TH r) + 1);
      ((((t.emit (.riserFrame r k.data false none)).setF (F.RSR_PTXTH_TH r) th).countRsr 6 r 1).report 0x1005 0 (wd r) (wd th) (wd k.data.length)).raiseRsr 3)) ∧
  (∀ (r : Fin 4) (c : Fin 8) (k : Pkt) (ks : List Pkt) (s t : State),
    s.queue (riserTx r c) = k :: ks →
    (s.riserUp r = false ∨ k.src < 1024 ∨ k.data.length ≤ 256 * s.rf (F.RSR_PTXTH_TH r) → exec (.transmitUnderrun r c) s = .next s) ∧
    (s.riserUp r = true → 1024 ≤ k.src → 256 * s.rf (F.RSR_PTXTH_TH r) < k.data.length → s.takePkt (riserTx r c) = (none, t) →
      exec (.transmitUnderrun r c) s = .next t)) ∧
  (∀ (r : Fin 4) (c : Fin 8) (s : State),
    s.queue (riserTx r c) = [] →
    exec (.transmitUnderrun r c) s = .next s)

/-- Riser links, optics, rings, supervision, publications, Sync messages and counter reads. A link that comes up on
an enabled port whose optic is not refused sets LINK and PRE and clears LOS and TXFLT; one that falls flushes the
port's queues, clears its status, takes what the optic reports and leaves the other ports' queues; the port
indicator follows them. An optic above class 2 or of a wavelength outside the port's windows is refused and takes
its link down; one that fits leaves it. A manager that loses its test frames opens its ring, unblocks both ports and
forgets the LAN's learned addresses. A supervision frame takes the next number. The publications of the frame before
leave in class 5, not in the frame in which the module has become active; those unsent at 900 µs report event
0x1006. Sync leaves on every port that is up and no slave port of a LAN with a grandmaster or a module that may be
one. A read of RSR_CNTL shows the low word, keeps the high word and clears the counter; in block reset it aborts.
Otherwise none of these does anything. (log 183) -/
def Obligations.RiserLinksAndOwnTraffic : Prop :=
  (∀ (r : Fin 4) (pre : Bool) (s : State),
    s.on (F.RSR_PCTL_EN r) = true →
    s.on (F.RSR_PSTAT_LINK r) = false →
    s.inReset 16 = false →
    s.opticRefused r = false →
    ∃ t, exec (.riserLinkUp r pre) s = .next t ∧ t.on (F.RSR_PSTAT_LINK r) = true ∧
      (t.on (F.RSR_PSTAT_PRE r) = (s.on (F.RSR_PCTL_PRE r) && pre)) ∧
      t.on (F.RSR_PSTAT_LOS r) = false ∧ t.on (F.RSR_PSTAT_TXFLT r) = false ∧
      (∀ q : Fin 4, q ≠ r → t.reg (Reg.RSR_PSTAT q) = s.reg (Reg.RSR_PSTAT q))) ∧
  (∀ (r : Fin 4) (pre : Bool) (s : State),
    s.on (F.RSR_PCTL_EN r) = false ∨ s.on (F.RSR_PSTAT_LINK r) = true ∨ s.inReset 16 = true ∨ s.opticRefused r = true →
    exec (.riserLinkUp r pre) s = .next s) ∧
  (∀ (r : Fin 4) (los txFlt : Bool) (s : State),
    s.on (F.RSR_PSTAT_LINK r) = false →
    exec (.riserLinkDown r los txFlt) s = .next s) ∧
  (∀ (r : Fin 4) (los txFlt : Bool) (s : State),
    s.on (F.RSR_PSTAT_LINK r) = true →
    ∃ t, exec (.riserLinkDown r los txFlt) s = .next t ∧ t.on (F.RSR_PSTAT_LINK r) = false ∧
      t.on (F.RSR_PSTAT_LOS r) = los ∧ t.on (F.RSR_PSTAT_TXFLT r) = txFlt ∧ t.on (F.RSR_PSTAT_PRE r) = false ∧
      t.on (F.RSR_PSTAT_PAUSED r) = false ∧ (∀ c : Fin 8, t.queue (riserTx r c) = []) ∧
      (∀ q : Fin 4, q ≠ r → ∀ c : Fin 8, t.queue (riserTx q c) = s.queue (riserTx q c))) ∧
  (∀ (r : Fin 4) (was : Nat) (s : State),
    (s.portMode r = (if s.on (F.RSR_PSTAT_LOS r) = true ∨ s.on (F.RSR_PSTAT_TXFLT r) = true then 2
      else if s.on (F.RSR_PSTAT_LINK r) = true then 1 else 0)) ∧
      s.showPort r was = (if s.portMode r = was then s else s.emit (.portLight r (s.portMode r)))) ∧
  (∀ (r : Fin 4) (cls nm : Nat) (los txFlt : Bool) (s : State),
    s.inReset 16 = true →
    exec (.opticInserted r cls nm los txFlt) s = .next s) ∧
  (∀ (r : Fin 4) (cls nm : Nat) (los txFlt : Bool) (s : State),
    s.inReset 16 = false →
    2 < cls ∨ wavelengthFits (s.on (F.RSR_PCTL_SPEED r)) nm = false →
    ∃ t, exec (.opticInserted r cls nm los txFlt) s = .next t ∧ t.opticRefused r = true ∧
      t.on (F.RSR_PSTAT_LOS r) = los ∧ t.on (F.RSR_PSTAT_TXFLT r) = txFlt ∧ t.on (F.RSR_PSTAT_PRESENT r) = true ∧
      t.on (F.RSR_PSTAT_LINK r) = false) ∧
  (∀ (r : Fin 4) (cls nm : Nat) (los txFlt : Bool) (s : State),
    s.inReset 16 = false →
    cls ≤ 2 →
    wavelengthFits (s.on (F.RSR_PCTL_SPEED r)) nm = true →
    ∃ t, exec (.opticInserted r cls nm los txFlt) s = .next t ∧ t.opticRefused r = false ∧
      t.on (F.RSR_PSTAT_LOS r) = los ∧ t.on (F.RSR_PSTAT_TXFLT r) = txFlt ∧ t.on (F.RSR_PSTAT_PRESENT r) = true ∧
      t.on (F.RSR_PSTAT_LINK r) = s.on (F.RSR_PSTAT_LINK r)) ∧
  (∀ (l : Fin 2) (s : State),
    s.rf (F.RSR_MRP_ROLE l) = 2 →
    s.inReset 16 = false →
    s.on (F.RSR_MRPSTAT_OPEN l) = false →
    ∃ t, exec (.mrpRingOpenDetected l) s = .next t ∧ t.on (F.RSR_MRPSTAT_OPEN l) = true ∧ t.on (F.RSR_MRPSTAT_BLKUP l) = false ∧
      t.on (F.RSR_MRPSTAT_BLKDN l) = false ∧ (∀ e ∈ t.rsr.fdb, e.lan ≠ l)) ∧
  (∀ (l : Fin 2) (s : State),
    s.rf (F.RSR_MRP_ROLE l) ≠ 2 ∨ s.inReset 16 = true ∨ s.on (F.RSR_MRPSTAT_OPEN l) = true →
    exec (.mrpRingOpenDetected l) s = .next s) ∧
  (∀ (s : State),
    s.inReset 16 = true →
    exec .prpSupervisionSend s = .next s) ∧
  (∀ (s : State),
    s.inReset 16 = false →
    exec .prpSupervisionSend s = .next (let t := s.setRsr { s.rsr with supSeq := (s.rsr.supSeq + 1) % 65536 };
      t.sendOwn 0 (mkPkt (bytesBE 6 0x01154E000100 ++ bytesBE 6 t.riserMac ++ bytesBE 2 0x88FB ++ bytesBE 2 1 ++ bytesBE 2 s.rsr.supSeq
      ++ bytesBE 1 20 ++ bytesBE 1 6 ++ bytesBE 6 t.riserMac ++ bytesBE 2 0) (srcCode 3 0) 0 t.frameNo))) ∧
  (∀ (s : State),
    s.active = false ∨ s.twn.fresh = true ∨ s.inReset 16 = true ∨ s.inReset 10 = true →
    exec .publicationSend s = .next s) ∧
  (∀ (s : State),
    s.active = false ∨ s.unsentPubs = 0 →
    exec .publicationLateCheck s = .next s) ∧
  (∀ (s : State),
    s.active = true →
    s.twn.fresh = false →
    s.inReset 16 = false →
    s.inReset 10 = false →
    exec .publicationSend s = .next (forUpto (groupsOf 120 547 (s.published (s.frameNo - 1))).length s (fun i t =>
      t.sendOwn 5 { mkPkt (t.pubFrame (s.frameNo - 1) (i + 1 = (groupsOf 120 547 (s.published (s.frameNo - 1))).length)
        ((groupsOf 120 547 (s.published (s.frameNo - 1))).getD i [])) (srcCode 3 0) 0 t.frameNo with point := true }))) ∧
  (∀ (s : State),
    s.active = true →
    s.unsentPubs ≠ 0 →
    exec .publicationLateCheck s = .next ((s.report 0x1006 0 (wd (s.frameNo - 1)) (wd s.unsentPubs) 0).raiseRsr 2)) ∧
  (∀ (s : State),
    ∃ o, exec .syncTransmit s = .next { s with out := o } ∧
      (∀ r : Fin 4, (.syncMessage r s.time.sec s.time.frac) ∈ o →
        (.syncMessage r s.time.sec s.time.frac) ∈ s.out ∨ (s.riserUp r = true ∧
          (∀ g, Store.get noMaster s.rsr.gm (lanOf r) = some g → g.port ≠ r))) ∧
      (∀ r : Fin 4, s.riserUp r = true → (∀ g, Store.get noMaster s.rsr.gm (lanOf r) = some g → g.port ≠ r) →
        Store.get noMaster s.rsr.gm (lanOf r) ≠ none ∨ s.on F.RSR_TSCTL_GMCAP = true →
        (.syncMessage r s.time.sec s.time.frac) ∈ o)) ∧
  (∀ (x : HPort) (k : Fin 12) (r : Fin 4) (s : State),
    s.inReset 16 = true →
    exec (.rsrCntlRead x k r) s = .next (s.emit (.completerAbort x (Reg.RSR_CNTL (4 * k.val + r.val))))) ∧
  (∀ (x : HPort) (k : Fin 12) (r : Fin 4) (s : State),
    s.inReset 16 = false →
    ∃ t, exec (.rsrCntlRead x k r) s = .next t ∧ t.rsrCnt k r = 0 ∧ t.reg (Reg.RSR_CNTH x.num) = wd (s.rsrCnt k r / 2 ^ 32) ∧
      (∀ j : Fin 12, ∀ q : Fin 4, (j ≠ k ∨ q ≠ r) → t.rsrCnt j q = s.rsrCnt j q))

/-- Twin roles: a claim only with the peer's line low, withdrawal on contention, the confirm window, drops and
yields. A module claims only from STANDBY, with the block out of reset, claiming allowed, PEER_ACT low, no
self-diagnosis cause pending, and eligible or entitled to a cold claim: then role CLAIMING and ACT are set; else a
claim changes nothing. A claiming module withdraws when PEER_ACT rises as twin 1, or after 50 microseconds as twin
0; an active one counts the contention and reports event 0x1103; with the line low and no contention the confirm
window's end makes it ACTIVE. A line high for 100 microseconds at an active module raises TWN_STAT's contention bit,
and its fall reports its length. A self-diagnosis cause stays pending and makes an active module drop ACT and a
claiming one withdraw; the island's request and a block in reset count only while they last. A drop leaves role
STANDBY, ACT low, its cause in DROPC, no synchronisation and no subscriptions. A yield is accepted only while active
with an eligible peer; while active without one it reports event 0x1108. -/
def Obligations.TwinClaimsAndContention : Prop :=
  (∀ (s : State),
    s.mayClaim = true →
    ∃ t, exec .claim s = .next t ∧ t.role = 1 ∧ t.on F.TWN_STAT_ACT = true ∧ t.twn.warm = s.warmOk ∧ t.twn.contended = false ∧
      t.out.head? = some (.actOut true)) ∧
  (∀ (s : State),
    s.role ≠ 0 ∨ s.inReset 17 = true ∨ s.on F.TWN_STAT_PEERACT = true ∨ s.dropPending = true ∨ (s.warmOk = false ∧ s.coldOk = false) →
    exec .claim s = .next s) ∧
  (∀ (s : State),
    s.on F.TWN_STAT_PEERACT = false →
    s.inReset 17 = false →
    s.role = 1 →
    s.on F.TWN_STAT_TWINID = true →
    ∃ t, exec .peerActRise s = .next t ∧ t.role = 0 ∧ t.on F.TWN_STAT_ACT = false ∧ t.on F.TWN_STAT_PEERACT = true) ∧
  (∀ (s : State),
    s.on F.TWN_STAT_PEERACT = false →
    s.inReset 17 = false →
    s.role = 1 →
    s.on F.TWN_STAT_TWINID = false →
    ∃ t, exec .peerActRise s = .next t ∧ t.role = 1 ∧ t.twn.contended = true ∧ t.on F.TWN_STAT_PEERACT = true) ∧
  (∀ (s t : State),
    t = s.setF F.TWN_STAT_PEERACT 1 →
    (s.on F.TWN_STAT_PEERACT = true ∨ s.inReset 17 = true ∨ s.role = 0 → exec .peerActRise s = .next t) ∧
    (s.on F.TWN_STAT_PEERACT = false → s.inReset 17 = false → s.role = 2 →
      exec .peerActRise s = .next ((t.contention 1).addSat F.TWN_CONTEND_CNT 1))) ∧
  (∀ (s : State),
    s.role ≠ 1 ∨ s.twn.contended = false ∨ s.on F.TWN_STAT_PEERACT = false →
    exec .contentionWithdraw s = .next s) ∧
  (∀ (us : Nat) (s t : State),
    s.role ≠ 1 →
    t = s.setF F.TWN_STAT_PEERACT 0 →
    exec (.peerActFall us) s = .next (if s.active = true ∧ s.twn.long = true
      then (t.setTwn { t.twn with long := false }).contention us else t)) ∧
  (∀ (s : State),
    s.active = false ∨ s.on F.TWN_STAT_PEERACT = false →
    exec .activeContentionTimeout s = .next s) ∧
  (∀ (s : State),
    s.role = 1 →
    s.twn.contended = true →
    s.on F.TWN_STAT_PEERACT = true →
    exec .contentionWithdraw s = .next s.withdraw ∧ s.withdraw.role = 0 ∧ s.withdraw.on F.TWN_STAT_ACT = false) ∧
  (∀ (us : Nat) (s : State),
    s.role = 1 →
    exec (.peerActFall us) s = .next (let t := s.setF F.TWN_STAT_PEERACT 0; t.setTwn { t.twn with contended := false })) ∧
  (∀ (s : State),
    s.active = true →
    s.on F.TWN_STAT_PEERACT = true →
    exec .activeContentionTimeout s = .next ((s.setTwn { s.twn with long := true }).raiseTwn 3)) ∧
  (∀ (s : State),
    s.role = 1 →
    s.on F.TWN_STAT_PEERACT = false →
    s.twn.contended = false →
    s.inReset 17 = false →
    exec .confirmWindowEnd s = .next s.enterActive) ∧
  (∀ (s : State),
    s.role ≠ 1 ∨ s.on F.TWN_STAT_PEERACT = true ∨ s.twn.contended = true ∨ s.inReset 17 = true →
    exec .confirmWindowEnd s = .next s) ∧
  (∀ (cause : Fin 8) (s : State),
    1 ≤ cause.val →
    cause.val ≤ 4 →
    s.active = true →
    exec (.dropAct cause) s = .next (let t := (if s.twn.causes.contains cause.val then s else s.setTwn { s.twn with causes := cause.val :: s.twn.causes });
      t.drop cause.val)) ∧
  (∀ (cause : Fin 8) (s t : State),
    1 ≤ cause.val →
    cause.val ≤ 4 →
    s.active = false →
    t = (if s.twn.causes.contains cause.val then s else s.setTwn { s.twn with causes := cause.val :: s.twn.causes }) →
    exec (.dropAct cause) s = .next (if s.role = 1 then t.withdraw else t)) ∧
  (∀ (s : State),
    exec (.dropAct 0) s = .next s ∧ exec (.dropAct 6) s = .next s ∧
      (s.on F.SAF_STAT_REQDROP = false → exec (.dropAct 5) s = .next s) ∧
      (s.on F.SAF_STAT_REQDROP = true → s.active = true → exec (.dropAct 5) s = .next (s.drop 5)) ∧
      ([10, 11, 12, 14].any (fun b => s.inReset b) = false → exec (.dropAct 7) s = .next s) ∧
      ([10, 11, 12, 14].any (fun b => s.inReset b) = true → s.active = true → exec (.dropAct 7) s = .next (s.drop 7))) ∧
  (∀ (cause : Nat) (s : State),
    cause ≤ 7 →
    (s.drop cause).role = 0 ∧ (s.drop cause).on F.TWN_STAT_ACT = false ∧ (s.drop cause).rf F.TWN_STAT_DROPC = cause ∧
      (s.drop cause).on F.TWN_STAT_SYNC = false ∧ (s.drop cause).twn.last = none ∧ (s.drop cause).ptx.subs = []) ∧
  (∀ (x : HPort) (s : State),
    (s.inReset 17 = true ∨ s.active = false → exec (.yield x) s = .next s) ∧
    (s.inReset 17 = false → s.active = true → s.on F.TWN_STAT_PEERELIG = false →
      exec (.yield x) s = .next ((s.raiseTwn 4).report 0x1108 0 (match s.twn.peer with | some n => n.elig | none => 0x3FF) 0 0))) ∧
  (∀ (x : HPort) (s : State),
    s.inReset 17 = false →
    s.active = true →
    s.on F.TWN_STAT_PEERELIG = true →
    exec (.yield x) s = .next (s.setTwn { s.twn with yielding := true }))

/-- The twin link, frame records and return records, and the configuration signature. A link that comes up out of
reset sets LINK, keeps the peer's capability words, reports event 0x1109 where they differ and, on a standby, starts
a resynchronisation; one that goes down clears LINK, PEERELIG and PEERCONF. A standby with link takes a frame record
with good CRC, of the frame it expects and not truncated, and expects the next; any other one is missed with its
reason: counted, the lag 16 frames, synchronisation lost. A return record's note is taken. Without link, in reset
and, of a frame record, on an active module nothing happens. The signature is the CRC-32 of the eleven words of
R520. -/
def Obligations.TwinLinkAndRecords : Prop :=
  (∀ (cap0 cap1 : Word) (s : State),
    s.inReset 17 = false →
    s.active = true →
    cap0 = s.reg Reg.SYS_CAP0 →
    cap1 = s.reg Reg.SYS_CAP1 →
    ∃ t, exec (.twinLinkUp cap0 cap1) s = .next t ∧ t.on F.TWN_STAT_LINK = true ∧ t.twn.peer.isSome = true ∧ t.role = s.role) ∧
  (∀ (cap0 cap1 : Word) (s : State),
    s.inReset 17 = false →
    ∃ t, exec (.twinLinkUp cap0 cap1) s = .next t ∧ t.on F.TWN_STAT_LINK = true ∧ t.role = s.role ∧
      (∃ n, t.twn.peer = some n ∧ n.cap0 = cap0 ∧ n.cap1 = cap1) ∧
      (s.active = false → t.on F.TWN_STAT_SYNC = false ∧ t.twn.cover = [] ∧ t.twn.expect = none) ∧
      (cap0 ≠ s.reg Reg.SYS_CAP0 ∨ cap1 ≠ s.reg Reg.SYS_CAP1 → s.variant.lacks 17 = false → s.evr.buf.length < 512 →
        ∃ r, t.evr.buf = s.evr.buf ++ [r] ∧ r.code = 0x1109)) ∧
  (∀ (cap0 cap1 : Word) (s : State),
    s.inReset 17 = true →
    exec (.twinLinkUp cap0 cap1) s = .next s) ∧
  (∀ (s : State),
    exec .twinLinkDown s = .next (((s.setF F.TWN_STAT_LINK 0).setF F.TWN_STAT_PEERELIG 0).setF F.UPD_STAT_PEERCONF 0)) ∧
  (∀ (r : TwinRec) (s : State),
    s.inReset 17 = false →
    s.on F.TWN_STAT_LINK = true →
    s.active = false →
    r.crcOk = true →
    r.trunc = false →
    s.twn.expect = none ∨ s.twn.expect = some r.frame →
    ∃ t, exec (.frameRecordReceived r) s = .next t ∧ t.twn.held = s.twn.held ++ [r] ∧ t.twn.got = true ∧
      t.twn.follow = some (r.next, r.gap) ∧ t.twn.peer = some r.peer ∧ t.twn.peerEpoch = some (r.epoch, 0)) ∧
  (∀ (r : TwinRec) (s : State),
    s.inReset 17 = false →
    s.on F.TWN_STAT_LINK = true →
    s.active = false →
    r.crcOk = false →
    exec (.frameRecordReceived r) s = .next ((s.setTwn { s.twn with got := true }).recordMissed 2)) ∧
  (∀ (r : TwinRec) (s t : State),
    s.inReset 17 = false →
    s.on F.TWN_STAT_LINK = true →
    s.active = false →
    r.crcOk = true →
    t = (s.setTwn { s.twn with got := true }).takeNote r.peer →
    (r.trunc = true → exec (.frameRecordReceived r) s =
      .next ((t.setTwn { t.twn with peerEpoch := some (r.epoch, 0), follow := some (r.next, r.gap) }).recordMissed 3)) ∧
    (∀ n, r.trunc = false → s.twn.expect = some n → n ≠ r.frame → exec (.frameRecordReceived r) s =
      .next ((t.setTwn { t.twn with peerEpoch := some (r.epoch, 0), follow := some (r.next, r.gap) }).recordMissed 4))) ∧
  (∀ (r : TwinRec) (n : PeerNote) (s : State),
    s.inReset 17 = true ∨ s.on F.TWN_STAT_LINK = false →
    exec (.frameRecordReceived r) s = .next s ∧ exec (.returnRecordReceived n) s = .next s) ∧
  (∀ (r : TwinRec) (s : State),
    s.active = true →
    exec (.frameRecordReceived r) s = .next s) ∧
  (∀ (reason : Nat) (s : State),
    (s.recordMissed reason).twn.missed = true ∧ (s.recordMissed reason).twn.lag = 16 ∧ (s.recordMissed reason).on F.TWN_STAT_SYNC = false ∧
      (s.recordMissed reason).twn.cover = [] ∧ (s.recordMissed reason).rf F.TWN_RECMISS_CNT = (s.addSat F.TWN_RECMISS_CNT 1).rf F.TWN_RECMISS_CNT) ∧
  (∀ (n : PeerNote) (s : State),
    s.inReset 17 = false →
    s.on F.TWN_STAT_LINK = true →
    exec (.returnRecordReceived n) s = .next (s.takeNote n)) ∧
  (∀ (n : PeerNote) (s : State),
    (s.takeNote n).twn.peer = some n ∧ ((s.takeNote n).on F.TWN_STAT_PEERELIG = true ↔ n.elig = 0) ∧
      (s.takeNote n).reg Reg.TWN_PCFGSIG = n.sig ∧ (s.takeNote n).reg Reg.UPD_PEERVER = n.version) ∧
  (∀ (s : State),
    exec .configSignatureRecompute s = .next (s.setReg Reg.TWN_CFGSIG (crc32Words [s.reg Reg.FLD_CTL, s.reg Reg.PRT_CFGCRC,
      s.reg Reg.PTX_PTCRC, s.reg Reg.PTX_STCRC, s.reg Reg.PTX_SCCRC, s.reg Reg.LGE_SETCRC, s.reg Reg.CLE_SETCRC, s.reg Reg.MTR_CALCRC,
      s.reg Reg.MTR_CIRCCRC, s.twn.crc04, s.twn.crc09])))

/-- The event recorder: reports buffered, records written in the roll and keep areas, buckets, delivery and the keep
clear. A report of a unit that the variant has enters the input buffer of 512 with the time, or is lost and counted.
The recorder's step takes the oldest report: with a token in its bucket, or where no limit applies, it is written
with the next number at its place of the roll area, and in the keep area while that has room; without a token it
counts as suppressed. Lost reports are told first, by event 0x1202, once there is room. Before its start, in block
reset and with nothing to write the step does nothing. A written record is delivered to each enabled running ring
set whose view holds it. A bucket gains a token up to its depth and tells its suppressed records by event 0x1201;
one that does not exist, is full or has rate 0 gains none. The keep clear, by the port that holds SEM0, empties the
keep area and the views and writes event 0x1203; by another it does nothing. -/
def Obligations.RecorderSteps : Prop :=
  (∀ (r : ReportIn) (s : State),
    s.variant.lacks (r.code / 256) = false →
    s.evr.buf.length < 512 →
    exec (.eventReport r) s = .next { s with evr := { s.evr with buf := s.evr.buf ++ [{ code := r.code, origin := r.origin, part := r.part.val, p1 := r.p1, p2 := r.p2, p3 := r.p3, sec := s.time.sec, frac := s.time.frac, tunt := s.on F.RTC_STAT_OSF }] } }) ∧
  (∀ (r : ReportIn) (s : State),
    s.variant.lacks (r.code / 256) = false →
    512 ≤ s.evr.buf.length →
    ∃ t, exec (.eventReport r) s = .next t ∧ t.evr.buf = s.evr.buf ∧ t.evr.lostN = s.evr.lostN + 1 ∧
      t.rf F.EVR_LOST_CNT = min (s.rf F.EVR_LOST_CNT + 1) 0xFFFFFFFF) ∧
  (∀ (r : ReportIn) (s : State),
    s.variant.lacks (r.code / 256) = true →
    exec (.eventReport r) s = .next s) ∧
  (∀ (s : State),
    s.evr.running = false ∨ s.inReset 18 = true ∨ (s.evr.buf = [] ∧ s.evr.lostN = 0) →
    exec .recordWrite s = .next s) ∧
  (∀ (s t : State),
    s.evr.running = true →
    s.inReset 18 = false →
    s.evr.lostN ≠ 0 →
    s.evr.buf.length < 512 →
    t = { s with evr := { s.evr with lostN := 0, lostReset := false } } →
    exec .recordWrite s = .next (t.writeRecord { code := 0x1202, origin := 0, part := 0, p1 := wd s.evr.lostN, p2 := wd (if s.evr.lostReset = true then 3 else 1), p3 := 0, sec := s.time.sec, frac := s.time.frac, tunt := s.on F.RTC_STAT_OSF } false)) ∧
  (∀ (r : Report) (rest : List Report) (s : State),
    s.evr.running = true →
    s.inReset 18 = false →
    512 ≤ s.evr.buf.length →
    s.evr.buf = r :: rest →
    exec .recordWrite s = .next (({ s with evr := { s.evr with buf := rest } } : State).recordOne r)) ∧
  (∀ (r : Report) (rest : List Report) (s : State),
    s.evr.running = true →
    s.inReset 18 = false →
    s.evr.lostN = 0 →
    s.evr.buf = r :: rest →
    exec .recordWrite s = .next (({ s with evr := { s.evr with buf := rest } } : State).recordOne r)) ∧
  (∀ (r : Report) (summ : Bool) (s : State),
    (s.writeRecord r summ).rf F.EVR_HEADSEQ_SEQ = (s.rf F.EVR_HEADSEQ_SEQ + 1) % 2 ^ 32 ∧
      (∃ k, Store.get noRec (s.writeRecord r summ).evr.roll (s.rf F.EVR_HEADSEQ_SEQ % 16384) = some k ∧ k.r = r ∧
      k.seq = s.rf F.EVR_HEADSEQ_SEQ ∧ (s.writeRecord r summ).evr.deliver = s.evr.deliver ++ [k] ∧
      (s.rf F.EVR_KCNT_CNT < 1024 → Store.get noRec (s.writeRecord r summ).evr.keep (s.rf F.EVR_KCNT_CNT) = some k ∧
        (s.writeRecord r summ).rf F.EVR_KCNT_CNT = s.rf F.EVR_KCNT_CNT + 1)) ∧
      (1024 ≤ s.rf F.EVR_KCNT_CNT → (s.writeRecord r summ).evr.keep = s.evr.keep ∧
      (s.writeRecord r summ).rf F.EVR_KCNT_CNT = s.rf F.EVR_KCNT_CNT)) ∧
  (∀ (r : Report) (s : State),
    (s.noLimit r = true ↔ r.code / 256 = 0x12 ∨ (r.part = 0 ∧ s.on (F.EVR_BKT_NOLIM (r.code / 256)) = true)) ∧
      (s.noLimit r = true → s.recordOne r = s.writeRecord r false)) ∧
  (∀ (r : Report) (s : State),
    s.noLimit r = false →
    (0 < (s.bucket r.bucket).tokens → s.recordOne r =
      (s.setBucket r.bucket { s.bucket r.bucket with tokens := (s.bucket r.bucket).tokens - 1 }).writeRecord r false) ∧
      ((s.bucket r.bucket).tokens = 0 → (s.recordOne r).evr.roll = s.evr.roll ∧
      ((s.recordOne r).bucket r.bucket).supp = (s.bucket r.bucket).supp + 1 ∧
      (s.recordOne r).rf F.EVR_SUPP_CNT = min (s.rf F.EVR_SUPP_CNT + 1) 0xFFFFFFFF)) ∧
  (∀ (k : Rec) (rest : List Rec) (s : State),
    s.evr.deliver = k :: rest →
    exec .eventDelivery s = .next (forUpto 128 ({ s with evr := { s.evr with deliver := rest } } : State)
      (fun p t => (t.deliverTo k .hp0 p).deliverTo k .hp1 p))) ∧
  (∀ (s : State),
    s.evr.deliver = [] →
    exec .eventDelivery s = .next s) ∧
  (∀ (b : Fin 384) (s : State),
    b.val = 0x12 ∨ b.val = 256 ∨ s.bucketRate b = 0 ∨ s.bucketDepth b ≤ (s.bucket b).tokens ∨ s.inReset 18 = true →
    exec (.bucketRefill b) s = .next s) ∧
  (∀ (b : Fin 384) (s : State),
    b.val ≠ 0x12 →
    b.val ≠ 256 →
    s.bucketRate b ≠ 0 →
    (s.bucket b).tokens < s.bucketDepth b →
    s.inReset 18 = false →
    (s.bucket b).supp ≠ 0 →
    ∃ t, exec (.bucketRefill b) s = .next t ∧ (t.bucket b).supp = 0 ∧ (t.bucket b).tokens = (s.bucket b).tokens + 1 ∧ t.rf F.EVR_HEADSEQ_SEQ = (s.rf F.EVR_HEADSEQ_SEQ + 1) % 2 ^ 32 ∧
      (∃ k, t.evr.deliver = s.evr.deliver ++ [k] ∧ k.r.code = 0x1201 ∧ k.r.p2 = wd (s.bucket b).supp)) ∧
  (∀ (b : Fin 384) (s : State),
    b.val ≠ 0x12 →
    b.val ≠ 256 →
    s.bucketRate b ≠ 0 →
    (s.bucket b).tokens < s.bucketDepth b →
    s.inReset 18 = false →
    (s.bucket b).supp = 0 →
    exec (.bucketRefill b) s = .next (s.setBucket b { s.bucket b with tokens := (s.bucket b).tokens + 1 })) ∧
  (∀ (x : HPort) (s : State),
    s.holdsSem0 x = true →
    s.inReset 18 = false →
    ∃ t, exec (.keepClear x) s = .next t ∧ t.rf F.EVR_KCNT_CNT = 1 ∧ t.on F.EVR_STAT_KFULL = false ∧
      (∃ k, Store.get noRec t.evr.keep 0 = some k ∧ k.r.code = 0x1203 ∧ ∀ j, j ≠ 0 → Store.get noRec t.evr.keep j = none)) ∧
  (∀ (x : HPort) (s : State),
    s.holdsSem0 x = false ∨ s.inReset 18 = true →
    exec (.keepClear x) s = .next s)

/-- Update chain frames: parts and chunks by fragments, BUSY for another flow, acknowledgements, NAKs, cancels and
time-outs. The head frame of queue 418 with the operation is taken; with none, in block reset or with another
operation at the head nothing happens. A poisoned part or chunk is answered NAK 0x02, one of a test sender without
the test root NAK 0x03 with event 0x170A. A manifest part of another version than the flow in progress is answered
BUSY, an index out of range NAK 0x04; a fragment that leaves its part or chunk incomplete is kept, a whole part is
acknowledged and the whole manifest judged; a chunk without accepted manifest or beyond it is answered NAK, one that
is held already is acknowledged at its last fragment, a whole one is written if its hash fits. An ACK of an
outstanding item from the receiver ends it and the sender goes on; a NAK for a repairable reason sends the item
again up to three times, else the receiver counts as silent, as it does for BUSY and when no ACK comes within
HOPTMO; answers of any other sender change nothing. CANCEL ends the flow, or what is being received, and keeps the
inactive slot. -/
def Obligations.ChainFrames : Prop :=
  (∀ (flash : Bool) (s : State),
    s.inReset 23 = true ∨ s.queue 418 = [] →
    exec (.chainMpart flash) s = .next s ∧ exec (.chainData flash) s = .next s ∧ exec .chainAck s = .next s ∧ exec .chainNak s = .next s ∧
      exec .chainCancel s = .next s ∧ exec .chainBusy s = .next s) ∧
  (∀ (flash : Bool) (h : Pkt) (hs : List Pkt) (s : State),
    s.queue 418 = h :: hs →
    ((chainIn h.data).op ≠ 1 → exec (.chainMpart flash) s = .next s) ∧ ((chainIn h.data).op ≠ 2 → exec (.chainData flash) s = .next s) ∧
      ((chainIn h.data).op ≠ 3 → exec .chainAck s = .next s) ∧ ((chainIn h.data).op ≠ 4 → exec .chainNak s = .next s) ∧
      ((chainIn h.data).op ≠ 5 → exec .chainCancel s = .next s) ∧ ((chainIn h.data).op ≠ 6 → exec .chainBusy s = .next s)) ∧
  (∀ (flash : Bool) (h : Pkt) (hs : List Pkt) (s t : State),
    s.inReset 23 = false →
    s.queue 418 = h :: hs →
    s.takePkt 418 = (none, t) →
    ((chainIn h.data).op = 1 → exec (.chainMpart flash) s = .next (t.answerChain (chainIn h.data) 4 2)) ∧
      ((chainIn h.data).op = 2 → exec (.chainData flash) s = .next (t.answerChain (chainIn h.data) 4 2)) ∧
      ((chainIn h.data).op = 3 → exec .chainAck s = .next t) ∧ ((chainIn h.data).op = 4 → exec .chainNak s = .next t)) ∧
  (∀ (flash : Bool) (h k : Pkt) (hs : List Pkt) (s t : State),
    s.inReset 23 = false →
    s.queue 418 = h :: hs →
    (chainIn h.data).op = 1 →
    s.takePkt 418 = (some k, t) →
    (chainIn k.data).test = true →
    t.key.root = 0 →
    exec (.chainMpart flash) s = .next ((t.answerChain (chainIn k.data) 4 3).report 0x170A 0 (wd (t.senderPos (chainIn k.data))) 0 0)) ∧
  (∀ (flash : Bool) (h k : Pkt) (hs : List Pkt) (s t : State),
    s.inReset 23 = false →
    s.queue 418 = h :: hs →
    (chainIn h.data).op = 1 →
    s.takePkt 418 = (some k, t) →
    (chainIn k.data).test = false →
    t.otherFlow (chainIn k.data).ver = false →
    4 ≤ (chainIn k.data).idx ∨ 8 ≤ (chainIn k.data).frag →
    exec (.chainMpart flash) s = .next (t.answerChain (chainIn k.data) 4 4)) ∧
  (∀ (flash : Bool) (h k : Pkt) (hs : List Pkt) (d : List Byte) (s t u : State),
    s.inReset 23 = false →
    s.queue 418 = h :: hs →
    (chainIn h.data).op = 1 →
    s.takePkt 418 = (some k, t) →
    (chainIn k.data).test = false →
    t.otherFlow (chainIn k.data).ver = false →
    (chainIn k.data).idx < 4 →
    (chainIn k.data).frag < 8 →
    (t.putFrag (chainIn k.data)).assembled (chainIn k.data) ((t.putFrag (chainIn k.data)).partLen (chainIn k.data)) = some d →
    u = ((t.putFrag (chainIn k.data)).dropFrags (chainIn k.data)).putPart (chainIn k.data).ver (chainIn k.data).idx d →
    (wholeManifest (u.partsOf (chainIn k.data).ver) = none → exec (.chainMpart flash) s = .next (u.answerChain (chainIn k.data) 3 0)) ∧
      (∀ m, wholeManifest (u.partsOf (chainIn k.data).ver) = some m →
        exec (.chainMpart flash) s = .next (u.chainManifest (chainIn k.data) m flash))) ∧
  (∀ (flash : Bool) (h k : Pkt) (hs : List Pkt) (s t : State),
    s.inReset 23 = false →
    s.queue 418 = h :: hs →
    (chainIn h.data).op = 2 →
    s.takePkt 418 = (some k, t) →
    (chainIn k.data).test = false →
    t.hasManifest (chainIn k.data).ver = true →
    (mfChunks (t.imgSlot t.inactiveSlot).manifest ≤ (chainIn k.data).idx →
      exec (.chainData flash) s = .next (t.answerChain (chainIn k.data) 4 4)) ∧
    ((chainIn k.data).idx < mfChunks (t.imgSlot t.inactiveSlot).manifest →
      Store.get noBytes (t.imgSlot t.inactiveSlot).chunks (chainIn k.data).idx ≠ [] →
      exec (.chainData flash) s = .next (if ((chainIn k.data).frag + 1) * 8192 < mfChunkLen (t.imgSlot t.inactiveSlot).manifest (chainIn k.data).idx
        then t else t.answerChain (chainIn k.data) 3 0)) ∧
    ((chainIn k.data).idx < mfChunks (t.imgSlot t.inactiveSlot).manifest →
      Store.get noBytes (t.imgSlot t.inactiveSlot).chunks (chainIn k.data).idx = [] →
      (t.putFrag (chainIn k.data)).assembled (chainIn k.data) (mfChunkLen (t.imgSlot t.inactiveSlot).manifest (chainIn k.data).idx) = none →
      exec (.chainData flash) s = .next (t.putFrag (chainIn k.data)))) ∧
  (∀ (flash : Bool) (c : ChainIn) (d : List Byte) (s : State),
    (sha384 d ≠ mfHash (s.imgSlot s.inactiveSlot).manifest c.idx →
      s.chainChunk c d flash = (s.verifyFailed c.idx c.ver 0).answerChain c 4 1) ∧
    (sha384 d = mfHash (s.imgSlot s.inactiveSlot).manifest c.idx →
      s.chainChunk c d true = (s.answerChain c 3 0).writeChunk c.idx d ∧ s.chainChunk c d false = s.flashFailed.answerChain c 4 5)) ∧
  (∀ (h k : Pkt) (hs : List Pkt) (s t : State),
    s.inReset 23 = false →
    s.queue 418 = h :: hs →
    (chainIn h.data).op = 3 →
    s.takePkt 418 = (some k, t) →
    (chainIn k.data).test = false →
    t.upd.send = none ∨ (∀ u, t.upd.send = some u → fromReceiver u (chainIn k.data) = false ∨ t.itemOf u (chainIn k.data).idx = none) →
    exec .chainAck s = .next t) ∧
  (∀ (h k : Pkt) (hs : List Pkt) (s t : State),
    s.inReset 23 = false →
    s.queue 418 = h :: hs →
    (chainIn h.data).op = 4 →
    s.takePkt 418 = (some k, t) →
    (chainIn k.data).test = false →
    t.upd.send = none ∨ (∀ u, t.upd.send = some u → fromReceiver u (chainIn k.data) = false ∨ t.itemOf u (chainIn k.data).idx = none) →
    exec .chainNak s = .next t) ∧
  (∀ (h k : Pkt) (hs : List Pkt) (u : UpdSend) (i op idx : Nat) (d : List Byte) (s t v : State),
    s.inReset 23 = false →
    s.queue 418 = h :: hs →
    (chainIn h.data).op = 4 →
    s.takePkt 418 = (some k, t) →
    (chainIn k.data).test = false →
    t.upd.send = some u →
    fromReceiver u (chainIn k.data) = true →
    t.itemOf u (chainIn k.data).idx = some i →
    (chainIn k.data).reason = 1 ∨ (chainIn k.data).reason = 2 →
    (3 ≤ Store.get natZero u.naks i → exec .chainNak s = .next t.silence) ∧
    (Store.get natZero u.naks i < 3 →
      v = t.setUpd { t.upd with send := some { u with naks := Store.put natZero u.naks i (Store.get natZero u.naks i + 1) } } →
      v.sendItem { u with naks := Store.put natZero u.naks i (Store.get natZero u.naks i + 1) } i = some (op, idx, d) →
      exec .chainNak s = .next (v.sendFrags { u with naks := Store.put natZero u.naks i (Store.get natZero u.naks i + 1) } op idx d))) ∧
  (∀ (flash : Bool) (h k : Pkt) (hs : List Pkt) (s t : State),
    s.inReset 23 = false →
    s.queue 418 = h :: hs →
    (chainIn h.data).op = 1 →
    s.takePkt 418 = (some k, t) →
    (chainIn k.data).test = false →
    t.otherFlow (chainIn k.data).ver = false →
    (chainIn k.data).idx < 4 →
    (chainIn k.data).frag < 8 →
    (t.putFrag (chainIn k.data)).assembled (chainIn k.data) ((t.putFrag (chainIn k.data)).partLen (chainIn k.data)) = none →
    exec (.chainMpart flash) s = .next (t.putFrag (chainIn k.data))) ∧
  (∀ (flash : Bool) (h k : Pkt) (hs : List Pkt) (s t : State),
    s.inReset 23 = false →
    s.queue 418 = h :: hs →
    (chainIn h.data).op = 1 →
    s.takePkt 418 = (some k, t) →
    (chainIn k.data).test = false →
    t.otherFlow (chainIn k.data).ver = true →
    exec (.chainMpart flash) s = .next (t.answerChain (chainIn k.data) 6 0)) ∧
  (∀ (flash : Bool) (h k : Pkt) (hs : List Pkt) (s t : State),
    s.inReset 23 = false →
    s.queue 418 = h :: hs →
    (chainIn h.data).op = 2 →
    s.takePkt 418 = (some k, t) →
    (chainIn k.data).test = false →
    t.hasManifest (chainIn k.data).ver = false →
    exec (.chainData flash) s = .next (t.answerChain (chainIn k.data) 4 4)) ∧
  (∀ (flash : Bool) (h k : Pkt) (hs : List Pkt) (d : List Byte) (s t : State),
    s.inReset 23 = false →
    s.queue 418 = h :: hs →
    (chainIn h.data).op = 2 →
    s.takePkt 418 = (some k, t) →
    (chainIn k.data).test = false →
    t.hasManifest (chainIn k.data).ver = true →
    (chainIn k.data).idx < mfChunks (t.imgSlot t.inactiveSlot).manifest →
    Store.get noBytes (t.imgSlot t.inactiveSlot).chunks (chainIn k.data).idx = [] →
    (t.putFrag (chainIn k.data)).assembled (chainIn k.data) (mfChunkLen (t.imgSlot t.inactiveSlot).manifest (chainIn k.data).idx) = some d →
    exec (.chainData flash) s = .next (((t.putFrag (chainIn k.data)).dropFrags (chainIn k.data)).chainChunk (chainIn k.data) d flash)) ∧
  (∀ (h k : Pkt) (hs : List Pkt) (u : UpdSend) (i : Nat) (s t : State),
    s.inReset 23 = false →
    s.queue 418 = h :: hs →
    (chainIn h.data).op = 3 →
    s.takePkt 418 = (some k, t) →
    (chainIn k.data).test = false →
    t.upd.send = some u →
    fromReceiver u (chainIn k.data) = true →
    t.itemOf u (chainIn k.data).idx = some i →
    exec .chainAck s = .next (let v : UpdSend := { u with waiting := u.waiting.filter (fun j => j != i), acked := u.acked + ofBool (decide (mfParts (t.imgSlot u.slot).manifest ≤ i)) };
      ((t.setUpd { t.upd with send := some v }).pump 4).sendDone)) ∧
  (∀ (h k : Pkt) (hs : List Pkt) (u : UpdSend) (i : Nat) (s t : State),
    s.inReset 23 = false →
    s.queue 418 = h :: hs →
    (chainIn h.data).op = 4 →
    s.takePkt 418 = (some k, t) →
    (chainIn k.data).test = false →
    t.upd.send = some u →
    fromReceiver u (chainIn k.data) = true →
    t.itemOf u (chainIn k.data).idx = some i →
    (chainIn k.data).reason ≠ 1 →
    (chainIn k.data).reason ≠ 2 →
    exec .chainNak s = .next t.silence) ∧
  (∀ (h k : Pkt) (hs : List Pkt) (s t : State),
    s.inReset 23 = false →
    s.queue 418 = h :: hs →
    (chainIn h.data).op = 5 →
    s.takePkt 418 = (some k, t) →
    (chainIn k.data).test = false →
    (t.upd.flow.isSome = true ∨ (t.imgSlot t.inactiveSlot).state = 1 →
      exec .chainCancel s = .next (t.cancelFlow (chainIn k.data).ver)) ∧
    (t.upd.flow = none → (t.imgSlot t.inactiveSlot).state ≠ 1 → exec .chainCancel s = .next t)) ∧
  (∀ (h k : Pkt) (hs : List Pkt) (u : UpdSend) (s t : State),
    s.inReset 23 = false →
    s.queue 418 = h :: hs →
    (chainIn h.data).op = 6 →
    s.takePkt 418 = (some k, t) →
    (chainIn k.data).test = false →
    t.upd.send = some u →
    fromReceiver u (chainIn k.data) = true →
    exec .chainBusy s = .next t.silence) ∧
  (∀ (h k : Pkt) (hs : List Pkt) (s t : State),
    s.inReset 23 = false →
    s.queue 418 = h :: hs →
    (chainIn h.data).op = 6 →
    s.takePkt 418 = (some k, t) →
    (chainIn k.data).test = false →
    t.upd.send = none ∨ (∀ u, t.upd.send = some u → fromReceiver u (chainIn k.data) = false) →
    exec .chainBusy s = .next t) ∧
  (∀ (s : State),
    s.upd.send = none ∨ s.inReset 23 = true ∨ (∀ u, s.upd.send = some u → u.waiting = []) →
    exec .hopTimeout s = .next s) ∧
  (∀ (ver : Word) (s : State),
    (s.cancelFlow ver).upd.flow = none ∧ (s.cancelFlow ver).upd.send = none ∧ (s.cancelFlow ver).upd.frags = [] ∧
      (s.cancelFlow ver).imgSlot (s.cancelFlow ver).inactiveSlot = s.imgSlot s.inactiveSlot) ∧
  (∀ (u : UpdSend) (s : State),
    s.upd.send = some u →
    u.waiting ≠ [] →
    s.inReset 23 = false →
    exec .hopTimeout s = .next s.silence)

/-- ARM, DISARM, ACTIVATE, CONFIRM and SERVE, boot-confirmed and its time-out, and the loader. A permitted ARM of
the COMPLETE inactive slot arms it and leaves the rest of the slots, of any other slot it sets BADVAL; DISARM
disarms; ACTIVATE of an armed slot asks for the activation and resets the system, or is refused with event 0x1706;
with no slot armed neither does anything. CONFIRM of a checked image with CONFHOST confirms the start, of any other
it does nothing; SERVE of a COMPLETE image offers it to the pending positions. Start-up checks passed confirm an
image without CONFHOST. 120 s without a confirmation record event 0x1709 and reset the system. In loader mode a GO
from HP0 sets BUSY, any other GO only brings the host's stores; the check ends with status 2 for memory that cannot
be read and 4 for a manifest of no or too many chunks. -/
def Obligations.UpdateCommandsAndConfirmation : Prop :=
  (∀ (x : HPort) (j : Fin 2) (s : State),
    s.mayWrite x 23 = true →
    j.val = s.inactiveSlot →
    (s.imgSlot j).state = 2 →
    ∃ t, exec (.updArm x j) s = .next t ∧ (t.imgSlot j).armed = true ∧ (t.imgSlot j).manifest = (s.imgSlot j).manifest ∧
      (t.imgSlot j).chunks = (s.imgSlot j).chunks ∧ (∀ i : Fin 2, i ≠ j → t.imgSlot i = s.imgSlot i)) ∧
  (∀ (x : HPort) (j : Fin 2) (s : State),
    s.mayWrite x 23 = true →
    j.val ≠ s.inactiveSlot ∨ (s.imgSlot j).state ≠ 2 →
    exec (.updArm x j) s = .next s.badVal) ∧
  (∀ (x : HPort) (s : State),
    s.mayWrite x 23 = true →
    s.armedSlot = none →
    exec (.updDisarm x) s = .next s ∧ exec (.updActivate x) s = .next s) ∧
  (∀ (x : HPort) (j : Nat) (s : State),
    s.mayWrite x 23 = true →
    s.armedSlot = some j →
    s.activationRefused j = true →
    exec (.updActivate x) s = .next ((s.raiseUpd 4).report 0x1706 0 (wd j) (s.imgSlot j).version 3)) ∧
  (∀ (x : HPort) (sec : Nat) (s : State),
    s.mayWrite x 23 = true →
    s.upd.confHost = false ∨ s.upd.checks = false →
    exec (.updConfirm x sec) s = .next s) ∧
  (∀ (x : HPort) (s : State),
    s.mayWrite x 23 = true →
    (s.imgSlot s.inactiveSlot).state ≠ 2 →
    exec (.updServe x) s = .next s) ∧
  (∀ (x : HPort) (j : Nat) (s : State),
    s.mayWrite x 23 = true →
    s.armedSlot = some j →
    exec (.updDisarm x) s = .next ((s.setImgSlot j { s.imgSlot j with armed := false }).report 0x1706 0 (wd j) (s.imgSlot j).version 1)) ∧
  (∀ (x : HPort) (j : Nat) (s : State),
    s.mayWrite x 23 = true →
    s.armedSlot = some j →
    s.activationRefused j = false →
    exec (.updActivate x) s = .next ((((s.setUpd { s.upd with kept := { s.upd.kept with activate := true } }).report 0x1706 0 (wd j)
      (s.imgSlot j).version 2).drainReports).sysReset 5)) ∧
  (∀ (x : HPort) (sec : Nat) (s : State),
    s.mayWrite x 23 = true →
    s.upd.confHost = true →
    s.upd.checks = true →
    exec (.updConfirm x sec) s = .next (s.bootConfirm sec)) ∧
  (∀ (x : HPort) (s : State),
    s.mayWrite x 23 = true →
    (s.imgSlot s.inactiveSlot).state = 2 →
    s.upd.send.isSome = true →
    exec (.updServe x) s = .next (s.setUpd { s.upd with serve := (List.range (chainCount s.upd.kept.table)).filter (fun m => s.on (pendBit m)) })) ∧
  (∀ (x : HPort) (s : State),
    s.mayWrite x 23 = true →
    (s.imgSlot s.inactiveSlot).state = 2 →
    s.upd.send = none →
    exec (.updServe x) s = .next (s.setUpd { s.upd with serve := (List.range (chainCount s.upd.kept.table)).filter (fun m => s.on (pendBit m)) }).serveNext) ∧
  (∀ (sec : Nat) (s : State),
    (s.rst.phase ≠ 4 → exec (.bootConfirmed sec) s = .next s) ∧
    (s.rst.phase = 4 → s.upd.confHost = true → exec (.bootConfirmed sec) s = .next (s.setUpd { s.upd with checks := true }))) ∧
  (∀ (s : State),
    (s.rst.phase ≠ 1 ∧ s.rst.phase ≠ 4) ∨ s.on F.UPD_STAT_CONF = true →
    exec .confirmTimeout s = .next s) ∧
  (∀ (sec : Nat) (s : State),
    s.rst.phase = 4 →
    s.upd.confHost = false →
    exec (.bootConfirmed sec) s = .next ((s.setUpd { s.upd with checks := true }).bootConfirm sec)) ∧
  (∀ (sec : Nat) (s : State),
    s.on F.UPD_STAT_CONF = false →
    (s.bootConfirm sec).on F.UPD_STAT_CONF = true ∧ (s.rf F.UPD_STAT_RUNSLOT < 2 → ((s.bootConfirm sec).imgSlot (s.rf F.UPD_STAT_RUNSLOT)).boots = 0)) ∧
  (∀ (j : Nat) (s : State),
    s.rst.phase = 1 ∨ s.rst.phase = 4 →
    s.on F.UPD_STAT_CONF = false →
    j = s.rf F.UPD_STAT_RUNSLOT →
    exec .confirmTimeout s = .next (((s.report 0x1709 0 (wd j) (wd (if j < 2 then (s.imgSlot j).boots else 0)) 0).drainReports).sysReset 6)) ∧
  (∀ (v : Word) (m : HostMem) (s : State),
    s.rst.phase = 2 →
    fieldOf v 31 31 = 1 →
    s.on F.RST_LDCMD_BUSY = false →
    exec (.loaderGo .hp0 v m) s = .next (((s.hostStores .hp0 m).setF F.RST_LDCMD_BUSY 1).setF F.RST_LDCMD_STATUS 0)) ∧
  (∀ (x : HPort) (v : Word) (m : HostMem) (s : State),
    x = .hp1 ∨ s.rst.phase ≠ 2 ∨ fieldOf v 31 31 = 0 ∨ s.on F.RST_LDCMD_BUSY = true →
    exec (.loaderGo x v m) s = .next (s.hostStores x m)) ∧
  (∀ (s : State),
    s.rst.phase ≠ 2 ∨ s.on F.RST_LDCMD_BUSY = false →
    exec .loaderCheckComplete s = .next s) ∧
  (∀ (s t : State),
    s.rst.phase = 2 →
    s.on F.RST_LDCMD_BUSY = true →
    s.dmaRead .hp0 0 ((s.reg Reg.RST_LDL).toNat + (s.reg Reg.RST_LDH).toNat * 2 ^ 32) 256 = (none, t) →
    exec .loaderCheckComplete s = .next ((t.setF F.RST_LDCMD_BUSY 0).setF F.RST_LDCMD_STATUS 2)) ∧
  (∀ (h : List Byte) (s t : State),
    s.rst.phase = 2 →
    s.on F.RST_LDCMD_BUSY = true →
    s.dmaRead .hp0 0 ((s.reg Reg.RST_LDL).toNat + (s.reg Reg.RST_LDH).toNat * 2 ^ 32) 256 = (some h, t) →
    mfChunks h = 0 ∨ 4096 < mfChunks h →
    exec .loaderCheckComplete s = .next ((t.setF F.RST_LDCMD_BUSY 0).setF F.RST_LDCMD_STATUS 4))

/-- Only the port that holds SEM0 writes set-up registers; the other port's write is ignored, and it reads normally. A
register write by a port that does not hold SEM0 leaves the state as it is, for REGISTER_WRITE outside the registers
whose description states otherwise and for every row that is a write of a set-up register of a fitted unit. A read by
RC_FIELD_READ shows that port the register and has its read action. -/
def Obligations.IgnoredWithoutSem0 : Prop :=
  (∀ (x : HPort) (off : Nat) (v : Word) (s : State),
    s.holdsSem0 x = false →
    isDoorbell off = false →
    s.noReg off = false →
    ownReg off = none →
    arr? off (Reg.SEM_CMD 0) 64 4 = none →
    [Reg.RST_LDL, Reg.RST_LDH, Reg.RST_LDCMD, Reg.TWN_CTL].contains off = false →
    exec (.registerWrite x off 4 v) s = .next s) ∧
  (∀ (c : Instr) (x : HPort) (b : Nat) (s : State),
    setUpWriteOf c = some (x, b) →
    s.holdsSem0 x = false →
    s.variant.lacks b = false →
    exec c s = .next s) ∧
  (∀ (x : HPort) (off size : Nat) (s : State),
    s.holdsSem0 x = false →
    isDoorbell (off - off % 4) = false →
    s.noReg (off - off % 4) = false →
    s.inReset ((off - off % 4) / 0x10000) = false →
    exec (.rcFieldRead x off size) s = .next ((s.readAct x (off - off % 4)).showRead x off size
      (hideWo (off - off % 4) (s.viewReg x (off - off % 4)))))

/-- What reset leaves: canonical data, every register at its reset value, empty rings, queues and command queue.
State.reset is canonical, lists no register and no byte of host memory, so every register reads its reset value and
every byte of host memory 0 (the model's choice, log entries 7 and 6); no command waits, every queue of the pool is
empty, every ring set is STOPPED with its indices 0 and no operation; the module is STANDBY, the tick generator stopped,
the module in reset, no D33 output driven and ACT_OUT low. -/
def Obligations.StateAfterReset : Prop :=
  State.reset.canonical = true ∧ State.reset.pending = [] ∧
      (∀ off, State.reset.reg off = Reg.resetVal State.reset.variant off) ∧
      (∀ x a, State.reset.memByte x a = 0) ∧ (∀ q, State.reset.queue q = []) ∧
      (∀ x p, State.reset.ring x p = RingSet.reset) ∧
      (∀ x : HPort, ∀ p : Part, State.reset.rsState x p = 0) ∧ State.reset.active = false ∧
      State.reset.on F.TCK_STAT_RUN = false ∧ State.reset.rst.phase = 0 ∧
      (∀ b, State.reset.driven b = false) ∧ State.reset.actLevel = false

/-- Every step keeps registers and both host memories in canonical form, so equal contents stay equal data. From every
state whose registers and host memories are canonical (keys rise strictly, no entry equals what an unlisted key reads
as), a step that answers a next state leaves a state for which the same holds. -/
def Obligations.EveryStepKeepsCanonical : Prop :=
  ∀ (s t : State),
    s.canonical = true →
    step s = .next t →
    t.canonical = true

/-- A command changes neither the queue of waiting commands nor the fuses of the variant. Whatever command is carried
out, the commands that wait stay in their order and the variant, as SYS_CAP0 and SYS_CAP1 give it, stays; a step takes
exactly the command at the front of the queue. The queue of commands is the model's (log entry 1). -/
def Obligations.StepKeepsQueueAndVariant : Prop :=
  (∀ (c : Instr) (s t : State),
    exec c s = .next t →
    t.pending = s.pending ∧ t.variant = s.variant) ∧
  (∀ (s t : State),
    step s = .next t →
    t.pending = s.pending.tail ∧ t.variant = s.variant)

/-- A command that acts inside one unit changes that unit, its block's registers and the sinks of its reports only. For
every command with a home unit and every state, the next state differs from the state in the registers of the unit's
blocks and of the recorder's, the unit's own state, the recorder, the MSI-X pending bits, the outputs and the free
values taken, and in nothing else. -/
def Obligations.UnitRowsStayInTheirBlocks : Prop :=
  ∀ (c : Instr) (h : Home) (s t : State),
    homeOf c = some h →
    exec c s = .next t →
    t = s.withHome t h ∧ ∀ off, off / 0x10000 ∉ h.blocks → t.reg off = s.reg off

/-- The rows that store nothing leave every byte of both host memories as it was. For every command among the rows that
store nothing and every state, each byte of the host memory behind each port reads after the command as before. -/
def Obligations.RowsThatStoreNothing : Prop :=
  ∀ (c : Instr) (s t : State),
    storesNothing c = true →
    exec c s = .next t →
    ∀ x a, t.memByte x a = s.memByte x a
end

