-- ==== Sys2Proof/Laws/Store.lean ====
section
/-! SUPPORT. Sparse storage: what a read gives after a write, and that every write keeps the canonical form. -/

namespace Sys2Proof.Machine

variable {α : Type} [DecidableEq α] {d : Nat → α}

/-- A canonical store from `b` on is canonical from every lower bound. -/
theorem Store.wfFrom_mono {m : Store α} {a b : Nat} (h : a ≤ b) (hm : Store.wfFrom d b m = true) :
    Store.wfFrom d a m = true := by
  cases m with
  | nil => rfl
  | cons e m =>
    simp only [Store.wfFrom, Bool.and_eq_true, decide_eq_true_eq] at hm ⊢
    exact ⟨⟨Nat.le_trans h hm.1.1, hm.1.2⟩, hm.2⟩

/-- Keys below the bound of a canonical store are unlisted. -/
theorem Store.get_below {m : Store α} {b k : Nat} (hm : Store.wfFrom d b m = true) (h : k < b) :
    Store.get d m k = d k := by
  induction m generalizing b with
  | nil => rfl
  | cons e m ih =>
    simp only [Store.wfFrom, Bool.and_eq_true, decide_eq_true_eq] at hm
    have : e.1 ≠ k := by omega
    simp only [Store.get, this, if_false]
    exact ih hm.2 (by omega)

/-- Taking entries out keeps the canonical form. -/
theorem Store.filter_wfFrom {m : Store α} {b : Nat} (p : Nat × α → Bool) (hm : Store.wfFrom d b m = true) :
    Store.wfFrom d b (m.filter p) = true := by
  induction m generalizing b with
  | nil => rfl
  | cons e m ih =>
    simp only [Store.wfFrom, Bool.and_eq_true, decide_eq_true_eq] at hm
    rw [List.filter_cons]
    split
    · simp only [Store.wfFrom, Bool.and_eq_true, decide_eq_true_eq]
      exact ⟨hm.1, ih hm.2⟩
    · exact Store.wfFrom_mono (by omega) (ih hm.2)

/-- An entry put in its place keeps the canonical form. -/
theorem Store.insert_wfFrom {m : Store α} {b k : Nat} {v : α} (hm : Store.wfFrom d b m = true) (h : b ≤ k)
    (hv : v ≠ d k) (hk : ∀ e ∈ m, e.1 ≠ k) : Store.wfFrom d b (Store.insert m k v) = true := by
  induction m generalizing b with
  | nil => simp [Store.insert, Store.wfFrom, h, hv]
  | cons e m ih =>
    have he := hk e List.mem_cons_self
    simp only [Store.wfFrom, Bool.and_eq_true, decide_eq_true_eq] at hm
    unfold Store.insert
    split
    · simp only [Store.wfFrom, Bool.and_eq_true, decide_eq_true_eq]
      exact ⟨⟨h, by simpa using hv⟩, ⟨⟨by omega, hm.1.2⟩, hm.2⟩⟩
    · simp only [Store.wfFrom, Bool.and_eq_true, decide_eq_true_eq]
      exact ⟨hm.1, ih hm.2 (by omega) (fun e he => hk e (List.mem_cons_of_mem _ he))⟩

/-- A write keeps the canonical form. -/
theorem Store.put_wfFrom {m : Store α} {b k : Nat} {v : α} (hm : Store.wfFrom d b m = true) (h : b ≤ k) :
    Store.wfFrom d b (Store.put d m k v) = true := by
  unfold Store.put
  split
  · exact Store.filter_wfFrom _ hm
  · next hv => exact Store.insert_wfFrom (Store.filter_wfFrom _ hm) h hv (fun e he => by simpa using (List.mem_filter.1 he).2)

/-- A write keeps the canonical form. -/
theorem Store.put_wf {m : Store α} {k : Nat} {v : α} (hm : Store.wf d m = true) : Store.wf d (Store.put d m k v) = true :=
  Store.put_wfFrom hm (Nat.zero_le k)

/-- Writing a list of values keeps the canonical form. -/
theorem Store.putList_wf {m : Store α} {k : Nat} {vs : List α} (hm : Store.wf d m = true) :
    Store.wf d (Store.putList d m k vs) = true := by
  induction vs generalizing m k with
  | nil => exact hm
  | cons v vs ih => exact ih (Store.put_wf hm)

omit [DecidableEq α] in
/-- An unlisted key reads as its default. -/
theorem Store.get_absent {m : Store α} {k : Nat} (h : ∀ e ∈ m, e.1 ≠ k) : Store.get d m k = d k := by
  induction m with
  | nil => rfl
  | cons e m ih =>
    simp only [Store.get, h e List.mem_cons_self, if_false]
    exact ih (fun e he => h e (List.mem_cons_of_mem _ he))

omit [DecidableEq α] in
/-- Taking out the entries of one key leaves the others. -/
theorem Store.get_filter_other {m : Store α} {k j : Nat} (h : j ≠ k) :
    Store.get d (m.filter (fun e => e.1 != k)) j = Store.get d m j := by
  induction m with
  | nil => rfl
  | cons e m ih =>
    rw [List.filter_cons]
    split
    · simp only [Store.get, ih]
    · next hk =>
      have hk : e.1 = k := by simpa using hk
      have : e.1 ≠ j := fun h' => h (h' ▸ hk)
      simp only [Store.get, this, if_false, ih]

omit [DecidableEq α] in
/-- A read of the key that was put in. -/
theorem Store.get_insert_same {m : Store α} {k : Nat} {v : α} (h : ∀ e ∈ m, e.1 ≠ k) :
    Store.get d (Store.insert m k v) k = v := by
  induction m with
  | nil => simp [Store.insert, Store.get]
  | cons e m ih =>
    unfold Store.insert
    split
    · simp [Store.get]
    · simp only [Store.get, h e List.mem_cons_self, if_false]
      exact ih (fun e he => h e (List.mem_cons_of_mem _ he))

omit [DecidableEq α] in
/-- A read of another key than the one put in. -/
theorem Store.get_insert_other {m : Store α} {k j : Nat} {v : α} (h : j ≠ k) :
    Store.get d (Store.insert m k v) j = Store.get d m j := by
  induction m with
  | nil => simp [Store.insert, Store.get, Ne.symm h]
  | cons e m ih =>
    unfold Store.insert
    split
    · simp [Store.get, Ne.symm h]
    · simp only [Store.get, ih]

/-- A read of the key just written. -/
@[simp] theorem Store.get_put_same {m : Store α} {k : Nat} {v : α} : Store.get d (Store.put d m k v) k = v := by
  have ha : ∀ e ∈ m.filter (fun e => e.1 != k), e.1 ≠ k := fun e he => by simpa using (List.mem_filter.1 he).2
  unfold Store.put
  split
  · next hv => rw [Store.get_absent ha, hv]
  · exact Store.get_insert_same ha

/-- A read of another key. -/
theorem Store.get_put_other {m : Store α} {k j : Nat} {v : α} (h : j ≠ k) :
    Store.get d (Store.put d m k v) j = Store.get d m j := by
  unfold Store.put
  split
  · exact Store.get_filter_other h
  · rw [Store.get_insert_other h, Store.get_filter_other h]

/-- A read below the keys that a list of values was written to. -/
theorem Store.get_putList_below {m : Store α} {k j : Nat} {vs : List α} (h : j < k) :
    Store.get d (Store.putList d m k vs) j = Store.get d m j := by
  induction vs generalizing m k with
  | nil => rfl
  | cons v vs ih => rw [Store.putList, ih (by omega), Store.get_put_other (by omega)]

/-- A read above the keys that a list of values was written to. -/
theorem Store.get_putList_above {m : Store α} {k j : Nat} {vs : List α} (h : k + vs.length ≤ j) :
    Store.get d (Store.putList d m k vs) j = Store.get d m j := by
  induction vs generalizing m k with
  | nil => rfl
  | cons v vs ih =>
    rw [List.length_cons] at h
    rw [Store.putList, ih (by omega), Store.get_put_other (by omega)]

/-- The values just written at consecutive keys are read back. -/
theorem Store.getList_putList {m : Store α} {k : Nat} {vs : List α} :
    Store.getList d (Store.putList d m k vs) k vs.length = vs := by
  induction vs generalizing m k with
  | nil => rfl
  | cons v vs ih =>
    rw [List.length_cons, Store.getList, Store.putList, ih, Store.get_putList_below (by omega),
      Store.get_put_same]

end Sys2Proof.Machine
end

