-- ==== Sys2Proof/Laws/Fields.lean ====
section
/-! SUPPORT. Fields of words and of registers: a field reads what it was given, and other fields stay. -/

namespace Sys2Proof.Machine

/-- A number split at a field: what is above it, the field, and what is below it. -/
theorem split_at (x lo k : Nat) :
    x = (x / 2 ^ (lo + k) * 2 ^ k + x / 2 ^ lo % 2 ^ k) * 2 ^ lo + x % 2 ^ lo := by
  have h1 : x / 2 ^ lo / 2 ^ k = x / 2 ^ (lo + k) := by rw [Nat.div_div_eq_div_mul, ← Nat.pow_add]
  have h2 := Nat.div_add_mod x (2 ^ lo)
  have h3 := Nat.div_add_mod (x / 2 ^ lo) (2 ^ k)
  rw [h1] at h3
  rw [Nat.mul_comm (x / 2 ^ (lo + k)), h3, Nat.mul_comm]
  exact h2.symm

/-- Width of a field of a 32-bit word. -/
theorem width_add {hi lo : Nat} (h : lo ≤ hi) : lo + (hi + 1 - lo) = hi + 1 := by omega

/-- What `withField` makes of a word, as a number. -/
theorem withField_toNat (w : Word) {hi lo : Nat} (n : Nat) (h : lo ≤ hi) (h32 : hi < 32) :
    (withField w hi lo n).toNat =
      (w.toNat / 2 ^ (hi + 1) * 2 ^ (hi + 1 - lo) + n % 2 ^ (hi + 1 - lo)) * 2 ^ lo + w.toNat % 2 ^ lo := by
  have hs := split_at w.toNat lo (hi + 1 - lo)
  rw [width_add h] at hs
  have hlt := w.isLt
  have hval : w.toNat - fieldOf w hi lo * 2 ^ lo + n % 2 ^ (hi + 1 - lo) * 2 ^ lo =
      (w.toNat / 2 ^ (hi + 1) * 2 ^ (hi + 1 - lo) + n % 2 ^ (hi + 1 - lo)) * 2 ^ lo + w.toNat % 2 ^ lo := by
    unfold fieldOf
    generalize w.toNat / 2 ^ lo % 2 ^ (hi + 1 - lo) = f at *
    generalize w.toNat / 2 ^ (hi + 1) * 2 ^ (hi + 1 - lo) = a at *
    rw [Nat.add_mul] at *
    omega
  have hbound : (w.toNat / 2 ^ (hi + 1) * 2 ^ (hi + 1 - lo) + n % 2 ^ (hi + 1 - lo)) * 2 ^ lo + w.toNat % 2 ^ lo
      < 2 ^ 32 := by
    have ha : w.toNat / 2 ^ (hi + 1) < 2 ^ (32 - (hi + 1)) := by
      rw [Nat.div_lt_iff_lt_mul (Nat.two_pow_pos _), ← Nat.pow_add]
      have : 32 - (hi + 1) + (hi + 1) = 32 := by omega
      rw [this]; exact hlt
    have hf : n % 2 ^ (hi + 1 - lo) < 2 ^ (hi + 1 - lo) := Nat.mod_lt _ (Nat.two_pow_pos _)
    have hb : w.toNat % 2 ^ lo < 2 ^ lo := Nat.mod_lt _ (Nat.two_pow_pos _)
    have h1 : w.toNat / 2 ^ (hi + 1) * 2 ^ (hi + 1 - lo) + n % 2 ^ (hi + 1 - lo) < 2 ^ (32 - lo) := by
      have e : (2 : Nat) ^ (32 - lo) = 2 ^ (32 - (hi + 1)) * 2 ^ (hi + 1 - lo) := by
        rw [← Nat.pow_add]; congr 1; omega
      rw [e]
      calc _ < w.toNat / 2 ^ (hi + 1) * 2 ^ (hi + 1 - lo) + 2 ^ (hi + 1 - lo) := by omega
        _ = (w.toNat / 2 ^ (hi + 1) + 1) * 2 ^ (hi + 1 - lo) := by rw [Nat.add_mul, Nat.one_mul]
        _ ≤ _ := Nat.mul_le_mul_right _ ha
    have e : (2 : Nat) ^ 32 = 2 ^ (32 - lo) * 2 ^ lo := by rw [← Nat.pow_add]; congr 1; omega
    rw [e]
    calc _ < (w.toNat / 2 ^ (hi + 1) * 2 ^ (hi + 1 - lo) + n % 2 ^ (hi + 1 - lo)) * 2 ^ lo + 2 ^ lo := by omega
      _ = (w.toNat / 2 ^ (hi + 1) * 2 ^ (hi + 1 - lo) + n % 2 ^ (hi + 1 - lo) + 1) * 2 ^ lo := by
        rw [Nat.add_mul _ 1, Nat.one_mul]
      _ ≤ _ := Nat.mul_le_mul_right _ h1
  unfold withField
  rw [BitVec.toNat_ofNat, hval, Nat.mod_eq_of_lt hbound]

/-- A field that was given a value reads it. -/
theorem fieldOf_withField_same (w : Word) {hi lo : Nat} (n : Nat) (h : lo ≤ hi) (h32 : hi < 32) :
    fieldOf (withField w hi lo n) hi lo = n % 2 ^ (hi + 1 - lo) := by
  have hb : w.toNat % 2 ^ lo < 2 ^ lo := Nat.mod_lt _ (Nat.two_pow_pos _)
  unfold fieldOf
  rw [withField_toNat w n h h32, Nat.mul_comm _ (2 ^ lo), Nat.mul_add_div (Nat.two_pow_pos _), Nat.div_eq_of_lt hb,
    Nat.add_zero, Nat.mul_add_mod_self_right, Nat.mod_mod]

/-- A field below the one that was given a value stays. -/
theorem fieldOf_withField_below (w : Word) {hi lo h2 l2 : Nat} (n : Nat) (h : lo ≤ hi) (h32 : hi < 32) (hb : h2 < lo) :
    fieldOf (withField w hi lo n) h2 l2 = fieldOf w h2 l2 := by
  have key : ∀ a b : Nat, a % 2 ^ lo = b % 2 ^ lo →
      a / 2 ^ l2 % 2 ^ (h2 + 1 - l2) = b / 2 ^ l2 % 2 ^ (h2 + 1 - l2) := by
    intro a b hab
    apply Nat.eq_of_testBit_eq
    intro i
    rw [Nat.testBit_mod_two_pow, Nat.testBit_mod_two_pow, Nat.testBit_div_two_pow, Nat.testBit_div_two_pow]
    by_cases hi' : i < h2 + 1 - l2
    · have e1 := Nat.testBit_mod_two_pow a lo (l2 + i)
      have e2 := Nat.testBit_mod_two_pow b lo (l2 + i)
      have hlt : l2 + i < lo := by omega
      rw [hab, e2] at e1
      simp only [hlt, decide_true, Bool.true_and] at e1
      simp only [hi', decide_true, Bool.true_and, Nat.add_comm]
      exact e1.symm
    · simp [hi']
  unfold fieldOf
  apply key
  rw [withField_toNat w n h h32, Nat.mul_comm, Nat.mul_add_mod, Nat.mod_mod]

/-- A field above the one that was given a value stays. -/
theorem fieldOf_withField_above (w : Word) {hi lo h2 l2 : Nat} (n : Nat) (h : lo ≤ hi) (h32 : hi < 32) (hb : hi < l2) :
    fieldOf (withField w hi lo n) h2 l2 = fieldOf w h2 l2 := by
  have hf : n % 2 ^ (hi + 1 - lo) < 2 ^ (hi + 1 - lo) := Nat.mod_lt _ (Nat.two_pow_pos _)
  have hb' : w.toNat % 2 ^ lo < 2 ^ lo := Nat.mod_lt _ (Nat.two_pow_pos _)
  have hq : (withField w hi lo n).toNat / 2 ^ (hi + 1) = w.toNat / 2 ^ (hi + 1) := by
    have e : (2 : Nat) ^ (hi + 1) = 2 ^ lo * 2 ^ (hi + 1 - lo) := by rw [← Nat.pow_add, width_add h]
    rw [withField_toNat w n h h32, e, ← Nat.div_div_eq_div_mul, Nat.mul_comm _ (2 ^ lo),
      Nat.mul_add_div (Nat.two_pow_pos _), Nat.div_eq_of_lt hb', Nat.add_zero, Nat.mul_comm _ (2 ^ (hi + 1 - lo)),
      Nat.mul_add_div (Nat.two_pow_pos _), Nat.div_eq_of_lt hf, Nat.add_zero]
  have hd : ∀ x : Nat, x / 2 ^ l2 = x / 2 ^ (hi + 1) / 2 ^ (l2 - (hi + 1)) := by
    intro x
    rw [Nat.div_div_eq_div_mul, ← Nat.pow_add]; congr 2; omega
  unfold fieldOf
  rw [hd, hq, ← hd]

/-! ## Registers -/

/-- Registers are held in canonical form. -/
def State.regsWf (s : State) : Prop := Store.wf (Reg.resetVal s.variant) s.regs = true

/-- A register reads the value it was given. -/
@[simp] theorem State.reg_setReg_same {s : State} {off : Nat} {v : Word} : (s.setReg off v).reg off = v :=
  Store.get_put_same

/-- Another register stays. -/
theorem State.reg_setReg_other {s : State} {off o : Nat} {v : Word} (h : o ≠ off) : (s.setReg off v).reg o = s.reg o :=
  Store.get_put_other h

/-- Giving a register a value keeps the registers canonical. -/
theorem State.setReg_regsWf {s : State} {off : Nat} {v : Word} (h : s.regsWf) : (s.setReg off v).regsWf :=
  Store.put_wf h

/-- A field reads the value it was given. -/
theorem State.rf_setF_same {s : State} {f : Fld} {n : Nat} (h : f.lo ≤ f.hi) (h32 : f.hi < 32) :
    (s.setF f n).rf f = n % 2 ^ (f.hi + 1 - f.lo) := by
  unfold State.rf State.setF
  rw [State.reg_setReg_same, fieldOf_withField_same _ _ h h32]

/-- A field of another register, or one that does not overlap, stays. -/
theorem State.rf_setF_other {s : State} {f g : Fld} {n : Nat} (h : f.lo ≤ f.hi) (h32 : f.hi < 32)
    (hg : g.off ≠ f.off ∨ g.hi < f.lo ∨ f.hi < g.lo) : (s.setF f n).rf g = s.rf g := by
  unfold State.rf State.setF
  by_cases ho : g.off = f.off
  · rw [ho, State.reg_setReg_same]
    rcases hg with hg | hg | hg
    · exact absurd ho hg
    · exact fieldOf_withField_below _ _ h h32 hg
    · exact fieldOf_withField_above _ _ h h32 hg
  · rw [State.reg_setReg_other ho]

end Sys2Proof.Machine
end

