-- ==== Sys2Proof/Laws/Logic.lean ====
section
/-! SUPPORT. What the logic engine does at an instruction, said once for all instructions of R311. -/

namespace Sys2Proof.Machine

/-- At an instruction that the command names, the engine runs it. -/
theorem State.lgeStep_at {s : State} {t : Nat} {i : LgeI} {sel : LgeI → Bool} (h : s.lgeAt t i = true)
    (hs : sel i = true) : s.lgeStep sel = s.runI t (s.task t).pc i := by
  simp only [State.lgeAt, Bool.and_eq_true, Bool.not_eq_true', decide_eq_true_eq] at h
  obtain ⟨⟨⟨⟨⟨⟨ht, hw⟩, hr⟩, hb⟩, hg⟩, hl⟩, hd⟩ := h
  have hg' : ¬ s.rf (F.LGE_TBUD_BUDGET t) ≤ (s.task t).spent := by simpa [Nat.blt_eq] using hg
  have hl' : ¬ (twoWords (s.progWord t (s.task t).pc) && Decidable.decide (s.regionLen t ≤ (s.task t).pc + 1)) = true := by
    intro hc
    rw [Bool.and_eq_true, decide_eq_true_eq] at hc
    rw [hc.1, Bool.true_and, Nat.ble_eq_true_of_le hc.2] at hl
    cases hl
  simp only [State.lgeStep, ht, hw, hr, hb, hd, hs, hg', Bool.not_true, Bool.false_or, decide_false, Bool.false_eq_true,
    if_false, if_true]
  rw [if_neg hl']

end Sys2Proof.Machine
end

