-- ==== Sys2Proof/Laws/State.lean ====
section
/-! SUPPORT. What each update of the state leaves alone: one lemma per field and update. -/

namespace Sys2Proof.Machine

variable {s : State}

@[simp] theorem State.setReg_variant {off : Nat} {v : Word} : (s.setReg off v).variant = s.variant := rfl
@[simp] theorem State.setReg_time {off : Nat} {v : Word} : (s.setReg off v).time = s.time := rfl
@[simp] theorem State.setReg_host {off : Nat} {v : Word} : (s.setReg off v).host = s.host := rfl
@[simp] theorem State.setReg_prt {off : Nat} {v : Word} : (s.setReg off v).prt = s.prt := rfl
@[simp] theorem State.setReg_pool {off : Nat} {v : Word} : (s.setReg off v).pool = s.pool := rfl
@[simp] theorem State.setReg_ptx {off : Nat} {v : Word} : (s.setReg off v).ptx = s.ptx := rfl
@[simp] theorem State.setReg_fld {off : Nat} {v : Word} : (s.setReg off v).fld = s.fld := rfl
@[simp] theorem State.setReg_lge {off : Nat} {v : Word} : (s.setReg off v).lge = s.lge := rfl
@[simp] theorem State.setReg_cle {off : Nat} {v : Word} : (s.setReg off v).cle = s.cle := rfl
@[simp] theorem State.setReg_lio {off : Nat} {v : Word} : (s.setReg off v).lio = s.lio := rfl
@[simp] theorem State.setReg_mtr {off : Nat} {v : Word} : (s.setReg off v).mtr = s.mtr := rfl
@[simp] theorem State.setReg_saf {off : Nat} {v : Word} : (s.setReg off v).saf = s.saf := rfl
@[simp] theorem State.setReg_rsr {off : Nat} {v : Word} : (s.setReg off v).rsr = s.rsr := rfl
@[simp] theorem State.setReg_key {off : Nat} {v : Word} : (s.setReg off v).key = s.key := rfl
@[simp] theorem State.setReg_dsp {off : Nat} {v : Word} : (s.setReg off v).dsp = s.dsp := rfl
@[simp] theorem State.setReg_can {off : Nat} {v : Word} : (s.setReg off v).can = s.can := rfl
@[simp] theorem State.setReg_twn {off : Nat} {v : Word} : (s.setReg off v).twn = s.twn := rfl
@[simp] theorem State.setReg_upd {off : Nat} {v : Word} : (s.setReg off v).upd = s.upd := rfl
@[simp] theorem State.setReg_rst {off : Nat} {v : Word} : (s.setReg off v).rst = s.rst := rfl
@[simp] theorem State.setReg_evr {off : Nat} {v : Word} : (s.setReg off v).evr = s.evr := rfl
@[simp] theorem State.setReg_out {off : Nat} {v : Word} : (s.setReg off v).out = s.out := rfl
@[simp] theorem State.setReg_free {off : Nat} {v : Word} : (s.setReg off v).free = s.free := rfl
@[simp] theorem State.setReg_pending {off : Nat} {v : Word} : (s.setReg off v).pending = s.pending := rfl

@[simp] theorem State.setF_variant {f : Fld} {n : Nat} : (s.setF f n).variant = s.variant := rfl
@[simp] theorem State.setF_time {f : Fld} {n : Nat} : (s.setF f n).time = s.time := rfl
@[simp] theorem State.setF_host {f : Fld} {n : Nat} : (s.setF f n).host = s.host := rfl
@[simp] theorem State.setF_prt {f : Fld} {n : Nat} : (s.setF f n).prt = s.prt := rfl
@[simp] theorem State.setF_pool {f : Fld} {n : Nat} : (s.setF f n).pool = s.pool := rfl
@[simp] theorem State.setF_ptx {f : Fld} {n : Nat} : (s.setF f n).ptx = s.ptx := rfl
@[simp] theorem State.setF_fld {f : Fld} {n : Nat} : (s.setF f n).fld = s.fld := rfl
@[simp] theorem State.setF_lge {f : Fld} {n : Nat} : (s.setF f n).lge = s.lge := rfl
@[simp] theorem State.setF_cle {f : Fld} {n : Nat} : (s.setF f n).cle = s.cle := rfl
@[simp] theorem State.setF_lio {f : Fld} {n : Nat} : (s.setF f n).lio = s.lio := rfl
@[simp] theorem State.setF_mtr {f : Fld} {n : Nat} : (s.setF f n).mtr = s.mtr := rfl
@[simp] theorem State.setF_saf {f : Fld} {n : Nat} : (s.setF f n).saf = s.saf := rfl
@[simp] theorem State.setF_rsr {f : Fld} {n : Nat} : (s.setF f n).rsr = s.rsr := rfl
@[simp] theorem State.setF_key {f : Fld} {n : Nat} : (s.setF f n).key = s.key := rfl
@[simp] theorem State.setF_dsp {f : Fld} {n : Nat} : (s.setF f n).dsp = s.dsp := rfl
@[simp] theorem State.setF_can {f : Fld} {n : Nat} : (s.setF f n).can = s.can := rfl
@[simp] theorem State.setF_twn {f : Fld} {n : Nat} : (s.setF f n).twn = s.twn := rfl
@[simp] theorem State.setF_upd {f : Fld} {n : Nat} : (s.setF f n).upd = s.upd := rfl
@[simp] theorem State.setF_rst {f : Fld} {n : Nat} : (s.setF f n).rst = s.rst := rfl
@[simp] theorem State.setF_evr {f : Fld} {n : Nat} : (s.setF f n).evr = s.evr := rfl
@[simp] theorem State.setF_out {f : Fld} {n : Nat} : (s.setF f n).out = s.out := rfl
@[simp] theorem State.setF_free {f : Fld} {n : Nat} : (s.setF f n).free = s.free := rfl
@[simp] theorem State.setF_pending {f : Fld} {n : Nat} : (s.setF f n).pending = s.pending := rfl

@[simp] theorem State.addSat_variant {f : Fld} {n : Nat} : (s.addSat f n).variant = s.variant := rfl
@[simp] theorem State.addSat_time {f : Fld} {n : Nat} : (s.addSat f n).time = s.time := rfl
@[simp] theorem State.addSat_host {f : Fld} {n : Nat} : (s.addSat f n).host = s.host := rfl
@[simp] theorem State.addSat_prt {f : Fld} {n : Nat} : (s.addSat f n).prt = s.prt := rfl
@[simp] theorem State.addSat_pool {f : Fld} {n : Nat} : (s.addSat f n).pool = s.pool := rfl
@[simp] theorem State.addSat_ptx {f : Fld} {n : Nat} : (s.addSat f n).ptx = s.ptx := rfl
@[simp] theorem State.addSat_fld {f : Fld} {n : Nat} : (s.addSat f n).fld = s.fld := rfl
@[simp] theorem State.addSat_lge {f : Fld} {n : Nat} : (s.addSat f n).lge = s.lge := rfl
@[simp] theorem State.addSat_cle {f : Fld} {n : Nat} : (s.addSat f n).cle = s.cle := rfl
@[simp] theorem State.addSat_lio {f : Fld} {n : Nat} : (s.addSat f n).lio = s.lio := rfl
@[simp] theorem State.addSat_mtr {f : Fld} {n : Nat} : (s.addSat f n).mtr = s.mtr := rfl
@[simp] theorem State.addSat_saf {f : Fld} {n : Nat} : (s.addSat f n).saf = s.saf := rfl
@[simp] theorem State.addSat_rsr {f : Fld} {n : Nat} : (s.addSat f n).rsr = s.rsr := rfl
@[simp] theorem State.addSat_key {f : Fld} {n : Nat} : (s.addSat f n).key = s.key := rfl
@[simp] theorem State.addSat_dsp {f : Fld} {n : Nat} : (s.addSat f n).dsp = s.dsp := rfl
@[simp] theorem State.addSat_can {f : Fld} {n : Nat} : (s.addSat f n).can = s.can := rfl
@[simp] theorem State.addSat_twn {f : Fld} {n : Nat} : (s.addSat f n).twn = s.twn := rfl
@[simp] theorem State.addSat_upd {f : Fld} {n : Nat} : (s.addSat f n).upd = s.upd := rfl
@[simp] theorem State.addSat_rst {f : Fld} {n : Nat} : (s.addSat f n).rst = s.rst := rfl
@[simp] theorem State.addSat_evr {f : Fld} {n : Nat} : (s.addSat f n).evr = s.evr := rfl
@[simp] theorem State.addSat_out {f : Fld} {n : Nat} : (s.addSat f n).out = s.out := rfl
@[simp] theorem State.addSat_free {f : Fld} {n : Nat} : (s.addSat f n).free = s.free := rfl
@[simp] theorem State.addSat_pending {f : Fld} {n : Nat} : (s.addSat f n).pending = s.pending := rfl

@[simp] theorem State.emit_variant {o : Out} : (s.emit o).variant = s.variant := rfl
@[simp] theorem State.emit_regs {o : Out} : (s.emit o).regs = s.regs := rfl
@[simp] theorem State.emit_time {o : Out} : (s.emit o).time = s.time := rfl
@[simp] theorem State.emit_host {o : Out} : (s.emit o).host = s.host := rfl
@[simp] theorem State.emit_prt {o : Out} : (s.emit o).prt = s.prt := rfl
@[simp] theorem State.emit_pool {o : Out} : (s.emit o).pool = s.pool := rfl
@[simp] theorem State.emit_ptx {o : Out} : (s.emit o).ptx = s.ptx := rfl
@[simp] theorem State.emit_fld {o : Out} : (s.emit o).fld = s.fld := rfl
@[simp] theorem State.emit_lge {o : Out} : (s.emit o).lge = s.lge := rfl
@[simp] theorem State.emit_cle {o : Out} : (s.emit o).cle = s.cle := rfl
@[simp] theorem State.emit_lio {o : Out} : (s.emit o).lio = s.lio := rfl
@[simp] theorem State.emit_mtr {o : Out} : (s.emit o).mtr = s.mtr := rfl
@[simp] theorem State.emit_saf {o : Out} : (s.emit o).saf = s.saf := rfl
@[simp] theorem State.emit_rsr {o : Out} : (s.emit o).rsr = s.rsr := rfl
@[simp] theorem State.emit_key {o : Out} : (s.emit o).key = s.key := rfl
@[simp] theorem State.emit_dsp {o : Out} : (s.emit o).dsp = s.dsp := rfl
@[simp] theorem State.emit_can {o : Out} : (s.emit o).can = s.can := rfl
@[simp] theorem State.emit_twn {o : Out} : (s.emit o).twn = s.twn := rfl
@[simp] theorem State.emit_upd {o : Out} : (s.emit o).upd = s.upd := rfl
@[simp] theorem State.emit_rst {o : Out} : (s.emit o).rst = s.rst := rfl
@[simp] theorem State.emit_evr {o : Out} : (s.emit o).evr = s.evr := rfl
@[simp] theorem State.emit_free {o : Out} : (s.emit o).free = s.free := rfl
@[simp] theorem State.emit_pending {o : Out} : (s.emit o).pending = s.pending := rfl
@[simp] theorem State.emit_out {o : Out} : (s.emit o).out = o :: s.out := rfl

@[simp] theorem State.useFree_variant : (s.useFree).variant = s.variant := rfl
@[simp] theorem State.useFree_regs : (s.useFree).regs = s.regs := rfl
@[simp] theorem State.useFree_time : (s.useFree).time = s.time := rfl
@[simp] theorem State.useFree_host : (s.useFree).host = s.host := rfl
@[simp] theorem State.useFree_prt : (s.useFree).prt = s.prt := rfl
@[simp] theorem State.useFree_pool : (s.useFree).pool = s.pool := rfl
@[simp] theorem State.useFree_ptx : (s.useFree).ptx = s.ptx := rfl
@[simp] theorem State.useFree_fld : (s.useFree).fld = s.fld := rfl
@[simp] theorem State.useFree_lge : (s.useFree).lge = s.lge := rfl
@[simp] theorem State.useFree_cle : (s.useFree).cle = s.cle := rfl
@[simp] theorem State.useFree_lio : (s.useFree).lio = s.lio := rfl
@[simp] theorem State.useFree_mtr : (s.useFree).mtr = s.mtr := rfl
@[simp] theorem State.useFree_saf : (s.useFree).saf = s.saf := rfl
@[simp] theorem State.useFree_rsr : (s.useFree).rsr = s.rsr := rfl
@[simp] theorem State.useFree_key : (s.useFree).key = s.key := rfl
@[simp] theorem State.useFree_dsp : (s.useFree).dsp = s.dsp := rfl
@[simp] theorem State.useFree_can : (s.useFree).can = s.can := rfl
@[simp] theorem State.useFree_twn : (s.useFree).twn = s.twn := rfl
@[simp] theorem State.useFree_upd : (s.useFree).upd = s.upd := rfl
@[simp] theorem State.useFree_rst : (s.useFree).rst = s.rst := rfl
@[simp] theorem State.useFree_evr : (s.useFree).evr = s.evr := rfl
@[simp] theorem State.useFree_out : (s.useFree).out = s.out := rfl
@[simp] theorem State.useFree_pending : (s.useFree).pending = s.pending := rfl
@[simp] theorem State.useFree_free : (s.useFree).free = s.free + 1 := rfl

@[simp] theorem State.badVal_variant : (s.badVal).variant = s.variant := rfl
@[simp] theorem State.badVal_time : (s.badVal).time = s.time := rfl
@[simp] theorem State.badVal_host : (s.badVal).host = s.host := rfl
@[simp] theorem State.badVal_prt : (s.badVal).prt = s.prt := rfl
@[simp] theorem State.badVal_pool : (s.badVal).pool = s.pool := rfl
@[simp] theorem State.badVal_ptx : (s.badVal).ptx = s.ptx := rfl
@[simp] theorem State.badVal_fld : (s.badVal).fld = s.fld := rfl
@[simp] theorem State.badVal_lge : (s.badVal).lge = s.lge := rfl
@[simp] theorem State.badVal_cle : (s.badVal).cle = s.cle := rfl
@[simp] theorem State.badVal_lio : (s.badVal).lio = s.lio := rfl
@[simp] theorem State.badVal_mtr : (s.badVal).mtr = s.mtr := rfl
@[simp] theorem State.badVal_saf : (s.badVal).saf = s.saf := rfl
@[simp] theorem State.badVal_rsr : (s.badVal).rsr = s.rsr := rfl
@[simp] theorem State.badVal_key : (s.badVal).key = s.key := rfl
@[simp] theorem State.badVal_dsp : (s.badVal).dsp = s.dsp := rfl
@[simp] theorem State.badVal_can : (s.badVal).can = s.can := rfl
@[simp] theorem State.badVal_twn : (s.badVal).twn = s.twn := rfl
@[simp] theorem State.badVal_upd : (s.badVal).upd = s.upd := rfl
@[simp] theorem State.badVal_rst : (s.badVal).rst = s.rst := rfl
@[simp] theorem State.badVal_evr : (s.badVal).evr = s.evr := rfl
@[simp] theorem State.badVal_out : (s.badVal).out = s.out := rfl
@[simp] theorem State.badVal_free : (s.badVal).free = s.free := rfl
@[simp] theorem State.badVal_pending : (s.badVal).pending = s.pending := rfl

@[simp] theorem State.absWr_variant : (s.absWr).variant = s.variant := rfl
@[simp] theorem State.absWr_time : (s.absWr).time = s.time := rfl
@[simp] theorem State.absWr_host : (s.absWr).host = s.host := rfl
@[simp] theorem State.absWr_prt : (s.absWr).prt = s.prt := rfl
@[simp] theorem State.absWr_pool : (s.absWr).pool = s.pool := rfl
@[simp] theorem State.absWr_ptx : (s.absWr).ptx = s.ptx := rfl
@[simp] theorem State.absWr_fld : (s.absWr).fld = s.fld := rfl
@[simp] theorem State.absWr_lge : (s.absWr).lge = s.lge := rfl
@[simp] theorem State.absWr_cle : (s.absWr).cle = s.cle := rfl
@[simp] theorem State.absWr_lio : (s.absWr).lio = s.lio := rfl
@[simp] theorem State.absWr_mtr : (s.absWr).mtr = s.mtr := rfl
@[simp] theorem State.absWr_saf : (s.absWr).saf = s.saf := rfl
@[simp] theorem State.absWr_rsr : (s.absWr).rsr = s.rsr := rfl
@[simp] theorem State.absWr_key : (s.absWr).key = s.key := rfl
@[simp] theorem State.absWr_dsp : (s.absWr).dsp = s.dsp := rfl
@[simp] theorem State.absWr_can : (s.absWr).can = s.can := rfl
@[simp] theorem State.absWr_twn : (s.absWr).twn = s.twn := rfl
@[simp] theorem State.absWr_upd : (s.absWr).upd = s.upd := rfl
@[simp] theorem State.absWr_rst : (s.absWr).rst = s.rst := rfl
@[simp] theorem State.absWr_evr : (s.absWr).evr = s.evr := rfl
@[simp] theorem State.absWr_out : (s.absWr).out = s.out := rfl
@[simp] theorem State.absWr_free : (s.absWr).free = s.free := rfl
@[simp] theorem State.absWr_pending : (s.absWr).pending = s.pending := rfl

@[simp] theorem State.setRing_variant {x : HPort} {p : Nat} {r : RingSet} : (s.setRing x p r).variant = s.variant := rfl
@[simp] theorem State.setRing_regs {x : HPort} {p : Nat} {r : RingSet} : (s.setRing x p r).regs = s.regs := rfl
@[simp] theorem State.setRing_time {x : HPort} {p : Nat} {r : RingSet} : (s.setRing x p r).time = s.time := rfl
@[simp] theorem State.setRing_prt {x : HPort} {p : Nat} {r : RingSet} : (s.setRing x p r).prt = s.prt := rfl
@[simp] theorem State.setRing_pool {x : HPort} {p : Nat} {r : RingSet} : (s.setRing x p r).pool = s.pool := rfl
@[simp] theorem State.setRing_ptx {x : HPort} {p : Nat} {r : RingSet} : (s.setRing x p r).ptx = s.ptx := rfl
@[simp] theorem State.setRing_fld {x : HPort} {p : Nat} {r : RingSet} : (s.setRing x p r).fld = s.fld := rfl
@[simp] theorem State.setRing_lge {x : HPort} {p : Nat} {r : RingSet} : (s.setRing x p r).lge = s.lge := rfl
@[simp] theorem State.setRing_cle {x : HPort} {p : Nat} {r : RingSet} : (s.setRing x p r).cle = s.cle := rfl
@[simp] theorem State.setRing_lio {x : HPort} {p : Nat} {r : RingSet} : (s.setRing x p r).lio = s.lio := rfl
@[simp] theorem State.setRing_mtr {x : HPort} {p : Nat} {r : RingSet} : (s.setRing x p r).mtr = s.mtr := rfl
@[simp] theorem State.setRing_saf {x : HPort} {p : Nat} {r : RingSet} : (s.setRing x p r).saf = s.saf := rfl
@[simp] theorem State.setRing_rsr {x : HPort} {p : Nat} {r : RingSet} : (s.setRing x p r).rsr = s.rsr := rfl
@[simp] theorem State.setRing_key {x : HPort} {p : Nat} {r : RingSet} : (s.setRing x p r).key = s.key := rfl
@[simp] theorem State.setRing_dsp {x : HPort} {p : Nat} {r : RingSet} : (s.setRing x p r).dsp = s.dsp := rfl
@[simp] theorem State.setRing_can {x : HPort} {p : Nat} {r : RingSet} : (s.setRing x p r).can = s.can := rfl
@[simp] theorem State.setRing_twn {x : HPort} {p : Nat} {r : RingSet} : (s.setRing x p r).twn = s.twn := rfl
@[simp] theorem State.setRing_upd {x : HPort} {p : Nat} {r : RingSet} : (s.setRing x p r).upd = s.upd := rfl
@[simp] theorem State.setRing_rst {x : HPort} {p : Nat} {r : RingSet} : (s.setRing x p r).rst = s.rst := rfl
@[simp] theorem State.setRing_evr {x : HPort} {p : Nat} {r : RingSet} : (s.setRing x p r).evr = s.evr := rfl
@[simp] theorem State.setRing_out {x : HPort} {p : Nat} {r : RingSet} : (s.setRing x p r).out = s.out := rfl
@[simp] theorem State.setRing_free {x : HPort} {p : Nat} {r : RingSet} : (s.setRing x p r).free = s.free := rfl
@[simp] theorem State.setRing_pending {x : HPort} {p : Nat} {r : RingSet} : (s.setRing x p r).pending = s.pending := rfl

@[simp] theorem State.setQueue_variant {q : Nat} {ps : List Pkt} : (s.setQueue q ps).variant = s.variant := rfl
@[simp] theorem State.setQueue_regs {q : Nat} {ps : List Pkt} : (s.setQueue q ps).regs = s.regs := rfl
@[simp] theorem State.setQueue_time {q : Nat} {ps : List Pkt} : (s.setQueue q ps).time = s.time := rfl
@[simp] theorem State.setQueue_host {q : Nat} {ps : List Pkt} : (s.setQueue q ps).host = s.host := rfl
@[simp] theorem State.setQueue_prt {q : Nat} {ps : List Pkt} : (s.setQueue q ps).prt = s.prt := rfl
@[simp] theorem State.setQueue_ptx {q : Nat} {ps : List Pkt} : (s.setQueue q ps).ptx = s.ptx := rfl
@[simp] theorem State.setQueue_fld {q : Nat} {ps : List Pkt} : (s.setQueue q ps).fld = s.fld := rfl
@[simp] theorem State.setQueue_lge {q : Nat} {ps : List Pkt} : (s.setQueue q ps).lge = s.lge := rfl
@[simp] theorem State.setQueue_cle {q : Nat} {ps : List Pkt} : (s.setQueue q ps).cle = s.cle := rfl
@[simp] theorem State.setQueue_lio {q : Nat} {ps : List Pkt} : (s.setQueue q ps).lio = s.lio := rfl
@[simp] theorem State.setQueue_mtr {q : Nat} {ps : List Pkt} : (s.setQueue q ps).mtr = s.mtr := rfl
@[simp] theorem State.setQueue_saf {q : Nat} {ps : List Pkt} : (s.setQueue q ps).saf = s.saf := rfl
@[simp] theorem State.setQueue_rsr {q : Nat} {ps : List Pkt} : (s.setQueue q ps).rsr = s.rsr := rfl
@[simp] theorem State.setQueue_key {q : Nat} {ps : List Pkt} : (s.setQueue q ps).key = s.key := rfl
@[simp] theorem State.setQueue_dsp {q : Nat} {ps : List Pkt} : (s.setQueue q ps).dsp = s.dsp := rfl
@[simp] theorem State.setQueue_can {q : Nat} {ps : List Pkt} : (s.setQueue q ps).can = s.can := rfl
@[simp] theorem State.setQueue_twn {q : Nat} {ps : List Pkt} : (s.setQueue q ps).twn = s.twn := rfl
@[simp] theorem State.setQueue_upd {q : Nat} {ps : List Pkt} : (s.setQueue q ps).upd = s.upd := rfl
@[simp] theorem State.setQueue_rst {q : Nat} {ps : List Pkt} : (s.setQueue q ps).rst = s.rst := rfl
@[simp] theorem State.setQueue_evr {q : Nat} {ps : List Pkt} : (s.setQueue q ps).evr = s.evr := rfl
@[simp] theorem State.setQueue_out {q : Nat} {ps : List Pkt} : (s.setQueue q ps).out = s.out := rfl
@[simp] theorem State.setQueue_free {q : Nat} {ps : List Pkt} : (s.setQueue q ps).free = s.free := rfl
@[simp] theorem State.setQueue_pending {q : Nat} {ps : List Pkt} : (s.setQueue q ps).pending = s.pending := rfl

@[simp] theorem State.setRst_variant {r : RstSt} : (s.setRst r).variant = s.variant := rfl
@[simp] theorem State.setRst_regs {r : RstSt} : (s.setRst r).regs = s.regs := rfl
@[simp] theorem State.setRst_time {r : RstSt} : (s.setRst r).time = s.time := rfl
@[simp] theorem State.setRst_host {r : RstSt} : (s.setRst r).host = s.host := rfl
@[simp] theorem State.setRst_prt {r : RstSt} : (s.setRst r).prt = s.prt := rfl
@[simp] theorem State.setRst_pool {r : RstSt} : (s.setRst r).pool = s.pool := rfl
@[simp] theorem State.setRst_ptx {r : RstSt} : (s.setRst r).ptx = s.ptx := rfl
@[simp] theorem State.setRst_fld {r : RstSt} : (s.setRst r).fld = s.fld := rfl
@[simp] theorem State.setRst_lge {r : RstSt} : (s.setRst r).lge = s.lge := rfl
@[simp] theorem State.setRst_cle {r : RstSt} : (s.setRst r).cle = s.cle := rfl
@[simp] theorem State.setRst_lio {r : RstSt} : (s.setRst r).lio = s.lio := rfl
@[simp] theorem State.setRst_mtr {r : RstSt} : (s.setRst r).mtr = s.mtr := rfl
@[simp] theorem State.setRst_saf {r : RstSt} : (s.setRst r).saf = s.saf := rfl
@[simp] theorem State.setRst_rsr {r : RstSt} : (s.setRst r).rsr = s.rsr := rfl
@[simp] theorem State.setRst_key {r : RstSt} : (s.setRst r).key = s.key := rfl
@[simp] theorem State.setRst_dsp {r : RstSt} : (s.setRst r).dsp = s.dsp := rfl
@[simp] theorem State.setRst_can {r : RstSt} : (s.setRst r).can = s.can := rfl
@[simp] theorem State.setRst_twn {r : RstSt} : (s.setRst r).twn = s.twn := rfl
@[simp] theorem State.setRst_upd {r : RstSt} : (s.setRst r).upd = s.upd := rfl
@[simp] theorem State.setRst_evr {r : RstSt} : (s.setRst r).evr = s.evr := rfl
@[simp] theorem State.setRst_out {r : RstSt} : (s.setRst r).out = s.out := rfl
@[simp] theorem State.setRst_free {r : RstSt} : (s.setRst r).free = s.free := rfl
@[simp] theorem State.setRst_pending {r : RstSt} : (s.setRst r).pending = s.pending := rfl
@[simp] theorem State.setRst_rst {r : RstSt} : (s.setRst r).rst = r := rfl

@[simp] theorem State.setMtr_variant {m : MtrSt} : (s.setMtr m).variant = s.variant := rfl
@[simp] theorem State.setMtr_regs {m : MtrSt} : (s.setMtr m).regs = s.regs := rfl
@[simp] theorem State.setMtr_time {m : MtrSt} : (s.setMtr m).time = s.time := rfl
@[simp] theorem State.setMtr_host {m : MtrSt} : (s.setMtr m).host = s.host := rfl
@[simp] theorem State.setMtr_prt {m : MtrSt} : (s.setMtr m).prt = s.prt := rfl
@[simp] theorem State.setMtr_pool {m : MtrSt} : (s.setMtr m).pool = s.pool := rfl
@[simp] theorem State.setMtr_ptx {m : MtrSt} : (s.setMtr m).ptx = s.ptx := rfl
@[simp] theorem State.setMtr_fld {m : MtrSt} : (s.setMtr m).fld = s.fld := rfl
@[simp] theorem State.setMtr_lge {m : MtrSt} : (s.setMtr m).lge = s.lge := rfl
@[simp] theorem State.setMtr_cle {m : MtrSt} : (s.setMtr m).cle = s.cle := rfl
@[simp] theorem State.setMtr_lio {m : MtrSt} : (s.setMtr m).lio = s.lio := rfl
@[simp] theorem State.setMtr_saf {m : MtrSt} : (s.setMtr m).saf = s.saf := rfl
@[simp] theorem State.setMtr_rsr {m : MtrSt} : (s.setMtr m).rsr = s.rsr := rfl
@[simp] theorem State.setMtr_key {m : MtrSt} : (s.setMtr m).key = s.key := rfl
@[simp] theorem State.setMtr_dsp {m : MtrSt} : (s.setMtr m).dsp = s.dsp := rfl
@[simp] theorem State.setMtr_can {m : MtrSt} : (s.setMtr m).can = s.can := rfl
@[simp] theorem State.setMtr_twn {m : MtrSt} : (s.setMtr m).twn = s.twn := rfl
@[simp] theorem State.setMtr_upd {m : MtrSt} : (s.setMtr m).upd = s.upd := rfl
@[simp] theorem State.setMtr_rst {m : MtrSt} : (s.setMtr m).rst = s.rst := rfl
@[simp] theorem State.setMtr_evr {m : MtrSt} : (s.setMtr m).evr = s.evr := rfl
@[simp] theorem State.setMtr_out {m : MtrSt} : (s.setMtr m).out = s.out := rfl
@[simp] theorem State.setMtr_free {m : MtrSt} : (s.setMtr m).free = s.free := rfl
@[simp] theorem State.setMtr_pending {m : MtrSt} : (s.setMtr m).pending = s.pending := rfl
@[simp] theorem State.setMtr_mtr {m : MtrSt} : (s.setMtr m).mtr = m := rfl

@[simp] theorem State.setSaf_variant {v : SafSt} : (s.setSaf v).variant = s.variant := rfl
@[simp] theorem State.setSaf_regs {v : SafSt} : (s.setSaf v).regs = s.regs := rfl
@[simp] theorem State.setSaf_time {v : SafSt} : (s.setSaf v).time = s.time := rfl
@[simp] theorem State.setSaf_host {v : SafSt} : (s.setSaf v).host = s.host := rfl
@[simp] theorem State.setSaf_prt {v : SafSt} : (s.setSaf v).prt = s.prt := rfl
@[simp] theorem State.setSaf_pool {v : SafSt} : (s.setSaf v).pool = s.pool := rfl
@[simp] theorem State.setSaf_ptx {v : SafSt} : (s.setSaf v).ptx = s.ptx := rfl
@[simp] theorem State.setSaf_fld {v : SafSt} : (s.setSaf v).fld = s.fld := rfl
@[simp] theorem State.setSaf_lge {v : SafSt} : (s.setSaf v).lge = s.lge := rfl
@[simp] theorem State.setSaf_cle {v : SafSt} : (s.setSaf v).cle = s.cle := rfl
@[simp] theorem State.setSaf_lio {v : SafSt} : (s.setSaf v).lio = s.lio := rfl
@[simp] theorem State.setSaf_mtr {v : SafSt} : (s.setSaf v).mtr = s.mtr := rfl
@[simp] theorem State.setSaf_rsr {v : SafSt} : (s.setSaf v).rsr = s.rsr := rfl
@[simp] theorem State.setSaf_key {v : SafSt} : (s.setSaf v).key = s.key := rfl
@[simp] theorem State.setSaf_dsp {v : SafSt} : (s.setSaf v).dsp = s.dsp := rfl
@[simp] theorem State.setSaf_can {v : SafSt} : (s.setSaf v).can = s.can := rfl
@[simp] theorem State.setSaf_twn {v : SafSt} : (s.setSaf v).twn = s.twn := rfl
@[simp] theorem State.setSaf_upd {v : SafSt} : (s.setSaf v).upd = s.upd := rfl
@[simp] theorem State.setSaf_rst {v : SafSt} : (s.setSaf v).rst = s.rst := rfl
@[simp] theorem State.setSaf_evr {v : SafSt} : (s.setSaf v).evr = s.evr := rfl
@[simp] theorem State.setSaf_out {v : SafSt} : (s.setSaf v).out = s.out := rfl
@[simp] theorem State.setSaf_free {v : SafSt} : (s.setSaf v).free = s.free := rfl
@[simp] theorem State.setSaf_pending {v : SafSt} : (s.setSaf v).pending = s.pending := rfl
@[simp] theorem State.setSaf_saf {v : SafSt} : (s.setSaf v).saf = v := rfl

@[simp] theorem State.setRsr_variant {r : RsrSt} : (s.setRsr r).variant = s.variant := rfl
@[simp] theorem State.setRsr_regs {r : RsrSt} : (s.setRsr r).regs = s.regs := rfl
@[simp] theorem State.setRsr_time {r : RsrSt} : (s.setRsr r).time = s.time := rfl
@[simp] theorem State.setRsr_host {r : RsrSt} : (s.setRsr r).host = s.host := rfl
@[simp] theorem State.setRsr_prt {r : RsrSt} : (s.setRsr r).prt = s.prt := rfl
@[simp] theorem State.setRsr_pool {r : RsrSt} : (s.setRsr r).pool = s.pool := rfl
@[simp] theorem State.setRsr_ptx {r : RsrSt} : (s.setRsr r).ptx = s.ptx := rfl
@[simp] theorem State.setRsr_fld {r : RsrSt} : (s.setRsr r).fld = s.fld := rfl
@[simp] theorem State.setRsr_lge {r : RsrSt} : (s.setRsr r).lge = s.lge := rfl
@[simp] theorem State.setRsr_cle {r : RsrSt} : (s.setRsr r).cle = s.cle := rfl
@[simp] theorem State.setRsr_lio {r : RsrSt} : (s.setRsr r).lio = s.lio := rfl
@[simp] theorem State.setRsr_mtr {r : RsrSt} : (s.setRsr r).mtr = s.mtr := rfl
@[simp] theorem State.setRsr_saf {r : RsrSt} : (s.setRsr r).saf = s.saf := rfl
@[simp] theorem State.setRsr_key {r : RsrSt} : (s.setRsr r).key = s.key := rfl
@[simp] theorem State.setRsr_dsp {r : RsrSt} : (s.setRsr r).dsp = s.dsp := rfl
@[simp] theorem State.setRsr_can {r : RsrSt} : (s.setRsr r).can = s.can := rfl
@[simp] theorem State.setRsr_twn {r : RsrSt} : (s.setRsr r).twn = s.twn := rfl
@[simp] theorem State.setRsr_upd {r : RsrSt} : (s.setRsr r).upd = s.upd := rfl
@[simp] theorem State.setRsr_rst {r : RsrSt} : (s.setRsr r).rst = s.rst := rfl
@[simp] theorem State.setRsr_evr {r : RsrSt} : (s.setRsr r).evr = s.evr := rfl
@[simp] theorem State.setRsr_out {r : RsrSt} : (s.setRsr r).out = s.out := rfl
@[simp] theorem State.setRsr_free {r : RsrSt} : (s.setRsr r).free = s.free := rfl
@[simp] theorem State.setRsr_pending {r : RsrSt} : (s.setRsr r).pending = s.pending := rfl
@[simp] theorem State.setRsr_rsr {r : RsrSt} : (s.setRsr r).rsr = r := rfl

@[simp] theorem State.setKey_variant {k : KeySt} : (s.setKey k).variant = s.variant := rfl
@[simp] theorem State.setKey_regs {k : KeySt} : (s.setKey k).regs = s.regs := rfl
@[simp] theorem State.setKey_time {k : KeySt} : (s.setKey k).time = s.time := rfl
@[simp] theorem State.setKey_host {k : KeySt} : (s.setKey k).host = s.host := rfl
@[simp] theorem State.setKey_prt {k : KeySt} : (s.setKey k).prt = s.prt := rfl
@[simp] theorem State.setKey_pool {k : KeySt} : (s.setKey k).pool = s.pool := rfl
@[simp] theorem State.setKey_ptx {k : KeySt} : (s.setKey k).ptx = s.ptx := rfl
@[simp] theorem State.setKey_fld {k : KeySt} : (s.setKey k).fld = s.fld := rfl
@[simp] theorem State.setKey_lge {k : KeySt} : (s.setKey k).lge = s.lge := rfl
@[simp] theorem State.setKey_cle {k : KeySt} : (s.setKey k).cle = s.cle := rfl
@[simp] theorem State.setKey_lio {k : KeySt} : (s.setKey k).lio = s.lio := rfl
@[simp] theorem State.setKey_mtr {k : KeySt} : (s.setKey k).mtr = s.mtr := rfl
@[simp] theorem State.setKey_saf {k : KeySt} : (s.setKey k).saf = s.saf := rfl
@[simp] theorem State.setKey_rsr {k : KeySt} : (s.setKey k).rsr = s.rsr := rfl
@[simp] theorem State.setKey_dsp {k : KeySt} : (s.setKey k).dsp = s.dsp := rfl
@[simp] theorem State.setKey_can {k : KeySt} : (s.setKey k).can = s.can := rfl
@[simp] theorem State.setKey_twn {k : KeySt} : (s.setKey k).twn = s.twn := rfl
@[simp] theorem State.setKey_upd {k : KeySt} : (s.setKey k).upd = s.upd := rfl
@[simp] theorem State.setKey_rst {k : KeySt} : (s.setKey k).rst = s.rst := rfl
@[simp] theorem State.setKey_evr {k : KeySt} : (s.setKey k).evr = s.evr := rfl
@[simp] theorem State.setKey_out {k : KeySt} : (s.setKey k).out = s.out := rfl
@[simp] theorem State.setKey_free {k : KeySt} : (s.setKey k).free = s.free := rfl
@[simp] theorem State.setKey_pending {k : KeySt} : (s.setKey k).pending = s.pending := rfl
@[simp] theorem State.setKey_key {k : KeySt} : (s.setKey k).key = k := rfl

@[simp] theorem State.setDsp_variant {d : DspSt} : (s.setDsp d).variant = s.variant := rfl
@[simp] theorem State.setDsp_regs {d : DspSt} : (s.setDsp d).regs = s.regs := rfl
@[simp] theorem State.setDsp_time {d : DspSt} : (s.setDsp d).time = s.time := rfl
@[simp] theorem State.setDsp_host {d : DspSt} : (s.setDsp d).host = s.host := rfl
@[simp] theorem State.setDsp_prt {d : DspSt} : (s.setDsp d).prt = s.prt := rfl
@[simp] theorem State.setDsp_pool {d : DspSt} : (s.setDsp d).pool = s.pool := rfl
@[simp] theorem State.setDsp_ptx {d : DspSt} : (s.setDsp d).ptx = s.ptx := rfl
@[simp] theorem State.setDsp_fld {d : DspSt} : (s.setDsp d).fld = s.fld := rfl
@[simp] theorem State.setDsp_lge {d : DspSt} : (s.setDsp d).lge = s.lge := rfl
@[simp] theorem State.setDsp_cle {d : DspSt} : (s.setDsp d).cle = s.cle := rfl
@[simp] theorem State.setDsp_lio {d : DspSt} : (s.setDsp d).lio = s.lio := rfl
@[simp] theorem State.setDsp_mtr {d : DspSt} : (s.setDsp d).mtr = s.mtr := rfl
@[simp] theorem State.setDsp_saf {d : DspSt} : (s.setDsp d).saf = s.saf := rfl
@[simp] theorem State.setDsp_rsr {d : DspSt} : (s.setDsp d).rsr = s.rsr := rfl
@[simp] theorem State.setDsp_key {d : DspSt} : (s.setDsp d).key = s.key := rfl
@[simp] theorem State.setDsp_can {d : DspSt} : (s.setDsp d).can = s.can := rfl
@[simp] theorem State.setDsp_twn {d : DspSt} : (s.setDsp d).twn = s.twn := rfl
@[simp] theorem State.setDsp_upd {d : DspSt} : (s.setDsp d).upd = s.upd := rfl
@[simp] theorem State.setDsp_rst {d : DspSt} : (s.setDsp d).rst = s.rst := rfl
@[simp] theorem State.setDsp_evr {d : DspSt} : (s.setDsp d).evr = s.evr := rfl
@[simp] theorem State.setDsp_out {d : DspSt} : (s.setDsp d).out = s.out := rfl
@[simp] theorem State.setDsp_free {d : DspSt} : (s.setDsp d).free = s.free := rfl
@[simp] theorem State.setDsp_pending {d : DspSt} : (s.setDsp d).pending = s.pending := rfl
@[simp] theorem State.setDsp_dsp {d : DspSt} : (s.setDsp d).dsp = d := rfl

@[simp] theorem State.setCan_variant {c : CanSt} : (s.setCan c).variant = s.variant := rfl
@[simp] theorem State.setCan_regs {c : CanSt} : (s.setCan c).regs = s.regs := rfl
@[simp] theorem State.setCan_time {c : CanSt} : (s.setCan c).time = s.time := rfl
@[simp] theorem State.setCan_host {c : CanSt} : (s.setCan c).host = s.host := rfl
@[simp] theorem State.setCan_prt {c : CanSt} : (s.setCan c).prt = s.prt := rfl
@[simp] theorem State.setCan_pool {c : CanSt} : (s.setCan c).pool = s.pool := rfl
@[simp] theorem State.setCan_ptx {c : CanSt} : (s.setCan c).ptx = s.ptx := rfl
@[simp] theorem State.setCan_fld {c : CanSt} : (s.setCan c).fld = s.fld := rfl
@[simp] theorem State.setCan_lge {c : CanSt} : (s.setCan c).lge = s.lge := rfl
@[simp] theorem State.setCan_cle {c : CanSt} : (s.setCan c).cle = s.cle := rfl
@[simp] theorem State.setCan_lio {c : CanSt} : (s.setCan c).lio = s.lio := rfl
@[simp] theorem State.setCan_mtr {c : CanSt} : (s.setCan c).mtr = s.mtr := rfl
@[simp] theorem State.setCan_saf {c : CanSt} : (s.setCan c).saf = s.saf := rfl
@[simp] theorem State.setCan_rsr {c : CanSt} : (s.setCan c).rsr = s.rsr := rfl
@[simp] theorem State.setCan_key {c : CanSt} : (s.setCan c).key = s.key := rfl
@[simp] theorem State.setCan_dsp {c : CanSt} : (s.setCan c).dsp = s.dsp := rfl
@[simp] theorem State.setCan_twn {c : CanSt} : (s.setCan c).twn = s.twn := rfl
@[simp] theorem State.setCan_upd {c : CanSt} : (s.setCan c).upd = s.upd := rfl
@[simp] theorem State.setCan_rst {c : CanSt} : (s.setCan c).rst = s.rst := rfl
@[simp] theorem State.setCan_evr {c : CanSt} : (s.setCan c).evr = s.evr := rfl
@[simp] theorem State.setCan_out {c : CanSt} : (s.setCan c).out = s.out := rfl
@[simp] theorem State.setCan_free {c : CanSt} : (s.setCan c).free = s.free := rfl
@[simp] theorem State.setCan_pending {c : CanSt} : (s.setCan c).pending = s.pending := rfl
@[simp] theorem State.setCan_can {c : CanSt} : (s.setCan c).can = c := rfl

@[simp] theorem State.setTwn_variant {t : TwnSt} : (s.setTwn t).variant = s.variant := rfl
@[simp] theorem State.setTwn_regs {t : TwnSt} : (s.setTwn t).regs = s.regs := rfl
@[simp] theorem State.setTwn_time {t : TwnSt} : (s.setTwn t).time = s.time := rfl
@[simp] theorem State.setTwn_host {t : TwnSt} : (s.setTwn t).host = s.host := rfl
@[simp] theorem State.setTwn_prt {t : TwnSt} : (s.setTwn t).prt = s.prt := rfl
@[simp] theorem State.setTwn_pool {t : TwnSt} : (s.setTwn t).pool = s.pool := rfl
@[simp] theorem State.setTwn_ptx {t : TwnSt} : (s.setTwn t).ptx = s.ptx := rfl
@[simp] theorem State.setTwn_fld {t : TwnSt} : (s.setTwn t).fld = s.fld := rfl
@[simp] theorem State.setTwn_lge {t : TwnSt} : (s.setTwn t).lge = s.lge := rfl
@[simp] theorem State.setTwn_cle {t : TwnSt} : (s.setTwn t).cle = s.cle := rfl
@[simp] theorem State.setTwn_lio {t : TwnSt} : (s.setTwn t).lio = s.lio := rfl
@[simp] theorem State.setTwn_mtr {t : TwnSt} : (s.setTwn t).mtr = s.mtr := rfl
@[simp] theorem State.setTwn_saf {t : TwnSt} : (s.setTwn t).saf = s.saf := rfl
@[simp] theorem State.setTwn_rsr {t : TwnSt} : (s.setTwn t).rsr = s.rsr := rfl
@[simp] theorem State.setTwn_key {t : TwnSt} : (s.setTwn t).key = s.key := rfl
@[simp] theorem State.setTwn_dsp {t : TwnSt} : (s.setTwn t).dsp = s.dsp := rfl
@[simp] theorem State.setTwn_can {t : TwnSt} : (s.setTwn t).can = s.can := rfl
@[simp] theorem State.setTwn_upd {t : TwnSt} : (s.setTwn t).upd = s.upd := rfl
@[simp] theorem State.setTwn_rst {t : TwnSt} : (s.setTwn t).rst = s.rst := rfl
@[simp] theorem State.setTwn_evr {t : TwnSt} : (s.setTwn t).evr = s.evr := rfl
@[simp] theorem State.setTwn_out {t : TwnSt} : (s.setTwn t).out = s.out := rfl
@[simp] theorem State.setTwn_free {t : TwnSt} : (s.setTwn t).free = s.free := rfl
@[simp] theorem State.setTwn_pending {t : TwnSt} : (s.setTwn t).pending = s.pending := rfl
@[simp] theorem State.setTwn_twn {t : TwnSt} : (s.setTwn t).twn = t := rfl

@[simp] theorem State.setUpd_variant {u : UpdSt} : (s.setUpd u).variant = s.variant := rfl
@[simp] theorem State.setUpd_regs {u : UpdSt} : (s.setUpd u).regs = s.regs := rfl
@[simp] theorem State.setUpd_time {u : UpdSt} : (s.setUpd u).time = s.time := rfl
@[simp] theorem State.setUpd_host {u : UpdSt} : (s.setUpd u).host = s.host := rfl
@[simp] theorem State.setUpd_prt {u : UpdSt} : (s.setUpd u).prt = s.prt := rfl
@[simp] theorem State.setUpd_pool {u : UpdSt} : (s.setUpd u).pool = s.pool := rfl
@[simp] theorem State.setUpd_ptx {u : UpdSt} : (s.setUpd u).ptx = s.ptx := rfl
@[simp] theorem State.setUpd_fld {u : UpdSt} : (s.setUpd u).fld = s.fld := rfl
@[simp] theorem State.setUpd_lge {u : UpdSt} : (s.setUpd u).lge = s.lge := rfl
@[simp] theorem State.setUpd_cle {u : UpdSt} : (s.setUpd u).cle = s.cle := rfl
@[simp] theorem State.setUpd_lio {u : UpdSt} : (s.setUpd u).lio = s.lio := rfl
@[simp] theorem State.setUpd_mtr {u : UpdSt} : (s.setUpd u).mtr = s.mtr := rfl
@[simp] theorem State.setUpd_saf {u : UpdSt} : (s.setUpd u).saf = s.saf := rfl
@[simp] theorem State.setUpd_rsr {u : UpdSt} : (s.setUpd u).rsr = s.rsr := rfl
@[simp] theorem State.setUpd_key {u : UpdSt} : (s.setUpd u).key = s.key := rfl
@[simp] theorem State.setUpd_dsp {u : UpdSt} : (s.setUpd u).dsp = s.dsp := rfl
@[simp] theorem State.setUpd_can {u : UpdSt} : (s.setUpd u).can = s.can := rfl
@[simp] theorem State.setUpd_twn {u : UpdSt} : (s.setUpd u).twn = s.twn := rfl
@[simp] theorem State.setUpd_rst {u : UpdSt} : (s.setUpd u).rst = s.rst := rfl
@[simp] theorem State.setUpd_evr {u : UpdSt} : (s.setUpd u).evr = s.evr := rfl
@[simp] theorem State.setUpd_out {u : UpdSt} : (s.setUpd u).out = s.out := rfl
@[simp] theorem State.setUpd_free {u : UpdSt} : (s.setUpd u).free = s.free := rfl
@[simp] theorem State.setUpd_pending {u : UpdSt} : (s.setUpd u).pending = s.pending := rfl
@[simp] theorem State.setUpd_upd {u : UpdSt} : (s.setUpd u).upd = u := rfl

end Sys2Proof.Machine
end

