-- ==== Sys2Proof/Laws/Ops.lean ====
section
/-! SUPPORT. What each shared operation can do, said once: reads after writes, interrupts and reports, host memory, and the
canonical form that every one of them keeps. -/

namespace Sys2Proof.Machine

variable {s : State}

/-! ## Ring sets, queues and host memory -/

@[simp] theorem State.ring_setRing_same {x : HPort} {p : Nat} {r : RingSet} : (s.setRing x p r).ring x p = r :=
  Store.get_put_same

theorem State.ring_setRing_other {x y : HPort} {p q : Nat} {r : RingSet} (h : y ≠ x ∨ q ≠ p) :
    (s.setRing x p r).ring y q = s.ring y q := by
  refine Store.get_put_other ?_
  cases x <;> cases y <;> simp [HPort.num] at h ⊢ <;> omega

@[simp] theorem State.queue_setQueue_same {q : Nat} {ps : List Pkt} : (s.setQueue q ps).queue q = ps :=
  Store.get_put_same

theorem State.queue_setQueue_other {q r : Nat} {ps : List Pkt} (h : r ≠ q) : (s.setQueue q ps).queue r = s.queue r :=
  Store.get_put_other h

@[simp] theorem State.hmem_setHmem {x : HPort} {m : Store Byte} : (s.setHmem x m).hmem x = m := by cases x <;> rfl

theorem State.hmem_setHmem_other {x y : HPort} {m : Store Byte} (h : y ≠ x) : (s.setHmem x m).hmem y = s.hmem y := by
  cases x <;> cases y <;> first | exact absurd rfl h | rfl

@[simp] theorem State.setHmem_regs {x : HPort} {m : Store Byte} : (s.setHmem x m).regs = s.regs := by cases x <;> rfl

@[simp] theorem State.setHmem_variant {x : HPort} {m : Store Byte} : (s.setHmem x m).variant = s.variant := by
  cases x <;> rfl

/-- A byte outside those a ring set writes reads as before (R107). -/
theorem State.memByte_dmaWrite_other {x y : HPort} {p a b : Nat} {data : List Byte}
    (h : y ≠ x ∨ b < a ∨ a + data.length ≤ b) : (s.dmaWrite x p a data).2.memByte y b = s.memByte y b := by
  have hm : ∀ (z : HPort) (o : Out), (s.emit o).hmem z = s.hmem z := by intro z o; cases z <;> rfl
  unfold State.dmaWrite
  split
  · rfl
  · dsimp only
    split
    · unfold State.memByte
      by_cases hy : y = x
      · subst hy
        rw [State.hmem_setHmem]
        rcases h with h | h | h
        · exact absurd rfl h
        · exact Store.get_putList_below h
        · exact Store.get_putList_above h
      · rw [State.hmem_setHmem_other hy, hm]
    · unfold State.memByte; rw [hm]

/-- A read of host memory changes nothing but the outputs. -/
theorem State.dmaRead_frame {x : HPort} {p a n : Nat} : (s.dmaRead x p a n).2 = { s with out := (s.dmaRead x p a n).2.out } := by
  unfold State.dmaRead; split <;> [rfl; (dsimp only; split <;> rfl)]

/-! ## Interrupts and reports -/

theorem State.withSinks_self : s.withSinks s = s := rfl

theorem State.withSinks_trans {t u : State} : (s.withSinks t).withSinks u = s.withSinks u := rfl

theorem State.msix_sinks {x : HPort} {v : Nat} : s.msix x v = s.withSinks (s.msix x v) := by
  unfold State.msix; split <;> [cases x <;> rfl; rfl]

@[simp] theorem State.msix_regs {x : HPort} {v : Nat} : (s.msix x v).regs = s.regs := by
  unfold State.msix; split <;> [cases x <;> rfl; rfl]

@[simp] theorem State.msix_variant {x : HPort} {v : Nat} : (s.msix x v).variant = s.variant := by
  unfold State.msix; split <;> [cases x <;> rfl; rfl]

theorem State.signalOn_sinks {x : HPort} {b : Nat} : s.signalOn x b = s.withSinks (s.signalOn x b) := by
  unfold State.signalOn; split <;> [exact State.msix_sinks; rfl]

@[simp] theorem State.signalOn_regs {x : HPort} {b : Nat} : (s.signalOn x b).regs = s.regs := by
  unfold State.signalOn; split <;> simp

@[simp] theorem State.signalOn_variant {x : HPort} {b : Nat} : (s.signalOn x b).variant = s.variant := by
  unfold State.signalOn; split <;> simp

theorem State.sinks_chain {t u : State} (h : t = s.withSinks t) (k : u = t.withSinks u) : u = s.withSinks u := by
  rw [k, h]; rfl

theorem State.signalUnit_sinks {b : Nat} : s.signalUnit b = s.withSinks (s.signalUnit b) :=
  State.sinks_chain State.signalOn_sinks State.signalOn_sinks

@[simp] theorem State.signalUnit_regs {b : Nat} : (s.signalUnit b).regs = s.regs := by simp [State.signalUnit]

@[simp] theorem State.signalUnit_variant {b : Nat} : (s.signalUnit b).variant = s.variant := by simp [State.signalUnit]

theorem State.raise_sinks {stat ien blk bit : Nat} : s.raise stat ien blk bit = s.withSinks (s.raise stat ien blk bit) := by
  unfold State.raise
  split
  · rfl
  · dsimp only; split
    · exact State.sinks_chain (t := s.setF (regBit stat bit) 1) rfl State.signalUnit_sinks
    · rfl

/-- Raising a status bit changes no register but its status register. -/
theorem State.raise_reg {stat ien blk bit o : Nat} (h : o ≠ stat) : (s.raise stat ien blk bit).reg o = s.reg o := by
  unfold State.raise
  split
  · rfl
  · dsimp only
    have k : ((s.setF (regBit stat bit) 1)).reg o = s.reg o := State.reg_setReg_other h
    split
    · rw [← k]; unfold State.reg; simp
    · exact k

@[simp] theorem State.raise_variant {stat ien blk bit : Nat} : (s.raise stat ien blk bit).variant = s.variant := by
  unfold State.raise; split <;> [rfl; (dsimp only; split <;> simp)]

theorem State.reportFrom_sinks {og code part : Nat} {a b c : Word} :
    s.reportFrom og code part a b c = s.withSinks (s.reportFrom og code part a b c) := by
  unfold State.reportFrom
  split
  · rfl
  · split
    · rfl
    · exact State.sinks_chain (State.sinks_chain (t := s.addSat F.EVR_LOST_CNT 1) rfl State.raise_sinks) rfl

theorem State.report_sinks {code part : Nat} {a b c : Word} :
    s.report code part a b c = s.withSinks (s.report code part a b c) := State.reportFrom_sinks

/-- A report changes no register but EVR_LOST and EVR_STAT (R544, R555). -/
theorem State.report_reg {code part o : Nat} {a b c : Word} (h : o ≠ Reg.EVR_LOST) (k : o ≠ Reg.EVR_STAT) :
    (s.report code part a b c).reg o = s.reg o := by
  unfold State.report State.reportFrom
  split
  · rfl
  · split
    · rfl
    · have e : ∀ {t : State} {v : RecSt}, ({ t with evr := v } : State).reg o = t.reg o := rfl
      dsimp only
      rw [e]
      unfold State.raiseEvr
      rw [State.raise_reg k]
      exact State.reg_setReg_other h

@[simp] theorem State.report_variant {code part : Nat} {a b c : Word} : (s.report code part a b c).variant = s.variant := by
  rw [State.report_sinks]; rfl

/-- A report that the recorder has room for enters its input buffer; nothing else changes (R544). -/
theorem State.report_room {code part : Nat} {a b c : Word} (h : s.variant.lacks (code / 256) = false)
    (k : s.evr.buf.length < 512) :
    (s.report code part a b c).regs = s.regs ∧ (s.report code part a b c).host = s.host ∧
      (s.report code part a b c).evr.buf.length = s.evr.buf.length + 1 := by
  simp [State.report, State.reportFrom, h, k]

/-! ## The canonical form -/

theorem State.setReg_canonical {off : Nat} {v : Word} (h : s.canonical = true) : (s.setReg off v).canonical = true := by
  simp only [State.canonical, Bool.and_eq_true] at h ⊢
  exact ⟨⟨Store.put_wf h.1.1, h.1.2⟩, h.2⟩

theorem State.setF_canonical {f : Fld} {n : Nat} (h : s.canonical = true) : (s.setF f n).canonical = true :=
  State.setReg_canonical h

/-- Only the registers, the variant and the host memories count for the canonical form. -/
theorem State.canonical_congr {t : State} (hv : t.variant = s.variant) (hr : t.regs = s.regs) (h0 : t.host.mem0 = s.host.mem0)
    (h1 : t.host.mem1 = s.host.mem1) : t.canonical = s.canonical := by
  simp only [State.canonical, hv, hr, h0, h1]

theorem State.msix_canonical {x : HPort} {v : Nat} (h : s.canonical = true) : (s.msix x v).canonical = true := by
  rw [← h]; refine State.canonical_congr State.msix_variant State.msix_regs ?_ ?_ <;> (rw [State.msix_sinks]; rfl)

theorem State.signalUnit_canonical {b : Nat} (h : s.canonical = true) : (s.signalUnit b).canonical = true := by
  rw [← h]; refine State.canonical_congr State.signalUnit_variant State.signalUnit_regs ?_ ?_ <;>
    (rw [State.signalUnit_sinks]; rfl)

theorem State.raise_canonical {stat ien blk bit : Nat} (h : s.canonical = true) :
    (s.raise stat ien blk bit).canonical = true := by
  unfold State.raise
  split
  · exact h
  · dsimp only; split
    · exact State.signalUnit_canonical (State.setF_canonical h)
    · exact State.setF_canonical h

theorem State.report_canonical {code part : Nat} {a b c : Word} (h : s.canonical = true) :
    (s.report code part a b c).canonical = true := by
  unfold State.report State.reportFrom
  split
  · exact h
  · split
    · exact h
    · exact State.raise_canonical (State.setF_canonical h)

/-- Writing bytes of host memory keeps its canonical form. -/
theorem State.setHmem_canonical {x : HPort} {m : Store Byte} (h : s.canonical = true) (hm : Store.wf byteZero m = true) :
    (s.setHmem x m).canonical = true := by
  simp only [State.canonical, Bool.and_eq_true] at h ⊢
  cases x
  · exact ⟨⟨h.1.1, hm⟩, h.2⟩
  · exact ⟨h.1, hm⟩

theorem State.hmem_wf {x : HPort} (h : s.canonical = true) : Store.wf byteZero (s.hmem x) = true := by
  simp only [State.canonical, Bool.and_eq_true] at h
  cases x
  · exact h.1.2
  · exact h.2

theorem State.dmaWrite_canonical {x : HPort} {p a : Nat} {data : List Byte} (h : s.canonical = true) :
    (s.dmaWrite x p a data).2.canonical = true := by
  unfold State.dmaWrite
  split
  · exact h
  · dsimp only; split
    · exact State.setHmem_canonical h (Store.putList_wf (State.hmem_wf h))
    · exact h

theorem State.foldl_put_wf {cs : List Host.Cell} {m : Store Byte} (h : Store.wf byteZero m = true) :
    Store.wf byteZero (cs.foldl (fun st c => Store.put byteZero st c.1 c.2) m) = true := by
  induction cs generalizing m with
  | nil => exact h
  | cons c cs ih => exact ih (Store.put_wf h)

theorem State.hostStores_canonical {x : HPort} {m : HostMem} (h : s.canonical = true) :
    (s.hostStores x m).canonical = true := by
  have k := State.setHmem_canonical (x := x) h (State.foldl_put_wf (cs := m.cells) (State.hmem_wf (x := x) h))
  unfold State.hostStores
  cases x <;> exact k

/-! ## Host writes -/

/-- A write that R15, R31 and R657 let through has its effect. -/
@[simp] theorem State.asWrite_may {x : HPort} {b : Nat} {t : State} (h : s.mayWrite x b = true) : s.asWrite x b t = t := by
  have k : s.variant.lacks b = false := by simp [State.mayWrite] at h; exact h.2
  simp [State.asWrite, h, k]

end Sys2Proof.Machine
end

