-- ==== Sys2Proof/Laws/Rings.lean ====
section
/-! SUPPORT. What a ring command does, said once: the checks of R152 in their order, and the body's outcome. -/

namespace Sys2Proof.Machine

/-- A command that passes the checks ends as its body says. -/
theorem State.command_runs {s : State} {x : HPort} {p : Part} {d : Desc} {o : Op} {sel wf fitted cfg : Bool}
    {body : State → Nat → CmdEnd} (h : s.mayStart x p d o = true) (hs : sel = true) (hw : wf = true)
    (hf : fitted = true) (hc : cfg = true → s.mayConfigure x p = true) :
    s.command x p d sel wf fitted cfg body =
      match body (s.started x p o) o.id with
      | .done u st r0 r1 => s.ends u x p o st r0 r1
      | .refuse u cls i st => s.ends (u.refusal p cls i st) x p o st 0 0
      | .wait u => u
      | .later => s := by
  simp only [State.mayStart, Bool.and_eq_true, decide_eq_true_eq, Bool.not_eq_true'] at h
  obtain ⟨⟨⟨hr, ho⟩, he⟩, hb⟩ := h
  subst hs hw hf
  simp only [State.command, hr, ho, Bool.not_true, Bool.false_or, Bool.false_eq_true, if_false]
  have he' : (d.epoch != s.epoch) = false := by simp [he]
  rw [he']
  have hcc : (cfg && !(p.val = 0 && s.holdsSem0 x)) = false := by
    cases hcfg : cfg with
    | false => rfl
    | true => have := hc hcfg; simpa [State.mayConfigure] using this
  rw [hcc, hb]
  simp only [Bool.false_eq_true, if_false]
  unfold State.started
  cases body _ o.id <;> rfl

/-- A command that passes the checks finishes as its body says. -/
theorem State.command_finish {s : State} {x : HPort} {p : Part} {d : Desc} {o : Op} {sel wf fitted cfg : Bool}
    {body : State → Nat → CmdEnd} (h : s.mayStart x p d o = true) (hs : sel = true) (hw : wf = true)
    (hf : fitted = true) (hc : cfg = true → s.mayConfigure x p = true) :
    s.command x p d sel wf fitted cfg body = s.finish (body (s.started x p o) o.id) x p o := by
  rw [State.command_runs h hs hw hf hc]
  cases body (s.started x p o) o.id <;> rfl

@[simp] theorem State.finish_done {s u : State} {x : HPort} {p : Part} {o : Op} {st : Nat} {r0 r1 : Word} :
    s.finish (.done u st r0 r1) x p o = s.ends u x p o st r0 r1 := rfl

@[simp] theorem State.finish_wait {s u : State} {x : HPort} {p : Part} {o : Op} : s.finish (.wait u) x p o = u := rfl

@[simp] theorem State.finish_later {s : State} {x : HPort} {p : Part} {o : Op} : s.finish .later x p o = s := rfl

@[simp] theorem State.finish_refuse {s u : State} {x : HPort} {p : Part} {o : Op} {cls i st : Nat} :
    s.finish (.refuse u cls i st) x p o = s.ends (u.refusal p cls i st) x p o st 0 0 := rfl

end Sys2Proof.Machine
end

