-- ==== Sys2Proof/Tests/Slice0.lean ====
section
/-! SUPPORT. Tests: ill-formed commands for each check of WellFormed, values the specification states, and for each
statement with hypotheses a state and operands that meet them. -/

set_option Elab.async false
set_option maxRecDepth 1000000
set_option linter.unusedVariables false

namespace Sys2Proof.Tests
open Sys2Proof Sys2Proof.Machine

/-- The module at READY as an active twin: SEM0 held by HP0, no block in reset, the tick generator running, ring set 0
of HP0 RUNNING, HP0 bus master. -/
def ready : State :=
  { State.reset with
    regs := [(0x20010, 0), (0x50000, 1), (0x70200, 1), (0x110008, 0x80000000), (0x180000, 0x80000000)]
    host := { HostSt.reset with pci0 := { PciCfg.reset with busMaster := true, pasidOn := true } }
    evr := { RecSt.reset with running := true }
    rst := { RstSt.reset with phase := 4 } }

/-- A fetched command. -/
def fetched (d : Desc) : Op := { id := 0, desc := d, st := .fetched, status := 0, epoch := 0, r0 := 0, r1 := 0 }

/-- The state with one fetched command in ring set 0 of HP0. -/
def withOp (s : State) (d : Desc) : State :=
  s.setRing .hp0 0 { RingSet.reset with ops := [fetched d], cmdPi := 1, cmdCi := 1 }

/-- The state with register `off` holding `v`. -/
def regIs (s : State) (off : Nat) (v : Word) : State := { s with regs := Store.put (Reg.resetVal s.variant) s.regs off v }

/-- The logic engine at the instruction words `w`, `l` of task 0, in its turn. -/
def atWord (w l : Word) : State :=
  { ((ready.setReg (Reg.LGE_TCFG 0) 0x80001000).setReg (Reg.LGE_TBUD 0) 100).setReg (Reg.LGE_TSTAT 0) 0x40000000 with
    lge := { LgeSt.reset with
      prog := Store.put wordZero (Store.put wordZero [] 0 w) 1 l
      tasks := [(0, { LgeTask.dflt 0 with busy := true })]
      window := true
      turn := some 0 } }

/-- The state with these bytes in the memory behind HP0. -/
def withMem (s : State) (cells : List (Nat × Byte)) : State := { s with host := { s.host with mem0 := cells } }

/-- An image in host memory, from address 0 on. -/
def imageMem (ws : List Word) : List (Nat × Byte) :=
  ((wordsBytes ws).zipIdx.filter (fun e => e.1 ≠ 0)).map (fun e => (e.2, e.1))

/-- A CFG_LOAD descriptor of TYPE `ty` for an image at address 0. -/
def cfgDesc (ty : Word) (ws : List Word) : Desc :=
  { w0 := 0x30, w1 := 0, w2 := ty, w3 := 0, w4 := 0, w5 := 0, w6 := wd (4 * ws.length), w7 := crc32Words ws }

/-- The state in which a fetched CFG_LOAD names an image in host memory. -/
def withImage (s : State) (ty : Word) (ws : List Word) : State := withOp (withMem s (imageMem ws)) (cfgDesc ty ws)

/-- The state in which a fetched CFG_LOAD names the image `ws`, which lies in host memory from address 0 on. -/
def loading (s : State) (ty : Word) (ws : List Word) : State :=
  withOp (withMem s (Store.putList byteZero [] 0 (wordsBytes ws))) (cfgDesc ty ws)

/-- The state in which that command has started and its image has been read. -/
def loadedAt (s : State) (ty : Word) (ws : List Word) : State :=
  (((loading s ty ws).started .hp0 0 (fetched (cfgDesc ty ws))).dmaRead .hp0 0 0 (4 * ws.length)).2

/-- A queue configuration that keeps every tag and grants nothing. -/
def queueWord (i : Nat) : Word :=
  if i % 2 = 1 && (i / 2 < 256 || (512 ≤ i / 2 && i / 2 < 768)) then wd (i / 2 % 128 * 2 ^ 16) else 0

def queueImage : List Word := (List.range 2048).map queueWord

/-- The field port table of the reset values, with no MAC bases. -/
def fieldImage : List Word := fieldImageRegs.map (fun o => Reg.resetVal .ofc960 o)

/-- A waveform image of one band, all entries without a drive. -/
def waveWord (i : Nat) : Word := if i = 0 then 0x01000001 else if 9 ≤ i && (i - 9) % 17 = 0 then 255 else 0

def waveImage : List Word := (List.range 4361).map waveWord

/-- A CAN and RS-485 configuration with everything off and legal bit timing. -/
def legacyWord (i : Nat) : Word :=
  if i < 528 then
    (if i % 132 = 1 then 0x3D1000 else if i % 132 = 2 then 0x50200 else Reg.resetVal .ofc960 (legacyReg i))
  else if (i - 528) % 3 = 1 then 0x21000 else if (i - 528) % 3 = 2 then 0x20000 else 0

def legacyImage : List Word := (List.range 552).map legacyWord

/-- A calibration set for channels that no circuit uses. -/
def calWord (i : Nat) : Word := if i % 4 = 1 || i % 4 = 2 then 0x3F800000 else 0

def calImage : List Word := (List.range 320).map calWord

/-- The reset values of the registers a riser configuration sets. -/
def riserImage : List Word := riserImageRegs.map (fun o => Reg.resetVal .ofc960 o)

/-- A parameter set with nothing enabled. -/
def safetyImage : List Word :=
  let ws := 0x01000000 :: List.replicate 121 0
  ws ++ [crc32Words ws]

/-- Nothing is pressed, wired or driven. -/
def noView : SafView := ⟨0, 0, 0, 0, [], false, false, false, 0, 0, [], false, false⟩

/-- The safety island runs, with its link up and this parameter set. -/
def island (set : List Word) : State :=
  { ready with saf := { ready.saf with run := true, link := true, kept := { ready.saf.kept with set := set, sw := some (0, 1) } } }

/-- A chain frame with operation `op` waits in queue 418. -/
def withChain (s : State) (op : Byte) : State :=
  { s with pool := { s.pool with queues := [(418, [mkPkt (List.replicate 18 0 ++ [op] ++ List.replicate 20 0) 0 0 0])] } }

/-- The module sends an image with a manifest in slot A to position 0 of its chain. -/
def sending (s : State) (waiting : List Nat) : State :=
  let m := wordsBytes [0, 0, 1, 8]
  { s with upd := { s.upd with
      kept := { s.upd.kept with slotA := { ImgSlot.blank with state := 2, manifest := m } }
      send := some ⟨0, 0, 0, 0, false, [1, 0, 0], 0, waiting, [], 0⟩ } }

theorem wordsOf_cons (w : Word) (bs : List Byte) : wordsOf (wordBytes w ++ bs) = w :: wordsOf bs := by
  have h : wordBytes w = [BitVec.ofNat 8 (w.toNat % 256), BitVec.ofNat 8 (w.toNat / 256 % 256), BitVec.ofNat 8 (w.toNat / 256 / 256 % 256), BitVec.ofNat 8 (w.toNat / 256 / 256 / 256 % 256)] := rfl
  rw [h]
  simp only [List.cons_append, List.nil_append, wordsOf, natLE]
  congr 1
  apply BitVec.eq_of_toNat_eq
  have := w.isLt
  simp [wd]
  omega

theorem wordsOf_wordsBytes (ws : List Word) : wordsOf (wordsBytes ws) = ws := by
  induction ws with
  | nil => rfl
  | cons w ws ih => 
    show wordsOf (wordBytes w ++ wordsBytes ws) = _
    rw [wordsOf_cons, ih]

theorem wordsBytes_length (ws : List Word) : (wordsBytes ws).length = 4 * ws.length := by
  induction ws with
  | nil => rfl
  | cons w ws ih =>
    show (wordBytes w ++ wordsBytes ws).length = _
    rw [List.length_append, ih, List.length_cons, show (wordBytes w).length = 4 from rfl]; omega

theorem getD_map_range (f : Nat → Word) (n i : Nat) : ((List.range n).map f).getD i 0 = if i < n then f i else 0 := by
  by_cases h : i < n
  · simp [List.getD, h]
  · simp [List.getD, h]

theorem zip_map_self (f : Nat → Word) (l : List Nat) : l.zip (l.map f) = l.map (fun a => (a, f a)) := by
  induction l with
  | nil => rfl
  | cons a l ih => simp [ih]

theorem loading_mayStart (s : State) (ty : Word) (ws : List Word) (h : s.rsRunning .hp0 0 = true) (he : s.epoch = 0)
    (hb : s.inReset (cfgBlock (fieldOf ty 7 0)) = false) :
    (loading s ty ws).mayStart .hp0 0 (cfgDesc ty ws) (fetched (cfgDesc ty ws)) = true := by
  have h1 : (loading s ty ws).rsRunning .hp0 0 = s.rsRunning .hp0 0 := rfl
  have h2 : (loading s ty ws).epoch = s.epoch := rfl
  have h3 : ∀ b, (loading s ty ws).inReset b = s.inReset b := fun _ => rfl
  have h4 : (cfgDesc ty ws).block = cfgBlock (fieldOf ty 7 0) := by
    unfold Desc.block; rw [if_pos (show (cfgDesc ty ws).opcode = 0x30 from (by decide : fieldOf (0x30 : Word) 7 0 = 0x30))]; rfl
  have h5 : (cfgDesc ty ws).epoch = 0 := (by decide : fieldOf (0x30 : Word) 31 16 = 0)
  have h6 : ((loading s ty ws).ring .hp0 0).ops = [fetched (cfgDesc ty ws)] := by
    unfold loading withOp; rw [show ((0 : Nat)) = ((0 : Part) : Nat) from rfl, State.ring_setRing_same]
  have h7 : (cfgDesc ty ws).fence = false := (by decide : decide (fieldOf (0x30 : Word) 8 8 = 1) = false)
  unfold State.mayStart
  rw [show ((0 : Part) : Nat) = 0 from rfl]
  rw [h1, h2, h3, h4, h5, h, he, hb, h6]
  simp [startable, fetched, h7]

theorem cfgDesc_addr (ty : Word) (ws : List Word) : (cfgDesc ty ws).addr = 0 := by simp [Desc.addr, cfgDesc]

theorem cfgDesc_len (ty : Word) {ws : List Word} (h : ws.length < 2 ^ 30) : (cfgDesc ty ws).len = 4 * ws.length := by
  show (wd (4 * ws.length)).toNat = _
  simp [wd]; omega

theorem cfgDesc_buf (ty : Word) (ws : List Word) (h : ty.toNat &&& 0xFF = ty.toNat) :
    (cfgDesc ty ws).buf 0xFF 0 0xFFFFFFFF 0 4294967296 = true := by
  have h1 : (cfgDesc ty ws).len < 4294967296 := BitVec.isLt _
  have h0 : fieldOf (48 : Word) 15 9 = 0 := by decide
  have hm : ∀ w : Word, w.toNat &&& 4294967295 = w.toNat := fun w => by
    rw [show (4294967295 : Nat) = 2 ^ 32 - 1 from rfl, Nat.and_two_pow_sub_one_eq_mod]; exact Nat.mod_eq_of_lt w.isLt
  have w2 : (cfgDesc ty ws).w2 = ty := rfl
  have w3 : (cfgDesc ty ws).w3 = 0 := rfl
  have w0 : (cfgDesc ty ws).w0 = 48 := rfl
  have hl := Nat.le_of_lt h1
  simp [Desc.buf, Desc.clean, cfgDesc_addr, w0, w2, w3, h, hm, allBits, hl]; decide

theorem loading_read (s : State) (ty : Word) (ws : List Word) (h1 : ws.length < 2 ^ 30) (h0 : ws.length ≠ 0)
    (hp : s.host.pci0.busMaster = true) (hb : s.host.bad0 = []) :
    ((loading s ty ws).started .hp0 0 (fetched (cfgDesc ty ws))).dmaRead .hp0 0 (cfgDesc ty ws).addr (cfgDesc ty ws).len
      = (some (wordsBytes ws), loadedAt s ty ws) := by
  rw [cfgDesc_addr, cfgDesc_len ty h1]
  unfold loadedAt
  rw [Prod.ext_iff]
  refine ⟨?_, rfl⟩
  have hn : 4 * ws.length ≠ 0 := by omega
  have hok : ((loading s ty ws).started .hp0 0 (fetched (cfgDesc ty ws))).dmaOk .hp0 0 (4 * ws.length) = true := by
    have e1 : (((loading s ty ws).started .hp0 0 (fetched (cfgDesc ty ws))).pci .hp0) = s.host.pci0 := rfl
    have e2 : (((loading s ty ws).started .hp0 0 (fetched (cfgDesc ty ws))).hbad .hp0) = s.host.bad0 := rfl
    simp [State.dmaOk, e1, e2, hp, hb]
  have hm : ((loading s ty ws).started .hp0 0 (fetched (cfgDesc ty ws))).hmem .hp0 = Store.putList byteZero [] 0 (wordsBytes ws) := rfl
  simp only [State.dmaRead, if_neg hn, hok, if_true, hm]
  rw [← wordsBytes_length, Store.getList_putList]


theorem cfgDesc_crc (ty : Word) (ws : List Word) : crc32 (wordsBytes ws) = (cfgDesc ty ws).w7 := rfl

theorem queueImage_length : queueImage.length = 2048 := by simp [queueImage]

theorem fieldImage_length : fieldImage.length = 2188 := by decide +kernel

theorem waveImage_length : waveImage.length = 4361 := by simp [waveImage]

theorem legacyImage_length : legacyImage.length = 552 := by simp [legacyImage]

theorem calImage_length : calImage.length = 320 := by simp [calImage]

/-! Ill-formed commands, one for each check. -/

/-- A well-formed base tick. -/
def tick0 : TickIn := { ain := List.replicate 16 0, dio := 0, mtr := [], recv := [] }

/-- What a channel of the island reads when nothing is connected. -/
def view0 : SafView :=
  { sinA := 0, sinB := 0, hsrb := 0, lsrb := 0, isns := List.replicate 8 0, srA := false, srB := false, oe := false,
    saddr := 0, sopt := 0, enc := List.replicate 8 0, diag := false, report := false }

theorem test_wf_offset : (Instr.registerWrite .hp0 0x1011000 4 0).wf = false := by decide
theorem test_wf_no_bytes : (Instr.registerWrite .hp0 0 0 0).wf = false := by decide
theorem test_wf_two_words : (Instr.rcFieldRead .hp0 2 4).wf = false := by decide
theorem test_wf_class : (Instr.blockingExceeded 5 0 0).wf = false := by decide
theorem test_wf_block : (Instr.blockingExceeded 0 0 25).wf = false := by decide
theorem test_wf_wait : (Instr.blockingExceeded 0 (2 ^ 32) 0).wf = false := by decide
theorem test_wf_inputs : (Instr.baseTick { tick0 with ain := [0] }).wf = false := by decide
theorem test_wf_window : (Instr.baseTick { tick0 with mtr := [⟨0, List.replicate 4 (List.replicate 80 0)⟩] }).wf = false := by decide
theorem test_wf_channels : (Instr.tickGeneratorStart 0 { tick0 with mtr := [⟨1, []⟩] }).wf = false := by decide
theorem test_wf_tick : (Instr.baseTick tick0).wf = true := by decide
theorem test_wf_levels : (Instr.baseTick { tick0 with mtr := [⟨1, List.replicate 4 []⟩] }).wf = false := by decide
theorem test_wf_advance : (Instr.rtcFracRead .hp0 (2 ^ 32)).wf = false := by decide
theorem test_wf_corr_low : (Instr.kcorrUpdate (-2147483649)).wf = false := by decide
theorem test_wf_corr_high : (Instr.kcorrUpdate 2147483648).wf = false := by decide
theorem test_wf_speed_low : (Instr.hostLinkUp .hp0 0 1 PciCfg.reset).wf = false := by decide
theorem test_wf_speed_high : (Instr.hostLinkUp .hp0 5 1 PciCfg.reset).wf = false := by decide
theorem test_wf_width : (Instr.hostLinkUp .hp0 1 3 PciCfg.reset).wf = false := by decide
theorem test_wf_empty_packet : (Instr.packetWrite 0 [] 0).wf = false := by decide
theorem test_wf_source : (Instr.packetWrite 0 [1] (2 ^ 16)).wf = false := by decide
theorem test_wf_poison : (Instr.cellPoisoned 0 0 (2 ^ 16) false).wf = false := by decide
theorem test_wf_cell : (Instr.linkWordError 0 (2 ^ 16) 0).wf = false := by decide
theorem test_wf_lost : (Instr.linkWordError 0 0 (2 ^ 16)).wf = false := by decide
theorem test_wf_field_frame : (Instr.fieldFrameReceived 0 [1] true).wf = false := by decide
theorem test_wf_edge_time : (Instr.pulseInputEdge 0 false true 25000).wf = false := by decide
theorem test_wf_burst : (Instr.theftWatchBurst []).wf = false := by decide
theorem test_wf_currents : (Instr.safetyCycle .x { view0 with isns := [] }).wf = false := by decide
theorem test_wf_encoders : (Instr.safetyCycle .x { view0 with enc := [] }).wf = false := by decide
theorem test_wf_view : (Instr.safetyCycle .x view0).wf = true := by decide
theorem test_wf_riser_frame : (Instr.riserFrameReceived 0 [] ⟨false, none, true⟩).wf = false := by decide
theorem test_wf_code : (Instr.eventReport ⟨2 ^ 16, 0, 0, 0, 0, 0⟩).wf = false := by decide
theorem test_wf_origin : (Instr.eventReport ⟨0, 8, 0, 0, 0, 0⟩).wf = false := by decide
theorem test_wf_bucket_word : (Instr.bucketWrite .hp0 0x61402 0).wf = false := by decide
theorem test_wf_bucket_range : (Instr.bucketWrite .hp0 0x61600 0).wf = false := by decide
theorem test_wf_can_data :
    (Instr.canFrameReceived 0 ⟨false, false, true, false, false, 0, 0, List.replicate 65 0, 0, 0⟩).wf = false := by
  decide
theorem test_wf_serial_frame : (Instr.serFrameEnd 0 [] 0 0 0).wf = false := by decide
theorem test_wf_slice :
    (Instr.frameRecordReceived ⟨0, 0, 0, 0, 0, 0, 0, false, false, [], 1, 1, ⟨0, 0, 0, 0, 0, 0, 0, 0, false⟩, true⟩).wf
      = false := by decide
theorem test_wf_record :
    (Instr.frameRecordReceived ⟨0, 0, 0, 0, 0, 0, 0, false, false, [], 1, 1, ⟨0, 0, 0, 0, 0, 0, 0, 0, false⟩, true⟩).wf = false := by
  decide
theorem test_wf_cause : (Instr.islandSelfTestComplete 3).wf = false := by decide

/-! Values the specification states. -/

/-- The words of the program in chapter 8 decode to the instructions beside them. -/
theorem test_logic_program :
    lgeDecode 0x1001F400 0 = .ok (.ld ⟨0, 4000, 0⟩) ∧
    lgeDecode 0x60000000 0x7530 = .ok (.ton 0 30000) ∧
    lgeDecode 0x1C01F480 0 = .ok (.andn ⟨0, 4004, 0⟩) ∧
    lgeDecode 0x40000000 0x1001F420 = .ok .bro ∧
    lgeDecode 0x81400FA3 0x41D00000 = .ok (.cmp 1 2 4003 0x41D00000) ∧
    lgeDecode 0x1D01F460 0 = .ok (.andn ⟨1, 4003, 0⟩) ∧
    lgeDecode 0x48000000 0 = .ok .brco ∧
    lgeDecode 0x44000000 0 = .ok .brca ∧
    lgeDecode 0x3001F540 0 = .ok (.st ⟨0, 4010, 0⟩) ∧
    lgeDecode 0 0 = .ok .stop := by decide

/-- A word with reserved bits set, and a MOV whose literal has reserved bits set, do not decode (R308). -/
theorem test_logic_reserved : lgeDecode 0x04000001 0 = .badWord ∧ lgeDecode 0x94000001 0x10000 = .badLit (.mov 1 0) := by decide

/-- The nine characters "123456789", whose CRCs the definitions of these CRCs publish. -/
def nine : List Byte := [0x31, 0x32, 0x33, 0x34, 0x35, 0x36, 0x37, 0x38, 0x39]

theorem test_crc32 : crc32 nine = 0xCBF43926 := by decide
theorem test_crc16 : crc16 nine = 0x29B1 := by decide
theorem test_crc32c : crc32c 0xFFFFFFFF nine = 0xE3069283 := by decide

/-- The cipher example of FIPS 197, C.3. -/
theorem test_aes256 :
    aesEncrypt ((List.range 32).map (BitVec.ofNat 8)) ((List.range 16).map (fun i => BitVec.ofNat 8 (17 * i))) =
      bytesBE 16 0x8ea2b7ca516745bfeafc49904b496089 := by decide +kernel

/-- The digest of "abc" in FIPS 180. -/
theorem test_sha384 : sha384 [0x61, 0x62, 0x63] = bytesBE 48
    0xcb00753f45a35e8bb5a03d699ac65007272c32ab0eded1631a8b605a43ff5bed8086072ba1e7cc2358baeca134c825a7 := by
  decide +kernel

/-! No word spells a command, and one command is carried out first in, first out. -/

theorem test_no_word : decodeTableWord 32 0 = none := by decide
theorem test_fetch_word : State.reset.withFetchWord 32 0 = State.reset := by decide
theorem test_idle : step State.reset = .next State.reset := rfl

/-! Witnesses: for each clause with hypotheses of each statement, by its number, a state and operands that meet them. -/

theorem witness_StepRunsTheFrontCommand_2 : ∃ (s : State), (s.pending = []) ∧ (s.on F.PRT_SHCMD_BUSY = false) :=
  by exact ⟨State.reset, by decide, by decide⟩

theorem witness_StepRunsTheFrontCommand_3 : ∃ (s : State), (s.pending = []) ∧ (s.on F.PRT_SHCMD_BUSY = true) :=
  by exact ⟨ready.setF F.PRT_SHCMD_BUSY 1, by decide, by decide⟩

theorem witness_RegisterWriteReachesItsRegister_1 : ∃ (x : HPort) (off size : Nat) (v : Word) (s : State), (off < 0x1000000) ∧ ((size = 4 ∧ off % 4 = 0) = False) ∧ (isDoorbell off = true ∨ s.noReg (off - off % 4) = false) :=
  by exact ⟨.hp0, 0x20, 0, 0, State.reset, by decide, by decide, by decide⟩

theorem witness_RegisterWriteReachesItsRegister_2 : ∃ (x : HPort) (off size : Nat) (v : Word) (s : State), (off < 0x1000000) ∧ ((size = 4 ∧ off % 4 = 0) = False) ∧ (isDoorbell off = false) ∧ (s.noReg (off - off % 4) = true) :=
  by exact ⟨.hp0, 0, 0, 0, State.reset, by decide, by decide, by decide, by decide⟩

theorem witness_RegisterWriteReachesItsRegister_3 : ∃ (x : HPort) (off : Nat) (v : Word) (s : State), (off < 0x1000000) ∧ (off % 4 = 0) ∧ (isDoorbell off = false) ∧ (s.noReg off = true) :=
  by exact ⟨.hp0, 0, 0, State.reset, by decide, by decide, by decide, by decide⟩

theorem witness_RegisterWriteReachesItsRegister_4 : ∃ (x : HPort) (off : Nat) (v : Word) (s : State), (off < 0x1000000) ∧ (off % 4 = 0) ∧ (isDoorbell off = false) ∧ (s.noReg off = false) ∧ (s.inReset (off / 0x10000) = true) :=
  by exact ⟨.hp0, 0x110004, 0, State.reset, by decide, by decide, by decide, by decide, by decide⟩

theorem witness_RegisterWriteReachesItsRegister_5 : ∃ (x : HPort) (off : Nat) (v : Word) (s : State), (off < 0x1000000) ∧ (off % 4 = 0) ∧ (isDoorbell off = false) ∧ (s.noReg off = false) ∧ (s.inReset (off / 0x10000) = false) ∧ (ownReg off = none) ∧ (arr? off (Reg.SEM_CMD 0) 64 4 = none) ∧ ([Reg.RST_LDL, Reg.RST_LDH, Reg.RST_LDCMD, Reg.TWN_CTL].contains off = false) :=
  by exact ⟨.hp0, 0x20, 0, State.reset, by decide, by decide, by decide, by decide, by decide, by decide, by decide, by decide⟩

theorem witness_RegisterWriteReachesItsRegister_6 : ∃ (x : HPort) (off : Nat) (v : Word) (s : State), ([0, 3, 5, 7, 16, 17].contains (off / 0x10000) = true) :=
  by exact ⟨.hp0, 0, 0, State.reset, by decide⟩

theorem witness_RegisterWriteReachesItsRegister_7 : ∃ (x : HPort) (off : Nat) (v : Word) (s : State), (isBucket off = true) ∧ (off % 4 = 0) :=
  ⟨.hp0, Reg.EVR_BKT 3, 1, ready, by decide⟩

theorem witness_RegisterWriteReachesItsRegister_8 : ∃ (x : HPort) (b : Fin 256) (v : Word) (s : State), (s.holdsSem0 x = true) ∧ (s.inReset 18 = false) ∧ (b.val ≠ 0x12) :=
  ⟨.hp0, 0, 1, ready, by decide⟩

theorem witness_RegisterWriteReachesItsRegister_9 : ∃ (x : HPort) (v : Word) (s : State), (s.holdsSem0 x = true) ∧ (s.inReset 18 = false) :=
  by exact ⟨.hp0, 0, ready, by decide, by decide⟩

theorem witness_FieldWriteByAccessCode_1 : ∃ (s : State) (off : Nat) (v : Word) (f : FieldRow), (f.lo ≤ f.hi) ∧ (f.hi < 32) ∧ (off ≠ Reg.SYS_STAT) :=
  ⟨ready, 0x40000, 1, ⟨0, 0, .rw, []⟩, by decide⟩

theorem witness_FieldWriteByAccessCode_2 : ∃ (x : HPort) (off : Nat) (v : Word) (r : RegRow) (s : State), (off < 0x1000000) ∧ (off % 4 = 0) ∧ (isDoorbell off = false) ∧ (s.noReg off = false) ∧ (s.inReset (off / 0x10000) = false) ∧ (ownReg off = none) ∧ (arr? off (Reg.SEM_CMD 0) 64 4 = none) ∧ ([Reg.RST_LDL, Reg.RST_LDH, Reg.RST_LDCMD, Reg.TWN_CTL].contains off = false) ∧ (s.holdsSem0 x = true) ∧ ([0, 3, 5, 7, 16, 17].contains (off / 0x10000) = true) ∧ (Reg.row? off = some r) :=
  by exact ⟨.hp0, 0x50000, 0, _, ready, by decide, by decide, by decide, by decide, by decide, by decide, by decide, by decide, by decide, by decide, rfl⟩

theorem witness_SetFieldChangesOnlyItsField_1 : ∃ (s : State) (f g : Fld) (n : Nat), (f.lo ≤ f.hi) ∧ (f.hi < 32) :=
  ⟨ready, ⟨0x40000, 7, 4⟩, ⟨0x40000, 3, 0⟩, 5, by decide⟩

theorem witness_RegisterReadShowsAndClears_1 : ∃ (x : HPort) (off size : Nat) (s : State), (off < 0x1000000) ∧ (isDoorbell (off - off % 4) = false) ∧ (s.noReg (off - off % 4) = true) :=
  by exact ⟨.hp0, 0, 0, State.reset, by decide, by decide, by decide⟩

theorem witness_RegisterReadShowsAndClears_2 : ∃ (x : HPort) (off size : Nat) (s : State), (off < 0x1000000) ∧ (isDoorbell (off - off % 4) = false) ∧ (s.noReg (off - off % 4) = false) ∧ (s.inReset ((off - off % 4) / 0x10000) = true) ∧ (arr? (off - off % 4) (Reg.EVR_RWIN 0 0) 8 4 = none) ∧ (arr? (off - off % 4) (Reg.EVR_RWIN 1 0) 8 4 = none) :=
  by exact ⟨.hp0, 0x110004, 0, State.reset, by decide, by decide, by decide, by decide, by decide, by decide⟩

theorem witness_RegisterReadShowsAndClears_3 : ∃ (x : HPort) (p i : Nat) (s : State), (p < 2) ∧ (i < 8) ∧ (s.inReset 18 = true) :=
  by exact ⟨.hp0, 0, 0, State.reset, by decide, by decide, by decide⟩

theorem witness_RegisterReadShowsAndClears_4 : ∃ (x : HPort) (off : Nat) (s : State), ([Reg.RTC_FRAC, Reg.TCK_CUR, Reg.CLE_TCL, Reg.CAN_MBWIN x.num 0, Reg.CAN_MBWIN x.num 20].contains off = false) ∧ (arr? off (Reg.RSR_CNTL 0) 48 8 = none) ∧ (arr? off (Reg.RSR_PSTAT 0) 4 4 = none) ∧ (arr? off (Reg.SER_STAT 0) 8 0x100 = none) :=
  by exact ⟨.hp0, 0, State.reset, by decide, by decide, by decide, by decide⟩

theorem witness_RegisterReadShowsAndClears_5 : ∃ (x : HPort) (off size : Nat) (s : State), (off < 0x1000000) ∧ (isDoorbell (off - off % 4) = false) ∧ (s.noReg (off - off % 4) = false) ∧ (s.inReset ((off - off % 4) / 0x10000) = false) :=
  by exact ⟨.hp0, 0x20, 0, State.reset, by decide, by decide, by decide, by decide⟩

theorem witness_RegisterReadShowsAndClears_6 : ∃ (x : HPort) (q : Fin 1024) (s : State), (s.inReset 8 = false) :=
  by exact ⟨.hp0, 0, State.reset, by decide⟩

theorem witness_MemoryErrorsCountAndReport_5 : ∃ (i : Fin 256) (s : State), (s.slotState i = 1) :=
  ⟨0, regIs ready (Reg.CLE_SSTAT 0) 0x40000000, by decide⟩

theorem witness_MemoryErrorsCountAndReport_6 : ∃ (i : Fin 256) (s : State), (s.slotState i ≠ 1) :=
  by exact ⟨0, State.reset, by decide⟩

theorem witness_MemoryErrorsCountAndReport_9 : ∃ (t : Fin 16) (w : Fin 3) (s : State), (s.taskState t ≠ 1) :=
  by exact ⟨0, 0, State.reset, by decide⟩

theorem witness_MemoryErrorsCountAndReport_10 : ∃ (t : Fin 16) (w : Fin 3) (s : State), (s.taskState t = 1) :=
  by exact ⟨0, 0, (atWord 0 0), by decide⟩

theorem witness_MemoryErrorsCountAndReport_13 : ∃ (cls wait blk : Nat) (s : State), (4 < cls) :=
  by exact ⟨8, 0, 0, State.reset, by decide⟩

theorem witness_MemoryErrorsCountAndReport_14 : ∃ (cls wait blk : Nat) (s : State), (cls ≤ 4) :=
  by exact ⟨0, 0, 0, State.reset, by decide⟩

theorem witness_TickAndFrameTimetable_1 : ∃ (adv : Nat) (i : TickIn) (s : State), (s.rst.phase = 4) ∧ (s.on F.TCK_STAT_RUN = false) :=
  by exact ⟨0, ⟨[], 0, [], []⟩, regIs ready 0x50000 0, by decide, by decide⟩

theorem witness_TickAndFrameTimetable_2 : ∃ (i : TickIn) (s : State), (s.on F.TCK_STAT_RUN = true) ∧ ((s.idle.setCount s.nextTick).atBoundary.time.gap = none) :=
  ⟨⟨[], 0, [], []⟩, regIs ready Reg.TCK_CUR 7, by decide⟩

theorem witness_TickAndFrameTimetable_3 : ∃ (i : TickIn) (s t : State), (s.on F.TCK_STAT_RUN = true) ∧ (t = (s.idle.setCount s.nextTick).atBoundary) ∧ (t.time.gap ≠ none) :=
  by exact ⟨⟨[], 0, [], []⟩, { regIs ready Reg.TCK_CUR 7 with time := { ready.time with stepped := true, frac := 5, oldFrame := some (0, 1000, 7) } }, _, by decide, rfl, by decide⟩

theorem witness_TickAndFrameTimetable_6 : ∃ (s : State), (s.ptx.latching = true) ∧ (s.active = true) :=
  ⟨{ ready with ptx := { ready.ptx with latching := true } }, by decide⟩

theorem witness_TickAndFrameTimetable_7 : ∃ (s : State), (s.ptx.latching = true) ∧ (s.active = false) :=
  by exact ⟨{ regIs ready 0x110008 0 with ptx := { ready.ptx with latching := true } }, by decide, by decide⟩

theorem witness_TickAndFrameTimetable_8 : ∃ (s : State), (s.ptx.publishing = true) ∧ (s.inReset 10 = false) :=
  ⟨{ ready with ptx := { ready.ptx with publishing := true } }, by decide⟩

theorem witness_TickAndFrameTimetable_9 : ∃ (s : State), (s.ptx.publishing = true) ∧ (s.inReset 10 = true) :=
  by exact ⟨{ (ready.setF (regBit Reg.RST_BLKSTAT 10) 1) with ptx := { ready.ptx with publishing := true } }, by decide, by decide⟩

theorem witness_AlarmsTrimAndKeepTime_1 : ∃ (i : Fin 8) (s : State), (s.alarmDue i = true) ∧ (s.on (F.RTC_ALMCTL_EVT i) = false) ∧ (s.on (F.RTC_ALMCTL_MSIX i) = false) ∧ (s.on F.UPD_CTL_ALMEN = false) ∧ (bitOf s.time.lateAlarms i = false) :=
  ⟨0, regIs ready (Reg.RTC_ALMCTL 0) 1, by decide⟩

theorem witness_AlarmsTrimAndKeepTime_2 : ∃ (i : Fin 8) (s t : State), (s.alarmDue i = true) ∧ (bitOf s.time.lateAlarms i = false) ∧ (t = ((s.reachAlarm i).setF (F.RTC_ALMCTL_ARM i) 0).setF (regBit Reg.RTC_ALMSTAT i) 1) :=
  by exact ⟨0, regIs ready (Reg.RTC_ALMCTL 0) 1, _, by decide, by decide, rfl⟩

theorem witness_AlarmsTrimAndKeepTime_3 : ∃ (i : Fin 8) (s t : State), (s.alarmDue i = true) ∧ (s.on F.UPD_CTL_ALMEN = false) ∧ (exec (.alarmFire i) s = .next t) :=
  by exact ⟨0, regIs ready (Reg.RTC_ALMCTL 0) 1, _, by decide, by decide, rfl⟩

theorem witness_AlarmsTrimAndKeepTime_4 : ∃ (x : HPort) (v : Word) (s : State), (s.mayWrite x 4 = true) ∧ ((s.variant.lacks 14 && fieldOf v 25 24 = 1) = false) ∧ (fieldOf v 31 31 = 1) ∧ ((s.writeFields Reg.RTC_MEASCTL v).autoTrim = false) ∧ ((s.writeFields Reg.RTC_MEASCTL v).rf F.RTC_MEASCTL_SRC ≠ 0) :=
  ⟨.hp0, 0x81000000, ready, by decide⟩

theorem witness_AlarmsTrimAndKeepTime_5 : ∃ (x : HPort) (v : Word) (s : State), (s.mayWrite x 4 = true) ∧ ((s.variant.lacks 14 && fieldOf v 25 24 = 1) = true) ∧ (fieldOf v 31 31 = 0) :=
  by exact ⟨.hp0, 0x01000000, { ready with variant := .ofc920 }, by decide, by decide, by decide⟩

theorem witness_AlarmsTrimAndKeepTime_7 : ∃ (s t : State) (e : Int), (s.measOver = true) ∧ (s.time.measAuto = false) ∧ (t = (if s.count < s.measEnd then s.setCount s.measEnd else s)) ∧ (t.measNet = true ∨ 2 ≤ t.time.measN) ∧ (e = t.measError (bitOf t.freeVal.toNat 0)) :=
  by exact ⟨{ (ready.setF F.RTC_MEASCTL_BUSY 1).setF F.RTC_MEASCTL_SRC 2 with time := { ready.time with measOfs := 0, sec := 5000 } }, _, _, by decide, by decide, rfl, by exact Or.inl (by decide), rfl⟩

theorem witness_AlarmsTrimAndKeepTime_8 : ∃ (s t : State), (s.measOver = true) ∧ (t = (if s.count < s.measEnd then s.setCount s.measEnd else s)) ∧ (t.measNet = false) ∧ (t.time.measN < 2) :=
  by exact ⟨{ (ready.setF F.RTC_MEASCTL_BUSY 1).setF F.RTC_MEASCTL_SRC 1 with time := { ready.time with sec := 5000 } }, _, by decide, rfl, by decide, by decide⟩

theorem witness_AlarmsTrimAndKeepTime_9 : ∃ (f0 n t : Nat) (up : Bool), (1 ≤ n) :=
  by exact ⟨0, 1, 0, true, by decide⟩

theorem witness_AlarmsTrimAndKeepTime_11 : ∃ (s : State) (bit : Nat), (bit = 2 ∨ bit = 3) :=
  ⟨ready, 2, by decide⟩

theorem witness_AlarmsTrimAndKeepTime_12 : ∃ (corr : Int) (s : State), (s.time.keep = false) :=
  by exact ⟨0, State.reset, by decide⟩

theorem witness_AlarmsTrimAndKeepTime_13 : ∃ (s : State), (s.time.keep = true) :=
  by exact ⟨({ ready with time := { ready.time with keep := true } }), by decide⟩

theorem witness_AlarmsTrimAndKeepTime_14 : ∃ (s : State), (s.time.rolled = false) :=
  by exact ⟨State.reset, by decide⟩

theorem witness_TimeRegistersAndServo_1 : ∃ (x : HPort) (v : Word) (s : State), (s.mayWrite x 4 = true) ∧ ((s.sourceChanged (s.writeFields Reg.RTC_CTL v)).measNet = false ∨ (s.sourceChanged (s.writeFields Reg.RTC_CTL v)).on F.RTC_CTL_NETSYNC = true) :=
  by exact ⟨.hp0, 0, ready, by decide, by decide⟩

theorem witness_TimeRegistersAndServo_2 : ∃ (x : HPort) (v : Word) (s : State), (s.mayWrite x 4 = true) ∧ ((s.sourceChanged (s.writeFields Reg.RTC_CTL v)).measNet = true) ∧ ((s.sourceChanged (s.writeFields Reg.RTC_CTL v)).on F.RTC_CTL_NETSYNC = false) :=
  by exact ⟨.hp0, 0, { (ready.setF F.RTC_MEASCTL_BUSY 1).setF F.RTC_MEASCTL_SRC 2 with time := ready.time }, by decide, by decide, by decide⟩

theorem witness_TimeRegistersAndServo_4 : ∃ (s : State), (s.autoTrim = false) :=
  by exact ⟨State.reset, by decide⟩

theorem witness_TimeRegistersAndServo_5 : ∃ (x : HPort) (v : Word) (s : State), (s.mayWrite x 1 = true) :=
  by exact ⟨.hp0, 0, ready, by decide⟩

theorem witness_TimeRegistersAndServo_6 : ∃ (lanB : Bool) (m : SyncSample) (s : State), (s.on F.RTC_CTL_NETSYNC = true) ∧ (lanB = s.time.domB) :=
  ⟨false, ⟨0, 0, 0⟩, ready.setF F.RTC_CTL_NETSYNC 1, by decide⟩

theorem witness_TimeRegistersAndServo_7 : ∃ (adv : Nat) (s : State), (s.on F.RTC_CTL_NETSYNC = false) ∧ (s.on F.CLK_TIN_EN = true) :=
  by exact ⟨0, (ready.setF F.CLK_TIN_EN 1).setF F.RTC_CTL_NETSYNC 0, by decide, by decide⟩

theorem witness_TimeRegistersAndServo_9 : ∃ (s t : State), (s.servoSource ≠ 0) ∧ (s.on F.TCK_STAT_HOLD = false) ∧ (exec .syncHoldover s = .next t) :=
  by exact ⟨(ready.setF F.CLK_TIN_EN 1).setF F.RTC_CTL_NETSYNC 0, _, by decide, by decide, rfl⟩

theorem witness_TimeRegistersAndServo_10 : ∃ (s : State), (s.servoSource = 2) ∧ (s.on F.TCK_STAT_HOLD = false) ∧ (s.measNet = false) :=
  ⟨(ready.setF F.CLK_TIN_EN 1).setF F.RTC_CTL_NETSYNC 0, by decide⟩

theorem witness_TimeRegistersAndServo_11 : ∃ (x : HPort) (s : State), (s.mayWrite x 4 = true) ∧ (s.on F.RTC_CTL_NETSYNC = false) :=
  ⟨.hp0, ready.setF F.RTC_CTL_NETSYNC 0, by decide⟩

theorem witness_TimeRegistersAndServo_12 : ∃ (x : HPort) (s : State), (s.mayWrite x 4 = true) ∧ (s.on F.RTC_CTL_NETSYNC = true) :=
  ⟨.hp0, ready.setF F.RTC_CTL_NETSYNC 1, by decide⟩

theorem witness_PartitionConfiguration_1 : ∃ (x : HPort) (s : State), (s.mayWrite x 6 = true) ∧ (s.on F.PRT_SHCMD_BUSY = false) ∧ (s.stagedShare.refused = false) :=
  by exact ⟨.hp0, ready, by decide, by decide, by decide⟩

theorem witness_PartitionConfiguration_2 : ∃ (x : HPort) (s : State), (s.mayWrite x 6 = true) ∧ (s.on F.PRT_SHCMD_BUSY = false) ∧ (s.stagedShare.refused = true) :=
  ⟨.hp0, regIs ready Reg.PRT_SHW0 0x80000000, by decide⟩

theorem witness_PartitionConfiguration_3 : ∃ (x : HPort) (s : State), (s.mayWrite x 6 = true) ∧ (s.on F.PRT_SHCMD_BUSY = false) :=
  by exact ⟨.hp0, ready, by decide, by decide⟩

theorem witness_PartitionConfiguration_4 : ∃ (x : HPort) (s : State), (s.mayWrite x 6 = true) ∧ (s.on F.PRT_SHCMD_BUSY = true) :=
  by exact ⟨.hp0, ready.setF F.PRT_SHCMD_BUSY 1, by decide, by decide⟩

theorem witness_PartitionConfiguration_5 : ∃ (x : HPort) (j : Fin 4) (v : Word) (s : State), (s.mayWrite x 6 = true) :=
  by exact ⟨.hp0, 0, 0, ready, by decide⟩

theorem witness_SemaphoreCells_1 : ∃ (x : HPort) (i : Fin 64) (tag : BitVec 16) (s : State), (s.on (F.SEM_CELL_HELD i) = false) :=
  by exact ⟨.hp0, 0, 0, State.reset, by decide⟩

theorem witness_SemaphoreCells_2 : ∃ (x : HPort) (i : Fin 64) (tag : BitVec 16) (s : State), (s.on (F.SEM_CELL_HELD i) = true) :=
  by exact ⟨.hp0, 0, 0, ready, by decide⟩

theorem witness_SemaphoreCells_3 : ∃ (x : HPort) (i : Fin 64) (s : State), (s.on (F.SEM_CELL_HELD i) = true) ∧ (s.cellPort i = x) :=
  ⟨.hp0, 0, ready, by decide⟩

theorem witness_SemaphoreCells_4 : ∃ (x : HPort) (i : Fin 64) (s : State), ((s.on (F.SEM_CELL_HELD i) = true ∧ s.cellPort i = x) = False) :=
  by exact ⟨.hp0, 0, State.reset, by decide⟩

theorem witness_SemaphoreCells_5 : ∃ (i : Fin 64) (s : State), (s.on (F.SEM_CELL_HELD i) = true) ∧ (s.on (F.SEM_CELL_LEASE i) = true) :=
  ⟨0, ready.setF (F.SEM_CELL_LEASE 0) 1, by decide⟩

theorem witness_SemaphoreCells_6 : ∃ (i : Fin 64) (s : State), (s.on (F.SEM_CELL_HELD i) = true) ∧ (s.rf F.SEM_CTL_HBTMO ≠ 0) :=
  ⟨0, ready.setF F.SEM_CTL_HBTMO 1, by decide⟩

theorem witness_RingSetStagingAndHostLinks_1 : ∃ (x : HPort) (s : State), (s.on (F.HPC_RSCMD_BUSY x.num) = false) ∧ (s.rsState x (s.rsIdx x) = 0) :=
  ⟨.hp1, ready, by decide⟩

theorem witness_RingSetStagingAndHostLinks_2 : ∃ (x : HPort) (s : State), (s.on (F.HPC_RSCMD_BUSY x.num) = false) ∧ (s.rsState x (s.rsIdx x) ≠ 0) :=
  ⟨.hp0, ready, by decide⟩

theorem witness_RingSetStagingAndHostLinks_3 : ∃ (x : HPort) (s : State), (s.on (F.HPC_RSCMD_BUSY x.num) = false) :=
  by exact ⟨.hp0, State.reset, by decide⟩

theorem witness_RingSetStagingAndHostLinks_4 : ∃ (x : HPort) (s : State), (s.on (F.HPC_RSCMD_BUSY x.num) = true) :=
  ⟨.hp0, ready.setF (F.HPC_RSCMD_BUSY 0) 1, by decide⟩

theorem witness_RingSetStagingAndHostLinks_5 : ∃ (x : HPort) (speed width : Nat) (cfg : PciCfg) (s : State), ((x = .hp1 ∧ s.on F.UPD_STAT_WHITEOUT = true) = False) :=
  by exact ⟨.hp0, 1, 4, PciCfg.reset, ready, by decide⟩

theorem witness_RingSetStagingAndHostLinks_6 : ∃ (speed width : Nat) (cfg : PciCfg) (s : State), (s.on F.UPD_STAT_WHITEOUT = true) :=
  by exact ⟨1, 4, PciCfg.reset, ready.setF F.UPD_STAT_WHITEOUT 1, by decide⟩

theorem witness_RingSetStagingAndHostLinks_8 : ∃ (x : HPort) (s : State), (s.on (F.HPC_PSTAT_LINK x.num) = true) :=
  ⟨.hp0, ready.setF (F.HPC_PSTAT_LINK 0) 1, by decide⟩

theorem witness_RingSetStagingAndHostLinks_9 : ∃ (x : HPort) (s : State), (s.on (F.HPC_PSTAT_LINK x.num) = false) :=
  by exact ⟨.hp0, State.reset, by decide⟩

theorem witness_RingSetStagingAndHostLinks_11 : ∃ (x : HPort) (i : Fin 64) (s : State), (s.on (F.SEM_CELL_HELD i) = true) ∧ (s.cellPort i = x) :=
  ⟨.hp0, 0, ready, by decide⟩

theorem witness_RingSetStagingAndHostLinks_13 : ∃ (x : HPort) (s : State), (s.on (F.HPC_PSTAT_LINK x.num) = true) :=
  ⟨.hp0, ready.setF (F.HPC_PSTAT_LINK 0) 1, by decide⟩

theorem witness_RingSetStagingAndHostLinks_14 : ∃ (x : HPort) (s : State), (s.on (F.HPC_PSTAT_LINK x.num) = false) :=
  by exact ⟨.hp0, State.reset, by decide⟩

theorem witness_RingSetLifeCycle_1 : ∃ (x : HPort) (s : State), (s.on (F.HPC_RSCMD_BUSY x.num) = false) ∧ (s.startCause x (s.rsIdx x) = none) :=
  ⟨.hp0, ready.setRs .hp0 0 0, by decide⟩

theorem witness_RingSetLifeCycle_2 : ∃ (x : HPort) (s : State) (c : Nat), (s.on (F.HPC_RSCMD_BUSY x.num) = false) ∧ (s.startCause x (s.rsIdx x) = some c) :=
  ⟨.hp0, ready, 3, by decide⟩

theorem witness_RingSetLifeCycle_4 : ∃ (x : HPort) (s : State), (s.on (F.HPC_RSCMD_BUSY x.num) = false) ∧ (s.rsState x (s.rsIdx x) = 3) :=
  ⟨.hp0, ready.setRs .hp0 0 3, by decide⟩

theorem witness_RingSetLifeCycle_5 : ∃ (x : HPort) (s : State), (s.on (F.HPC_RSCMD_BUSY x.num) = false) ∧ (s.rsState x (s.rsIdx x) = 1) ∧ ((s.ring x (s.rsIdx x)).ops = []) :=
  ⟨.hp0, ready, by decide⟩

theorem witness_RingSetLifeCycle_6 : ∃ (x : HPort) (p : Part) (s : State), (s.rsState x p = 2) ∧ ((s.ring x p).ops = []) :=
  ⟨.hp0, 0, ready.setRs .hp0 0 2, by decide⟩

theorem witness_RingSetLifeCycle_7 : ∃ (x : HPort) (p : Part) (errc : Fin 4) (s : State), (s.rsState x p = 1 ∨ s.rsState x p = 2) ∧ (errc.val ≠ 0) :=
  ⟨.hp0, 0, 1, ready, by decide⟩

theorem witness_DoorbellsFetchAndDelivery_4 : ∃ (x : HPort) (p : Part) (s t : State) (bs : List Byte), ((s.ring x p).ops.any (fun o => o.st = .passed) = false) ∧ (s.mayFetch x p = true) ∧ (s.dmaRead x p ((s.ring x p).cmdB + 32 * (s.ring x p).cmdCi) 32 = (some bs, t)) ∧ ((descOf bs).known = true) ∧ ((descOf bs).transmits = false) :=
  by exact ⟨.hp0, 0, ready.setRing .hp0 0 { RingSet.reset with cmdPi := 1, cfg := 0x100000 }, _, _, by decide, by decide, rfl, by decide, by decide⟩

theorem witness_DoorbellsFetchAndDelivery_5 : ∃ (x : HPort) (p : Part) (s : State), (s.rsRunning x p = true) ∧ (s.enabled p = true) ∧ ((s.ring x p).ops.any (fun o => o.st = .passed) = true) ∧ (s.stagingFull x p = false) :=
  by exact ⟨.hp0, 0, ready.setRing .hp0 0 { RingSet.reset with ops := [{ fetched ⟨0x58,0,0,0,0,0,16,0⟩ with st := .passed }] }, by decide, by decide, by decide, by decide⟩

theorem witness_DoorbellsFetchAndDelivery_6 : ∃ (x : HPort) (p : Part) (k : Pkt) (ks : List Pkt) (s : State), (s.queue (rxQueue x p) = k :: ks) ∧ (s.rsRunning x p = true) ∧ ((s.ring x p).need k ≤ (s.ring x p).rxFree) :=
  ⟨.hp0, 0, mkPkt [1] 0 0 0, [], (ready.setQueue 0 [mkPkt [1] 0 0 0]).setRing .hp0 0 { RingSet.reset with rxPi := 1 }, by decide⟩

theorem witness_DoorbellsFetchAndDelivery_7 : ∃ (x : HPort) (p : Part) (k : Pkt) (ks : List Pkt) (s : State), (s.queue (rxQueue x p) = k :: ks) ∧ ((s.ring x p).holding = true) ∧ ((s.ring x p).rxFree < (s.ring x p).need k) :=
  ⟨.hp0, 0, mkPkt [1] 0 0 0, [], (ready.setQueue 0 [mkPkt [1] 0 0 0]).setRing .hp0 0 { RingSet.reset with holding := true }, by decide⟩

theorem witness_DoorbellsFetchAndDelivery_8 : ∃ (x : HPort) (p : Part) (k : RingVec) (s : State), ((s.ring x p).due k = true) :=
  ⟨.hp0, 0, .cpl, ready.setRing .hp0 0 { RingSet.reset with dueCpl := true }, by decide⟩

theorem witness_QueuePoolPackets_1 : ∃ (q : Fin 1024) (data : List Byte) (src : Nat) (s : State), (256 ≤ q.val) ∧ (s.allocRefused q (cellsOf data.length) = none) :=
  by exact ⟨256, [], 0, ready, by decide, by decide⟩

theorem witness_QueuePoolPackets_2 : ∃ (q : Fin 1024) (data : List Byte) (src : Nat) (s : State) (cause : Nat), (256 ≤ q.val) ∧ (s.allocRefused q (cellsOf data.length) = some cause) :=
  by exact ⟨256, [1], 0, regIs ready (Reg.QPL_QCFG 256) 0, 0, by decide, by rw [State.allocRefused, show (regIs ready (Reg.QPL_QCFG 256) 0).quota ((256 : Fin 1024) : Nat) = 0 by decide, show (regIs ready (Reg.QPL_QCFG 256) 0).fill ((256 : Fin 1024) : Nat) = 0 by decide]; simp [cellsOf, ceilDiv]⟩

theorem witness_QueuePoolPackets_3 : ∃ (q : Fin 1024) (data : List Byte) (src : Nat) (s : State), (q.val < 256) :=
  by exact ⟨5, [], 0, ready, by decide⟩

theorem witness_QueuePoolPackets_4 : ∃ (q : Fin 1024) (pos cell : Nat) (begun : Bool) (k : Pkt) (s : State), ((s.queue q)[pos]? = some k) ∧ ((256 ≤ q.val ∨ pos ≠ 0)) ∧ ((begun = false ∨ pos ≠ 0 ∨ sendQueue q = false)) ∧ ((q.val ≠ 418 ∨ ((chainIn k.data).op ≠ 1 ∧ (chainIn k.data).op ≠ 2))) :=
  ⟨256, 0, 5, false, mkPkt [1] 0 0 0, ready.setQueue 256 [mkPkt [1] 0 0 0], by decide⟩

theorem witness_QueuePoolPackets_5 : ∃ (q : Fin 1024) (cell : Nat) (begun : Bool) (k : Pkt) (s : State), ((s.queue q)[0]? = some k) ∧ (q.val < 256) :=
  ⟨5, 5, false, mkPkt [1] 0 0 0, ready.setQueue 5 [mkPkt [1] 0 0 0], by decide⟩

theorem witness_QueuePoolPackets_6 : ∃ (q : Fin 1024) (cell : Nat) (k : Pkt) (s : State), ((s.queue q)[0]? = some k) ∧ (sendQueue q = true) :=
  ⟨320, 5, mkPkt [1] 0 0 0, ready.setQueue 320 [mkPkt [1] 0 0 0], by decide⟩

theorem witness_QueuePoolPackets_7 : ∃ (pos cell : Nat) (begun : Bool) (k : Pkt) (s : State), ((s.queue 418)[pos]? = some k) ∧ ((chainIn k.data).op = 1 ∨ (chainIn k.data).op = 2) :=
  by exact ⟨0, 5, false, _, withChain ready 1, rfl, by decide⟩

theorem witness_QueuePoolPackets_8 : ∃ (q : Fin 1024) (pos cell : Nat) (begun : Bool) (s : State), ((s.queue q)[pos]? = none) :=
  by exact ⟨0, 0, 0, true, State.reset, by decide⟩

theorem witness_QueuePoolPackets_10 : ∃ (q : Fin 1024) (cell lost : Nat) (s t : State), (s.queue q ≠ []) ∧ (exec (.linkWordError q cell lost) s = .next t) :=
  by exact ⟨256, 5, 0, ready.setQueue 256 [mkPkt [1] 0 0 0], _, by decide, rfl⟩

theorem witness_QueuePoolPackets_11 : ∃ (q : Fin 1024) (cell lost : Nat) (s : State), (s.queue q ≠ []) :=
  ⟨256, 5, 0, ready.setQueue 256 [mkPkt [1] 0 0 0], by decide⟩

theorem witness_QueuePoolPackets_13 : ∃ (q : Fin 1024) (cell lost : Nat) (s : State), (s.queue q = []) :=
  by exact ⟨0, 0, 0, State.reset, by decide⟩

theorem witness_QueuePoolPackets_14 : ∃ (s : State) (n q : Nat), (s.pool.audit = some (n, q)) :=
  ⟨{ ready with pool := { ready.pool with audit := some (2, 256) } }, 2, 256, by decide⟩

theorem witness_QueuePoolPackets_15 : ∃ (s : State), (s.pool.audit = none) :=
  by exact ⟨State.reset, by decide⟩

theorem witness_QueueFlushInjectionAndMailboxWindow_1 : ∃ (x : HPort) (q : Fin 1024) (s : State), (s.mayWrite x 8 = true) ∧ (s.pool.flushing.any (fun e => e.1 = q.val) = false) :=
  ⟨.hp0, 300, ready, by decide⟩

theorem witness_QueueFlushInjectionAndMailboxWindow_2 : ∃ (x : HPort) (q : Fin 1024) (s : State), (s.mayWrite x 8 = true) ∧ (s.pool.flushing.any (fun e => e.1 = q.val) = true) :=
  by exact ⟨.hp0, 300, { ready with pool := { ready.pool with flushing := [(300, 0)] } }, by decide, by decide⟩

theorem witness_QueueFlushInjectionAndMailboxWindow_3 : ∃ (q : Fin 1024) (s : State), (s.pool.flushing.any (fun e => e.1 = q.val) = false) :=
  by exact ⟨0, State.reset, by decide⟩

theorem witness_QueueFlushInjectionAndMailboxWindow_4 : ∃ (q : Fin 1024) (s t : State), (s.pool.flushing.any (fun e => e.1 = q.val) = true) ∧ (t = s.setQueue q ((s.queue q).drop (s.flushLeft q))) :=
  by exact ⟨300, { ready with pool := { ready.pool with flushing := [(300, 0)] } }, _, by decide, rfl⟩

theorem witness_QueueFlushInjectionAndMailboxWindow_5 : ∃ (q : Fin 1024) (s : State), (s.pool.flushing.any (fun e => e.1 = q.val) = true) ∧ (256 ≤ q.val) ∧ (s.pool.flushOps = []) ∧ ((s.queue q).all (fun k => k.op.isNone) = true) :=
  ⟨300, { ready with pool := { ready.pool with flushing := [(300, 0)] } }, by decide⟩

theorem witness_QueueFlushInjectionAndMailboxWindow_6 : ∃ (s : State) (ws : List Word), (s.pool.cfgPend = some ws) :=
  ⟨{ ready with pool := { ready.pool with cfgPend := some [] } }, [], by decide⟩

theorem witness_QueueFlushInjectionAndMailboxWindow_7 : ∃ (s : State), (s.pool.cfgPend = none) :=
  by exact ⟨State.reset, by decide⟩

theorem witness_QueueFlushInjectionAndMailboxWindow_8 : ∃ (x : HPort) (q : Fin 1024) (s : State), (s.mayWrite x 8 = true) :=
  by exact ⟨.hp0, 0, ready, by decide⟩

theorem witness_QueueFlushInjectionAndMailboxWindow_9 : ∃ (x : HPort) (q : Fin 1024) (s : State), (s.mayWrite x 8 = true) :=
  by exact ⟨.hp0, 0, ready, by decide⟩

theorem witness_QueueFlushInjectionAndMailboxWindow_11 : ∃ (x : HPort) (v : Word) (s : State), (s.inReset 20 = false) :=
  by exact ⟨.hp0, 0, ready, by decide⟩

theorem witness_QueueFlushInjectionAndMailboxWindow_12 : ∃ (x : HPort) (s : State), (s.inReset 20 = false) :=
  by exact ⟨.hp0, ready, by decide⟩

theorem witness_QueueFlushInjectionAndMailboxWindow_13 : ∃ (x : HPort) (s : State), (s.inReset 20 = false) ∧ (s.windowOn x = true) :=
  ⟨.hp0, ready.setF (F.CAN_MBCFG_MODE 0 0) 3, by decide⟩

theorem witness_QueueFlushInjectionAndMailboxWindow_14 : ∃ (x : HPort) (s : State), (s.inReset 20 = false) ∧ (s.windowOn x = false) :=
  by exact ⟨.hp0, ready, by decide, by decide⟩

theorem witness_QueueFlushInjectionAndMailboxWindow_15 : ∃ (x : HPort) (v : Word) (s : State), (s.inReset 20 = true) :=
  by exact ⟨.hp0, 0, State.reset, by decide⟩

theorem witness_LogicBitInstructions_1 : ∃ (t : Nat) (s : State), (s.lgeAt t .stop = true) ∧ ((s.task t).stack = []) :=
  ⟨0, atWord 0 0, by decide⟩

theorem witness_LogicBitInstructions_2 : ∃ (t : Nat) (s : State), (s.lgeAt t .nop = true) :=
  ⟨0, atWord 0x04000000 0, by decide⟩

theorem witness_LogicBitInstructions_3 : ∃ (t : Nat) (b : Bool) (s : State), (s.lgeAt t (.ldk b) = true) :=
  ⟨0, true, atWord 0x08000001 0, by decide⟩

theorem witness_LogicBitInstructions_4 : ∃ (t : Nat) (o : BitOp) (s : State), (s.lgeAt t (.ld o) = true) :=
  ⟨0, ⟨2, 3, 0⟩, atWord 0x12000060 0, by decide⟩

theorem witness_LogicBitInstructions_5 : ∃ (t : Nat) (o : BitOp) (s : State), (s.lgeAt t (.ldn o) = true) :=
  ⟨0, ⟨2, 3, 0⟩, atWord 0x16000060 0, by decide⟩

theorem witness_LogicBitInstructions_6 : ∃ (t : Nat) (o : BitOp) (s : State), (s.lgeAt t (.and o) = true) :=
  ⟨0, ⟨2, 3, 0⟩, atWord 0x1A000060 0, by decide⟩

theorem witness_LogicBitInstructions_7 : ∃ (t : Nat) (o : BitOp) (s : State), (s.lgeAt t (.andn o) = true) :=
  ⟨0, ⟨2, 3, 0⟩, atWord 0x1E000060 0, by decide⟩

theorem witness_LogicBitInstructions_8 : ∃ (t : Nat) (o : BitOp) (s : State), (s.lgeAt t (.or o) = true) :=
  ⟨0, ⟨2, 3, 0⟩, atWord 0x22000060 0, by decide⟩

theorem witness_LogicBitInstructions_9 : ∃ (t : Nat) (o : BitOp) (s : State), (s.lgeAt t (.orn o) = true) :=
  ⟨0, ⟨2, 3, 0⟩, atWord 0x26000060 0, by decide⟩

theorem witness_LogicBitInstructions_10 : ∃ (t : Nat) (o : BitOp) (s : State), (s.lgeAt t (.xor o) = true) :=
  ⟨0, ⟨2, 3, 0⟩, atWord 0x2A000060 0, by decide⟩

theorem witness_LogicStoresAndBranches_1 : ∃ (t : Nat) (o : BitOp) (s : State), (s.lgeAt t (.st o) = true) :=
  ⟨0, ⟨2, 3, 0⟩, atWord 0x32000060 0, by decide⟩

theorem witness_LogicStoresAndBranches_2 : ∃ (t : Nat) (o : BitOp) (s : State), (s.lgeAt t (.stn o) = true) :=
  ⟨0, ⟨2, 3, 0⟩, atWord 0x36000060 0, by decide⟩

theorem witness_LogicStoresAndBranches_3 : ∃ (t : Nat) (o : BitOp) (s : State), (s.lgeAt t (.set o) = true) :=
  ⟨0, ⟨2, 3, 0⟩, atWord 0x3A000060 0, by decide⟩

theorem witness_LogicStoresAndBranches_4 : ∃ (t : Nat) (o : BitOp) (s : State), (s.lgeAt t (.rst o) = true) :=
  ⟨0, ⟨2, 3, 0⟩, atWord 0x3E000060 0, by decide⟩

theorem witness_LogicStoresAndBranches_5 : ∃ (t : Nat) (s : State), (s.lgeAt t .bro = true) ∧ ((s.task t).stack.length < 16) :=
  ⟨0, atWord 0x40000000 0, by decide⟩

theorem witness_LogicStoresAndBranches_6 : ∃ (t : Nat) (b : Bool) (bs : List Bool) (s : State), (s.lgeAt t .brca = true) ∧ ((s.task t).stack = b :: bs) :=
  ⟨0, true, [], (atWord 0x44000000 0).setTask 0 { LgeTask.dflt 0 with busy := true, stack := [true] }, by decide⟩

theorem witness_LogicStoresAndBranches_7 : ∃ (t : Nat) (b : Bool) (bs : List Bool) (s : State), (s.lgeAt t .brco = true) ∧ ((s.task t).stack = b :: bs) :=
  ⟨0, true, [], (atWord 0x48000000 0).setTask 0 { LgeTask.dflt 0 with busy := true, stack := [true] }, by decide⟩

theorem witness_LogicStoresAndBranches_8 : ∃ (t : Nat) (m : Nat) (s : State), (s.lgeAt t (.re m) = true) :=
  ⟨0, 3, atWord 0x52000060 0, by decide⟩

theorem witness_LogicStoresAndBranches_9 : ∃ (t : Nat) (m : Nat) (s : State), (s.lgeAt t (.fe m) = true) :=
  ⟨0, 3, atWord 0x56000060 0, by decide⟩

theorem witness_LogicStoresAndBranches_10 : ∃ (t : Nat) (s : State), (16 ≤ (s.task t).stack.length) ∧ (s.lgeAt t .bro = true) :=
  ⟨0, (atWord 0x40000000 0).setTask 0 { LgeTask.dflt 0 with busy := true, stack := List.replicate 16 true }, by decide⟩

theorem witness_LogicStoresAndBranches_11 : ∃ (t : Nat) (s : State), ((s.task t).stack = []) :=
  by exact ⟨0, State.reset, by decide⟩

theorem witness_LogicStoresAndBranches_12 : ∃ (t : Nat) (s : State), (s.lgeAt t .stop = true) ∧ ((s.task t).stack ≠ []) :=
  ⟨0, (atWord 0 0).setTask 0 { LgeTask.dflt 0 with busy := true, stack := [true] }, by decide⟩

theorem witness_LogicTimersCountersAndMoves_1 : ∃ (t : Nat) (n l : Nat) (s : State), (s.lgeAt t (.ton n l) = true) :=
  ⟨0, 5, 7, atWord 0x60000005 7, by decide⟩

theorem witness_LogicTimersCountersAndMoves_2 : ∃ (t : Nat) (n l : Nat) (s : State), (s.lgeAt t (.tof n l) = true) :=
  ⟨0, 5, 7, atWord 0x64000005 7, by decide⟩

theorem witness_LogicTimersCountersAndMoves_3 : ∃ (t : Nat) (n : Nat) (l : Word) (s : State), (s.lgeAt t (.ctu n l) = true) :=
  ⟨0, 5, 7, atWord 0x68000005 7, by decide⟩

theorem witness_LogicTimersCountersAndMoves_4 : ∃ (t : Nat) (n : Nat) (l : Word) (s : State), (s.lgeAt t (.ctd n l) = true) :=
  ⟨0, 5, 7, atWord 0x6C000005 7, by decide⟩

theorem witness_LogicTimersCountersAndMoves_5 : ∃ (t : Nat) (n : Nat) (s : State), (s.lgeAt t (.cres n) = true) :=
  ⟨0, 5, atWord 0x70000005 0, by decide⟩

theorem witness_LogicTimersCountersAndMoves_6 : ∃ (t : Nat) (comb cond pt : Nat) (l : Word) (s : State), (s.lgeAt t (.cmp comb cond pt l) = true) :=
  ⟨0, 1, 2, 9, 7, atWord 0x81400009 7, by decide⟩

theorem witness_LogicTimersCountersAndMoves_7 : ∃ (t : Nat) (pt : Nat) (l : Word) (s : State), (s.lgeAt t (.movk pt l) = true) :=
  ⟨0, 9, 7, atWord 0x90000009 7, by decide⟩

theorem witness_LogicTimersCountersAndMoves_8 : ∃ (t : Nat) (dst src : Nat) (s : State), (s.lgeAt t (.mov dst src) = true) :=
  ⟨0, 9, 7, atWord 0x94000009 7, by decide⟩

theorem witness_LogicTimersCountersAndMoves_9 : ∃ (t : Nat) (n : Nat) (s : State), (s.lgeAt t (.jc n) = true) :=
  ⟨0, 3, atWord 0xA0000003 0, by decide⟩

theorem witness_LogicTimersCountersAndMoves_10 : ∃ (t : Nat) (n : Nat) (s : State), (s.lgeAt t (.jnc n) = true) :=
  ⟨0, 3, atWord 0xA4000003 0, by decide⟩

theorem witness_RingCommandChecks_1 : ∃ (x : HPort) (p : Part) (d : Desc) (o : Op) (wf fitted cfg : Bool) (body : State → Nat → CmdEnd) (s : State), (s.rsRunning x p = true) ∧ (startable d [] (s.ring x p).ops = some o) :=
  ⟨.hp0, 0, ⟨0,0,0,0,0,0,0,0⟩, fetched ⟨0,0,0,0,0,0,0,0⟩, true, true, false, nopBody, withOp ready ⟨0,0,0,0,0,0,0,0⟩, by decide⟩

theorem witness_RingCommandChecks_2 : ∃ (x : HPort) (p : Part) (d : Desc) (sel wf fitted cfg : Bool) (body : State → Nat → CmdEnd) (s : State), (sel = false ∨ s.rsRunning x p = false ∨ startable d [] (s.ring x p).ops = none) :=
  by exact ⟨.hp0, 0, ⟨0,0,0,0,0,0,0,0⟩, true, true, true, false, nopBody, State.reset, by decide⟩

theorem witness_RingCommandChecks_3 : ∃ (x : HPort) (p : Part) (d : Desc) (o : Op) (s : State), (s.mayStart x p d o = true) ∧ (d.opcode = 0x00) ∧ (d.clean 0 0 0 0 0 0 = true) :=
  ⟨.hp0, 0, (⟨0,0,0,0,0,0,0,0⟩), fetched (⟨0,0,0,0,0,0,0,0⟩), withOp (ready) (⟨0,0,0,0,0,0,0,0⟩), by decide⟩

theorem witness_CompletionsAndEntries_1 : ∃ (x : HPort) (p id status epoch : Nat) (r0 r1 : Word) (o : Op) (os : List Op) (s : State), ((s.ring x p).ops = o :: os) ∧ (o.id = id) ∧ (os.all (fun q => q.st != .done && q.id != id) = true) ∧ (s.dmaOk x ((s.ring x p).cplB + 16 * (s.ring x p).cplPi) 16 = true) :=
  ⟨.hp0, 0, 0, 0, 0, 0, 0, fetched ⟨0,0,0,0,0,0,0,0⟩, [], withOp ready ⟨0,0,0,0,0,0,0,0⟩, by decide⟩

theorem witness_PointReadsAndWrites_1 : ∃ (x : HPort) (p : Part) (d : Desc) (o : Op) (s : State), (s.mayStart x p d o = true) ∧ (d.opcode = 0x01) ∧ (d.clean 0x1FFFF 0 0 0 0 0 = true) ∧ ((s.started x p o).filterRead p ((s.started x p o).ptTag (fieldOf d.w2 15 0)) Cls.point (fieldOf d.w2 15 0) = St.success) :=
  ⟨.hp0, 0, (⟨1,0,5,0,0,0,0,0⟩), fetched (⟨1,0,5,0,0,0,0,0⟩), withOp ({ ready with ptx := { ready.ptx with table := [(5, ⟨0x80000000,0,0,0⟩)] } }) (⟨1,0,5,0,0,0,0,0⟩), by decide⟩

theorem witness_PointReadsAndWrites_2 : ∃ (x : HPort) (p : Part) (d : Desc) (o : Op) (s : State), (s.mayStart x p d o = true) ∧ (d.opcode = 0x02) ∧ (d.clean 0xFFFF 0xFFFFFFFF 0 0 0 0 = true) ∧ ((s.started x p o).filterWrite p ((s.started x p o).ptTag (fieldOf d.w2 15 0)) Cls.point (fieldOf d.w2 15 0) = St.success) ∧ ((s.started x p o).active = true) ∧ (((s.started x p o).pt (fieldOf d.w2 15 0)).wsrc = 4) :=
  ⟨.hp0, 0, (⟨2,0,5,1,0,0,0,0⟩), fetched (⟨2,0,5,1,0,0,0,0⟩), withOp ({ ready with ptx := { ready.ptx with table := [(5, ⟨0x80040000,0,0,0⟩)] } }) (⟨2,0,5,1,0,0,0,0⟩), by decide⟩

theorem witness_PointReadsAndWrites_3 : ∃ (x : HPort) (p : Part) (d : Desc) (o : Op) (s : State) (bs : List Byte) (t : State), (s.mayStart x p d o = true) ∧ (d.opcode = 0x03) ∧ (fieldOf d.w2 0 0 = 0) ∧ (d.buf 1 0 0 1 4096 = true) ∧ ((s.started x p o).dmaRead x p d.addr (8 * d.len) = (some bs, t)) :=
  by exact ⟨.hp0, 0, (⟨3,0,0,0,0,0,1,0⟩), fetched (⟨3,0,0,0,0,0,1,0⟩), withOp (ready) (⟨3,0,0,0,0,0,1,0⟩), _, _, by decide, by decide, by decide, by decide, rfl⟩

theorem witness_PointReadsAndWrites_4 : ∃ (x : HPort) (p : Part) (d : Desc) (o : Op) (s : State) (bs : List Byte) (t : State), (s.mayStart x p d o = true) ∧ (d.opcode = 0x03) ∧ (fieldOf d.w2 0 0 = 1) ∧ (d.buf 1 0 0 1 4096 = true) ∧ ((s.started x p o).active = true) ∧ ((s.started x p o).dmaRead x p d.addr (8 * d.len) = (some bs, t)) :=
  by exact ⟨.hp0, 0, (⟨3,0,1,0,0,0,1,0⟩), fetched (⟨3,0,1,0,0,0,1,0⟩), withOp (ready) (⟨3,0,1,0,0,0,1,0⟩), _, _, by decide, by decide, by decide, by decide, by decide, rfl⟩

theorem witness_PointReadsAndWrites_5 : ∃ (x : HPort) (p : Part) (d : Desc) (o : Op) (s : State), (s.mayStart x p d o = true) ∧ (d.opcode = 0x04) ∧ (fieldOf d.w2 31 31 = 0) ∧ (d.clean 0x8000FFFF 0 0 0 0 0 = true) ∧ ((s.started x p o).filterRead p ((s.started x p o).ptTag (fieldOf d.w2 15 0)) Cls.point (fieldOf d.w2 15 0) = St.success) ∧ ((s.started x p o).active = true) ∧ ((s.started x p o).ptx.subs.any (fun b => b.isFor x p (fieldOf d.w2 15 0)) = false) ∧ ((s.started x p o).subUse p < (s.started x p o).rf (F.PTX_QUOTA_SQ p)) :=
  ⟨.hp0, 0, (⟨4,0,5,0,0,0,0,0⟩), fetched (⟨4,0,5,0,0,0,0,0⟩), withOp ({ ready with ptx := { ready.ptx with table := [(5, ⟨0x80000000,0,0,0⟩)] } }) (⟨4,0,5,0,0,0,0,0⟩), by decide⟩

theorem witness_PointReadsAndWrites_6 : ∃ (x : HPort) (p : Part) (d : Desc) (o : Op) (s : State), (s.mayStart x p d o = true) ∧ (d.opcode = 0x04) ∧ (fieldOf d.w2 31 31 = 0) ∧ (d.clean 0x8000FFFF 0 0 0 0 0 = true) ∧ ((s.started x p o).filterRead p ((s.started x p o).ptTag (fieldOf d.w2 15 0)) Cls.point (fieldOf d.w2 15 0) = St.success) ∧ ((s.started x p o).active = true) ∧ ((s.started x p o).ptx.subs.any (fun b => b.isFor x p (fieldOf d.w2 15 0)) = true) :=
  by exact ⟨.hp0, 0, (⟨4,0,5,0,0,0,0,0⟩), fetched (⟨4,0,5,0,0,0,0,0⟩), withOp ({ ready with ptx := { ready.ptx with table := [(5, ⟨0x80000000,0,0,0⟩)], subs := [⟨.hp0, 0, 5, 0, 0⟩] } }) (⟨4,0,5,0,0,0,0,0⟩), by decide, by decide, by decide, by decide, by decide, by decide, by decide⟩

theorem witness_PointReadsAndWrites_7 : ∃ (x : HPort) (p : Part) (d : Desc) (o : Op) (s : State), (s.mayStart x p d o = true) ∧ (d.opcode = 0x04) ∧ (fieldOf d.w2 31 31 = 1) ∧ (d.clean 0x8000FFFF 0 0 0 0 0 = true) ∧ ((s.started x p o).filterRead p ((s.started x p o).ptTag (fieldOf d.w2 15 0)) Cls.point (fieldOf d.w2 15 0) = St.success) ∧ ((s.started x p o).active = true) :=
  ⟨.hp0, 0, (⟨4,0,0x80000005,0,0,0,0,0⟩), fetched (⟨4,0,0x80000005,0,0,0,0,0⟩), withOp ({ ready with ptx := { ready.ptx with table := [(5, ⟨0x80000000,0,0,0⟩)] } }) (⟨4,0,0x80000005,0,0,0,0,0⟩), by decide⟩

theorem witness_ForcesAndSnapshots_1 : ∃ (x : HPort) (p : Part) (d : Desc) (o : Op) (s : State), (s.mayStart x p d o = true) ∧ (d.opcode = 0x05) ∧ (s.inWindow = false) ∧ (d.clean 0xFFFF 0xFFFFFFFF 0 0 0 0 = true) ∧ ((s.started x p o).filterWrite p ((s.started x p o).ptTag (fieldOf d.w2 15 0)) Cls.point (fieldOf d.w2 15 0) = St.success) ∧ ((s.started x p o).active = true) ∧ (((s.started x p o).pt (fieldOf d.w2 15 0)).dir ≠ 0) ∧ ((s.started x p o).force (fieldOf d.w2 15 0) = none) ∧ ((s.started x p o).forceUse p < (s.started x p o).rf (F.PTX_QUOTA_FQ p)) ∧ ((s.started x p o).forceList.length < 4096) :=
  ⟨.hp0, 0, (⟨5,0,5,1,0,0,0,0⟩), fetched (⟨5,0,5,1,0,0,0,0⟩), withOp ({ ready with ptx := { ready.ptx with table := [(5, ⟨0x80400000,0,0,0⟩)] } }) (⟨5,0,5,1,0,0,0,0⟩), by decide⟩

theorem witness_ForcesAndSnapshots_2 : ∃ (x : HPort) (p : Part) (d : Desc) (o : Op) (s : State) (f : Force), (s.mayStart x p d o = true) ∧ (d.opcode = 0x06) ∧ (s.inWindow = false) ∧ (d.clean 0x8000FFFF 0 0 0 0 0 = true) ∧ (fieldOf d.w2 31 31 = 0) ∧ ((s.started x p o).filterWrite p ((s.started x p o).ptTag (fieldOf d.w2 15 0)) Cls.point (fieldOf d.w2 15 0) = St.success) ∧ ((s.started x p o).active = true) ∧ ((s.started x p o).force (fieldOf d.w2 15 0) = some f) ∧ (p.val = 0 ∨ f.owner = p.val) :=
  ⟨.hp0, 0, (⟨6,0,5,0,0,0,0,0⟩), fetched (⟨6,0,5,0,0,0,0,0⟩), withOp ({ ready with ptx := { ready.ptx with table := [(5, ⟨0x80400000,0,0,0⟩)], forces := [(5, some ⟨3,7,false⟩)] } }) (⟨6,0,5,0,0,0,0,0⟩), ⟨3,7,false⟩, by decide⟩

theorem witness_ForcesAndSnapshots_3 : ∃ (x : HPort) (p : Part) (d : Desc) (o : Op) (s : State), (s.mayStart x p d o = true) ∧ (d.opcode = 0x06) ∧ (s.inWindow = false) ∧ (d.clean 0x8000FFFF 0 0 0 0 0 = true) ∧ (fieldOf d.w2 31 31 = 0) ∧ ((s.started x p o).filterWrite p ((s.started x p o).ptTag (fieldOf d.w2 15 0)) Cls.point (fieldOf d.w2 15 0) = St.success) ∧ ((s.started x p o).active = true) ∧ ((s.started x p o).force (fieldOf d.w2 15 0) = none) :=
  by exact ⟨.hp0, 0, (⟨6,0,5,0,0,0,0,0⟩), fetched (⟨6,0,5,0,0,0,0,0⟩), withOp ({ ready with ptx := { ready.ptx with table := [(5, ⟨0x80400000,0,0,0⟩)] } }) (⟨6,0,5,0,0,0,0,0⟩), by decide, by decide, by decide, by decide, by decide, by decide, by decide, by decide⟩

theorem witness_ForcesAndSnapshots_4 : ∃ (x : HPort) (p : Part) (d : Desc) (o : Op) (s : State), (s.mayStart x p d o = true) ∧ (d.opcode = 0x06) ∧ (s.inWindow = false) ∧ (d.clean 0x8000FFFF 0 0 0 0 0 = true) ∧ (fieldOf d.w2 31 31 = 1) ∧ ((s.started x p o).active = true) :=
  ⟨.hp0, 0, (⟨6,0,0x80000000,0,0,0,0,0⟩), fetched (⟨6,0,0x80000000,0,0,0,0,0⟩), withOp (ready) (⟨6,0,0x80000000,0,0,0,0,0⟩), by decide⟩

theorem witness_ForcesAndSnapshots_5 : ∃ (x : HPort) (p : Part) (d : Desc) (o : Op) (s : State) (t : State), (s.mayStart x p d o = true) ∧ (d.opcode = 0x07) ∧ (d.buf 0 0 0 1 4096 = true) ∧ ((s.started x p o).dmaWrite x p d.addr (wordsBytes ((((s.started x p o).forceList.filter (fun e => (s.started x p o).canRead p e.1)).take d.len).flatMap (fun e => [wd (e.1 + e.2.owner * 2 ^ 16), e.2.value]))) = (true, t)) :=
  by exact ⟨.hp0, 0, (⟨7,0,0,0,0,0,1,0⟩), fetched (⟨7,0,0,0,0,0,1,0⟩), withOp (ready) (⟨7,0,0,0,0,0,1,0⟩), _, by decide, by decide, by decide, rfl⟩

theorem witness_ForcesAndSnapshots_6 : ∃ (x : HPort) (p : Part) (d : Desc) (o : Op) (s : State), (s.mayStart x p d o = true) ∧ (d.opcode = 0x08) ∧ (d.clean 0xFFFF 0x1FFFF 0xFFFFFFFF 0xFFFFFFFF 0 0 = true) ∧ (d.addr % 8 = 0) ∧ (1 ≤ fieldOf d.w3 16 0) ∧ (fieldOf d.w2 15 0 + fieldOf d.w3 16 0 ≤ 65536) :=
  ⟨.hp0, 0, (⟨8,0,5,1,0,0,0,0⟩), fetched (⟨8,0,5,1,0,0,0,0⟩), withOp (ready) (⟨8,0,5,1,0,0,0,0⟩), by decide⟩

theorem witness_QueueAndDataCommands_1 : ∃ (x : HPort) (p : Part) (d : Desc) (o : Op) (s : State), (s.mayStart x p d o = true) ∧ (d.opcode = 0x10) ∧ (d.clean 0x3FF 0 0 0 0 0 = true) ∧ ((s.started x p o).filterWrite p (some ((s.started x p o).queueTag (fieldOf d.w2 9 0))) Cls.queue (fieldOf d.w2 9 0) = St.success) ∧ (s.flushRuns (fieldOf d.w2 9 0) = false) ∧ (s.queue (fieldOf d.w2 9 0) = []) :=
  ⟨.hp0, 0, (⟨0x10,0,300,0,0,0,0,0⟩), fetched (⟨0x10,0,300,0,0,0,0,0⟩), withOp (ready) (⟨0x10,0,300,0,0,0,0,0⟩), by decide⟩

theorem witness_QueueAndDataCommands_2 : ∃ (x : HPort) (p : Part) (d : Desc) (o : Op) (s : State), (s.mayStart x p d o = true) ∧ (d.opcode = 0x10) ∧ (d.clean 0x3FF 0 0 0 0 0 = true) ∧ ((s.started x p o).filterWrite p (some ((s.started x p o).queueTag (fieldOf d.w2 9 0))) Cls.queue (fieldOf d.w2 9 0) = St.success) ∧ (s.flushRuns (fieldOf d.w2 9 0) = true ∨ s.queue (fieldOf d.w2 9 0) ≠ []) :=
  ⟨.hp0, 0, (⟨0x10,0,300,0,0,0,0,0⟩), fetched (⟨0x10,0,300,0,0,0,0,0⟩), withOp (ready.setQueue 300 [mkPkt [1] 0 0 0]) (⟨0x10,0,300,0,0,0,0,0⟩), by decide⟩

theorem witness_QueueAndDataCommands_3 : ∃ (x : HPort) (p : Part) (d : Desc) (o : Op) (s : State), (s.mayStart x p d o = true) ∧ (d.opcode = 0x11) ∧ (d.clean 0x800003FF 0 0 0 0 0 = true) ∧ (fieldOf d.w2 31 31 = 0) ∧ ((s.started x p o).filterRead p (some ((s.started x p o).queueTag (fieldOf d.w2 9 0))) Cls.queue (fieldOf d.w2 9 0) = St.success) :=
  ⟨.hp0, 0, (⟨0x11,0,300,0,0,0,0,0⟩), fetched (⟨0x11,0,300,0,0,0,0,0⟩), withOp (ready) (⟨0x11,0,300,0,0,0,0,0⟩), by decide⟩

theorem witness_QueueAndDataCommands_4 : ∃ (x : HPort) (p : Part) (d : Desc) (o : Op) (s : State), (s.mayStart x p d o = true) ∧ (d.opcode = 0x11) ∧ (d.clean 0x800003FF 0 0 0 0 0 = true) ∧ (fieldOf d.w2 31 31 = 1) ∧ ((s.started x p o).filterWrite p (some ((s.started x p o).queueTag (fieldOf d.w2 9 0))) Cls.queue (fieldOf d.w2 9 0) = St.success) :=
  ⟨.hp0, 0, (⟨0x11,0,0x8000012C,0,0,0,0,0⟩), fetched (⟨0x11,0,0x8000012C,0,0,0,0,0⟩), withOp (ready) (⟨0x11,0,0x8000012C,0,0,0,0,0⟩), by decide⟩

theorem witness_QueueAndDataCommands_5 : ∃ (x : HPort) (p : Part) (d : Desc) (o : Op) (s : State) (ws : List Word) (bad : Nat) (t : State), (s.mayStart x p d o = true) ∧ (d.opcode = 0x18) ∧ (d.clean 0x1FFFF 0xFFFFFFFF 0xFFFFFFFF 0xFFFFFFFF 0 0 = true) ∧ (d.addr % 8 = 0) ∧ (pickRecords p ((s.started x p o).viewHead p) d.w3.toNat (if fieldOf d.w2 16 16 = 1 then 8 else 0) ((s.started x p o).areaRecords (fieldOf d.w2 16 16 = 1)) (fieldOf d.w2 15 0) = (ws, bad)) ∧ ((if bad = 0 then s.started x p o else ((s.started x p o).addSat F.EVR_BADCRC_CNT bad).raiseEvr 4).dmaWrite x p d.addr (wordsBytes ws) = (true, t)) :=
  by exact ⟨.hp0, 0, (⟨0x18,0,4,0,0,0,0,0⟩), fetched (⟨0x18,0,4,0,0,0,0,0⟩), withOp (ready) (⟨0x18,0,4,0,0,0,0,0⟩), _, _, _, by decide, by decide, by decide, by decide, rfl, rfl⟩

theorem witness_QueueAndDataCommands_6 : ∃ (x : HPort) (p : Part) (d : Desc) (o : Op) (s : State) (t : State), (s.mayStart x p d o = true) ∧ (d.opcode = 0x20) ∧ (d.buf 0x7F 0 0 144 7824 = true) ∧ ((d.len - 144) % 80 = 0) ∧ (s.variant.lacks 14 = false) ∧ ((s.started x p o).filterRead p ((s.started x p o).circuitTag (fieldOf d.w2 6 0)) Cls.circuit (fieldOf d.w2 6 0) = St.success) ∧ ((s.started x p o).dmaWrite x p d.addr ((s.started x p o).meterBytes p (fieldOf d.w2 6 0) ((d.len - 144) / 80)) = (true, t)) :=
  by exact ⟨.hp0, 0, (⟨0x20,0,0,0,0,0,144,0⟩), fetched (⟨0x20,0,0,0,0,0,144,0⟩), withOp ({ ready with mtr := { ready.mtr with circ := [0x80000000] } }) (⟨0x20,0,0,0,0,0,144,0⟩), _, by decide, by decide, by decide, by decide, by decide, by decide, rfl⟩

theorem witness_LogicTasksAndTurns_1 : ∃ (x : HPort) (t : Fin 16) (k : Fin 3) (v : Word) (s : State), (s.mayWrite x 11 = true) ∧ (s.taskState t ≠ 0) :=
  by exact ⟨.hp0, 0, 0, 0, (atWord 0 0), by decide, by decide⟩

theorem witness_LogicTasksAndTurns_2 : ∃ (x : HPort) (t : Fin 16) (k : Fin 3) (v : Word) (s : State), (s.mayWrite x 11 = true) ∧ (s.taskState t = 0) :=
  by exact ⟨.hp0, 0, 0, 0, ready, by decide, by decide⟩

theorem witness_LogicTasksAndTurns_5 : ∃ (t : Nat) (s : State), (s.lge.turn = some t) ∧ (s.lge.window = true) ∧ (s.rf (F.LGE_TBUD_BUDGET t) ≤ (s.task t).spent) ∧ ((s.task t).stops = []) :=
  ⟨0, (atWord 0 0).setReg (Reg.LGE_TBUD 0) 0, by decide⟩

theorem witness_LogicTasksAndTurns_6 : ∃ (t : Nat) (e : HPort × Machine.Part × Nat) (es : List (HPort × Machine.Part × Nat)) (s : State), (s.lge.turn = some t) ∧ (s.lge.window = true) ∧ (s.rf (F.LGE_TBUD_BUDGET t) ≤ (s.task t).spent) ∧ ((s.task t).stops = e :: es) :=
  by exact ⟨0, (.hp0, 0, 0), [], { (atWord 0 0).setReg (Reg.LGE_TBUD 0) 0 with lge := { (atWord 0 0).lge with tasks := [(0, { LgeTask.dflt 0 with busy := true, stops := [(.hp0, 0, 0)] })] } }, by decide, by decide, by decide, by decide⟩

theorem witness_LogicTasksAndTurns_7 : ∃ (t : Nat) (s : State), (s.lge.turn = none ∨ (s.lge.turn = some t ∧ (s.lge.window = false ∨ (s.task t).spent < s.rf (F.LGE_TBUD_BUDGET t)))) :=
  by exact ⟨0, State.reset, by decide⟩

theorem witness_LogicTasksAndTurns_8 : ∃ (x : HPort) (p : Part) (d : Desc) (o : Op) (s : State) (bs : List Byte) (t : State), (s.mayStart x p d o = true) ∧ (d.opcode = 0x28) ∧ (d.buf 0xF 0xFFFFFFFF 0 1 (2 ^ 32) = true) ∧ ((s.started x p o).filterWrite p ((s.started x p o).taskTag (fieldOf d.w2 3 0)) Cls.task (fieldOf d.w2 3 0) = St.success) ∧ ((s.started x p o).on (F.LGE_TSTAT_FILL (fieldOf d.w2 3 0)) = false) ∧ ((s.started x p o).taskState (fieldOf d.w2 3 0) = 0) ∧ (d.w3.toNat + d.len ≤ (s.started x p o).regionLen (fieldOf d.w2 3 0)) ∧ ((s.started x p o).dmaRead x p d.addr (4 * d.len) = (some bs, t)) :=
  by exact ⟨.hp0, 0, (⟨0x28,0,0,0,0,0,1,0⟩), fetched (⟨0x28,0,0,0,0,0,1,0⟩), withOp (ready.setReg (Reg.LGE_TCFG 0) 0x80001000) (⟨0x28,0,0,0,0,0,1,0⟩), _, _, by decide, by decide, by decide, by decide, by decide, by decide, by decide, rfl⟩

theorem witness_LogicTasksAndTurns_9 : ∃ (x : HPort) (p : Part) (d : Desc) (o : Op) (s : State), (s.mayStart x p d o = true) ∧ (d.opcode = 0x29) ∧ (fieldOf d.w3 2 0 = 1) ∧ (d.clean 0xF 7 0 0 0 0xFFFFFFFF = true) ∧ ((s.started x p o).filterWrite p ((s.started x p o).taskTag (fieldOf d.w2 3 0)) Cls.task (fieldOf d.w2 3 0) = St.success) ∧ ((s.started x p o).on (F.LGE_TSTAT_FILL (fieldOf d.w2 3 0)) = false) ∧ ((s.started x p o).taskState (fieldOf d.w2 3 0) = 0) ∧ (crc32Words ((s.started x p o).region (fieldOf d.w2 3 0)) = d.w7) ∧ (leastFault (lgeFaults (s.started x p o).nextPt (fieldOf d.w2 3 0) ((s.started x p o).taskEvTag (fieldOf d.w2 3 0)) ((s.started x p o).region (fieldOf d.w2 3 0))) = none) :=
  by exact ⟨.hp0, 0, (⟨0x29,0,0,1,0,0,0,0⟩), fetched (⟨0x29,0,0,1,0,0,0,0⟩), withOp (ready.setReg (Reg.LGE_TCFG 0) 0x80000000) (⟨0x29,0,0,1,0,0,0,0⟩), by decide⟩

theorem witness_LogicTasksAndTurns_10 : ∃ (x : HPort) (p : Part) (d : Desc) (o : Op) (s : State), (s.mayStart x p d o = true) ∧ (d.opcode = 0x29) ∧ (fieldOf d.w3 2 0 = 2) ∧ (d.clean 0xF 7 0 0 0 0 = true) ∧ ((s.started x p o).filterWrite p ((s.started x p o).taskTag (fieldOf d.w2 3 0)) Cls.task (fieldOf d.w2 3 0) = St.success) ∧ ((s.started x p o).on (F.LGE_TSTAT_FILL (fieldOf d.w2 3 0)) = false) ∧ ((s.started x p o).active = true) ∧ ((s.started x p o).taskState (fieldOf d.w2 3 0) = 0) ∧ ((s.started x p o).on (F.LGE_TSTAT_VERIFIED (fieldOf d.w2 3 0)) = true) ∧ (8 ≤ (s.started x p o).rf (F.LGE_TBUD_BUDGET (fieldOf d.w2 3 0))) :=
  ⟨.hp0, 0, (⟨0x29,0,0,2,0,0,0,0⟩), fetched (⟨0x29,0,0,2,0,0,0,0⟩), withOp (((ready.setReg (Reg.LGE_TCFG 0) 0x80001000).setReg (Reg.LGE_TBUD 0) 100).setF (F.LGE_TSTAT_VERIFIED 0) 1) (⟨0x29,0,0,2,0,0,0,0⟩), by decide⟩

theorem witness_LogicTasksAndTurns_11 : ∃ (x : HPort) (p : Part) (d : Desc) (o : Op) (s : State), (s.mayStart x p d o = true) ∧ (d.opcode = 0x29) ∧ (fieldOf d.w3 2 0 = 3) ∧ (d.clean 0xF 7 0 0 0 0 = true) ∧ ((s.started x p o).filterWrite p ((s.started x p o).taskTag (fieldOf d.w2 3 0)) Cls.task (fieldOf d.w2 3 0) = St.success) ∧ ((s.started x p o).on (F.LGE_TSTAT_FILL (fieldOf d.w2 3 0)) = false) ∧ ((s.started x p o).active = true) ∧ ((s.started x p o).taskState (fieldOf d.w2 3 0) ≠ 0) ∧ ((s.started x p o).taskState (fieldOf d.w2 3 0) ≠ 1 ∨ ((s.started x p o).task (fieldOf d.w2 3 0)).busy = false ∨ s.lge.turn ≠ some (fieldOf d.w2 3 0)) :=
  ⟨.hp0, 0, (⟨0x29,0,0,3,0,0,0,0⟩), fetched (⟨0x29,0,0,3,0,0,0,0⟩), withOp ((ready.setReg (Reg.LGE_TCFG 0) 0x80001000).setReg (Reg.LGE_TSTAT 0) 0x40000000) (⟨0x29,0,0,3,0,0,0,0⟩), by decide⟩

theorem witness_LogicTasksAndTurns_12 : ∃ (x : HPort) (p : Part) (d : Desc) (o : Op) (s : State), (s.mayStart x p d o = true) ∧ (d.opcode = 0x29) ∧ (fieldOf d.w3 2 0 = 3) ∧ (d.clean 0xF 7 0 0 0 0 = true) ∧ ((s.started x p o).filterWrite p ((s.started x p o).taskTag (fieldOf d.w2 3 0)) Cls.task (fieldOf d.w2 3 0) = St.success) ∧ ((s.started x p o).on (F.LGE_TSTAT_FILL (fieldOf d.w2 3 0)) = false) ∧ ((s.started x p o).active = true) ∧ ((s.started x p o).taskState (fieldOf d.w2 3 0) = 1) ∧ (((s.started x p o).task (fieldOf d.w2 3 0)).busy = true) ∧ (s.lge.turn = some (fieldOf d.w2 3 0)) :=
  by exact ⟨.hp0, 0, (⟨0x29,0,0,3,0,0,0,0⟩), fetched (⟨0x29,0,0,3,0,0,0,0⟩), withOp ({ ((ready.setReg (Reg.LGE_TCFG 0) 0x80001000).setReg (Reg.LGE_TSTAT 0) 0x40000000) with lge := { (atWord 0 0).lge with tasks := [(0, { LgeTask.dflt 0 with busy := true })] } }) (⟨0x29,0,0,3,0,0,0,0⟩), by decide, by decide, by decide, by decide, by decide, by decide, by decide, by decide, by decide, by decide⟩

theorem witness_LogicTasksAndTurns_13 : ∃ (x : HPort) (p : Part) (d : Desc) (o : Op) (s : State), (s.mayStart x p d o = true) ∧ (d.opcode = 0x29) ∧ (fieldOf d.w3 2 0 = 3) ∧ (d.clean 0xF 7 0 0 0 0 = true) ∧ ((s.started x p o).filterWrite p ((s.started x p o).taskTag (fieldOf d.w2 3 0)) Cls.task (fieldOf d.w2 3 0) = St.success) ∧ ((s.started x p o).on (F.LGE_TSTAT_FILL (fieldOf d.w2 3 0)) = false) ∧ ((s.started x p o).active = true) ∧ ((s.started x p o).taskState (fieldOf d.w2 3 0) = 0) :=
  by exact ⟨.hp0, 0, (⟨0x29,0,0,3,0,0,0,0⟩), fetched (⟨0x29,0,0,3,0,0,0,0⟩), withOp (ready.setReg (Reg.LGE_TCFG 0) 0x80001000) (⟨0x29,0,0,3,0,0,0,0⟩), by decide, by decide, by decide, by decide, by decide, by decide, by decide, by decide⟩

theorem witness_LogicTasksAndTurns_14 : ∃ (x : HPort) (p : Part) (d : Desc) (o : Op) (s : State), (s.mayStart x p d o = true) ∧ (d.opcode = 0x29) ∧ (fieldOf d.w3 2 0 = 2) ∧ (d.clean 0xF 7 0 0 0 0 = true) ∧ ((s.started x p o).filterWrite p ((s.started x p o).taskTag (fieldOf d.w2 3 0)) Cls.task (fieldOf d.w2 3 0) = St.success) ∧ ((s.started x p o).on (F.LGE_TSTAT_FILL (fieldOf d.w2 3 0)) = false) ∧ ((s.started x p o).active = true) ∧ ((s.started x p o).taskState (fieldOf d.w2 3 0) = 1) :=
  by exact ⟨.hp0, 0, (⟨0x29,0,0,2,0,0,0,0⟩), fetched (⟨0x29,0,0,2,0,0,0,0⟩), withOp (((ready.setReg (Reg.LGE_TCFG 0) 0x80001000).setReg (Reg.LGE_TSTAT 0) 0x40000000)) (⟨0x29,0,0,2,0,0,0,0⟩), by decide, by decide, by decide, by decide, by decide, by decide, by decide, by decide⟩

theorem witness_LogicTasksAndTurns_15 : ∃ (x : HPort) (p : Part) (d : Desc) (o : Op) (s : State), (s.mayStart x p d o = true) ∧ (d.opcode = 0x29) ∧ (fieldOf d.w3 2 0 = 4) ∧ (d.clean 0xF 7 0 0 0 0 = true) ∧ ((s.started x p o).filterWrite p ((s.started x p o).taskTag (fieldOf d.w2 3 0)) Cls.task (fieldOf d.w2 3 0) = St.success) ∧ ((s.started x p o).on (F.LGE_TSTAT_FILL (fieldOf d.w2 3 0)) = false) :=
  ⟨.hp0, 0, (⟨0x29,0,0,4,0,0,0,0⟩), fetched (⟨0x29,0,0,4,0,0,0,0⟩), withOp (ready.setReg (Reg.LGE_TCFG 0) 0x80001000) (⟨0x29,0,0,4,0,0,0,0⟩), by decide⟩

theorem witness_LogicTasksAndTurns_16 : ∃ (x : HPort) (p : Part) (d : Desc) (o : Op) (s : State) (t : State), (s.mayStart x p d o = true) ∧ (d.opcode = 0x29) ∧ (fieldOf d.w3 2 0 = 5) ∧ (d.buf 0xF 7 0 4624 4624 = true) ∧ ((s.task (fieldOf d.w2 3 0)).busy = false) ∧ ((s.started x p o).filterWrite p ((s.started x p o).taskTag (fieldOf d.w2 3 0)) Cls.task (fieldOf d.w2 3 0) = St.success) ∧ ((s.started x p o).on (F.LGE_TSTAT_FILL (fieldOf d.w2 3 0)) = false) ∧ ((s.started x p o).dmaWrite x p d.addr ((s.started x p o).taskDump (fieldOf d.w2 3 0)) = (true, t)) :=
  by exact ⟨.hp0, 0, (⟨0x29,0,0,5,0,0,4624,0⟩), fetched (⟨0x29,0,0,5,0,0,4624,0⟩), withOp (ready.setReg (Reg.LGE_TCFG 0) 0x80001000) (⟨0x29,0,0,5,0,0,4624,0⟩), _, by decide, by decide, by decide, by decide, by decide, by decide, by decide, rfl⟩

theorem witness_LoopSlotCommands_1 : ∃ (x : HPort) (p : Part) (d : Desc) (o : Op) (s : State) (bs : List Byte) (t : State), (s.mayStart x p d o = true) ∧ (d.opcode = 0x2C) ∧ (d.clean 0xFF 0x1FF 0xFFFFFFFF 0xFFFFFFFF 0 0 = true) ∧ (d.addr % 8 = 0) ∧ (1 ≤ fieldOf d.w3 8 0) ∧ (fieldOf d.w3 8 0 ≤ 256) ∧ (fieldOf d.w2 7 0 + fieldOf d.w3 8 0 ≤ 256) ∧ ((s.started x p o).slotRefused p (fieldOf d.w2 7 0) (fieldOf d.w3 8 0) = none) ∧ ((s.started x p o).dmaRead x p d.addr (80 * fieldOf d.w3 8 0) = (some bs, t)) ∧ (t.firstBad (fun j => if fieldOf d.w2 7 0 ≤ j && j < fieldOf d.w2 7 0 + fieldOf d.w3 8 0 then (entriesOf (fieldOf d.w3 8 0) (wordsOf bs)).getD (j - fieldOf d.w2 7 0) [] else if t.on (F.CLE_SSTAT_LOADED j) then (t.slot j).newest else []) (fieldOf d.w2 7 0) (entriesOf (fieldOf d.w3 8 0) (wordsOf bs)) = none) :=
  by exact ⟨.hp0, 0, (⟨0x2C,0,3,1,0,0,0,0⟩), fetched (⟨0x2C,0,3,1,0,0,0,0⟩), withOp (withMem (ready.setF (F.CLE_SCFG_EN 3) 1) [(2,0x30),(4,1),(50,0x80),(51,0x3F)]) (⟨0x2C,0,3,1,0,0,0,0⟩), _, _, by decide, by decide, by decide, by decide, by decide, by decide, by decide, by decide, rfl, by decide +kernel⟩

theorem witness_LoopSlotCommands_2 : ∃ (x : HPort) (p : Part) (d : Desc) (o : Op) (s : State), (s.mayStart x p d o = true) ∧ (d.opcode = 0x2D) ∧ (fieldOf d.w3 3 0 = 1) ∧ (d.clean 0xFF 0xF 0 0 0 0 = true) ∧ ((s.started x p o).filterWrite p ((s.started x p o).slotTag (fieldOf d.w2 7 0)) Cls.loop (fieldOf d.w2 7 0) = St.success) ∧ ((s.started x p o).active = true) ∧ ((s.started x p o).slotState (fieldOf d.w2 7 0) = 1) :=
  by exact ⟨.hp0, 0, (⟨0x2D,0,3,1,0,0,0,0⟩), fetched (⟨0x2D,0,3,1,0,0,0,0⟩), withOp (((ready.setF (F.CLE_SCFG_EN 3) 1).setF (F.CLE_SSTAT_STATE 3) 1)) (⟨0x2D,0,3,1,0,0,0,0⟩), by decide, by decide, by decide, by decide, by decide, by decide, by decide⟩

theorem witness_LoopSlotCommands_3 : ∃ (x : HPort) (p : Part) (d : Desc) (o : Op) (s : State), (s.mayStart x p d o = true) ∧ (d.opcode = 0x2D) ∧ (fieldOf d.w3 3 0 = 1) ∧ (d.clean 0xFF 0xF 0 0 0 0 = true) ∧ ((s.started x p o).filterWrite p ((s.started x p o).slotTag (fieldOf d.w2 7 0)) Cls.loop (fieldOf d.w2 7 0) = St.success) ∧ ((s.started x p o).active = true) ∧ ((s.started x p o).slotState (fieldOf d.w2 7 0) = 0) ∧ ((s.started x p o).on (F.CLE_SSTAT_LOADED (fieldOf d.w2 7 0)) = true) :=
  ⟨.hp0, 0, (⟨0x2D,0,3,1,0,0,0,0⟩), fetched (⟨0x2D,0,3,1,0,0,0,0⟩), withOp ((ready.setF (F.CLE_SCFG_EN 3) 1).setF (F.CLE_SSTAT_LOADED 3) 1) (⟨0x2D,0,3,1,0,0,0,0⟩), by decide⟩

theorem witness_LoopSlotCommands_4 : ∃ (x : HPort) (p : Part) (d : Desc) (o : Op) (s : State), (s.mayStart x p d o = true) ∧ (d.opcode = 0x2D) ∧ (fieldOf d.w3 3 0 = 2) ∧ (d.clean 0xFF 0xF 0 0 0 0 = true) ∧ ((s.started x p o).filterWrite p ((s.started x p o).slotTag (fieldOf d.w2 7 0)) Cls.loop (fieldOf d.w2 7 0) = St.success) ∧ ((s.started x p o).active = true) ∧ ((s.started x p o).slotState (fieldOf d.w2 7 0) = 0) :=
  by exact ⟨.hp0, 0, (⟨0x2D,0,3,2,0,0,0,0⟩), fetched (⟨0x2D,0,3,2,0,0,0,0⟩), withOp ((ready.setF (F.CLE_SCFG_EN 3) 1)) (⟨0x2D,0,3,2,0,0,0,0⟩), by decide, by decide, by decide, by decide, by decide, by decide, by decide⟩

theorem witness_LoopSlotCommands_5 : ∃ (x : HPort) (p : Part) (d : Desc) (o : Op) (s : State), (s.mayStart x p d o = true) ∧ (d.opcode = 0x2D) ∧ (fieldOf d.w3 3 0 = 2) ∧ (d.clean 0xFF 0xF 0 0 0 0 = true) ∧ ((s.started x p o).filterWrite p ((s.started x p o).slotTag (fieldOf d.w2 7 0)) Cls.loop (fieldOf d.w2 7 0) = St.success) ∧ ((s.started x p o).active = true) ∧ (2 ≤ (s.started x p o).slotState (fieldOf d.w2 7 0)) :=
  ⟨.hp0, 0, (⟨0x2D,0,3,2,0,0,0,0⟩), fetched (⟨0x2D,0,3,2,0,0,0,0⟩), withOp ((ready.setF (F.CLE_SCFG_EN 3) 1).setF (F.CLE_SSTAT_STATE 3) 2) (⟨0x2D,0,3,2,0,0,0,0⟩), by decide⟩

theorem witness_LoopSlotCommands_6 : ∃ (x : HPort) (p : Part) (d : Desc) (o : Op) (s : State), (s.mayStart x p d o = true) ∧ (d.opcode = 0x2D) ∧ (fieldOf d.w3 3 0 = 2) ∧ (d.clean 0xFF 0xF 0 0 0 0 = true) ∧ ((s.started x p o).filterWrite p ((s.started x p o).slotTag (fieldOf d.w2 7 0)) Cls.loop (fieldOf d.w2 7 0) = St.success) ∧ ((s.started x p o).active = true) ∧ ((s.started x p o).slotState (fieldOf d.w2 7 0) = 1) :=
  ⟨.hp0, 0, (⟨0x2D,0,3,2,0,0,0,0⟩), fetched (⟨0x2D,0,3,2,0,0,0,0⟩), withOp ((ready.setF (F.CLE_SCFG_EN 3) 1).setF (F.CLE_SSTAT_STATE 3) 1) (⟨0x2D,0,3,2,0,0,0,0⟩), by decide⟩

theorem witness_LoopSlotCommands_7 : ∃ (x : HPort) (p : Part) (d : Desc) (o : Op) (s : State) (bs : List Byte) (t : State), (s.mayStart x p d o = true) ∧ (d.opcode = 0x2D) ∧ (fieldOf d.w3 3 0 = 3) ∧ (d.buf 0xFF 0xF 0 32 32 = true) ∧ ((s.started x p o).filterWrite p ((s.started x p o).slotTag (fieldOf d.w2 7 0)) Cls.loop (fieldOf d.w2 7 0) = St.success) ∧ ((s.started x p o).active = true) ∧ ((s.started x p o).slotState (fieldOf d.w2 7 0) = 1) ∧ (((s.started x p o).slot (fieldOf d.w2 7 0)).inj = none) ∧ ((s.started x p o).dmaRead x p d.addr 32 = (some bs, t)) ∧ (injOk (entT ((s.started x p o).slot (fieldOf d.w2 7 0)).entry) (wordsOf bs) = true) :=
  by exact ⟨.hp0, 0, (⟨0x2D,0,3,3,0,0,32,0⟩), fetched (⟨0x2D,0,3,3,0,0,32,0⟩), withOp (withMem ((ready.setF (F.CLE_SCFG_EN 3) 1).setF (F.CLE_SSTAT_STATE 3) 1) [(3,0x80),(6,0x80),(7,0x3F)]) (⟨0x2D,0,3,3,0,0,32,0⟩), _, _, by decide, by decide, by decide, by decide, by decide, by decide, by decide, by decide, rfl, by decide +kernel⟩

theorem witness_LoopSlotCommands_8 : ∃ (x : HPort) (p : Part) (d : Desc) (o : Op) (s : State), (s.mayStart x p d o = true) ∧ (d.opcode = 0x2D) ∧ (fieldOf d.w3 3 0 = 4) ∧ (d.clean 0xFF 0xF 0 0 0 0 = true) ∧ ((s.started x p o).filterWrite p ((s.started x p o).slotTag (fieldOf d.w2 7 0)) Cls.loop (fieldOf d.w2 7 0) = St.success) ∧ ((s.started x p o).active = true) ∧ (((s.started x p o).slot (fieldOf d.w2 7 0)).inj = none) :=
  by exact ⟨.hp0, 0, (⟨0x2D,0,3,4,0,0,0,0⟩), fetched (⟨0x2D,0,3,4,0,0,0,0⟩), withOp ((ready.setF (F.CLE_SCFG_EN 3) 1)) (⟨0x2D,0,3,4,0,0,0,0⟩), by decide, by decide, by decide, by decide, by decide, by decide, by decide⟩

theorem witness_LoopSlotCommands_9 : ∃ (x : HPort) (p : Part) (d : Desc) (o : Op) (s : State) (j : Inj), (s.mayStart x p d o = true) ∧ (d.opcode = 0x2D) ∧ (fieldOf d.w3 3 0 = 4) ∧ (d.clean 0xFF 0xF 0 0 0 0 = true) ∧ ((s.started x p o).filterWrite p ((s.started x p o).slotTag (fieldOf d.w2 7 0)) Cls.loop (fieldOf d.w2 7 0) = St.success) ∧ ((s.started x p o).active = true) ∧ (((s.started x p o).slot (fieldOf d.w2 7 0)).inj = some j) :=
  ⟨.hp0, 0, (⟨0x2D,0,3,4,0,0,0,0⟩), fetched (⟨0x2D,0,3,4,0,0,0,0⟩), withOp ((ready.setF (F.CLE_SCFG_EN 3) 1).setSlot 3 { LoopSlot.dflt 3 with inj := some ⟨[], 0, 5, 1, 0, 0, false⟩ }) (⟨0x2D,0,3,4,0,0,0,0⟩), ⟨[], 0, 5, 1, 0, 0, false⟩, by decide⟩

theorem witness_LoopSlotCommands_10 : ∃ (x : HPort) (p : Part) (d : Desc) (o : Op) (s : State) (bs : List Byte) (t : State), (s.mayStart x p d o = true) ∧ (d.opcode = 0x2D) ∧ (fieldOf d.w3 3 0 = 5) ∧ (d.buf 0xFF 0xF 0 16 16 = true) ∧ ((s.started x p o).filterWrite p ((s.started x p o).slotTag (fieldOf d.w2 7 0)) Cls.loop (fieldOf d.w2 7 0) = St.success) ∧ ((s.started x p o).active = true) ∧ ((s.started x p o).slotState (fieldOf d.w2 7 0) = 1) ∧ ((∀ c, (s.started x p o).capOf ((s.started x p o).slotEvTag (fieldOf d.w2 7 0)) = some c → c.running = false)) ∧ ((s.started x p o).dmaRead x p d.addr 16 = (some bs, t)) ∧ (capOk (wordsOf bs) = true) ∧ (entF (wordsOf bs) 2 14 0 ≤ 1024 * ((s.started x p o).segsOf ((s.started x p o).slotEvTag (fieldOf d.w2 7 0))).length) :=
  by exact ⟨.hp0, 0, (⟨0x2D,0,3,5,0,0,16,0⟩), fetched (⟨0x2D,0,3,5,0,0,16,0⟩), withOp (withMem ((ready.setF (F.CLE_SCFG_EN 3) 1).setF (F.CLE_SSTAT_STATE 3) 1) [(4,1),(8,1)]) (⟨0x2D,0,3,5,0,0,16,0⟩), _, _, by decide, by decide, by decide, by decide, by decide, by decide, by decide, by decide, rfl, by decide, by decide⟩

theorem witness_LoopSlotCommands_11 : ∃ (x : HPort) (p : Part) (d : Desc) (o : Op) (s : State) (data : List (List Word)) (t : State), (s.mayStart x p d o = true) ∧ (d.opcode = 0x2D) ∧ (fieldOf d.w3 3 0 = 6) ∧ (d.buf 0xFF 0xF 0 0 0xFFFFFFFF = true) ∧ (d.len % 16 = 0) ∧ ((s.started x p o).filterWrite p ((s.started x p o).slotTag (fieldOf d.w2 7 0)) Cls.loop (fieldOf d.w2 7 0) = St.success) ∧ ((match (s.started x p o).capOf ((s.started x p o).slotEvTag (fieldOf d.w2 7 0)) with | some c => c.data | none => []) = data) ∧ ((s.started x p o).dmaWrite x p d.addr (wordsBytes ((data.take (d.len / 16)).flatMap id)) = (true, t)) :=
  by exact ⟨.hp0, 0, (⟨0x2D,0,3,6,0,0,16,0⟩), fetched (⟨0x2D,0,3,6,0,0,16,0⟩), withOp ((ready.setF (F.CLE_SCFG_EN 3) 1)) (⟨0x2D,0,3,6,0,0,16,0⟩), _, _, by decide, by decide, by decide, by decide, by decide, by decide, rfl, rfl⟩

theorem witness_LoopRegistersAndSamples_1 : ∃ (x : HPort) (i : Fin 256) (v : Word) (s : State), (s.mayWrite x 12 = true) :=
  by exact ⟨.hp0, 0, 0, ready, by decide⟩

theorem witness_LoopRegistersAndSamples_2 : ∃ (x : HPort) (j : Fin 4) (v : Word) (s : State), (s.mayWrite x 12 = true) :=
  by exact ⟨.hp0, 0, 0, ready, by decide⟩

theorem witness_LoopRegistersAndSamples_3 : ∃ (j : Fin 4) (v : Word) (s : State), (v.toNat &&& 0x7F7F7F7F = v.toNat) ∧ ((s.writeCapSeg j v).reg (Reg.CLE_CAPSEG j) = v ∧ ∀ c ∈ (s.writeCapSeg j v).cle.caps, ∀ g ∈ c.segs, g / 4 = j.val) :=
  ⟨0, 0x01020304, ready, by decide⟩

theorem witness_LoopRegistersAndSamples_4 : ∃ (x : HPort) (s : State), (s.inReset 12 = false) :=
  by exact ⟨.hp0, ready, by decide⟩

theorem witness_LoopRegistersAndSamples_5 : ∃ (x : HPort) (s : State), (s.inReset 12 = true) :=
  by exact ⟨.hp0, State.reset, by decide⟩

theorem witness_LoopRegistersAndSamples_8 : ∃ (i : Fin 256) (v : LoopIn) (s : State), ((s.slot i).taken = some v) ∧ (v.cause = 0) ∧ (entSpSrc (s.slot i).entry ≠ 1) ∧ ((s.slot i).inj = none) :=
  ⟨7, ⟨0, 0, 0, 0⟩, ready.setSlot 7 { LoopSlot.dflt 7 with taken := some ⟨0, 0, 0, 0⟩ }, by decide⟩

theorem witness_ExchangeConfigurationLoads_1 : ∃ (x : HPort) (p : Part) (d : Desc) (o : Op) (s : State) (bs : List Byte) (t : State), (s.mayStart x p d o = true) ∧ (s.mayConfigure x p = true) ∧ (d.opcode = 0x30) ∧ (fieldOf d.w2 7 0 = 0x01) ∧ (d.buf 0xFF 0 0xFFFFFFFF 0 4294967296 = true) ∧ (24 ≤ d.len) ∧ (d.len ≤ 1048584) ∧ (d.len % 16 = 8) ∧ ((s.started x p o).dmaRead x p d.addr d.len = (some bs, t)) ∧ (crc32 bs = d.w7) ∧ (((wordsOf bs).getD 0 0).toNat + ((wordsOf bs).getD 1 0).toNat ≤ 65536) ∧ (((wordsOf bs).getD 0 0).toNat < 65536) ∧ (((wordsOf bs).getD 1 0).toNat < 131072) ∧ (d.len = 8 + 16 * ((wordsOf bs).getD 1 0).toNat) ∧ ((t.offenders ((wordsOf bs).getD 0 0).toNat (pointsOf ((wordsOf bs).drop 2))).min? = none) :=
  by exact ⟨.hp0, 0, cfgDesc 0x01 [5, 1, 0, 0, 0, 0], fetched (cfgDesc 0x01 [5, 1, 0, 0, 0, 0]), withImage (ready) 0x01 [5, 1, 0, 0, 0, 0], _, _, by decide +kernel, by decide +kernel, by decide +kernel, by decide +kernel, by decide +kernel, by decide +kernel, by decide +kernel, by decide +kernel, rfl, by decide +kernel, by decide +kernel, by decide +kernel, by decide +kernel, by decide +kernel, by decide +kernel⟩

theorem witness_ExchangeConfigurationLoads_2 : ∃ (x : HPort) (p : Part) (d : Desc) (o : Op) (s : State) (bs : List Byte) (t : State), (s.mayStart x p d o = true) ∧ (s.mayConfigure x p = true) ∧ (d.opcode = 0x30) ∧ (fieldOf d.w2 7 0 = 0x02) ∧ (d.buf 0xFF 0 0xFFFFFFFF 0 4294967296 = true) ∧ (16 ≤ d.len) ∧ (d.len ≤ 49156) ∧ (d.len % 12 = 4) ∧ ((s.started x p o).dmaRead x p d.addr d.len = (some bs, t)) ∧ (crc32 bs = d.w7) ∧ (fieldOf ((wordsOf bs).getD 0 0) 31 28 = 0) ∧ (2 ≤ fieldOf ((wordsOf bs).getD 0 0) 27 24) ∧ (fieldOf ((wordsOf bs).getD 0 0) 23 16 ≠ 0) ∧ (d.len = 4 + 12 * fieldOf ((wordsOf bs).getD 0 0) 15 0) ∧ (t.firstBadEnt (stnsOf t.lastStations) (t.lastTable.filter (fun e => e.2.valid)) [] 0 (entsOf ((wordsOf bs).drop 1)) = none) ∧ ((List.range 1024).findSome? (fun f => t.residueBad (stnsOf t.lastStations) (fieldOf ((wordsOf bs).getD 0 0) 23 16) f [] 0 (entsOf ((wordsOf bs).drop 1))) = none) :=
  by exact ⟨.hp0, 0, cfgDesc 0x02 [0x02010001, 0, 0, 0], fetched (cfgDesc 0x02 [0x02010001, 0, 0, 0]), withImage (ready) 0x02 [0x02010001, 0, 0, 0], _, _, by decide +kernel, by decide +kernel, by decide +kernel, by decide +kernel, by decide +kernel, by decide +kernel, by decide +kernel, by decide +kernel, rfl, by decide +kernel, by decide +kernel, by decide +kernel, by decide +kernel, by decide +kernel, by decide +kernel, by decide +kernel⟩

theorem witness_ExchangeConfigurationLoads_3 : ∃ (x : HPort) (p : Part) (d : Desc) (o : Op) (s : State) (bs : List Byte) (t : State), (s.mayStart x p d o = true) ∧ (s.mayConfigure x p = true) ∧ (d.opcode = 0x30) ∧ (fieldOf d.w2 7 0 = 0x03) ∧ (d.buf 0xFF 0 0xFFFFFFFF 0 4294967296 = true) ∧ (16 ≤ d.len) ∧ (d.len ≤ 32768) ∧ (d.len % 16 = 0) ∧ ((s.started x p o).dmaRead x p d.addr d.len = (some bs, t)) ∧ (crc32 bs = d.w7) ∧ (t.firstBadStn [] 0 (stnsOf (wordsOf bs)) = none) ∧ ((entsOf (t.lastSchedule.drop 1)).findIdx? (fun e => e.valid && !(stnsOf (wordsOf bs)).any (fun u => u.valid && u.epn = e.epn && u.port = e.port)) = none) :=
  by exact ⟨.hp0, 0, cfgDesc 0x03 [0, 0, 0, 0], fetched (cfgDesc 0x03 [0, 0, 0, 0]), withImage (ready) 0x03 [0, 0, 0, 0], _, _, by decide +kernel, by decide +kernel, by decide +kernel, by decide +kernel, by decide +kernel, by decide +kernel, by decide +kernel, by decide +kernel, rfl, by decide +kernel, by decide +kernel, by decide +kernel⟩

theorem witness_ExchangeConfigurationLoads_4 : ∃ (x : HPort) (p : Part) (d : Desc) (o : Op) (s : State) (bs : List Byte) (t : State), (s.mayStart x p d o = true) ∧ (s.mayConfigure x p = true) ∧ (d.opcode = 0x30) ∧ (fieldOf d.w2 7 0 = 0x09) ∧ (d.buf 0xFF 0 0xFFFFFFFF 0 4294967296 = true) ∧ (d.len = 8192) ∧ ((s.started x p o).dmaRead x p d.addr d.len = (some bs, t)) ∧ (crc32 bs = d.w7) ∧ ((List.range 1024).find? (fun q => queueBad q (queueWords (wordsOf bs) q)) = none) ∧ (sumQueues (fun q => fieldOf (queueWords (wordsOf bs) q).1 15 0) + t.rf F.QPL_RETIRED_CNT ≤ 65536) :=
  by exact ⟨.hp0, 0, cfgDesc 0x09 queueImage, fetched (cfgDesc 0x09 queueImage), loading ready 0x09 queueImage, wordsBytes queueImage, loadedAt ready 0x09 queueImage, (loading_mayStart _ _ _ (by decide) (by decide) (by decide)), (by decide), (by decide), (by decide), (cfgDesc_buf _ _ (by decide)), (by rw [cfgDesc_len _ (by rw [queueImage_length]; decide), queueImage_length]), (loading_read _ _ _ (by rw [queueImage_length]; decide) (by rw [queueImage_length]; decide) rfl rfl), (cfgDesc_crc _ _), (by rw [wordsOf_wordsBytes]; simp only [queueWords, queueImage, getD_map_range]; decide +kernel), (by rw [wordsOf_wordsBytes]; simp only [queueWords, queueImage, getD_map_range]; decide +kernel)⟩

theorem witness_ExchangeConfigurationLoads_5 : ∃ (x : HPort) (p : Part) (d : Desc) (o : Op) (s : State) (bs : List Byte) (t : State), (s.mayStart x p d o = true) ∧ (s.mayConfigure x p = true) ∧ (d.opcode = 0x30) ∧ (fieldOf d.w2 7 0 = 0x04) ∧ (d.buf 0xFF 0 0xFFFFFFFF 0 4294967296 = true) ∧ (d.len = 8752) ∧ ((s.started x p o).dmaRead x p d.addr d.len = (some bs, t)) ∧ (crc32 bs = d.w7) ∧ ((fieldImageRegs.zip (wordsOf bs)).findIdx? (fun e => t.fieldWordBad e.1 e.2) = none) :=
  by exact ⟨.hp0, 0, cfgDesc 0x04 fieldImage, fetched (cfgDesc 0x04 fieldImage), loading ready 0x04 fieldImage, wordsBytes fieldImage, loadedAt ready 0x04 fieldImage, (loading_mayStart _ _ _ (by decide) (by decide) (by decide)), (by decide), (by decide), (by decide), (cfgDesc_buf _ _ (by decide)), (by rw [cfgDesc_len _ (by rw [fieldImage_length]; decide), fieldImage_length]), (loading_read _ _ _ (by rw [fieldImage_length]; decide) (by rw [fieldImage_length]; decide) rfl rfl), (cfgDesc_crc _ _), (by rw [wordsOf_wordsBytes]; unfold fieldImage; rw [zip_map_self]; decide +kernel)⟩

theorem witness_UnitConfigurationLoads_1 : ∃ (x : HPort) (p : Part) (d : Desc) (o : Op) (s : State) (bs : List Byte) (t : State), (s.mayStart x p d o = true) ∧ (s.mayConfigure x p = true) ∧ (d.opcode = 0x30) ∧ (fieldOf d.w2 7 0 = 0x05) ∧ (d.buf 0xFF 0 0xFFFFFFFF 0 4294967296 = true) ∧ (d.len = 2304) ∧ (s.variant.lacks 14 = false) ∧ ((s.started x p o).dmaRead x p d.addr d.len = (some bs, t)) ∧ (crc32 bs = d.w7) ∧ ((List.range 72).find? (t.circBad (wordsOf bs) t.lastCal) = none) :=
  by exact ⟨.hp0, 0, cfgDesc 0x05 (List.replicate 576 0), fetched (cfgDesc 0x05 (List.replicate 576 0)), withImage (ready) 0x05 (List.replicate 576 0), _, _, by decide +kernel, by decide +kernel, by decide +kernel, by decide +kernel, by decide +kernel, by decide +kernel, by decide +kernel, rfl, by decide +kernel, by decide +kernel⟩

theorem witness_UnitConfigurationLoads_2 : ∃ (x : HPort) (p : Part) (d : Desc) (o : Op) (s : State) (bs : List Byte) (t : State), (s.mayStart x p d o = true) ∧ (s.mayConfigure x p = true) ∧ (d.opcode = 0x30) ∧ (fieldOf d.w2 7 0 = 0x06) ∧ (d.buf 0xFF 0 0xFFFFFFFF 0 4294967296 = true) ∧ (d.len = 1280) ∧ (s.variant.lacks 14 = false) ∧ ((s.started x p o).dmaRead x p d.addr d.len = (some bs, t)) ∧ (crc32 bs = d.w7) ∧ ((List.range 80).find? (calBad (wordsOf bs) (usedChans t.mtr.circ)) = none) :=
  by exact ⟨.hp0, 0, cfgDesc 0x06 calImage, fetched (cfgDesc 0x06 calImage), loading ready 0x06 calImage, wordsBytes calImage, loadedAt ready 0x06 calImage, (loading_mayStart _ _ _ (by decide) (by decide) (by decide)), (by decide), (by decide), (by decide), (cfgDesc_buf _ _ (by decide)), (by rw [cfgDesc_len _ (by rw [calImage_length]; decide), calImage_length]), (by decide), (loading_read _ _ _ (by rw [calImage_length]; decide) (by rw [calImage_length]; decide) rfl rfl), (cfgDesc_crc _ _), (by rw [wordsOf_wordsBytes]; simp only [calBad, calEn, calPht, calOfs, calW, calImage, getD_map_range]; decide +kernel)⟩

theorem witness_UnitConfigurationLoads_3 : ∃ (x : HPort) (p : Part) (d : Desc) (o : Op) (s : State) (bs : List Byte) (t : State), (s.mayStart x p d o = true) ∧ (s.mayConfigure x p = true) ∧ (d.opcode = 0x30) ∧ (fieldOf d.w2 7 0 = 0x07) ∧ (d.buf 0xFF 0 0xFFFFFFFF 0 4294967296 = true) ∧ (d.len = 512) ∧ (s.hasDisplay = true) ∧ ((s.started x p o).dmaRead x p d.addr d.len = (some bs, t)) ∧ (crc32 bs = d.w7) ∧ ((List.range 64).find? (fun r => t.regionBad (wordsOf bs) r) = none) ∧ ((List.range 64).any (fun r => regionChanged t.lastRegions (wordsOf bs) r && t.regionBusy r) = false) :=
  by exact ⟨.hp0, 0, cfgDesc 0x07 (List.replicate 128 0), fetched (cfgDesc 0x07 (List.replicate 128 0)), withImage (ready) 0x07 (List.replicate 128 0), _, _, by decide +kernel, by decide +kernel, by decide +kernel, by decide +kernel, by decide +kernel, by decide +kernel, by decide +kernel, rfl, by decide +kernel, by decide +kernel, by decide +kernel⟩

theorem witness_UnitConfigurationLoads_4 : ∃ (x : HPort) (p : Part) (d : Desc) (o : Op) (s : State) (bs : List Byte) (t : State), (s.mayStart x p d o = true) ∧ (s.mayConfigure x p = true) ∧ (d.opcode = 0x30) ∧ (fieldOf d.w2 7 0 = 0x08) ∧ (d.buf 0xFF 0 0xFFFFFFFF 0 4294967296 = true) ∧ ((List.range 16).any (fun k => d.len = 36 + 17408 * (k + 1)) = true) ∧ (s.hasDisplay = true) ∧ ((s.started x p o).dmaRead x p d.addr d.len = (some bs, t)) ∧ (crc32 bs = d.w7) ∧ (waveFault (wordsOf bs) = none) ∧ (t.panelBusy (fieldOf ((wordsOf bs).getD 0 0) 8 8) = false) :=
  by exact ⟨.hp0, 0, cfgDesc 0x08 waveImage, fetched (cfgDesc 0x08 waveImage), loading ready 0x08 waveImage, wordsBytes waveImage, loadedAt ready 0x08 waveImage, (loading_mayStart _ _ _ (by decide) (by decide) (by decide)), (by decide), (by decide), (by decide), (cfgDesc_buf _ _ (by decide)), (by rw [cfgDesc_len _ (by rw [waveImage_length]; decide), waveImage_length]; decide), (by decide), (loading_read _ _ _ (by rw [waveImage_length]; decide) (by rw [waveImage_length]; decide) rfl rfl), (cfgDesc_crc _ _), (by rw [wordsOf_wordsBytes]; simp only [waveFault, waveBands, waveHalf, entryFault, waveImage, getD_map_range, List.length_map, List.length_range]; decide +kernel), (by rw [wordsOf_wordsBytes]; simp only [waveImage, getD_map_range]; decide +kernel)⟩

theorem witness_UnitConfigurationLoads_5 : ∃ (x : HPort) (p : Part) (d : Desc) (o : Op) (s : State) (bs : List Byte) (t : State), (s.mayStart x p d o = true) ∧ (s.mayConfigure x p = true) ∧ (d.opcode = 0x30) ∧ (fieldOf d.w2 7 0 = 0x0A) ∧ (d.buf 0xFF 0 0xFFFFFFFF 0 4294967296 = true) ∧ (d.len = 2208) ∧ ((s.started x p o).dmaRead x p d.addr d.len = (some bs, t)) ∧ (crc32 bs = d.w7) ∧ ((List.range 552).find? (legacyBad (wordsOf bs)) = none) :=
  by exact ⟨.hp0, 0, cfgDesc 0x0A legacyImage, fetched (cfgDesc 0x0A legacyImage), loading ready 0x0A legacyImage, wordsBytes legacyImage, loadedAt ready 0x0A legacyImage, (loading_mayStart _ _ _ (by decide) (by decide) (by decide)), (by decide), (by decide), (by decide), (cfgDesc_buf _ _ (by decide)), (by rw [cfgDesc_len _ (by rw [legacyImage_length]; decide), legacyImage_length]), (loading_read _ _ _ (by rw [legacyImage_length]; decide) (by rw [legacyImage_length]; decide) rfl rfl), (cfgDesc_crc _ _), (by rw [wordsOf_wordsBytes]; simp only [legacyBad, legacyImage, getD_map_range]; decide +kernel)⟩

theorem witness_UnitConfigurationLoads_6 : ∃ (x : HPort) (p : Part) (d : Desc) (o : Op) (s : State) (bs : List Byte) (t : State), (s.mayStart x p d o = true) ∧ (s.mayConfigure x p = true) ∧ (d.opcode = 0x30) ∧ (fieldOf d.w2 7 0 = 0x0B) ∧ (d.buf 0xFF 0 0xFFFFFFFF 0 4294967296 = true) ∧ (d.len = 584) ∧ ((s.started x p o).dmaRead x p d.addr d.len = (some bs, t)) ∧ (crc32 bs = d.w7) ∧ ((List.range 146).find? (t.riserWordBad (wordsOf bs)) = none) :=
  by exact ⟨.hp0, 0, cfgDesc 0x0B riserImage, fetched (cfgDesc 0x0B riserImage), withImage (ready) 0x0B riserImage, _, _, by decide +kernel, by decide +kernel, by decide +kernel, by decide +kernel, by decide +kernel, by decide +kernel, rfl, by decide +kernel, by decide +kernel⟩

theorem witness_UnitConfigurationLoads_7 : ∃ (x : HPort) (p : Part) (d : Desc) (o : Op) (s : State) (bs : List Byte) (t : State), (s.mayStart x p d o = true) ∧ (s.mayConfigure x p = true) ∧ (d.opcode = 0x30) ∧ (fieldOf d.w2 7 0 = 0x0C) ∧ (d.buf 0xFF 0 0xFFFFFFFF 0 4294967296 = true) ∧ (d.len = 4) ∧ ((s.started x p o).dmaRead x p d.addr d.len = (some bs, t)) ∧ (crc32 bs = d.w7) ∧ (wordOk Reg.TWN_CFG ((wordsOf bs).getD 0 0) = true) :=
  by exact ⟨.hp0, 0, cfgDesc 0x0C [Reg.resetVal .ofc960 Reg.TWN_CFG], fetched (cfgDesc 0x0C [Reg.resetVal .ofc960 Reg.TWN_CFG]), withImage (ready) 0x0C [Reg.resetVal .ofc960 Reg.TWN_CFG], _, _, by decide +kernel, by decide +kernel, by decide +kernel, by decide +kernel, by decide +kernel, by decide +kernel, rfl, by decide +kernel, by decide +kernel⟩

theorem witness_UnitConfigurationLoads_8 : ∃ (x : HPort) (p : Part) (d : Desc) (o : Op) (s : State) (bs : List Byte) (t : State), (s.mayStart x p d o = true) ∧ (s.mayConfigure x p = true) ∧ (d.opcode = 0x30) ∧ (fieldOf d.w2 7 0 = 0x0D) ∧ (d.buf 0xFF 0 0xFFFFFFFF 0 4294967296 = true) ∧ (d.len = 492) ∧ (s.hasIsland = true) ∧ ((s.started x p o).dmaRead x p d.addr d.len = (some bs, t)) ∧ (crc32 bs = d.w7) ∧ ((List.range 122).find? (t.setWordBad (wordsOf bs)) = none) ∧ (crc32Words ((wordsOf bs).take 122) = (wordsOf bs).getD 122 0) ∧ (t.saf.selfTest = false ∨ t.saf.resetWait ≠ none) ∧ (bitOf t.swNow.2 7 = true) :=
  by exact ⟨.hp0, 0, cfgDesc 0x0D safetyImage, fetched (cfgDesc 0x0D safetyImage), withImage ({ ready with saf := { ready.saf with x := { ready.saf.x with seen := some ⟨0, 0, 0, 0, [], false, false, false, 0, 0x80, [], false, false⟩ } } }) 0x0D safetyImage, _, _, by decide +kernel, by decide +kernel, by decide +kernel, by decide +kernel, by decide +kernel, by decide +kernel, by decide +kernel, rfl, by decide +kernel, by decide +kernel, by decide +kernel, by decide +kernel, by decide +kernel⟩

theorem witness_UnitConfigurationLoads_9 : ∃ (x : HPort) (p : Part) (d : Desc) (o : Op) (s : State) (bs : List Byte) (t : State), (s.mayStart x p d o = true) ∧ (s.mayConfigure x p = true) ∧ (d.opcode = 0x30) ∧ (fieldOf d.w2 7 0 = 0x0D) ∧ (d.buf 0xFF 0 0xFFFFFFFF 0 4294967296 = true) ∧ (d.len = 492) ∧ (s.hasIsland = true) ∧ ((s.started x p o).dmaRead x p d.addr d.len = (some bs, t)) ∧ (crc32 bs = d.w7) ∧ ((List.range 122).find? (t.setWordBad (wordsOf bs)) = none) ∧ (crc32Words ((wordsOf bs).take 122) = (wordsOf bs).getD 122 0) ∧ (t.saf.selfTest = false ∨ t.saf.resetWait ≠ none) ∧ (bitOf t.swNow.2 7 = false) ∧ ((wordsOf bs).getD 122 0 = t.safCrc) ∧ (t.saf.kept.set ≠ []) :=
  by exact ⟨.hp0, 0, cfgDesc 0x0D safetyImage, fetched (cfgDesc 0x0D safetyImage), withImage ({ ready with saf := { ready.saf with kept := { ready.saf.kept with set := safetyImage } } }) 0x0D safetyImage, _, _, by decide +kernel, by decide +kernel, by decide +kernel, by decide +kernel, by decide +kernel, by decide +kernel, by decide +kernel, rfl, by decide +kernel, by decide +kernel, by decide +kernel, by decide +kernel, by decide +kernel, by decide +kernel, by decide +kernel⟩

theorem witness_UnitConfigurationLoads_10 : ∃ (x : HPort) (p : Part) (d : Desc) (o : Op) (s : State) (bs : List Byte) (t : State), (s.mayStart x p d o = true) ∧ (s.mayConfigure x p = true) ∧ (d.opcode = 0x30) ∧ (fieldOf d.w2 7 0 = 0x0E) ∧ (d.buf 0xFF 0 0xFFFFFFFF 0 4294967296 = true) ∧ (12 ≤ d.len) ∧ (d.len ≤ 2052) ∧ (d.len % 8 = 4) ∧ ((s.started x p o).dmaRead x p d.addr d.len = (some bs, t)) ∧ (crc32 bs = d.w7) ∧ (chainBad (d.len / 4) (wordsOf bs) = none) :=
  by exact ⟨.hp0, 0, cfgDesc 0x0E [0x00640001, 0, 0], fetched (cfgDesc 0x0E [0x00640001, 0, 0]), withImage (ready) 0x0E [0x00640001, 0, 0], _, _, by decide +kernel, by decide +kernel, by decide +kernel, by decide +kernel, by decide +kernel, by decide +kernel, by decide +kernel, by decide +kernel, rfl, by decide +kernel, by decide +kernel⟩

theorem witness_KeyStagingAndCommit_1 : ∃ (x : HPort) (p : Part) (d : Desc) (o : Op) (s : State) (bs : List Byte) (t : State), (s.mayStart x p d o = true) ∧ (d.opcode = 0x40) ∧ (d.buf 0xF3F 0 0 40 104 = true) ∧ (keyLen (fieldOf d.w2 11 8) ≠ 0) ∧ (d.len = keyLen (fieldOf d.w2 11 8) + 8) ∧ ((s.started x p o).filterWrite p ((s.started x p o).keyTag d.keySlot) Cls.slot d.keySlot = St.success) ∧ ((s.started x p o).ktype d.keySlot = fieldOf d.w2 11 8) ∧ ((s.started x p o).dmaRead x p d.addr d.len = (some bs, t)) :=
  by exact ⟨.hp0, 0, (⟨0x40,0,0x100,0,0,0,40,0⟩), fetched (⟨0x40,0,0x100,0,0,0,40,0⟩), withOp (regIs ready (Reg.KEY_SATTR 0) 0x80013F00) (⟨0x40,0,0x100,0,0,0,40,0⟩), _, _, by decide, by decide, by decide, by decide, by decide, by decide, by decide, rfl⟩

theorem witness_KeyStagingAndCommit_2 : ∃ (x : HPort) (p : Part) (d : Desc) (o : Op) (s : State) (m : List Byte), (s.mayStart x p d o = true) ∧ (d.opcode = 0x41) ∧ (d.clean 0x3F 0 0 0 0 0 = true) ∧ ((s.started x p o).filterWrite p ((s.started x p o).keyTag d.keySlot) Cls.slot d.keySlot = St.success) ∧ (((s.started x p o).slotKey d.keySlot).shadow = some m) :=
  ⟨.hp0, 0, (⟨0x41,0,0,0,0,0,0,0⟩), fetched (⟨0x41,0,0,0,0,0,0,0⟩), withOp (regIs { ready with key := { ready.key with slots := [(0, { key := none, shadow := some [1, 2] })] } } (Reg.KEY_SATTR 0) 0x80013F00) (⟨0x41,0,0,0,0,0,0,0⟩), [1, 2], by decide⟩

theorem witness_KeyStagingAndCommit_3 : ∃ (x : HPort) (p : Part) (d : Desc) (o : Op) (s : State), (s.mayStart x p d o = true) ∧ (d.opcode = 0x41) ∧ (d.clean 0x3F 0 0 0 0 0 = true) ∧ ((s.started x p o).filterWrite p ((s.started x p o).keyTag d.keySlot) Cls.slot d.keySlot = St.success) ∧ (((s.started x p o).slotKey d.keySlot).shadow = none) :=
  ⟨.hp0, 0, (⟨0x41,0,0,0,0,0,0,0⟩), fetched (⟨0x41,0,0,0,0,0,0,0⟩), withOp (regIs ready (Reg.KEY_SATTR 0) 0x80013F00) (⟨0x41,0,0,0,0,0,0,0⟩), by decide⟩

theorem witness_KeyStagingAndCommit_4 : ∃ (s : State) (i : Nat) (m : List Byte), (i < 64) :=
  ⟨ready, 3, [1], by decide⟩

theorem witness_KeyStagingAndCommit_5 : ∃ (x : HPort) (i : Fin 64) (v : Word) (s : State), (s.mayWrite x 22 = true) ∧ (fieldOf v 19 16 ≤ 3) ∧ (fieldOf v 19 16 ≠ 0 ∨ fieldOf v 31 31 = 0) ∧ (fieldOf v 31 21 = fieldOf (s.reg (Reg.KEY_SATTR i)) 31 21) ∧ (fieldOf v 19 16 = fieldOf (s.reg (Reg.KEY_SATTR i)) 19 16) :=
  by exact ⟨.hp0, 0, 0, ready, by decide, by decide, by decide, by decide, by decide⟩

theorem witness_KeyStagingAndCommit_6 : ∃ (x : HPort) (i : Fin 64) (v : Word) (s : State), (s.mayWrite x 22 = true) ∧ (fieldOf v 19 16 ≤ 3) ∧ (fieldOf v 19 16 ≠ 0 ∨ fieldOf v 31 31 = 0) ∧ (fieldOf v 31 21 ≠ fieldOf (s.reg (Reg.KEY_SATTR i)) 31 21 ∨ fieldOf v 19 16 ≠ fieldOf (s.reg (Reg.KEY_SATTR i)) 19 16) :=
  by exact ⟨.hp0, 0, 0x40000000, ready, by decide, by decide, by decide, by decide⟩

theorem witness_KeyStagingAndCommit_7 : ∃ (x : HPort) (i : Fin 64) (v : Word) (s : State), (s.mayWrite x 22 = true) ∧ (3 < fieldOf v 19 16 ∨ (fieldOf v 19 16 = 0 ∧ fieldOf v 31 31 = 1)) ∧ (fieldOf v 31 21 = fieldOf (s.reg (Reg.KEY_SATTR i)) 31 21) :=
  by exact ⟨.hp0, 0, 0x80000000, regIs ready (Reg.KEY_SATTR 0) 0x80000000, by decide, by decide, by decide⟩

theorem witness_KeyOperations_1 : ∃ (x : HPort) (p : Part) (d : Desc) (o : Op) (s : State) (k bs : List Byte) (t : State), (s.mayStart x p d o = true) ∧ (d.opcode = 0x42) ∧ (fieldOf d.w3 3 0 = 1) ∧ (d.buf 0x3F 0xF 0 1 65536 = true) ∧ ((s.started x p o).filterWrite p ((s.started x p o).keyTag d.keySlot) Cls.slot d.keySlot = St.success) ∧ ((s.started x p o).keyUsable d.keySlot 2 0 = true) ∧ (((s.started x p o).slotKey d.keySlot).key = some k) ∧ ((s.started x p o).dmaRead x p d.addr d.len = (some bs, t)) :=
  by exact ⟨.hp0, 0, (⟨0x42,0,0,1,0,0,8,0⟩), fetched (⟨0x42,0,0,1,0,0,8,0⟩), withOp (regIs { ready with key := { ready.key with slots := [(0, { key := some [1, 2], shadow := none })] } } (Reg.KEY_SATTR 0) 0x80023F00) (⟨0x42,0,0,1,0,0,8,0⟩), [1, 2], _, _, by decide, by decide, by decide, by decide, by decide, by decide, by decide, rfl⟩

theorem witness_KeyOperations_2 : ∃ (x : HPort) (p : Part) (d : Desc) (o : Op) (s : State) (k bs : List Byte) (t : State), (s.mayStart x p d o = true) ∧ (d.opcode = 0x42) ∧ (fieldOf d.w3 3 0 = 2) ∧ (d.buf 0x3F 0xF 0 144 144 = true) ∧ ((s.started x p o).filterWrite p ((s.started x p o).keyTag d.keySlot) Cls.slot d.keySlot = St.success) ∧ ((s.started x p o).keyUsable d.keySlot 3 1 = true) ∧ (((s.started x p o).slotKey d.keySlot).key = some k) ∧ ((s.started x p o).dmaRead x p d.addr d.len = (some bs, t)) :=
  by exact ⟨.hp0, 0, (⟨0x42,0,0,2,0,0,144,0⟩), fetched (⟨0x42,0,0,2,0,0,144,0⟩), withOp (regIs { ready with key := { ready.key with slots := [(0, { key := some [1, 2], shadow := none })] } } (Reg.KEY_SATTR 0) 0x80033F00) (⟨0x42,0,0,2,0,0,144,0⟩), [1, 2], _, _, by decide, by decide, by decide, by decide, by decide, by decide, by decide, rfl⟩

theorem witness_KeyOperations_3 : ∃ (x : HPort) (p : Part) (d : Desc) (o : Op) (s : State) (k bs : List Byte) (t : State), (s.mayStart x p d o = true) ∧ (d.opcode = 0x42) ∧ (fieldOf d.w3 3 0 = 3) ∧ (d.buf 0x3F 0xF 0 16 4096 = true) ∧ (d.len % 8 = 0) ∧ ((s.started x p o).filterWrite p ((s.started x p o).keyTag d.keySlot) Cls.slot d.keySlot = St.success) ∧ ((s.started x p o).keyUsable d.keySlot 1 2 = true) ∧ (((s.started x p o).slotKey d.keySlot).key = some k) ∧ ((s.started x p o).dmaRead x p d.addr d.len = (some bs, t)) :=
  by exact ⟨.hp0, 0, (⟨0x42,0,0,3,0,0,16,0⟩), fetched (⟨0x42,0,0,3,0,0,16,0⟩), withOp (regIs { ready with key := { ready.key with slots := [(0, { key := some [1, 2], shadow := none })] } } (Reg.KEY_SATTR 0) 0x80013F00) (⟨0x42,0,0,3,0,0,16,0⟩), [1, 2], _, _, by decide, by decide, by decide, by decide, by decide, by decide, by decide, by decide, rfl⟩

theorem witness_KeyOperations_4 : ∃ (x : HPort) (p : Part) (d : Desc) (o : Op) (s : State) (k bs : List Byte) (t : State), (s.mayStart x p d o = true) ∧ (d.opcode = 0x42) ∧ (fieldOf d.w3 3 0 = 4) ∧ (d.buf 0x3F 0xF 0 24 4104 = true) ∧ (d.len % 8 = 0) ∧ ((s.started x p o).filterWrite p ((s.started x p o).keyTag d.keySlot) Cls.slot d.keySlot = St.success) ∧ ((s.started x p o).keyUsable d.keySlot 1 3 = true) ∧ (((s.started x p o).slotKey d.keySlot).key = some k) ∧ ((s.started x p o).dmaRead x p d.addr d.len = (some bs, t)) :=
  by exact ⟨.hp0, 0, (⟨0x42,0,0,4,0,0,24,0⟩), fetched (⟨0x42,0,0,4,0,0,24,0⟩), withOp (regIs { ready with key := { ready.key with slots := [(0, { key := some [1, 2], shadow := none })] } } (Reg.KEY_SATTR 0) 0x80013F00) (⟨0x42,0,0,4,0,0,24,0⟩), [1, 2], _, _, by decide, by decide, by decide, by decide, by decide, by decide, by decide, by decide, rfl⟩

theorem witness_KeyOperations_5 : ∃ (x : HPort) (p : Part) (d : Desc) (o : Op) (s : State) (bs : List Byte) (t : State), (s.mayStart x p d o = true) ∧ (d.opcode = 0x42) ∧ (fieldOf d.w3 3 0 = 5) ∧ (d.buf 0x3F 0xF 0 5 132 = true) ∧ ((s.started x p o).filterWrite p ((s.started x p o).keyTag d.keySlot) Cls.slot d.keySlot = St.success) ∧ ((s.started x p o).dmaRead x p d.addr d.len = (some bs, t)) ∧ (1 ≤ (bs.getD 1 0).toNat) ∧ ((bs.getD 1 0).toNat ≤ 64) ∧ ((bs.getD 2 0).toNat ≤ 64) ∧ (bs.getD 3 0 = 0) ∧ (bs.length = 4 + (bs.getD 1 0).toNat + (bs.getD 2 0).toNat) ∧ ((bs.getD 0 0).toNat = 1 ∨ (bs.getD 0 0).toNat = 2) ∧ (t.ktype d.keySlot = (bs.getD 0 0).toNat) :=
  by exact ⟨.hp0, 0, (⟨0x42,0,0,5,0,0,5,0⟩), fetched (⟨0x42,0,0,5,0,0,5,0⟩), withOp (withMem (regIs ready (Reg.KEY_SATTR 0) 0x80013F00) [(0, 1), (1, 1), (4, 7)]) (⟨0x42,0,0,5,0,0,5,0⟩), _, _, by decide, by decide, by decide, by decide, by decide, rfl, by decide, by decide, by decide, by decide, by decide, by decide, by decide⟩

theorem witness_KeyOperations_6 : ∃ (x : HPort) (p : Part) (d : Desc) (o : Op) (s : State) (k : List Byte), (s.mayStart x p d o = true) ∧ (d.opcode = 0x42) ∧ (fieldOf d.w3 3 0 = 6) ∧ (d.buf 0x3F 0xF 0 0 0 = true) ∧ ((s.started x p o).filterWrite p ((s.started x p o).keyTag d.keySlot) Cls.slot d.keySlot = St.success) ∧ (((s.started x p o).slotKey d.keySlot).key = some k) :=
  ⟨.hp0, 0, (⟨0x42,0,0,6,0,0,0,0⟩), fetched (⟨0x42,0,0,6,0,0,0,0⟩), withOp (regIs { ready with key := { ready.key with slots := [(0, { key := some [1, 2], shadow := none })] } } (Reg.KEY_SATTR 0) 0x80013F00) (⟨0x42,0,0,6,0,0,0,0⟩), [1, 2], by decide⟩

theorem witness_KeyOperations_7 : ∃ (x : HPort) (p : Part) (d : Desc) (o : Op) (s : State), (s.mayStart x p d o = true) ∧ (d.opcode = 0x42) ∧ (fieldOf d.w3 3 0 = 7) ∧ (d.buf 0x3F 0xF 0 0 0 = true) ∧ ((s.started x p o).filterWrite p ((s.started x p o).keyTag d.keySlot) Cls.slot d.keySlot = St.success) :=
  ⟨.hp0, 0, (⟨0x42,0,0,7,0,0,0,0⟩), fetched (⟨0x42,0,0,7,0,0,0,0⟩), withOp (regIs ready (Reg.KEY_SATTR 0) 0x80013F00) (⟨0x42,0,0,7,0,0,0,0⟩), by decide⟩

theorem witness_KeyOperations_8 : ∃ (x : HPort) (p : Part) (d : Desc) (o : Op) (s : State) (t : State), (s.mayStart x p d o = true) ∧ (d.opcode = 0x42) ∧ (fieldOf d.w3 3 0 = 8) ∧ (d.buf 0x3F 0xF 0 0 0 = true) ∧ ((s.started x p o).filterWrite p ((s.started x p o).keyTag d.keySlot) Cls.slot d.keySlot = St.success) ∧ (t = (s.started x p o).eraseSlot d.keySlot 1 ((s.started x p o).rf (F.KEY_SATTR_TAG d.keySlot))) :=
  by exact ⟨.hp0, 0, (⟨0x42,0,0,8,0,0,0,0⟩), fetched (⟨0x42,0,0,8,0,0,0,0⟩), withOp (regIs ready (Reg.KEY_SATTR 0) 0x80013F00) (⟨0x42,0,0,8,0,0,0,0⟩), _, by decide, by decide, by decide, by decide, by decide, rfl⟩

theorem witness_KeyOperations_9 : ∃ (s : State) (i : Nat), (s.on (F.KEY_SATTR_CNTEN i) = true) ∧ (2 ≤ s.rf (F.KEY_SREM_REM i)) :=
  ⟨regIs (regIs ready (Reg.KEY_SATTR 0) 0x80213F00) (Reg.KEY_SREM 0) 5, 0, by decide⟩

theorem witness_FirmwareChunks_1 : ∃ (x : HPort) (p : Part) (d : Desc) (o : Op) (s : State) (flash : Bool) (bs : List Byte) (t0 t : State), (s.mayStart x p d o = true) ∧ (s.mayConfigure x p = true) ∧ (d.opcode = 0x48) ∧ (s.queue (stagingQueue x p) = []) ∧ (d.buf 0xC000FFFF 4294967295 0 1 65536 = true) ∧ (fieldOf d.w2 15 0 < 4) ∧ (fieldOf d.w2 15 0 = 0 ∨ partMisfit (Store.get noBytes ((s.started x p o).partsOf d.w3) 0) (fieldOf d.w2 15 0) d.len = false) ∧ ((s.started x p o).otherFlow d.w3 = false) ∧ ((s.started x p o).dmaRead x p d.addr d.len = (some bs, t0)) ∧ (t0.passThrough (stagingQueue x p) = (true, t)) :=
  by exact ⟨.hp0, 0, (⟨0x48,0,0x40000000,5,0,0,8,0⟩), fetched (⟨0x48,0,0x40000000,5,0,0,8,0⟩), withOp (ready) (⟨0x48,0,0x40000000,5,0,0,8,0⟩), true, _, _, _, by decide, by decide, by decide, by decide, by decide, by decide, by decide, by decide, rfl, rfl⟩

theorem witness_FirmwareChunks_2 : ∃ (flash : Bool) (ver : Word) (p : Nat) (bs : List Byte) (s : State), (1 ≤ p) ∧ (Store.get noBytes (s.partsOf ver) 0 = []) :=
  ⟨true, 5, 1, [1], ready, by decide⟩

theorem witness_FirmwareChunks_3 : ∃ (x : HPort) (p : Part) (d : Desc) (o : Op) (s : State) (flash : Bool) (bs : List Byte) (t0 t : State), (s.mayStart x p d o = true) ∧ (s.mayConfigure x p = true) ∧ (d.opcode = 0x48) ∧ (s.queue (stagingQueue x p) = []) ∧ (d.buf 0xC000FFFF 4294967295 0 1 65536 = true) ∧ ((s.started x p o).hasManifest d.w3 = true) ∧ (fieldOf d.w2 15 0 < mfChunks ((s.started x p o).imgSlot (s.started x p o).inactiveSlot).manifest) ∧ (d.len = mfChunkLen ((s.started x p o).imgSlot (s.started x p o).inactiveSlot).manifest (fieldOf d.w2 15 0)) ∧ ((s.started x p o).otherFlow d.w3 = false) ∧ ((s.started x p o).dmaRead x p d.addr d.len = (some bs, t0)) ∧ (t0.passThrough (stagingQueue x p) = (true, t)) :=
  by exact ⟨.hp0, 0, (⟨0x48,0,0,0,0,0,8,0⟩), fetched (⟨0x48,0,0,0,0,0,8,0⟩), withOp ({ ready with upd := { ready.upd with kept := { ready.upd.kept with slotA := { ImgSlot.blank with state := 1, manifest := wordsBytes [0, 0, 1, 8] }, slotB := { ImgSlot.blank with state := 1, manifest := wordsBytes [0, 0, 1, 8] } } } }) (⟨0x48,0,0,0,0,0,8,0⟩), true, _, _, _, by decide, by decide, by decide, by decide, by decide, by decide, by decide, by decide, by decide, rfl, rfl⟩

theorem witness_FirmwareChunks_4 : ∃ (x : HPort) (p : Part) (d : Desc) (o : Op) (s : State) (flash : Bool) (f : UpdFlow) (bs : List Byte) (t0 t : State), (s.mayStart x p d o = true) ∧ (s.mayConfigure x p = true) ∧ (d.opcode = 0x48) ∧ (s.queue (stagingQueue x p) = []) ∧ (d.buf 0xC000FFFF 4294967295 0 1 65536 = true) ∧ (fieldOf d.w2 31 30 = 3) ∧ (fieldOf d.w2 15 0 < 4) ∧ (fieldOf d.w2 15 0 = 0 ∨ partMisfit (Store.get noBytes ((s.started x p o).partsOf d.w3) 0) (fieldOf d.w2 15 0) d.len = false) ∧ ((s.started x p o).upd.flow = some f) ∧ (f.ver.toNat < d.w3.toNat) ∧ ((s.started x p o).dmaRead x p d.addr d.len = (some bs, t0)) ∧ (t0.passThrough (stagingQueue x p) = (true, t)) :=
  by exact ⟨.hp0, 0, (⟨0x48,0,0xC0000000,5,0,0,8,0⟩), fetched (⟨0x48,0,0xC0000000,5,0,0,8,0⟩), withOp ({ ready with upd := { ready.upd with flow := some ⟨1, 0, 0, []⟩ } }) (⟨0x48,0,0xC0000000,5,0,0,8,0⟩), true, ⟨1, 0, 0, []⟩, _, _, _, by decide, by decide, by decide, by decide, by decide, by decide, by decide, by decide, by decide, by decide, rfl, rfl⟩

theorem witness_ResetsAndStart_2 : ∃ (c : ResetCause) (s : State), ((c = .debug → s.key.root ≠ 0)) :=
  ⟨.pin, ready, by decide⟩

theorem witness_ResetsAndStart_3 : ∃ (s : State), (s.key.root = 0) :=
  by exact ⟨State.reset, by decide⟩

theorem witness_ResetsAndStart_4 : ∃ (cause : Nat) (s : State), (s.porHeld = true) :=
  by exact ⟨0, State.reset, by decide⟩

theorem witness_ResetsAndStart_5 : ∃ (cause : Nat) (s : State), (1 ≤ cause) ∧ (cause ≤ 10) ∧ (s.porHeld = false) :=
  by exact ⟨1, ready, by decide, by decide, by decide⟩

theorem witness_ResetsAndStart_6 : ∃ (x : HPort) (s : State), (s.mayWrite x 2 = true) :=
  by exact ⟨.hp0, ready, by decide⟩

theorem witness_ResetsAndStart_7 : ∃ (s : State), (s.rst.core = false) ∧ (s.rst.phase = 1 ∨ s.rst.phase = 4) ∧ (s.recentDogs.length < 2) :=
  by exact ⟨ready, by decide, by decide, by decide⟩

theorem witness_ResetsAndStart_8 : ∃ (s : State), (s.rst.core = false) ∧ (s.rst.phase = 1 ∨ s.rst.phase = 4) ∧ (2 ≤ s.recentDogs.length) :=
  ⟨{ ready with rst := { ready.rst with dogs := [ready.nowMs, ready.nowMs] } }, by decide⟩

theorem witness_ResetsAndStart_10 : ∃ (i : StartIn) (s : State), (s.rst.phase = 0) ∧ (s.rst.hot = false) ∧ (i.cut = false) ∧ (i.bootsel = 2 ∨ i.bootsel = 3) :=
  by exact ⟨⟨0, 2, false, false, true, true, false, true, ⟨[], [], [], [], false, false, false, []⟩, 0⟩, { ready with rst := { ready.rst with phase := 0, hot := false } }, by decide, by decide, by decide, by decide⟩

theorem witness_ResetsAndStart_11 : ∃ (i : StartIn) (s : State), (s.rst.phase = 0) ∧ (s.rst.hot = false) ∧ (i.cut = true) ∧ (s.rst.tlcnt < 3) :=
  by exact ⟨⟨0, 2, false, false, true, true, true, true, ⟨[], [], [], [], false, false, false, []⟩, 0⟩, { ready with rst := { ready.rst with phase := 0, hot := false } }, by decide, by decide, by decide, by decide⟩

theorem witness_ResetsAndStart_12 : ∃ (s : State), (s.rst.phase = 1) :=
  ⟨{ ready with rst := { ready.rst with phase := 1 } }, by decide⟩

theorem witness_ClocksBlocksAndSupply_1 : ∃ (s : State), (s.rst.phase ≠ 0) ∧ (s.rst.phase ≠ 4) ∧ (s.on F.CLK_STAT_FALLBK = false) ∧ (s.rf F.CLK_STAT_STRAP = 1 ∨ s.rf F.CLK_STAT_STRAP = 2) :=
  ⟨{ ready.setF F.CLK_STAT_STRAP 1 with rst := { ready.rst with phase := 1 } }, by decide⟩

theorem witness_ClocksBlocksAndSupply_2 : ∃ (s : State), (s.rst.phase ≠ 0) ∧ (s.on F.CLK_STAT_REFLOST = false) :=
  ⟨ready, by decide⟩

theorem witness_ClocksBlocksAndSupply_3 : ∃ (s : State), (s.on F.CLK_STAT_REFLOST = true) :=
  ⟨ready.setF F.CLK_STAT_REFLOST 1, by decide⟩

theorem witness_ClocksBlocksAndSupply_4 : ∃ (b : Fin 25) (good : Bool) (s : State), (b.val = 7 ∨ b.val = 16 ∨ b.val = 17) ∧ (s.clockGood b ≠ good) ∧ (s.rst.phase ≠ 0) :=
  ⟨7, true, regIs ready Reg.CLK_GOOD 0, by decide⟩

theorem witness_ClocksBlocksAndSupply_5 : ∃ (x : HPort) (b : Fin 25) (s : State), (s.mayWrite x 2 = true) ∧ (s.holdable b = true) ∧ (s.on (regBit Reg.RST_BLKCTL b) = false) :=
  ⟨.hp0, 13, ready.setF F.RST_BOOTREC_READY 1, by decide⟩

theorem witness_ClocksBlocksAndSupply_6 : ∃ (x : HPort) (b : Fin 25) (s : State), (s.mayWrite x 2 = true) ∧ (s.holdable b = false ∨ s.on (regBit Reg.RST_BLKCTL b) = true) :=
  by exact ⟨.hp0, 0, ready, by decide, by decide⟩

theorem witness_ClocksBlocksAndSupply_7 : ∃ (x : HPort) (b : Fin 25) (s : State), (s.mayWrite x 2 = true) ∧ (s.holdable b = false ∨ s.on (regBit Reg.RST_BLKCTL b) = false) :=
  by exact ⟨.hp0, 0, ready, by decide, by decide⟩

theorem witness_ClocksBlocksAndSupply_8 : ∃ (x : HPort) (b : Fin 25) (s : State), (s.mayWrite x 2 = true) ∧ (s.holdable b = true) ∧ (s.on (regBit Reg.RST_BLKCTL b) = true) ∧ (s.clockGood b = false) :=
  by exact ⟨.hp0, 9, ((ready.setF F.RST_BOOTREC_READY 1).setF (regBit Reg.RST_BLKCTL 9) 1).setF (regBit Reg.CLK_GOOD 9) 0, by decide, by decide, by decide, by decide⟩

theorem witness_ClocksBlocksAndSupply_9 : ∃ (x : HPort) (b : Fin 25) (s : State), (s.mayWrite x 2 = true) ∧ (s.holdable b = true) ∧ (s.on (regBit Reg.RST_BLKCTL b) = true) ∧ (s.clockGood b = true) :=
  ⟨.hp0, 13, (regIs (ready.setF F.RST_BOOTREC_READY 1) Reg.CLK_GOOD 0x1FFFFFF).setF (regBit Reg.RST_BLKCTL 13) 1, by decide⟩

theorem witness_ClocksBlocksAndSupply_10 : ∃ (b : Fin 25) (s : State), (s.holdable b = true) ∧ (s.inReset b = true) ∧ (s.on (regBit Reg.RST_BLKCTL b) = false) ∧ (s.clockGood b = true) :=
  ⟨13, (regIs (ready.setF F.RST_BOOTREC_READY 1) Reg.CLK_GOOD 0x1FFFFFF).setF (regBit Reg.RST_BLKSTAT 13) 1, by decide⟩

theorem witness_ClocksBlocksAndSupply_11 : ∃ (b : Fin 25) (s : State), (s.holdable b = false ∨ s.inReset b = false ∨ s.clockGood b = false ∨ s.on (regBit Reg.RST_BLKCTL b) = true) :=
  by exact ⟨0, State.reset, by decide⟩

theorem witness_ClocksBlocksAndSupply_12 : ∃ (pfw : Bool) (vmain : Nat) (s : State), (s.rst.phase = 1 ∨ s.rst.phase = 4) ∧ (s.on F.PWR_STAT_SEQ = false) ∧ ((pfw = true → s.on F.PWR_CTL_PFWEN = true)) :=
  by exact ⟨false, 0, ready, by decide, by decide, by decide⟩

theorem witness_ClocksBlocksAndSupply_13 : ∃ (vmain : Nat) (s : State), (s.rst.phase ≠ 0) ∧ (s.on F.PWR_CTL_PFWEN = false) :=
  by exact ⟨0, ready, by decide, by decide⟩

theorem witness_ClocksBlocksAndSupply_14 : ∃ (low us : Nat) (s : State), (s.on F.PWR_STAT_WARN = false) :=
  by exact ⟨0, 0, State.reset, by decide⟩

theorem witness_ClocksBlocksAndSupply_15 : ∃ (low us : Nat) (s : State), (s.on F.PWR_STAT_WARN = true) :=
  ⟨900, 5, ready.setF F.PWR_STAT_WARN 1, by decide⟩

theorem witness_LegacyAndEthernetCommands_1 : ∃ (x : HPort) (p : Part) (d : Desc) (o : Op) (s : State) (bs : List Byte) (t : State), (s.mayStart x p d o = true) ∧ (d.opcode = 0x50) ∧ (d.buf 0x3F03 0 0 0 4294967296 = true) ∧ ((s.started x p o).filterWrite p (some ((s.started x p o).rf (F.CAN_CTL_TAG (fieldOf d.w2 1 0)))) 0 (fieldOf d.w2 1 0) = St.success) ∧ ((s.started x p o).active = true) ∧ ((s.started x p o).canRuns (fieldOf d.w2 1 0) = true) ∧ ((s.started x p o).canNormal (fieldOf d.w2 1 0) = true) ∧ ((s.started x p o).rf (F.CAN_MBCFG_MODE (fieldOf d.w2 1 0) (fieldOf d.w2 13 8)) = 1) ∧ ((s.started x p o).dmaRead x p d.addr d.len = (some bs, t)) ∧ (t.txHeaderBad (fieldOf d.w2 1 0) d.len bs = none) :=
  by exact ⟨.hp0, 0, (⟨0x50,0,0,0,0,0,8,0⟩), fetched (⟨0x50,0,0,0,0,0,8,0⟩), withOp (regIs (regIs ready (Reg.CAN_CTL 0) 0x80000000) (Reg.CAN_MBCFG 0 0) 0x40000000) (⟨0x50,0,0,0,0,0,8,0⟩), _, _, by decide, by decide, by decide, by decide, by decide, by decide, by decide, by decide, rfl, by decide⟩

theorem witness_LegacyAndEthernetCommands_2 : ∃ (x : HPort) (p : Part) (d : Desc) (o : Op) (s : State) (bs : List Byte) (t : State), (s.mayStart x p d o = true) ∧ (d.opcode = 0x51) ∧ (d.buf 7 0 0 1 4096 = true) ∧ ((s.started x p o).filterWrite p (some ((s.started x p o).rf (F.SER_CTL_TAG (fieldOf d.w2 2 0)))) 0 (fieldOf d.w2 2 0) = St.success) ∧ ((s.started x p o).active = true) ∧ ((s.started x p o).dmaRead x p d.addr d.len = (some bs, t)) :=
  by exact ⟨.hp0, 0, (⟨0x51,0,0,0,0,0,8,0⟩), fetched (⟨0x51,0,0,0,0,0,8,0⟩), withOp (ready) (⟨0x51,0,0,0,0,0,8,0⟩), _, _, by decide, by decide, by decide, by decide, by decide, rfl⟩

theorem witness_LegacyAndEthernetCommands_3 : ∃ (x : HPort) (p : Part) (d : Desc) (o : Op) (s : State) (bs : List Byte) (t : State), (s.mayStart x p d o = true) ∧ (d.opcode = 0x58) ∧ (d.buf 0x7F 0 0 14 1514 = true) ∧ (fieldOf d.w2 6 0 < 64) ∧ (s.fieldFitted (fieldOf d.w2 6 0) = true) ∧ ((s.started x p o).filterWrite p (some ((s.started x p o).rf (F.FLD_PCTL_TAG (fieldOf d.w2 6 0)))) 0 (fieldOf d.w2 6 0) = St.success) ∧ ((s.started x p o).dmaRead x p d.addr d.len = (some bs, t)) ∧ (p.val = 0 ∨ (etherOf bs).1 ≠ t.rf F.FLD_CTL_ETYPE) ∧ (t.active = true) ∧ (t.on (F.FLD_PSTAT_LINK (fieldOf d.w2 6 0)) = true) :=
  by exact ⟨.hp0, 0, (⟨0x58,0,0,0,0,0,16,0⟩), fetched (⟨0x58,0,0,0,0,0,16,0⟩), withOp (ready.setF (F.FLD_PSTAT_LINK 0) 1) (⟨0x58,0,0,0,0,0,16,0⟩), _, _, by decide, by decide, by decide, by decide, by decide, by decide, rfl, by decide, by decide⟩

theorem witness_LegacyAndEthernetCommands_4 : ∃ (x : HPort) (p : Part) (d : Desc) (o : Op) (s : State) (bs : List Byte) (t : State), (s.mayStart x p d o = true) ∧ (s.mayConfigure x p = true) ∧ (d.opcode = 0x58) ∧ (d.buf 0x7F 0 0 14 9018 = true) ∧ (fieldOf d.w2 6 0 = 64) ∧ ((s.started x p o).dmaRead x p d.addr d.len = (some bs, t)) :=
  by exact ⟨.hp0, 0, (⟨0x58,0,0x40,0,0,0,16,0⟩), fetched (⟨0x58,0,0x40,0,0,0,16,0⟩), withOp (ready) (⟨0x58,0,0x40,0,0,0,16,0⟩), _, _, by decide, by decide, by decide, by decide, by decide, rfl⟩

theorem witness_LegacyAndEthernetCommands_5 : ∃ (x : HPort) (p : Part) (id target : Nat) (data : List Byte) (s : State), (s.allocRefused (stagingQueue x p) (mkPkt data target 0 s.frameNo).cells = some 1) :=
  by exact ⟨.hp0, 0, 0, 0, [1], { regIs ready (Reg.QPL_QCFG 512) 0xFFFFFFFF with pool := { ready.pool with guarBelow := 0, audit := some (65536, 0) } }, by decide⟩

theorem witness_LegacyAndEthernetCommands_6 : ∃ (x : HPort) (p : Part) (id target : Nat) (data : List Byte) (s : State), (s.allocRefused (stagingQueue x p) (mkPkt data target 0 s.frameNo).cells = some 0) :=
  ⟨.hp0, 0, 0, 5, [1], regIs ready (Reg.QPL_QCFG 512) 0, by decide⟩

theorem witness_LegacyAndEthernetCommands_7 : ∃ (q : Fin 1024) (k : Pkt) (s t : State), (pointQueue q = true) ∧ (s.takePkt q = (some k, t)) :=
  by exact ⟨256, _, { ready with pool := { ready.pool with queues := [(256, [mkPkt [1] 0 0 0])] } }, _, by decide, rfl⟩

theorem witness_LegacyAndEthernetCommands_8 : ∃ (k : Fin 4) (h : Pkt) (hs : List Pkt) (s t : State) (q : Fin 1024), (q.val = 420 + k.val) ∧ (s.queue q = h :: hs) ∧ (s.rf (F.CAN_MBCFG_MODE k (txBuf h.data)) = 1) ∧ (s.on (F.CAN_MBST_FULL k (txBuf h.data)) = false) ∧ (s.takePkt q = (some h, t)) :=
  by exact ⟨0, mkPkt [1] 0 0 0, [], regIs { ready with pool := { ready.pool with queues := [(420, [mkPkt [1] 0 0 0])] } } (Reg.CAN_MBCFG 0 0) 0x40000000, _, 420, by decide, by decide, by decide, by decide, rfl⟩

theorem witness_LegacyAndEthernetCommands_9 : ∃ (q : Fin 1024) (k : Pkt) (s t : State), (256 ≤ q.val) ∧ ((q.val < 418 ∨ (418 < q.val ∧ q.val < 420) ∨ (432 ≤ q.val ∧ q.val < 512) ∨ 768 ≤ q.val)) ∧ (pointQueue q = false) ∧ (s.takePkt q = (some k, t)) :=
  by exact ⟨800, _, ready.setQueue 800 [mkPkt [1] 0 0 0], _, by decide, by decide, by decide, rfl⟩

theorem witness_LegacyAndEthernetCommands_10 : ∃ (q : Fin 1024) (s : State), (512 ≤ q.val) ∧ (q.val < 768) :=
  by exact ⟨512, ready, by decide, by decide⟩

theorem witness_LegacyAndEthernetCommands_11 : ∃ (q : Fin 1024) (s : State), (q.val < 256) :=
  by exact ⟨0, State.reset, by decide⟩

theorem witness_CanControllers_1 : ∃ (k : Fin 4) (f : CanIn) (s : State), (s.canRuns k = true) ∧ ((f.fdf = true → s.on (F.CAN_CTL_FDEN k) = true)) :=
  ⟨0, ⟨false, false, false, false, false, 0, 0, [], 0, 0⟩, regIs ready (Reg.CAN_CTL 0) 0x80000000, by decide⟩

theorem witness_CanControllers_2 : ∃ (k : Fin 4) (frac sec : Word) (delay b : Nat) (f : List Byte) (s : State), (s.canRuns k = true) ∧ (s.canNormal k = true) ∧ (bestTx (s.loaded k) = some (b, f)) ∧ (s.measures k f = false) :=
  ⟨0, 1, 2, 0, 0, [1], { regIs ready (Reg.CAN_CTL 0) 0x80000000 with can := { ready.can with tx := [(0, [1])] } }, by decide⟩

theorem witness_CanControllers_3 : ∃ (k : Fin 4) (frac sec : Word) (delay b : Nat) (f : List Byte) (s : State), (s.canRuns k = true) ∧ (s.canNormal k = true) ∧ (bestTx (s.loaded k) = some (b, f)) ∧ (s.measures k f = true) :=
  by exact ⟨0, 0, 0, 0, _, _, { regIs ready (Reg.CAN_CTL 0) 0x80010000 with can := { ready.can with tx := [(mbKey 0 0, [0,0,0,0x20,0,0,0,0x80,0,0,0,0])] } }, by decide, by decide, rfl, by decide⟩

theorem witness_CanControllers_4 : ∃ (k : Fin 4) (f : CanIn) (frac sec : Word) (delay : Nat) (lec : Fin 7) (tec rec : Nat) (s : State), (s.canRuns k = false) :=
  by exact ⟨0, ⟨false, false, false, false, false, 0, 0, [], 0, 0⟩, 0, 0, 0, 1, 5, 5, ready, by decide⟩

theorem witness_CanControllers_5 : ∃ (k : Fin 4) (lec : Fin 7) (tec rec : Nat) (s : State), (s.canRuns k = true) ∧ (lec.val ≠ 0) ∧ (s.canRestricted k = true) :=
  by exact ⟨0, 1, 5, 5, regIs ready (Reg.CAN_CTL 0) 0x80200000, by decide, by decide, by decide⟩

theorem witness_CanControllers_6 : ∃ (es : List (Nat × List Byte)) (b : Nat) (f : List Byte), (bestTx es = some (b, f)) :=
  ⟨[(0, [1])], 0, [1], by decide⟩

theorem witness_CanControllers_7 : ∃ (k : Fin 4) (lec : Fin 7) (tec rec : Nat) (s : State), (s.canRuns k = true) ∧ (lec.val ≠ 0) ∧ (s.canRestricted k = false) :=
  ⟨0, 1, 8, 0, regIs ready (Reg.CAN_CTL 0) 0x80000000, by decide⟩

theorem witness_CanControllers_8 : ∃ (k : Fin 4) (tec rec : Nat) (s : State), (tec < 256) :=
  by exact ⟨0, 0, 0, State.reset, by decide⟩

theorem witness_CanControllers_9 : ∃ (k : Fin 4) (tec rec : Nat) (s : State), (256 ≤ tec) :=
  by exact ⟨0, 600, 0, State.reset, by decide⟩

theorem witness_CanControllers_10 : ∃ (x : HPort) (k : Fin 4) (s : State), (s.mayWrite x 20 = true) ∧ (s.rf (F.CAN_STAT_EST k) = 2) :=
  ⟨.hp0, 0, ready.setF (F.CAN_STAT_EST 0) 2, by decide⟩

theorem witness_CanControllers_11 : ∃ (x : HPort) (k : Fin 4) (s : State), (s.mayWrite x 20 = true) ∧ (s.rf (F.CAN_STAT_EST k) ≠ 2) :=
  by exact ⟨.hp0, 0, ready, by decide, by decide⟩

theorem witness_CanControllers_12 : ∃ (k : Fin 4) (s : State), (s.rf (F.CAN_STAT_EST k) ≠ 3 ∨ s.inReset 20 = true) :=
  by exact ⟨0, State.reset, by decide⟩

theorem witness_CanControllers_13 : ∃ (k : Fin 4) (s : State), (s.active = false ∨ s.inReset 20 = true) :=
  by exact ⟨0, State.reset, by decide⟩

theorem witness_CanControllers_14 : ∃ (k : Fin 4) (s : State), (s.rf (F.CAN_STAT_EST k) = 3) ∧ (s.inReset 20 = false) :=
  ⟨0, ready.setF (F.CAN_STAT_EST 0) 3, by decide⟩

theorem witness_CanControllers_15 : ∃ (k : Fin 4) (s : State), (s.active = true) ∧ (s.inReset 20 = false) :=
  ⟨0, ready, by decide⟩

theorem witness_SerialPortsAndLegacyConfiguration_1 : ∃ (j : Fin 8) (data : List Byte) (frac sec : Word) (s : State), (s.inReset 21 = false) ∧ (s.on (F.SER_CTL_EN j) = true) ∧ (s.on (F.SER_STAT_TXACT j) = false) :=
  ⟨0, [1], 1, 2, regIs ready (Reg.SER_CTL 0) 0x80000000, by decide⟩

theorem witness_SerialPortsAndLegacyConfiguration_2 : ∃ (j : Fin 8) (data : List Byte) (err : Fin 5) (frac sec : Word) (s : State), (s.inReset 21 = false) ∧ (s.on (F.SER_CTL_EN j) = true) ∧ (s.on (F.SER_STAT_TXACT j) = false) ∧ (err.val = 1 ∨ err.val = 2 ∨ err.val = 3) :=
  ⟨0, [1], 2, 1, 2, regIs ready (Reg.SER_CTL 0) 0x80000000, by decide⟩

theorem witness_SerialPortsAndLegacyConfiguration_3 : ∃ (j : Fin 8) (data : List Byte) (frac sec : Word) (s : State), (s.inReset 21 = false) ∧ (s.on (F.SER_CTL_EN j) = true) ∧ (s.on (F.SER_STAT_TXACT j) = false) :=
  ⟨0, [1], 1, 2, regIs ready (Reg.SER_CTL 0) 0x80000000, by decide⟩

theorem witness_SerialPortsAndLegacyConfiguration_4 : ∃ (j : Fin 8) (data : List Byte) (err : Fin 5) (frac sec : Word) (s : State), (s.inReset 21 = true ∨ s.on (F.SER_CTL_EN j) = false ∨ s.on (F.SER_STAT_TXACT j) = true) :=
  by exact ⟨0, [1], 0, 0, 0, ready, by decide⟩

theorem witness_SerialPortsAndLegacyConfiguration_5 : ∃ (j : Fin 8) (s : State), (s.active = false) :=
  by exact ⟨0, State.reset, by decide⟩

theorem witness_SerialPortsAndLegacyConfiguration_6 : ∃ (j : Fin 8) (k : Pkt) (s t : State), (s.inReset 21 = false) ∧ (s.active = true) ∧ (s.on (F.SER_CTL_EN j) = true) ∧ (s.on (F.SER_STAT_TXACT j) = false) ∧ (s.takePkt (424 + j) = (some k, t)) :=
  by exact ⟨0, _, regIs { ready with pool := { ready.pool with queues := [(424, [mkPkt [1] 0 0 0])] } } (Reg.SER_CTL 0) 0x80000000, _, by decide, by decide, by decide, by decide, rfl⟩

theorem witness_SerialPortsAndLegacyConfiguration_7 : ∃ (j : Fin 8) (s : State), (s.on (F.SER_STAT_TXACT j) = true) :=
  ⟨0, ready.setF (F.SER_STAT_TXACT 0) 1, by decide⟩

theorem witness_SerialPortsAndLegacyConfiguration_8 : ∃ (j : Fin 8) (bad : Option Nat) (s : State), (s.on (F.SER_STAT_TXACT j) = false) :=
  by exact ⟨0, none, ready, by decide⟩

theorem witness_SerialPortsAndLegacyConfiguration_9 : ∃ (j : Fin 8) (n : Nat) (s : State), (s.on (F.SER_STAT_TXACT j) = true) ∧ ((s.addSat (F.SER_TXFRM_CNT j) 1).on (F.SER_CTL_ECHO j) = false ∨ (Store.get noBytes s.can.burst j).length ≤ n) :=
  by exact ⟨0, 5, ready.setF (F.SER_STAT_TXACT 0) 1, by decide, by decide⟩

theorem witness_SerialPortsAndLegacyConfiguration_10 : ∃ (j : Fin 8) (n : Nat) (s : State), (s.on (F.SER_STAT_TXACT j) = true) ∧ ((s.addSat (F.SER_TXFRM_CNT j) 1).on (F.SER_CTL_ECHO j) = true) ∧ (n < (Store.get noBytes s.can.burst j).length) :=
  ⟨0, 0, { regIs (ready.setF (F.SER_STAT_TXACT 0) 1) (Reg.SER_CTL 0) 0xFFFFFFFF with can := { ready.can with burst := [(0, [1])] } }, by decide⟩

theorem witness_SerialPortsAndLegacyConfiguration_12 : ∃ (u : Fin 12) (s : State), (s.can.left.contains u.val = true) ∧ ((4 ≤ u.val → s.on (F.SER_STAT_TXACT (u.val - 4)) = false)) :=
  ⟨3, { ready with can := { ready.can with left := [3] } }, by decide⟩

theorem witness_SerialPortsAndLegacyConfiguration_13 : ∃ (u : Fin 12) (s : State), (s.can.left.contains u.val = false ∨ (4 ≤ u.val ∧ s.on (F.SER_STAT_TXACT (u.val - 4)) = true)) :=
  by exact ⟨0, State.reset, by decide⟩

theorem witness_SerialPortsAndLegacyConfiguration_14 : ∃ (u : Nat) (s : State), (u < 4) :=
  by exact ⟨0, State.reset, by decide⟩

theorem witness_SerialPortsAndLegacyConfiguration_15 : ∃ (u : Nat) (s : State), (4 ≤ u) ∧ (u < 12) :=
  ⟨4, ready, by decide⟩

theorem witness_DisplayUpdates_1 : ∃ (x : HPort) (p : Part) (d : Desc) (o : Op) (s : State) (bs : List Byte) (t u : State), (s.mayStart x p d o = true) ∧ (s.hasDisplay = true) ∧ (d.opcode = 0x38) ∧ (fieldOf d.w3 0 0 = 0) ∧ (d.buf 0xFF 3 0 0 4294967296 = true) ∧ ((s.started x p o).filterWrite p ((s.started x p o).regionTagOf (fieldOf d.w2 7 0)) Cls.slot (fieldOf d.w2 7 0) = St.success) ∧ ((s.started x p o).active = true) ∧ (d.len = regionW (s.started x p o).dsp.regions (fieldOf d.w2 7 0) * regionH (s.started x p o).dsp.regions (fieldOf d.w2 7 0) / 2) ∧ (((s.started x p o).dsp.upds.filter (fun v => v.region = fieldOf d.w2 7 0)).length < 4) ∧ ((s.started x p o).dmaRead x p d.addr d.len = (some bs, t)) ∧ (u = (t.changedPixels (fieldOf d.w2 7 0) (fieldOf d.w3 1 1 = 1) bs).foldl (fun v e => v.setPixel e.1 { v.pixel e.1 with tgt := e.2 }) (t.audit p (((s.started x p o).regionTagOf (fieldOf d.w2 7 0)).getD 0) Cls.slot (fieldOf d.w2 7 0) 0x38)) :=
  by exact ⟨.hp0, 0, (⟨0x38,0,0,0,0,0,1,0⟩), fetched (⟨0x38,0,0,0,0,0,1,0⟩), withOp ({ ready with dsp := { ready.dsp with regions := [0x80000000, 0x00010002] } }) (⟨0x38,0,0,0,0,0,1,0⟩), _, _, _, by decide, by decide, by decide, by decide, by decide, by decide, by decide, by decide, by decide, rfl, rfl⟩

theorem witness_DisplayUpdates_2 : ∃ (x : HPort) (p : Part) (d : Desc) (o : Op) (s : State), (s.mayStart x p d o = true) ∧ (s.hasDisplay = true) ∧ (d.opcode = 0x38) ∧ (fieldOf d.w3 0 0 = 1) ∧ (d.buf 0xFF 3 0 0 4294967296 = true) ∧ ((s.started x p o).filterRead p ((s.started x p o).regionTagOf (fieldOf d.w2 7 0)) Cls.slot (fieldOf d.w2 7 0) = St.success) ∧ ((s.started x p o).active = true) ∧ (d.len = regionW (s.started x p o).dsp.regions (fieldOf d.w2 7 0) * regionH (s.started x p o).dsp.regions (fieldOf d.w2 7 0) / 2) :=
  ⟨.hp0, 0, (⟨0x38,0,0,1,0,0,1,0⟩), fetched (⟨0x38,0,0,1,0,0,1,0⟩), withOp ({ ready with dsp := { ready.dsp with regions := [0x80000000, 0x00010002] } }) (⟨0x38,0,0,1,0,0,1,0⟩), by decide⟩

theorem witness_DisplayUpdates_3 : ∃ (n : Fin 2) (ready : Bool) (s : State), (s.hasDisplay = true) ∧ (s.inReset 19 = false) ∧ (s.on F.PWR_STAT_SEQ = false) :=
  ⟨0, true, ready.setF (F.DSP_PSTAT_STATE 0) 3, by decide⟩

theorem witness_DisplayUpdates_4 : ∃ (n : Fin 2) (ready : Bool) (s : State), (s.hasDisplay = false ∨ s.inReset 19 = true ∨ s.on F.PWR_STAT_SEQ = true) :=
  ⟨0, true, ready.setF F.PWR_STAT_SEQ 1, by decide⟩

theorem witness_DisplayUpdates_5 : ∃ (n : Fin 2) (code : BitVec 12) (s : State), (s.hasDisplay = false ∨ s.inReset 19 = true) :=
  by exact ⟨0, 0, State.reset, by decide⟩

theorem witness_DisplayUpdates_6 : ∃ (n : Fin 2) (code : BitVec 12) (s : State), (s.hasDisplay = true) ∧ (s.inReset 19 = false) ∧ (code.toNat < 16 ∨ 4079 < code.toNat) ∧ (s.on (F.DSP_PSTAT_TFLT n) = true) :=
  by exact ⟨0, 5, ready.setF (F.DSP_PSTAT_TFLT 0) 1, by decide, by decide, by decide, by decide⟩

theorem witness_DisplayUpdates_7 : ∃ (n : Fin 2) (code : BitVec 12) (s : State), (s.hasDisplay = true) ∧ (s.inReset 19 = false) ∧ (16 ≤ code.toNat) ∧ (code.toNat ≤ 4079) :=
  ⟨0, 100, ready, by decide⟩

theorem witness_DisplayUpdates_8 : ∃ (n : Fin 2) (code : BitVec 12) (s : State), (s.hasDisplay = true) ∧ (s.inReset 19 = false) ∧ (code.toNat < 16 ∨ 4079 < code.toNat) ∧ (s.on (F.DSP_PSTAT_TFLT n) = false) :=
  ⟨0, 3, ready, by decide⟩

theorem witness_DisplayPanelPower_1 : ∃ (x : HPort) (n : Fin 2) (res : BitVec 16) (s : State), (s.mayWrite x 19 = true) ∧ (s.on (F.DSP_PCTL_EN n) = false) ∧ (s.panelFits n = true) ∧ (s.panelState n = 0) ∧ (res ≠ 0xFFFF) ∧ (res.toNat ≤ s.rf (F.DSP_CRK_RMAX n)) :=
  ⟨.hp0, 0, 5, regIs (regIs ready (Reg.DSP_CRK 0) 0x00640000) (Reg.DSP_PTIM 0) 0xFFFFFFFF, by decide⟩

theorem witness_DisplayPanelPower_2 : ∃ (x : HPort) (n : Fin 2) (res : BitVec 16) (s : State), (s.mayWrite x 19 = true) ∧ (s.on (F.DSP_PCTL_EN n) = false) ∧ (s.panelFits n = true) ∧ (s.panelState n ≠ 0 ∨ res = 0xFFFF ∨ s.rf (F.DSP_CRK_RMAX n) < res.toNat) :=
  by exact ⟨.hp0, 0, 0xFFFF, ready, by decide, by decide, by decide, by decide⟩

theorem witness_DisplayPanelPower_3 : ∃ (x : HPort) (n : Fin 2) (res : BitVec 16) (s : State), (s.mayWrite x 19 = true) ∧ (s.on (F.DSP_PCTL_EN n) = true) :=
  by exact ⟨.hp0, 0, 0, ready.setF (F.DSP_PCTL_EN 0) 1, by decide, by decide⟩

theorem witness_DisplayPanelPower_4 : ∃ (x : HPort) (n : Fin 2) (res : BitVec 16) (s : State), (s.mayWrite x 19 = true) ∧ (s.on (F.DSP_PCTL_EN n) = false) ∧ (s.panelFits n = false) :=
  ⟨.hp0, 0, 5, regIs ready (Reg.DSP_PTIM 0) 0, by decide⟩

theorem witness_DisplayPanelPower_5 : ∃ (x : HPort) (n : Fin 2) (s : State), (s.mayWrite x 19 = true) ∧ (s.panelState n = 1 ∨ s.panelState n = 5) :=
  ⟨.hp0, 0, ready.setF (F.DSP_PSTAT_STATE 0) 1, by decide⟩

theorem witness_DisplayPanelPower_6 : ∃ (x : HPort) (n : Fin 2) (s : State), (s.mayWrite x 19 = true) :=
  by exact ⟨.hp0, 0, ready, by decide⟩

theorem witness_DisplayPanelPower_7 : ∃ (n : Fin 2) (s : State), (s.panelState n = 2) :=
  ⟨0, ready.setF (F.DSP_PSTAT_STATE 0) 2, by decide⟩

theorem witness_DisplayPanelPower_9 : ∃ (n : Fin 2) (s : State), (s.panelState n = 2) ∧ ((s.panel n).good = true) :=
  ⟨0, { ready.setF (F.DSP_PSTAT_STATE 0) 2 with dsp := { ready.dsp with panels := [(0, { DspPanel.dflt 0 with good := true })] } }, by decide⟩

theorem witness_DisplayPanelPower_10 : ∃ (n : Fin 2) (s : State), (s.panelState n = 2) ∧ ((s.panel n).good = false) :=
  ⟨0, ready.setF (F.DSP_PSTAT_STATE 0) 2, by decide⟩

theorem witness_DisplayPanelPower_11 : ∃ (n : Fin 2) (s : State), (s.panelState n = 3) :=
  ⟨0, ready.setF (F.DSP_PSTAT_STATE 0) 3, by decide⟩

theorem witness_DisplayPanelPower_12 : ∃ (n : Fin 2) (code : Nat) (s : State), (code < 256) :=
  by exact ⟨0, 0, State.reset, by decide⟩

theorem witness_DisplayPanelPower_13 : ∃ (n : Fin 2) (s : State), (s.panelState n = 3) ∧ (s.panelBusy n = false) :=
  ⟨0, ready.setF (F.DSP_PSTAT_STATE 0) 3, by decide⟩

theorem witness_DisplayPanelPower_14 : ∃ (n : Fin 2) (s : State), (s.panelState n = 4) ∧ (s.vcomLow n = true) ∧ (((s.panel n).goal = 1 → s.updateWaits n = false)) :=
  ⟨0, { ready.setF (F.DSP_PSTAT_STATE 0) 4 with dsp := { ready.dsp with panels := [(0, { DspPanel.dflt 0 with pwren := true, goal := 0 })] } }, by decide⟩

theorem witness_DisplayPanelPower_15 : ∃ (n : Fin 2) (s : State), (s.panelState n = 4) ∧ (s.vcomLow n = true) ∧ ((s.panel n).goal = 1) ∧ (s.updateWaits n = true) :=
  by exact ⟨0, (ready.setF (F.DSP_PSTAT_STATE 0) 4).setDsp { ready.dsp with panels := [(0, { DspPanel.dflt 0 with pwren := true })], upds := [⟨0,0,0,[],0,none,none,0⟩] }, by decide, by decide, by decide, by decide⟩

theorem witness_DisplayPanelPower_16 : ∃ (n : Fin 2) (res : BitVec 16) (s : State), (s.hasDisplay = true) ∧ (s.inReset 19 = false) ∧ (s.panelState n ≠ 0) ∧ (s.crackBad n res = false) :=
  ⟨0, 0, ready.setF (F.DSP_PSTAT_STATE 0) 1, by decide⟩

theorem witness_DisplayPanelPower_17 : ∃ (n : Fin 2) (res : BitVec 16) (s : State), (s.hasDisplay = true) ∧ (s.inReset 19 = false) ∧ (s.panelState n ≠ 0) ∧ (s.crackBad n res = true) ∧ ((s.panel n).bad ≠ 1) :=
  by exact ⟨0, 0xFFFF, ready.setF (F.DSP_PSTAT_STATE 0) 1, by decide, by decide, by decide, by decide, by decide⟩

theorem witness_DisplayPanelPower_18 : ∃ (n : Fin 2) (res : BitVec 16) (s : State), (s.hasDisplay = false ∨ s.inReset 19 = true ∨ s.panelState n = 0) :=
  by exact ⟨0, 0, State.reset, by decide⟩

theorem witness_DisplayPanelPower_19 : ∃ (n : Fin 2) (res : BitVec 16) (s : State), (s.hasDisplay = true) ∧ (s.inReset 19 = false) ∧ (s.panelState n ≠ 0) ∧ (s.crackBad n res = true) ∧ ((s.panel n).bad = 1) :=
  ⟨0, 0xFFFF, { ready.setF (F.DSP_PSTAT_STATE 0) 1 with dsp := { ready.dsp with panels := [(0, { DspPanel.dflt 0 with bad := 1 })] } }, by decide⟩

theorem witness_FieldLinksAndFrames_1 : ∃ (i : Fin 64) (lv1 lead : Bool) (s : State), (i.val < 48) ∧ (s.fieldFitted i = true) ∧ (s.on (F.FLD_PCTL_EN i) = true) ∧ (s.on (F.FLD_PSTAT_LINK i) = false) ∧ (s.inReset 9 = false) ∧ (s.linkAgrees i lv1 lead = true) :=
  by exact ⟨0, false, false, (ready.setF (F.FLD_PCTL_EN 0) 1).setF (F.FLD_PCTL_LEVEL 0) 0, by decide, by decide, by decide, by decide, by decide, by decide⟩

theorem witness_FieldLinksAndFrames_2 : ∃ (i : Fin 64) (lv1 lead : Bool) (s t : State), (48 ≤ i.val) ∧ (s.fieldFitted i = true) ∧ (s.on (F.FLD_PCTL_EN i) = true) ∧ (s.on (F.FLD_PSTAT_LINK i) = false) ∧ (s.inReset 9 = false) ∧ (t = ((s.setF (F.FLD_PSTAT_LINK i) 1).setF (F.FLD_PSTAT_LV1 i) 0).setF (F.FLD_PSTAT_LEAD i) 0) :=
  by exact ⟨50, false, false, ready.setF (F.FLD_PCTL_EN 50) 1, _, by decide, by decide, by decide, by decide, by decide, rfl⟩

theorem witness_FieldLinksAndFrames_3 : ∃ (i : Fin 64) (lv1 lead : Bool) (s : State), (s.fieldFitted i = false ∨ s.on (F.FLD_PCTL_EN i) = false ∨ s.on (F.FLD_PSTAT_LINK i) = true ∨ s.inReset 9 = true ∨ s.linkAgrees i lv1 lead = false) :=
  by exact ⟨0, true, true, State.reset, by decide⟩

theorem witness_FieldLinksAndFrames_4 : ∃ (i : Fin 64) (s : State), (s.on (F.FLD_PSTAT_LINK i) = true) :=
  ⟨3, ready.setF (F.FLD_PSTAT_LINK 3) 1, by decide⟩

theorem witness_FieldLinksAndFrames_5 : ∃ (i : Fin 64) (s : State), (s.on (F.FLD_PSTAT_LINK i) = false) :=
  by exact ⟨0, State.reset, by decide⟩

theorem witness_FieldLinksAndFrames_6 : ∃ (i : Fin 48) (snr : Int) (s : State), (s.on (F.FLD_PSTAT_LINK i) = true) :=
  ⟨3, 20000, ready.setF (F.FLD_PSTAT_LINK 3) 1, by decide⟩

theorem witness_FieldLinksAndFrames_7 : ∃ (i : Fin 48) (snr : Int) (s : State), (s.on (F.FLD_PSTAT_LINK i) = false) :=
  by exact ⟨0, 0, State.reset, by decide⟩

theorem witness_FieldLinksAndFrames_8 : ∃ (g : Fin 16) (s : State), (s.on (F.FLD_PCTL_EN (48 + g.val)) = true) ∧ (s.inReset 9 = false) :=
  ⟨0, regIs ready (Reg.FLD_PCTL 48) 0x80000000, by decide⟩

theorem witness_FieldLinksAndFrames_9 : ∃ (g : Fin 16) (late : Option (Nat × Nat)) (s : State), (s.on (F.FLD_PCTL_EN (48 + g.val)) = false ∨ s.inReset 9 = true) :=
  by exact ⟨0, none, ready.setF (F.FLD_PCTL_EN 48) 0, by decide⟩

theorem witness_FieldLinksAndFrames_10 : ∃ (x : HPort) (v : Word) (s : State), (s.mayWrite x 9 = true) ∧ (s.on F.FLD_MDIO_GO = false) ∧ (fieldOf v 31 30 = 2) ∧ (s.fieldFitted (fieldOf v 29 24) = true) :=
  ⟨.hp0, 0x80000000, ready, by decide⟩

theorem witness_FieldLinksAndFrames_11 : ∃ (x : HPort) (v : Word) (s : State), (s.mayWrite x 9 = true) ∧ (s.on F.FLD_MDIO_GO = false) ∧ (fieldOf v 31 30 = 3) ∧ (s.fieldFitted (fieldOf v 29 24) = true) ∧ (s.on (F.FLD_PCTL_EN (fieldOf v 29 24)) = false) :=
  by exact ⟨.hp0, 0xC0000000, ready, by decide, by decide, by decide, by decide, by decide⟩

theorem witness_FieldLinksAndFrames_12 : ∃ (x : HPort) (v : Word) (s : State), (s.mayWrite x 9 = true) ∧ (s.on F.FLD_MDIO_GO = false) :=
  by exact ⟨.hp0, 0, ready, by decide, by decide⟩

theorem witness_FieldLinksAndFrames_13 : ∃ (x : HPort) (v : Word) (s : State), (s.mayWrite x 9 = true) ∧ (s.on F.FLD_MDIO_GO = true) :=
  by exact ⟨.hp0, 0, ready.setF F.FLD_MDIO_GO 1, by decide, by decide⟩

theorem witness_FieldLinksAndFrames_14 : ∃ (data : BitVec 16) (s : State), (s.on F.FLD_MDIO_GO = true) ∧ (s.on F.FLD_MDIO_WR = false) :=
  ⟨5, ready.setF F.FLD_MDIO_GO 1, by decide⟩

theorem witness_FieldLinksAndFrames_16 : ∃ (i : Fin 64) (data : List Byte) (good : Bool) (s : State), (s.on (F.FLD_PCTL_EN i) = true) ∧ (s.on (F.FLD_PSTAT_LINK i) = true) ∧ (s.inReset 9 = false) :=
  ⟨0, [], true, (regIs ready (Reg.FLD_PCTL 0) 0x80000000).setF (F.FLD_PSTAT_LINK 0) 1, by decide⟩

theorem witness_FieldLinksAndFrames_17 : ∃ (i : Fin 64) (data : List Byte) (good : Bool) (s : State), (s.on (F.FLD_PCTL_EN i) = false ∨ s.on (F.FLD_PSTAT_LINK i) = false ∨ s.inReset 9 = true) :=
  by exact ⟨0, [], true, ready.setF (F.FLD_PCTL_EN 0) 0, by decide⟩

theorem witness_FieldLinksAndFrames_18 : ∃ (k : Nat) (e : Ent) (t : Stn) (s : State), (s.ents[k]? = some e) ∧ (s.exchanges = true) ∧ (e.activeIn s.frameNo = true) ∧ (s.on (F.FLD_PSTAT_LINK e.port) = true) ∧ ((s.exch e.key).sent ≠ s.frameNo + 1) ∧ (s.stns.find? (fun u => u.epn = e.epn) = some t) :=
  ⟨0, ⟨0x80000000, 0, 0⟩, ⟨0x80000000, 0, 0, 0⟩, { ready.setF (F.FLD_PSTAT_LINK 0) 1 with ptx := { ready.ptx with schedule := [0, 0x80000000, 0, 0], stations := [0x80000000, 0, 0, 0] } }, by decide⟩

theorem witness_FieldLinksAndFrames_19 : ∃ (k : Nat) (e : Ent) (s : State), (s.ents[k]? = some e) ∧ (s.exchanges = false ∨ e.activeIn s.frameNo = false ∨ s.on (F.FLD_PSTAT_LINK e.port) = false ∨ (s.exch e.key).sent = s.frameNo + 1 ∨ s.stns.find? (fun u => u.epn = e.epn) = none) :=
  ⟨0, ⟨0x80000000, 0, 0⟩, { ready with ptx := { ready.ptx with schedule := [0, 0x80000000, 0, 0], exch := [((⟨0x80000000, 0, 0⟩ : Ent).key, { ready.exch 0 with sent := ready.frameNo + 1 })] } }, by decide⟩

theorem witness_FieldLinksAndFrames_20 : ∃ (k : Nat) (s : State), (s.ents[k]? = none) :=
  by exact ⟨0, State.reset, by decide⟩

theorem witness_FieldLinksAndFrames_21 : ∃ (i : Fin 64) (time : Nat) (k : Pkt) (ks : List Pkt) (s t : State), (s.on (F.FLD_PSTAT_LINK i) = true) ∧ (s.inReset 9 = false) ∧ (s.queue (320 + i) = k :: ks) ∧ (s.maySend i time k.data.length = true) ∧ (s.takePkt (320 + i) = (some k, t)) :=
  by exact ⟨0, 0, mkPkt [1] 0 0 0, [], { ready.setF (F.FLD_PSTAT_LINK 0) 1 with pool := { ready.pool with queues := [(320, [mkPkt [1] 0 0 0])] } }, _, by decide, by decide, by decide, by decide, rfl⟩

theorem witness_FieldLinksAndFrames_22 : ∃ (i : Fin 64) (time : Nat) (k : Pkt) (ks : List Pkt) (s t : State), (s.on (F.FLD_PSTAT_LINK i) = true) ∧ (s.inReset 9 = false) ∧ (s.queue (320 + i) = k :: ks) ∧ (s.maySend i time k.data.length = true) ∧ (s.takePkt (320 + i) = (none, t)) :=
  by exact ⟨0, 0, _, _, (ready.setF (F.FLD_PSTAT_LINK 0) 1).setQueue 320 [{ mkPkt [1] 0 0 0 with ecc := 2 }], _, by decide, by decide, rfl, by decide, rfl⟩

theorem witness_FieldLinksAndFrames_23 : ∃ (i : Fin 64) (time : Nat) (k : Pkt) (ks : List Pkt) (s : State), (s.on (F.FLD_PSTAT_LINK i) = true) ∧ (s.inReset 9 = false) ∧ (s.queue (320 + i) = k :: ks) ∧ (s.maySend i time k.data.length = false) ∧ (i.val < 48) ∧ (s.isHeld i k.seq = false) :=
  ⟨0, 0, mkPkt [1] 0 0 0, [], { ready.setF (F.FLD_PSTAT_LINK 0) 1 with pool := { ready.pool with queues := [(320, [mkPkt [1] 0 0 0])] }, ptx := { ready.ptx with schedule := [0, 0x80000000, 0, 0] } }, by decide⟩

theorem witness_FieldLinksAndFrames_24 : ∃ (i : Fin 64) (time : Nat) (k : Pkt) (ks : List Pkt) (s : State), (s.queue (320 + i) = k :: ks) ∧ (s.maySend i time k.data.length = false) ∧ (48 ≤ i.val ∨ s.isHeld i k.seq = true) :=
  by exact ⟨50, 0, _, _, ({ ready.setF (F.FLD_PSTAT_LINK 50) 1 with fld := { ready.fld with plcaFrom := [(2, 1)] } } : State).setQueue 370 [mkPkt [1] 0 0 0], rfl, by decide, by exact Or.inl (by decide)⟩

theorem witness_FieldLinksAndFrames_25 : ∃ (i : Fin 64) (time : Nat) (s : State), (s.on (F.FLD_PSTAT_LINK i) = false ∨ s.inReset 9 = true ∨ s.queue (320 + i) = []) :=
  by exact ⟨0, 0, State.reset, by decide⟩

theorem witness_FieldPower_1 : ∃ (rs : List SideResp) (s : State), (s.inReset 9 = false) :=
  ⟨[], ready, by decide⟩

theorem witness_FieldPower_2 : ∃ (rs : List SideResp) (s : State), (s.inReset 9 = true) :=
  by exact ⟨[], (ready.setF (regBit Reg.RST_BLKSTAT 9) 1), by decide⟩

theorem witness_FieldPower_3 : ∃ (rs : List SideResp) (cs : List SideCmd) (s : State), (s.inReset 9 = false) ∧ (cs = ((List.range 48).filter (fun i => s.fieldFitted i && s.pwrState i = Pwr.on)).map SideCmd.extra) :=
  by exact ⟨[], _, ready, by decide, rfl⟩

theorem witness_FieldPower_4 : ∃ (i : Fin 48) (s : State), (s.pwrState i = 5) :=
  ⟨0, ready.setF (F.FLD_PWRSTAT_STATE 0) 5, by decide⟩

theorem witness_FieldPower_5 : ∃ (i : Fin 48) (s : State), (s.pwrState i ≠ 5) :=
  by exact ⟨0, State.reset, by decide⟩

theorem witness_FieldPower_6 : ∃ (i : Fin 48) (s : State), (s.pwrState i = 4) :=
  ⟨0, ready.setF (F.FLD_PWRSTAT_STATE 0) 4, by decide⟩

theorem witness_FieldPower_7 : ∃ (i : Fin 48) (s : State), (s.pwrState i ≠ 4) :=
  by exact ⟨0, State.reset, by decide⟩

theorem witness_FieldPower_8 : ∃ (x : HPort) (i : Fin 64) (s : State), (s.mayWrite x 9 = true) ∧ (i.val < 48) ∧ (s.fieldFitted i = true) ∧ (s.rf (F.FLD_PWRCFG_MODE i) ≠ 0) :=
  ⟨.hp0, 0, regIs ready (Reg.FLD_PWRCFG 0) 0x40000000, by decide⟩

theorem witness_FieldPower_9 : ∃ (x : HPort) (i : Fin 64) (s : State), (s.mayWrite x 9 = true) ∧ (48 ≤ i.val ∨ s.fieldFitted i = false ∨ s.rf (F.FLD_PWRCFG_MODE i) = 0) :=
  by exact ⟨.hp0, 0, ready, by decide, by decide⟩

theorem witness_FieldPower_13 : ∃ (i : Fin 48) (s : State), ((s.pwr i).cycling = true) ∧ (s.pwrState i = 0) :=
  ⟨0, { ready with fld := { ready.fld with pwr := [(0, { PortPwr.dflt 0 with cycling := true })] } }, by decide⟩

theorem witness_FieldPower_14 : ∃ (i : Fin 48) (s : State), ((s.pwr i).cycling = false ∨ s.pwrState i ≠ 0) :=
  by exact ⟨0, State.reset, by decide⟩

theorem witness_FieldPower_15 : ∃ (i : Fin 48) (s : State), (s.pwrState i = 3) ∧ (s.charge (s.rf (F.FLD_PWRSTAT_CLASS i)) ≠ 0) :=
  by exact ⟨0, ({ (ready.setF (F.FLD_PWRSTAT_STATE 0) 3).setF (F.FLD_PWRSTAT_CLASS 0) 10 with fld := { ready.fld with force := [(Reg.FLD_PCLS 0, 0xFFFFFFFF)] } }), by decide, by decide⟩

theorem witness_LocalPulsesAndPwm_1 : ∃ (n : Fin 8) (onB level : Bool) (time : Nat) (p : PulseIn) (s t : State), (s.inReset 13 = false) ∧ (t = s.settleEdges n (fun u => decide (u + 20 ≤ time))) ∧ (p = t.pulse n) :=
  by exact ⟨0, false, true, 0, _, ready, _, by decide, rfl, rfl⟩

theorem witness_LocalPulsesAndPwm_2 : ∃ (n : Fin 8) (onB level : Bool) (time : Nat) (s : State), (s.inReset 13 = true) :=
  by exact ⟨0, true, true, 0, State.reset, by decide⟩

theorem witness_LocalPulsesAndPwm_3 : ∃ (n : Fin 8) (b l : Bool) (u : Nat) (old : Nat → Bool) (s : State), ((s.pulse n).pend = [(b, l, u)]) ∧ (old u = true) :=
  by exact ⟨0, false, true, 0, (fun _ => true), ready.setPulse 0 { PulseIn.dflt 0 with pend := [(false, true, 0)] }, by decide, by decide⟩

theorem witness_LocalPulsesAndPwm_4 : ∃ (n : Fin 8) (old : Nat → Bool) (s : State), ((s.pulse n).pend.all (fun e => !old e.2.2) = true) :=
  by exact ⟨0, (fun _ => false), ready.setPulse 0 { PulseIn.dflt 0 with pend := [(false, true, 0)] }, by decide⟩

theorem witness_LocalPulsesAndPwm_5 : ∃ (n : Fin 8) (onB level : Bool) (time : Nat) (p : PulseIn) (d : Int) (s : State), (p = (if onB then { s.pulse n with b := level } else { s.pulse n with a := level })) ∧ (d = edgeStep (s.lioRf (F.LIO_PICFG_MODE n)) onB level p.a p.b) :=
  by exact ⟨0, true, true, 0, _, _, State.reset, rfl, rfl⟩

theorem witness_LocalPulsesAndPwm_7 : ∃ (n : Fin 8) (s : State), (s.inReset 13 = false) ∧ (s.on (F.LIO_PWCFG_EN n) = true) ∧ (Store.get noFlag s.lio.pwmHeld n = false) ∧ (Store.get natZero s.lio.restart n ≤ s.lio.tick) :=
  ⟨0, regIs ready (Reg.LIO_PWCFG 0) 0x80000000, by decide⟩

theorem witness_LocalPulsesAndPwm_8 : ∃ (n : Fin 8) (s : State), (s.inReset 13 = true ∨ s.on (F.LIO_PWCFG_EN n) = false ∨ Store.get noFlag s.lio.pwmHeld n = true ∨ s.lio.tick < Store.get natZero s.lio.restart n) :=
  by exact ⟨0, State.reset, by decide⟩

theorem witness_LocalPulsesAndPwm_9 : ∃ (x : HPort) (n : Fin 8) (v w : Word) (s : State), (s.mayWrite x 13 = true) ∧ (w = (s.writeFields (Reg.LIO_PWCFG n) v).reg (Reg.LIO_PWCFG n)) ∧ (pwmCfgOk w = true) :=
  by exact ⟨.hp0, 0, 0, _, ready, by decide, rfl, by decide⟩

theorem witness_LocalPulsesAndPwm_10 : ∃ (x : HPort) (n : Fin 8) (v w : Word) (s : State), (s.mayWrite x 13 = true) ∧ (w = (s.writeFields (Reg.LIO_PWCFG n) v).reg (Reg.LIO_PWCFG n)) ∧ (pwmCfgOk w = false) ∧ (pwmCfgOk (s.reg (Reg.LIO_PWCFG n)) = true) :=
  by exact ⟨.hp0, 0, 0x80000000, _, ready, by decide, rfl, by decide, by decide⟩

theorem witness_MeteringPulsesAndSaves_1 : ∃ (k : Fin 8) (u : Nat) (us : List Nat) (s : State), (Store.get noNats s.mtr.starts k = u :: us) ∧ (s.inReset 14 = false) ∧ (s.on (F.MTR_PCFG_EN k) = true) :=
  by exact ⟨0, _, _, { ready.setF (F.MTR_PCFG_EN 0) 1 with mtr := { ready.mtr with starts := [(0, [1, 2])] } }, rfl, by decide, by decide⟩

theorem witness_MeteringPulsesAndSaves_2 : ∃ (k : Fin 8) (u n p len : Nat) (us : List Nat) (s : State), (Store.get noNats s.mtr.starts k = u :: n :: us) ∧ (s.inReset 14 = false) ∧ (s.on (F.MTR_PCFG_EN k) = true) ∧ (p = Store.get natZero s.mtr.lastStart k) ∧ (len = (if p = 0 then s.rf (F.MTR_PCFG_WIDTH k) * 1000 else min (s.rf (F.MTR_PCFG_WIDTH k) * 1000) ((u + 1 - p) / 2))) :=
  by exact ⟨0, _, _, _, _, _, { ready.setF (F.MTR_PCFG_EN 0) 1 with mtr := { ready.mtr with starts := [(0, [1, 2])] } }, rfl, by decide, by decide, rfl, rfl⟩

theorem witness_MeteringPulsesAndSaves_3 : ∃ (k : Fin 8) (s : State), (Store.get noNats s.mtr.starts k = [] ∨ s.inReset 14 = true ∨ s.on (F.MTR_PCFG_EN k) = false) :=
  by exact ⟨0, State.reset, by decide⟩

theorem witness_MeteringPulsesAndSaves_4 : ∃ (k : Fin 8) (s : State), (Store.get noFlag s.mtr.active k = true) :=
  ⟨0, { ready with mtr := { ready.mtr with active := [(0, true)] } }, by decide⟩

theorem witness_MeteringPulsesAndSaves_5 : ∃ (k : Fin 8) (s : State), (Store.get noFlag s.mtr.active k = false) :=
  by exact ⟨0, State.reset, by decide⟩

theorem witness_MeteringPulsesAndSaves_6 : ∃ (s : State), (s.mtr.saving = none) :=
  by exact ⟨State.reset, by decide⟩

theorem witness_MeteringPulsesAndSaves_7 : ∃ (b : Bank) (s : State), (s.mtr.saving = some b) :=
  ⟨ready.bankCopy, { ready with mtr := { ready.mtr with saving := some ready.bankCopy } }, by decide⟩

theorem witness_MeteringPulsesAndSaves_8 : ∃ (b : Bank) (s : State), (s.mtr.saving = some b) :=
  ⟨ready.bankCopy, { ready with mtr := { ready.mtr with saving := some ready.bankCopy } }, by decide⟩

theorem witness_MeteringPulsesAndSaves_9 : ∃ (x : HPort) (v : Word) (s : State), (s.mayWrite x 14 = true) ∧ (fieldOf v 31 31 = 1) ∧ (fieldOf v 6 0 < 72) :=
  ⟨.hp0, 0x80000005, ready, by decide⟩

theorem witness_MeteringPulsesAndSaves_10 : ∃ (x : HPort) (v : Word) (s : State), (s.mayWrite x 14 = true) ∧ (fieldOf v 31 31 = 0 ∨ 72 ≤ fieldOf v 6 0) :=
  by exact ⟨.hp0, 0, ready, by decide, by decide⟩

theorem witness_MeteringPulsesAndSaves_11 : ∃ (x : HPort) (v : Word) (s : State), (s.mayWrite x 14 = true) ∧ (60 ≤ fieldOf v 11 0) ∧ (3600 % fieldOf v 11 0 = 0) ∧ (fieldOf v 11 0 ≤ 3600) :=
  ⟨.hp0, 900, ready, by decide⟩

theorem witness_MeteringPulsesAndSaves_12 : ∃ (x : HPort) (v : Word) (s : State), (s.mayWrite x 14 = true) ∧ (fieldOf v 11 0 < 60 ∨ 3600 < fieldOf v 11 0 ∨ 3600 % fieldOf v 11 0 ≠ 0) :=
  ⟨.hp0, 59, ready, by decide⟩

theorem witness_MeteringPulsesAndSaves_13 : ∃ (x : HPort) (k : Fin 8) (v : Word) (s : State), (s.mayWrite x 14 = true) :=
  by exact ⟨.hp0, 0, 0, ready, by decide⟩

theorem witness_MeteringPulsesAndSaves_14 : ∃ (x : HPort) (k : Fin 8) (v : Word) (s : State), (s.mayWrite x 14 = true) ∧ (fieldOf v 31 31 = 0 ∨ (2 ≤ fieldOf v 15 8 ∧ fieldOf v 15 8 ≤ 100)) :=
  by exact ⟨.hp0, 0, 0, ready, by decide, by decide⟩

theorem witness_MeteringPulsesAndSaves_15 : ∃ (x : HPort) (k : Fin 8) (v : Word) (s : State), (s.mayWrite x 14 = true) :=
  by exact ⟨.hp0, 0, 0, ready, by decide⟩

theorem witness_TheftWatchAndSupplyLoss_1 : ∃ (x : HPort) (k : Fin 16) (v : Word) (s : State), (s.mayWrite x 14 = true) :=
  by exact ⟨.hp0, 0, 0, ready, by decide⟩

theorem witness_TheftWatchAndSupplyLoss_2 : ∃ (x : HPort) (v : Word) (s : State), (s.mayWrite x 14 = true) :=
  by exact ⟨.hp0, 0, ready, by decide⟩

theorem witness_TheftWatchAndSupplyLoss_3 : ∃ (codes : List (List Int)) (s : State), (s.watching = true) :=
  ⟨[], { regIs (ready.setF F.PWR_MEAS_VBAK 300) Reg.MTR_TWCTL 0xFFFFFFFF with time := { ready.time with keep := true } }, by decide⟩

theorem witness_TheftWatchAndSupplyLoss_4 : ∃ (codes : List (List Int)) (s : State), (s.variant.lacks 14 = true ∨ s.time.keep = false ∨ s.on F.MTR_TWCTL_EN = false) :=
  by exact ⟨[], ready, by decide⟩

theorem witness_TheftWatchAndSupplyLoss_5 : ∃ (codes : List (List Int)) (s : State), (s.variant.lacks 14 = false) ∧ (s.time.keep = true) ∧ (s.on F.MTR_TWCTL_EN = true) ∧ (s.rf F.PWR_MEAS_VBAK < 270) :=
  ⟨[], { regIs (ready.setF F.PWR_MEAS_VBAK 200) Reg.MTR_TWCTL 0xFFFFFFFF with time := { ready.time with keep := true } }, by decide⟩

theorem witness_TheftWatchAndSupplyLoss_6 : ∃ (s : State), (s.watching = true) :=
  ⟨{ regIs (ready.setF F.PWR_MEAS_VBAK 300) Reg.MTR_TWCTL 0xFFFFFFFF with time := { ready.time with keep := true } }, by decide⟩

theorem witness_TheftWatchAndSupplyLoss_7 : ∃ (s : State), (s.watching = false) :=
  by exact ⟨State.reset, by decide⟩

theorem witness_TheftWatchAndSupplyLoss_8 : ∃ (k : Fin 16) (s : State), (s.on (F.MTR_TW_EN k) = false) :=
  by exact ⟨0, State.reset, by decide⟩

theorem witness_TheftWatchAndSupplyLoss_9 : ∃ (k : Fin 16) (s : State), (s.on (F.MTR_TW_EN k) = true) ∧ ((s.watchJudge k).2 = false) :=
  by exact ⟨0, { (ready.setF (F.MTR_TW_EN 0) 1) with mtr := { ready.mtr with kept := { ready.mtr.kept with qualified := [(0,true)], recorded := [(0,false)], episodes := [] } } }, by decide, by decide⟩

theorem witness_TheftWatchAndSupplyLoss_10 : ∃ (k : Fin 16) (s : State), (s.on (F.MTR_TW_EN k) = true) ∧ ((s.watchJudge k).2 = true) ∧ (Store.get noFlag s.mtr.kept.qualified k = false) ∧ (32 ≤ s.mtr.kept.episodes.length) :=
  by exact ⟨0, { regIs (regIs ready (Reg.MTR_TW 0) 0x80000000) Reg.MTR_TWCTL 0xFFFFFFFF with mtr := { ready.mtr with kept := { ready.mtr.kept with watchRms := [5000, 5000, 5000, 5000, 5000], circImg := some ([0x80000000, 0, 0, 0, 0, 0, 0, 0], true), episodes := List.replicate 32 ⟨0, 0, 0, 0⟩ } } }, by decide, by decide, by decide, by decide⟩

theorem witness_TheftWatchAndSupplyLoss_11 : ∃ (k : Fin 16) (s : State), (s.on (F.MTR_TW_EN k) = true) ∧ ((s.watchJudge k).2 = true) ∧ (Store.get noFlag s.mtr.kept.qualified k = true) ∧ (Store.get noFlag s.mtr.kept.recorded k = false) :=
  by exact ⟨0, { regIs (regIs ready (Reg.MTR_TW 0) 0x80000000) Reg.MTR_TWCTL 0xFFFFFFFF with mtr := { ready.mtr with kept := { ready.mtr.kept with watchRms := [5000, 5000, 5000, 5000, 5000], circImg := some ([0x80000000, 0, 0, 0, 0, 0, 0, 0], true), qualified := [(0, true)] } } }, by decide, by decide, by decide, by decide⟩

theorem witness_TheftWatchAndSupplyLoss_12 : ∃ (k : Fin 16) (s : State), (s.on (F.MTR_TW_EN k) = true) ∧ ((s.watchJudge k).2 = true) ∧ (Store.get noFlag s.mtr.kept.qualified k = false) ∧ (s.mtr.kept.episodes.length < 32) :=
  ⟨0, { regIs (regIs ready (Reg.MTR_TW 0) 0x80000000) Reg.MTR_TWCTL 0xFFFFFFFF with mtr := { ready.mtr with kept := { ready.mtr.kept with watchRms := [5000, 5000, 5000, 5000, 5000], circImg := some ([0x80000000, 0, 0, 0, 0, 0, 0, 0], true) } } }, by decide⟩

theorem witness_TheftWatchAndSupplyLoss_13 : ∃ (s : State), (s.time.keep = false) :=
  by exact ⟨State.reset, by decide⟩

theorem witness_TheftWatchAndSupplyLoss_14 : ∃ (s : State), (s.time.keep = true) :=
  by exact ⟨({ ready with time := { ready.time with keep := true } }), by decide⟩

theorem witness_TheftWatchAndSupplyLoss_15 : ∃ (s : State), (s.time.keep = false) ∧ (s.rst.phase ≠ 0) :=
  by exact ⟨ready, by decide, by decide⟩

theorem witness_TheftWatchAndSupplyLoss_16 : ∃ (s : State), (s.time.keep = true ∨ s.rst.phase = 0) :=
  by exact ⟨State.reset, by decide⟩

theorem witness_SafetyIslandCycle_1 : ∃ (c : SafCh) (v : SafView) (s : State), (s.hasIsland = true) ∧ (s.saf.run = true) ∧ (s.saf.selfTest = false) :=
  ⟨.x, noView, island [], by decide⟩

theorem witness_SafetyIslandCycle_2 : ∃ (c : SafCh) (v : SafView) (stp : SafCh) (a b : BitVec 16) (s : State), (s.hasIsland = false ∨ s.saf.run = false ∨ s.saf.selfTest = true) :=
  by exact ⟨.x, noView, .x, 0, 0, ready, by decide⟩

theorem witness_SafetyIslandCycle_3 : ∃ (c : SafCh) (k : Fin 8) (fell rose : Bool) (s : State), (s.hasIsland = true) ∧ (s.brakeOn k = true) ∧ ((s.chan c).oe = true) :=
  ⟨.x, 0, true, true, { island [] with saf := { (island []).saf with x := { (island []).saf.x with gates := 1, oe := true }, y := { (island []).saf.y with gates := 1, oe := true } } }, by decide⟩

theorem witness_SafetyIslandCycle_4 : ∃ (c : SafCh) (k : Fin 8) (fell rose : Bool) (s : State), (s.hasIsland = false ∨ s.brakeOn k = false ∨ (s.chan c).oe = false) :=
  by exact ⟨.x, 0, true, true, State.reset, by decide⟩

theorem witness_SafetyIslandCycle_6 : ∃ (stp c : SafCh) (a b : BitVec 16) (s : State), (s.hasIsland = true) ∧ (s.saf.run = true) ∧ (s.saf.selfTest = false) :=
  ⟨.x, .x, 0, 0, island [], by decide⟩

theorem witness_SafetyIslandCycle_7 : ∃ (req treq : Nat) (s : State), (s.saf.sent = some (req, treq)) ∧ (s.hasIsland = true) ∧ (s.saf.run = true) :=
  ⟨1, 0, { island [] with saf := { (island []).saf with sent := some (1, 0) } }, by decide⟩

theorem witness_SafetyIslandCycle_9 : ∃ (s : State), (s.hasIsland = true) ∧ (s.saf.link = true) :=
  ⟨island [], by decide⟩

theorem witness_SafetyIslandCycle_10 : ∃ (s : State), (s.hasIsland = false ∨ s.saf.link = false) :=
  by exact ⟨State.reset, by decide⟩

theorem witness_SafetyIslandCycle_11 : ∃ (s : State), (s.hasIsland = true) ∧ (s.saf.run = true) :=
  ⟨island [], by decide⟩

theorem witness_SafetyIslandCycle_12 : ∃ (s : State), (s.hasIsland = false ∨ s.saf.run = false) :=
  by exact ⟨State.reset, by decide⟩

theorem witness_SafetyIslandCycle_13 : ∃ (c : SafCh) (s : State), ((s.chan c).oe = true) :=
  by exact ⟨.x, ready.setChan .x { ready.saf.x with oe := true }, by decide⟩

theorem witness_SafetyIslandCycle_14 : ∃ (c : SafCh) (k : Fin 8) (s : State), ((s.chan c).oe = false) ∧ (bitOf ((s.oeRise c).chan c).gates k = true) :=
  ⟨.x, 0, { island [] with saf := { (island []).saf with x := { (island []).saf.x with held := [(0, 100)] } } }, by decide⟩

theorem witness_SafetyMessagesAndDegradedOperation_1 : ∃ (lanB : Bool) (m : List Byte) (rest : List (Bool × List Byte)) (s : State), (s.saf.inbox = (lanB, m) :: rest) ∧ (s.hasIsland = true) ∧ (s.saf.run = true) ∧ (s.saf.selfTest = false) :=
  ⟨false, [], [], { island [] with saf := { (island []).saf with inbox := [(false, [])] } }, by decide⟩

theorem witness_SafetyMessagesAndDegradedOperation_2 : ∃ (k : Bool × List Byte) (rest : List (Bool × List Byte)) (s : State), (s.saf.inbox = k :: rest) ∧ (s.hasIsland = false ∨ s.saf.run = false ∨ s.saf.selfTest = true) :=
  by exact ⟨_, _, ready.setSaf { ready.saf with inbox := [(true, [])] }, rfl, by decide⟩

theorem witness_SafetyMessagesAndDegradedOperation_3 : ∃ (s : State), (s.saf.inbox = []) :=
  by exact ⟨State.reset, by decide⟩

theorem witness_SafetyMessagesAndDegradedOperation_4 : ∃ (j : Fin 16) (lanB : Bool) (k : Bool × Nat × List Byte) (s : State), ((s.stream j).single.find? (fun e => e.1 != lanB) = some k) ∧ ((s.stream j).missB ≠ lanB ∨ (s.stream j).miss = 0) :=
  ⟨0, true, (false, 5, []), { island [] with saf := { (island []).saf with streams := [(0, { SafStream.dflt 0 with single := [(false, 5, [])] })] } }, by decide⟩

theorem witness_SafetyMessagesAndDegradedOperation_5 : ∃ (j : Fin 16) (lanB : Bool) (k : Bool × Nat × List Byte) (s : State), ((s.stream j).single.find? (fun e => e.1 != lanB) = some k) ∧ ((s.stream j).missB = lanB) ∧ (2 ≤ (s.stream j).miss) ∧ ((s.stream j).degr = false) ∧ (s.saf.kept.causes / 2 ^ 7 % 16 = 0) :=
  by exact ⟨0, false, _, ready.setStream 0 { SafStream.dflt 0 with single := [(true, 0, [])], miss := 2 }, rfl, by decide, by decide, by decide, by decide⟩

theorem witness_SafetyMessagesAndDegradedOperation_6 : ∃ (j : Fin 16) (lanB : Bool) (s : State), ((s.stream j).single.find? (fun e => e.1 != lanB) = none) :=
  by exact ⟨0, true, State.reset, by decide⟩

theorem witness_SafetyMessagesAndDegradedOperation_7 : ∃ (c : SafCh) (s : State), (s.degraded ≠ []) ∧ ((s.chan c).rem = 0) :=
  ⟨.x, { island [] with saf := { (island []).saf with streams := [(0, { SafStream.dflt 0 with degr := true })] } }, by decide⟩

theorem witness_SafetyMessagesAndDegradedOperation_8 : ∃ (c : SafCh) (s : State), (s.degraded = [] ∨ (s.chan c).rem ≠ 0) :=
  by exact ⟨.x, State.reset, by decide⟩

theorem witness_SafetyMessagesAndDegradedOperation_9 : ∃ (s : State), (s.degraded ≠ [] ∨ s.saf.good < 60000) :=
  by exact ⟨State.reset, by decide⟩

theorem witness_SafetyMessagesAndDegradedOperation_11 : ∃ (s : State), (s.degraded = []) ∧ (60000 ≤ s.saf.good) :=
  ⟨{ island [] with saf := { (island []).saf with good := 60000 } }, by decide⟩

theorem witness_SafetyMessagesAndDegradedOperation_12 : ∃ (j : Fin 16) (s : State), (s.hasIsland = true) ∧ (s.rxEn j = true) ∧ ((s.stream j).ever = true) :=
  ⟨0, { island (List.replicate 82 0 ++ [0x80000000]) with saf := { (island (List.replicate 82 0 ++ [0x80000000])).saf with streams := [(0, { SafStream.dflt 0 with ever := true })] } }, by decide⟩

theorem witness_SafetyMessagesAndDegradedOperation_13 : ∃ (j : Fin 16) (s : State), (s.hasIsland = false ∨ s.rxEn j = false ∨ (s.stream j).ever = false) :=
  by exact ⟨0, State.reset, by decide⟩

theorem witness_SafetyMessagesAndDegradedOperation_14 : ∃ (j : Fin 4) (s : State), (s.hasIsland = false ∨ s.saf.run = false ∨ s.saf.selfTest = true ∨ s.oeact = false ∨ s.txEn j = false) :=
  by exact ⟨0, State.reset, by decide⟩

theorem witness_SafetyMessagesAndDegradedOperation_15 : ∃ (j : Fin 4) (s : State), (s.hasIsland = true) ∧ (s.saf.run = true) ∧ (s.saf.selfTest = false) ∧ (s.oeact = true) ∧ (s.txEn j = true) :=
  ⟨0, { island (List.replicate 114 0 ++ [0x80000000]) with saf := { (island (List.replicate 114 0 ++ [0x80000000])).saf with x := { (island []).saf.x with oe := true }, y := { (island []).saf.y with oe := true } } }, by decide⟩

theorem witness_BrakeTestsResetsAndIslandStart_1 : ∃ (k : Fin 8) (s : State), (s.brakeTest k = 1) :=
  ⟨0, { island [] with saf := { (island []).saf with test := [(0, 1)] } }, by decide⟩

theorem witness_BrakeTestsResetsAndIslandStart_3 : ∃ (k : Fin 8) (ex ey slip : Nat) (s : State), (s.brakeTest k = 2) ∧ (ex = Store.get natZero s.saf.x.enc k) ∧ (ey = Store.get natZero s.saf.y.enc k) ∧ (slip = fieldOf (s.brkWord k 6) 23 12) :=
  by exact ⟨0, _, _, _, { island [] with saf := { (island []).saf with test := [(0, 2)] } }, by decide, rfl, rfl, rfl⟩

theorem witness_BrakeTestsResetsAndIslandStart_4 : ∃ (k : Fin 8) (s : State), (s.brakeTest k = 2) ∧ (Store.get natZero s.saf.x.enc k = 0) ∧ (Store.get natZero s.saf.y.enc k = 0) :=
  ⟨0, { island [] with saf := { (island []).saf with test := [(0, 2)] } }, by decide⟩

theorem witness_BrakeTestsResetsAndIslandStart_5 : ∃ (k : Fin 8) (s : State), (s.hasIsland = true) ∧ (s.brkTested k = true) ∧ (bitOf s.saf.due k = false) ∧ (s.btInt k ≤ Store.get natZero s.saf.elapsed k) :=
  ⟨0, island (List.replicate 18 0 ++ [0xA0000000]), by decide⟩

theorem witness_BrakeTestsResetsAndIslandStart_6 : ∃ (k : Fin 8) (s : State), (s.hasIsland = false ∨ s.brkTested k = false) :=
  by exact ⟨0, State.reset, by decide⟩

theorem witness_BrakeTestsResetsAndIslandStart_8 : ∃ (k : Fin 8) (s : State), (s.hasIsland = true) ∧ (s.brkTested k = true) ∧ (bitOf s.saf.kept.overdueK k = false) ∧ (3 * s.btInt k ≤ 2 * Store.get natZero s.saf.elapsed k) :=
  ⟨0, island (List.replicate 18 0 ++ [0xA0000000]), by decide⟩

theorem witness_BrakeTestsResetsAndIslandStart_9 : ∃ (press : Nat) (s : State), (s.hasIsland = true) ∧ (s.saf.run = true) ∧ (s.saf.selfTest = false) ∧ (500 ≤ press) ∧ (press ≤ 5000) ∧ (s.safLocked = true) ∧ ((List.range 21).all (fun c => !bitOf s.adoptSwitches.saf.kept.causes c || (s.adoptSwitches.causeGone (c + 1) && !ownFault (c + 1))) = true) :=
  ⟨1000, { island [] with saf := { (island []).saf with x := { (island []).saf.x with locked := true }, y := { (island []).saf.y with locked := true }, kept := { (island []).saf.kept with causes := 0x2000, sw := some (0, 1) } } }, by decide⟩

theorem witness_BrakeTestsResetsAndIslandStart_10 : ∃ (press : Nat) (s : State), (s.hasIsland = true) ∧ (s.saf.run = true) ∧ (s.saf.selfTest = false) ∧ (500 ≤ press) ∧ (press ≤ 5000) ∧ (s.safLocked = true) ∧ ((List.range 21).any (fun c => bitOf s.adoptSwitches.saf.kept.causes c && !s.adoptSwitches.causeGone (c + 1)) = true) :=
  by exact ⟨500, { ready with saf := { ready.saf with run := true, selfTest := false, resetWait := none, x := { ready.saf.x with locked := true }, kept := { ready.saf.kept with failedK := 1, causes := 2 ^ 13 } } }, by decide, by decide, by decide, by decide, by decide, by decide, by decide⟩

theorem witness_BrakeTestsResetsAndIslandStart_11 : ∃ (press : Nat) (s : State), (s.hasIsland = true) ∧ (s.saf.run = true) ∧ (s.saf.selfTest = false) ∧ (500 ≤ press) ∧ (press ≤ 5000) ∧ (s.safLocked = true) ∧ ((List.range 21).all (fun c => !bitOf s.adoptSwitches.saf.kept.causes c || s.adoptSwitches.causeGone (c + 1)) = true) ∧ ((List.range 21).any (fun c => bitOf s.adoptSwitches.saf.kept.causes c && ownFault (c + 1)) = true) :=
  by exact ⟨500, { ready with saf := { ready.saf with run := true, selfTest := false, resetWait := none, x := { ready.saf.x with locked := true }, kept := { ready.saf.kept with causes := 2 } } }, by decide, by decide, by decide, by decide, by decide, by decide, by decide, by decide⟩

theorem witness_BrakeTestsResetsAndIslandStart_12 : ∃ (press : Nat) (s : State), (s.hasIsland = true) ∧ (s.saf.run = true) ∧ (s.saf.selfTest = false) ∧ (5000 < press) :=
  ⟨5001, island [], by decide⟩

theorem witness_BrakeTestsResetsAndIslandStart_13 : ∃ (press : Nat) (s : State), (press < 500 ∨ s.hasIsland = false ∨ s.saf.run = false ∨ s.saf.selfTest = true ∨ (press ≤ 5000 ∧ s.safLocked = false)) :=
  by exact ⟨0, State.reset, by decide⟩

theorem witness_BrakeTestsResetsAndIslandStart_14 : ∃ (saddr : BitVec 16) (sopt : BitVec 8) (s : State), (s.hasIsland = true) :=
  by exact ⟨0, 0, State.reset, by decide⟩

theorem witness_BrakeTestsResetsAndIslandStart_15 : ∃ (saddr : BitVec 16) (sopt : BitVec 8) (s : State), (s.hasIsland = false) :=
  by exact ⟨0, 0, ({ ready with variant := .ofc920 }), by decide⟩

theorem witness_BrakeTestsResetsAndIslandStart_16 : ∃ (cause : Nat) (s : State), (s.hasIsland = false ∨ s.saf.selfTest = false) :=
  by exact ⟨0, State.reset, by decide⟩

theorem witness_BrakeTestsResetsAndIslandStart_17 : ∃ (press : Nat) (s t : State), (s.hasIsland = true) ∧ (s.saf.selfTest = true) ∧ (s.saf.resetWait = some press) ∧ (t = s.setSaf { s.saf with selfTest := false, resetWait := none }) :=
  by exact ⟨_, { ready with saf := { ready.saf with run := true, selfTest := true, resetWait := some 500, x := { ready.saf.x with locked := true }, kept := { ready.saf.kept with causes := 0 } } }, _, by decide, by decide, rfl, rfl⟩

theorem witness_BrakeTestsResetsAndIslandStart_18 : ∃ (cause found : Nat) (s t : State), (s.hasIsland = true) ∧ (s.saf.selfTest = true) ∧ (s.saf.resetWait = none) ∧ (cause ≠ 0) ∧ (found = (if cause = 0x01 ∨ cause = 0x15 then cause else 0x02)) ∧ (t = (s.setSaf { s.saf with selfTest := false, resetWait := none }).safEvent 0x0F0C (wd found) s.safCrc (wd (ofBool s.saf.restored))) :=
  by exact ⟨2, _, { ready with saf := { ready.saf with run := true, selfTest := true, resetWait := none, x := { ready.saf.x with locked := false }, kept := { ready.saf.kept with causes := 0 } } }, _, by decide, by decide, by decide, by decide, rfl, rfl⟩

theorem witness_BrakeTestsResetsAndIslandStart_19 : ∃ (s : State), (s.hasIsland = true) ∧ (s.saf.selfTest = true) ∧ (s.saf.resetWait = none) :=
  ⟨{ island [] with saf := { (island []).saf with selfTest := true } }, by decide⟩

theorem witness_RiserFrames_1 : ∃ (r : Fin 4) (data : List Byte) (m : RiserRx) (s : State), (s.riserUp r = true) ∧ (m.err = true ∨ data.length < 60 ∨ 9028 < data.length) ∧ (m.idle = false) :=
  ⟨0, [], ⟨true, none, false⟩, ready.setF (F.RSR_PSTAT_LINK 0) 1, by decide⟩

theorem witness_RiserFrames_2 : ∃ (r : Fin 4) (data : List Byte) (m : RiserRx) (s : State), (s.riserUp r = true) ∧ (m.err = true) ∧ (m.idle = true) :=
  by exact ⟨0, [], ⟨true, none, true⟩, (ready.setF (F.RSR_PSTAT_LINK 0) 1), by decide, by decide, by decide⟩

theorem witness_RiserFrames_3 : ∃ (r : Fin 4) (data : List Byte) (m : RiserRx) (s : State), (s.riserUp r = false) :=
  by exact ⟨0, [], ⟨true, none, true⟩, ready.setF (F.RSR_PSTAT_LINK 0) 0, by decide⟩

theorem witness_RiserFrames_4 : ∃ (r : Fin 4) (data : List Byte) (m : RiserRx) (t s : State), (s.riserUp r = true) ∧ (m.err = false) ∧ (60 ≤ data.length) ∧ (data.length ≤ 9028) ∧ ((s.countRsr 8 r (data.length + 4)).macsecCheck r data m.sec = (true, t)) ∧ (dstOf data / 16 ≠ 0x0180C200000) ∧ (tagOf data = none ∨ (∃ p, tagOf data = some (p, 0)) ∨ (∃ p, tagOf data = some (p, t.rf F.RSR_CTL_VID))) :=
  by exact ⟨0, List.replicate 60 0, ⟨false, none, true⟩, _, (ready.setF (F.RSR_PSTAT_LINK 0) 1), by decide, by decide, by decide, by decide, rfl, by decide, by exact Or.inl (by decide)⟩

theorem witness_RiserFrames_5 : ∃ (r : Fin 4) (data : List Byte) (m : RiserRx) (t s : State), (s.riserUp r = true) ∧ (m.err = false) ∧ (60 ≤ data.length) ∧ (data.length ≤ 9028) ∧ ((s.countRsr 8 r (data.length + 4)).macsecCheck r data m.sec = (true, t)) :=
  by exact ⟨0, List.replicate 60 0, ⟨false, none, true⟩, _, (ready.setF (F.RSR_PSTAT_LINK 0) 1), by decide, by decide, by decide, by decide, rfl⟩

theorem witness_RiserFrames_6 : ∃ (r : Fin 4) (data : List Byte) (m : RiserRx) (t s : State), (s.riserUp r = true) ∧ (m.err = false) ∧ (60 ≤ data.length) ∧ (data.length ≤ 9028) ∧ ((s.countRsr 8 r (data.length + 4)).macsecCheck r data m.sec = (false, t)) ∧ (m.idle = false) :=
  by exact ⟨0, List.replicate 60 0, ⟨false, none, false⟩, _, (regIs ready (Reg.RSR_PCTL 0) 0xFFFFFFFF).setF (F.RSR_PSTAT_LINK 0) 1, by decide, by decide, by decide, by decide, rfl, by decide⟩

theorem witness_RiserFrames_7 : ∃ (r : Fin 4) (c : Nat) (k : Pkt) (s t u : State), (s.riserUp r = true) ∧ (s.nextClass r = (some c, t)) ∧ (t.takePkt (riserTx r c) = (some k, u)) :=
  by exact ⟨0, 7, mkPkt [1] 0 0 0, { ready.setF (F.RSR_PSTAT_LINK 0) 1 with pool := { ready.pool with queues := [(riserTx 0 7, [mkPkt [1] 0 0 0])] } }, _, _, by decide, rfl, rfl⟩

theorem witness_RiserFrames_9 : ∃ (r : Fin 4) (c : Nat) (s t : State), (s.nextClass r = (some c, t)) :=
  by exact ⟨0, 7, { ready.setF (F.RSR_PSTAT_LINK 0) 1 with pool := { ready.pool with queues := [(riserTx 0 7, [mkPkt [1] 0 0 0])] } }, _, rfl⟩

theorem witness_RiserFrames_12 : ∃ (r : Fin 4) (c : Fin 8) (k : Pkt) (ks : List Pkt) (s t : State), (s.queue (riserTx r c) = k :: ks) ∧ (s.riserUp r = true) ∧ (1024 ≤ k.src) ∧ (256 * s.rf (F.RSR_PTXTH_TH r) < k.data.length) ∧ (s.takePkt (riserTx r c) = (some k, t)) :=
  by exact ⟨0, 0, _, _, ((ready.setF (F.RSR_PSTAT_LINK 0) 1).setF (F.RSR_PTXTH_TH 0) 0).setQueue 384 [mkPkt [1] 1024 0 0], _, rfl, by decide, by decide, by decide, rfl⟩

theorem witness_RiserFrames_13 : ∃ (r : Fin 4) (c : Fin 8) (k : Pkt) (ks : List Pkt) (s t : State), (s.queue (riserTx r c) = k :: ks) :=
  by exact ⟨0, 0, _, _, ready.setQueue 384 [mkPkt [1] 1024 0 0], ready, rfl⟩

theorem witness_RiserFrames_14 : ∃ (r : Fin 4) (c : Fin 8) (s : State), (s.queue (riserTx r c) = []) :=
  by exact ⟨0, 0, State.reset, by decide⟩

theorem witness_RiserLinksAndOwnTraffic_1 : ∃ (r : Fin 4) (pre : Bool) (s : State), (s.on (F.RSR_PCTL_EN r) = true) ∧ (s.on (F.RSR_PSTAT_LINK r) = false) ∧ (s.inReset 16 = false) ∧ (s.opticRefused r = false) :=
  by exact ⟨0, true, ready, by decide, by decide, by decide, by decide⟩

theorem witness_RiserLinksAndOwnTraffic_2 : ∃ (r : Fin 4) (pre : Bool) (s : State), (s.on (F.RSR_PCTL_EN r) = false ∨ s.on (F.RSR_PSTAT_LINK r) = true ∨ s.inReset 16 = true ∨ s.opticRefused r = true) :=
  by exact ⟨0, true, State.reset, by decide⟩

theorem witness_RiserLinksAndOwnTraffic_3 : ∃ (r : Fin 4) (los txFlt : Bool) (s : State), (s.on (F.RSR_PSTAT_LINK r) = false) :=
  by exact ⟨0, true, true, State.reset, by decide⟩

theorem witness_RiserLinksAndOwnTraffic_4 : ∃ (r : Fin 4) (los txFlt : Bool) (s : State), (s.on (F.RSR_PSTAT_LINK r) = true) :=
  by exact ⟨0, true, false, (ready.setF (F.RSR_PSTAT_LINK 0) 1), by decide⟩

theorem witness_RiserLinksAndOwnTraffic_6 : ∃ (r : Fin 4) (cls nm : Nat) (los txFlt : Bool) (s : State), (s.inReset 16 = true) :=
  by exact ⟨0, 0, 0, true, true, State.reset, by decide⟩

theorem witness_RiserLinksAndOwnTraffic_7 : ∃ (r : Fin 4) (cls nm : Nat) (los txFlt : Bool) (s : State), (s.inReset 16 = false) ∧ (2 < cls ∨ wavelengthFits (s.on (F.RSR_PCTL_SPEED r)) nm = false) :=
  by exact ⟨0, 0, 0, true, true, ready, by decide, by decide⟩

theorem witness_RiserLinksAndOwnTraffic_8 : ∃ (r : Fin 4) (cls nm : Nat) (los txFlt : Bool) (s : State), (s.inReset 16 = false) ∧ (cls ≤ 2) ∧ (wavelengthFits (s.on (F.RSR_PCTL_SPEED r)) nm = true) :=
  by exact ⟨0, 1, 850, false, false, ready, by decide, by decide, by decide⟩

theorem witness_RiserLinksAndOwnTraffic_9 : ∃ (l : Fin 2) (s : State), (s.rf (F.RSR_MRP_ROLE l) = 2) ∧ (s.inReset 16 = false) ∧ (s.on (F.RSR_MRPSTAT_OPEN l) = false) :=
  ⟨0, regIs (regIs ready (Reg.RSR_MRP 0) 0x80000000) (Reg.RSR_MRPSTAT 0) 0, by decide⟩

theorem witness_RiserLinksAndOwnTraffic_10 : ∃ (l : Fin 2) (s : State), (s.rf (F.RSR_MRP_ROLE l) ≠ 2 ∨ s.inReset 16 = true ∨ s.on (F.RSR_MRPSTAT_OPEN l) = true) :=
  by exact ⟨0, State.reset, by decide⟩

theorem witness_RiserLinksAndOwnTraffic_11 : ∃ (s : State), (s.inReset 16 = true) :=
  by exact ⟨State.reset, by decide⟩

theorem witness_RiserLinksAndOwnTraffic_12 : ∃ (s : State), (s.inReset 16 = false) :=
  by exact ⟨ready, by decide⟩

theorem witness_RiserLinksAndOwnTraffic_13 : ∃ (s : State), (s.active = false ∨ s.twn.fresh = true ∨ s.inReset 16 = true ∨ s.inReset 10 = true) :=
  by exact ⟨State.reset, by decide⟩

theorem witness_RiserLinksAndOwnTraffic_14 : ∃ (s : State), (s.active = false ∨ s.unsentPubs = 0) :=
  by exact ⟨State.reset, by decide⟩

theorem witness_RiserLinksAndOwnTraffic_15 : ∃ (s : State), (s.active = true) ∧ (s.twn.fresh = false) ∧ (s.inReset 16 = false) ∧ (s.inReset 10 = false) :=
  by exact ⟨ready, by decide, by decide, by decide, by decide⟩

theorem witness_RiserLinksAndOwnTraffic_16 : ∃ (s : State), (s.active = true) ∧ (s.unsentPubs ≠ 0) :=
  ⟨{ ready with pool := { ready.pool with queues := [(riserTx 0 5, [{ mkPkt [1] 0 0 0 with point := true }])] } }, by decide⟩

theorem witness_RiserLinksAndOwnTraffic_18 : ∃ (x : HPort) (k : Fin 12) (r : Fin 4) (s : State), (s.inReset 16 = true) :=
  by exact ⟨.hp0, 0, 0, State.reset, by decide⟩

theorem witness_RiserLinksAndOwnTraffic_19 : ∃ (x : HPort) (k : Fin 12) (r : Fin 4) (s : State), (s.inReset 16 = false) :=
  by exact ⟨.hp0, 0, 0, ready, by decide⟩

theorem witness_TwinClaimsAndContention_1 : ∃ (s : State), (s.mayClaim = true) :=
  by exact ⟨(regIs ready 0x110008 0), by decide⟩

theorem witness_TwinClaimsAndContention_2 : ∃ (s : State), (s.role ≠ 0 ∨ s.inReset 17 = true ∨ s.on F.TWN_STAT_PEERACT = true ∨ s.dropPending = true ∨ (s.warmOk = false ∧ s.coldOk = false)) :=
  by exact ⟨State.reset, by decide⟩

theorem witness_TwinClaimsAndContention_3 : ∃ (s : State), (s.on F.TWN_STAT_PEERACT = false) ∧ (s.inReset 17 = false) ∧ (s.role = 1) ∧ (s.on F.TWN_STAT_TWINID = true) :=
  ⟨regIs ready Reg.TWN_STAT 0x60000000, by decide⟩

theorem witness_TwinClaimsAndContention_4 : ∃ (s : State), (s.on F.TWN_STAT_PEERACT = false) ∧ (s.inReset 17 = false) ∧ (s.role = 1) ∧ (s.on F.TWN_STAT_TWINID = false) :=
  ⟨regIs ready Reg.TWN_STAT 0x40000000, by decide⟩

theorem witness_TwinClaimsAndContention_5 : ∃ (s t : State), (t = s.setF F.TWN_STAT_PEERACT 1) :=
  by exact ⟨State.reset, _, rfl⟩

theorem witness_TwinClaimsAndContention_6 : ∃ (s : State), (s.role ≠ 1 ∨ s.twn.contended = false ∨ s.on F.TWN_STAT_PEERACT = false) :=
  by exact ⟨State.reset, by decide⟩

theorem witness_TwinClaimsAndContention_7 : ∃ (us : Nat) (s t : State), (s.role ≠ 1) ∧ (t = s.setF F.TWN_STAT_PEERACT 0) :=
  by exact ⟨0, State.reset, _, by decide, rfl⟩

theorem witness_TwinClaimsAndContention_8 : ∃ (s : State), (s.active = false ∨ s.on F.TWN_STAT_PEERACT = false) :=
  by exact ⟨State.reset, by decide⟩

theorem witness_TwinClaimsAndContention_9 : ∃ (s : State), (s.role = 1) ∧ (s.twn.contended = true) ∧ (s.on F.TWN_STAT_PEERACT = true) :=
  ⟨{ regIs ready Reg.TWN_STAT 0x68000000 with twn := { ready.twn with contended := true } }, by decide⟩

theorem witness_TwinClaimsAndContention_10 : ∃ (us : Nat) (s : State), (s.role = 1) :=
  ⟨5, regIs ready Reg.TWN_STAT 0x40000000, by decide⟩

theorem witness_TwinClaimsAndContention_11 : ∃ (s : State), (s.active = true) ∧ (s.on F.TWN_STAT_PEERACT = true) :=
  ⟨ready.setF F.TWN_STAT_PEERACT 1, by decide⟩

theorem witness_TwinClaimsAndContention_12 : ∃ (s : State), (s.role = 1) ∧ (s.on F.TWN_STAT_PEERACT = false) ∧ (s.twn.contended = false) ∧ (s.inReset 17 = false) :=
  ⟨regIs ready Reg.TWN_STAT 0x40000000, by decide⟩

theorem witness_TwinClaimsAndContention_13 : ∃ (s : State), (s.role ≠ 1 ∨ s.on F.TWN_STAT_PEERACT = true ∨ s.twn.contended = true ∨ s.inReset 17 = true) :=
  by exact ⟨State.reset, by decide⟩

theorem witness_TwinClaimsAndContention_14 : ∃ (cause : Fin 8) (s : State), (1 ≤ cause.val) ∧ (cause.val ≤ 4) ∧ (s.active = true) :=
  ⟨2, ready, by decide⟩

theorem witness_TwinClaimsAndContention_15 : ∃ (cause : Fin 8) (s t : State), (1 ≤ cause.val) ∧ (cause.val ≤ 4) ∧ (s.active = false) ∧ (t = (if s.twn.causes.contains cause.val then s else s.setTwn { s.twn with causes := cause.val :: s.twn.causes })) :=
  by exact ⟨1, State.reset, _, by decide, by decide, by decide, rfl⟩

theorem witness_TwinClaimsAndContention_17 : ∃ (cause : Nat) (s : State), (cause ≤ 7) :=
  by exact ⟨0, State.reset, by decide⟩

theorem witness_TwinClaimsAndContention_19 : ∃ (x : HPort) (s : State), (s.inReset 17 = false) ∧ (s.active = true) ∧ (s.on F.TWN_STAT_PEERELIG = true) :=
  ⟨.hp0, ready.setF F.TWN_STAT_PEERELIG 1, by decide⟩

theorem witness_TwinLinkAndRecords_1 : ∃ (cap0 cap1 : Word) (s : State), (s.inReset 17 = false) ∧ (s.active = true) ∧ (cap0 = s.reg Reg.SYS_CAP0) ∧ (cap1 = s.reg Reg.SYS_CAP1) :=
  by exact ⟨_, _, ready, by decide, by decide, rfl, rfl⟩

theorem witness_TwinLinkAndRecords_2 : ∃ (cap0 cap1 : Word) (s : State), (s.inReset 17 = false) :=
  by exact ⟨0, 0, ready, by decide⟩

theorem witness_TwinLinkAndRecords_3 : ∃ (cap0 cap1 : Word) (s : State), (s.inReset 17 = true) :=
  by exact ⟨0, 0, State.reset, by decide⟩

theorem witness_TwinLinkAndRecords_5 : ∃ (r : TwinRec) (s : State), (s.inReset 17 = false) ∧ (s.on F.TWN_STAT_LINK = true) ∧ (s.active = false) ∧ (r.crcOk = true) ∧ (r.trunc = false) ∧ (s.twn.expect = none ∨ s.twn.expect = some r.frame) :=
  ⟨⟨0, 0, 0, 0, 0, 0, 0, false, false, [], 0, 1, ⟨0, 0, 0, 0, 0, 0, 0, 0, false⟩, true⟩, (regIs ready Reg.TWN_STAT 0).setF F.TWN_STAT_LINK 1, by decide⟩

theorem witness_TwinLinkAndRecords_6 : ∃ (r : TwinRec) (s : State), (s.inReset 17 = false) ∧ (s.on F.TWN_STAT_LINK = true) ∧ (s.active = false) ∧ (r.crcOk = false) :=
  ⟨⟨0, 0, 0, 0, 0, 0, 0, false, false, [], 0, 1, ⟨0, 0, 0, 0, 0, 0, 0, 0, false⟩, false⟩, (regIs ready Reg.TWN_STAT 0).setF F.TWN_STAT_LINK 1, by decide⟩

theorem witness_TwinLinkAndRecords_7 : ∃ (r : TwinRec) (s t : State), (s.inReset 17 = false) ∧ (s.on F.TWN_STAT_LINK = true) ∧ (s.active = false) ∧ (r.crcOk = true) ∧ (t = (s.setTwn { s.twn with got := true }).takeNote r.peer) :=
  by exact ⟨⟨0,0,0,0,0,0,0,false,false,[],0,0,⟨0,0,0,0,0,0,0,0,false⟩,true⟩, (regIs ready 0x110008 0).setF F.TWN_STAT_LINK 1, _, by decide, by decide, by decide, by decide, rfl⟩

theorem witness_TwinLinkAndRecords_8 : ∃ (r : TwinRec) (n : PeerNote) (s : State), (s.inReset 17 = true ∨ s.on F.TWN_STAT_LINK = false) :=
  by exact ⟨⟨0,0,0,0,0,0,0,false,false,[],0,0,⟨0,0,0,0,0,0,0,0,false⟩,true⟩, ⟨0,0,0,0,0,0,0,0,false⟩, ready.setF F.TWN_STAT_LINK 0, by decide⟩

theorem witness_TwinLinkAndRecords_9 : ∃ (r : TwinRec) (s : State), (s.active = true) :=
  by exact ⟨⟨0,0,0,0,0,0,0,false,false,[],0,0,⟨0,0,0,0,0,0,0,0,false⟩,true⟩, ready, by decide⟩

theorem witness_TwinLinkAndRecords_11 : ∃ (n : PeerNote) (s : State), (s.inReset 17 = false) ∧ (s.on F.TWN_STAT_LINK = true) :=
  ⟨⟨0, 0, 0, 0, 0, 0, 0, 0, false⟩, ready.setF F.TWN_STAT_LINK 1, by decide⟩

theorem witness_RecorderSteps_1 : ∃ (r : ReportIn) (s : State), (s.variant.lacks (r.code / 256) = false) ∧ (s.evr.buf.length < 512) :=
  ⟨⟨0x401, 0, 0, 0, 0, 0⟩, ready, by decide⟩

theorem witness_RecorderSteps_2 : ∃ (r : ReportIn) (s : State), (s.variant.lacks (r.code / 256) = false) ∧ (512 ≤ s.evr.buf.length) :=
  ⟨⟨0x401, 0, 0, 0, 0, 0⟩, { ready with evr := { ready.evr with buf := List.replicate 512 ⟨0, 0, 0, 0, 0, 0, 0, 0, false⟩ } }, by decide⟩

theorem witness_RecorderSteps_3 : ∃ (r : ReportIn) (s : State), (s.variant.lacks (r.code / 256) = true) :=
  by exact ⟨⟨0x0F01,0,0,0,0,0⟩, { ready with variant := .ofc920 }, by decide⟩

theorem witness_RecorderSteps_4 : ∃ (s : State), (s.evr.running = false ∨ s.inReset 18 = true ∨ (s.evr.buf = [] ∧ s.evr.lostN = 0)) :=
  by exact ⟨State.reset, by decide⟩

theorem witness_RecorderSteps_5 : ∃ (s t : State), (s.evr.running = true) ∧ (s.inReset 18 = false) ∧ (s.evr.lostN ≠ 0) ∧ (s.evr.buf.length < 512) ∧ (t = { s with evr := { s.evr with lostN := 0, lostReset := false } }) :=
  by exact ⟨{ ready with evr := { ready.evr with lostN := 1 } }, _, by decide, by decide, by decide, by decide, rfl⟩

theorem witness_RecorderSteps_6 : ∃ (r : Report) (rest : List Report) (s : State), (s.evr.running = true) ∧ (s.inReset 18 = false) ∧ (512 ≤ s.evr.buf.length) ∧ (s.evr.buf = r :: rest) :=
  by exact ⟨_, _, { ready with evr := { ready.evr with buf := List.replicate 512 ⟨0, 0, 0, 0, 0, 0, 0, 0, false⟩ } }, by decide, by decide, by decide, rfl⟩

theorem witness_RecorderSteps_7 : ∃ (r : Report) (rest : List Report) (s : State), (s.evr.running = true) ∧ (s.inReset 18 = false) ∧ (s.evr.lostN = 0) ∧ (s.evr.buf = r :: rest) :=
  ⟨⟨0, 0, 0, 0, 0, 0, 0, 0, false⟩, [], { ready with evr := { ready.evr with buf := [⟨0, 0, 0, 0, 0, 0, 0, 0, false⟩] } }, by decide⟩

theorem witness_RecorderSteps_10 : ∃ (r : Report) (s : State), (s.noLimit r = false) :=
  ⟨⟨0x401, 0, 0, 0, 0, 0, 0, 0, false⟩, ready, by decide⟩

theorem witness_RecorderSteps_11 : ∃ (k : Rec) (rest : List Rec) (s : State), (s.evr.deliver = k :: rest) :=
  ⟨⟨⟨0, 0, 0, 0, 0, 0, 0, 0, false⟩, 0, 0, [], false⟩, [], { ready with evr := { ready.evr with deliver := [⟨⟨0, 0, 0, 0, 0, 0, 0, 0, false⟩, 0, 0, [], false⟩] } }, by decide⟩

theorem witness_RecorderSteps_12 : ∃ (s : State), (s.evr.deliver = []) :=
  by exact ⟨State.reset, by decide⟩

theorem witness_RecorderSteps_13 : ∃ (b : Fin 384) (s : State), (b.val = 0x12 ∨ b.val = 256 ∨ s.bucketRate b = 0 ∨ s.bucketDepth b ≤ (s.bucket b).tokens ∨ s.inReset 18 = true) :=
  by exact ⟨0, State.reset, by decide⟩

theorem witness_RecorderSteps_14 : ∃ (b : Fin 384) (s : State), (b.val ≠ 0x12) ∧ (b.val ≠ 256) ∧ (s.bucketRate b ≠ 0) ∧ ((s.bucket b).tokens < s.bucketDepth b) ∧ (s.inReset 18 = false) ∧ ((s.bucket b).supp ≠ 0) :=
  by exact ⟨0, ((ready.setF (F.EVR_BKT_RATE 0) 1).setF (F.EVR_BKT_DEPTH 0) 64).setBucket 0 ⟨3, 1, 0⟩, by decide, by decide, by decide, by decide, by decide, by decide⟩

theorem witness_RecorderSteps_15 : ∃ (b : Fin 384) (s : State), (b.val ≠ 0x12) ∧ (b.val ≠ 256) ∧ (s.bucketRate b ≠ 0) ∧ ((s.bucket b).tokens < s.bucketDepth b) ∧ (s.inReset 18 = false) ∧ ((s.bucket b).supp = 0) :=
  ⟨4, { regIs ready (Reg.EVR_BKT 4) 0xFFFFFFFF with evr := { ready.evr with buckets := [(4, { Bucket.dflt 4 with tokens := 0 })] } }, by decide⟩

theorem witness_RecorderSteps_16 : ∃ (x : HPort) (s : State), (s.holdsSem0 x = true) ∧ (s.inReset 18 = false) :=
  ⟨.hp0, ready, by decide⟩

theorem witness_RecorderSteps_17 : ∃ (x : HPort) (s : State), (s.holdsSem0 x = false ∨ s.inReset 18 = true) :=
  by exact ⟨.hp0, State.reset, by decide⟩

theorem witness_ChainFrames_1 : ∃ (flash : Bool) (s : State), (s.inReset 23 = true ∨ s.queue 418 = []) :=
  by exact ⟨true, State.reset, by decide⟩

theorem witness_ChainFrames_2 : ∃ (flash : Bool) (h : Pkt) (hs : List Pkt) (s : State), (s.queue 418 = h :: hs) :=
  by exact ⟨true, _, _, (ready).setQueue 418 [{ mkPkt (List.replicate 18 0 ++ [1, 0] ++ List.replicate 18 0) 0 0 0 with ecc := 0 }], rfl⟩

theorem witness_ChainFrames_3 : ∃ (flash : Bool) (h : Pkt) (hs : List Pkt) (s t : State), (s.inReset 23 = false) ∧ (s.queue 418 = h :: hs) ∧ (s.takePkt 418 = (none, t)) :=
  by exact ⟨true, _, _, (ready).setQueue 418 [{ mkPkt (List.replicate 18 0 ++ [1, 0] ++ List.replicate 18 0) 0 0 0 with ecc := 2 }], _, by decide, rfl, rfl⟩

theorem witness_ChainFrames_4 : ∃ (flash : Bool) (h k : Pkt) (hs : List Pkt) (s t : State), (s.inReset 23 = false) ∧ (s.queue 418 = h :: hs) ∧ ((chainIn h.data).op = 1) ∧ (s.takePkt 418 = (some k, t)) ∧ ((chainIn k.data).test = true) ∧ (t.key.root = 0) :=
  by exact ⟨true, _, _, _, (ready).setQueue 418 [{ mkPkt (List.replicate 18 0 ++ [1, 2] ++ List.replicate 18 0) 0 0 0 with ecc := 0 }], _, by decide, rfl, by decide, rfl, by decide, by decide⟩

theorem witness_ChainFrames_5 : ∃ (flash : Bool) (h k : Pkt) (hs : List Pkt) (s t : State), (s.inReset 23 = false) ∧ (s.queue 418 = h :: hs) ∧ ((chainIn h.data).op = 1) ∧ (s.takePkt 418 = (some k, t)) ∧ ((chainIn k.data).test = false) ∧ (t.otherFlow (chainIn k.data).ver = false) ∧ (4 ≤ (chainIn k.data).idx ∨ 8 ≤ (chainIn k.data).frag) :=
  by exact ⟨true, _, _, _, (ready).setQueue 418 [{ mkPkt (List.replicate 18 0 ++ [1, 0] ++ ([0,0,0,0,0,0,9] ++ List.replicate 18 0)) 0 0 0 with ecc := 0 }], _, by decide, rfl, by decide, rfl, by decide, by decide, by decide⟩

theorem witness_ChainFrames_6 : ∃ (flash : Bool) (h k : Pkt) (hs : List Pkt) (d : List Byte) (s t u : State), (s.inReset 23 = false) ∧ (s.queue 418 = h :: hs) ∧ ((chainIn h.data).op = 1) ∧ (s.takePkt 418 = (some k, t)) ∧ ((chainIn k.data).test = false) ∧ (t.otherFlow (chainIn k.data).ver = false) ∧ ((chainIn k.data).idx < 4) ∧ ((chainIn k.data).frag < 8) ∧ ((t.putFrag (chainIn k.data)).assembled (chainIn k.data) ((t.putFrag (chainIn k.data)).partLen (chainIn k.data)) = some d) ∧ (u = ((t.putFrag (chainIn k.data)).dropFrags (chainIn k.data)).putPart (chainIn k.data).ver (chainIn k.data).idx d) :=
  by exact ⟨true, _, _, _, _, (ready).setQueue 418 [{ mkPkt (List.replicate 18 0 ++ [1, 0] ++ ([0,0,0,0,0,0,0,0,0,0,96,1,0,0] ++ ([0,0,0,0,0,0,0,0,0,0,0,0,1] ++ List.replicate 339 0))) 0 0 0 with ecc := 0 }], _, _, by decide, rfl, by decide, rfl, by decide, by decide, by decide, by decide, rfl, rfl⟩

theorem witness_ChainFrames_7 : ∃ (flash : Bool) (h k : Pkt) (hs : List Pkt) (s t : State), (s.inReset 23 = false) ∧ (s.queue 418 = h :: hs) ∧ ((chainIn h.data).op = 2) ∧ (s.takePkt 418 = (some k, t)) ∧ ((chainIn k.data).test = false) ∧ (t.hasManifest (chainIn k.data).ver = true) :=
  by exact ⟨true, _, _, _, (({ sending ready [] with regs := (ready.setF F.UPD_STAT_RUNSLOT 1).regs })).setQueue 418 [{ mkPkt (List.replicate 18 0 ++ [2, 0] ++ List.replicate 18 0) 0 0 0 with ecc := 0 }], _, by decide, rfl, by decide, rfl, by decide, by decide⟩

theorem witness_ChainFrames_9 : ∃ (h k : Pkt) (hs : List Pkt) (s t : State), (s.inReset 23 = false) ∧ (s.queue 418 = h :: hs) ∧ ((chainIn h.data).op = 3) ∧ (s.takePkt 418 = (some k, t)) ∧ ((chainIn k.data).test = false) ∧ (t.upd.send = none ∨ (∀ u, t.upd.send = some u → fromReceiver u (chainIn k.data) = false ∨ t.itemOf u (chainIn k.data).idx = none)) :=
  by exact ⟨_, _, _, (ready).setQueue 418 [{ mkPkt (List.replicate 18 0 ++ [3, 0] ++ List.replicate 18 0) 0 0 0 with ecc := 0 }], _, by decide, rfl, by decide, rfl, by decide, by exact Or.inl (by decide)⟩

theorem witness_ChainFrames_10 : ∃ (h k : Pkt) (hs : List Pkt) (s t : State), (s.inReset 23 = false) ∧ (s.queue 418 = h :: hs) ∧ ((chainIn h.data).op = 4) ∧ (s.takePkt 418 = (some k, t)) ∧ ((chainIn k.data).test = false) ∧ (t.upd.send = none ∨ (∀ u, t.upd.send = some u → fromReceiver u (chainIn k.data) = false ∨ t.itemOf u (chainIn k.data).idx = none)) :=
  by exact ⟨_, _, _, (ready).setQueue 418 [{ mkPkt (List.replicate 18 0 ++ [4, 0] ++ List.replicate 18 0) 0 0 0 with ecc := 0 }], _, by decide, rfl, by decide, rfl, by decide, by exact Or.inl (by decide)⟩

theorem witness_ChainFrames_11 : ∃ (h k : Pkt) (hs : List Pkt) (u : UpdSend) (i op idx : Nat) (d : List Byte) (s t v : State), (s.inReset 23 = false) ∧ (s.queue 418 = h :: hs) ∧ ((chainIn h.data).op = 4) ∧ (s.takePkt 418 = (some k, t)) ∧ ((chainIn k.data).test = false) ∧ (t.upd.send = some u) ∧ (fromReceiver u (chainIn k.data) = true) ∧ (t.itemOf u (chainIn k.data).idx = some i) ∧ ((chainIn k.data).reason = 1 ∨ (chainIn k.data).reason = 2) :=
  by exact ⟨_, _, _, _, _, 1, 1, [], (sending ready [0]).setQueue 418 [{ mkPkt (List.replicate 18 0 ++ [4, 0] ++ ([0,0,0,0,0,0,0,1] ++ List.replicate 18 0)) 0 0 0 with ecc := 0 }], _, ready, by decide, rfl, by decide, rfl, by decide, rfl, by decide, rfl, by exact Or.inl (by decide)⟩

theorem witness_ChainFrames_12 : ∃ (flash : Bool) (h k : Pkt) (hs : List Pkt) (s t : State), (s.inReset 23 = false) ∧ (s.queue 418 = h :: hs) ∧ ((chainIn h.data).op = 1) ∧ (s.takePkt 418 = (some k, t)) ∧ ((chainIn k.data).test = false) ∧ (t.otherFlow (chainIn k.data).ver = false) ∧ ((chainIn k.data).idx < 4) ∧ ((chainIn k.data).frag < 8) ∧ ((t.putFrag (chainIn k.data)).assembled (chainIn k.data) ((t.putFrag (chainIn k.data)).partLen (chainIn k.data)) = none) :=
  by exact ⟨true, _, _, _, withChain ready 1, _, by decide, rfl, by decide, rfl, by decide, by decide, by decide, by decide, by decide⟩

theorem witness_ChainFrames_13 : ∃ (flash : Bool) (h k : Pkt) (hs : List Pkt) (s t : State), (s.inReset 23 = false) ∧ (s.queue 418 = h :: hs) ∧ ((chainIn h.data).op = 1) ∧ (s.takePkt 418 = (some k, t)) ∧ ((chainIn k.data).test = false) ∧ (t.otherFlow (chainIn k.data).ver = true) :=
  by exact ⟨true, _, _, _, { withChain ready 1 with upd := { ready.upd with flow := some ⟨7, 0, 0, []⟩ } }, _, by decide, rfl, by decide, rfl, by decide, by decide⟩

theorem witness_ChainFrames_14 : ∃ (flash : Bool) (h k : Pkt) (hs : List Pkt) (s t : State), (s.inReset 23 = false) ∧ (s.queue 418 = h :: hs) ∧ ((chainIn h.data).op = 2) ∧ (s.takePkt 418 = (some k, t)) ∧ ((chainIn k.data).test = false) ∧ (t.hasManifest (chainIn k.data).ver = false) :=
  by exact ⟨true, _, _, _, withChain ready 2, _, by decide, rfl, by decide, rfl, by decide, by decide⟩

theorem witness_ChainFrames_15 : ∃ (flash : Bool) (h k : Pkt) (hs : List Pkt) (d : List Byte) (s t : State), (s.inReset 23 = false) ∧ (s.queue 418 = h :: hs) ∧ ((chainIn h.data).op = 2) ∧ (s.takePkt 418 = (some k, t)) ∧ ((chainIn k.data).test = false) ∧ (t.hasManifest (chainIn k.data).ver = true) ∧ ((chainIn k.data).idx < mfChunks (t.imgSlot t.inactiveSlot).manifest) ∧ (Store.get noBytes (t.imgSlot t.inactiveSlot).chunks (chainIn k.data).idx = []) ∧ ((t.putFrag (chainIn k.data)).assembled (chainIn k.data) (mfChunkLen (t.imgSlot t.inactiveSlot).manifest (chainIn k.data).idx) = some d) :=
  by exact ⟨true, _, _, _, _, (let r := ready; { r with pool := { r.pool with queues := [(418, [mkPkt (List.replicate 18 0 ++ [2] ++ List.replicate 11 0 ++ [8, 0, 0, 0] ++ List.replicate 8 5) 0 0 0])] }, upd := { r.upd with kept := { r.upd.kept with slotA := { ImgSlot.blank with state := 1, manifest := wordsBytes [0, 0, 1, 8] }, slotB := { ImgSlot.blank with state := 1, manifest := wordsBytes [0, 0, 1, 8] } } } }), _, by decide, rfl, by decide, rfl, by decide, by decide, by decide, by decide, rfl⟩

theorem witness_ChainFrames_16 : ∃ (h k : Pkt) (hs : List Pkt) (u : UpdSend) (i : Nat) (s t : State), (s.inReset 23 = false) ∧ (s.queue 418 = h :: hs) ∧ ((chainIn h.data).op = 3) ∧ (s.takePkt 418 = (some k, t)) ∧ ((chainIn k.data).test = false) ∧ (t.upd.send = some u) ∧ (fromReceiver u (chainIn k.data) = true) ∧ (t.itemOf u (chainIn k.data).idx = some i) :=
  by exact ⟨_, _, _, _, 0, withChain (sending ready [0]) 3, _, by decide, rfl, by decide, rfl, by decide, rfl, by decide, by decide⟩

theorem witness_ChainFrames_17 : ∃ (h k : Pkt) (hs : List Pkt) (u : UpdSend) (i : Nat) (s t : State), (s.inReset 23 = false) ∧ (s.queue 418 = h :: hs) ∧ ((chainIn h.data).op = 4) ∧ (s.takePkt 418 = (some k, t)) ∧ ((chainIn k.data).test = false) ∧ (t.upd.send = some u) ∧ (fromReceiver u (chainIn k.data) = true) ∧ (t.itemOf u (chainIn k.data).idx = some i) ∧ ((chainIn k.data).reason ≠ 1) ∧ ((chainIn k.data).reason ≠ 2) :=
  by exact ⟨_, _, _, _, 0, withChain (sending ready [0]) 4, _, by decide, rfl, by decide, rfl, by decide, rfl, by decide, by decide, by decide, by decide⟩

theorem witness_ChainFrames_18 : ∃ (h k : Pkt) (hs : List Pkt) (s t : State), (s.inReset 23 = false) ∧ (s.queue 418 = h :: hs) ∧ ((chainIn h.data).op = 5) ∧ (s.takePkt 418 = (some k, t)) ∧ ((chainIn k.data).test = false) :=
  by exact ⟨_, _, _, (ready).setQueue 418 [{ mkPkt (List.replicate 18 0 ++ [5, 0] ++ List.replicate 18 0) 0 0 0 with ecc := 0 }], _, by decide, rfl, by decide, rfl, by decide⟩

theorem witness_ChainFrames_19 : ∃ (h k : Pkt) (hs : List Pkt) (u : UpdSend) (s t : State), (s.inReset 23 = false) ∧ (s.queue 418 = h :: hs) ∧ ((chainIn h.data).op = 6) ∧ (s.takePkt 418 = (some k, t)) ∧ ((chainIn k.data).test = false) ∧ (t.upd.send = some u) ∧ (fromReceiver u (chainIn k.data) = true) :=
  by exact ⟨_, _, _, _, withChain (sending ready [0]) 6, _, by decide, rfl, by decide, rfl, by decide, rfl, by decide⟩

theorem witness_ChainFrames_20 : ∃ (h k : Pkt) (hs : List Pkt) (s t : State), (s.inReset 23 = false) ∧ (s.queue 418 = h :: hs) ∧ ((chainIn h.data).op = 6) ∧ (s.takePkt 418 = (some k, t)) ∧ ((chainIn k.data).test = false) ∧ (t.upd.send = none ∨ (∀ u, t.upd.send = some u → fromReceiver u (chainIn k.data) = false)) :=
  by exact ⟨_, _, _, (ready).setQueue 418 [{ mkPkt (List.replicate 18 0 ++ [6, 0] ++ List.replicate 18 0) 0 0 0 with ecc := 0 }], _, by decide, rfl, by decide, rfl, by decide, by exact Or.inl (by decide)⟩

theorem witness_ChainFrames_21 : ∃ (s : State), (s.upd.send = none ∨ s.inReset 23 = true ∨ (∀ u, s.upd.send = some u → u.waiting = [])) :=
  by exact ⟨ready, by exact Or.inl (by decide)⟩

theorem witness_ChainFrames_23 : ∃ (u : UpdSend) (s : State), (s.upd.send = some u) ∧ (u.waiting ≠ []) ∧ (s.inReset 23 = false) :=
  by exact ⟨_, sending ready [0], rfl, by decide, by decide⟩

theorem witness_UpdateCommandsAndConfirmation_1 : ∃ (x : HPort) (j : Fin 2) (s : State), (s.mayWrite x 23 = true) ∧ (j.val = s.inactiveSlot) ∧ ((s.imgSlot j).state = 2) :=
  ⟨.hp0, 1, { ready.setF F.UPD_STAT_RUNSLOT 0 with upd := { ready.upd with kept := { ready.upd.kept with slotB := { ImgSlot.blank with state := 2 } } } }, by decide⟩

theorem witness_UpdateCommandsAndConfirmation_2 : ∃ (x : HPort) (j : Fin 2) (s : State), (s.mayWrite x 23 = true) ∧ (j.val ≠ s.inactiveSlot ∨ (s.imgSlot j).state ≠ 2) :=
  ⟨.hp0, 1, ready, by decide⟩

theorem witness_UpdateCommandsAndConfirmation_3 : ∃ (x : HPort) (s : State), (s.mayWrite x 23 = true) ∧ (s.armedSlot = none) :=
  by exact ⟨.hp0, ready, by decide, by decide⟩

theorem witness_UpdateCommandsAndConfirmation_4 : ∃ (x : HPort) (j : Nat) (s : State), (s.mayWrite x 23 = true) ∧ (s.armedSlot = some j) ∧ (s.activationRefused j = true) :=
  by exact ⟨.hp0, _, { ready.setF F.TWN_CFG_MODE 1 with upd := { ready.upd with kept := { ready.upd.kept with slotA := { ImgSlot.blank with state := 2, armed := true } } } }, by decide, rfl, by decide⟩

theorem witness_UpdateCommandsAndConfirmation_5 : ∃ (x : HPort) (sec : Nat) (s : State), (s.mayWrite x 23 = true) ∧ (s.upd.confHost = false ∨ s.upd.checks = false) :=
  by exact ⟨.hp0, 0, ready, by decide, by decide⟩

theorem witness_UpdateCommandsAndConfirmation_6 : ∃ (x : HPort) (s : State), (s.mayWrite x 23 = true) ∧ ((s.imgSlot s.inactiveSlot).state ≠ 2) :=
  by exact ⟨.hp0, ready, by decide, by decide⟩

theorem witness_UpdateCommandsAndConfirmation_7 : ∃ (x : HPort) (j : Nat) (s : State), (s.mayWrite x 23 = true) ∧ (s.armedSlot = some j) :=
  ⟨.hp0, 0, { ready with upd := { ready.upd with kept := { ready.upd.kept with slotA := { ImgSlot.blank with state := 2, armed := true } } } }, by decide⟩

theorem witness_UpdateCommandsAndConfirmation_8 : ∃ (x : HPort) (j : Nat) (s : State), (s.mayWrite x 23 = true) ∧ (s.armedSlot = some j) ∧ (s.activationRefused j = false) :=
  ⟨.hp0, 0, { ready with upd := { ready.upd with kept := { ready.upd.kept with slotA := { ImgSlot.blank with state := 2, armed := true, manifest := wordsBytes [0, 9, 1, 8] } } } }, by decide⟩

theorem witness_UpdateCommandsAndConfirmation_9 : ∃ (x : HPort) (sec : Nat) (s : State), (s.mayWrite x 23 = true) ∧ (s.upd.confHost = true) ∧ (s.upd.checks = true) :=
  ⟨.hp0, 5, { ready with upd := { ready.upd with confHost := true, checks := true } }, by decide⟩

theorem witness_UpdateCommandsAndConfirmation_10 : ∃ (x : HPort) (s : State), (s.mayWrite x 23 = true) ∧ ((s.imgSlot s.inactiveSlot).state = 2) ∧ (s.upd.send.isSome = true) :=
  ⟨.hp0, { sending (ready.setF F.UPD_STAT_RUNSLOT 1) [0] with pending := [] }, by decide⟩

theorem witness_UpdateCommandsAndConfirmation_11 : ∃ (x : HPort) (s : State), (s.mayWrite x 23 = true) ∧ ((s.imgSlot s.inactiveSlot).state = 2) ∧ (s.upd.send = none) :=
  by exact ⟨.hp0, { ready.setF F.UPD_STAT_RUNSLOT 1 with upd := { ready.upd with kept := { ready.upd.kept with slotA := { ImgSlot.blank with state := 2 } } } }, by decide, by decide, by decide⟩

theorem witness_UpdateCommandsAndConfirmation_13 : ∃ (s : State), ((s.rst.phase ≠ 1 ∧ s.rst.phase ≠ 4) ∨ s.on F.UPD_STAT_CONF = true) :=
  by exact ⟨State.reset, by decide⟩

theorem witness_UpdateCommandsAndConfirmation_14 : ∃ (sec : Nat) (s : State), (s.rst.phase = 4) ∧ (s.upd.confHost = false) :=
  ⟨5, ready, by decide⟩

theorem witness_UpdateCommandsAndConfirmation_15 : ∃ (sec : Nat) (s : State), (s.on F.UPD_STAT_CONF = false) :=
  by exact ⟨0, State.reset, by decide⟩

theorem witness_UpdateCommandsAndConfirmation_16 : ∃ (j : Nat) (s : State), (s.rst.phase = 1 ∨ s.rst.phase = 4) ∧ (s.on F.UPD_STAT_CONF = false) ∧ (j = s.rf F.UPD_STAT_RUNSLOT) :=
  by exact ⟨_, ready, by decide, by decide, rfl⟩

theorem witness_UpdateCommandsAndConfirmation_17 : ∃ (v : Word) (m : HostMem) (s : State), (s.rst.phase = 2) ∧ (fieldOf v 31 31 = 1) ∧ (s.on F.RST_LDCMD_BUSY = false) :=
  ⟨0x80000000, ⟨[], []⟩, { ready with rst := { ready.rst with phase := 2 } }, by decide⟩

theorem witness_UpdateCommandsAndConfirmation_18 : ∃ (x : HPort) (v : Word) (m : HostMem) (s : State), (x = .hp1 ∨ s.rst.phase ≠ 2 ∨ fieldOf v 31 31 = 0 ∨ s.on F.RST_LDCMD_BUSY = true) :=
  by exact ⟨.hp1, 0, ⟨[], []⟩, ready, by decide⟩

theorem witness_UpdateCommandsAndConfirmation_19 : ∃ (s : State), (s.rst.phase ≠ 2 ∨ s.on F.RST_LDCMD_BUSY = false) :=
  by exact ⟨State.reset, by decide⟩

theorem witness_UpdateCommandsAndConfirmation_20 : ∃ (s t : State), (s.rst.phase = 2) ∧ (s.on F.RST_LDCMD_BUSY = true) ∧ (s.dmaRead .hp0 0 ((s.reg Reg.RST_LDL).toNat + (s.reg Reg.RST_LDH).toNat * 2 ^ 32) 256 = (none, t)) :=
  by exact ⟨{ ready.setF F.RST_LDCMD_BUSY 1 with rst := { ready.rst with phase := 2 }, host := HostSt.reset }, _, by decide, by decide, rfl⟩

theorem witness_UpdateCommandsAndConfirmation_21 : ∃ (h : List Byte) (s t : State), (s.rst.phase = 2) ∧ (s.on F.RST_LDCMD_BUSY = true) ∧ (s.dmaRead .hp0 0 ((s.reg Reg.RST_LDL).toNat + (s.reg Reg.RST_LDH).toNat * 2 ^ 32) 256 = (some h, t)) ∧ (mfChunks h = 0 ∨ 4096 < mfChunks h) :=
  by exact ⟨_, { ready.setF F.RST_LDCMD_BUSY 1 with rst := { ready.rst with phase := 2 } }, _, by decide, by decide, rfl, by decide⟩

theorem witness_IgnoredWithoutSem0_1 : ∃ (x : HPort) (off : Nat) (v : Word) (s : State), (s.holdsSem0 x = false) ∧ (isDoorbell off = false) ∧ (s.noReg off = false) ∧ (ownReg off = none) ∧ (arr? off (Reg.SEM_CMD 0) 64 4 = none) ∧ ([Reg.RST_LDL, Reg.RST_LDH, Reg.RST_LDCMD, Reg.TWN_CTL].contains off = false) :=
  ⟨.hp1, 0x40000, 1, ready, by decide⟩

theorem witness_IgnoredWithoutSem0_2 : ∃ (c : Instr) (x : HPort) (b : Nat) (s : State), (setUpWriteOf c = some (x, b)) ∧ (s.holdsSem0 x = false) ∧ (s.variant.lacks b = false) :=
  ⟨.rtcCtlWrite .hp1 5, .hp1, 4, ready, by decide⟩

theorem witness_IgnoredWithoutSem0_3 : ∃ (x : HPort) (off size : Nat) (s : State), (s.holdsSem0 x = false) ∧ (isDoorbell (off - off % 4) = false) ∧ (s.noReg (off - off % 4) = false) ∧ (s.inReset ((off - off % 4) / 0x10000) = false) :=
  ⟨.hp1, 0x20, 4, ready, by decide⟩

theorem witness_EveryStepKeepsCanonical_1 : ∃ (s t : State), (s.canonical = true) ∧ (step s = .next t) :=
  by exact ⟨ready, ready, by decide, rfl⟩

theorem witness_StepKeepsQueueAndVariant_1 : ∃ (c : Instr) (s t : State), (exec c s = .next t) :=
  by exact ⟨.oscillatorStop, ready, _, rfl⟩

theorem witness_StepKeepsQueueAndVariant_2 : ∃ (s t : State), (step s = .next t) :=
  by exact ⟨ready, ready, rfl⟩

theorem witness_UnitRowsStayInTheirBlocks_1 : ∃ (c : Instr) (h : Home) (s t : State), (homeOf c = some h) ∧ (exec c s = .next t) :=
  by exact ⟨.oscillatorStop, .time, ready, _, by decide, rfl⟩

theorem witness_RowsThatStoreNothing_1 : ∃ (c : Instr) (s t : State), (storesNothing c = true) ∧ (exec c s = .next t) :=
  by exact ⟨.oscillatorStop, ready, _, by decide, rfl⟩

end Sys2Proof.Tests
end

section
namespace Sys2Proof.Machine

/-! ## The register map -/

/-- The rows of every block start at a word and step by words. -/
def RegRow.wordAligned (r : RegRow) : Bool := r.base % 4 = 0 && r.stride % 4 = 0

theorem Reg.blockRows_wordAligned : ∀ b < 25, ((Reg.blockRows b).all RegRow.wordAligned) = true := by decide

theorem Reg.blockRows_above {b : Nat} (h : 25 ≤ b) : Reg.blockRows b = [] := by
  unfold Reg.blockRows
  split <;> first | omega | rfl

theorem Reg.row?_block {off : Nat} {r : RegRow} (h : Reg.row? off = some r) : off / 0x10000 < 25 := by
  by_contra hb
  rw [Reg.row?, Reg.blockRows_above (by omega)] at h
  cases h

theorem Reg.row?_aligned {off : Nat} {r : RegRow} (h : Reg.row? off = some r) : off % 4 = 0 := by
  have hc := List.find?_some h
  have hw := List.all_eq_true.1 (Reg.blockRows_wordAligned _ (Reg.row?_block h)) r (List.mem_of_find?_eq_some h)
  simp only [RegRow.covers, RegRow.wordAligned, Bool.and_eq_true, decide_eq_true_eq] at hc hw
  obtain ⟨⟨hle, hm⟩, -⟩ := hc
  obtain ⟨hb, hs⟩ := hw
  have hd : 4 ∣ off - r.base := (Nat.dvd_of_mod_eq_zero hs).trans (Nat.dvd_of_mod_eq_zero hm)
  omega

theorem State.noReg_false {s : State} {off : Nat} (h : s.noReg off = false) : ∃ r, Reg.row? off = some r := by
  simp only [State.noReg, Bool.or_eq_false_iff, Option.isNone_eq_false_iff] at h
  exact Option.isSome_iff_exists.1 h.1

theorem State.noReg_false_lt {s : State} {off : Nat} (h : s.noReg off = false) : off < 0x190000 := by
  obtain ⟨r, hr⟩ := State.noReg_false h
  have := Reg.row?_block hr
  omega

/-! ## O4 -/

/-- Settles O4. -/
theorem setFieldChangesOnlyItsField : Obligations.SetFieldChangesOnlyItsField :=
  fun _ _ _ _ h h32 => ⟨State.rf_setF_same h h32, State.rf_setF_other h h32, rfl, rfl⟩

/-! ## Host writes -/

variable {s : State} {x : HPort} {off : Nat} {v : Word}

theorem registerWrite_word (h : off < 0x1000000) (h4 : off % 4 = 0) :
    exec (.registerWrite x off 4 v) s = .next (s.hostWrite x off v) := by
  have hl : ¬ 0x1000000 ≤ off := by omega
  simp [exec, execRegisterWrite, registerWriteEff, hl, h4]

theorem registerWrite_narrow {size : Nat} (h : off < 0x1000000) (hn : ¬ (size = 4 ∧ off % 4 = 0)) :
    exec (.registerWrite x off size v) s = .next (s.narrowWrite off) := by
  have hl : ¬ 0x1000000 ≤ off := by omega
  simp [exec, execRegisterWrite, registerWriteEff, hl, hn]

theorem State.hostWrite_noReg (hd : isDoorbell off = false) (hr : s.noReg off = true) : s.hostWrite x off v = s.absWr := by
  simp [State.hostWrite, hd, hr]

theorem State.hostWrite_inReset (hd : isDoorbell off = false) (hr : s.noReg off = false)
    (hb : s.inReset (off / 0x10000) = true) : s.hostWrite x off v = s := by
  simp [State.hostWrite, hd, hr, hb]

theorem State.hostWrite_reg (hd : isDoorbell off = false) (hr : s.noReg off = false)
    (hb : s.inReset (off / 0x10000) = false) : s.hostWrite x off v = s.writeReg x off v := by
  simp [State.hostWrite, hd, hr, hb]

/-- A register that is of no port's own set and whose description names no other writers. -/
def isSem0Reg (off : Nat) : Prop :=
  ownReg off = none ∧ arr? off (Reg.SEM_CMD 0) 64 4 = none ∧
    [Reg.RST_LDL, Reg.RST_LDH, Reg.RST_LDCMD, Reg.TWN_CTL].contains off = false

theorem State.writeReg_sem0 (h : isSem0Reg off) :
    s.writeReg x off v = if s.holdsSem0 x then s.writeSetUp x off v else s := by
  obtain ⟨ho, ha, hl⟩ := h
  simp only [List.contains_eq_mem, List.mem_cons, List.not_mem_nil, or_false, decide_eq_false_iff_not, not_or] at hl
  obtain ⟨h1, h2, h3, h4⟩ := hl
  simp [State.writeReg, ho, ha, h1, h2, h3, h4]

/-- The blocks all of whose set-up registers take a written word field by field. -/
theorem State.writeSetUp_plain (h : [0, 3, 5, 7, 16, 17].contains (off / 0x10000) = true) :
    s.writeSetUp x off v = s.writeFields off v := by
  simp only [List.contains_eq_mem, List.mem_cons, List.not_mem_nil, or_false, decide_eq_true_eq] at h
  unfold State.writeSetUp
  rcases h with h | h | h | h | h | h <;> simp only [h]

theorem arr?_some {off base n stride i : Nat} (h : arr? off base n stride = some i) :
    base ≤ off ∧ off < base + n * stride := by
  unfold arr? at h
  split at h
  · next hc => simp only [Bool.and_eq_true, decide_eq_true_eq] at hc; exact hc.1
  · cases h

theorem isBucket_lt (h : isBucket off = true) : off < 0x1000000 := by
  simp only [isBucket, Bool.or_eq_true, Option.isSome_iff_exists] at h
  rcases h with ⟨i, h⟩ | ⟨i, h⟩ <;>
  · have := (arr?_some h).2
    simp only [Reg.PRT_EVLIM, Reg.EVR_BKT] at this
    omega

theorem arr?_elem {base n stride i : Nat} (hi : i < n) (hs : 0 < stride) :
    arr? (base + stride * i) base n stride = some i := by
  have : stride * i < n * stride := by rw [Nat.mul_comm n]; exact Nat.mul_lt_mul_of_pos_left hi hs
  simp [arr?, this, Nat.mul_div_cancel_left _ hs]

theorem isBucket_EVR_BKT (b : Fin 256) : isBucket (Reg.EVR_BKT b) = true := by
  have h : arr? (Reg.EVR_BKT b) (Reg.EVR_BKT 0) 256 4 = some b.val := arr?_elem b.isLt (by decide)
  simp [isBucket, h]

theorem Reg.EVR_BKT_block (b : Fin 256) : Reg.EVR_BKT b / 0x10000 = 18 := by
  simp only [Reg.EVR_BKT]; omega

theorem RegRow.covers_elem {r : RegRow} {i : Nat} (hi : i < r.count) (hs : 0 < r.stride) :
    r.covers (r.base + r.stride * i) = true := by
  simp [RegRow.covers, Nat.mul_div_cancel_left _ hs, hi]

/-- The row of EVR_BKT (R558). -/
def Reg.evrBktRow : RegRow :=
  ⟨0x121000, 256, 0x4, .sys, 0x400010, [⟨31, 31, .rw, []⟩, ⟨30, 16, .rw, [(1, 32767)]⟩, ⟨15, 0, .rw, []⟩]⟩

theorem Reg.row?_EVR_BKT (b : Fin 256) : (Reg.row? (Reg.EVR_BKT b)).isSome = true := by
  rw [Reg.row?, Reg.EVR_BKT_block, List.find?_isSome]
  exact ⟨Reg.evrBktRow, by decide, RegRow.covers_elem b.isLt (by decide)⟩

theorem State.noReg_EVR_BKT (s : State) (b : Fin 256) : s.noReg (Reg.EVR_BKT b) = false := by
  have h := Option.isNone_eq_false_iff.2 (Reg.row?_EVR_BKT b)
  have ha : s.variant.absent (Reg.EVR_BKT b) = false := by
    rw [Variant.absent, Reg.EVR_BKT_block]
    rfl
  rw [State.noReg, h, ha]
  rfl

theorem isSem0Reg_EVR_BKT (b : Fin 256) : isSem0Reg (Reg.EVR_BKT b) := by
  have hb := b.isLt
  refine ⟨?own, ?sem, ?others⟩
  case own =>
    unfold ownReg
    simp only [Bool.or_eq_true, Bool.and_eq_true, decide_eq_true_eq]
    rw [if_neg, if_neg] <;>
    · simp only [Reg.HPC_RSIDX, Reg.HPC_RSCMD, Reg.HPC_UVEN, Reg.EVR_RSEL, Reg.CAN_MBSEL, Reg.EVR_BKT]
      omega
  case sem =>
    unfold arr?
    simp only [Bool.and_eq_true, decide_eq_true_eq]
    rw [if_neg]
    simp only [Reg.SEM_CMD, Reg.EVR_BKT]
    omega
  case others =>
    simp only [List.contains_eq_mem, List.mem_cons, List.not_mem_nil, or_false, decide_eq_false_iff_not]
    simp only [Reg.RST_LDL, Reg.RST_LDH, Reg.RST_LDCMD, Reg.TWN_CTL, Reg.EVR_BKT]
    omega

theorem State.hostWrite_EVR_BKT (b : Fin 256) (hs : s.holdsSem0 x = true) (hb : s.inReset 18 = false) :
    s.hostWrite x (Reg.EVR_BKT b) v = s.writeEvr x (Reg.EVR_BKT b) v := by
  have hd : isDoorbell (Reg.EVR_BKT b) = false := by
    have h : Reg.EVR_BKT b < 0x800000 := by simp only [Reg.EVR_BKT]; omega
    simp [isDoorbell, Nat.not_le.2 h]
  rw [State.hostWrite_reg hd (s.noReg_EVR_BKT b) (by rw [Reg.EVR_BKT_block, hb]), State.writeReg_sem0 (isSem0Reg_EVR_BKT b),
    if_pos hs, State.writeSetUp]
  simp only [Reg.EVR_BKT_block]

theorem State.writeEvr_bucket (b : Fin 256) :
    s.writeEvr x (Reg.EVR_BKT b) v = if b.val = 0x12 then s else (s.writeFields (Reg.EVR_BKT b) v).fillBucket b := by
  have hc : Reg.EVR_BKT b ≠ Reg.EVR_CTL := by simp only [Reg.EVR_BKT, Reg.EVR_CTL]; omega
  have ha : arr? (Reg.EVR_BKT b) (Reg.EVR_BKT 0) 256 4 = some b.val := arr?_elem b.isLt (by decide)
  unfold State.writeEvr
  rw [if_neg hc, ha]
  split
  · next h => rw [if_pos (Option.some.inj h)]
  · next h12 h => cases h; rw [if_neg (fun e => h12 (by rw [e]))]
  · next h => cases h

/-- A command that passes the class of bucket registers is the register write itself (R547). -/
theorem bucketWrite_eq (hk : isBucket off = true) (h4 : off % 4 = 0) :
    exec (.bucketWrite x off v) s = exec (.registerWrite x off 4 v) s := by
  rw [registerWrite_word (isBucket_lt hk) h4]
  simp [exec, execBucketWrite, bucketWriteEff, hk]

theorem bucketWrite_EVR_BKT (b : Fin 256) (hs : s.holdsSem0 x = true) (hb : s.inReset 18 = false) :
    exec (.bucketWrite x (Reg.EVR_BKT b) v) s =
      .next (if b.val = 0x12 then s else (s.writeFields (Reg.EVR_BKT b) v).fillBucket b) := by
  have h4 : Reg.EVR_BKT b % 4 = 0 := by simp only [Reg.EVR_BKT]; omega
  rw [bucketWrite_eq (isBucket_EVR_BKT b) h4, registerWrite_word (isBucket_lt (isBucket_EVR_BKT b)) h4,
    State.hostWrite_EVR_BKT b hs hb, State.writeEvr_bucket]

/-- Settles O2. -/
theorem registerWriteReachesItsRegister : Obligations.RegisterWriteReachesItsRegister := by
  refine ⟨?narrow, ?narrowAbsent, ?absent, ?inReset, ?sem0, ?plain, ?bucket, ?evrBucket, ?fixedBucket⟩
  case narrow =>
    intro x off size v s hl hn hr
    rw [registerWrite_narrow hl (of_eq_false hn), State.narrowWrite]
    rcases hr with hr | hr <;> simp [hr]
  case narrowAbsent =>
    intro x off size v s hl hn hd hr
    rw [registerWrite_narrow hl (of_eq_false hn), State.narrowWrite, hd, hr]
    rfl
  case absent =>
    intro x off v s hl h4 hd hr
    rw [registerWrite_word hl h4, State.hostWrite_noReg hd hr]
    rfl
  case inReset =>
    intro x off v s hl h4 hd hr hb
    rw [registerWrite_word hl h4, State.hostWrite_inReset hd hr hb]
  case sem0 =>
    intro x off v s hl h4 hd hr hb ho ha hn
    rw [registerWrite_word hl h4, State.hostWrite_reg hd hr hb, State.writeReg_sem0 ⟨ho, ha, hn⟩]
  case plain => exact fun x off v s h => State.writeSetUp_plain h
  case bucket => exact fun x off v s hk h4 => bucketWrite_eq hk h4
  case evrBucket =>
    intro x b v s hs hb hne
    rw [bucketWrite_EVR_BKT b hs hb, if_neg hne]
  case fixedBucket =>
    intro x v s hs hb
    exact bucketWrite_EVR_BKT (0x12 : Fin 256) hs hb

/-! ## O3 -/

/-- Settles O3. -/
theorem fieldWriteByAccessCode : Obligations.FieldWriteByAccessCode := by
  refine ⟨?field, ?exec⟩
  case field =>
    intro s off v f h h32 hoff
    have hsame : ∀ n, (s.setF ⟨off, f.hi, f.lo⟩ n).rf ⟨off, f.hi, f.lo⟩ = n % 2 ^ (f.hi + 1 - f.lo) :=
      fun n => State.rf_setF_same h h32
    have hv : fieldOf v f.hi f.lo < 2 ^ (f.hi + 1 - f.lo) := Nat.mod_lt _ (Nat.two_pow_pos _)
    have hr : s.rf ⟨off, f.hi, f.lo⟩ < 2 ^ (f.hi + 1 - f.lo) := Nat.mod_lt _ (Nat.two_pow_pos _)
    refine ⟨?rw, ?undefined, ?w1c, ?w1s, ?stored⟩
    case rw => 
      intro ha hd
      simp only [State.writeField, ha, hd, if_true, hsame, Nat.mod_eq_of_lt hv]
    case undefined =>
      intro ha hd
      simp only [State.writeField, ha, hd, Bool.false_eq_true, if_false]
      exact ⟨State.rf_setF_other (by decide) (by decide) (.inl hoff), State.rf_setF_same (by decide) (by decide)⟩
    case w1c =>
      intro ha
      simp only [State.writeField, ha, hsame]
      exact Nat.mod_eq_of_lt (by omega)
    case w1s =>
      intro ha
      simp only [State.writeField, ha, hsame]
      exact Nat.mod_eq_of_lt (Nat.or_lt_two_pow hr hv)
    case stored =>
      rintro (ha | ha | ha) <;> simp only [State.writeField, ha]
  case exec =>
    intro x off v r s hl h4 hd hn hb ho ha hc hs hp hr
    rw [registerWrite_word hl h4, State.hostWrite_reg hd hn hb, State.writeReg_sem0 ⟨ho, ha, hc⟩, if_pos hs,
      State.writeSetUp_plain hp, State.writeFields, hr]

/-! ## O56 -/

theorem HPC_STATE_resets_stopped (x : HPort) (k : Fin 8) : Reg.resetVal .ofc960 (Reg.HPC_STATE x.num k) = 0 := by
  revert k
  cases x <;> decide

theorem State.reset_rsState (x : HPort) (p : Part) : State.reset.rsState x p = 0 := by
  have hr : State.reset.reg (rsField x p).off = 0 := HPC_STATE_resets_stopped x ⟨p / 16, by omega⟩
  rw [State.rsState, State.rf, hr, fieldOf]
  simp

/-- Settles O56. -/
theorem stateAfterReset : Obligations.StateAfterReset :=
  ⟨rfl, rfl, fun _ => rfl, fun x _ => by cases x <;> rfl, fun _ => rfl, fun _ _ => rfl, State.reset_rsState,
    by decide, by decide, rfl, fun _ => rfl, by decide⟩

/-! ## O55 -/

theorem State.asWrite_ignored {b : Nat} {t : State} (hs : s.holdsSem0 x = false) (hl : s.variant.lacks b = false) :
    s.asWrite x b t = s := by
  simp [State.asWrite, State.mayWrite, hs, hl]

/-- Every row that writes a set-up register takes its effect as such a write (R15). -/
theorem exec_of_setUpWriteOf {c : Instr} {b : Nat} (h : setUpWriteOf c = some (x, b)) (s : State) :
    ∃ t, exec c s = .next (s.asWrite x b t) := by
  unfold setUpWriteOf at h
  split at h
  all_goals
    cases h
    try exact ⟨_, rfl⟩

theorem registerWrite_ignored (hs : s.holdsSem0 x = false) (hd : isDoorbell off = false) (hr : s.noReg off = false)
    (h0 : isSem0Reg off) : exec (.registerWrite x off 4 v) s = .next s := by
  have hlt := State.noReg_false_lt hr
  obtain ⟨r, hrow⟩ := State.noReg_false hr
  rw [registerWrite_word (by omega) (Reg.row?_aligned hrow)]
  cases hb : s.inReset (off / 0x10000) with
  | true => rw [State.hostWrite_inReset hd hr hb]
  | false => rw [State.hostWrite_reg hd hr hb, State.writeReg_sem0 h0, hs]; rfl

theorem rcFieldRead_reg {size : Nat} (hd : isDoorbell (off - off % 4) = false) (hr : s.noReg (off - off % 4) = false)
    (hb : s.inReset ((off - off % 4) / 0x10000) = false) :
    exec (.rcFieldRead x off size) s = .next ((s.readAct x (off - off % 4)).showRead x off size
      (hideWo (off - off % 4) (s.viewReg x (off - off % 4)))) := by
  have hlt := State.noReg_false_lt hr
  have hl : ¬ 0x1000000 ≤ off := by omega
  simp [exec, execRcFieldRead, rcFieldReadEff, hl, State.hostRead, hd, hr, hb]

/-- Settles O55. -/
theorem ignoredWithoutSem0 : Obligations.IgnoredWithoutSem0 := by
  refine ⟨?register, ?row, ?read⟩
  case register => exact fun x off v s hs hd hr ho ha hn => registerWrite_ignored hs hd hr ⟨ho, ha, hn⟩
  case row =>
    intro c x b s hc hs hl
    obtain ⟨t, ht⟩ := exec_of_setUpWriteOf hc s
    rw [ht, State.asWrite_ignored hs hl]
  case read => exact fun x off size s _ hd hr hb => rcFieldRead_reg hd hr hb

end Sys2Proof.Machine
end

section
namespace Sys2Proof.Machine

/-! ## What every command keeps

`Keeps s t` is the one statement behind O57 and O58. Each operation of the model has one lemma `Keeps.<operation>`: what held
between `s` and the state that the operation is given still holds for the state it answers. The proof of each follows the
operation's own definition: a chain `h.a.b` says that the operation is `a` and then `b`. -/

/-- From `s` to `t` the waiting commands and the variant stay, and a canonical state stays canonical (R2, log 1, log 123). -/
structure Keeps (s t : State) : Prop where
  pending : t.pending = s.pending
  variant : t.variant = s.variant
  canonical : s.canonical = true → t.canonical = true

/-- The same for the way in which the body of a ring command ends. -/
inductive KeepsEnd (s : State) : CmdEnd → Prop where
  | done {t : State} {status : Nat} {r0 r1 : Word} (h : Keeps s t) : KeepsEnd s (.done t status r0 r1)
  | refuse {t : State} {cls i status : Nat} (h : Keeps s t) : KeepsEnd s (.refuse t cls i status)
  | wait {t : State} (h : Keeps s t) : KeepsEnd s (.wait t)
  | later : KeepsEnd s .later

namespace Keeps

variable {s t u : State}

theorem refl : Keeps s s := ⟨rfl, rfl, id⟩

theorem trans (h : Keeps s t) (k : Keeps t u) : Keeps s u :=
  ⟨k.pending.trans h.pending, k.variant.trans h.variant, fun c => k.canonical (h.canonical c)⟩

/-- Any part of the state but the registers, the host ports, the variant and the waiting commands may change. -/
theorem other {time : TimeSt} {prt : PrtSt} {pool : PoolSt} {ptx : PtxSt} {fld : FldSt} {lge : LgeSt} {cle : CleSt} {lio : LioSt}
    {mtr : MtrSt} {saf : SafSt} {rsr : RsrSt} {key : KeySt} {dsp : DspSt} {can : CanSt} {twn : TwnSt} {upd : UpdSt} {rst : RstSt}
    {evr : RecSt} {out : List Out} {free : Nat} (h : Keeps s t) :
    Keeps s { variant := t.variant, regs := t.regs, time, host := t.host, prt, pool, ptx, fld, lge, cle, lio, mtr, saf, rsr, key,
              dsp, can, twn, upd, rst, evr, out, free, pending := t.pending } :=
  h.trans ⟨rfl, rfl, (State.canonical_congr rfl rfl rfl rfl).trans⟩

/-- The host ports may change, but for the bytes of host memory. -/
theorem host {host : HostSt} (h : Keeps s t) (e0 : host.mem0 = t.host.mem0 := by rfl)
    (e1 : host.mem1 = t.host.mem1 := by rfl) : Keeps s { t with host := host } :=
  h.trans ⟨rfl, rfl, (State.canonical_congr (s := t) (t := { t with host := host }) rfl rfl e0 e1).trans⟩

/-- The registers may change to others in canonical form. -/
theorem withRegs (h : Keeps s t) {regs : Store Word}
    (hr : Store.wf (Reg.resetVal t.variant) t.regs = true → Store.wf (Reg.resetVal t.variant) regs = true) :
    Keeps s { t with regs := regs } := by
  refine h.trans ⟨rfl, rfl, fun c => ?_⟩
  simp only [State.canonical, Bool.and_eq_true] at c ⊢
  exact ⟨⟨hr c.1.1, c.1.2⟩, c.2⟩

theorem ite {c : Prop} {_ : Decidable c} (h : Keeps s t) (k : Keeps s u) : Keeps s (if c then t else u) := by
  split
  · exact h
  · exact k

/-- The state that an operation answers beside a value. -/
theorem of_eq {α : Type} {p : α × State} {a : α} (h : Keeps s p.2) (e : p = (a, u)) : Keeps s u := by
  subst e
  exact h

/-- The state that an operation answers beside two values. -/
theorem of_eq₂ {α β : Type} {p : α × β × State} {a : α} {b : β} (h : Keeps s p.2.2) (e : p = (a, b, u)) : Keeps s u := by
  subst e
  exact h

/-- The state of a pair. -/
theorem snd {α : Type} {a : α} (h : Keeps s t) : Keeps s (a, t).2 := h

theorem foldl {α : Type} {f : State → α → State} {l : List α} (h : Keeps s t)
    (hf : ∀ u a, Keeps s u → Keeps s (f u a)) : Keeps s (l.foldl f t) := by
  induction l generalizing t with
  | nil => exact h
  | cons a l ih => exact ih (hf t a h)

theorem forUpto {n : Nat} {f : Nat → State → State} (h : Keeps s t)
    (hf : ∀ i u, Keeps s u → Keeps s (f i u)) : Keeps s (forUpto n t f) :=
  h.foldl fun u i => hf i u

theorem done {status : Nat} {r0 r1 : Word} (h : Keeps s t) : KeepsEnd s (.done t status r0 r1) := .done h

theorem refuse {cls i status : Nat} (h : Keeps s t) : KeepsEnd s (.refuse t cls i status) := .refuse h

theorem wait (h : Keeps s t) : KeepsEnd s (.wait t) := .wait h

end Keeps

namespace KeepsEnd

variable {s t : State} {a b : CmdEnd}

theorem ite {c : Prop} {_ : Decidable c} (h : KeepsEnd s a) (k : KeepsEnd s b) : KeepsEnd s (if c then a else b) := by
  split
  · exact h
  · exact k

theorem of_done {status : Nat} {r0 r1 : Word} (h : KeepsEnd s a) (e : a = .done t status r0 r1) : Keeps s t := by
  subst e
  cases h with | done h => exact h

theorem of_refuse {cls i status : Nat} (h : KeepsEnd s a) (e : a = .refuse t cls i status) : Keeps s t := by
  subst e
  cases h with | refuse h => exact h

theorem of_wait (h : KeepsEnd s a) (e : a = .wait t) : Keeps s t := by
  subst e
  cases h with | wait h => exact h

end KeepsEnd

namespace Keeps

variable {s t : State}

theorem setReg {off : Nat} {v : Word} (h : Keeps s t) : Keeps s (t.setReg off v) := h.withRegs Store.put_wf

theorem setF {f : Fld} {n : Nat} (h : Keeps s t) : Keeps s (t.setF f n) := h.setReg

theorem setHmem {x : HPort} {m : Store Byte} (h : Keeps s t)
    (hm : Store.wf byteZero (t.hmem x) = true → Store.wf byteZero m = true) : Keeps s (t.setHmem x m) :=
  h.trans ⟨by cases x <;> exact rfl, State.setHmem_variant,
    fun c => State.setHmem_canonical c (hm (State.hmem_wf c))⟩

end Keeps

end Sys2Proof.Machine
end

section
namespace Sys2Proof.Machine

/-! ## One lemma per operation, in the order of the model's files -/

section

variable {σ τ : State}

/-! ### Ops -/

theorem Keeps.addSat {f : Fld} {n : Nat} (h : Keeps σ τ) : Keeps σ (τ.addSat f n) := h.setF

theorem Keeps.emit {o : Out} (h : Keeps σ τ) : Keeps σ (τ.emit o) := h.other

theorem Keeps.useFree (h : Keeps σ τ) : Keeps σ τ.useFree := h.other

theorem Keeps.useFrees {n : Nat} (h : Keeps σ τ) : Keeps σ (τ.useFrees n) := h.other

theorem Keeps.badVal (h : Keeps σ τ) : Keeps σ τ.badVal := h.setF

theorem Keeps.absWr (h : Keeps σ τ) : Keeps σ τ.absWr := h.setF

theorem Keeps.setPend {x : HPort} {v : Nat} {b : Bool} (h : Keeps σ τ) : Keeps σ (τ.setPend x v b) := by
  unfold State.setPend
  split <;> exact h.host

theorem Keeps.msix {x : HPort} {v : Nat} (h : Keeps σ τ) : Keeps σ (τ.msix x v) := .ite h.setPend h.emit

theorem Keeps.unpend {x : HPort} (h : Keeps σ τ) : Keeps σ (τ.unpend x) :=
  h.foldl (fun _ _ h => .ite h h.setPend.msix)

theorem Keeps.signalOn {x : HPort} {b : Nat} (h : Keeps σ τ) : Keeps σ (τ.signalOn x b) := .ite h.msix h

theorem Keeps.signalUnit {b : Nat} (h : Keeps σ τ) : Keeps σ (τ.signalUnit b) := h.signalOn.signalOn

theorem Keeps.raise {stat ien blk bit : Nat} (h : Keeps σ τ) : Keeps σ (τ.raise stat ien blk bit) :=
  .ite h (.ite h.setF.signalUnit h.setF)

theorem Keeps.raiseEvr {bit : Nat} (h : Keeps σ τ) : Keeps σ (τ.raiseEvr bit) := h.raise

theorem Keeps.reportFrom {origin code part : Nat} {p1 p2 p3 : Word} (h : Keeps σ τ) :
    Keeps σ (τ.reportFrom origin code part p1 p2 p3) :=
  .ite h (.ite h.other h.addSat.raiseEvr.other)

theorem Keeps.report {code part : Nat} {p1 p2 p3 : Word} (h : Keeps σ τ) : Keeps σ (τ.report code part p1 p2 p3) :=
  h.reportFrom

theorem Keeps.dmaRead {x : HPort} {p addr len : Nat} (h : Keeps σ τ) : Keeps σ (τ.dmaRead x p addr len).2 := by
  unfold State.dmaRead
  split
  · exact h
  · extract_lets t
    have h_t : Keeps σ t := h.emit
    split <;> exact h_t

theorem Keeps.dmaWrite {x : HPort} {p addr : Nat} {data : List Byte} (h : Keeps σ τ) :
    Keeps σ (τ.dmaWrite x p addr data).2 := by
  unfold State.dmaWrite
  split
  · exact h
  · split
    · exact h.emit.setHmem Store.putList_wf
    · exact h.emit

theorem Keeps.hostStores {x : HPort} {m : HostMem} (h : Keeps σ τ) : Keeps σ (τ.hostStores x m) := by
  have k := h.setHmem (x := x) (State.foldl_put_wf (cs := m.cells))
  unfold State.hostStores
  split <;> exact k.host

theorem Keeps.setCount {n : Nat} (h : Keeps σ τ) : Keeps σ (τ.setCount n) := h.other

/-! ### Partition -/

theorem Keeps.refusal {p cls i status : Nat} (h : Keeps σ τ) : Keeps σ (τ.refusal p cls i status) :=
  .ite h (.ite h.addSat.report h.addSat)

theorem Keeps.audit {p t cls i code : Nat} (h : Keeps σ τ) : Keeps σ (τ.audit p t cls i code) := .ite h.report h

theorem Keeps.idle (h : Keeps σ τ) : Keeps σ τ.idle := .ite h.setF h

/-! ### Pool -/

theorem Keeps.setQueue {q : Nat} {ps : List Pkt} (h : Keeps σ τ) : Keeps σ (τ.setQueue q ps) := h.other

theorem Keeps.discard {q cause : Nat} (h : Keeps σ τ) : Keeps σ (τ.discard q cause) :=
  (Keeps.ite h h.setF.report).addSat

theorem Keeps.clearInject {q : Nat} (h : Keeps σ τ) : Keeps σ (τ.clearInject q) := h.other

theorem Keeps.refuseWrite {q cause : Nat} (h : Keeps σ τ) : Keeps σ (τ.refuseWrite q cause) :=
  (Keeps.ite h.clearInject h).discard

theorem Keeps.enqueue {q : Nat} {p : Pkt} (h : Keeps σ τ) : Keeps σ (τ.enqueue q p).2 := by
  unfold State.enqueue
  split
  · exact h.refuseWrite
  · exact (Keeps.ite h h.clearInject).setQueue.other

theorem Keeps.flushConsume {q : Nat} (h : Keeps σ τ) : Keeps σ (τ.flushConsume q) := h.other

theorem Keeps.shortfall (h : Keeps σ τ) : Keeps σ τ.shortfall := by
  unfold State.shortfall
  exact .ite h h.other.setF.report

theorem Keeps.retireCell (h : Keeps σ τ) : Keeps σ τ.retireCell := h.addSat.shortfall

theorem Keeps.poisonCell {q cell : Nat} (h : Keeps σ τ) : Keeps σ (τ.poisonCell q cell) :=
  h.setF.addSat.report.retireCell

theorem Keeps.poison {q i cell : Nat} (h : Keeps σ τ) : Keeps σ (τ.poison q i cell) :=
  (Keeps.ite h.setQueue.flushConsume h.setQueue).poisonCell

theorem Keeps.corrected {q : Nat} (h : Keeps σ τ) : Keeps σ (τ.corrected q) := h.addSat.addSat

theorem Keeps.dequeue {q : Nat} (h : Keeps σ τ) : Keeps σ (τ.dequeue q).2 := by
  unfold State.dequeue
  split
  · exact h.snd
  · split
    · exact h.useFree.poison.snd
    · exact .ite h.setQueue.flushConsume.corrected h.setQueue.flushConsume

theorem Keeps.emptyQueue {q : Nat} (h : Keeps σ τ) : Keeps σ (τ.emptyQueue q) := h.setQueue.other

theorem Keeps.filterQueue {q : Nat} {keep : Pkt → Bool} (h : Keeps σ τ) : Keeps σ (τ.filterQueue q keep) :=
  h.setQueue.other

theorem Keeps.flushNow {q : Nat} (h : Keeps σ τ) : Keeps σ (τ.flushNow q) := .ite h.emptyQueue h.emptyQueue.setF

theorem Keeps.requestFlush {q : Nat} (h : Keeps σ τ) : Keeps σ (τ.requestFlush q) := .ite h (.ite h.setF h.other)

theorem Keeps.passThrough {q : Nat} (h : Keeps σ τ) : Keeps σ (τ.passThrough q).2 := by
  unfold State.passThrough
  extract_lets e2 t
  have h_t : Keeps σ t := h.clearInject
  split
  · exact h_t.useFree.poisonCell.snd
  · exact (Keeps.ite h_t.corrected h_t).snd

/-! ### RiserPath -/

theorem Keeps.setRsr {r : RsrSt} (h : Keeps σ τ) : Keeps σ (τ.setRsr r) := h.other

theorem Keeps.raiseRsr {bit : Nat} (h : Keeps σ τ) : Keeps σ (τ.raiseRsr bit) := h.raise

theorem Keeps.countRsr {k r n : Nat} (h : Keeps σ τ) : Keeps σ (τ.countRsr k r n) := h.setRsr

theorem Keeps.learn {r mac : Nat} (h : Keeps σ τ) : Keeps σ (τ.learn r mac) := .ite h h.setRsr

theorem Keeps.toRiser {r c : Nat} {k : Pkt} (h : Keeps σ τ) : Keeps σ (τ.toRiser r c k) := by
  unfold State.toRiser
  refine .ite h ?_
  split
  · next e => exact h.enqueue.of_eq e
  · next e => exact (h.enqueue.of_eq e).countRsr

theorem Keeps.sendOwn {c : Nat} {k : Pkt} (h : Keeps σ τ) : Keeps σ (τ.sendOwn c k) :=
  h.setRsr.foldl (fun _ _ h => h.foldl (fun _ _ h => h.toRiser))

theorem Keeps.macsecFail {r kind : Nat} (h : Keeps σ τ) : Keeps σ (τ.macsecFail r kind) :=
  .ite h.raiseRsr (.ite h.raiseRsr.setRsr.report h.raiseRsr.report)

theorem Keeps.keyGone {slot : Nat} (h : Keeps σ τ) : Keeps σ (τ.keyGone slot) :=
  h.forUpto (fun _ _ h => .ite h.macsecFail h)

/-! ### Rings -/

theorem Keeps.setRing {x : HPort} {p : Nat} {r : RingSet} (h : Keeps σ τ) : Keeps σ (τ.setRing x p r) := h.host

theorem Keeps.setRs {x : HPort} {p st : Nat} (h : Keeps σ τ) : Keeps σ (τ.setRs x p st) := h.setF

theorem Keeps.fireVec {x : HPort} {p : Nat} {k : RingVec} (h : Keeps σ τ) : Keeps σ (τ.fireVec x p k) :=
  .ite h.setRing.msix h

theorem Keeps.noteEntries {x : HPort} {p : Nat} {k : RingVec} (h : Keeps σ τ) : Keeps σ (τ.noteEntries x p k) :=
  .ite h.fireVec h.setRing

theorem Keeps.endSubs {x : HPort} {p : Nat} (h : Keeps σ τ) : Keeps σ (τ.endSubs x p) := h.other

theorem Keeps.dropRing {x : HPort} {p : Nat} (h : Keeps σ τ) : Keeps σ (τ.dropRing x p) :=
  h.setRing.flushNow.flushNow.endSubs

theorem Keeps.ringFault {x : HPort} {p errc : Nat} (h : Keeps σ τ) : Keeps σ (τ.ringFault x p errc) :=
  h.setRs.dropRing.setRing.report.msix

theorem Keeps.rawEvt {x : HPort} {p : Nat} {ws : List Word} (h : Keeps σ τ) : Keeps σ (τ.rawEvt x p ws) := by
  unfold State.rawEvt
  extract_lets r ws2
  split
  · next e => exact (h.dmaWrite.of_eq e).ringFault
  · next e => exact (h.dmaWrite.of_eq e).setRing.noteEntries

theorem Keeps.eventEntry {x : HPort} {p : Nat} {ws : List Word} (h : Keeps σ τ) : Keeps σ (τ.eventEntry x p ws) :=
  .ite h (.ite h.rawEvt h.setRing)

theorem Keeps.lostEntry {x : HPort} {p : Nat} (h : Keeps σ τ) : Keeps σ (τ.lostEntry x p) := .ite h h.setRing.rawEvt

theorem Keeps.dropEntry {x : HPort} {p reason : Nat} {k : Pkt} (h : Keeps σ τ) : Keeps σ (τ.dropEntry x p reason k) :=
  h.eventEntry

theorem Keeps.dropHead {x : HPort} {p reason : Nat} (h : Keeps σ τ) : Keeps σ (τ.dropHead x p reason) := by
  unfold State.dropHead
  split
  · next e => exact h.dequeue.of_eq e
  · next e => exact (h.dequeue.of_eq e).setRing.dropEntry

theorem Keeps.headArrives {x : HPort} {p fuel : Nat} (h : Keeps σ τ) : Keeps σ (τ.headArrives x p fuel) := by
  induction fuel generalizing τ x p with
  | zero =>
    rw [State.headArrives]
    exact h
  | succ n ih =>
    rw [State.headArrives]
    split
    · exact h.setRing
    · exact .ite (ih h.dropHead) (.ite h.setRing (.ite (ih h.dropHead) h.setRing))

theorem Keeps.toHost {x : HPort} {p : Nat} {k : Pkt} (h : Keeps σ τ) : Keeps σ (τ.toHost x p k).2 := by
  unfold State.toHost
  split
  · exact h.discard
  · extract_lets was
    split
    · next e => exact h.enqueue.of_eq e
    · next e => exact .ite (h.enqueue.of_eq e).headArrives (h.enqueue.of_eq e)

theorem Keeps.fillData {x : HPort} {p : Nat} {r : RingSet} {j fuel : Nat} {bs : List Byte} (h : Keeps σ τ) :
    Keeps σ (τ.fillData x p r j fuel bs).2 := by
  induction fuel generalizing τ x p r j bs with
  | zero =>
    rw [State.fillData]
    exact h
  | succ n ih =>
    rw [State.fillData]
    split
    · next e => exact (h.dmaRead.of_eq e).ringFault
    · next e =>
      split
      · next e2 => exact ((h.dmaRead.of_eq e).dmaWrite.of_eq e2).ringFault
      · next e2 => exact ih ((h.dmaRead.of_eq e).dmaWrite.of_eq e2)

theorem Keeps.writeBacks {x : HPort} {p : Nat} {k : Pkt} {n j fuel : Nat} (h : Keeps σ τ) :
    Keeps σ (τ.writeBacks x p k n j fuel).2 := by
  induction fuel generalizing τ x p k n j with
  | zero =>
    rw [State.writeBacks]
    exact h
  | succ n ih =>
    rw [State.writeBacks]
    split
    · next e => exact (h.dmaWrite.of_eq e).ringFault
    · next e => exact ih (h.dmaWrite.of_eq e).setRing

theorem Keeps.fillBuffers {x : HPort} {p : Nat} {k : Pkt} (h : Keeps σ τ) : Keeps σ (τ.fillBuffers x p k).2 := by
  unfold State.fillBuffers
  extract_lets r
  split
  · next e => exact h.fillData.of_eq e
  · next e => exact (h.fillData.of_eq e).writeBacks

theorem Keeps.deliverHead {x : HPort} {p : Nat} (h : Keeps σ τ) : Keeps σ (τ.deliverHead x p) := by
  unfold State.deliverHead
  split
  · exact h
  · refine .ite h ?_
    split
    · next e2 => exact (h.dequeue.of_eq e2).headArrives
    · next e2 =>
      extract_lets t
      split
      · next e3 => exact (h.dequeue.of_eq e2).setRing.fillBuffers.of_eq e3
      · next e3 => exact ((h.dequeue.of_eq e2).setRing.fillBuffers.of_eq e3).noteEntries.headArrives

theorem Keeps.setTurn {x : HPort} {p : Nat} (h : Keeps σ τ) : Keeps σ (τ.setTurn x p) := by
  unfold State.setTurn
  split <;> exact h.host

theorem Keeps.writeCpl {x : HPort} {p : Nat} {o : Op} (h : Keeps σ τ) : Keeps σ (τ.writeCpl x p o).2 := by
  unfold State.writeCpl
  extract_lets r w1
  split
  · next e => exact (h.dmaWrite.of_eq e).ringFault
  · next e => exact (h.dmaWrite.of_eq e).setRing.noteEntries

theorem Keeps.drain {x : HPort} {p fuel : Nat} (h : Keeps σ τ) : Keeps σ (τ.drain x p fuel) := by
  induction fuel generalizing τ x p with
  | zero =>
    rw [State.drain]
    exact h
  | succ n ih =>
    rw [State.drain]
    split
    · refine .ite ?_ h
      split
      · next e2 => exact ih (h.writeCpl.of_eq e2)
      · next e2 => exact h.writeCpl.of_eq e2
    · exact h

theorem Keeps.complete {x : HPort} {p id status epoch : Nat} {r0 r1 : Word} (h : Keeps σ τ) :
    Keeps σ (τ.complete x p id status epoch r0 r1) :=
  h.setRing.drain

theorem Keeps.completeLate {x : HPort} {p id status : Nat} {r0 r1 : Word} (h : Keeps σ τ) :
    Keeps σ (τ.completeLate x p id status r0 r1) :=
  h.complete

/-- A ring command keeps what its body keeps. -/
theorem Keeps.command {x : HPort} {p : Part} {d : Desc} {sel wf fitted cfg : Bool} {body : State → Nat → CmdEnd}
    (h : Keeps σ τ) (hbody : ∀ υ i, Keeps σ υ → KeepsEnd σ (body υ i)) :
    Keeps σ (τ.command x p d sel wf fitted cfg body) := by
  unfold State.command
  refine .ite h ?_
  split
  · exact h
  · next o _ =>
    extract_lets r e t fin
    have h_t : Keeps σ t := h.setRing
    have h_fin : ∀ {υ status r0 r1}, Keeps σ υ → Keeps σ (fin υ status r0 r1) := fun k => k.complete
    refine .ite (h_fin h_t) (.ite (h_fin h_t) (.ite (h_fin h_t) (.ite (h_fin (.ite h_t h_t.useFree.useFree.refusal))
      (.ite (h_fin h_t) ?_))))
    split
    · next e => exact h_fin ((hbody _ _ h_t).of_done e)
    · next e => exact h_fin ((hbody _ _ h_t).of_refuse e).refusal
    · next e => exact (hbody _ _ h_t).of_wait e
    · exact h

/-! ### Recorder -/

theorem Keeps.setBucket {b : Nat} {k : Bucket} (h : Keeps σ τ) : Keeps σ (τ.setBucket b k) := h.other

theorem Keeps.writeRecord {r : Report} {summ : Bool} (h : Keeps σ τ) : Keeps σ (τ.writeRecord r summ) :=
  .ite (.ite (Keeps.ite h.other.setF.setF h.other.setF).setF.raiseEvr (Keeps.ite h.other.setF.setF
      h.other.setF).setF) h.other.setF

theorem Keeps.summary {b : Nat} (h : Keeps σ τ) : Keeps σ (τ.summary b) := .ite h h.setBucket.writeRecord

theorem Keeps.recordOne {r : Report} (h : Keeps σ τ) : Keeps σ (τ.recordOne r) :=
  .ite h.writeRecord (.ite h.setBucket.writeRecord h.setBucket.addSat.raiseEvr)

theorem Keeps.recordWriteEff (h : Keeps σ τ) : Keeps σ (recordWriteEff τ) := by
  unfold Machine.recordWriteEff
  refine .ite h (.ite h.other.writeRecord ?_)
  split
  · exact h
  · exact h.other.recordOne

theorem Keeps.eventReportEff {r : ReportIn} (h : Keeps σ τ) : Keeps σ (eventReportEff r τ) := h.reportFrom

theorem Keeps.deliverTo {k : Rec} {x : HPort} {p : Nat} (h : Keeps σ τ) : Keeps σ (τ.deliverTo k x p) := by
  unfold State.deliverTo
  refine .ite h ?_
  split
  · exact h
  · exact h.eventEntry

theorem Keeps.eventDeliveryEff (h : Keeps σ τ) : Keeps σ (eventDeliveryEff τ) := by
  unfold Machine.eventDeliveryEff
  split
  · exact h
  · exact h.other.forUpto (fun _ _ h => h.deliverTo.deliverTo)

theorem Keeps.bucketRefillEff {b : Fin 384} (h : Keeps σ τ) : Keeps σ (bucketRefillEff b τ) :=
  .ite h h.setBucket.summary

theorem Keeps.fillBucket {b : Nat} (h : Keeps σ τ) : Keeps σ (τ.fillBucket b) := .ite h.setBucket h.setBucket.summary

theorem Keeps.keepClear {x : HPort} (h : Keeps σ τ) : Keeps σ (τ.keepClear x) := h.setF.setF.other.writeRecord

theorem Keeps.keepClearEff {x : HPort} (h : Keeps σ τ) : Keeps σ (keepClearEff x τ) := .ite h.keepClear h

theorem Keeps.recReadBody {x : HPort} {p : Part} {d : Desc} {id : Nat} (h : Keeps σ τ) :
    KeepsEnd σ (recReadBody x p d τ id) := by
  unfold Machine.recReadBody
  extract_lets keep head
  rcases e : pickRecords (↑p) head (BitVec.toNat d.w3) (if keep then 8 else 0) (τ.areaRecords (decide keep))
      (fieldOf d.w2 15 0) with ⟨ws, bad⟩
  dsimp only
  split
  · next e2 => exact ((Keeps.ite h h.addSat.raiseEvr).dmaWrite.of_eq e2).done
  · next e2 => exact ((Keeps.ite h h.addSat.raiseEvr).dmaWrite.of_eq e2).done

theorem Keeps.recReadEff {x : HPort} {p : Part} {d : Desc} (h : Keeps σ τ) : Keeps σ (recReadEff x p d τ) :=
  h.command (fun _ _ h => h.recReadBody)

theorem Keeps.recorderStart {tornRoll tornKeep : List Nat} (h : Keeps σ τ) :
    Keeps σ (τ.recorderStart tornRoll tornKeep) :=
  (Keeps.ite (Keeps.ite h.other.setF.addSat h.other.setF.addSat.raiseEvr).raiseEvr (.ite h.other.setF.addSat
      h.other.setF.addSat.raiseEvr)).writeRecord

/-! ### Points -/

theorem Keeps.setImg {i : Nat} {v : Word} (h : Keeps σ τ) : Keeps σ (τ.setImg i v) := h.other

theorem Keeps.setQual {i : Nat} {q : Word} (h : Keeps σ τ) : Keeps σ (τ.setQual i q) := h.other

theorem Keeps.qbit {i bit : Nat} {b : Bool} (h : Keeps σ τ) : Keeps σ (τ.qbit i bit b) := h.setQual

theorem Keeps.sourceWrite {i : Nat} {v : Word} (h : Keeps σ τ) : Keeps σ (τ.sourceWrite i v) := h.setImg.qbit

theorem Keeps.setForce {i : Nat} {f : Option Force} (h : Keeps σ τ) : Keeps σ (τ.setForce i f) := h.other

theorem Keeps.evalSub {b : Sub} (h : Keeps σ τ) : Keeps σ (τ.evalSub b).2 := by
  unfold State.evalSub
  extract_lets v q p
  split
  · exact h.eventEntry
  · exact h

theorem Keeps.evalSubs {sel : Nat → Bool} {subs : List Sub} (h : Keeps σ τ) : Keeps σ (τ.evalSubs sel subs).2 := by
  induction subs generalizing τ sel with
  | nil =>
    rw [State.evalSubs]
    exact h
  | cons b l ih =>
    rw [State.evalSubs]
    refine ih ?_
    split
    · exact h.evalSub
    · exact h

theorem Keeps.notify {sel : Nat → Bool} (h : Keeps σ τ) : Keeps σ (τ.notify sel) := h.evalSubs.other

theorem Keeps.cullSubs (h : Keeps σ τ) : Keeps σ τ.cullSubs := h.other.foldl (fun _ _ h => h.eventEntry)

theorem Keeps.ptReadBody {p : Part} {d : Desc} {id : Nat} (h : Keeps σ τ) : KeepsEnd σ (ptReadBody p d τ id) :=
  .ite h.refuse h.done

theorem Keeps.ptReadEff {x : HPort} {p : Part} {d : Desc} (h : Keeps σ τ) : Keeps σ (ptReadEff x p d τ) :=
  h.command (fun _ _ h => h.ptReadBody)

theorem Keeps.hostPointWrite {p i : Nat} {v : Word} {code : Nat} (h : Keeps σ τ) :
    Keeps σ (τ.hostPointWrite p i v code).2 := by
  unfold State.hostPointWrite
  extract_lets st
  split
  · exact h
  · split
    · exact h
    · exact h.sourceWrite.audit

theorem Keeps.ptWriteBody {p : Part} {d : Desc} {id : Nat} (h : Keeps σ τ) : KeepsEnd σ (ptWriteBody p d τ id) :=
  .ite h.hostPointWrite.refuse h.hostPointWrite.done

theorem Keeps.ptWriteEff {x : HPort} {p : Part} {d : Desc} (h : Keeps σ τ) : Keeps σ (ptWriteEff x p d τ) :=
  h.command (fun _ _ h => h.ptWriteBody)

theorem Keeps.noteFirst {p : Nat} {r : Option (Nat × Nat)} (h : Keeps σ τ) : Keeps σ (τ.noteFirst p r) := by
  unfold State.noteFirst
  split
  · exact h.refusal
  · exact h

theorem Keeps.listWrite {p : Nat} {ws : List Word} {r : ListRun} (h : Keeps σ τ) :
    Keeps σ (listWrite p ws r τ).2 := by
  fun_induction Machine.listWrite p ws r τ with
  | case1 r s w0 w1 rest i st t e ih => exact ih (h.hostPointWrite.of_eq e)
  | case2 => exact h

theorem Keeps.endList {x : HPort} {p : Part} {d : Desc} {r : ListRun} (h : Keeps σ τ) :
    KeepsEnd σ (endList x p d r τ) := by
  unfold Machine.endList
  extract_lets t
  have h_t : Keeps σ t := h.noteFirst
  split
  · next e => exact (h_t.dmaWrite.of_eq e).done
  · next e => exact (h_t.dmaWrite.of_eq e).done

theorem Keeps.ptListReadBody {x : HPort} {p : Part} {d : Desc} {id : Nat} (h : Keeps σ τ) :
    KeepsEnd σ (ptListReadBody x p d τ id) := by
  unfold Machine.ptListReadBody
  split
  · next e => exact (h.dmaRead.of_eq e).done
  · next e => exact (h.dmaRead.of_eq e).endList

theorem Keeps.ptListReadEff {x : HPort} {p : Part} {d : Desc} (h : Keeps σ τ) : Keeps σ (ptListReadEff x p d τ) :=
  h.command (fun _ _ h => h.ptListReadBody)

theorem Keeps.ptListWriteBody {x : HPort} {p : Part} {d : Desc} {id : Nat} (h : Keeps σ τ) :
    KeepsEnd σ (ptListWriteBody x p d τ id) := by
  unfold Machine.ptListWriteBody
  refine .ite h.done ?_
  split
  · next e => exact (h.dmaRead.of_eq e).done
  · next e => exact (h.dmaRead.of_eq e).listWrite.endList

theorem Keeps.ptListWriteEff {x : HPort} {p : Part} {d : Desc} (h : Keeps σ τ) : Keeps σ (ptListWriteEff x p d τ) :=
  h.command (fun _ _ h => h.ptListWriteBody)

theorem Keeps.ptSubBody {x : HPort} {p : Part} {d : Desc} {id : Nat} (h : Keeps σ τ) :
    KeepsEnd σ (ptSubBody x p d τ id) :=
  .ite h.refuse (.ite h.done (.ite h.other.done (.ite h.done h.other.done)))

theorem Keeps.ptSubEff {x : HPort} {p : Part} {d : Desc} (h : Keeps σ τ) : Keeps σ (ptSubEff x p d τ) :=
  h.command (fun _ _ h => h.ptSubBody)

theorem Keeps.ptSubCancelBody {x : HPort} {p : Part} {d : Desc} {id : Nat} (h : Keeps σ τ) :
    KeepsEnd σ (ptSubCancelBody x p d τ id) :=
  .ite h.refuse (.ite h.done h.other.done)

theorem Keeps.ptSubCancelEff {x : HPort} {p : Part} {d : Desc} (h : Keeps σ τ) : Keeps σ (ptSubCancelEff x p d τ) :=
  h.command (fun _ _ h => h.ptSubCancelBody)

theorem Keeps.forceChg (h : Keeps σ τ) : Keeps σ τ.forceChg := h.raise

theorem Keeps.forceSetBody {p : Part} {d : Desc} {id : Nat} (h : Keeps σ τ) : KeepsEnd σ (forceSetBody p d τ id) :=
  .ite h.refuse (.ite h.done (.ite h.refuse (.ite h.done h.setForce.report.forceChg.audit.done)))

theorem Keeps.forceSetEff {x : HPort} {p : Part} {d : Desc} (h : Keeps σ τ) : Keeps σ (forceSetEff x p d τ) :=
  h.command (fun _ _ h => h.forceSetBody)

theorem Keeps.clearForce {p i : Nat} {f : Force} (h : Keeps σ τ) : Keeps σ (τ.clearForce p i f) :=
  h.setForce.report.forceChg.audit

theorem Keeps.forceClrBody {p : Part} {d : Desc} {id : Nat} (h : Keeps σ τ) : KeepsEnd σ (forceClrBody p d τ id) := by
  unfold Machine.forceClrBody
  refine .ite (.ite h.done (h.foldl (fun _ _ h => h.clearForce)).done) (.ite h.refuse (.ite h.done ?_))
  split
  · exact h.done
  · exact .ite h.refuse h.clearForce.done

theorem Keeps.forceClrEff {x : HPort} {p : Part} {d : Desc} (h : Keeps σ τ) : Keeps σ (forceClrEff x p d τ) :=
  h.command (fun _ _ h => h.forceClrBody)

theorem Keeps.forceListBody {x : HPort} {p : Part} {d : Desc} {id : Nat} (h : Keeps σ τ) :
    KeepsEnd σ (forceListBody x p d τ id) := by
  unfold Machine.forceListBody
  extract_lets vis out
  split
  · next e => exact (h.dmaWrite.of_eq e).done
  · next e => exact (h.dmaWrite.of_eq e).done

theorem Keeps.forceListEff {x : HPort} {p : Part} {d : Desc} (h : Keeps σ τ) : Keeps σ (forceListEff x p d τ) :=
  h.command (fun _ _ h => h.forceListBody)

theorem Keeps.snapshotBody {x : HPort} {p : Part} {d : Desc} {id : Nat} (h : Keeps σ τ) :
    KeepsEnd σ (snapshotBody x p d τ id) :=
  h.noteFirst.other.wait

theorem Keeps.snapshotEff {x : HPort} {p : Part} {d : Desc} (h : Keeps σ τ) : Keeps σ (snapshotEff x p d τ) :=
  h.command (fun _ _ h => h.snapshotBody)

theorem Keeps.copySnap {k : SnapReq} (h : Keeps σ τ) : Keeps σ (τ.copySnap k) := by
  unfold State.copySnap
  refine .ite h ?_
  extract_lets first ws
  split
  · next e => exact (h.dmaWrite.of_eq e).completeLate
  · next e => exact (h.dmaWrite.of_eq e).completeLate

theorem Keeps.copySnaps (h : Keeps σ τ) : Keeps σ τ.copySnaps := h.other.foldl (fun _ _ h => h.copySnap)

/-! ### Access -/

theorem Keeps.writeField {off : Nat} {v : Word} {f : FieldRow} (h : Keeps σ τ) : Keeps σ (τ.writeField off v f) := by
  unfold State.writeField
  extract_lets b n
  split
  · exact .ite h.setF h.badVal
  · exact h.setF
  · exact h.setF
  · exact h
  · exact h
  · exact h

theorem Keeps.writeFields {off : Nat} {v : Word} (h : Keeps σ τ) : Keeps σ (τ.writeFields off v) := by
  unfold State.writeFields
  split
  · exact h
  · exact h.foldl (fun _ _ h => h.writeField)

theorem Keeps.clearRc {off : Nat} (h : Keeps σ τ) : Keeps σ (τ.clearRc off) := by
  unfold State.clearRc
  split
  · exact h
  · exact h.foldl (fun _ _ h => .ite h.setF h)

theorem Keeps.badValIf {b : Bool} (h : Keeps σ τ) : Keeps σ (τ.badValIf b) := .ite h.badVal h

theorem Keeps.asWrite {x : HPort} {b : Nat} {t : State} (h : Keeps σ τ) (ht : Keeps σ t) : Keeps σ (τ.asWrite x b t)
    :=
  .ite h.absWr (.ite ht h)

theorem Keeps.showRead {x : HPort} {off size : Nat} {w : Word} (h : Keeps σ τ) : Keeps σ (τ.showRead x off size w) :=
  h.emit

/-! ### Mailbox -/

theorem Keeps.setCan {c : CanSt} (h : Keeps σ τ) : Keeps σ (τ.setCan c) := h.other

theorem Keeps.settleLock {k b : Nat} (h : Keeps σ τ) : Keeps σ (τ.settleLock k b) :=
  .ite h.setF h.setF.setCan.setF.setF.setF

theorem Keeps.releaseMailbox {x : HPort} (h : Keeps σ τ) : Keeps σ (τ.releaseMailbox x) := by
  unfold State.releaseMailbox
  split
  · exact h
  · exact h.setCan.settleLock

theorem Keeps.lockMailbox {x : HPort} (h : Keeps σ τ) : Keeps σ (τ.lockMailbox x) := h.setCan.settleLock

theorem Keeps.readWindow0 {x : HPort} (h : Keeps σ τ) : Keeps σ (τ.readWindow0 x).2 := by
  unfold State.readWindow0
  split
  · exact h
  · exact h.lockMailbox.setF

theorem Keeps.writeMbsel {x : HPort} {v : Word} (h : Keeps σ τ) : Keeps σ (τ.writeMbsel x v) :=
  h.releaseMailbox.writeFields

theorem Keeps.mailboxLost {k b : Nat} (h : Keeps σ τ) : Keeps σ (τ.mailboxLost k b) := h.setF.addSat.raise.report

theorem Keeps.toMailbox {k b : Nat} {f : List Byte} (h : Keeps σ τ) : Keeps σ (τ.toMailbox k b f) :=
  .ite (Keeps.ite h.mailboxLost h).setCan.setF (Keeps.ite h.mailboxLost h).setCan.setF.setF

theorem Keeps.mailboxWindowLockEff {x : HPort} (h : Keeps σ τ) : Keeps σ (mailboxWindowLockEff x τ) :=
  .ite h h.readWindow0.showRead

theorem Keeps.mailboxWindowReleaseEff {x : HPort} (h : Keeps σ τ) : Keeps σ (mailboxWindowReleaseEff x τ) :=
  .ite h h.releaseMailbox.showRead

theorem Keeps.mailboxSelectEff {x : HPort} {v : Word} (h : Keeps σ τ) : Keeps σ (mailboxSelectEff x v τ) :=
  .ite h h.writeMbsel

/-! ### HostPort -/

theorem Keeps.freeCell {i : Nat} (h : Keeps σ τ) : Keeps σ (τ.freeCell i) := h.useFree.setReg

theorem Keeps.clearStaging {x : HPort} (h : Keeps σ τ) : Keeps σ (τ.clearStaging x) := .ite h.setReg.setReg.setReg h

theorem Keeps.semAcquireEff {x : HPort} {i : Fin 64} {tag : BitVec 16} (h : Keeps σ τ) :
    Keeps σ (semAcquireEff x i tag τ) :=
  .ite (.ite h.setF.setF h) (.ite h.setReg.clearStaging.host.report h.setReg)

theorem Keeps.semReleaseEff {x : HPort} {i : Fin 64} (h : Keeps σ τ) : Keeps σ (semReleaseEff x i τ) :=
  .ite (.ite h.freeCell.report h.freeCell) h.badVal

theorem Keeps.evictCell {i code : Nat} (h : Keeps σ τ) : Keeps σ (τ.evictCell i code) := h.freeCell.report.signalOn

theorem Keeps.leaseExpiryEff {i : Fin 64} (h : Keeps σ τ) : Keeps σ (leaseExpiryEff i τ) := .ite h.evictCell h

theorem Keeps.heartbeatTimeoutEff {i : Fin 64} (h : Keeps σ τ) : Keeps σ (heartbeatTimeoutEff i τ) :=
  .ite h.evictCell h

theorem Keeps.rsRefuse {x : HPort} {errc : Nat} (h : Keeps σ τ) : Keeps σ (τ.rsRefuse x errc) := h.setF.setF

theorem Keeps.unlessBusy {x : HPort} {t : State} (h : Keeps σ τ) (ht : Keeps σ t) : Keeps σ (τ.unlessBusy x t) :=
  .ite h.badVal ht

theorem Keeps.ringSetCommitEff {x : HPort} (h : Keeps σ τ) : Keeps σ (ringSetCommitEff x τ) :=
  h.unlessBusy (.ite h.rsRefuse h.setRing)

theorem Keeps.stageBase {lo hi n : Nat} (h : Keeps σ τ) : Keeps σ (τ.stageBase lo hi n) := h.setReg.setReg

theorem Keeps.ringSetReadBackEff {x : HPort} (h : Keeps σ τ) : Keeps σ (ringSetReadBackEff x τ) :=
  h.unlessBusy h.stageBase.stageBase.stageBase.stageBase.setReg.setReg.setReg

theorem Keeps.ringSetStartEff {x : HPort} (h : Keeps σ τ) : Keeps σ (ringSetStartEff x τ) := by
  unfold Machine.ringSetStartEff
  refine h.unlessBusy ?_
  extract_lets p
  split
  · exact h.rsRefuse
  · exact h.setRing.setRs

theorem Keeps.stopRing {x : HPort} {p : Nat} (h : Keeps σ τ) : Keeps σ (τ.stopRing x p) :=
  .ite h.setRs.setRing.flushNow.endSubs.drain (.ite h.setRs h)

theorem Keeps.setStop {x : HPort} {p : Option Nat} (h : Keeps σ τ) : Keeps σ (τ.setStop x p) := by
  unfold State.setStop
  split <;> exact h.host

theorem Keeps.ringSetStopEff {x : HPort} (h : Keeps σ τ) : Keeps σ (ringSetStopEff x τ) :=
  h.unlessBusy (.ite h.stopRing.setStop.setF h.stopRing)

theorem Keeps.ringSetStoppedEff {x : HPort} {p : Part} (h : Keeps σ τ) : Keeps σ (ringSetStoppedEff x p τ) :=
  .ite (Keeps.ite h.setRs.flushNow.setStop.setF h.setRs.flushNow).msix h

theorem Keeps.ringSetFaultEff {x : HPort} {p : Part} {errc : Fin 4} (h : Keeps σ τ) :
    Keeps σ (ringSetFaultEff x p errc τ) :=
  .ite h.ringFault h

theorem Keeps.dbErr {x : HPort} {p : Nat} (h : Keeps σ τ) : Keeps σ (τ.dbErr x p) := h.setRing

theorem Keeps.cmdPiWriteEff {x : HPort} {p : Part} {v : Word} {mem : HostMem} (h : Keeps σ τ) :
    Keeps σ (cmdPiWriteEff x p v mem τ) :=
  .ite h.hostStores.setRing h.hostStores.dbErr

theorem Keeps.cplCiWriteEff {x : HPort} {p : Part} {v : Word} (h : Keeps σ τ) : Keeps σ (cplCiWriteEff x p v τ) :=
  .ite h.setRing h.dbErr

theorem Keeps.evtCiWriteEff {x : HPort} {p : Part} {v : Word} (h : Keeps σ τ) : Keeps σ (evtCiWriteEff x p v τ) :=
  .ite h.setRing.lostEntry h.dbErr

theorem Keeps.rxPiWriteEff {x : HPort} {p : Part} {v : Word} {mem : HostMem} (h : Keeps σ τ) :
    Keeps σ (rxPiWriteEff x p v mem τ) :=
  .ite h.hostStores.setRing h.hostStores.dbErr

theorem Keeps.armVec {x : HPort} {p : Nat} {k : RingVec} {b : Bool} (h : Keeps σ τ) : Keeps σ (τ.armVec x p k b) :=
  .ite (.ite h.setRing.noteEntries h.setRing) h

theorem Keeps.armWriteEff {x : HPort} {p : Part} {v : Word} (h : Keeps σ τ) : Keeps σ (armWriteEff x p v τ) :=
  h.armVec.armVec.armVec

theorem Keeps.interruptCoalescingExpiryEff {x : HPort} {p : Part} {k : RingVec} (h : Keeps σ τ) :
    Keeps σ (interruptCoalescingExpiryEff x p k τ) :=
  .ite (.ite h.setRing.fireVec h.setRing) h

theorem Keeps.fetchNext {x : HPort} {p : Nat} (h : Keeps σ τ) : Keeps σ (τ.fetchNext x p) := by
  unfold State.fetchNext
  extract_lets r
  split
  · next e => exact (h.dmaRead.of_eq e).ringFault
  · next e => exact (Keeps.ite (h.dmaRead.of_eq e) (h.dmaRead.of_eq e).setTurn).setRing.drain

theorem Keeps.commandFetchEff {x : HPort} {p : Part} (h : Keeps σ τ) : Keeps σ (commandFetchEff x p τ) :=
  .ite h.setRing (.ite h.fetchNext h)

theorem Keeps.receiveHoldExpiryEff {x : HPort} {p : Part} (h : Keeps σ τ) : Keeps σ (receiveHoldExpiryEff x p τ) := by
  unfold Machine.receiveHoldExpiryEff
  extract_lets r
  split
  · exact h
  · exact .ite h.dropHead.headArrives h

theorem Keeps.nopBody {id : Nat} (h : Keeps σ τ) : KeepsEnd σ (nopBody τ id) := h.done

theorem Keeps.nopEff {x : HPort} {p : Part} {d : Desc} (h : Keeps σ τ) : Keeps σ (nopEff x p d τ) :=
  h.command (fun _ _ h => h.nopBody)

theorem Keeps.resetStaging {x : HPort} (h : Keeps σ τ) : Keeps σ (τ.resetStaging x) := h.foldl (fun _ _ h => h.setReg)

theorem Keeps.clearSnaps {x : HPort} (h : Keeps σ τ) : Keeps σ (τ.clearSnaps x) := by
  unfold State.clearSnaps
  extract_lets t
  have h_t : Keeps σ t := h.setReg
  split <;> exact h_t.other

theorem Keeps.dropPort {x : HPort} (h : Keeps σ τ) : Keeps σ (τ.dropPort x) :=
  h.forUpto (fun _ _ h => .ite h h.dropRing.setRs)

theorem Keeps.setPci {x : HPort} {c : PciCfg} (h : Keeps σ τ) : Keeps σ (τ.setPci x c) := by
  unfold State.setPci
  refine Keeps.unpend ?_
  split <;> exact h.host

theorem Keeps.resetPci {x : HPort} (h : Keeps σ τ) : Keeps σ (τ.resetPci x) := by
  unfold State.resetPci
  split <;> exact h.host

theorem Keeps.portLoss {x : HPort} (h : Keeps σ τ) : Keeps σ (τ.portLoss x) :=
  h.dropPort.setStop.resetStaging.clearSnaps.releaseMailbox

theorem Keeps.startLeases {x : HPort} (h : Keeps σ τ) : Keeps σ (τ.startLeases x) :=
  h.forUpto (fun _ _ h => .ite h.setF h)

theorem Keeps.linkFalls {x : HPort} (h : Keeps σ τ) : Keeps σ (τ.linkFalls x) :=
  h.setF.setF.setF.portLoss.startLeases.report

theorem Keeps.hostLinkDownEff {x : HPort} (h : Keeps σ τ) : Keeps σ (hostLinkDownEff x τ) := .ite h.linkFalls h

theorem Keeps.hostLinkUpEff {x : HPort} {speed width : Nat} {cfg : PciCfg} (h : Keeps σ τ) :
    Keeps σ (hostLinkUpEff x speed width cfg τ) :=
  .ite h h.setF.setF.setF.report.setPci

theorem Keeps.fundamentalResetEff {x : HPort} (h : Keeps σ τ) : Keeps σ (fundamentalResetEff x τ) :=
  (Keeps.ite h.linkFalls h.portLoss).resetPci

theorem Keeps.functionLevelResetEff {x : HPort} (h : Keeps σ τ) : Keeps σ (functionLevelResetEff x τ) :=
  h.portLoss.resetPci

theorem Keeps.d3hotEntryEff {x : HPort} (h : Keeps σ τ) : Keeps σ (d3hotEntryEff x τ) :=
  h.setPci.forUpto (fun _ _ h => h.stopRing)

theorem Keeps.shareCommit (h : Keeps σ τ) : Keeps σ τ.shareCommit := .ite h.setF h.other.report.cullSubs

theorem Keeps.shareAct {t : State} (h : Keeps σ τ) (ht : Keeps σ t) : Keeps σ (τ.shareAct t) := .ite h.badVal ht.setF

theorem Keeps.shareCommitEff {x : HPort} (h : Keeps σ τ) : Keeps σ (shareCommitEff x τ) :=
  h.asWrite (h.shareAct h.shareCommit)

theorem Keeps.shareReadBack (h : Keeps σ τ) : Keeps σ τ.shareReadBack := h.setReg.setReg

theorem Keeps.shareReadBackEff {x : HPort} (h : Keeps σ τ) : Keeps σ (shareReadBackEff x τ) :=
  h.asWrite (h.shareAct h.shareReadBack)

theorem Keeps.writePen {x : HPort} {j : Nat} {v : Word} (h : Keeps σ τ) : Keeps σ (τ.writePen x j v) :=
  h.setReg.forUpto (fun _ _ h => .ite h.report h)

theorem Keeps.prtPenWriteEff {x : HPort} {j : Fin 4} {v : Word} (h : Keeps σ τ) : Keeps σ (prtPenWriteEff x j v τ) :=
  h.asWrite h.writePen

theorem Keeps.cfgcrcRecomputeEff (h : Keeps σ τ) : Keeps σ (cfgcrcRecomputeEff τ) := h.setReg

/-! ### Time -/

theorem Keeps.sourceChanged {s : State} (_h : Keeps σ τ) (hs : Keeps σ s) : Keeps σ (τ.sourceChanged s) :=
  .ite hs hs.setF.setF.other

theorem Keeps.lockEvent (h : Keeps σ τ) : Keeps σ τ.lockEvent := h.report

theorem Keeps.measBegin {auto : Bool} (h : Keeps σ τ) : Keeps σ (τ.measBegin auto) := h.setF.setF.other

theorem Keeps.autoStart (h : Keeps σ τ) : Keeps σ τ.autoStart := .ite h.measBegin h

theorem Keeps.measFail {cause : Nat} (h : Keeps σ τ) : Keeps σ (τ.measFail cause) :=
  .ite h h.setF.setF.setF.report.autoStart

theorem Keeps.measCross {v time : Nat} (h : Keeps σ τ) : Keeps σ (τ.measCross v time) := .ite h.other h

theorem Keeps.servoTake {m : SyncSample} (h : Keeps σ τ) : Keeps σ (τ.servoTake m) :=
  .ite (Keeps.ite h.setReg.setF.other.setF.report (.ite h.setReg.setF.other.setF.lockEvent
      h.setReg.setF.other)).autoStart.other (Keeps.ite h.setReg.setF.other.setF.report (.ite
      h.setReg.setF.other.setF.lockEvent h.setReg.setF.other)).autoStart

theorem Keeps.syncReceivedEff {lanB : Bool} {m : SyncSample} (h : Keeps σ τ) : Keeps σ (syncReceivedEff lanB m τ) :=
  .ite h (.ite h.servoTake (.ite (.ite h.other h.other) h))

theorem Keeps.syncHoldoverEff (h : Keeps σ τ) : Keeps σ (syncHoldoverEff τ) :=
  .ite h (.ite (Keeps.ite h.setF.setF.lockEvent.other.measFail h.setF.setF.lockEvent.other).other (.ite
      h.setF.setF.lockEvent.other.measFail h.setF.setF.lockEvent.other))

theorem Keeps.writeRtcCtl {v : Word} (h : Keeps σ τ) : Keeps σ (τ.writeRtcCtl v) :=
  (Keeps.ite (h.sourceChanged h.writeFields).measFail (h.sourceChanged h.writeFields)).autoStart

theorem Keeps.rtcCtlWriteEff {x : HPort} {v : Word} (h : Keeps σ τ) : Keeps σ (rtcCtlWriteEff x v τ) :=
  h.asWrite h.writeRtcCtl

theorem Keeps.writeClkTin {v : Word} (h : Keeps σ τ) : Keeps σ (τ.writeClkTin v) := h.sourceChanged h.writeFields

theorem Keeps.clkTinWriteEff {x : HPort} {v : Word} (h : Keeps σ τ) : Keeps σ (clkTinWriteEff x v τ) :=
  h.asWrite h.writeClkTin

theorem Keeps.advance {adv : Nat} (h : Keeps σ τ) : Keeps σ (τ.advance adv) := .ite h.setCount h.setCount

theorem Keeps.tinPpsEdgeEff {adv : Nat} (h : Keeps σ τ) : Keeps σ (tinPpsEdgeEff adv τ) :=
  .ite h.advance.useFree.servoTake h.advance

theorem Keeps.snapSec {x : HPort} (h : Keeps σ τ) : Keeps σ (τ.snapSec x) := by
  unfold State.snapSec
  split <;> exact h.other

theorem Keeps.rtcFracReadEff {x : HPort} {adv : Nat} (h : Keeps σ τ) : Keeps σ (rtcFracReadEff x adv τ) :=
  h.advance.snapSec.showRead

theorem Keeps.snapFrameSec {x : HPort} (h : Keeps σ τ) : Keeps σ (τ.snapFrameSec x) := by
  unfold State.snapFrameSec
  extract_lets v
  split <;> exact h.other

theorem Keeps.tckCurReadEff {x : HPort} (h : Keeps σ τ) : Keeps σ (tckCurReadEff x τ) := h.snapFrameSec.showRead

theorem Keeps.setTimeGo {x : HPort} (h : Keeps σ τ) : Keeps σ (τ.setTimeGo x) := .ite h.setF h.setF.other

theorem Keeps.setTimeGoEff {x : HPort} (h : Keeps σ τ) : Keeps σ (setTimeGoEff x τ) := h.asWrite h.setTimeGo

theorem Keeps.setTrim {z : Int} {source : Nat} (h : Keeps σ τ) : Keeps σ (τ.setTrim z source) := .ite h.setF
    h.setF.report

theorem Keeps.writeTrim {v : Word} (h : Keeps σ τ) : Keeps σ (τ.writeTrim v) := .ite h (.ite h.setTrim h.badVal)

theorem Keeps.osfCause {bit : Nat} (h : Keeps σ τ) : Keeps σ (τ.osfCause bit) :=
  .ite h.setF.setF (.ite h.setF.setF.report h.setF.setF.other)

theorem Keeps.kcorrUpdateEff {corr : Int} (h : Keeps σ τ) : Keeps σ (kcorrUpdateEff corr τ) := .ite h h.setReg

theorem Keeps.keepSecondRolloverEff (h : Keeps σ τ) : Keeps σ (keepSecondRolloverEff τ) := .ite h h.setCount.other

theorem Keeps.keepCycles {n : Nat} (h : Keeps σ τ) : Keeps σ (τ.keepCycles n) := h.setCount

/-! ### Queues -/

theorem Keeps.endStaged {status : Nat} {ps : List Pkt} (h : Keeps σ τ) : Keeps σ (τ.endStaged status ps) := by
  unfold State.endStaged
  refine h.foldl (fun u k h => ?_)
  split
  · exact h.completeLate
  · exact h

theorem Keeps.takePkt {q : Nat} (h : Keeps σ τ) : Keeps σ (τ.takePkt q).2 := by
  unfold State.takePkt
  split
  · next e => exact h.dequeue.of_eq e
  · next e => exact (h.dequeue.of_eq e).endStaged

theorem Keeps.unstage {k : Pkt} (h : Keeps σ τ) : Keeps σ (τ.unstage k) := .ite h.enqueue h.sendOwn

theorem Keeps.moveStaged {q fuel : Nat} (h : Keeps σ τ) : Keeps σ (τ.moveStaged q fuel) := by
  induction fuel generalizing τ q with
  | zero =>
    rw [State.moveStaged]
    exact h
  | succ n ih =>
    rw [State.moveStaged]
    split
    · exact h
    · refine .ite h ?_
      split
      · next e2 => exact ih (h.takePkt.of_eq e2)
      · next e2 => exact ih (h.takePkt.of_eq e2).unstage.endStaged

theorem Keeps.stage {x : HPort} {p : Part} {id target : Nat} {data : List Byte} (h : Keeps σ τ) :
    KeepsEnd σ (τ.stage x p id target data) := by
  unfold State.stage
  refine .ite .later ?_
  split
  · next e => exact (h.enqueue.of_eq e).done
  · next e => exact (h.enqueue.of_eq e).moveStaged.wait

theorem KeepsEnd.audited {e : CmdEnd} {p tag cls i code : Nat} (h : KeepsEnd σ e) :
    KeepsEnd σ (e.audited p tag cls i code) := by
  cases h with
  | done h => exact Keeps.done (.ite h.audit h)
  | refuse h => exact h.refuse
  | wait h => exact h.audit.wait
  | later => exact .later

theorem Keeps.packetWriteEff {q : Fin 1024} {data : List Byte} {src : Nat} (h : Keeps σ τ) :
    Keeps σ (packetWriteEff q data src τ) :=
  .ite h.toHost h.enqueue

theorem Keeps.toInbox {q : Nat} {k : Pkt} (h : Keeps σ τ) : Keeps σ (τ.toInbox q k) := h.other

theorem Keeps.newHead {q : Nat} (h : Keeps σ τ) : Keeps σ (τ.newHead q) := .ite h.headArrives (.ite h.headArrives h)

theorem Keeps.dropPoisoned {q pos cell : Nat} {begun : Bool} {k : Pkt} (h : Keeps σ τ) :
    Keeps σ (τ.dropPoisoned q pos cell begun k) :=
  .ite (Keeps.ite h.poison.endStaged.emit h.poison.endStaged).newHead (.ite h.poison.endStaged.emit
      h.poison.endStaged)

theorem Keeps.linkWordErrorEff {q : Fin 1024} {cell lost : Nat} (h : Keeps σ τ) :
    Keeps σ (linkWordErrorEff q cell lost τ) :=
  .ite h h.flushNow.endStaged.report.retireCell.other.setF

theorem Keeps.linkAuditCompleteEff (h : Keeps σ τ) : Keeps σ (linkAuditCompleteEff τ) := by
  unfold Machine.linkAuditCompleteEff
  split
  · exact h
  · exact h.other.setF.report

theorem Keeps.queueFlushEff {x : HPort} {q : Fin 1024} (h : Keeps σ τ) : Keeps σ (queueFlushEff x q τ) :=
  h.asWrite h.requestFlush

theorem Keeps.queueFlushCompleteEff {q : Fin 1024} (h : Keeps σ τ) : Keeps σ (queueFlushCompleteEff q τ) :=
  .ite h ((Keeps.ite h.setQueue.other.setF.endStaged h.setQueue.other.setF.endStaged.newHead).foldl (fun _ _ h =>
      h.completeLate))

theorem Keeps.qFlushBody {x : HPort} {p : Part} {d : Desc} {id : Nat} (h : Keeps σ τ) :
    KeepsEnd σ (qFlushBody x p d τ id) :=
  .ite h.refuse (.ite h.requestFlush.audit.other.wait h.requestFlush.audit.done)

theorem Keeps.qFlushEff {x : HPort} {p : Part} {d : Desc} (h : Keeps σ τ) : Keeps σ (qFlushEff x p d τ) :=
  h.command (fun _ _ h => h.qFlushBody)

theorem Keeps.qStatBody {p : Part} {d : Desc} {id : Nat} (h : Keeps σ τ) : KeepsEnd σ (qStatBody p d τ id) :=
  .ite h.refuse (Keeps.ite h.setF.audit h).done

theorem Keeps.qStatEff {x : HPort} {p : Part} {d : Desc} (h : Keeps σ τ) : Keeps σ (qStatEff x p d τ) :=
  h.command (fun _ _ h => h.qStatBody)

theorem Keeps.writeQplCtl {v : Word} (h : Keeps σ τ) : Keeps σ (τ.writeQplCtl v) := h.writeFields.other

theorem Keeps.injectCorrectableEff {x : HPort} {q : Fin 1024} (h : Keeps σ τ) : Keeps σ (injectCorrectableEff x q τ)
    :=
  h.asWrite h.writeQplCtl

theorem Keeps.injectUncorrectableEff {x : HPort} {q : Fin 1024} (h : Keeps σ τ) :
    Keeps σ (injectUncorrectableEff x q τ) :=
  h.asWrite h.writeQplCtl

theorem Keeps.rejected {r0 r1 : Word} (h : Keeps σ τ) : KeepsEnd σ (rejected τ r0 r1) := h.done

theorem Keeps.accepted (h : Keeps σ τ) : KeepsEnd σ (accepted τ) := h.done

theorem Keeps.cfgBody {x : HPort} {p : Part} {d : Desc} {body : List Word → State → Nat → CmdEnd} {id : Nat} (h :
    Keeps σ τ) (hbody : ∀ b4 υ b9, Keeps σ υ → KeepsEnd σ (body b4 υ b9)) :
    KeepsEnd σ (cfgBody x p d body τ id) := by
  unfold Machine.cfgBody
  split
  · next e => exact (h.dmaRead.of_eq e).done
  · next e => exact .ite (hbody _ _ _ (h.dmaRead.of_eq e)) (h.dmaRead.of_eq e).done

theorem Keeps.cfgLoad {x : HPort} {p : Part} {d : Desc} {ty : Nat} {lenOk fitted : Bool} {body : List Word → State →
    Nat → CmdEnd} (h : Keeps σ τ) (hbody : ∀ b4 υ b9, Keeps σ υ → KeepsEnd σ (body b4 υ b9)) :
    Keeps σ (τ.cfgLoad x p d ty lenOk fitted body) :=
  h.command (fun _ _ h => h.cfgBody (fun _ _ _ h => hbody _ _ _ h))

theorem Keeps.queueCfgBody {ws : List Word} {id : Nat} (h : Keeps σ τ) : KeepsEnd σ (queueCfgBody ws τ id) := by
  unfold Machine.queueCfgBody
  split
  · exact h.rejected
  · exact .ite h.rejected h.other.accepted

theorem Keeps.cfgLoadQueueConfigurationEff {x : HPort} {p : Part} {d : Desc} (h : Keeps σ τ) :
    Keeps σ (cfgLoadQueueConfigurationEff x p d τ) :=
  h.cfgLoad (fun _ _ _ h => h.queueCfgBody)

theorem Keeps.queueConfigurationApplyEff (h : Keeps σ τ) : Keeps σ (queueConfigurationApplyEff τ) := by
  unfold Machine.queueConfigurationApplyEff
  split
  · exact h
  · exact (h.forUpto (fun _ _ h => h.setReg.setF)).other.setF.shortfall

/-! ### Display -/

theorem Keeps.setDsp {d : DspSt} (h : Keeps σ τ) : Keeps σ (τ.setDsp d) := h.other

theorem Keeps.setPanel {n : Nat} {p : DspPanel} (h : Keeps σ τ) : Keeps σ (τ.setPanel n p) := h.setDsp

theorem Keeps.setPixel {k : Nat} {p : Pixel} (h : Keeps σ τ) : Keeps σ (τ.setPixel k p) := h.setDsp

theorem Keeps.raiseDsp {bit : Nat} (h : Keeps σ τ) : Keeps σ (τ.raiseDsp bit) := h.raise

theorem Keeps.panelMove {n st : Nat} (h : Keeps σ τ) : Keeps σ (τ.panelMove n st) := .ite h h.setF.report.raiseDsp

theorem Keeps.panelPower {n : Nat} {pwren vcomen : Bool} (h : Keeps σ τ) : Keeps σ (τ.panelPower n pwren vcomen) :=
  .ite h.setPanel h.setPanel.emit

theorem Keeps.regionBody {ws : List Word} {id : Nat} (h : Keeps σ τ) : KeepsEnd σ (regionBody ws τ id) := by
  unfold Machine.regionBody
  split
  · exact h.rejected
  · exact .ite h.done h.setDsp.accepted

theorem Keeps.cfgLoadRegionTableEff {x : HPort} {p : Part} {d : Desc} (h : Keeps σ τ) :
    Keeps σ (cfgLoadRegionTableEff x p d τ) :=
  h.cfgLoad (fun _ _ _ h => h.regionBody)

theorem Keeps.applyRegions (h : Keeps σ τ) : Keeps σ τ.applyRegions := by
  unfold State.applyRegions
  split
  · exact h
  · exact h.setDsp.setReg.forUpto (fun _ _ h => .ite (h.foldl (fun _ _ h => h.setPixel)) h)

theorem Keeps.waveBody {ws : List Word} {id : Nat} (h : Keeps σ τ) : KeepsEnd σ (waveBody ws τ id) := by
  unfold Machine.waveBody
  split
  · exact h.rejected
  · exact .ite h.done h.setDsp.accepted

theorem Keeps.cfgLoadWaveformTablesEff {x : HPort} {p : Part} {d : Desc} (h : Keeps σ τ) :
    Keeps σ (cfgLoadWaveformTablesEff x p d τ) :=
  h.cfgLoad (fun _ _ _ h => h.waveBody)

theorem Keeps.showBand {n : Nat} (h : Keeps σ τ) : Keeps σ (τ.showBand n) := h.setF

theorem Keeps.applyWaves {n : Nat} (h : Keeps σ τ) : Keeps σ (τ.applyWaves n) := by
  unfold State.applyWaves
  split
  · exact h
  · exact h.setDsp.setReg.showBand.report

theorem Keeps.thermistorSampleEff {n : Fin 2} {code : BitVec 12} (h : Keeps σ τ) :
    Keeps σ (thermistorSampleEff n code τ) :=
  .ite h (Keeps.ite h.setF.setF.raiseDsp.report h.setF.setF).showBand

theorem Keeps.endWaves {n : Nat} (h : Keeps σ τ) : Keeps σ (τ.endWaves n) := by
  unfold State.endWaves
  refine ((h.foldl (fun _ _ h => h.setPixel)).foldl (fun u u h => ?_)).setDsp
  split
  · exact (h.foldl (fun _ _ h => h.setPixel)).completeLate
  · exact h

theorem Keeps.panelFault {n code : Nat} (h : Keeps σ τ) : Keeps σ (τ.panelFault n code) :=
  .ite h.setF.panelMove.report.raiseDsp h.setF.panelMove.report.raiseDsp

theorem Keeps.panelArrive {n : Nat} (h : Keeps σ τ) : Keeps σ (τ.panelArrive n) := by
  unfold State.panelArrive
  split
  · exact h.setF.panelMove
  · exact h.panelFault
  · exact h.panelMove

theorem Keeps.powerUp {n : Nat} (h : Keeps σ τ) : Keeps σ (τ.powerUp n) := .ite h h.setPanel.panelPower.panelMove

theorem Keeps.powerDown {n goal : Nat} {ending ground : Bool} (h : Keeps σ τ) :
    Keeps σ (τ.powerDown n goal ending ground) :=
  .ite h.setPanel.panelMove h.setPanel.panelMove.panelPower

theorem Keeps.pwrenOffDelayEff {n : Fin 2} (h : Keeps σ τ) : Keeps σ (pwrenOffDelayEff n τ) :=
  .ite h (.ite h.panelPower.setPanel h.panelPower.panelArrive)

theorem Keeps.dspTick (h : Keeps σ τ) : Keeps σ τ.dspTick :=
  .ite h.setDsp (h.setDsp.forUpto (fun _ _ h => .ite h.powerUp (.ite h.powerUp h)))

theorem Keeps.pwrgdRiseEff {n : Fin 2} (h : Keeps σ τ) : Keeps σ (pwrgdRiseEff n τ) := .ite h.setPanel h

theorem Keeps.vcomEnableDelayEff {n : Fin 2} (h : Keeps σ τ) : Keeps σ (vcomEnableDelayEff n τ) := .ite h.panelPower h

theorem Keeps.pwrgdTimeoutEff {n : Fin 2} (h : Keeps σ τ) : Keeps σ (pwrgdTimeoutEff n τ) :=
  .ite h.endWaves.panelPower.panelFault h

theorem Keeps.pwrgdLostEff {n : Fin 2} (h : Keeps σ τ) : Keeps σ (pwrgdLostEff n τ) :=
  .ite h.endWaves.panelPower.panelFault h

theorem Keeps.powerdownDelayExpiryEff {n : Fin 2} (h : Keeps σ τ) : Keeps σ (powerdownDelayExpiryEff n τ) :=
  .ite h.powerDown h

theorem Keeps.enablePanel {n : Nat} {res : BitVec 16} (h : Keeps σ τ) : Keeps σ (τ.enablePanel n res) :=
  .ite h (.ite h.badVal (.ite h.setF.setF.setPanel.panelMove h.setF.setF.setPanel))

theorem Keeps.panelEnableEff {x : HPort} {n : Fin 2} {res : BitVec 16} (h : Keeps σ τ) :
    Keeps σ (panelEnableEff x n res τ) :=
  h.asWrite h.enablePanel

theorem Keeps.disablePanel {n : Nat} (h : Keeps σ τ) : Keeps σ (τ.disablePanel n) := by
  unfold State.disablePanel
  extract_lets t
  have h_t : Keeps σ t := h.setF
  split
  · exact h_t.endWaves.setF.panelMove
  · exact h_t.endWaves.setF.panelMove
  · exact h_t.endWaves.powerDown
  · exact h_t.powerDown
  · exact .ite h_t.setPanel h_t.setPanel.endWaves.setF.panelMove
  · exact h_t

theorem Keeps.panelDisableEff {x : HPort} {n : Fin 2} (h : Keeps σ τ) : Keeps σ (panelDisableEff x n τ) :=
  h.asWrite h.disablePanel

theorem Keeps.crack {n : Nat} (h : Keeps σ τ) : Keeps σ (τ.crack n) := by
  unfold State.crack
  split
  · exact h.endWaves.panelFault
  · exact h.endWaves.powerDown
  · exact h.powerDown
  · exact .ite h (.ite h.setPanel h.endWaves.panelFault)
  · exact h

theorem Keeps.crackMeasurementEff {n : Fin 2} {res : BitVec 16} (h : Keeps σ τ) :
    Keeps σ (crackMeasurementEff n res τ) :=
  .ite h (.ite h.setF.setPanel.crack h.setF.setPanel)

theorem Keeps.dspWarn (h : Keeps σ τ) : Keeps σ τ.dspWarn :=
  h.forUpto (fun _ _ h => .ite h.endWaves.powerDown (.ite h.endWaves.setPanel.panelPower h))

theorem Keeps.dspTakeover (h : Keeps σ τ) : Keeps σ τ.dspTakeover :=
  h.endWaves.endWaves.foldl (fun _ _ h => h.setPixel)

theorem Keeps.startWave {k c band num : Nat} (h : Keeps σ τ) : Keeps σ (τ.startWave k c band num) :=
  .ite h.setPixel h.setPixel

theorem Keeps.stepPixel {k : Nat} (h : Keeps σ τ) : Keeps σ (τ.stepPixel k) := by
  unfold State.stepPixel
  extract_lets p
  split
  · exact h
  · refine .ite h.setPixel ?_
    extract_lets t
    have h_t : Keeps σ t := h.setPixel
    split
    · exact h_t.startWave
    · exact h_t

theorem Keeps.startUpd {u0 : DspUpd} (h : Keeps σ τ) : Keeps σ (τ.startUpd u0) := by
  unfold State.startUpd
  refine Keeps.foldl ?_ (fun _ _ h => .ite h.setPixel h.startWave)
  split
  · exact h.setDsp.completeLate
  · exact h.setDsp

theorem Keeps.endUpds {n : Nat} (h : Keeps σ τ) : Keeps σ (τ.endUpds n) :=
  (h.foldl (fun _ _ h => .ite h.report h)).setDsp

theorem Keeps.showScan {n : Nat} {rows : List (Nat × List Nat)} (h : Keeps σ τ) : Keeps σ (τ.showScan n rows) :=
  h.setF.setPanel.emit

theorem Keeps.driveFrame {n : Nat} {ready : Bool} (h : Keeps σ τ) : Keeps σ (τ.driveFrame n ready) :=
  .ite h.showScan.report ((h.foldl (fun _ _ h => h.stepPixel)).endUpds.foldl (fun _ _ h =>
      h.startUpd)).useFree.endUpds.setDsp.showScan

theorem Keeps.downFrame {n : Nat} (h : Keeps σ τ) : Keeps σ (τ.downFrame n) :=
  .ite (Keeps.ite h.endWaves.setPanel h).setPanel.showScan (.ite (Keeps.ite h.endWaves.setPanel
      h).setPanel.panelPower (.ite h.endWaves.setPanel h))

theorem Keeps.displayFrameStartEff {n : Fin 2} {ready : Bool} (h : Keeps σ τ) :
    Keeps σ (displayFrameStartEff n ready τ) :=
  .ite h (.ite (Keeps.ite h.applyWaves.applyRegions.panelMove h.applyWaves.applyRegions).driveFrame (.ite (Keeps.ite
      h.applyWaves.applyRegions.panelMove h.applyWaves.applyRegions).downFrame (.ite
      h.applyWaves.applyRegions.panelMove h.applyWaves.applyRegions)))

theorem Keeps.dspUpdBody {x : HPort} {p : Part} {d : Desc} {id : Nat} (h : Keeps σ τ) :
    KeepsEnd σ (dspUpdBody x p d τ id) := by
  unfold Machine.dspUpdBody
  refine .ite h.refuse (.ite h.done (.ite h.done (.ite h.done ?_)))
  split
  · next e => exact (h.dmaRead.of_eq e).done
  · next e =>
    exact .ite (((h.dmaRead.of_eq e).audit.foldl (fun _ _ h => h.setPixel)).foldl (fun _ _ h => h.setPixel)).done
        (Keeps.ite ((h.dmaRead.of_eq e).audit.foldl (fun _ _ h => h.setPixel)).setDsp.powerUp ((h.dmaRead.of_eq
        e).audit.foldl (fun _ _ h => h.setPixel)).setDsp).wait

theorem Keeps.dspUpdEff {x : HPort} {p : Part} {d : Desc} (h : Keeps σ τ) : Keeps σ (dspUpdEff x p d τ) :=
  h.command (fun _ _ h => h.dspUpdBody)

theorem Keeps.dspReadBody {x : HPort} {p : Part} {d : Desc} {id : Nat} (h : Keeps σ τ) :
    KeepsEnd σ (dspReadBody x p d τ id) := by
  unfold Machine.dspReadBody
  refine .ite h.refuse (.ite h.done (.ite h.done ?_))
  split
  · next e => exact (h.dmaWrite.of_eq e).done
  · next e => exact (h.dmaWrite.of_eq e).done

theorem Keeps.dspUpdReadBackEff {x : HPort} {p : Part} {d : Desc} (h : Keeps σ τ) :
    Keeps σ (dspUpdReadBackEff x p d τ) :=
  h.command (fun _ _ h => h.dspReadBody)

theorem Keeps.dspResetIn (h : Keeps σ τ) : Keeps σ τ.dspResetIn := h.endWaves.endWaves

/-! ### Schedule -/

theorem Keeps.setExch {key : Nat} {e0 : Exch} (h : Keeps σ τ) : Keeps σ (τ.setExch key e0) := h.other

/-! ### Field -/

theorem Keeps.raiseFld {bit : Nat} (h : Keeps σ τ) : Keeps σ (τ.raiseFld bit) := h.raise

theorem Keeps.fieldLinkUpEff {i : Fin 64} {lv1 lead : Bool} (h : Keeps σ τ) : Keeps σ (fieldLinkUpEff i lv1 lead τ) :=
  .ite h (Keeps.ite h.setF.setF.setF.useFree.report h.setF.setF.setF.report).raiseFld

theorem Keeps.dropStaged {i q : Nat} (h : Keeps σ τ) : Keeps σ (τ.dropStaged i q) :=
  .ite h h.filterQueue.endStaged.addSat

theorem Keeps.dropTx {i : Nat} (h : Keeps σ τ) : Keeps σ (τ.dropTx i) :=
  h.emptyQueue.addSat.forUpto (fun _ _ h => h.dropStaged)

theorem Keeps.portLost {i why : Nat} (h : Keeps σ τ) : Keeps σ (τ.portLost i why) := h.other

theorem Keeps.clearLink {i : Nat} (h : Keeps σ τ) : Keeps σ (τ.clearLink i) := h.setReg

theorem Keeps.linkDown {i : Nat} (h : Keeps σ τ) : Keeps σ (τ.linkDown i) :=
  .ite h.clearLink.dropTx.portLost.report.raiseFld h

theorem Keeps.sqiUpdateEff {i : Fin 48} {snr : Int} (h : Keeps σ τ) : Keeps σ (sqiUpdateEff i snr τ) := .ite h.setF h

theorem Keeps.takePlca (h : Keeps σ τ) : Keeps σ τ.takePlca := h.forUpto (fun _ _ h => h.other)

theorem Keeps.setOpportunity {g t : Nat} (h : Keeps σ τ) : Keeps σ (τ.setOpportunity g t) := h.other

theorem Keeps.plcaCycleStartEff {seg : Fin 16} {late : Option (Nat × Nat)} (h : Keeps σ τ) :
    Keeps σ (plcaCycleStartEff seg late τ) := by
  unfold Machine.plcaCycleStartEff
  refine .ite h ?_
  extract_lets t t2
  have h_t : Keeps σ t := h.emit
  split
  · exact h_t.other.setOpportunity
  · exact h_t.other.setOpportunity.addSat.report

theorem Keeps.countRx {i : Nat} {ok : Bool} (h : Keeps σ τ) : Keeps σ (τ.countRx i ok) := .ite h.addSat h.addSat

theorem Keeps.fieldToHost {i : Nat} {data : List Byte} (h : Keeps σ τ) : Keeps σ (τ.fieldToHost i data) :=
  h.toHost.countRx

theorem Keeps.fieldToPoints {i : Nat} {data : List Byte} (h : Keeps σ τ) : Keeps σ (τ.fieldToPoints i data) := by
  unfold State.fieldToPoints
  refine Keeps.countRx ?_
  split
  · exact h.refuseWrite
  · exact (Keeps.ite h h.clearInject).setQueue.other

theorem Keeps.fieldFrameReceivedEff {i : Fin 64} {data : List Byte} {good : Bool} (h : Keeps σ τ) :
    Keeps σ (fieldFrameReceivedEff i data good τ) :=
  .ite h (.ite h.addSat (.ite (.ite h.fieldToHost h.addSat) (.ite (.ite h.fieldToPoints h.addSat) h.fieldToHost)))

theorem Keeps.sendField {i : Nat} {data : List Byte} (h : Keeps σ τ) : Keeps σ (τ.sendField i data) :=
  .ite h.emit.addSat h.emit.addSat.other.setOpportunity

theorem Keeps.settleRet {epn : Nat} (h : Keeps σ τ) : Keeps σ (τ.settleRet epn) := .ite h h.setF

theorem Keeps.sendRequest {e0 : Ent} {mac : Nat} (h : Keeps σ τ) : Keeps σ (τ.sendRequest e0 mac) := by
  unfold State.sendRequest
  extract_lets x f t t2 q
  have h_t : Keeps σ t := h.setExch
  have h_t2 : Keeps σ t2 := (Keeps.ite h_t.settleRet h_t).useFrees
  split
  · exact h_t2.refuseWrite
  · exact .ite h_t2.clearInject.useFree.poisonCell (Keeps.ite h_t2.clearInject.corrected h_t2.clearInject).sendField

theorem Keeps.pointFrameTransmitEff {k : Nat} (h : Keeps σ τ) : Keeps σ (pointFrameTransmitEff k τ) := by
  unfold Machine.pointFrameTransmitEff
  split
  · exact h
  · refine .ite ?_ h
    split
    · exact h
    · exact h.sendRequest

theorem Keeps.setHeld {i n : Nat} (h : Keeps σ τ) : Keeps σ (τ.setHeld i n) := h.other

theorem Keeps.sendAt {i time : Nat} {data : List Byte} (h : Keeps σ τ) : Keeps σ (τ.sendAt i time data) :=
  (Keeps.ite h h.setOpportunity).sendField

theorem Keeps.nonpointFrameTransmitEff {i : Fin 64} {time : Nat} (h : Keeps σ τ) :
    Keeps σ (nonpointFrameTransmitEff i time τ) := by
  unfold Machine.nonpointFrameTransmitEff
  refine .ite h ?_
  split
  · exact h
  · refine .ite ?_ (.ite h.setHeld.addSat h)
    split
    · next e2 => exact h.takePkt.of_eq e2
    · next e2 => exact (h.takePkt.of_eq e2).sendAt

theorem Keeps.writeMdio {v : Word} (h : Keeps σ τ) : Keeps σ (τ.writeMdio v) :=
  .ite h (.ite h.setReg (.ite h.setReg.badVal (.ite h.setReg.setF.badVal h.setReg.setF.emit)))

theorem Keeps.mdioAccessEff {x : HPort} {v : Word} (h : Keeps σ τ) : Keeps σ (mdioAccessEff x v τ) :=
  h.asWrite h.writeMdio

theorem Keeps.mdioCompleteEff {data : BitVec 16} (h : Keeps σ τ) : Keeps σ (mdioCompleteEff data τ) :=
  .ite (Keeps.ite h h.setF).setF h

/-! ### Power -/

theorem Keeps.setPwr {i : Nat} {p : PortPwr} (h : Keeps σ τ) : Keeps σ (τ.setPwr i p) := h.other

theorem Keeps.pwrCmd {i c : Nat} (h : Keeps σ τ) : Keeps σ (τ.pwrCmd i c) := h.setPwr

theorem Keeps.takePowerCfg (h : Keeps σ τ) : Keeps σ τ.takePowerCfg := h.other

theorem Keeps.updCharges (h : Keeps σ τ) : Keeps σ τ.updCharges := h.forUpto (fun _ _ h => h.setF)

theorem Keeps.pwrEnter {i st c : Nat} (h : Keeps σ τ) : Keeps σ (τ.pwrEnter i st c) := h.setF.setF.updCharges

theorem Keeps.toDetect {i : Nat} (h : Keeps σ τ) : Keeps σ (τ.toDetect i) := h.pwrEnter.pwrCmd

theorem Keeps.pwrOff {i st : Nat} {ordered : Bool} (h : Keeps σ τ) : Keeps σ (τ.pwrOff i st ordered) :=
  .ite h.pwrEnter.pwrCmd.portLost h.pwrEnter.pwrCmd

theorem Keeps.pwrEvent {i code : Nat} (h : Keeps σ τ) : Keeps σ (τ.pwrEvent i code) := h.report.raiseFld

theorem Keeps.pwrFault {i code : Nat} {counted : Bool} (h : Keeps σ τ) : Keeps σ (τ.pwrFault i code counted) :=
  .ite h.setF.pwrOff h.setF.setF.pwrEvent.pwrOff

theorem Keeps.pwrClass {i c : Nat} (h : Keeps σ τ) : Keeps σ (τ.pwrClass i c) :=
  .ite h.setF.pwrEvent.pwrOff h.pwrEnter.setPwr

theorem Keeps.judgeOn {i : Nat} {r : BitVec 64} {frame : Bool} (h : Keeps σ τ) : Keeps σ (τ.judgeOn i r frame) :=
  .ite h.pwrFault (.ite h (.ite h.setPwr.pwrFault (.ite h.setPwr.pwrFault (.ite h.setPwr.setF.pwrOff.pwrCmd
      h.setPwr))))

theorem Keeps.pwrSeed {i : Nat} {r : BitVec 64} (h : Keeps σ τ) : Keeps σ (τ.pwrSeed i r) :=
  .ite h.other.setPwr.setPwr.pwrEnter h.other.setPwr.toDetect

theorem Keeps.takeRead {i : Nat} {r : BitVec 64} {frame : Bool} (h : Keeps σ τ) : Keeps σ (τ.takeRead i r frame) :=
  .ite h.setF.setF (.ite h.setF.setF.pwrSeed (.ite h.setF.setF.judgeOn (.ite (.ite (.ite h.setF.setF.pwrEnter.pwrCmd
      h.setF.setF.pwrClass) (.ite h.setF.setF.pwrFault h.setF.setF)) (.ite (.ite (.ite h.setF.setF.pwrFault
      h.setF.setF.pwrClass) h.setF.setF) h.setF.setF))))

theorem Keeps.takeSide {c : SideCmd} {r : BitVec 64} (h : Keeps σ τ) : Keeps σ (τ.takeSide c r) := by
  unfold State.takeSide
  split
  · exact h.takeRead
  · exact h.takeRead
  · exact h.setF
  · exact h.setPwr

theorem Keeps.settleSide {keep : Bool} {x : SideTx} (h : Keeps σ τ) : Keeps σ (τ.settleSide keep x).2.2 := by
  unfold State.settleSide
  extract_lets r
  split
  · exact .ite h h.takeSide
  · split <;> exact h

theorem Keeps.runSide {keep : Bool} {n : Nat} {x : Option SideTx} {cs : List SideTx} (h : Keeps σ τ) :
    Keeps σ (τ.runSide keep n x cs).2 := by
  fun_induction State.runSide τ keep n x cs with
  | case1 => exact h
  | case2 s n c cs w ih => exact ih h.emit
  | case3 => exact h
  | case4 s n x c cs w again k t e m u e' ih =>
    have := ih (h.emit.settleSide.of_eq₂ e)
    rw [e'] at this
    exact this
  | case5 s n x again k t e m u e' ih =>
    have := ih (h.emit.settleSide.of_eq₂ e)
    rw [e'] at this
    exact this

theorem Keeps.runPoll {cs : List SideCmd} {rs : List SideResp} (h : Keeps σ τ) : Keeps σ (τ.runPoll cs rs).2 :=
  h.runSide

theorem Keeps.sideFailed {failed : Nat} (h : Keeps σ τ) : Keeps σ (τ.sideFailed failed) :=
  .ite h.other.report.raiseFld h.other

theorem Keeps.sideFrame (h : Keeps σ τ) : Keeps σ τ.sideFrame := h.other

theorem Keeps.sideOutcome {failed : Nat} (h : Keeps σ τ) : Keeps σ (τ.sideOutcome failed) :=
  .ite h.setF.report h.sideFailed

theorem Keeps.pwrctlPollEff {rs : List SideResp} (h : Keeps σ τ) : Keeps σ (pwrctlPollEff rs τ) :=
  .ite h h.sideFrame.runPoll.sideOutcome

theorem Keeps.pwrctlFltEff {rs : List SideResp} (h : Keeps σ τ) : Keeps σ (pwrctlFltEff rs τ) :=
  .ite h h.runPoll.sideFailed

theorem Keeps.shedPort {i : Nat} (h : Keeps σ τ) : Keeps σ (τ.shedPort i) := .ite h.pwrOff.report.raiseFld h

theorem Keeps.shed (h : Keeps σ τ) : Keeps σ τ.shed := h.foldl (fun _ _ h => h.shedPort)

theorem Keeps.admitPort {i : Nat} (h : Keeps σ τ) : Keeps σ (τ.admitPort i) :=
  .ite h (.ite h.pwrClass (.ite h.pwrCmd.setPwr.pwrEnter.report (.ite h h.setPwr.report)))

theorem Keeps.powerTick (h : Keeps σ τ) : Keeps σ τ.powerTick :=
  .ite (h.takePowerCfg.updCharges.shed.foldl (fun _ _ h => h.admitPort)) h.takePowerCfg.updCharges

theorem Keeps.powerBackoffExpiryEff {i : Fin 48} (h : Keeps σ τ) : Keeps σ (powerBackoffExpiryEff i τ) :=
  .ite h.toDetect h

theorem Keeps.faultCountClearEff {i : Fin 48} (h : Keeps σ τ) : Keeps σ (faultCountClearEff i τ) := .ite h.setF h

theorem Keeps.pwrClear {i : Nat} (h : Keeps σ τ) : Keeps σ (τ.pwrClear i) := .ite h.setF.setPwr.toDetect h.setF.setPwr

theorem Keeps.pwrCycle {i : Nat} (h : Keeps σ τ) : Keeps σ (τ.pwrCycle i) := .ite h h.pwrOff.setPwr

theorem Keeps.pwrHold {i : Nat} (h : Keeps σ τ) : Keeps σ (τ.pwrHold i) := h.pwrOff

theorem Keeps.writePwrCmd {v : Word} (h : Keeps σ τ) : Keeps σ (τ.writePwrCmd v) :=
  .ite h.badVal (.ite h.pwrClear (.ite h.pwrCycle h.pwrHold))

theorem Keeps.hostPwrCmd {x : HPort} {op i : Nat} (h : Keeps σ τ) : Keeps σ (τ.hostPwrCmd x op i) :=
  h.asWrite h.writePwrCmd

theorem Keeps.powerCycleExpiryEff {i : Fin 48} (h : Keeps σ τ) : Keeps σ (powerCycleExpiryEff i τ) :=
  .ite h.setPwr.toDetect h

theorem Keeps.setPctl {i : Nat} {v : Word} (h : Keeps σ τ) : Keeps σ (τ.setPctl i v) := .ite h.setReg.linkDown
    h.setReg

theorem Keeps.setPwrCfg {i : Nat} {v : Word} (h : Keeps σ τ) : Keeps σ (τ.setPwrCfg i v) :=
  .ite (.ite h.setReg h.setReg.pwrOff.setPwr) (.ite h.setReg.toDetect h.setReg.updCharges)

theorem Keeps.applyFieldWord {e0 : Nat × Word} (h : Keeps σ τ) : Keeps σ (τ.applyFieldWord e0) :=
  .ite h.setPctl (.ite h.setPwrCfg h.setReg)

theorem Keeps.fieldTableBody {ws : List Word} {id : Nat} (h : Keeps σ τ) : KeepsEnd σ (fieldTableBody ws τ id) := by
  unfold Machine.fieldTableBody
  extract_lets es
  split
  · exact h.rejected
  · exact (h.foldl (fun _ _ h => h.applyFieldWord)).other.accepted

theorem Keeps.cfgLoadFieldPortTableEff {x : HPort} {p : Part} {d : Desc} (h : Keeps σ τ) :
    Keeps σ (cfgLoadFieldPortTableEff x p d τ) :=
  h.cfgLoad (fun _ _ _ h => h.fieldTableBody)

theorem Keeps.seedPower (h : Keeps σ τ) : Keeps σ τ.seedPower := (h.forUpto (fun _ _ h => h.setPwr)).other

theorem Keeps.fldResetIn (h : Keeps σ τ) : Keeps σ τ.fldResetIn :=
  (h.other.foldl (fun _ _ h => h.clearLink.portLost)).forUpto (fun _ _ h => h.flushNow.flushNow)

theorem Keeps.fldResetOut (h : Keeps σ τ) : Keeps σ τ.fldResetOut :=
  (h.foldl (fun _ _ h => h.report.raiseFld)).other.seedPower

/-! ### Logic -/

theorem Keeps.setTask {t : Nat} {k : LgeTask} (h : Keeps σ τ) : Keeps σ (τ.setTask t k) := h.other

theorem Keeps.raiseLge {bit : Nat} (h : Keeps σ τ) : Keeps σ (τ.raiseLge bit) := h.raise

theorem Keeps.srcFault {ps : List (Nat × Point)} {b : Bool} (h : Keeps σ τ) : Keeps σ (τ.srcFault ps b) :=
  h.foldl (fun _ _ h => h.qbit)

theorem Keeps.taskMove {t st p : Nat} (h : Keeps σ τ) : Keeps σ (τ.taskMove t st p) := h.setF.report.raiseLge

theorem Keeps.taskStop {t p : Nat} (h : Keeps σ τ) : Keeps σ (τ.taskStop t p) :=
  (Keeps.ite h.srcFault h).setTask.taskMove.foldl (fun _ _ h => h.completeLate)

theorem Keeps.taskHalt {t cause ofs : Nat} (h : Keeps σ τ) : Keeps σ (τ.taskHalt t cause ofs) :=
  .ite (h.setTask.setF.setF.setF.setF.foldl (fun _ _ h => h.setImg)).srcFault.report.raiseLge.raiseLge
      (h.setTask.setF.setF.setF.setF.foldl (fun _ _ h => h.setImg)).srcFault.report.raiseLge.raiseLge.taskStop

theorem Keeps.beginTurn {t : Nat} (h : Keeps σ τ) : Keeps σ (τ.beginTurn t) :=
  .ite h.other.setTask h.other.useFree.setTask

theorem Keeps.nextTurn (h : Keeps σ τ) : Keeps σ τ.nextTurn := by
  unfold State.nextTurn
  extract_lets s
  split
  · exact h.other.beginTurn
  · exact h.other

theorem Keeps.endTurn {t : Nat} (h : Keeps σ τ) : Keeps σ (τ.endTurn t) := (Keeps.ite h.setTask h.taskStop).nextTurn

theorem Keeps.lgeFrame (h : Keeps σ τ) : Keeps σ τ.lgeFrame := h.setF.forUpto (fun _ _ h => .ite h.setTask h)

theorem Keeps.openWindow (h : Keeps σ τ) : Keeps σ τ.openWindow :=
  .ite h.other (h.other.forUpto (fun _ _ h => h.setTask)).nextTurn

theorem Keeps.lgeDeadline (h : Keeps σ τ) : Keeps σ τ.lgeDeadline :=
  h.other.forUpto (fun _ _ h => .ite h (.ite h.setTask.setF.addSat.report.raiseLge
      h.setTask.setF.addSat.report.raiseLge.taskStop))

theorem Keeps.setTimer {t n : Nat} {v : LgeTimer} (h : Keeps σ τ) : Keeps σ (τ.setTimer t n v) := h.other

theorem Keeps.setCounter {t n : Nat} {v : LgeCounter} (h : Keeps σ τ) : Keeps σ (τ.setCounter t n v) := h.other

theorem Keeps.setMarker {t m : Nat} {b : Bool} (h : Keeps σ τ) : Keeps σ (τ.setMarker t m b) := h.other

theorem Keeps.stageWrite {t pt : Nat} {v : Word} (h : Keeps σ τ) : Keeps σ (τ.stageWrite t pt v) := h.setTask

theorem Keeps.writeOp {t : Nat} {o : BitOp} {b : Bool} (h : Keeps σ τ) : Keeps σ (τ.writeOp t o b) := by
  unfold State.writeOp
  split
  · exact h.stageWrite
  · exact h.setMarker
  · exact h

theorem Keeps.setAcc {t : Nat} {b : Bool} (h : Keeps σ τ) : Keeps σ (τ.setAcc t b) := h.setTask

theorem Keeps.runTimer {t n l : Nat} {onDelay : Bool} (h : Keeps σ τ) : Keeps σ (τ.runTimer t n l onDelay) :=
  h.setTimer.setAcc

theorem Keeps.runCounter {t n : Nat} {l : Word} {up : Bool} (h : Keeps σ τ) : Keeps σ (τ.runCounter t n l up) :=
  h.setCounter.setAcc

theorem Keeps.endCycle {t : Nat} (h : Keeps σ τ) : Keeps σ (τ.endCycle t) :=
  (Keeps.ite (h.foldl (fun _ _ h => h.sourceWrite)).setF.setF.setTask (h.foldl (fun _ _ h =>
      h.sourceWrite)).setF.setF.setTask.taskStop).nextTurn

theorem Keeps.goOn {t here pc c : Nat} (h : Keeps σ τ) : Keeps σ (τ.goOn t here pc c) :=
  .ite h.setTask.taskHalt.nextTurn h.setTask

theorem Keeps.haltHere {t cause here : Nat} (h : Keeps σ τ) : Keeps σ (τ.haltHere t cause here) := h.taskHalt.nextTurn

theorem Keeps.popWith {t here : Nat} {f : Bool → Bool → Bool} (h : Keeps σ τ) : Keeps σ (τ.popWith t here f) := by
  unfold State.popWith
  extract_lets k
  split
  · exact h.haltHere
  · exact h.setTask.goOn

theorem Keeps.edge {t m : Nat} {rising : Bool} (h : Keeps σ τ) : Keeps σ (τ.edge t m rising) := h.setMarker.setAcc

theorem Keeps.jumpIf {t here n : Nat} {c : Bool} (h : Keeps σ τ) : Keeps σ (τ.jumpIf t here n c) := .ite h.goOn h.goOn

theorem Keeps.runI {t here : Nat} {i : LgeI} (h : Keeps σ τ) : Keeps σ (τ.runI t here i) := by
  cases i with
  | stop => exact .ite h.setTask.endCycle h.haltHere
  | nop => exact h.goOn
  | ldk | ld | ldn | and | andn | or | orn | xor => exact h.setAcc.goOn
  | st | stn => exact h.writeOp.goOn
  | set | rst => exact (ite h.writeOp h).goOn
  | bro => exact .ite h.haltHere h.setTask.goOn
  | brca | brco => exact h.popWith
  | re | fe => exact h.edge.goOn
  | ton | tof => exact h.runTimer.goOn
  | ctu | ctd => exact h.runCounter.goOn
  | cres => exact (ite h.setCounter h).goOn
  | cmp => exact h.setAcc.goOn
  | movk | mov => exact (ite h.stageWrite h).goOn
  | jc | jnc => exact h.jumpIf

theorem Keeps.lgeStep {sel : LgeI → Bool} (h : Keeps σ τ) : Keeps σ (τ.lgeStep sel) := by
  unfold State.lgeStep
  split
  · exact h
  · refine .ite h (.ite h.haltHere ?_)
    split
    · exact .ite h.runI h
    · exact h.haltHere

theorem Keeps.turnBudgetExhaustedEff (h : Keeps σ τ) : Keeps σ (turnBudgetExhaustedEff τ) := by
  unfold Machine.turnBudgetExhaustedEff
  split
  · exact h
  · exact .ite h.endTurn h

theorem Keeps.clearTaskMem {t : Nat} (h : Keeps σ τ) : Keeps σ (τ.clearTaskMem t) := h.other

theorem Keeps.updBudget (h : Keeps σ τ) : Keeps σ τ.updBudget := h.setF

theorem Keeps.reassign {t : Nat} {v : Word} (h : Keeps σ τ) : Keeps σ (τ.reassign t v) :=
  (Keeps.ite h.other h).clearTaskMem.setF.setReg.setF.report

theorem Keeps.writeTask {t k : Nat} {v : Word} (h : Keeps σ τ) : Keeps σ (τ.writeTask t k v) :=
  .ite h.badVal (Keeps.ite h.writeFields.setReg.badValIf h.writeFields.setReg.badValIf.reassign).updBudget

theorem Keeps.lgeTaskAssignEff {x : HPort} {t : Fin 16} {k : Fin 3} {v : Word} (h : Keeps σ τ) :
    Keeps σ (lgeTaskAssignEff x t k v τ) :=
  h.asWrite h.writeTask

theorem Keeps.taskGate {p : Part} {t : Nat} {k : State → CmdEnd} (h : Keeps σ τ) (hk : ∀ υ, Keeps σ υ → KeepsEnd σ
    (k υ)) :
    KeepsEnd σ (τ.taskGate p t k) :=
  .ite h.refuse (.ite h.done (hk _ h))

theorem Keeps.lgeLoadBody {x : HPort} {p : Part} {d : Desc} {id : Nat} (h : Keeps σ τ) :
    KeepsEnd σ (lgeLoadBody x p d τ id) := by
  unfold Machine.lgeLoadBody
  refine h.taskGate (fun u h => ?_)
  refine .ite h.done (.ite h.done ?_)
  split
  · next e => exact (h.dmaRead.of_eq e).done
  · next e => exact (h.dmaRead.of_eq e).other.setF.audit.done

theorem Keeps.lgeLoadEff {x : HPort} {p : Part} {d : Desc} (h : Keeps σ τ) : Keeps σ (lgeLoadEff x p d τ) :=
  h.command (fun _ _ h => h.lgeLoadBody)

theorem Keeps.lgeCtl {x : HPort} {p : Part} {d : Desc} {op : Nat} {wf sel : Bool} {body : Nat → State → Nat →
    CmdEnd} (h : Keeps σ τ) (hbody : ∀ b4 υ b9, Keeps σ υ → KeepsEnd σ (body b4 υ b9)) :
    Keeps σ (τ.lgeCtl x p d op wf sel body) :=
  h.command (fun _ _ h => h.taskGate (fun _ h => hbody _ _ _ h))

theorem Keeps.lgeVerifyBody {p : Part} {d : Desc} {t id : Nat} (h : Keeps σ τ) : KeepsEnd σ (lgeVerifyBody p d t τ
    id) := by
  unfold Machine.lgeVerifyBody
  refine .ite h.done (.ite h.done ?_)
  split
  · exact h.done
  · exact h.setF.setTask.report.audit.done

theorem Keeps.lgeVerifyEff {x : HPort} {p : Part} {d : Desc} (h : Keeps σ τ) : Keeps σ (lgeVerifyEff x p d τ) :=
  h.lgeCtl (fun _ _ _ h => h.lgeVerifyBody)

theorem Keeps.lgeStartBody {p : Part} {t id : Nat} (h : Keeps σ τ) : KeepsEnd σ (lgeStartBody p t τ id) :=
  .ite h.done (.ite h.done (.ite h.done (h.setTask.forUpto (fun _ _ h => h.setTimer)).setReg.taskMove.audit.done))

theorem Keeps.lgeStartEff {x : HPort} {p : Part} {d : Desc} (h : Keeps σ τ) : Keeps σ (lgeStartEff x p d τ) :=
  h.lgeCtl (fun _ _ _ h => h.lgeStartBody)

theorem Keeps.lgeStopBody {x : HPort} {p : Part} {t id : Nat} (h : Keeps σ τ) : KeepsEnd σ (lgeStopBody x p t τ id) :=
  .ite h.done (.ite h.done (.ite h.audit.setTask.wait h.audit.taskStop.done))

theorem Keeps.lgeStopEff {x : HPort} {p : Part} {d : Desc} (h : Keeps σ τ) : Keeps σ (lgeStopEff x p d τ) :=
  h.lgeCtl (fun _ _ _ h => h.lgeStopBody)

theorem Keeps.lgeStatusEff {x : HPort} {p : Part} {d : Desc} (h : Keeps σ τ) : Keeps σ (lgeStatusEff x p d τ) :=
  h.lgeCtl (fun _ _ _ h => h.done)

theorem Keeps.lgeDumpBody {x : HPort} {p : Part} {d : Desc} {t id : Nat} (h : Keeps σ τ) :
    KeepsEnd σ (lgeDumpBody x p d t τ id) := by
  unfold Machine.lgeDumpBody
  split
  · next e => exact (h.dmaWrite.of_eq e).done
  · next e => exact (h.dmaWrite.of_eq e).done

theorem Keeps.lgeDumpEff {x : HPort} {p : Part} {d : Desc} (h : Keeps σ τ) : Keeps σ (lgeDumpEff x p d τ) :=
  h.lgeCtl (fun _ _ _ h => h.lgeDumpBody)

theorem Keeps.unverify (h : Keeps σ τ) : Keeps σ τ.unverify := h.forUpto (fun _ _ h => .ite h.setF h)

theorem Keeps.lgeResetIn (h : Keeps σ τ) : Keeps σ τ.lgeResetIn :=
  (h.forUpto (fun _ _ h => .ite h.setTask.taskHalt h)).other

/-! ### LocalIO -/

theorem Keeps.setPulse {n : Nat} {p : PulseIn} (h : Keeps σ τ) : Keeps σ (τ.setPulse n p) := h.other

theorem Keeps.sampleAnalogue {c : Nat} {raw : Int} (h : Keeps σ τ) : Keeps σ (τ.sampleAnalogue c raw) :=
  (Keeps.ite (Keeps.ite h.setReg.raise h.setReg).report (.ite h.setReg.raise h.setReg)).other

theorem Keeps.samplePin {k : Nat} {level : Bool} (h : Keeps σ τ) : Keeps σ (τ.samplePin k level) :=
  .ite h (Keeps.ite h.setF h).other

theorem Keeps.takeEdge {n : Nat} {onB level : Bool} {time : Nat} (h : Keeps σ τ) : Keeps σ (τ.takeEdge n onB level
    time) :=
  .ite h.setPulse (.ite h.setPulse.addSat.raise.report h.setPulse)

theorem Keeps.settleEdges {n : Nat} {old : Nat → Bool} (h : Keeps σ τ) : Keeps σ (τ.settleEdges n old) :=
  h.setPulse.foldl (fun _ _ h => h.takeEdge)

theorem Keeps.samplePulse {n : Nat} (h : Keeps σ τ) : Keeps σ (τ.samplePulse n) :=
    h.settleEdges.setPulse.setReg.setReg

theorem Keeps.lioSample {ain : List Int} {dio : BitVec 32} (h : Keeps σ τ) : Keeps σ (τ.lioSample ain dio) :=
  (Keeps.ite h.other (((h.other.forUpto (fun _ _ h => h.sampleAnalogue)).forUpto (fun _ _ h => h.samplePin)).forUpto
      (fun _ _ h => h.samplePulse))).other

theorem Keeps.pulseInputEdgeEff {n : Fin 8} {onB level : Bool} {time : Nat} (h : Keeps σ τ) :
    Keeps σ (pulseInputEdgeEff n onB level time τ) :=
  .ite h.setPulse (.ite h.settleEdges (.ite h.settleEdges.setPulse h.settleEdges.setPulse))

theorem Keeps.driveLocal {cls ch fmt : Nat} {v : Word} (h : Keeps σ τ) : Keeps σ (τ.driveLocal cls ch fmt v) :=
  .ite h (.ite h.useFree.setReg.emit (.ite (.ite h.setF.emit h.setF) (.ite h.useFree.other h)))

theorem Keeps.pwmPeriodStartEff {n : Fin 8} (h : Keeps σ τ) : Keeps σ (pwmPeriodStartEff n τ) :=
  .ite h h.useFree.setReg.other.emit

theorem Keeps.pwmIdle {n : Nat} {low : Bool} (h : Keeps σ τ) : Keeps σ (τ.pwmIdle n low) := h.setReg.emit

theorem Keeps.pwmConfigured {n : Nat} {ran : Bool} {old : Word} (h : Keeps σ τ) : Keeps σ (τ.pwmConfigured n ran
    old) :=
  .ite (.ite h.pwmIdle h) (.ite h.other.pwmIdle h)

theorem Keeps.writePwm {n : Nat} {v : Word} (h : Keeps σ τ) : Keeps σ (τ.writePwm n v) :=
  h.writeFields.setReg.badValIf.other.pwmConfigured

theorem Keeps.pwmConfigWriteEff {x : HPort} {n : Fin 8} {v : Word} (h : Keeps σ τ) :
    Keeps σ (pwmConfigWriteEff x n v τ) :=
  h.asWrite h.writePwm

theorem Keeps.lioSafe (h : Keeps σ τ) : Keeps σ τ.lioSafe :=
  ((h.forUpto (fun _ _ h => h.setReg.emit)).forUpto (fun _ _ h => h.pwmIdle)).other

theorem Keeps.lioResetIn (h : Keeps σ τ) : Keeps σ τ.lioResetIn := h.lioSafe.other

/-! ### Loops -/

theorem Keeps.setSlot {i : Nat} {k : LoopSlot} (h : Keeps σ τ) : Keeps σ (τ.setSlot i k) := h.other

theorem Keeps.raiseCle {bit : Nat} (h : Keeps σ τ) : Keeps σ (τ.raiseCle bit) := h.raise

theorem Keeps.slotMove {i st p : Nat} (h : Keeps σ τ) : Keeps σ (τ.slotMove i st p) := h.setF.setSlot.report.raiseCle

theorem Keeps.injEnd {i reason : Nat} (h : Keeps σ τ) : Keeps σ (τ.injEnd i reason) := by
  unfold State.injEnd
  extract_lets k
  split
  · exact h
  · exact h.setSlot.setF.report.raiseCle

theorem Keeps.setCaps {cs : List Capture} (h : Keeps σ τ) : Keeps σ (τ.setCaps cs) := h.other

theorem Keeps.capEnd {c : Capture} {early : Nat} (h : Keeps σ τ) : Keeps σ (τ.capEnd c early) :=
  h.setCaps.setF.report.raiseCle

theorem Keeps.capsEnd {sel : Capture → Bool} (h : Keeps σ τ) : Keeps σ (τ.capsEnd sel) :=
  h.foldl (fun _ _ h => h.capEnd)

theorem Keeps.endTests {i reason : Nat} (h : Keeps σ τ) : Keeps σ (τ.endTests i reason) := h.injEnd.capsEnd

theorem Keeps.slotFault {i cause : Nat} {e0 : Word} (h : Keeps σ τ) : Keeps σ (τ.slotFault i cause e0) :=
  h.setSlot.setF.setF.endTests.report.raiseCle.raiseCle

theorem Keeps.slotFaultNow {i cause : Nat} (h : Keeps σ τ) : Keeps σ (τ.slotFaultNow i cause) := h.useFree.slotFault

theorem Keeps.faultSlots {sel : List Word → Bool} {cause : Nat} (h : Keeps σ τ) : Keeps σ (τ.faultSlots sel cause) :=
  h.foldl (fun _ _ h => h.slotFaultNow)

theorem Keeps.cleResetIn (h : Keeps σ τ) : Keeps σ τ.cleResetIn := h.faultSlots.forUpto (fun _ _ h => h.setSlot)

theorem Keeps.storeEntry {p i : Nat} {e0 : List Word} (h : Keeps σ τ) : Keeps σ (τ.storeEntry p i e0) :=
  (Keeps.ite h.setSlot h.setSlot.setF).audit

theorem Keeps.cleLoadBody {x : HPort} {p : Part} {d : Desc} {id : Nat} (h : Keeps σ τ) :
    KeepsEnd σ (cleLoadBody x p d τ id) := by
  unfold Machine.cleLoadBody
  extract_lets first n
  split
  · exact h.refuse
  · split
    · next e2 => exact (h.dmaRead.of_eq e2).done
    · next e2 =>
      extract_lets es ent
      split
      · exact (h.dmaRead.of_eq e2).done
      · exact ((h.dmaRead.of_eq e2).forUpto (fun _ _ h => h.storeEntry)).done

theorem Keeps.cleLoadEff {x : HPort} {p : Part} {d : Desc} (h : Keeps σ τ) : Keeps σ (cleLoadEff x p d τ) :=
  h.command (fun _ _ h => h.cleLoadBody)

theorem Keeps.cleCtl {x : HPort} {p : Part} {d : Desc} {op : Nat} {wf : Bool} {body : Nat → State → Nat → CmdEnd} (h
    : Keeps σ τ) (hbody : ∀ b4 υ b9, Keeps σ υ → KeepsEnd σ (body b4 υ b9)) :
    Keeps σ (τ.cleCtl x p d op wf body) :=
  h.command (fun _ _ h => .ite h.refuse (.ite h.done (hbody _ _ _ h)))

theorem Keeps.cleEnableBody {p : Part} {i id : Nat} (h : Keeps σ τ) : KeepsEnd σ (cleEnableBody p i τ id) :=
  .ite h.done (.ite h.done h.useFree.setSlot.setF.setF.setF.slotMove.audit.done)

theorem Keeps.cleEnableEff {x : HPort} {p : Part} {d : Desc} (h : Keeps σ τ) : Keeps σ (cleEnableEff x p d τ) :=
  h.cleCtl (fun _ _ _ h => h.cleEnableBody)

theorem Keeps.outSrcFlt {i : Nat} {b : Bool} (h : Keeps σ τ) : Keeps σ (τ.outSrcFlt i b) := .ite h h.qbit

theorem Keeps.cleDisableBody {x : HPort} {p : Part} {i id : Nat} (h : Keeps σ τ) :
    KeepsEnd σ (cleDisableBody x p i τ id) :=
  .ite h.done (.ite h.audit.setSlot.wait h.audit.outSrcFlt.slotMove.done)

theorem Keeps.cleDisableEff {x : HPort} {p : Part} {d : Desc} (h : Keeps σ τ) : Keeps σ (cleDisableEff x p d τ) :=
  h.cleCtl (fun _ _ _ h => h.cleDisableBody)

theorem Keeps.cleInjectStartBody {x : HPort} {p : Part} {d : Desc} {i id : Nat} (h : Keeps σ τ) :
    KeepsEnd σ (cleInjectStartBody x p d i τ id) := by
  unfold Machine.cleInjectStartBody
  refine .ite h.done (.ite h.done ?_)
  split
  · next e => exact (h.dmaRead.of_eq e).done
  · next e => exact .ite (h.dmaRead.of_eq e).done (h.dmaRead.of_eq e).setSlot.setF.audit.done

theorem Keeps.cleInjectStartEff {x : HPort} {p : Part} {d : Desc} (h : Keeps σ τ) :
    Keeps σ (cleInjectStartEff x p d τ) :=
  h.cleCtl (fun _ _ _ h => h.cleInjectStartBody)

theorem Keeps.cleInjectStopBody {p : Part} {i id : Nat} (h : Keeps σ τ) : KeepsEnd σ (cleInjectStopBody p i τ id) :=
    by
  unfold Machine.cleInjectStopBody
  extract_lets k
  split
  · exact h.done
  · exact h.setSlot.audit.done

theorem Keeps.cleInjectStopEff {x : HPort} {p : Part} {d : Desc} (h : Keeps σ τ) :
    Keeps σ (cleInjectStopEff x p d τ) :=
  h.cleCtl (fun _ _ _ h => h.cleInjectStopBody)

theorem Keeps.cleCaptureStartBody {x : HPort} {p : Part} {d : Desc} {i id : Nat} (h : Keeps σ τ) :
    KeepsEnd σ (cleCaptureStartBody x p d i τ id) := by
  unfold Machine.cleCaptureStartBody
  refine .ite h.done (.ite h.done ?_)
  split
  · next e => exact (h.dmaRead.of_eq e).done
  · next e =>
    exact .ite (h.dmaRead.of_eq e).done (.ite (h.dmaRead.of_eq e).done (h.dmaRead.of_eq e).setCaps.setF.audit.done)

theorem Keeps.cleCaptureStartEff {x : HPort} {p : Part} {d : Desc} (h : Keeps σ τ) :
    Keeps σ (cleCaptureStartEff x p d τ) :=
  h.cleCtl (fun _ _ _ h => h.cleCaptureStartBody)

theorem Keeps.cleCaptureReadBody {x : HPort} {p : Part} {d : Desc} {i id : Nat} (h : Keeps σ τ) :
    KeepsEnd σ (cleCaptureReadBody x p d i τ id) := by
  unfold Machine.cleCaptureReadBody
  extract_lets data out
  split
  · next e => exact (h.dmaWrite.of_eq e).done
  · next e => exact (h.dmaWrite.of_eq e).done

theorem Keeps.cleCaptureReadEff {x : HPort} {p : Part} {d : Desc} (h : Keeps σ τ) :
    Keeps σ (cleCaptureReadEff x p d τ) :=
  h.cleCtl (fun _ _ _ h => h.cleCaptureReadBody)

theorem Keeps.takeSlot {i : Nat} (h : Keeps σ τ) : Keeps σ (τ.takeSlot i) := .ite h h.useFree.setSlot

theorem Keeps.stopSlot {i : Nat} (h : Keeps σ τ) : Keeps σ (τ.stopSlot i) := by
  unfold State.stopSlot
  extract_lets k
  split
  · exact h
  · exact (Keeps.ite h.setSlot (Keeps.ite h.setSlot.outSrcFlt h.setSlot).endTests.slotMove).foldl (fun _ _ h =>
      h.completeLate)

theorem Keeps.cleTick {n : Nat} (h : Keeps σ τ) : Keeps σ (τ.cleTick n) :=
  (h.other.forUpto (fun _ _ h => h.stopSlot)).forUpto (fun _ _ h => h.takeSlot)

theorem Keeps.injStep {i : Nat} (h : Keeps σ τ) : Keeps σ (τ.injStep i) := by
  unfold State.injStep
  extract_lets k
  split
  · exact h
  · exact .ite h.injEnd (.ite h (.ite h.setSlot.injEnd h.setSlot))

theorem Keeps.capSteps {i : Nat} {o : LawOut} {x : LoopIn} {inj : Word} {trig : Bool} (h : Keeps σ τ) :
    Keeps σ (τ.capSteps i o x inj trig) :=
  h.setCaps.foldl (fun _ _ h => h.capEnd)

theorem Keeps.computeSlot {i : Nat} (h : Keeps σ τ) : Keeps σ (τ.computeSlot i) := by
  unfold State.computeSlot
  extract_lets k
  split
  · exact h
  · exact .ite h.slotFault (.ite h.slotFault (.ite h.slotFault h.setSlot.setReg.setF.setF.capSteps.injStep))

theorem Keeps.cleComputeEff (h : Keeps σ τ) : Keeps σ (cleComputeEff τ) := h.forUpto (fun _ _ h => h.computeSlot)

theorem Keeps.driveOut {i : Nat} {v : Word} (h : Keeps σ τ) : Keeps σ (τ.driveOut i v) := .ite h.driveLocal h

theorem Keeps.writeSlot {i : Nat} (h : Keeps σ τ) : Keeps σ (τ.writeSlot i) :=
  .ite (.ite h.setSlot (.ite h.setSlot.setImg.driveOut.qbit h.setSlot.setImg.driveOut)) (.ite (.ite (.ite h.setSlot
      (.ite h.setSlot.addSat h.setSlot.setF)) (Keeps.ite h.setSlot (.ite h.setSlot.addSat
      h.setSlot.setF)).sourceWrite.driveOut) h)

theorem Keeps.cleOutputWriteEff (h : Keeps σ τ) : Keeps σ (cleOutputWriteEff τ) :=
  h.forUpto (fun _ _ h => h.writeSlot)

theorem Keeps.clearSlot {i : Nat} (h : Keeps σ τ) : Keeps σ (τ.clearSlot i) := h.capsEnd.setSlot.setReg.setReg

theorem Keeps.writeSlotCfg {i : Nat} {v : Word} (h : Keeps σ τ) : Keeps σ (τ.writeSlotCfg i v) :=
  .ite h.badVal (.ite h.writeFields h.writeFields.clearSlot.report)

theorem Keeps.slotAssignEff {x : HPort} {i : Fin 256} {v : Word} (h : Keeps σ τ) : Keeps σ (slotAssignEff x i v τ) :=
  h.asWrite h.writeSlotCfg

theorem Keeps.writeCapSeg {j : Nat} {v : Word} (h : Keeps σ τ) : Keeps σ (τ.writeCapSeg j v) :=
  h.writeFields.capsEnd.setCaps

theorem Keeps.captureSegmentTagEff {x : HPort} {j : Fin 4} {v : Word} (h : Keeps σ τ) :
    Keeps σ (captureSegmentTagEff x j v τ) :=
  h.asWrite h.writeCapSeg

theorem Keeps.snapTc {x : HPort} (h : Keeps σ τ) : Keeps σ (τ.snapTc x) := by
  unfold State.snapTc
  extract_lets v
  split <;> exact h.other

theorem Keeps.cleTclReadEff {x : HPort} (h : Keeps σ τ) : Keeps σ (cleTclReadEff x τ) := .ite h.emit h.snapTc.showRead

/-! ### Exchange -/

theorem Keeps.unloadSlots (h : Keeps σ τ) : Keeps σ τ.unloadSlots := h.forUpto (fun _ _ h => .ite h.setF h)

theorem Keeps.pointCfg {len : Nat} {ws : List Word} {id : Nat} (h : Keeps σ τ) : KeepsEnd σ (pointCfg len ws τ id)
    := by
  unfold Machine.pointCfg
  refine .ite h.rejected ?_
  extract_lets ps
  split
  · exact h.rejected
  · exact h.other.unverify.unloadSlots.accepted

theorem Keeps.cfgLoadPointTableEff {x : HPort} {p : Part} {d : Desc} (h : Keeps σ τ) :
    Keeps σ (cfgLoadPointTableEff x p d τ) :=
  h.cfgLoad (fun _ _ _ h => h.pointCfg)

theorem Keeps.stationCfg {ws : List Word} {id : Nat} (h : Keeps σ τ) : KeepsEnd σ (stationCfg ws τ id) := by
  unfold Machine.stationCfg
  dsimp only
  split
  · exact h.rejected
  · split
    · exact h.rejected
    · exact h.other.accepted

theorem Keeps.cfgLoadStationTableEff {x : HPort} {p : Part} {d : Desc} (h : Keeps σ τ) :
    Keeps σ (cfgLoadStationTableEff x p d τ) :=
  h.cfgLoad (fun _ _ _ h => h.stationCfg)

theorem Keeps.scheduleCfg {len : Nat} {ws : List Word} {id : Nat} (h : Keeps σ τ) : KeepsEnd σ (scheduleCfg len ws τ
    id) := by
  unfold Machine.scheduleCfg
  refine .ite h.rejected ?_
  extract_lets es stns pts
  split
  · exact h.rejected
  · split
    · exact h.rejected
    · exact h.other.accepted

theorem Keeps.cfgLoadExchangeScheduleEff {x : HPort} {p : Part} {d : Desc} (h : Keeps σ τ) :
    Keeps σ (cfgLoadExchangeScheduleEff x p d τ) :=
  h.cfgLoad (fun _ _ _ h => h.scheduleCfg)

theorem Keeps.raisePtx {bit : Nat} (h : Keeps σ τ) : Keeps σ (τ.raisePtx bit) := h.raise

theorem Keeps.tableApplied {ty n : Nat} {crc : Word} (h : Keeps σ τ) : Keeps σ (τ.tableApplied ty n crc) :=
  h.report.raisePtx

theorem Keeps.countUnscheduled (h : Keeps σ τ) : Keeps σ τ.countUnscheduled := h.setReg

theorem Keeps.countStale (h : Keeps σ τ) : Keeps σ τ.countStale := h.setReg

theorem Keeps.pointChange {i : Nat} {old new : Point} (h : Keeps σ τ) : Keeps σ (τ.pointChange i old new) :=
  .ite h h.setImg.setQual.other

theorem Keeps.pointChanges {i : Nat} {ps : List Point} (h : Keeps σ τ) : Keeps σ (τ.pointChanges i ps) := by
  induction ps generalizing τ i with
  | nil =>
    rw [State.pointChanges]
    exact h
  | cons b l ih =>
    rw [State.pointChanges]
    exact ih h.pointChange

theorem Keeps.applyPoints {first : Nat} {ps : List Point} (h : Keeps σ τ) : Keeps σ (τ.applyPoints first ps) :=
  h.pointChanges.other.cullSubs.countUnscheduled.setReg.tableApplied

theorem Keeps.applySchedule {ws : List Word} (h : Keeps σ τ) : Keeps σ (τ.applySchedule ws) :=
  h.other.setReg.countUnscheduled.setReg.tableApplied

theorem Keeps.stationReg {old : List Stn} {e0 : Stn} (h : Keeps σ τ) : Keeps σ (τ.stationReg old e0) :=
  (Keeps.ite h h.setReg).setF.setF.setF

theorem Keeps.applyStations {ws : List Word} (h : Keeps σ τ) : Keeps σ (τ.applyStations ws) :=
  ((h.other.foldl (fun _ _ h => h.setReg)).foldl (fun _ _ h => h.stationReg)).other.countStale.setReg.tableApplied

theorem Keeps.applyLoad {load : TableLoad} (h : Keeps σ τ) : Keeps σ (τ.applyLoad load) := by
  unfold State.applyLoad
  split
  · exact h.applyPoints
  · exact h.applySchedule
  · exact h.applyStations

theorem Keeps.applyLoads (h : Keeps σ τ) : Keeps σ τ.applyLoads := h.other.foldl (fun _ _ h => h.applyLoad)

theorem Keeps.drainPoints {q fuel : Nat} (h : Keeps σ τ) : Keeps σ (τ.drainPoints q fuel) := by
  induction fuel generalizing τ q with
  | zero =>
    rw [State.drainPoints]
    exact h
  | succ n ih =>
    rw [State.drainPoints]
    split
    · next e => exact .ite (h.takePkt.of_eq e) (ih (h.takePkt.of_eq e))
    · next e => exact ih (h.takePkt.of_eq e).toInbox

theorem Keeps.drainAll (h : Keeps σ τ) : Keeps σ τ.drainAll := h.foldl (fun _ _ h => h.drainPoints)

theorem Keeps.qbits {ps : List (Nat × Point)} {bit : Nat} {b : Bool} (h : Keeps σ τ) : Keeps σ (τ.qbits ps bit b) :=
  h.foldl (fun _ _ h => h.qbit)

theorem Keeps.latchEntry {rs : List Taken} {recv : List (Nat × Nat)} {e0 : Ent} (h : Keeps σ τ) :
    Keeps σ (τ.latchEntry rs recv e0) :=
  .ite h.setExch h.setExch.addSat.addSat.addSat.qbits

theorem Keeps.latchInput {i : Nat} {v : Word} {late : Bool} (h : Keeps σ τ) : Keeps σ (τ.latchInput i v late) :=
  h.sourceWrite.setQual

theorem Keeps.stationReturns {e0 : Stn} (h : Keeps σ τ) : Keeps σ (τ.stationReturns e0) :=
  (h.setF.setF.other.foldl (fun _ _ h => .ite h.setExch h)).report.raisePtx

theorem Keeps.latchReply {taken : Taken} (h : Keeps σ τ) : Keeps σ (τ.latchReply taken) := by
  unfold State.latchReply
  refine .ite ?_ (.ite (h.foldl (fun _ _ h => h.latchInput)).qbits.setF.setF.addSat.raisePtx (h.foldl (fun _ _ h =>
      h.latchInput)).qbits.setF.setF)
  split
  · exact (Keeps.ite (h.foldl (fun _ _ h => h.latchInput)).qbits.setF.setF.addSat.raisePtx (h.foldl (fun _ _ h =>
      h.latchInput)).qbits.setF.setF).stationReturns
  · exact .ite (h.foldl (fun _ _ h => h.latchInput)).qbits.setF.setF.addSat.raisePtx (h.foldl (fun _ _ h =>
      h.latchInput)).qbits.setF.setF

theorem Keeps.stationStale {e0 : Stn} {why : Nat} (h : Keeps σ τ) : Keeps σ (τ.stationStale e0 why) :=
  .ite h h.setF.setF.report.raisePtx

theorem Keeps.losePort {i why : Nat} (h : Keeps σ τ) : Keeps σ (τ.losePort i why) :=
  (h.foldl (fun _ _ h => h.qbits.stationStale)).report

theorem Keeps.latchField {recv : List (Nat × Nat)} (h : Keeps σ τ) : Keeps σ (τ.latchField recv) :=
  ((((((h.foldl (fun _ _ h => h.addSat)).foldl (fun _ _ h => h.latchEntry)).foldl (fun _ _ h => h.latchReply)).foldl
      (fun _ _ h => .ite h.stationStale h)).foldl (fun _ _ h => h.losePort)).other.foldl (fun _ _ h =>
      h.other)).countStale

theorem Keeps.setSubPt {i : Nat} {b : SubPoint} (h : Keeps σ τ) : Keeps σ (τ.setSubPt i b) := h.other

theorem Keeps.latchCopy {i : Nat} {p : Point} {c : PubCopy} (h : Keeps σ τ) : Keeps σ (τ.latchCopy i p c) :=
  .ite h.latchInput.qbit.qbit.qbit.setSubPt.report h.latchInput.qbit.qbit.qbit.setSubPt

theorem Keeps.missCopy {i : Nat} {p : Point} (h : Keeps σ τ) : Keeps σ (τ.missCopy i p) :=
  .ite h.setSubPt h.setSubPt.qbit.report

theorem Keeps.latchSub {cs : List PubCopy} {i : Nat} {p : Point} (h : Keeps σ τ) : Keeps σ (τ.latchSub cs i p) := by
  unfold State.latchSub
  refine .ite ?_ (.ite (Keeps.setSubPt ?_) (Keeps.missCopy ?_))
  · split
    · exact h.latchCopy
    · exact h
  · split
    · exact h.latchCopy
    · exact h
  · split
    · exact h.latchCopy
    · exact h

theorem Keeps.latchOthers (h : Keeps σ τ) : Keeps σ τ.latchOthers :=
  h.foldl (fun _ _ h => .ite h.latchSub (.ite h.latchInput h))

theorem Keeps.ageInputs (h : Keeps σ τ) : Keeps σ τ.ageInputs := h.foldl (fun _ _ h => .ite h.setQual h)

theorem Keeps.markForced {dir : Nat} (h : Keeps σ τ) : Keeps σ (τ.markForced dir) :=
  h.foldl (fun _ _ h => .ite h.qbit h)

theorem Keeps.markStale (h : Keeps σ τ) : Keeps σ τ.markStale := .ite h (h.foldl (fun _ _ h => .ite h.qbit h))

theorem Keeps.forceInput {i : Nat} {v : Word} (h : Keeps σ τ) : Keeps σ (τ.forceInput i v) := h.other.setImg

theorem Keeps.forceInputs (h : Keeps σ τ) : Keeps σ τ.forceInputs := h.foldl (fun _ _ h => .ite h.forceInput h)

theorem Keeps.unforceInputs (h : Keeps σ τ) : Keeps σ τ.unforceInputs := by
  unfold State.unforceInputs
  refine (h.foldl (fun u e h => ?_)).other
  split
  · exact h.setImg
  · exact h

theorem Keeps.latchInputs {recv : List (Nat × Nat)} (h : Keeps σ τ) : Keeps σ (τ.latchInputs recv) :=
  h.unforceInputs.drainAll.ageInputs.latchField.latchOthers.forceInputs.markForced.markStale.other

theorem Keeps.latchNotify (h : Keeps σ τ) : Keeps σ τ.latchNotify := h.notify

theorem Keeps.publishImage (h : Keeps σ τ) : Keeps σ τ.publishImage := h.markForced.other

theorem Keeps.publishQuality (h : Keeps σ τ) : Keeps σ τ.publishQuality := h.other

theorem Keeps.markEntry {e0 : Ent} (h : Keeps σ τ) : Keeps σ (τ.markEntry e0) := .ite h.setExch.qbits h.setExch

theorem Keeps.markEntries (h : Keeps σ τ) : Keeps σ τ.markEntries := h.foldl (fun _ _ h => h.markEntry)

theorem Keeps.handOver (h : Keeps σ τ) : Keeps σ τ.handOver := (h.foldl (fun _ _ h => h.setExch)).other

theorem Keeps.publishNotify (h : Keeps σ τ) : Keeps σ τ.publishNotify := h.notify

theorem Keeps.publish (h : Keeps σ τ) : Keeps σ τ.publish := h.publishImage.markEntries.publishQuality.publishNotify

theorem Keeps.driveOutputs (h : Keeps σ τ) : Keeps σ τ.driveOutputs := h.foldl (fun _ _ h => .ite h.driveLocal h)

theorem Keeps.exchangeTakeover (h : Keeps σ τ) : Keeps σ τ.exchangeTakeover :=
  ((h.foldl (fun _ _ h => h.setF.setF.setF)).foldl (fun _ _ h => h.setExch)).other.countStale

/-! ### Metering -/

theorem Keeps.calCfg {x : HPort} {p : Part} {ws : List Word} {id : Nat} (h : Keeps σ τ) :
    KeepsEnd σ (calCfg x p ws τ id) := by
  unfold Machine.calCfg
  split
  · exact h.rejected
  · exact h.other.wait

theorem Keeps.cfgLoadCalibrationSetEff {x : HPort} {p : Part} {d : Desc} (h : Keeps σ τ) :
    Keeps σ (cfgLoadCalibrationSetEff x p d τ) :=
  h.cfgLoad (fun _ _ _ h => h.calCfg)

theorem Keeps.circCfg {ws : List Word} {id : Nat} (h : Keeps σ τ) : KeepsEnd σ (circCfg ws τ id) := by
  unfold Machine.circCfg
  split
  · exact h.rejected
  · exact h.other.accepted

theorem Keeps.cfgLoadCircuitTableEff {x : HPort} {p : Part} {d : Desc} (h : Keeps σ τ) :
    Keeps σ (cfgLoadCircuitTableEff x p d τ) :=
  h.cfgLoad (fun _ _ _ h => h.circCfg)

theorem Keeps.raiseMtr {bit : Nat} (h : Keeps σ τ) : Keeps σ (τ.raiseMtr bit) := h.raise

theorem Keeps.setMtr {m : MtrSt} (h : Keeps σ τ) : Keeps σ (τ.setMtr m) := h.other

theorem Keeps.mainsWatch (h : Keeps σ τ) : Keeps σ τ.mainsWatch := .ite h.measFail h

theorem Keeps.setChanFault {c : Nat} {b : Bool} (h : Keeps σ τ) : Keeps σ (τ.setChanFault c b) :=
  (Keeps.ite h.setF.raiseMtr h.setF).report.mainsWatch

theorem Keeps.watchChan {c : Nat} {stuck : Bool} (h : Keeps σ τ) : Keeps σ (τ.watchChan c stuck) :=
  .ite (Keeps.ite h.setMtr.setChanFault (.ite h.setMtr.setChanFault h.setMtr)).setMtr (.ite h.setMtr.setChanFault
      (.ite h.setMtr.setChanFault h.setMtr))

theorem Keeps.detect {v x time : Nat} (h : Keeps σ τ) : Keeps σ (τ.detect v x time) := by
  unfold State.detect
  extract_lets z fs x100 isNeg z1 z2 keep
  have h_keep : ∀ z t, Keeps σ t → Keeps σ (keep z t) := fun _ _ h => h.setMtr
  split
  · exact .ite (h_keep _ _ h.useFree.setReg).measCross (h_keep _ _ h)
  · exact h_keep _ _ h

theorem Keeps.sampleChan {c : Nat} {code : Int} {time : Nat} (h : Keeps σ τ) : Keeps σ (τ.sampleChan c code time) :=
  .ite (Keeps.ite h.raiseMtr.report h).setMtr.detect (Keeps.ite h.raiseMtr.report h).setMtr

theorem Keeps.pushWindow {m : MeterIn} (h : Keeps σ τ) : Keeps σ (τ.pushWindow m) :=
  .ite h (h.forUpto (fun _ _ h => h.setMtr))

theorem Keeps.takeSamples {m : MeterIn} {back : Nat} {late : Bool} (h : Keeps σ τ) :
    Keeps σ (τ.takeSamples m back late) :=
  h.forUpto (fun _ _ h => .ite h.useFree.sampleChan h)

theorem Keeps.watchWindow {m : MeterIn} (h : Keeps σ τ) : Keeps σ (τ.watchWindow m) := by
  unfold State.watchWindow
  refine h.forUpto fun c u h => ?_
  extract_lets r
  split
  exact .ite h.setMtr.watchChan h.setMtr

theorem Keeps.closeWindow {m : MeterIn} {back : Nat} (h : Keeps σ τ) : Keeps σ (τ.closeWindow m back) :=
  h.setMtr.watchWindow.takeSamples.forUpto (fun _ _ h => .ite h.setMtr h)

theorem Keeps.closeWindows {ms : List MeterIn} (h : Keeps σ τ) : Keeps σ (τ.closeWindows ms) := by
  fun_induction State.closeWindows τ ms with
  | case1 => exact h
  | case2 => exact h.closeWindow
  | case3 s m k ms t ih => exact ih h.closeWindow.pushWindow.takeSamples

theorem Keeps.meterLate {ms : List MeterIn} (h : Keeps σ τ) : Keeps σ (τ.meterLate ms) := by
  unfold State.meterLate
  split
  · exact h
  · exact .ite h.pushWindow.takeSamples h.pushWindow

theorem Keeps.meterNow {ms : List MeterIn} (h : Keeps σ τ) : Keeps σ (τ.meterNow ms) :=
  .ite h.closeWindows (h.foldl (fun _ _ h => h.pushWindow))

theorem Keeps.mtrStepped {d : Int} (h : Keeps σ τ) : Keeps σ (τ.mtrStepped d) := h.setMtr

theorem Keeps.driveMclk (h : Keeps σ τ) : Keeps σ τ.driveMclk := .ite h h.setMtr.emit

theorem Keeps.creditCirc {c : Nat} {cs : List Nat} (h : Keeps σ τ) : Keeps σ (τ.creditCirc c cs) :=
  h.forUpto (fun _ _ h => h.setMtr)

theorem Keeps.ivFlag {c bit : Nat} (h : Keeps σ τ) : Keeps σ (τ.ivFlag c bit) := h.setMtr

theorem Keeps.ivFlagAll {bit : Nat} (h : Keeps σ τ) : Keeps σ (τ.ivFlagAll bit) := h.forUpto (fun _ _ h => h.ivFlag)

theorem Keeps.faultFrame {c : Nat} (h : Keeps σ τ) : Keeps σ (τ.faultFrame c) := h.setMtr.ivFlag

theorem Keeps.meterCirc {c : Nat} (h : Keeps σ τ) : Keeps σ (τ.meterCirc c) :=
  .ite h (.ite h.setMtr.faultFrame h.setMtr.useFree.creditCirc)

theorem Keeps.publishCirc {c : Nat} {dead : Bool} (h : Keeps σ τ) : Keeps σ (τ.publishCirc c dead) :=
  h.foldl (fun _ _ h => .ite h (.ite h.setImg.qbit (.ite h.qbit.qbit h.sourceWrite.qbit)))

theorem Keeps.captureInstant (h : Keeps σ τ) : Keeps σ τ.captureInstant := h.setMtr.setReg

theorem Keeps.snapCirc {c tag flags : Nat} (h : Keeps σ τ) : Keeps σ (τ.snapCirc c tag flags) := h.setMtr

theorem Keeps.snapAll {flags : Nat} (h : Keeps σ τ) : Keeps σ (τ.snapAll flags) :=
  h.captureInstant.forUpto (fun _ _ h => .ite h.snapCirc.setMtr h)

theorem Keeps.zeroCirc {c : Nat} (h : Keeps σ τ) : Keeps σ (τ.zeroCirc c) := (h.forUpto (fun _ _ h =>
    h.setMtr)).setMtr

theorem Keeps.clearCirc {c : Nat} (h : Keeps σ τ) : Keeps σ (τ.clearCirc c) :=
  (Keeps.ite h.captureInstant.snapCirc h).zeroCirc.report

theorem Keeps.clearWatch {c : Nat} (h : Keeps σ τ) : Keeps σ (τ.clearWatch c) :=
  h.forUpto (fun _ _ h => .ite h.setReg h)

theorem Keeps.recircuit {old : List Word} {c : Nat} (h : Keeps σ τ) : Keeps σ (τ.recircuit old c) :=
  .ite (Keeps.ite (Keeps.ite h.captureInstant.snapCirc.zeroCirc.clearWatch.report.setMtr h).captureInstant.snapCirc
      (.ite h.captureInstant.snapCirc.zeroCirc.clearWatch.report.setMtr h)).setMtr (.ite (Keeps.ite
      h.captureInstant.snapCirc.zeroCirc.clearWatch.report.setMtr h).captureInstant.snapCirc (.ite
      h.captureInstant.snapCirc.zeroCirc.clearWatch.report.setMtr h))

theorem Keeps.copyWatch (h : Keeps σ τ) : Keeps σ τ.copyWatch := h.setMtr

theorem Keeps.applyCal {e0 : List Word × HPort × Part × Nat} (h : Keeps σ τ) : Keeps σ (τ.applyCal e0) :=
  h.setMtr.copyWatch.mainsWatch.setReg.report.completeLate

theorem Keeps.applyCirc {ws : List Word} (h : Keeps σ τ) : Keeps σ (τ.applyCirc ws) :=
  (h.setMtr.forUpto (fun _ _ h => h.recircuit)).setReg.report.copyWatch

theorem Keeps.settleCfg (h : Keeps σ τ) : Keeps σ τ.settleCfg := .ite h.setF h

theorem Keeps.applyImages (h : Keeps σ τ) : Keeps σ τ.applyImages :=
  ((h.setMtr.foldl (fun _ _ h => h.applyCal)).foldl (fun _ _ h => h.applyCirc)).settleCfg

theorem Keeps.interval (h : Keeps σ τ) : Keeps σ τ.interval := (Keeps.ite h.snapAll (.ite h.snapAll h)).setMtr

theorem Keeps.pulseLatch {k : Nat} (h : Keeps σ τ) : Keeps σ (τ.pulseLatch k) :=
  .ite h.setMtr (.ite h.setMtr.raiseMtr.report h.setMtr)

theorem Keeps.pulseStartEff {k : Fin 8} (h : Keeps σ τ) : Keeps σ (pulseStartEff k τ) := by
  unfold Machine.pulseStartEff
  extract_lets m
  split
  · exact h
  · exact .ite h h.setMtr.setReg.emit

theorem Keeps.pulseEndEff {k : Fin 8} (h : Keeps σ τ) : Keeps σ (pulseEndEff k τ) := .ite h.setMtr.emit h

theorem Keeps.writeBank {b : Bank} (h : Keeps σ τ) : Keeps σ (τ.writeBank b) := h.setMtr.setReg

theorem Keeps.regularSaveCompleteEff (h : Keeps σ τ) : Keeps σ (regularSaveCompleteEff τ) := by
  unfold Machine.regularSaveCompleteEff
  split
  · exact h
  · exact h.setMtr.writeBank

theorem Keeps.saveBank (h : Keeps σ τ) : Keeps σ τ.saveBank := .ite h h.setMtr.writeBank

theorem Keeps.warnBank (h : Keeps σ τ) : Keeps σ τ.warnBank := .ite h h.setMtr.setMtr.useFree.writeBank.report

theorem Keeps.warnOver (h : Keeps σ τ) : Keeps σ τ.warnOver := h.setMtr.ivFlagAll

theorem Keeps.writeDelta (h : Keeps σ τ) : Keeps σ τ.writeDelta := by
  unfold State.writeDelta
  split
  · exact h
  · exact h.setMtr

theorem Keeps.restoreAcc (h : Keeps σ τ) : Keeps σ τ.restoreAcc := by
  unfold State.restoreAcc
  extract_lets torn t
  have h_t : Keeps σ t := .ite h.setF h
  split
  · exact h_t.setF.report
  · exact h_t.setMtr.setReg.report

theorem Keeps.reloadCfg (h : Keeps σ τ) : Keeps σ τ.reloadCfg :=
  .ite (Keeps.ite (Keeps.ite h.setMtr.setReg.setReg.setF h.setMtr.setReg.setReg).report (.ite
      h.setMtr.setReg.setReg.setF h.setMtr.setReg.setReg)).report (.ite (Keeps.ite h.setMtr.setReg.setReg.setF
      h.setMtr.setReg.setReg).report (.ite h.setMtr.setReg.setReg.setF h.setMtr.setReg.setReg))

theorem Keeps.startMetering (h : Keeps σ τ) : Keeps σ τ.startMetering :=
  .ite h h.reloadCfg.restoreAcc.ivFlagAll.setReg

theorem Keeps.showFreqs (h : Keeps σ τ) : Keeps σ τ.showFreqs := h.forUpto (fun _ _ h => h.setReg)

theorem Keeps.mainsBand (h : Keeps σ τ) : Keeps σ τ.mainsBand := .ite h.measFail h

theorem Keeps.meterFrame (h : Keeps σ τ) : Keeps σ τ.meterFrame :=
  .ite h (.ite ((((Keeps.ite (h.setMtr.forUpto (fun _ _ h => h.meterCirc)) (.ite (h.setMtr.forUpto (fun _ _ h =>
      .ite h.faultFrame h)) h.setMtr)).showFreqs.mainsBand.forUpto (fun _ _ h => h.pulseLatch)).applyImages.foldl
      (fun _ _ h => h.clearCirc)).setMtr.interval.forUpto (fun _ _ h => .ite h.publishCirc h)).setMtr.writeDelta
      (.ite ((((Keeps.ite (h.setMtr.forUpto (fun _ _ h => h.meterCirc)) (.ite (h.setMtr.forUpto (fun _ _ h => .ite
      h.faultFrame h)) h.setMtr)).showFreqs.mainsBand.forUpto (fun _ _ h => h.pulseLatch)).applyImages.foldl (fun _
      _ h => h.clearCirc)).setMtr.interval.forUpto (fun _ _ h => .ite h.publishCirc h)).setMtr.setMtr ((((Keeps.ite
      (h.setMtr.forUpto (fun _ _ h => h.meterCirc)) (.ite (h.setMtr.forUpto (fun _ _ h => .ite h.faultFrame h))
      h.setMtr)).showFreqs.mainsBand.forUpto (fun _ _ h => h.pulseLatch)).applyImages.foldl (fun _ _ h =>
      h.clearCirc)).setMtr.interval.forUpto (fun _ _ h => .ite h.publishCirc h)).setMtr))

theorem Keeps.mtrResetIn (h : Keeps σ τ) : Keeps σ τ.mtrResetIn := (Keeps.ite h h.measFail).setMtr

theorem Keeps.writeAccClr {v : Word} (h : Keeps σ τ) : Keeps σ (τ.writeAccClr v) :=
  .ite h.writeFields.setMtr h.writeFields

theorem Keeps.accumulatorClearRequestEff {x : HPort} {v : Word} (h : Keeps σ τ) :
    Keeps σ (accumulatorClearRequestEff x v τ) :=
  h.asWrite h.writeAccClr

theorem Keeps.writeIvCtl {v : Word} (h : Keeps σ τ) : Keeps σ (τ.writeIvCtl v) := .ite h.writeFields h.setF.badVal

theorem Keeps.intervalControlWriteEff {x : HPort} {v : Word} (h : Keeps σ τ) :
    Keeps σ (intervalControlWriteEff x v τ) :=
  h.asWrite h.writeIvCtl

theorem Keeps.writePulseCfg {k : Nat} {v : Word} (h : Keeps σ τ) : Keeps σ (τ.writePulseCfg k v) :=
  .ite (Keeps.ite (.ite h.writeFields.badVal h.writeFields) (Keeps.ite h.writeFields.badVal
      h.writeFields).emit).setMtr (.ite (.ite h.writeFields.badVal h.writeFields) (Keeps.ite h.writeFields.badVal
      h.writeFields).emit)

theorem Keeps.writePulseMc {k : Nat} {v : Word} (h : Keeps σ τ) : Keeps σ (τ.writePulseMc k v) :=
  .ite h.writeFields.setMtr h.writeFields

theorem Keeps.pulseOutputConfigWriteEff {x : HPort} {k : Fin 8} {mc : Bool} {v : Word} (h : Keeps σ τ) :
    Keeps σ (pulseOutputConfigWriteEff x k mc v τ) :=
  h.asWrite (.ite h.writePulseMc h.writePulseCfg)

theorem Keeps.writeWatch {k : Nat} {v : Word} (h : Keeps σ τ) : Keeps σ (τ.writeWatch k v) := h.writeFields.copyWatch

theorem Keeps.theftWatchConfigWriteEff {x : HPort} {k : Fin 16} {v : Word} (h : Keeps σ τ) :
    Keeps σ (theftWatchConfigWriteEff x k v τ) :=
  h.asWrite h.writeWatch

theorem Keeps.writeWatchClr {v : Word} (h : Keeps σ τ) : Keeps σ (τ.writeWatchClr v) :=
  h.forUpto (fun _ _ h => .ite h.setReg h)

theorem Keeps.theftWatchClearEff {x : HPort} {v : Word} (h : Keeps σ τ) : Keeps σ (theftWatchClearEff x v τ) :=
  h.asWrite h.writeWatchClr

theorem Keeps.theftWatchBurstEff {codes : List (List Int)} (h : Keeps σ τ) : Keeps σ (theftWatchBurstEff codes τ) :=
  .ite h.setF (.ite h.emit.emit.setMtr h)

theorem Keeps.setKept {k : MtrKept} (h : Keeps σ τ) : Keeps σ (τ.setKept k) := h.setMtr

theorem Keeps.watchEntry {k : Nat} (h : Keeps σ τ) : Keeps σ (τ.watchEntry k) :=
  .ite h (.ite h.useFree.setKept (.ite (.ite h.useFree.addSat.setKept h.useFree.addSat) (.ite
      h.useFree.addSat.setKept.setF h.useFree.addSat.setKept.addSat)))

theorem Keeps.theftWatchEvaluationEff (h : Keeps σ τ) : Keeps σ (theftWatchEvaluationEff τ) :=
  .ite (h.emit.emit.forUpto (fun _ _ h => h.watchEntry)) h

theorem Keeps.watchReturn (h : Keeps σ τ) : Keeps σ τ.watchReturn :=
  .ite h (.ite (Keeps.ite (h.foldl (fun _ _ h => h.report)).setKept (h.foldl (fun _ _ h =>
      h.report)).setKept.setF.raiseMtr).report.setF (.ite (h.foldl (fun _ _ h => h.report)).setKept (h.foldl (fun _
      _ h => h.report)).setKept.setF.raiseMtr))

theorem Keeps.mtrReadBody {x : HPort} {p : Part} {d : Desc} {id : Nat} (h : Keeps σ τ) :
    KeepsEnd σ (mtrReadBody x p d τ id) := by
  unfold Machine.mtrReadBody
  refine .ite h.refuse ?_
  split
  · next e => exact (h.dmaWrite.of_eq e).done
  · next e => exact (h.dmaWrite.of_eq e).done

theorem Keeps.mtrReadEff {x : HPort} {p : Part} {d : Desc} (h : Keeps σ τ) : Keeps σ (mtrReadEff x p d τ) :=
  h.command (fun _ _ h => h.mtrReadBody)

/-! ### Measure -/

theorem Keeps.writeMeasCtl {v : Word} (h : Keeps σ τ) : Keeps σ (τ.writeMeasCtl v) :=
  .ite (.ite (Keeps.ite h.writeFields.badVal h.writeFields).measBegin (Keeps.ite h.writeFields.badVal
      h.writeFields).measBegin.measFail) (.ite h.writeFields.badVal h.writeFields)

theorem Keeps.measurementStartEff {x : HPort} {v : Word} (h : Keeps σ τ) : Keeps σ (measurementStartEff x v τ) :=
  h.asWrite h.writeMeasCtl

theorem Keeps.measurementDoneEff (h : Keeps σ τ) : Keeps σ (measurementDoneEff τ) :=
  .ite h (.ite (Keeps.ite h.setCount h).measFail (.ite (Keeps.ite h.setCount
      h).useFree.setReg.setF.setF.report.setTrim.autoStart (Keeps.ite h.setCount
      h).useFree.setReg.setF.setF.report))

/-! ### Legacy -/

theorem Keeps.canDeliver {k err : Nat} {data : List Byte} (h : Keeps σ τ) : Keeps σ (τ.canDeliver k err data) :=
  h.toHost

theorem Keeps.txReport {k err : Nat} {frac sec : Word} {f : List Byte} (h : Keeps σ τ) :
    Keeps σ (τ.txReport k err frac sec f) :=
  .ite h.canDeliver h

theorem Keeps.txDiscard {k err : Nat} {f : List Byte} (h : Keeps σ τ) : Keeps σ (τ.txDiscard k err f) := h.txReport

theorem Keeps.putTx {k b : Nat} {f : List Byte} (h : Keeps σ τ) : Keeps σ (τ.putTx k b f) := h.setCan.setF

theorem Keeps.dropPkts {q : Nat} {sel : Pkt → Bool} (h : Keeps σ τ) : Keeps σ (τ.dropPkts q sel) := h.setQueue.other

theorem Keeps.discardTx {k err : Nat} {sel : Nat → Bool} (h : Keeps σ τ) : Keeps σ (τ.discardTx k err sel) :=
  (h.foldl (fun _ _ h => h.putTx.txDiscard)).dropPkts.foldl (fun _ _ h => h.txDiscard)

theorem Keeps.setEst {k est : Nat} (h : Keeps σ τ) : Keeps σ (τ.setEst k est) := .ite h h.setF.raise.report

theorem Keeps.setCounts {k tec rec : Nat} (h : Keeps σ τ) : Keeps σ (τ.setCounts k tec rec) := h.setF.setF.setF

theorem Keeps.busOff {k : Nat} (h : Keeps σ τ) : Keeps σ (τ.busOff k) :=
  .ite h.setEst.setCan.discardTx.setEst h.setEst.setCan.discardTx

theorem Keeps.countErrors {k tec rec : Nat} (h : Keeps σ τ) : Keeps σ (τ.countErrors k tec rec) :=
  .ite h.setCounts.busOff h.setCounts.setEst

theorem Keeps.canError {k lec tec rec : Nat} (h : Keeps σ τ) : Keeps σ (τ.canError k lec tec rec) :=
  .ite h.setF.addSat h.setF.addSat.countErrors

theorem Keeps.canBusErrorEff {k : Fin 4} {lec : Fin 7} {tec rec : Nat} (h : Keeps σ τ) :
    Keeps σ (canBusErrorEff k lec tec rec τ) :=
  .ite h.canError h

theorem Keeps.canRecover {k : Nat} (h : Keeps σ τ) : Keeps σ (τ.canRecover k) := .ite h.setEst h

theorem Keeps.canRecoverEff {x : HPort} {k : Fin 4} (h : Keeps σ τ) : Keeps σ (canRecoverEff x k τ) :=
  h.asWrite h.canRecover

theorem Keeps.busOffRecoveryCompleteEff {k : Fin 4} (h : Keeps σ τ) : Keeps σ (busOffRecoveryCompleteEff k τ) :=
  .ite h.setCounts.setEst.report h

theorem Keeps.goodReception {k : Nat} (h : Keeps σ τ) : Keeps σ (τ.goodReception k) :=
  .ite h (.ite h.useFree.countErrors h.countErrors)

theorem Keeps.takeFrame {k b : Nat} {f : CanIn} (h : Keeps σ τ) : Keeps σ (τ.takeFrame k b f) :=
  .ite h.addSat.toMailbox h.addSat.canDeliver

theorem Keeps.canFrameReceivedEff {k : Fin 4} {f : CanIn} (h : Keeps σ τ) : Keeps σ (canFrameReceivedEff k f τ) := by
  unfold Machine.canFrameReceivedEff
  refine .ite h ?_
  extract_lets t
  have h_t : Keeps σ t := h.goodReception
  split
  · exact h_t.takeFrame
  · exact h_t

theorem Keeps.delayFault {k : Nat} (h : Keeps σ τ) : Keeps σ (τ.delayFault k) := h.setF.report.useFree.canError

theorem Keeps.sentFrame {k b : Nat} {frac sec : Word} {f : List Byte} (h : Keeps σ τ) :
    Keeps σ (τ.sentFrame k b frac sec f) :=
  h.putTx.addSat.countErrors.txReport

theorem Keeps.canFrameTransmittedEff {k : Fin 4} {frac sec : Word} {delay : Nat} (h : Keeps σ τ) :
    Keeps σ (canFrameTransmittedEff k frac sec delay τ) := by
  unfold Machine.canFrameTransmittedEff
  refine .ite h ?_
  split
  · exact h
  · exact .ite (.ite h.setF.delayFault h.setF.sentFrame) h.sentFrame

theorem Keeps.canModeSwitchEff {k : Fin 4} (h : Keeps σ τ) : Keeps σ (canModeSwitchEff k τ) := .ite h.setF h

theorem Keeps.canTxBody {x : HPort} {p : Part} {d : Desc} {id : Nat} (h : Keeps σ τ) :
    KeepsEnd σ (canTxBody x p d τ id) := by
  unfold Machine.canTxBody
  refine .ite h.refuse (.ite h.done ?_)
  split
  · next e => exact (h.dmaRead.of_eq e).done
  · next e =>
    split
    · exact (h.dmaRead.of_eq e).done
    · exact KeepsEnd.audited (h.dmaRead.of_eq e).stage

theorem Keeps.canTxEff {x : HPort} {p : Part} {d : Desc} (h : Keeps σ τ) : Keeps σ (canTxEff x p d τ) :=
  h.command (fun _ _ h => h.canTxBody)

theorem Keeps.canLoad {k : Nat} (h : Keeps σ τ) : Keeps σ (τ.canLoad k) := by
  unfold State.canLoad
  split
  · exact h
  · refine .ite h ?_
    split
    · next e2 => exact h.takePkt.of_eq e2
    · next e2 => exact .ite (h.takePkt.of_eq e2).txDiscard (h.takePkt.of_eq e2).putTx

theorem Keeps.raiseSer {bit : Nat} (h : Keeps σ τ) : Keeps σ (τ.raiseSer bit) := h.raise

theorem Keeps.serFrameEndEff {j : Fin 8} {data : List Byte} {err : Fin 5} {frac sec : Word} (h : Keeps σ τ) :
    Keeps σ (serFrameEndEff j data err frac sec τ) :=
  .ite h (Keeps.ite (Keeps.ite h.addSat h.addSat.addSat.raiseSer).addSat.report (.ite h.addSat
      h.addSat.addSat.raiseSer)).toHost

theorem Keeps.serBurstStartEff {j : Fin 8} (h : Keeps σ τ) : Keeps σ (serBurstStartEff j τ) := by
  unfold Machine.serBurstStartEff
  refine .ite h ?_
  split
  · next e => exact h.takePkt.of_eq e
  · next e => exact (h.takePkt.of_eq e).setCan.setF.emit

theorem Keeps.serRelease {j : Nat} (h : Keeps σ τ) : Keeps σ (τ.serRelease j) := h.setCan.setF.emit

theorem Keeps.serDriverReleaseEff {j : Fin 8} {bad : Option Nat} (h : Keeps σ τ) :
    Keeps σ (serDriverReleaseEff j bad τ) := by
  unfold Machine.serDriverReleaseEff
  refine .ite h (Keeps.serRelease ?_)
  split
  · exact .ite h.addSat.addSat.raiseSer.report h.addSat
  · exact h.addSat

theorem Keeps.serTxBody {x : HPort} {p : Part} {d : Desc} {id : Nat} (h : Keeps σ τ) :
    KeepsEnd σ (serTxBody x p d τ id) := by
  unfold Machine.serTxBody
  refine .ite h.refuse (.ite h.done ?_)
  split
  · next e => exact (h.dmaRead.of_eq e).done
  · next e => exact KeepsEnd.audited (h.dmaRead.of_eq e).stage

theorem Keeps.serTxEff {x : HPort} {p : Part} {d : Desc} (h : Keeps σ τ) : Keeps σ (serTxEff x p d τ) :=
  h.command (fun _ _ h => h.serTxBody)

theorem Keeps.legacyStandby (h : Keeps σ τ) : Keeps σ τ.legacyStandby :=
  (h.forUpto (fun _ _ h => .ite h.setF h)).forUpto (fun _ _ h => .ite h.serRelease h)

theorem Keeps.legacyBody {ws : List Word} {id : Nat} (h : Keeps σ τ) : KeepsEnd σ (legacyBody ws τ id) := by
  unfold Machine.legacyBody
  split
  · exact h.rejected
  · exact h.setCan.accepted

theorem Keeps.cfgLoadCanRs485ConfigurationEff {x : HPort} {p : Part} {d : Desc} (h : Keeps σ τ) :
    Keeps σ (cfgLoadCanRs485ConfigurationEff x p d τ) :=
  h.cfgLoad (fun _ _ _ h => h.legacyBody)

theorem Keeps.legacyRegs {ws : List Word} {i n : Nat} (h : Keeps σ τ) : Keeps σ (τ.legacyRegs ws i n) :=
  h.forUpto (fun _ _ h => h.setReg)

theorem Keeps.clearBuffer {k b : Nat} (h : Keeps σ τ) : Keeps σ (τ.clearBuffer k b) := h.setCan.setReg

theorem Keeps.applyController {ws : List Word} {k : Nat} (h : Keeps σ τ) : Keeps σ (τ.applyController ws k) :=
  (h.discardTx.forUpto (fun _ _ h => .ite h h.clearBuffer)).legacyRegs.setF

theorem Keeps.applyLegacy {u0 : Nat} (h : Keeps σ τ) : Keeps σ (τ.applyLegacy u0) :=
  .ite h.setCan.applyController h.setCan.legacyRegs

theorem Keeps.legacyConfigurationApplyEff {u0 : Fin 12} (h : Keeps σ τ) : Keeps σ (legacyConfigurationApplyEff u0 τ)
    :=
  .ite h.applyLegacy h

theorem Keeps.startLegacy (h : Keeps σ τ) : Keeps σ τ.startLegacy := by
  unfold State.startLegacy
  split
  · exact h
  · exact h.setCan.forUpto (fun _ _ h => h.applyLegacy)

theorem Keeps.packetReadEff {q : Fin 1024} (h : Keeps σ τ) : Keeps σ (packetReadEff q τ) := by
  unfold Machine.packetReadEff
  refine .ite h.deliverHead (.ite h.moveStaged (.ite h (.ite h.canLoad ?_)))
  split
  · next e => exact h.takePkt.of_eq e
  · next e => exact .ite (h.takePkt.of_eq e).toInbox (h.takePkt.of_eq e).emit

/-! ### Island -/

theorem Keeps.setSaf {v : SafSt} (h : Keeps σ τ) : Keeps σ (τ.setSaf v) := h.other

theorem Keeps.setChan {c : SafCh} {v : SafChan} (h : Keeps σ τ) : Keeps σ (τ.setChan c v) := by
  unfold State.setChan
  split <;> exact h.setSaf

theorem Keeps.setSafKept {k : SafKept} (h : Keeps σ τ) : Keeps σ (τ.setSafKept k) := h.setSaf

theorem Keeps.setStream {j : Nat} {v : SafStream} (h : Keeps σ τ) : Keeps σ (τ.setStream j v) := h.setSaf

theorem Keeps.safShow (h : Keeps σ τ) : Keeps σ τ.safShow :=
  .ite h (.ite (((h.setReg.setReg.setReg.setReg.setReg.setReg.setReg.forUpto (fun _ _ h => h.setReg.setReg)).forUpto
      (fun _ _ h => h.setReg.setReg)).forUpto (fun _ _ h => h.setReg.setReg)).signalUnit
      (((h.setReg.setReg.setReg.setReg.setReg.setReg.setReg.forUpto (fun _ _ h => h.setReg.setReg)).forUpto (fun _ _
      h => h.setReg.setReg)).forUpto (fun _ _ h => h.setReg.setReg)))

theorem Keeps.safEvent {code : Nat} {p1 p2 p3 : Word} (h : Keeps σ τ) : Keeps σ (τ.safEvent code p1 p2 p3) :=
  h.report.signalUnit

theorem Keeps.setGates {c : SafCh} {g : Nat} (h : Keeps σ τ) : Keeps σ (τ.setGates c g) :=
  h.setChan.forUpto (fun _ _ h => .ite h h.emit)

theorem Keeps.lockChan {c : SafCh} (h : Keeps σ τ) : Keeps σ (τ.lockChan c) := h.setChan.setGates

theorem Keeps.endTest {k res : Nat} (h : Keeps σ τ) : Keeps σ (τ.endTest k res) := h.setSaf.safEvent

theorem Keeps.abortTests (h : Keeps σ τ) : Keeps σ τ.abortTests := h.forUpto (fun _ _ h => .ite h h.endTest)

theorem Keeps.markCause {cause obj : Nat} (h : Keeps σ τ) : Keeps σ (τ.markCause cause obj) :=
  .ite h.setSafKept (.ite h.setSafKept (.ite h.setSafKept (.ite h.setSafKept h)))

theorem Keeps.safCause {cause obj : Nat} (h : Keeps σ τ) : Keeps σ (τ.safCause cause obj) :=
  .ite (.ite (Keeps.ite h.markCause h.markCause.abortTests).setSaf (.ite h.markCause h.markCause.abortTests))
      (Keeps.ite (Keeps.ite h.markCause h.markCause.abortTests).setSaf (.ite h.markCause
      h.markCause.abortTests)).setSafKept.safEvent

theorem Keeps.faultBy {c : SafCh} {cause obj : Nat} (h : Keeps σ τ) : Keeps σ (τ.faultBy c cause obj) :=
  h.safCause.lockChan.setChan

theorem Keeps.faultBoth {cause obj : Nat} (h : Keeps σ τ) : Keeps σ (τ.faultBoth cause obj) :=
  h.safCause.lockChan.lockChan

theorem Keeps.checkSwitches {sw : Nat × Nat} (h : Keeps σ τ) : Keeps σ (τ.checkSwitches sw) :=
  .ite (Keeps.ite (Keeps.ite h h.faultBoth).faultBoth (.ite h h.faultBoth)).faultBoth (.ite (Keeps.ite h
      h.faultBoth).faultBoth (.ite h h.faultBoth))

theorem Keeps.takeInput {c : SafCh} {v : SafView} {n : Nat} (h : Keeps σ τ) : Keeps σ (τ.takeInput c v n) :=
  .ite h (.ite (Keeps.ite h.setChan.setSafKept h.setChan).faultBy (.ite h.setChan.setSafKept h.setChan))

theorem Keeps.superviseBrake {c : SafCh} {v : SafView} {k : Nat} (h : Keeps σ τ) : Keeps σ (τ.superviseBrake c v k) :=
  .ite h (.ite (Keeps.ite h.setChan h.setChan.setSaf).faultBy (.ite (Keeps.ite h.setChan h.setChan.setSaf).faultBoth
      (.ite (.ite (Keeps.ite h.setChan h.setChan.setSaf).faultBy (.ite (.ite h.setChan h.setChan.setSaf) (Keeps.ite
      h.setChan h.setChan.setSaf).setSaf.safEvent)) (.ite h.setChan h.setChan.setSaf))))

theorem Keeps.oeRise {c : SafCh} (h : Keeps σ τ) : Keeps σ (τ.oeRise c) := .ite h h.setChan.setGates

theorem Keeps.countHours (h : Keeps σ τ) : Keeps σ τ.countHours :=
  h.forUpto (fun _ _ h => .ite h (.ite h.setSaf.setSafKept h.setSaf))

theorem Keeps.countDegraded {c : SafCh} (h : Keeps σ τ) : Keeps σ (τ.countDegraded c) :=
  .ite (.ite h.setSaf h) (Keeps.ite h.setSaf h).setChan

theorem Keeps.watchSwitches {c : SafCh} {v : SafView} (h : Keeps σ τ) : Keeps σ (τ.watchSwitches c v) :=
  .ite (Keeps.ite h (.ite h.faultBy h.faultBy.safEvent)).faultBy (.ite h (.ite h.faultBy h.faultBy.safEvent))

theorem Keeps.cycleChecks {c : SafCh} {v : SafView} (h : Keeps σ τ) : Keeps σ (τ.cycleChecks c v) :=
  .ite (Keeps.ite (Keeps.ite ((h.forUpto (fun _ _ h => h.takeInput)).setChan.watchSwitches.setChan.forUpto (fun _ _
      h => h.superviseBrake)).faultBy ((h.forUpto (fun _ _ h => h.takeInput)).setChan.watchSwitches.setChan.forUpto
      (fun _ _ h => h.superviseBrake))).faultBy (.ite ((h.forUpto (fun _ _ h =>
      h.takeInput)).setChan.watchSwitches.setChan.forUpto (fun _ _ h => h.superviseBrake)).faultBy ((h.forUpto (fun
      _ _ h => h.takeInput)).setChan.watchSwitches.setChan.forUpto (fun _ _ h => h.superviseBrake)))).faultBy (.ite
      (Keeps.ite ((h.forUpto (fun _ _ h => h.takeInput)).setChan.watchSwitches.setChan.forUpto (fun _ _ h =>
      h.superviseBrake)).faultBy ((h.forUpto (fun _ _ h => h.takeInput)).setChan.watchSwitches.setChan.forUpto (fun
      _ _ h => h.superviseBrake))).faultBy (.ite ((h.forUpto (fun _ _ h =>
      h.takeInput)).setChan.watchSwitches.setChan.forUpto (fun _ _ h => h.superviseBrake)).faultBy ((h.forUpto (fun
      _ _ h => h.takeInput)).setChan.watchSwitches.setChan.forUpto (fun _ _ h => h.superviseBrake))))

theorem Keeps.safetyCycleEff {c : SafCh} {v : SafView} (h : Keeps σ τ) : Keeps σ (safetyCycleEff c v τ) :=
  .ite h (Keeps.ite (Keeps.ite (.ite (Keeps.ite h.lockChan h).oeRise (Keeps.ite (Keeps.ite h.lockChan h).abortTests
      (.ite h.lockChan h)).setChan) ((Keeps.ite (Keeps.ite h.lockChan h).oeRise (Keeps.ite (Keeps.ite h.lockChan
      h).abortTests (.ite h.lockChan h)).setChan).forUpto (fun _ _ h =>
      h.setSaf))).cycleChecks.setGates.setChan.countDegraded.countHours (Keeps.ite (.ite (Keeps.ite h.lockChan
      h).oeRise (Keeps.ite (Keeps.ite h.lockChan h).abortTests (.ite h.lockChan h)).setChan) ((Keeps.ite (Keeps.ite
      h.lockChan h).oeRise (Keeps.ite (Keeps.ite h.lockChan h).abortTests (.ite h.lockChan h)).setChan).forUpto (fun
      _ _ h => h.setSaf))).cycleChecks.setGates.setChan.countDegraded).safShow

theorem Keeps.switchTestPulseEff {c : SafCh} {k : Fin 8} {fell rose : Bool} (h : Keeps σ τ) :
    Keeps σ (switchTestPulseEff c k fell rose τ) :=
  .ite h (Keeps.ite h.emit.emit h.emit.emit.faultBy).safShow

theorem Keeps.judgePulse {c stp : SafCh} {n contact : Nat} {wentOpen : Bool} (h : Keeps σ τ) :
    Keeps σ (τ.judgePulse c stp n contact wentOpen) :=
  .ite (Keeps.ite h.setChan.setSafKept h.setChan).faultBy (.ite h.setChan.setSafKept h.setChan)

theorem Keeps.safeInputTestPulseEff {stp c : SafCh} {a b : BitVec 16} (h : Keeps σ τ) :
    Keeps σ (safeInputTestPulseEff stp c a b τ) :=
  .ite h (h.forUpto (fun _ _ h => .ite h.judgePulse.judgePulse h)).safShow

theorem Keeps.safOeactRiseEff (h : Keeps σ τ) : Keeps σ (safOeactRiseEff τ) := .ite h h.oeRise.oeRise.safShow

theorem Keeps.endDegraded (h : Keeps σ τ) : Keeps σ τ.endDegraded := by
  unfold State.endDegraded
  split
  · exact h
  · exact .ite h (h.foldl (fun _ _ h => h.setStream)).safEvent

theorem Keeps.takeCopy {lanB : Bool} {m : List Byte} (h : Keeps σ τ) : Keeps σ (τ.takeCopy lanB m) := by
  unfold State.takeCopy
  extract_lets src
  split
  · exact h.addSat
  · exact .ite h.setStream.faultBoth (.ite h.setStream.faultBoth (.ite h.setStream.faultBoth h.setStream.endDegraded))

theorem Keeps.safetyMessageCopyEff (h : Keeps σ τ) : Keeps σ (safetyMessageCopyEff τ) := by
  unfold Machine.safetyMessageCopyEff
  split
  · exact h
  · exact .ite h.setSaf h.setSaf.takeCopy.safShow

theorem Keeps.startDegraded {j : Nat} {lanB : Bool} (h : Keeps σ τ) : Keeps σ (τ.startDegraded j lanB) :=
  .ite h.faultBoth (.ite h.setStream.safEvent h.setStream)

theorem Keeps.copyMissingEff {j : Fin 16} {lanB : Bool} (h : Keeps σ τ) : Keeps σ (copyMissingEff j lanB τ) := by
  unfold Machine.copyMissingEff
  extract_lets v
  split
  · exact h
  · exact (Keeps.ite h.setStream.startDegraded h.setStream).safShow

theorem Keeps.degradedTimerExpiryEff {c : SafCh} (h : Keeps σ τ) : Keeps σ (degradedTimerExpiryEff c τ) :=
  .ite h h.faultBy.safShow

theorem Keeps.fullDegraded (h : Keeps σ τ) : Keeps σ τ.fullDegraded := h.setSaf

theorem Keeps.degradedTimerRestoreEff (h : Keeps σ τ) : Keeps σ (degradedTimerRestoreEff τ) :=
  .ite h h.fullDegraded.safShow

theorem Keeps.streamWatchdogEff {j : Fin 16} (h : Keeps σ τ) : Keeps σ (streamWatchdogEff j τ) :=
  .ite h.setStream.faultBoth.safShow h

theorem Keeps.safetyMessageSendEff {j : Fin 4} (h : Keeps σ τ) : Keeps σ (safetyMessageSendEff j τ) :=
  .ite h (Keeps.ite (h.setSaf.forUpto (fun _ _ h => h.toRiser)) h.setSaf).safShow

theorem Keeps.safSend (h : Keeps σ τ) : Keeps σ τ.safSend := .ite h h.setSaf

theorem Keeps.testEdges {old new : Nat} (h : Keeps σ τ) : Keeps σ (τ.testEdges old new) :=
  h.forUpto (fun _ _ h => .ite (.ite h.setSaf h) (.ite h.endTest h))

theorem Keeps.requestUpdateEff (h : Keeps σ τ) : Keeps σ (requestUpdateEff τ) := by
  unfold Machine.requestUpdateEff
  split
  · exact h
  · exact .ite h.setSaf (.ite h.setSaf.setSaf.testEdges.safShow h.setSaf.setSaf.safEvent.safShow)

theorem Keeps.safLinkTimeoutEff (h : Keeps σ τ) : Keeps σ (safLinkTimeoutEff τ) :=
  .ite h h.setSaf.testEdges.safEvent.safShow

theorem Keeps.brakeTestDelayExpiryEff {k : Fin 8} (h : Keeps σ τ) : Keeps σ (brakeTestDelayExpiryEff k τ) :=
  .ite h h.setSaf.setChan.setChan.safShow

theorem Keeps.testPassed {k : Nat} (h : Keeps σ τ) : Keeps σ (τ.testPassed k) := h.endTest.setSafKept.setSaf

theorem Keeps.brakeTestWindowEndEff {k : Fin 8} (h : Keeps σ τ) : Keeps σ (brakeTestWindowEndEff k τ) :=
  .ite h (Keeps.ite h.testPassed (.ite (Keeps.ite h.endTest.faultBoth h.endTest).faultBoth (.ite h.endTest.faultBoth
      h.endTest))).safShow

theorem Keeps.brakeTestDueEff {k : Fin 8} (h : Keeps σ τ) : Keeps σ (brakeTestDueEff k τ) :=
  .ite h h.setSaf.safEvent.safShow

theorem Keeps.brakeTestOverdueEff {k : Fin 8} (h : Keeps σ τ) : Keeps σ (brakeTestOverdueEff k τ) :=
  .ite h h.faultBoth.safShow

theorem Keeps.adoptSwitches (h : Keeps σ τ) : Keeps σ τ.adoptSwitches := by
  unfold State.adoptSwitches
  split
  · exact .ite h.setSafKept.fullDegraded.checkSwitches h
  · exact h

theorem Keeps.clearLock (h : Keeps σ τ) : Keeps σ τ.clearLock := h.setSafKept.setSaf.safEvent

theorem Keeps.refuseReset {press : Nat} (h : Keeps σ τ) : Keeps σ (τ.refuseReset press) := h.safEvent

theorem Keeps.localResetEff {press : Nat} (h : Keeps σ τ) : Keeps σ (localResetEff press τ) :=
  .ite h (.ite h.refuseReset.safShow (.ite h (.ite h.adoptSwitches.refuseReset.safShow (.ite
      h.adoptSwitches.setSaf.safShow h.adoptSwitches.clearLock.safShow))))

theorem Keeps.islandStartEff {saddr : BitVec 16} {sopt : BitVec 8} (h : Keeps σ τ) :
    Keeps σ (islandStartEff saddr sopt τ) :=
  .ite h (Keeps.ite (.ite h.setSaf.fullDegraded.lockChan.lockChan h.setSaf.fullDegraded) (Keeps.ite
      h.setSaf.fullDegraded.lockChan.lockChan h.setSaf.fullDegraded).faultBoth.safEvent).checkSwitches.safShow

theorem Keeps.islandSelfTestCompleteEff {cause : Nat} (h : Keeps σ τ) : Keeps σ (islandSelfTestCompleteEff cause τ)
    := by
  unfold Machine.islandSelfTestCompleteEff
  refine .ite h ?_
  extract_lets t found
  have h_found : Keeps σ found := h.setSaf
  split
  · exact (Keeps.ite h_found.clearLock h_found.faultBoth.refuseReset).safShow
  · exact (Keeps.ite h_found.safEvent h_found.safEvent.faultBoth).safShow

theorem Keeps.safWarn {b : Bool} (h : Keeps σ τ) : Keeps σ (τ.safWarn b) := .ite h.setSaf.setSafKept h.setSaf

theorem Keeps.safOff (h : Keeps σ τ) : Keeps σ τ.safOff := h.setSaf

theorem Keeps.safReset {sys : Bool} (h : Keeps σ τ) : Keeps σ (τ.safReset sys) := h.setSaf

theorem Keeps.safStepped (h : Keeps σ τ) : Keeps σ τ.safStepped := h.forUpto (fun _ _ h => h.setSaf)

theorem Keeps.paramOk {b : Bool} (h : Keeps σ τ) : Keeps σ (τ.paramOk b) := .ite h h.setF.signalUnit

theorem Keeps.safetySetBody {ws : List Word} {id : Nat} (h : Keeps σ τ) : KeepsEnd σ (safetySetBody ws τ id) := by
  unfold Machine.safetySetBody
  split
  · exact h.rejected
  · exact .ite h.done (.ite h.done (.ite h.setSafKept.safEvent.safShow.accepted (.ite h.setSaf.paramOk.safShow.done
      h.setSaf.paramOk.safShow.accepted)))

theorem Keeps.cfgLoadSafetyParameterSetEff {x : HPort} {p : Part} {d : Desc} (h : Keeps σ τ) :
    Keeps σ (cfgLoadSafetyParameterSetEff x p d τ) :=
  h.cfgLoad (fun _ _ _ h => h.safetySetBody)

/-! ### Vault -/

theorem Keeps.setKey {k : KeySt} (h : Keeps σ τ) : Keeps σ (τ.setKey k) := h.other

theorem Keeps.putSlot {i : Nat} {k : KeySlot} (h : Keeps σ τ) : Keeps σ (τ.putSlot i k) := h.setKey

theorem Keeps.raiseKey {bit : Nat} (h : Keeps σ τ) : Keeps σ (τ.raiseKey bit) := h.raise

theorem Keeps.showSlot {i : Nat} (h : Keeps σ τ) : Keeps σ (τ.showSlot i) := h.setF.setF.setF

theorem Keeps.putStored {i c : Nat} {v : Option StoredKey} (h : Keeps σ τ) : Keeps σ (τ.putStored i c v) := h.setKey

theorem Keeps.storeSlot {i : Nat} (h : Keeps σ τ) : Keeps σ (τ.storeSlot i) := .ite h h.putStored.setF

theorem Keeps.loadSlot {i : Nat} (h : Keeps σ τ) : Keeps σ (τ.loadSlot i) := by
  unfold State.loadSlot
  split
  · exact h.setReg.setReg.setReg.putSlot.showSlot.setF
  · exact .ite h.raiseKey.report h

theorem Keeps.loadKeys (h : Keeps σ τ) : Keeps σ τ.loadKeys :=
  .ite h.setF.report (h.forUpto (fun _ _ h => h.loadSlot))

theorem Keeps.keyReset (h : Keeps σ τ) : Keeps σ τ.keyReset := (h.forUpto (fun _ _ h => .ite h.report h)).setKey

theorem Keeps.keyBlockReset (h : Keeps σ τ) : Keeps σ τ.keyBlockReset := h.forUpto (fun _ _ h => h.putSlot.showSlot)

theorem Keeps.countUse {i : Nat} (h : Keeps σ τ) : Keeps σ (τ.countUse i) :=
  .ite h (.ite h.setReg h.setReg.showSlot.raiseKey.report.keyGone)

theorem Keeps.countFrame {i r dir : Nat} (h : Keeps σ τ) : Keeps σ (τ.countFrame i r dir) :=
  .ite h.setKey.countUse h.setKey

theorem Keeps.eraseSlot {i cause tag : Nat} (h : Keeps σ τ) : Keeps σ (τ.eraseSlot i cause tag) :=
  h.putSlot.setReg.setReg.report.keyGone

theorem Keeps.writeSattr {i : Nat} {v : Word} (h : Keeps σ τ) : Keeps σ (τ.writeSattr i v) :=
  .ite (Keeps.ite h h.badVal).setReg.storeSlot (Keeps.ite (Keeps.ite h
      h.badVal).setReg.eraseSlot.putStored.putStored (Keeps.ite h h.badVal).setReg.eraseSlot).setReg.storeSlot

theorem Keeps.keySlotAttributeWriteEff {x : HPort} {i : Fin 64} {v : Word} (h : Keeps σ τ) :
    Keeps σ (keySlotAttributeWriteEff x i v τ) :=
  h.asWrite h.writeSattr

theorem Keeps.keyFilter {p : Nat} {d : Desc} {body : State → CmdEnd} (h : Keeps σ τ) (hbody : ∀ υ, Keeps σ υ →
    KeepsEnd σ (body υ)) :
    KeepsEnd σ (τ.keyFilter p d body) :=
  .ite h.refuse (hbody _ h)

theorem Keeps.keyAudited {p : Nat} {d : Desc} {body : State → CmdEnd} (h : Keeps σ τ) (hbody : ∀ υ, Keeps σ υ →
    KeepsEnd σ (body υ)) :
    KeepsEnd σ (τ.keyAudited p d body) := by
  unfold State.keyAudited
  extract_lets i
  split
  · next e =>
    exact (Keeps.ite ((h.keyFilter (fun _ h => hbody _ h)).of_done e).audit ((h.keyFilter (fun _ h => hbody _
        h)).of_done e)).done
  · exact h.keyFilter (fun _ h => hbody _ h)

theorem Keeps.stageFails {i : Nat} (h : Keeps σ τ) : Keeps σ (τ.stageFails i) := h.putSlot.showSlot.raiseKey.report

theorem Keeps.keyStageBody {x : HPort} {p : Part} {d : Desc} {id : Nat} (h : Keeps σ τ) :
    KeepsEnd σ (keyStageBody x p d τ id) := by
  unfold Machine.keyStageBody
  refine h.keyAudited (fun u h => ?_)
  refine .ite h.done ?_
  split
  · next e => exact (h.dmaRead.of_eq e).done
  · next e =>
    exact .ite (h.dmaRead.of_eq e).stageFails.done (h.dmaRead.of_eq e).putSlot.showSlot.done

theorem Keeps.keyStageEff {x : HPort} {p : Part} {d : Desc} (h : Keeps σ τ) : Keeps σ (keyStageEff x p d τ) :=
  h.command (fun _ _ h => h.keyStageBody)

theorem Keeps.commitKey {i : Nat} {m : List Byte} (h : Keeps σ τ) : Keeps σ (τ.commitKey i m) :=
  h.putSlot.setReg.showSlot.storeSlot.report.raiseKey

theorem Keeps.keyCommitBody {p : Part} {d : Desc} {id : Nat} (h : Keeps σ τ) : KeepsEnd σ (keyCommitBody p d τ id)
    := by
  unfold Machine.keyCommitBody
  refine h.keyAudited (fun u h => ?_)
  split
  · exact h.done
  · exact h.commitKey.done

theorem Keeps.keyCommitEff {x : HPort} {p : Part} {d : Desc} (h : Keeps σ τ) : Keeps σ (keyCommitEff x p d τ) :=
  h.command (fun _ _ h => h.keyCommitBody)

theorem Keeps.keyOut {x : HPort} {p : Part} {d : Desc} {out : List Byte} (h : Keeps σ τ) :
    KeepsEnd σ (τ.keyOut x p d out) := by
  unfold State.keyOut
  split
  · next e => exact (h.dmaWrite.of_eq e).done
  · next e => exact (h.dmaWrite.of_eq e).done

theorem Keeps.keyIn {x : HPort} {p : Part} {d : Desc} {body : List Byte → State → CmdEnd} (h : Keeps σ τ) (hbody : ∀
    b4 υ, Keeps σ υ → KeepsEnd σ (body b4 υ)) :
    KeepsEnd σ (τ.keyIn x p d body) := by
  unfold State.keyIn
  split
  · next e => exact (h.dmaRead.of_eq e).done
  · next e => exact hbody _ _ (h.dmaRead.of_eq e)

theorem Keeps.keyUseBody {x : HPort} {p : Part} {d : Desc} {kt u0 : Nat} {f : List Byte → List Byte → Option (List
    Byte)} {id : Nat} (h : Keeps σ τ) :
    KeepsEnd σ (keyUseBody x p d kt u0 f τ id) := by
  unfold Machine.keyUseBody
  refine h.keyAudited (fun u h => ?_)
  refine .ite h.done ?_
  split
  · exact h.done
  · refine h.keyIn (fun bs u h => ?_)
    split
    · exact h.done
    · split
      · next e3 => exact (Keeps.ite (h.keyOut.of_done e3).countUse (h.keyOut.of_done e3)).done
      · exact h.keyOut

theorem Keeps.keyOp {x : HPort} {p : Part} {d : Desc} {op : Nat} {lenOk : Bool} {body : State → Nat → CmdEnd} (h :
    Keeps σ τ) (hbody : ∀ υ b6, Keeps σ υ → KeepsEnd σ (body υ b6)) :
    Keeps σ (τ.keyOp x p d op lenOk body) :=
  h.command (fun _ _ h => hbody _ _ h)

theorem Keeps.keyOpMacEff {x : HPort} {p : Part} {d : Desc} (h : Keeps σ τ) : Keeps σ (keyOpMacEff x p d τ) :=
  h.keyOp (fun _ _ h => h.keyUseBody)

theorem Keeps.keyOpVerifyEff {x : HPort} {p : Part} {d : Desc} (h : Keeps σ τ) : Keeps σ (keyOpVerifyEff x p d τ) :=
  h.keyOp (fun _ _ h => h.keyUseBody)

theorem Keeps.keyOpWrapEff {x : HPort} {p : Part} {d : Desc} (h : Keeps σ τ) : Keeps σ (keyOpWrapEff x p d τ) :=
  h.keyOp (fun _ _ h => h.keyUseBody)

theorem Keeps.keyOpUnwrapEff {x : HPort} {p : Part} {d : Desc} (h : Keeps σ τ) : Keeps σ (keyOpUnwrapEff x p d τ) :=
  h.keyOp (fun _ _ h => h.keyUseBody)

theorem Keeps.keyDeriveBody {x : HPort} {p : Part} {d : Desc} {id : Nat} (h : Keeps σ τ) :
    KeepsEnd σ (keyDeriveBody x p d τ id) :=
  h.keyAudited (fun _ h => h.keyIn (fun _ _ h => .ite h.done (.ite h.done h.putSlot.showSlot.keyOut)))

theorem Keeps.keyOpDeriveEff {x : HPort} {p : Part} {d : Desc} (h : Keeps σ τ) : Keeps σ (keyOpDeriveEff x p d τ) :=
  h.keyOp (fun _ _ h => h.keyDeriveBody)

theorem Keeps.keyCheckBody {x : HPort} {p : Part} {d : Desc} {id : Nat} (h : Keeps σ τ) :
    KeepsEnd σ (keyCheckBody x p d τ id) := by
  unfold Machine.keyCheckBody
  refine h.keyFilter (fun u h => ?_)
  split
  · exact h.done
  · exact h.keyOut

theorem Keeps.keyOpCheckEff {x : HPort} {p : Part} {d : Desc} (h : Keeps σ τ) : Keeps σ (keyOpCheckEff x p d τ) :=
  h.keyOp (fun _ _ h => h.keyCheckBody)

theorem Keeps.keyStatusBody {x : HPort} {p : Part} {d : Desc} {id : Nat} (h : Keeps σ τ) :
    KeepsEnd σ (keyStatusBody x p d τ id) :=
  h.keyFilter (fun _ h => h.keyOut)

theorem Keeps.keyOpStatusEff {x : HPort} {p : Part} {d : Desc} (h : Keeps σ τ) : Keeps σ (keyOpStatusEff x p d τ) :=
  h.keyOp (fun _ _ h => h.keyStatusBody)

theorem Keeps.keyEraseBody {p : Part} {d : Desc} {id : Nat} (h : Keeps σ τ) : KeepsEnd σ (keyEraseBody p d τ id) :=
  h.keyAudited (fun _ h => h.eraseSlot.setReg.storeSlot.done)

theorem Keeps.keyOpEraseEff {x : HPort} {p : Part} {d : Desc} (h : Keeps σ τ) : Keeps σ (keyOpEraseEff x p d τ) :=
  h.keyOp (fun _ _ h => h.keyEraseBody)

/-! ### Riser -/

theorem Keeps.sendRiser {r : Nat} {data : List Byte} (h : Keeps σ τ) : Keeps σ (τ.sendRiser r data) :=
  .ite h.countRsr.countRsr.emit h.countRsr.countRsr.setRsr.emit.countFrame

theorem Keeps.newRound {r : Nat} (h : Keeps σ τ) : Keeps σ (τ.newRound r) := h.forUpto (fun _ _ h => h.setRsr)

theorem Keeps.nextClass {r : Nat} (h : Keeps σ τ) : Keeps σ (τ.nextClass r).2 := by
  unfold State.nextClass
  split
  · exact h
  · dsimp only
    generalize [4, 3, 2, 1, 0].filter (τ.classReady r) = low
    cases low with
    | nil => exact h
    | cons c cs =>
      dsimp only
      split
      · exact .ite h h.newRound
      · exact (ite h h.newRound).setRsr

theorem Keeps.riserFrameTransmitEff {r : Fin 4} {busy : Bool} (h : Keeps σ τ) :
    Keeps σ (riserFrameTransmitEff r busy τ) := by
  unfold Machine.riserFrameTransmitEff
  refine .ite h ?_
  split
  · exact h
  · next e =>
    refine .ite h ?_
    split
    · next e2 => exact (h.nextClass.of_eq e).takePkt.of_eq e2
    · next e2 =>
      exact (Keeps.ite ((h.nextClass.of_eq e).takePkt.of_eq e2).countRsr ((h.nextClass.of_eq e).takePkt.of_eq
          e2)).sendRiser

theorem Keeps.transmitUnderrunEff {r : Fin 4} {c : Fin 8} (h : Keeps σ τ) : Keeps σ (transmitUnderrunEff r c τ) := by
  unfold Machine.transmitUnderrunEff
  split
  · exact h
  · refine .ite h ?_
    split
    · next e2 => exact h.takePkt.of_eq e2
    · next e2 => exact (h.takePkt.of_eq e2).emit.setF.countRsr.report.raiseRsr

theorem Keeps.flushLan {l : Nat} (h : Keeps σ τ) : Keeps σ (τ.flushLan l) := h.setRsr

theorem Keeps.topologyChange {l : Nat} (h : Keeps σ τ) : Keeps σ (τ.topologyChange l) := h.setF.flushLan

theorem Keeps.ringChange {l : Nat} {isOpen : Bool} (h : Keeps σ τ) : Keeps σ (τ.ringChange l isOpen) :=
  .ite h (Keeps.ite h.setF.topologyChange.setF.setF h.setF.topologyChange.setF.setF.useFree.setF).report.raiseRsr

theorem Keeps.mrpRingOpenDetectedEff {l : Fin 2} (h : Keeps σ τ) : Keeps σ (mrpRingOpenDetectedEff l τ) :=
  .ite h h.ringChange

theorem Keeps.mrpFrame {l : Nat} {data : List Byte} (h : Keeps σ τ) : Keeps σ (τ.mrpFrame l data) :=
  .ite h (.ite (.ite (.ite h.ringChange h) h.ringChange) (.ite h.topologyChange h))

theorem Keeps.prpTake {r : Nat} {data : List Byte} (h : Keeps σ τ) : Keeps σ (τ.prpTake r data).2 := by
  unfold State.prpTake
  split
  · exact h
  · extract_lets now live body
    split
    · exact h.countRsr
    · exact h.setRsr

theorem Keeps.riserToHost {r : Nat} {data : List Byte} (h : Keeps σ τ) : Keeps σ (τ.riserToHost r data) := by
  unfold State.riserToHost
  split
  · next e => exact h.prpTake.of_eq e
  · next e => exact (h.prpTake.of_eq e).countRsr.toHost

theorem Keeps.riserToIsland {r : Nat} {m : List Byte} (h : Keeps σ τ) : Keeps σ (τ.riserToIsland r m) :=
  .ite h.countRsr.setSaf h

theorem Keeps.copyFrame {r : Nat} {data : List Byte} (h : Keeps σ τ) : Keeps σ (τ.copyFrame r data) := by
  unfold State.copyFrame
  refine .ite h.mrpFrame (.ite h (.ite h.riserToIsland (.ite (.ite h.countRsr.enqueue h) (.ite ?_ (.ite
      h.riserToHost h.countRsr)))))
  split
  · next e => exact h.prpTake.of_eq e
  · next e => exact (h.prpTake.of_eq e).countRsr.enqueue

theorem Keeps.forward {r : Nat} {data : List Byte} {idle : Bool} (h : Keeps σ τ) : Keeps σ (τ.forward r data idle) :=
  .ite h (.ite h.sendRiser h.toRiser)

theorem Keeps.takePause {r : Nat} {data : List Byte} (h : Keeps σ τ) : Keeps σ (τ.takePause r data) :=
  h.setF.setF.countRsr.raiseRsr

theorem Keeps.takeAnnounce {r : Nat} {data : List Byte} (h : Keeps σ τ) : Keeps σ (τ.takeAnnounce r data) :=
  .ite h (.ite h (.ite h.setRsr h.setRsr.report))

theorem Keeps.macsecCheck {r : Nat} {data : List Byte} {sec : Option (Bool × Nat × Bool)} (h : Keeps σ τ) :
    Keeps σ (τ.macsecCheck r data sec).2 := by
  unfold State.macsecCheck
  split
  · exact h
  · extract_lets bad
    split
    · exact h.countRsr.macsecFail
    · extract_lets key next
      split
      · exact h.countRsr.macsecFail
      · exact h.setRsr.countFrame

theorem Keeps.riserFrameReceivedEff {r : Fin 4} {data : List Byte} {m : RiserRx} (h : Keeps σ τ) :
    Keeps σ (riserFrameReceivedEff r data m τ) := by
  unfold Machine.riserFrameReceivedEff
  refine .ite h (.ite (.ite h.countRsr (.ite h.emit.countRsr h)) ?_)
  extract_lets s
  have h_s : Keeps σ s := h.countRsr
  split
  · next e => exact .ite (h_s.macsecCheck.of_eq e).emit.countRsr (h_s.macsecCheck.of_eq e)
  · next e =>
    exact .ite (h_s.macsecCheck.of_eq e).takePause (.ite (h_s.macsecCheck.of_eq e).takeAnnounce (.ite
        (h_s.macsecCheck.of_eq e).countRsr (.ite (h_s.macsecCheck.of_eq e).countRsr (h_s.macsecCheck.of_eq
        e).learn.forward.copyFrame)))

theorem Keeps.pauseExpiryEff {r : Fin 4} (h : Keeps σ τ) : Keeps σ (pauseExpiryEff r τ) := h.setF.setF

theorem Keeps.prpSupervisionSendEff (h : Keeps σ τ) : Keeps σ (prpSupervisionSendEff τ) := .ite h h.setRsr.sendOwn

theorem Keeps.publicationSendEff (h : Keeps σ τ) : Keeps σ (publicationSendEff τ) :=
  .ite h (h.forUpto (fun _ _ h => h.sendOwn))

theorem Keeps.publicationLateCheckEff (h : Keeps σ τ) : Keeps σ (publicationLateCheckEff τ) :=
  .ite h h.report.raiseRsr

theorem Keeps.syncTransmitEff (h : Keeps σ τ) : Keeps σ (syncTransmitEff τ) := h.forUpto (fun _ _ h => .ite h.emit h)

theorem Keeps.showPort {r was : Nat} (h : Keeps σ τ) : Keeps σ (τ.showPort r was) := .ite h h.emit

theorem Keeps.opticReports {r : Nat} {los txFlt : Bool} (h : Keeps σ τ) : Keeps σ (τ.opticReports r los txFlt) :=
  h.setF.setF.showPort

theorem Keeps.riserLinkUpEff {r : Fin 4} {pre : Bool} (h : Keeps σ τ) : Keeps σ (riserLinkUpEff r pre τ) :=
  .ite h (.ite h.setF.setF.showPort.opticReports.report.raiseRsr.report
      h.setF.setF.showPort.opticReports.report.raiseRsr)

theorem Keeps.flushPort {r : Nat} (h : Keeps σ τ) : Keeps σ (τ.flushPort r) :=
  h.forUpto (fun _ _ h => h.flushNow.countRsr)

theorem Keeps.riserLinkFalls {r : Nat} (h : Keeps σ τ) : Keeps σ (τ.riserLinkFalls r) :=
  .ite h (.ite h.flushPort.setF.setF.setF.setF.showPort.report.raiseRsr
      h.flushPort.setF.setF.setF.setF.showPort.report.raiseRsr.ringChange)

theorem Keeps.riserLinkDownEff {r : Fin 4} {los txFlt : Bool} (h : Keeps σ τ) :
    Keeps σ (riserLinkDownEff r los txFlt τ) :=
  .ite h h.riserLinkFalls.opticReports

theorem Keeps.judgeOptic {r : Nat} (h : Keeps σ τ) : Keeps σ (τ.judgeOptic r) := by
  unfold State.judgeOptic
  split
  · exact .ite h.riserLinkFalls.report h
  · exact h

theorem Keeps.opticInsertedEff {r : Fin 4} {cls nm : Nat} {los txFlt : Bool} (h : Keeps σ τ) :
    Keeps σ (opticInsertedEff r cls nm los txFlt τ) :=
  .ite h h.setF.opticReports.setRsr.judgeOptic

theorem Keeps.rsrCntlReadEff {x : HPort} {k : Fin 12} {r : Fin 4} (h : Keeps σ τ) : Keeps σ (rsrCntlReadEff x k r τ)
    :=
  .ite h.emit h.showRead.setReg.setRsr

theorem Keeps.riserCfgBody {ws : List Word} {id : Nat} (h : Keeps σ τ) : KeepsEnd σ (riserCfgBody ws τ id) := by
  unfold Machine.riserCfgBody
  split
  · exact h.rejected
  · exact h.setRsr.accepted

theorem Keeps.cfgLoadRiserConfigurationEff {x : HPort} {p : Part} {d : Desc} (h : Keeps σ τ) :
    Keeps σ (cfgLoadRiserConfigurationEff x p d τ) :=
  h.cfgLoad (fun _ _ _ h => h.riserCfgBody)

theorem Keeps.applyRiser {ws : List Word} (h : Keeps σ τ) : Keeps σ (τ.applyRiser ws) :=
  ((((h.forUpto (fun _ _ h => .ite h h.riserLinkFalls)).forUpto (fun _ _ h => .ite h h.setF.setF.setF)).foldl (fun _
      _ h => h.setReg)).forUpto (fun _ _ h => .ite (.ite h h.emit) (Keeps.ite h h.emit).judgeOptic)).setF

theorem Keeps.riserBoundary (h : Keeps σ τ) : Keeps σ τ.riserBoundary := by
  unfold State.riserBoundary
  split
  · exact h
  · exact h.setRsr.applyRiser

theorem Keeps.startRiser (h : Keeps σ τ) : Keeps σ τ.startRiser := by
  unfold State.startRiser
  split
  · exact h.applyRiser
  · exact h.setF.report

theorem Keeps.rsrResetIn (h : Keeps σ τ) : Keeps σ τ.rsrResetIn :=
  (h.forUpto (fun _ _ h => h.riserLinkFalls)).setRsr.flushNow.flushNow.flushNow

theorem Keeps.ethTxBody {x : HPort} {p : Part} {d : Desc} {id : Nat} (h : Keeps σ τ) :
    KeepsEnd σ (ethTxBody x p d τ id) := by
  unfold Machine.ethTxBody
  refine .ite ?_ (.ite h.refuse (.ite h.refuse ?_))
  · split
    · next e => exact (h.dmaRead.of_eq e).done
    · next e => exact (h.dmaRead.of_eq e).stage
  · split
    · next e => exact (h.dmaRead.of_eq e).done
    · next e =>
      exact .ite (h.dmaRead.of_eq e).refuse (.ite (h.dmaRead.of_eq e).done (KeepsEnd.audited (h.dmaRead.of_eq
          e).stage))

theorem Keeps.ethTxEff {x : HPort} {p : Part} {d : Desc} (h : Keeps σ τ) : Keeps σ (ethTxEff x p d τ) :=
  h.command (fun _ _ h => h.ethTxBody)

/-! ### Twin -/

theorem Keeps.setTwn {t : TwnSt} (h : Keeps σ τ) : Keeps σ (τ.setTwn t) := h.other

theorem Keeps.raiseTwn {bit : Nat} (h : Keeps σ τ) : Keeps σ (τ.raiseTwn bit) := h.raise

theorem Keeps.setRole {r : Nat} (h : Keeps σ τ) : Keeps σ (τ.setRole r) := h.setF.raiseTwn

theorem Keeps.setAct {b : Bool} (h : Keeps σ τ) : Keeps σ (τ.setAct b) := h.setF.emit

theorem Keeps.healthChange {off : Nat} {w : Word} (h : Keeps σ τ) : Keeps σ (τ.healthChange off w) :=
  .ite h.setReg h.setReg.raiseTwn.report

theorem Keeps.takeNote {n : PeerNote} (h : Keeps σ τ) : Keeps σ (τ.takeNote n) :=
  h.setTwn.setF.setReg.setReg.setF.healthChange

theorem Keeps.resyncStart (h : Keeps σ τ) : Keeps σ τ.resyncStart := h.setF.setTwn

theorem Keeps.recordMissed {reason : Nat} (h : Keeps σ τ) : Keeps σ (τ.recordMissed reason) :=
  h.addSat.report.setTwn.resyncStart

theorem Keeps.sendRecord (h : Keeps σ τ) : Keeps σ τ.sendRecord :=
  .ite h (Keeps.ite h.addSat.emit.addSat h.addSat.emit).setTwn

theorem Keeps.applyItem {item : RecItem} (h : Keeps σ τ) : Keeps σ (τ.applyItem item) := by
  unfold State.applyItem
  split
  · exact h.setForce
  · exact h.setF.setTask
  · exact h.setSlot.setReg.setReg
  · exact (h.forUpto (fun _ _ h => h.setMtr)).setMtr
  · exact h.setMtr
  · exact h
  · exact h
  · exact h
  · exact h
  · exact h

theorem Keeps.coverSlice {r : TwinRec} (h : Keeps σ τ) : Keeps σ (τ.coverSlice r) :=
  .ite h.setTwn.setF.report h.setTwn

theorem Keeps.applyRecord {r : TwinRec} (h : Keeps σ τ) : Keeps σ (τ.applyRecord r) :=
  (h.setTwn.other.foldl (fun _ _ h => h.applyItem)).setReg.setF.setF.other.addSat.coverSlice

theorem Keeps.compareRecord {a b : TwinRec} (h : Keeps σ τ) : Keeps σ (τ.compareRecord a b) := by
  unfold State.compareRecord
  split
  · exact h.setTwn.addSat.raiseTwn.report
  · exact h.setTwn

theorem Keeps.takeHeld (h : Keeps σ τ) : Keeps σ τ.takeHeld := by
  unfold State.takeHeld
  split
  · exact h
  · refine Keeps.applyRecord ?_
    split
    · exact .ite h.setTwn.compareRecord h.setTwn
    · exact h.setTwn

theorem Keeps.applyHeld (h : Keeps σ τ) : Keeps σ τ.applyHeld := h.setTwn.foldl (fun _ _ h => h.applyRecord)

theorem Keeps.shadowTake (h : Keeps σ τ) : Keeps σ τ.shadowTake := by
  unfold State.shadowTake
  split
  · exact h
  · refine h.foldl (fun u i h => ?_)
    split
    · exact h.setTwn
    · exact h.applyItem
    · exact h

theorem Keeps.shadowImage (h : Keeps σ τ) : Keeps σ τ.shadowImage := h.other

theorem Keeps.twinFrame (h : Keeps σ τ) : Keeps σ τ.twinFrame := .ite h.setTwn.recordMissed h.setTwn

theorem Keeps.twinCfgApply (h : Keeps σ τ) : Keeps σ τ.twinCfgApply := by
  unfold State.twinCfgApply
  split
  · exact h
  · exact h.setReg.setTwn

theorem Keeps.twinPublish (h : Keeps σ τ) : Keeps σ τ.twinPublish :=
  .ite h (.ite (Keeps.ite h h.takeHeld).healthChange.setTwn.sendRecord (.ite (Keeps.ite h
      h.takeHeld).healthChange.setTwn.emit (Keeps.ite h h.takeHeld).healthChange.setTwn))

theorem Keeps.frameRecordReceivedEff {r : TwinRec} (h : Keeps σ τ) : Keeps σ (frameRecordReceivedEff r τ) :=
  .ite h (.ite h.setTwn.recordMissed (.ite h.setTwn.takeNote.setTwn.recordMissed (.ite
      h.setTwn.takeNote.setTwn.recordMissed h.setTwn.takeNote.setTwn.setTwn)))

theorem Keeps.returnRecordReceivedEff {n : PeerNote} (h : Keeps σ τ) : Keeps σ (returnRecordReceivedEff n τ) :=
  .ite h h.takeNote

theorem Keeps.twinLinkUpEff {cap0 cap1 : Word} (h : Keeps σ τ) : Keeps σ (twinLinkUpEff cap0 cap1 τ) :=
  .ite h (.ite (.ite h.setF.setTwn.report h.setF.setTwn) (Keeps.ite h.setF.setTwn.report h.setF.setTwn).resyncStart)

theorem Keeps.twinLinkDownEff (h : Keeps σ τ) : Keeps σ (twinLinkDownEff τ) := h.setF.setF.setF

theorem Keeps.configSignatureRecomputeEff (h : Keeps σ τ) : Keeps σ (configSignatureRecomputeEff τ) := h.setReg

theorem Keeps.claimEff (h : Keeps σ τ) : Keeps σ (claimEff τ) := .ite h.setTwn.setRole.setAct h

theorem Keeps.withdraw (h : Keeps σ τ) : Keeps σ τ.withdraw := h.setTwn.setRole.setAct

theorem Keeps.epochEntries (h : Keeps σ τ) : Keeps σ τ.epochEntries :=
  h.forUpto (fun _ _ h => h.eventEntry.eventEntry)

theorem Keeps.takeInputs (h : Keeps σ τ) : Keeps σ τ.takeInputs := h.other

theorem Keeps.takeoverPublish (h : Keeps σ τ) : Keeps σ τ.takeoverPublish := .ite h.publish.other h

theorem Keeps.enterActive (h : Keeps σ τ) : Keeps σ τ.enterActive :=
  ((Keeps.ite h.applyHeld.takeInputs h.applyHeld).setTwn.setF.setRole.report.epochEntries.forUpto (fun _ _ h =>
      h.injEnd)).capsEnd.exchangeTakeover.seedPower.dspTakeover.takeoverPublish

theorem Keeps.confirmWindowEndEff (h : Keeps σ τ) : Keeps σ (confirmWindowEndEff τ) := .ite h.enterActive h

theorem Keeps.contention {us : Nat} (h : Keeps σ τ) : Keeps σ (τ.contention us) := h.report

theorem Keeps.peerActRiseEff (h : Keeps σ τ) : Keeps σ (peerActRiseEff τ) :=
  .ite h.setF (.ite h.setF (.ite h.setF.contention.addSat (.ite h.setF.contention.addSat.raiseTwn.withdraw
      h.setF.contention.addSat.raiseTwn.setTwn)))

theorem Keeps.contentionWithdrawEff (h : Keeps σ τ) : Keeps σ (contentionWithdrawEff τ) := .ite h.withdraw h

theorem Keeps.activeContentionTimeoutEff (h : Keeps σ τ) : Keeps σ (activeContentionTimeoutEff τ) :=
  .ite h.setTwn.raiseTwn h

theorem Keeps.peerActFallEff {us : Nat} (h : Keeps σ τ) : Keeps σ (peerActFallEff us τ) :=
  .ite h.setF.setTwn (.ite h.setF.setTwn.contention h.setF)

theorem Keeps.drop {cause : Nat} (h : Keeps σ τ) : Keeps σ (τ.drop cause) :=
  h.setF.setAct.setRole.report.report.setTwn.other.resyncStart.legacyStandby

theorem Keeps.selfCause {cause : Nat} (h : Keeps σ τ) : Keeps σ (τ.selfCause cause) :=
  .ite (Keeps.ite h.setTwn h).drop (.ite (Keeps.ite h.setTwn h).withdraw (.ite h.setTwn h))

theorem Keeps.dropActEff {cause : Fin 8} (h : Keeps σ τ) : Keeps σ (dropActEff cause τ) := by
  unfold Machine.dropActEff
  split
  · exact .ite h.selfCause h
  · exact .ite h.selfCause h
  · exact h
  · exact h
  · exact h.selfCause

theorem Keeps.yield (h : Keeps σ τ) : Keeps σ τ.yield := .ite h (.ite h.setTwn h.raiseTwn.report)

theorem Keeps.yieldEff {x : HPort} (h : Keeps σ τ) : Keeps σ (yieldEff x τ) := .ite h h.yield

theorem Keeps.yieldDrop (h : Keeps σ τ) : Keeps σ τ.yieldDrop := .ite h.drop h

theorem Keeps.twinCfgBody {ws : List Word} {id : Nat} (h : Keeps σ τ) : KeepsEnd σ (twinCfgBody ws τ id) :=
  .ite h.setTwn.accepted h.rejected

theorem Keeps.cfgLoadTwinConfigurationEff {x : HPort} {p : Part} {d : Desc} (h : Keeps σ τ) :
    Keeps σ (cfgLoadTwinConfigurationEff x p d τ) :=
  h.cfgLoad (fun _ _ _ h => h.twinCfgBody)

/-! ### Update -/

theorem Keeps.setUpd {u0 : UpdSt} (h : Keeps σ τ) : Keeps σ (τ.setUpd u0) := h.other

theorem Keeps.raiseUpd {bit : Nat} (h : Keeps σ τ) : Keeps σ (τ.raiseUpd bit) := h.raise

theorem Keeps.setImgSlot {j : Nat} {v : ImgSlot} (h : Keeps σ τ) : Keeps σ (τ.setImgSlot j v) := h.setUpd

theorem Keeps.verifyFailed {chunk : Nat} {ver : Word} {kind : Nat} (h : Keeps σ τ) :
    Keeps σ (τ.verifyFailed chunk ver kind) :=
  h.raiseUpd.report

theorem Keeps.sendChain {data : List Byte} (h : Keeps σ τ) : Keeps σ (τ.sendChain data) := h.sendOwn

theorem Keeps.sendFrags {u0 : UpdSend} {op idx : Nat} {d : List Byte} (h : Keeps σ τ) :
    Keeps σ (τ.sendFrags u0 op idx d) :=
  h.forUpto (fun _ _ h => h.sendChain)

theorem Keeps.pump {fuel : Nat} (h : Keeps σ τ) : Keeps σ (τ.pump fuel) := by
  induction fuel generalizing τ with
  | zero =>
    rw [State.pump]
    exact h
  | succ n ih =>
    rw [State.pump]
    split
    · exact h
    · refine .ite h ?_
      split
      · exact h
      · exact ih h.sendFrags.setUpd

theorem Keeps.startSend {slot pos origin : Nat} {ver : Word} {fwd : Bool} {table : List Word} (h : Keeps σ τ) :
    Keeps σ (τ.startSend slot pos origin ver fwd table) :=
  h.setUpd.pump

theorem Keeps.endFlow (h : Keeps σ τ) : Keeps σ τ.endFlow := h.setUpd

theorem Keeps.serveNext (h : Keeps σ τ) : Keeps σ τ.serveNext := by
  unfold State.serveNext
  split
  · exact h
  · exact .ite h.setUpd.startSend h.setUpd

theorem Keeps.afterSend {u0 : UpdSend} {served : Bool} (h : Keeps σ τ) : Keeps σ (τ.afterSend u0 served) := by
  unfold State.afterSend
  refine .ite (Keeps.ite h.setF h).setUpd.serveNext (.ite h.endFlow.serveNext ?_)
  split
  · exact h.startSend
  · exact h.endFlow.serveNext

theorem Keeps.sendDone (h : Keeps σ τ) : Keeps σ τ.sendDone := by
  unfold State.sendDone
  split
  · exact h
  · exact .ite h.afterSend h

theorem Keeps.silence (h : Keeps σ τ) : Keeps σ τ.silence := by
  unfold State.silence
  split
  · exact h
  · exact h.setF.raiseUpd.report.afterSend

theorem Keeps.hopTimeoutEff (h : Keeps σ τ) : Keeps σ (hopTimeoutEff τ) := by
  unfold Machine.hopTimeoutEff
  split
  · exact h
  · exact .ite h h.silence

theorem Keeps.putPart {ver : Word} {p : Nat} {d : List Byte} (h : Keeps σ τ) : Keeps σ (τ.putPart ver p d) := h.setUpd

theorem Keeps.acceptManifest {m : List Byte} {up origin : Nat} {fwd : Bool} (h : Keeps σ τ) :
    Keeps σ (τ.acceptManifest m up origin fwd) := by
  unfold State.acceptManifest
  extract_lets j t t2 tab t3
  have h_t2 : Keeps σ t2 := h.setImgSlot
  have h_tab : Keeps σ tab := h_t2.report
  split
  · exact h_tab.setUpd
  · split
    · exact h_tab.setUpd
    · exact h_tab.setUpd.setUpd.startSend

theorem Keeps.flashFailed (h : Keeps σ τ) : Keeps σ τ.flashFailed := h.setImgSlot

theorem Keeps.writeChunk {c : Nat} {d : List Byte} (h : Keeps σ τ) : Keeps σ (τ.writeChunk c d) :=
  (Keeps.ite h.setImgSlot.setImgSlot.raiseUpd.report h.setImgSlot).pump

theorem Keeps.cancelFlow {ver : Word} (h : Keeps σ τ) : Keeps σ (τ.cancelFlow ver) := by
  unfold State.cancelFlow
  refine (Keeps.endFlow ?_).setUpd.raiseUpd.report
  split
  · exact h.sendChain
  · exact h

theorem Keeps.fwEnd {ver : Word} {status : Nat} (h : Keeps σ τ) : KeepsEnd σ (τ.fwEnd ver status) := h.done

theorem Keeps.operatorOk {m : List Byte} (h : Keeps σ τ) : Keeps σ (τ.operatorOk m).2 := by
  unfold State.operatorOk
  extract_lets i
  split
  · exact h
  · split
    · exact h
    · exact h.countUse

/-- The check of a complete manifest reports a wrong signature and uses a key, and does no more (R627). -/
theorem Keeps.mfCheck {m : List Byte} {ver : Word} (h : Keeps σ τ) {υ : State}
    (e : τ.mfCheck m ver = .good υ ∨ τ.mfCheck m ver = .signature υ) : Keeps σ υ := by
  unfold State.mfCheck at e
  split at e
  · simp at e
  · split at e
    · simp only [reduceCtorEq, false_or, MfCheck.signature.injEq] at e
      exact e ▸ h.verifyFailed
    · split at e
      · simp only [reduceCtorEq, or_false, MfCheck.good.injEq] at e
        exact e ▸ h
      · split at e
        · next e' =>
          simp only [reduceCtorEq, or_false, MfCheck.good.injEq] at e
          exact e ▸ h.operatorOk.of_eq e'
        · next e' =>
          simp only [reduceCtorEq, false_or, MfCheck.signature.injEq] at e
          exact e ▸ (h.operatorOk.of_eq e').verifyFailed

theorem Keeps.fwManifest {flash : Bool} {ver : Word} {p : Nat} {bs : List Byte} (h : Keeps σ τ) :
    KeepsEnd σ (fwManifest flash ver p bs τ) := by
  unfold Machine.fwManifest
  extract_lets p0 t
  have h_t : Keeps σ t := h.putPart
  refine .ite h.done ?_
  split
  · exact .ite h_t.other.done h_t.fwEnd
  · split
    · exact h_t.other.done
    · next e => exact (h_t.mfCheck (.inr e)).other.fwEnd
    · next e => exact .ite (h_t.mfCheck (.inl e)).acceptManifest.fwEnd (h_t.mfCheck (.inl e)).flashFailed.fwEnd

theorem Keeps.fwData {flash : Bool} {ver : Word} {c : Nat} {bs : List Byte} (h : Keeps σ τ) :
    KeepsEnd σ (fwData flash ver c bs τ) :=
  .ite h.fwEnd (.ite h.verifyFailed.fwEnd (.ite h.flashFailed.fwEnd h.writeChunk.fwEnd))

theorem Keeps.fwBody {x : HPort} {p : Part} {d : Desc} {flash : Bool} {id : Nat} (h : Keeps σ τ) :
    KeepsEnd σ (fwBody x p d flash τ id) := by
  unfold Machine.fwBody
  refine .ite h.done (.ite h.fwEnd (.ite h.fwEnd ?_))
  split
  · next e => exact (h.dmaRead.of_eq e).done
  · next e =>
    split
    · next e2 => exact ((h.dmaRead.of_eq e).passThrough.of_eq e2).done
    · next e2 =>
      exact .ite (Keeps.ite ((h.dmaRead.of_eq e).passThrough.of_eq e2).cancelFlow ((h.dmaRead.of_eq
          e).passThrough.of_eq e2)).fwManifest (Keeps.ite ((h.dmaRead.of_eq e).passThrough.of_eq e2).cancelFlow
          ((h.dmaRead.of_eq e).passThrough.of_eq e2)).fwData

theorem Keeps.fwChunk {x : HPort} {p : Part} {d : Desc} {flash sel : Bool} (h : Keeps σ τ) :
    Keeps σ (τ.fwChunk x p d flash sel) :=
  h.command (fun _ _ h => h.fwBody)

theorem Keeps.fwChunkManifestEff {x : HPort} {p : Part} {d : Desc} {flash : Bool} (h : Keeps σ τ) :
    Keeps σ (fwChunkManifestEff x p d flash τ) :=
  h.fwChunk

theorem Keeps.fwChunkEff {x : HPort} {p : Part} {d : Desc} {flash : Bool} (h : Keeps σ τ) :
    Keeps σ (fwChunkEff x p d flash τ) :=
  h.fwChunk

theorem Keeps.fwChunkCancelEff {x : HPort} {p : Part} {d : Desc} {flash : Bool} (h : Keeps σ τ) :
    Keeps σ (fwChunkCancelEff x p d flash τ) :=
  h.fwChunk

theorem Keeps.chainBody {len : Nat} {ws : List Word} {id : Nat} (h : Keeps σ τ) : KeepsEnd σ (chainBody len ws τ id)
    := by
  unfold Machine.chainBody
  split
  · exact h.rejected
  · exact h.setUpd.accepted

theorem Keeps.cfgLoadChainTableEff {x : HPort} {p : Part} {d : Desc} (h : Keeps σ τ) :
    Keeps σ (cfgLoadChainTableEff x p d τ) :=
  h.cfgLoad (fun _ _ _ h => h.chainBody)

theorem Keeps.answerChain {c : ChainIn} {op reason : Nat} (h : Keeps σ τ) : Keeps σ (τ.answerChain c op reason) :=
  h.sendChain

theorem Keeps.takeChain {op : Nat} {body : ChainIn → State → State} (h : Keeps σ τ) (hbody : ∀ b4 υ, Keeps σ υ →
    Keeps σ (body b4 υ)) :
    Keeps σ (τ.takeChain op body) := by
  unfold State.takeChain
  refine .ite h ?_
  split
  · exact h
  · refine .ite h ?_
    split
    · next e2 => exact .ite (h.takePkt.of_eq e2).answerChain (h.takePkt.of_eq e2)
    · next e2 =>
      exact .ite (h.takePkt.of_eq e2).answerChain.report (hbody _ _ (h.takePkt.of_eq e2))

theorem Keeps.cellPoisonedEff {q : Fin 1024} {pos cell : Nat} {begun : Bool} (h : Keeps σ τ) :
    Keeps σ (cellPoisonedEff q pos cell begun τ) := by
  unfold Machine.cellPoisonedEff
  split
  · exact h
  · exact .ite h.dropPoisoned.answerChain h.dropPoisoned

theorem Keeps.putFrag {c : ChainIn} (h : Keeps σ τ) : Keeps σ (τ.putFrag c) := h.setUpd

theorem Keeps.dropFrags {c : ChainIn} (h : Keeps σ τ) : Keeps σ (τ.dropFrags c) := h.setUpd

theorem Keeps.chainManifest {c : ChainIn} {m : List Byte} {flash : Bool} (h : Keeps σ τ) :
    Keeps σ (τ.chainManifest c m flash) := by
  unfold State.chainManifest
  split
  · exact h.other.answerChain
  · next e => exact (h.mfCheck (.inr e)).other.answerChain
  · next e =>
    exact .ite (h.mfCheck (.inl e)).answerChain.acceptManifest (h.mfCheck (.inl e)).flashFailed.answerChain

theorem Keeps.chainMpartEff {flash : Bool} (h : Keeps σ τ) : Keeps σ (chainMpartEff flash τ) := by
  unfold Machine.chainMpartEff
  refine h.takeChain (fun c u h => ?_)
  refine .ite h.answerChain (.ite h.answerChain ?_)
  extract_lets t
  have h_t : Keeps σ t := h.putFrag
  split
  · exact h_t
  · extract_lets t2
    have h_t2 : Keeps σ t2 := h_t.dropFrags.putPart
    split
    · exact h_t2.answerChain
    · exact h_t2.chainManifest

theorem Keeps.chainChunk {c : ChainIn} {d : List Byte} {flash : Bool} (h : Keeps σ τ) :
    Keeps σ (τ.chainChunk c d flash) :=
  .ite h.verifyFailed.answerChain (.ite h.flashFailed.answerChain h.answerChain.writeChunk)

theorem Keeps.chainDataEff {flash : Bool} (h : Keeps σ τ) : Keeps σ (chainDataEff flash τ) := by
  unfold Machine.chainDataEff
  refine h.takeChain (fun c u h => ?_)
  refine .ite h.answerChain (.ite (.ite h h.answerChain) ?_)
  extract_lets t
  have h_t : Keeps σ t := h.putFrag
  split
  · exact h_t
  · exact h_t.dropFrags.chainChunk

theorem Keeps.chainAckEff (h : Keeps σ τ) : Keeps σ (chainAckEff τ) := by
  unfold Machine.chainAckEff
  -- the statement for any test of the sender in the place of `fromReceiver`, so that the kernel does not evaluate that one
  generalize fromReceiver = own
  revert own
  refine id fun own => ?_
  refine h.takeChain fun c u h => ?_
  split
  · exact h
  · split
    · exact h
    · exact h.setUpd.pump.sendDone

theorem Keeps.chainNakEff (h : Keeps σ τ) : Keeps σ (chainNakEff τ) := by
  unfold Machine.chainNakEff
  -- the statement for any test of the sender and any choice of the item, so that the kernel evaluates neither
  generalize fromReceiver = own
  generalize State.sendItem = item
  revert own item
  refine id fun own item => ?_
  refine h.takeChain fun c u h => ?_
  split
  · exact h
  · split
    · exact h
    · refine .ite ?_ h.silence
      dsimp only
      split
      · exact h.setUpd.sendFrags
      · exact h.setUpd

theorem Keeps.chainBusyEff (h : Keeps σ τ) : Keeps σ (chainBusyEff τ) := by
  unfold Machine.chainBusyEff
  refine h.takeChain (fun c u h => ?_)
  split
  · exact h
  · exact .ite h.silence h

theorem Keeps.chainCancelEff (h : Keeps σ τ) : Keeps σ (chainCancelEff τ) :=
  h.takeChain (fun _ _ h => .ite h.cancelFlow h)

theorem Keeps.arm {j : Nat} (h : Keeps σ τ) : Keeps σ (τ.arm j) := .ite h.setImgSlot.report h.badVal

theorem Keeps.updArmEff {x : HPort} {j : Fin 2} (h : Keeps σ τ) : Keeps σ (updArmEff x j τ) := h.asWrite h.arm

theorem Keeps.disarm (h : Keeps σ τ) : Keeps σ τ.disarm := by
  unfold State.disarm
  split
  · exact h
  · exact h.setImgSlot.report

theorem Keeps.updDisarmEff {x : HPort} (h : Keeps σ τ) : Keeps σ (updDisarmEff x τ) := h.asWrite h.disarm

theorem Keeps.serveAll (h : Keeps σ τ) : Keeps σ τ.serveAll := .ite h (.ite h.setUpd h.setUpd.serveNext)

theorem Keeps.updServeEff {x : HPort} (h : Keeps σ τ) : Keeps σ (updServeEff x τ) := h.asWrite h.serveAll

theorem Keeps.bootConfirm {sec : Nat} (h : Keeps σ τ) : Keeps σ (τ.bootConfirm sec) :=
  .ite h (Keeps.ite h.setF.setImgSlot h.setF).report

theorem Keeps.bootConfirmedEff {sec : Nat} (h : Keeps σ τ) : Keeps σ (bootConfirmedEff sec τ) :=
  .ite h (.ite h.setUpd h.setUpd.bootConfirm)

theorem Keeps.hostConfirm {sec : Nat} (h : Keeps σ τ) : Keeps σ (τ.hostConfirm sec) := .ite h.bootConfirm h

theorem Keeps.updConfirmEff {x : HPort} {sec : Nat} (h : Keeps σ τ) : Keeps σ (updConfirmEff x sec τ) :=
  h.asWrite h.hostConfirm

theorem Keeps.writeUpdCtl {v : Word} (h : Keeps σ τ) : Keeps σ (τ.writeUpdCtl v) := h.writeFields.setUpd

theorem Keeps.writeVfloor {v : Word} (h : Keeps σ τ) : Keeps σ (τ.writeVfloor v) := .ite h.badVal h.setReg.setUpd

theorem Keeps.chooseSlot {i j k : Nat} (h : Keeps σ τ) : Keeps σ (τ.chooseSlot i j k).2 := by
  induction i generalizing τ j k with
  | zero =>
    rw [State.chooseSlot]
    exact h
  | succ n ih =>
    rw [State.chooseSlot]
    split
    · split
      · exact h.setImgSlot.setUpd
      · exact ih h.setImgSlot
    · exact ih h

/-! ### Reset -/

theorem Keeps.setRst {r : RstSt} (h : Keeps σ τ) : Keeps σ (τ.setRst r) := h.other

theorem Keeps.tornSave (h : Keeps σ τ) : Keeps σ τ.tornSave := by
  unfold State.tornSave
  split
  · exact h
  · exact h.setMtr.writeBank

theorem Keeps.drainReports (h : Keeps σ τ) : Keeps σ τ.drainReports := h.forUpto (fun _ _ h => h.recordWriteEff)

theorem Keeps.expireKeys (h : Keeps σ τ) : Keeps σ τ.expireKeys := .ite h.keyReset h.keyReset.drainReports

theorem Keeps.panelsOff (h : Keeps σ τ) : Keeps σ τ.panelsOff := h.forUpto (fun _ _ h => .ite h.emit h)

theorem Keeps.cleared {por : Bool} (h : Keeps σ τ) : Keeps σ (τ.cleared por) := by
  unfold State.cleared
  exact ((h.withRegs (Store.filter_wfFrom _)).host (host := { HostSt.reset with mem0 := τ.host.mem0, mem1 := τ.host.mem1, bad0 := τ.host.bad0, bad1 := τ.host.bad1 })).other.setF

theorem Keeps.assertReset {por : Bool} {cause : Nat} (h : Keeps σ τ) : Keeps σ (τ.assertReset por cause) :=
  (Keeps.ite h.emit h).lioSafe.panelsOff.expireKeys.safReset.cleared.emit

theorem Keeps.sysReset {cause : Nat} (h : Keeps σ τ) : Keeps σ (τ.sysReset cause) :=
  .ite h (Keeps.ite h.tornSave (.ite h.saveBank h)).assertReset.setF.setF

theorem Keeps.porReset (h : Keeps σ τ) : Keeps σ τ.porReset := h.tornSave.assertReset.safOff.setKey

theorem Keeps.powerOnResetEff (h : Keeps σ τ) : Keeps σ (powerOnResetEff τ) := h.porReset

theorem Keeps.systemResetEff {c : ResetCause} (h : Keeps σ τ) : Keeps σ (systemResetEff c τ) := .ite h h.sysReset

theorem Keeps.debugUnlockEff (h : Keeps σ τ) : Keeps σ (debugUnlockEff τ) := h.setKey

theorem Keeps.keepStateEntryEff (h : Keeps σ τ) : Keeps σ (keepStateEntryEff τ) :=
  .ite h h.setReg.porReset.setRst.setF.other

theorem Keeps.aonPowerOnResetEff (h : Keeps σ τ) : Keeps σ (aonPowerOnResetEff τ) := by
  unfold Machine.aonPowerOnResetEff
  exact .ite h (h.osfCause.withRegs (Store.filter_wfFrom _)).other.setKept

theorem Keeps.activate (h : Keeps σ τ) : Keeps σ τ.activate := by
  unfold State.activate
  split
  · exact h
  · exact .ite h.raiseUpd.report h.setUpd.report.drainReports.sysReset

theorem Keeps.updActivateEff {x : HPort} (h : Keeps σ τ) : Keeps σ (updActivateEff x τ) := h.asWrite h.activate

theorem Keeps.confirmTimeoutEff (h : Keeps σ τ) : Keeps σ (confirmTimeoutEff τ) :=
  .ite h h.report.drainReports.sysReset

theorem Keeps.abortOps {sel : Desc → Bool} (h : Keeps σ τ) : Keeps σ (τ.abortOps sel) :=
  h.foldl (fun _ _ h => h.foldl (fun _ _ h => .ite h.completeLate h))

theorem Keeps.abortLoads (h : Keeps σ τ) : Keeps σ τ.abortLoads := .ite h.abortOps h.abortOps.setMtr

theorem Keeps.coreReset {dog : Bool} (h : Keeps σ τ) : Keeps σ (τ.coreReset dog) := by
  unfold State.coreReset
  exact (h.setRst.setF.addSat.report.forUpto (fun _ _ h => h.flushNow)).abortLoads

theorem Keeps.coreWatchdogExpiryEff (h : Keeps σ τ) : Keeps σ (coreWatchdogExpiryEff τ) :=
  .ite h (.ite h.coreReset.sysReset h.coreReset)

theorem Keeps.coreResetEndEff (h : Keeps σ τ) : Keeps σ (coreResetEndEff τ) := h.setRst

theorem Keeps.writeRstCtl {x : HPort} {v : Word} (h : Keeps σ τ) : Keeps σ (τ.writeRstCtl x v) :=
  .ite h.badVal (.ite h.sysReset (.ite h.coreReset h))

theorem Keeps.rstCtlSysrstEff {x : HPort} {v : Word} (h : Keeps σ τ) : Keeps σ (rstCtlSysrstEff x v τ) :=
  h.asWrite h.writeRstCtl

theorem Keeps.rstCtlCorerstEff {x : HPort} {v : Word} (h : Keeps σ τ) : Keeps σ (rstCtlCorerstEff x v τ) :=
  h.asWrite h.writeRstCtl

theorem Keeps.markFaults {f : StoreFaults} (h : Keeps σ τ) : Keeps σ (τ.markFaults f) := h.other

theorem Keeps.restoreForces (h : Keeps σ τ) : Keeps σ τ.restoreForces := .ite h.other h.other.setF.report

theorem Keeps.loadTrim {copy0 copy1 : Bool} (h : Keeps σ τ) : Keeps σ (τ.loadTrim copy0 copy1) :=
  h.setRst.setF.setF.setF.setF.report

theorem Keeps.sampleStraps {i : StartIn} (h : Keeps σ τ) : Keeps σ (τ.sampleStraps i) :=
  (Keeps.ite (Keeps.ite h.keepCycles h).setReg (.ite h.keepCycles
      h)).other.setF.setF.setReg.setF.setF.setF.setF.setF.setF.setKey.setReg.setReg

theorem Keeps.restoreAll (h : Keeps σ τ) : Keeps σ τ.restoreAll := by
  unfold State.restoreAll
  refine Keeps.setF ?_
  split
  · exact (Keeps.ite (Keeps.ite h.recorderStart
      h.recorderStart.other.report).restoreForces.loadKeys.startMetering.watchReturn.startRiser (Keeps.ite
      h.recorderStart
      h.recorderStart.other.report).restoreForces.loadKeys.startMetering.watchReturn.startRiser.startLegacy).setReg
  · exact .ite (Keeps.ite h.recorderStart
      h.recorderStart.other.report).restoreForces.loadKeys.startMetering.watchReturn.startRiser (Keeps.ite
      h.recorderStart
      h.recorderStart.other.report).restoreForces.loadKeys.startMetering.watchReturn.startRiser.startLegacy

theorem Keeps.startImage {slot reason : Nat} {ver : Word} {confHost : Bool} (h : Keeps σ τ) :
    Keeps σ (τ.startImage slot reason ver confHost) :=
  h.setF.setF.setF.setF.setF.setReg.setUpd.report.setRst.restoreAll

theorem Keeps.startRecovery {ok : Bool} {reason : Nat} (h : Keeps σ τ) : Keeps σ (τ.startRecovery ok reason) :=
  .ite h.startImage h.setF.setRst

theorem Keeps.bootSlots {recovery : Bool} (h : Keeps σ τ) : Keeps σ (τ.bootSlots recovery) := by
  unfold State.bootSlots
  extract_lets k first t
  split
  · next e => exact (h.setUpd.chooseSlot.of_eq e).startImage
  · next e => exact (h.setUpd.chooseSlot.of_eq e).startRecovery

theorem Keeps.resetReleaseEff {i : StartIn} (h : Keeps σ τ) : Keeps σ (resetReleaseEff i τ) := by
  unfold Machine.resetReleaseEff
  refine .ite h (.ite h.setRst ?_)
  extract_lets t
  have h_t : Keeps σ t := h.sampleStraps.loadTrim.markFaults
  split
  · exact h_t.bootSlots
  · exact h_t.startRecovery
  · exact h_t.setRst
  · exact h_t.setRst

theorem Keeps.loaderGoEff {x : HPort} {v : Word} {mem : HostMem} (h : Keeps σ τ) : Keeps σ (loaderGoEff x v mem τ) :=
  .ite h.hostStores.setF.setF h.hostStores

theorem Keeps.loaderEnd {status : Nat} (h : Keeps σ τ) : Keeps σ (τ.loaderEnd status) := h.setF.setF

theorem Keeps.loaderCheckCompleteEff (h : Keeps σ τ) : Keeps σ (loaderCheckCompleteEff τ) := by
  unfold Machine.loaderCheckCompleteEff
  refine .ite h ?_
  extract_lets addr
  split
  · next e => exact (h.dmaRead.of_eq e).loaderEnd
  · next e =>
    refine .ite (h.dmaRead.of_eq e).loaderEnd ?_
    split
    · next e2 => exact ((h.dmaRead.of_eq e).dmaRead.of_eq e2).loaderEnd
    · next e2 =>
      refine .ite ((h.dmaRead.of_eq e).dmaRead.of_eq e2).loaderEnd (.ite ((h.dmaRead.of_eq e).dmaRead.of_eq
          e2).loaderEnd ?_)
      split
      · next e3 => exact (((h.dmaRead.of_eq e).dmaRead.of_eq e2).dmaRead.of_eq e3).loaderEnd
      · next e3 =>
        exact .ite (((h.dmaRead.of_eq e).dmaRead.of_eq e2).dmaRead.of_eq e3).setF.startImage (((h.dmaRead.of_eq
            e).dmaRead.of_eq e2).dmaRead.of_eq e3).loaderEnd

theorem Keeps.startCompleteEff (h : Keeps σ τ) : Keeps σ (startCompleteEff τ) :=
  .ite h (.ite h.setF.setF.setRst.signalUnit.safShow.report.report h.setF.setF.setRst.signalUnit.safShow.report)

theorem Keeps.ptxResetIn (h : Keeps σ τ) : Keeps σ τ.ptxResetIn := (h.foldl (fun _ _ h => h.setExch)).other

theorem Keeps.blockIn {b : Nat} (h : Keeps σ τ) : Keeps σ (τ.blockIn b) :=
  .ite h.fldResetIn (.ite h.ptxResetIn (.ite h.lgeResetIn (.ite h.cleResetIn (.ite h.faultSlots.lioResetIn (.ite
      h.mtrResetIn (.ite h.safReset (.ite h.rsrResetIn (.ite h.dspResetIn (.ite h.keyBlockReset h)))))))))

theorem Keeps.blockOut {b : Nat} (h : Keeps σ τ) : Keeps σ (τ.blockOut b) :=
  .ite h.fldResetOut (.ite (h.foldl (fun _ _ h => h.flushNow)) (.ite h.safShow h))

theorem Keeps.holdBlock {b : Nat} (h : Keeps σ τ) : Keeps σ (τ.holdBlock b) :=
  .ite h (.ite ((Keeps.ite h.abortOps h.abortOps.blockIn).foldl (fun _ _ h =>
      h.flushNow.newHead)).setF.setF.setRst.report.selfCause ((Keeps.ite h.abortOps h.abortOps.blockIn).foldl (fun _
      _ h => h.flushNow.newHead)).setF.setF.setRst.report)

theorem Keeps.blockResetAssertEff {x : HPort} {b : Fin 25} (h : Keeps σ τ) : Keeps σ (blockResetAssertEff x b τ) :=
  h.asWrite h.holdBlock

theorem Keeps.releaseBlock {b : Nat} (h : Keeps σ τ) : Keeps σ (τ.releaseBlock b) :=
  .ite h (.ite h.setF h.setF.setF.setRst)

theorem Keeps.blockReleaseRequestEff {x : HPort} {b : Fin 25} (h : Keeps σ τ) :
    Keeps σ (blockReleaseRequestEff x b τ) :=
  h.asWrite h.releaseBlock

theorem Keeps.blockReleaseEff {b : Fin 25} (h : Keeps σ τ) : Keeps σ (blockReleaseEff b τ) :=
  .ite h h.setF.setRst.report.blockOut.signalUnit

theorem Keeps.raiseClk {bit : Nat} (h : Keeps σ τ) : Keeps σ (τ.raiseClk bit) := h.raise

theorem Keeps.externalReferenceFallbackEff (h : Keeps σ τ) : Keeps σ (externalReferenceFallbackEff τ) :=
  .ite h h.setF.setF.report

theorem Keeps.referenceLostEff (h : Keeps σ τ) : Keeps σ (referenceLostEff τ) :=
  .ite h h.setF.raiseClk.report.selfCause

theorem Keeps.referenceRestoredEff (h : Keeps σ τ) : Keeps σ (referenceRestoredEff τ) := .ite h h.setF.raiseClk.report

theorem Keeps.serdesLockLostEff {b : Fin 25} {good : Bool} (h : Keeps σ τ) : Keeps σ (serdesLockLostEff b good τ) :=
  .ite h h.setF.raiseClk.report

theorem Keeps.raisePwr {bit : Nat} (h : Keeps σ τ) : Keeps σ (τ.raisePwr bit) := h.raise

theorem Keeps.vmainWarningEff {pfw : Bool} {vmain : Nat} (h : Keeps σ τ) : Keeps σ (vmainWarningEff pfw vmain τ) :=
  .ite h (.ite (.ite h.setF h) (Keeps.ite (Keeps.ite h.setF h).setF.setF.raisePwr.report.safWarn.warnBank (Keeps.ite
      h.setF h).setF.setF.raisePwr.report.safWarn).dspWarn)

theorem Keeps.warningEndEff {low us : Nat} (h : Keeps σ τ) : Keeps σ (warningEndEff low us τ) :=
  .ite h.setF h.setF.setF.setF.raisePwr.report.safWarn.warnOver

theorem Keeps.tempEvent {temp : Int} {level : Nat} (h : Keeps σ τ) : Keeps σ (τ.tempEvent temp level) :=
    h.setRst.report

theorem Keeps.tempReact {temp : Int} (h : Keeps σ τ) : Keeps σ (τ.tempReact temp) :=
  .ite h.tempEvent.drainReports.sysReset.setRst (.ite h.tempEvent.selfCause (.ite h.tempEvent.setRst h))

theorem Keeps.supplyMeasurementEff {vmain vbak : Nat} {temp : Int} (h : Keeps σ τ) :
    Keeps σ (supplyMeasurementEff vmain vbak temp τ) :=
  h.setF.setF.setF.tempReact

/-! ### Registers -/

theorem Keeps.writeSetCtl {x : HPort} {v : Word} (h : Keeps σ τ) : Keeps σ (τ.writeSetCtl x v) :=
  .ite h.writeFields.setTimeGo h.writeFields

theorem Keeps.noteLate {i : Nat} {b : Bool} (h : Keeps σ τ) : Keeps σ (τ.noteLate i b) := h.other

theorem Keeps.writeAlmCtl {i : Nat} {v : Word} (h : Keeps σ τ) : Keeps σ (τ.writeAlmCtl i v) :=
  .ite h.writeFields.noteLate h.writeFields

theorem Keeps.writeRtc {x : HPort} {off : Nat} {v : Word} (h : Keeps σ τ) : Keeps σ (τ.writeRtc x off v) := by
  unfold State.writeRtc
  refine .ite h.writeRtcCtl (.ite h.writeSetCtl (.ite h.writeTrim (.ite h.writeMeasCtl ?_)))
  split
  · exact .ite h h.writeFields
  · split
    · exact .ite h h.writeFields
    · split
      · exact h.writeAlmCtl
      · exact h.writeFields

theorem Keeps.writeShCmd {v : Word} (h : Keeps σ τ) : Keeps σ (τ.writeShCmd v) :=
  .ite h.badVal (.ite (h.writeFields.shareAct h.writeFields.shareCommit) (.ite (h.writeFields.shareAct
      h.writeFields.shareReadBack) h.writeFields))

theorem Keeps.writeShStage {off : Nat} {v : Word} (h : Keeps σ τ) : Keeps σ (τ.writeShStage off v) :=
  .ite h.badVal h.writeFields

theorem Keeps.writePasid {x : HPort} {p off : Nat} {v : Word} (h : Keeps σ τ) : Keeps σ (τ.writePasid x p off v) :=
  .ite h.badVal h.writeFields

theorem Keeps.writePrt {x : HPort} {off : Nat} {v : Word} (h : Keeps σ τ) : Keeps σ (τ.writePrt x off v) := by
  unfold State.writePrt
  refine .ite h.writeShCmd (.ite h.writeShStage ?_)
  split
  · exact h.writePen
  · split
    · exact h.writePasid
    · split
      · exact h.writePasid
      · split
        · exact h
        · exact h.writeFields.fillBucket
        · exact h.writeFields

theorem Keeps.writeRsCmd {x : HPort} {v : Word} (h : Keeps σ τ) : Keeps σ (τ.writeRsCmd x v) :=
  .ite h.badVal (.ite h.writeFields.ringSetCommitEff (.ite h.writeFields.ringSetReadBackEff (.ite
      h.writeFields.ringSetStartEff (.ite h.writeFields.ringSetStopEff h.writeFields))))

theorem Keeps.writeQuota {p : Nat} {v : Word} (h : Keeps σ τ) : Keeps σ (τ.writeQuota p v) :=
  .ite (Keeps.ite h.badVal h.setF).badVal (Keeps.ite h.badVal h.setF).setF

theorem Keeps.writeLge {off : Nat} {v : Word} (h : Keeps σ τ) : Keeps σ (τ.writeLge off v) := by
  unfold State.writeLge
  split
  · exact h.writeTask
  · split
    · exact h.writeTask
    · split
      · exact h.writeTask
      · exact h.writeFields

theorem Keeps.writeCle {off : Nat} {v : Word} (h : Keeps σ τ) : Keeps σ (τ.writeCle off v) := by
  unfold State.writeCle
  split
  · exact h.writeSlotCfg
  · split
    · exact h.writeCapSeg
    · exact h.writeFields

theorem Keeps.writeLio {off : Nat} {v : Word} (h : Keeps σ τ) : Keeps σ (τ.writeLio off v) := by
  unfold State.writeLio
  split
  · exact h.writePwm
  · exact .ite (Keeps.ite h.other h).badVal (Keeps.ite h.other h).writeFields

theorem Keeps.writeMtr {off : Nat} {v : Word} (h : Keeps σ τ) : Keeps σ (τ.writeMtr off v) := by
  unfold State.writeMtr
  refine .ite h.writeAccClr (.ite h.writeIvCtl (.ite h.writeWatchClr ?_))
  split
  · exact h.writePulseCfg
  · split
    · exact h.writePulseMc
    · split
      · exact h.writeWatch
      · exact h.writeFields

theorem Keeps.writeEvr {x : HPort} {off : Nat} {v : Word} (h : Keeps σ τ) : Keeps σ (τ.writeEvr x off v) := by
  unfold State.writeEvr
  refine .ite (.ite h.keepClear h) ?_
  split
  · exact h
  · exact h.writeFields.fillBucket
  · exact h.writeFields

theorem Keeps.writeRsel {x : HPort} {v : Word} (h : Keeps σ τ) : Keeps σ (τ.writeRsel x v) := h.writeFields.badValIf

theorem Keeps.writeDsp {off : Nat} {v : Word} (h : Keeps σ τ) : Keeps σ (τ.writeDsp off v) := by
  unfold State.writeDsp
  split
  · exact .ite h.useFree.enablePanel (.ite h.disablePanel h)
  · exact .ite h.badVal h.writeFields.showBand.showBand

theorem Keeps.writeKey {off : Nat} {v : Word} (h : Keeps σ τ) : Keeps σ (τ.writeKey off v) := by
  unfold State.writeKey
  split
  · exact h.writeSattr
  · split
    · exact .ite h.badVal h.writeFields.storeSlot
    · exact h.writeFields

theorem Keeps.writeUpdCmd {v : Word} (h : Keeps σ τ) : Keeps σ (τ.writeUpdCmd v) :=
  .ite h.arm (.ite h.disarm (.ite h.activate (.ite h.useFree.hostConfirm (.ite h.serveAll h.badVal))))

theorem Keeps.writeUpd {off : Nat} {v : Word} (h : Keeps σ τ) : Keeps σ (τ.writeUpd off v) :=
  .ite h.writeUpdCtl (.ite h.writeVfloor (.ite h.writeUpdCmd h.writeFields))

theorem Keeps.writeRst {x : HPort} {off : Nat} {v : Word} (h : Keeps σ τ) : Keeps σ (τ.writeRst x off v) :=
  .ite h.writeRstCtl (.ite (h.forUpto (fun _ _ h => .ite h.holdBlock h.releaseBlock)) h.writeFields)

theorem Keeps.writeQpl {off : Nat} {v : Word} (h : Keeps σ τ) : Keeps σ (τ.writeQpl off v) := by
  unfold State.writeQpl
  refine .ite h.writeQplCtl ?_
  split
  · exact .ite h.writeFields.requestFlush h.writeFields
  · exact h.writeFields

theorem Keeps.writeSetUp {x : HPort} {off : Nat} {v : Word} (h : Keeps σ τ) : Keeps σ (τ.writeSetUp x off v) := by
  unfold State.writeSetUp
  split
  · exact .ite h.writeClkTin h.writeFields
  · exact h.writeRst
  · exact h.writeRtc
  · exact h.writePrt
  · exact h.writeQpl
  · exact .ite h.writePwrCmd (.ite h.writeMdio h.writeFields)
  · split
    · exact h.writeQuota
    · exact h.writeFields
  · exact h.writeLge
  · exact h.writeCle
  · exact h.writeLio
  · exact h.writeMtr
  · exact h.writeEvr
  · exact h.writeDsp
  · split
    · exact .ite h.canRecover h
    · exact h.writeFields
  · exact h.writeKey
  · exact h.writeUpd
  · exact h.writeFields

theorem Keeps.writeSemCmd {x : HPort} {i : Fin 64} {v : Word} (h : Keeps σ τ) : Keeps σ (τ.writeSemCmd x i v) :=
  .ite h.semAcquireEff (.ite h.semReleaseEff h.badVal)

theorem Keeps.writeLoader {x : HPort} {off : Nat} {v : Word} (h : Keeps σ τ) : Keeps σ (τ.writeLoader x off v) :=
  .ite (.ite h.loaderGoEff h.writeFields) h

theorem Keeps.writeTwnCtl {x : HPort} {v : Word} (h : Keeps σ τ) : Keeps σ (τ.writeTwnCtl x v) :=
  .ite (Keeps.ite h.yield h).writeFields (.ite h.yield h)

theorem Keeps.writeOwn {x : HPort} {off : Nat} {v : Word} (h : Keeps σ τ) : Keeps σ (τ.writeOwn x off v) :=
  .ite h.writeRsCmd (.ite h.writeRsel (.ite h.writeMbsel h.writeFields))

theorem Keeps.writeReg {x : HPort} {off : Nat} {v : Word} (h : Keeps σ τ) : Keeps σ (τ.writeReg x off v) := by
  unfold State.writeReg
  split
  · exact .ite h.writeOwn h
  · split
    · exact h.writeSemCmd
    · exact .ite h.writeLoader (.ite h.writeTwnCtl (.ite h.writeSetUp h))

theorem Keeps.writeDoorbell {x : HPort} {p : Part} {o : Nat} {v : Word} (h : Keeps σ τ) :
    Keeps σ (τ.writeDoorbell x p o v) :=
  .ite h.cmdPiWriteEff (.ite h.cplCiWriteEff (.ite h.evtCiWriteEff (.ite h.rxPiWriteEff (.ite h.armWriteEff h))))

theorem Keeps.hostWrite {x : HPort} {off : Nat} {v : Word} (h : Keeps σ τ) : Keeps σ (τ.hostWrite x off v) :=
  .ite h.writeDoorbell (.ite h.absWr (.ite h h.writeReg))

theorem Keeps.readAct {x : HPort} {off : Nat} (h : Keeps σ τ) : Keeps σ (τ.readAct x off) := by
  unfold State.readAct
  refine .ite h.snapSec (.ite h.snapFrameSec (.ite h.snapTc (.ite h.readWindow0 (.ite h.releaseMailbox ?_))))
  split
  · exact h.setReg.setRsr
  · split
    · exact h.useFree
    · split
      · exact h.useFree
      · exact h.clearRc

theorem Keeps.hostRead {x : HPort} {off size : Nat} (h : Keeps σ τ) : Keeps σ (τ.hostRead x off size) :=
  .ite h.showRead (.ite h.showRead (.ite (.ite h.showRead h.emit) h.readAct.showRead))

theorem Keeps.writeCfg {x : HPort} {o : Nat} {v : Word} (h : Keeps σ τ) : Keeps σ (τ.writeCfg x o v) :=
  .ite h.setPci (.ite (.ite (.ite h h.d3hotEntryEff) (.ite h.setPci h)) (.ite h.setPci (.ite h.setPci h)))

theorem Keeps.writeMsix {x : HPort} {k : Nat} {v : Word} (h : Keeps σ τ) : Keeps σ (τ.writeMsix x k v) := by
  unfold State.writeMsix
  refine Keeps.unpend ?_
  split <;> exact h.host

theorem Keeps.pciWrite {x : HPort} {o : Nat} {v : Word} (h : Keeps σ τ) : Keeps σ (τ.pciWrite x o v) :=
  .ite h.writeMsix (.ite h h.writeCfg)

theorem Keeps.narrowWrite {off : Nat} (h : Keeps σ τ) : Keeps σ (τ.narrowWrite off) := .ite h.absWr h

theorem Keeps.registerWriteEff {x : HPort} {off size : Nat} {v : Word} (h : Keeps σ τ) :
    Keeps σ (registerWriteEff x off size v τ) :=
  .ite (.ite h.pciWrite h) (.ite h.hostWrite h.narrowWrite)

theorem Keeps.rcFieldReadEff {x : HPort} {off size : Nat} (h : Keeps σ τ) : Keeps σ (rcFieldReadEff x off size τ) :=
  .ite h.showRead h.hostRead

theorem Keeps.bucketWriteEff {x : HPort} {off : Nat} {v : Word} (h : Keeps σ τ) : Keeps σ (bucketWriteEff x off v τ)
    :=
  .ite h.hostWrite h

theorem Keeps.blockingExceededEff {cls wait blk : Nat} (h : Keeps σ τ) : Keeps σ (blockingExceededEff cls wait blk
    τ) :=
  .ite h.setF.report h

/-! ### Frame -/

theorem Keeps.stepAlarms {old : Nat} (h : Keeps σ τ) : Keeps σ (τ.stepAlarms old) :=
  h.forUpto (fun _ _ h => .ite h.noteLate h)

theorem Keeps.stepAges {d : Int} (h : Keeps σ τ) : Keeps σ (τ.stepAges d) := h.mtrStepped.other

theorem Keeps.applyStep (h : Keeps σ τ) : Keeps σ τ.applyStep := by
  unfold State.applyStep
  split
  · exact h
  · exact h.other.setF.setF.setF.setF.setF.report.stepAges.measFail.stepAlarms.ivFlagAll.safStepped

theorem Keeps.beginFrame {start : Nat} (h : Keeps σ τ) : Keeps σ (τ.beginFrame start) :=
  h.setCount.other.setF.setF.setTwn

theorem Keeps.joinGap {gap : Nat} (h : Keeps σ τ) : Keeps σ (τ.joinGap gap) := h.useFree.setF.setF.report

theorem Keeps.endFrame (h : Keeps σ τ) : Keeps σ τ.endFrame := by
  unfold State.endFrame
  extract_lets n t
  split
  · exact h.setTwn.beginFrame
  · exact h.setTwn.beginFrame.joinGap
  · exact h.setTwn.setCount.other

theorem Keeps.endGap (h : Keeps σ τ) : Keeps σ τ.endGap := by
  unfold State.endGap
  split
  · exact h
  · exact .ite h.other.applyStep.endFrame h.beginFrame.joinGap

theorem Keeps.nextInFrame (h : Keeps σ τ) : Keeps σ τ.nextInFrame := h.applyStep.other.setF

theorem Keeps.frameWork {recv : List (Nat × Nat)} (h : Keeps σ τ) : Keeps σ (τ.frameWork recv) :=
  (Keeps.ite (Keeps.ite (Keeps.ite h h.twinFrame.twinCfgApply.shadowTake).takePlca.handOver.applyLoads.lgeFrame
      (Keeps.ite h
      h.twinFrame.twinCfgApply.shadowTake).takePlca.handOver.applyLoads.lgeFrame.latchInputs).setTwn.meterFrame
      (Keeps.ite (Keeps.ite h h.twinFrame.twinCfgApply.shadowTake).takePlca.handOver.applyLoads.lgeFrame (Keeps.ite
      h
      h.twinFrame.twinCfgApply.shadowTake).takePlca.handOver.applyLoads.lgeFrame.latchInputs).setTwn.meterFrame.forceInputs.latchNotify).other.riserBoundary

theorem Keeps.publishWork (h : Keeps σ τ) : Keeps σ τ.publishWork :=
  (Keeps.ite h.lgeDeadline h.lgeDeadline.publish).other.safSend

theorem Keeps.tickWork {i : TickIn} {adv : Nat} (h : Keeps σ τ) : Keeps σ (τ.tickWork i adv) := by
  unfold State.tickWork
  refine Keeps.meterNow ?_
  split
  · exact h.setMtr.lioSample.cleTick.dspTick.driveMclk.meterLate.frameWork
  · exact h.setMtr.lioSample.cleTick.dspTick.driveMclk.meterLate.powerTick
  · exact h.setMtr.lioSample.cleTick.dspTick.driveMclk.meterLate.publishWork
  · exact h.setMtr.lioSample.cleTick.dspTick.driveMclk.meterLate

theorem Keeps.atBoundary (h : Keeps σ τ) : Keeps σ τ.atBoundary :=
  .ite h.endGap (.ite h.yieldDrop.applyStep.endFrame h.nextInFrame)

theorem Keeps.baseTickEff {i : TickIn} (h : Keeps σ τ) : Keeps σ (baseTickEff i τ) :=
  .ite h (.ite h.idle.setCount.atBoundary.setMtr h.idle.setCount.atBoundary.tickWork)

theorem Keeps.tickGeneratorStartEff {adv : Nat} {i : TickIn} (h : Keeps σ τ) : Keeps σ (tickGeneratorStartEff adv i
    τ) :=
  .ite h h.advance.applyStep.beginFrame.setF.tickWork

theorem Keeps.inputLatchCompleteEff (h : Keeps σ τ) : Keeps σ (inputLatchCompleteEff τ) :=
  .ite h (.ite h.other.openWindow (.ite h.other.openWindow.shadowImage (.ite h.other.openWindow h.other)))

theorem Keeps.publishCompleteEff (h : Keeps σ τ) : Keeps σ (publishCompleteEff τ) :=
  .ite h (Keeps.ite h.other h.other.driveOutputs.copySnaps).twinPublish

theorem Keeps.reachAlarm {i : Nat} (h : Keeps σ τ) : Keeps σ (τ.reachAlarm i) := .ite h h.setCount

theorem Keeps.alarmFireEff {i : Fin 8} (h : Keeps σ τ) : Keeps σ (alarmFireEff i τ) :=
  .ite h (.ite (Keeps.ite (Keeps.ite (Keeps.ite h.reachAlarm.setF.setF.setF.noteLate h.reachAlarm.setF.setF).report
      (.ite h.reachAlarm.setF.setF.setF.noteLate h.reachAlarm.setF.setF)).signalUnit (.ite (Keeps.ite
      h.reachAlarm.setF.setF.setF.noteLate h.reachAlarm.setF.setF).report (.ite h.reachAlarm.setF.setF.setF.noteLate
      h.reachAlarm.setF.setF))).activate (.ite (Keeps.ite (Keeps.ite h.reachAlarm.setF.setF.setF.noteLate
      h.reachAlarm.setF.setF).report (.ite h.reachAlarm.setF.setF.setF.noteLate h.reachAlarm.setF.setF)).signalUnit
      (.ite (Keeps.ite h.reachAlarm.setF.setF.setF.noteLate h.reachAlarm.setF.setF).report (.ite
      h.reachAlarm.setF.setF.setF.noteLate h.reachAlarm.setF.setF))))

theorem Keeps.singleBitErrorEff {r : MemRegion} (h : Keeps σ τ) : Keeps σ (singleBitErrorEff r τ) := by
  unfold Machine.singleBitErrorEff
  split
  · exact h.corrected
  · exact h.addSat
  · exact h.addSat
  · exact h.addSat
  · exact h
  · exact h
  · exact h
  · exact h
  · exact h

theorem Keeps.haltRunning {t cause : Nat} (h : Keeps σ τ) : Keeps σ (τ.haltRunning t cause) :=
  .ite h (.ite h.taskHalt.nextTurn h.taskHalt)

theorem Keeps.uncorrectableErrorEff {r : MemRegion} (h : Keeps σ τ) : Keeps σ (uncorrectableErrorEff r τ) := by
  unfold Machine.uncorrectableErrorEff
  split
  · exact h.useFree.cellPoisonedEff
  · exact (h.forUpto (fun _ _ h => .ite h.haltRunning h)).selfCause
  · exact h.selfCause
  · exact h.selfCause
  · exact h.haltRunning
  · exact .ite h.slotFaultNow h
  · exact h
  · exact h
  · exact h

end

/-! ## The rows -/

/-- Every command answers a next state, and that state keeps what `Keeps` says: one lemma per row. -/
theorem exec_keeps (c : Instr) (s : State) : ∃ t, exec c s = .next t ∧ Keeps s t := by
  cases c with
  | registerWrite => exact ⟨_, rfl, Keeps.registerWriteEff .refl⟩
  | rcFieldRead => exact ⟨_, rfl, Keeps.rcFieldReadEff .refl⟩
  | singleBitError => exact ⟨_, rfl, Keeps.singleBitErrorEff .refl⟩
  | uncorrectableError => exact ⟨_, rfl, Keeps.uncorrectableErrorEff .refl⟩
  | blockingExceeded => exact ⟨_, rfl, Keeps.blockingExceededEff .refl⟩
  | tickGeneratorStart => exact ⟨_, rfl, Keeps.tickGeneratorStartEff .refl⟩
  | baseTick => exact ⟨_, rfl, Keeps.baseTickEff .refl⟩
  | inputLatchComplete => exact ⟨_, rfl, Keeps.inputLatchCompleteEff .refl⟩
  | publishComplete => exact ⟨_, rfl, Keeps.publishCompleteEff .refl⟩
  | syncReceived => exact ⟨_, rfl, Keeps.syncReceivedEff .refl⟩
  | syncHoldover => exact ⟨_, rfl, Keeps.syncHoldoverEff .refl⟩
  | tinPpsEdge => exact ⟨_, rfl, Keeps.tinPpsEdgeEff .refl⟩
  | rtcCtlWrite => exact ⟨_, rfl, Keeps.rtcCtlWriteEff .refl⟩
  | clkTinWrite => exact ⟨_, rfl, Keeps.clkTinWriteEff .refl⟩
  | rtcFracRead => exact ⟨_, rfl, Keeps.rtcFracReadEff .refl⟩
  | tckCurRead => exact ⟨_, rfl, Keeps.tckCurReadEff .refl⟩
  | setTimeGo => exact ⟨_, rfl, Keeps.setTimeGoEff .refl⟩
  | alarmFire => exact ⟨_, rfl, Keeps.alarmFireEff .refl⟩
  | measurementStart => exact ⟨_, rfl, Keeps.measurementStartEff .refl⟩
  | measurementDone => exact ⟨_, rfl, Keeps.measurementDoneEff .refl⟩
  | oscillatorStop | vbakBelowRetention => exact ⟨_, rfl, Keeps.osfCause .refl⟩
  | aonPowerOnReset => exact ⟨_, rfl, Keeps.aonPowerOnResetEff .refl⟩
  | kcorrUpdate => exact ⟨_, rfl, Keeps.kcorrUpdateEff .refl⟩
  | keepStateEntry => exact ⟨_, rfl, Keeps.keepStateEntryEff .refl⟩
  | keepSecondRollover => exact ⟨_, rfl, Keeps.keepSecondRolloverEff .refl⟩
  | shareCommit => exact ⟨_, rfl, Keeps.shareCommitEff .refl⟩
  | shareReadBack => exact ⟨_, rfl, Keeps.shareReadBackEff .refl⟩
  | prtPenWrite => exact ⟨_, rfl, Keeps.prtPenWriteEff .refl⟩
  | cfgcrcRecompute => exact ⟨_, rfl, Keeps.cfgcrcRecomputeEff .refl⟩
  | hostLinkDown => exact ⟨_, rfl, Keeps.hostLinkDownEff .refl⟩
  | hostLinkUp => exact ⟨_, rfl, Keeps.hostLinkUpEff .refl⟩
  | fundamentalReset => exact ⟨_, rfl, Keeps.fundamentalResetEff .refl⟩
  | functionLevelReset => exact ⟨_, rfl, Keeps.functionLevelResetEff .refl⟩
  | d3hotEntry => exact ⟨_, rfl, Keeps.d3hotEntryEff .refl⟩
  | semAcquire => exact ⟨_, rfl, Keeps.semAcquireEff .refl⟩
  | semRelease => exact ⟨_, rfl, Keeps.semReleaseEff .refl⟩
  | leaseExpiry => exact ⟨_, rfl, Keeps.leaseExpiryEff .refl⟩
  | heartbeatTimeout => exact ⟨_, rfl, Keeps.heartbeatTimeoutEff .refl⟩
  | ringSetCommit => exact ⟨_, rfl, Keeps.ringSetCommitEff .refl⟩
  | ringSetReadBack => exact ⟨_, rfl, Keeps.ringSetReadBackEff .refl⟩
  | ringSetStart => exact ⟨_, rfl, Keeps.ringSetStartEff .refl⟩
  | ringSetStop => exact ⟨_, rfl, Keeps.ringSetStopEff .refl⟩
  | ringSetStopped => exact ⟨_, rfl, Keeps.ringSetStoppedEff .refl⟩
  | ringSetFault => exact ⟨_, rfl, Keeps.ringSetFaultEff .refl⟩
  | cmdPiWrite => exact ⟨_, rfl, Keeps.cmdPiWriteEff .refl⟩
  | cplCiWrite => exact ⟨_, rfl, Keeps.cplCiWriteEff .refl⟩
  | evtCiWrite => exact ⟨_, rfl, Keeps.evtCiWriteEff .refl⟩
  | rxPiWrite => exact ⟨_, rfl, Keeps.rxPiWriteEff .refl⟩
  | armWrite => exact ⟨_, rfl, Keeps.armWriteEff .refl⟩
  | commandFetch => exact ⟨_, rfl, Keeps.commandFetchEff .refl⟩
  | receiveFrameDelivery => exact ⟨_, rfl, Keeps.deliverHead .refl⟩
  | receiveHoldExpiry => exact ⟨_, rfl, Keeps.receiveHoldExpiryEff .refl⟩
  | interruptCoalescingExpiry => exact ⟨_, rfl, Keeps.interruptCoalescingExpiryEff .refl⟩
  | nop => exact ⟨_, rfl, Keeps.nopEff .refl⟩
  | ptRead => exact ⟨_, rfl, Keeps.ptReadEff .refl⟩
  | ptWrite => exact ⟨_, rfl, Keeps.ptWriteEff .refl⟩
  | ptListRead => exact ⟨_, rfl, Keeps.ptListReadEff .refl⟩
  | ptListWrite => exact ⟨_, rfl, Keeps.ptListWriteEff .refl⟩
  | ptSub => exact ⟨_, rfl, Keeps.ptSubEff .refl⟩
  | ptSubCancel => exact ⟨_, rfl, Keeps.ptSubCancelEff .refl⟩
  | forceSet => exact ⟨_, rfl, Keeps.forceSetEff .refl⟩
  | forceClr => exact ⟨_, rfl, Keeps.forceClrEff .refl⟩
  | forceList => exact ⟨_, rfl, Keeps.forceListEff .refl⟩
  | snapshot => exact ⟨_, rfl, Keeps.snapshotEff .refl⟩
  | qFlush => exact ⟨_, rfl, Keeps.qFlushEff .refl⟩
  | qStat => exact ⟨_, rfl, Keeps.qStatEff .refl⟩
  | recRead => exact ⟨_, rfl, Keeps.recReadEff .refl⟩
  | mtrRead => exact ⟨_, rfl, Keeps.mtrReadEff .refl⟩
  | lgeLoad => exact ⟨_, rfl, Keeps.lgeLoadEff .refl⟩
  | lgeVerify => exact ⟨_, rfl, Keeps.lgeVerifyEff .refl⟩
  | lgeStart => exact ⟨_, rfl, Keeps.lgeStartEff .refl⟩
  | lgeStop => exact ⟨_, rfl, Keeps.lgeStopEff .refl⟩
  | lgeStatus => exact ⟨_, rfl, Keeps.lgeStatusEff .refl⟩
  | lgeDump => exact ⟨_, rfl, Keeps.lgeDumpEff .refl⟩
  | cleLoad => exact ⟨_, rfl, Keeps.cleLoadEff .refl⟩
  | cleEnable => exact ⟨_, rfl, Keeps.cleEnableEff .refl⟩
  | cleDisable => exact ⟨_, rfl, Keeps.cleDisableEff .refl⟩
  | cleInjectStart => exact ⟨_, rfl, Keeps.cleInjectStartEff .refl⟩
  | cleInjectStop => exact ⟨_, rfl, Keeps.cleInjectStopEff .refl⟩
  | cleCaptureStart => exact ⟨_, rfl, Keeps.cleCaptureStartEff .refl⟩
  | cleCaptureRead => exact ⟨_, rfl, Keeps.cleCaptureReadEff .refl⟩
  | cfgLoadPointTable => exact ⟨_, rfl, Keeps.cfgLoadPointTableEff .refl⟩
  | cfgLoadExchangeSchedule => exact ⟨_, rfl, Keeps.cfgLoadExchangeScheduleEff .refl⟩
  | cfgLoadStationTable => exact ⟨_, rfl, Keeps.cfgLoadStationTableEff .refl⟩
  | cfgLoadFieldPortTable => exact ⟨_, rfl, Keeps.cfgLoadFieldPortTableEff .refl⟩
  | cfgLoadCircuitTable => exact ⟨_, rfl, Keeps.cfgLoadCircuitTableEff .refl⟩
  | cfgLoadCalibrationSet => exact ⟨_, rfl, Keeps.cfgLoadCalibrationSetEff .refl⟩
  | cfgLoadRegionTable => exact ⟨_, rfl, Keeps.cfgLoadRegionTableEff .refl⟩
  | cfgLoadWaveformTables => exact ⟨_, rfl, Keeps.cfgLoadWaveformTablesEff .refl⟩
  | cfgLoadQueueConfiguration => exact ⟨_, rfl, Keeps.cfgLoadQueueConfigurationEff .refl⟩
  | cfgLoadCanRs485Configuration => exact ⟨_, rfl, Keeps.cfgLoadCanRs485ConfigurationEff .refl⟩
  | cfgLoadRiserConfiguration => exact ⟨_, rfl, Keeps.cfgLoadRiserConfigurationEff .refl⟩
  | cfgLoadTwinConfiguration => exact ⟨_, rfl, Keeps.cfgLoadTwinConfigurationEff .refl⟩
  | cfgLoadSafetyParameterSet => exact ⟨_, rfl, Keeps.cfgLoadSafetyParameterSetEff .refl⟩
  | cfgLoadChainTable => exact ⟨_, rfl, Keeps.cfgLoadChainTableEff .refl⟩
  | dspUpd => exact ⟨_, rfl, Keeps.dspUpdEff .refl⟩
  | dspUpdReadBack => exact ⟨_, rfl, Keeps.dspUpdReadBackEff .refl⟩
  | keyStage => exact ⟨_, rfl, Keeps.keyStageEff .refl⟩
  | keyCommit => exact ⟨_, rfl, Keeps.keyCommitEff .refl⟩
  | keyOpMac => exact ⟨_, rfl, Keeps.keyOpMacEff .refl⟩
  | keyOpVerify => exact ⟨_, rfl, Keeps.keyOpVerifyEff .refl⟩
  | keyOpWrap => exact ⟨_, rfl, Keeps.keyOpWrapEff .refl⟩
  | keyOpUnwrap => exact ⟨_, rfl, Keeps.keyOpUnwrapEff .refl⟩
  | keyOpDerive => exact ⟨_, rfl, Keeps.keyOpDeriveEff .refl⟩
  | keyOpCheck => exact ⟨_, rfl, Keeps.keyOpCheckEff .refl⟩
  | keyOpStatus => exact ⟨_, rfl, Keeps.keyOpStatusEff .refl⟩
  | keyOpErase => exact ⟨_, rfl, Keeps.keyOpEraseEff .refl⟩
  | fwChunkManifest => exact ⟨_, rfl, Keeps.fwChunkManifestEff .refl⟩
  | fwChunk => exact ⟨_, rfl, Keeps.fwChunkEff .refl⟩
  | fwChunkCancel => exact ⟨_, rfl, Keeps.fwChunkCancelEff .refl⟩
  | canTx => exact ⟨_, rfl, Keeps.canTxEff .refl⟩
  | serTx => exact ⟨_, rfl, Keeps.serTxEff .refl⟩
  | ethTx => exact ⟨_, rfl, Keeps.ethTxEff .refl⟩
  | packetWrite => exact ⟨_, rfl, Keeps.packetWriteEff .refl⟩
  | packetRead => exact ⟨_, rfl, Keeps.packetReadEff .refl⟩
  | cellPoisoned => exact ⟨_, rfl, Keeps.cellPoisonedEff .refl⟩
  | linkWordError => exact ⟨_, rfl, Keeps.linkWordErrorEff .refl⟩
  | linkAuditComplete => exact ⟨_, rfl, Keeps.linkAuditCompleteEff .refl⟩
  | queueFlush => exact ⟨_, rfl, Keeps.queueFlushEff .refl⟩
  | queueFlushComplete => exact ⟨_, rfl, Keeps.queueFlushCompleteEff .refl⟩
  | queueConfigurationApply => exact ⟨_, rfl, Keeps.queueConfigurationApplyEff .refl⟩
  | injectCorrectable => exact ⟨_, rfl, Keeps.injectCorrectableEff .refl⟩
  | injectUncorrectable => exact ⟨_, rfl, Keeps.injectUncorrectableEff .refl⟩
  | fieldLinkUp => exact ⟨_, rfl, Keeps.fieldLinkUpEff .refl⟩
  | fieldLinkDown => exact ⟨_, rfl, Keeps.linkDown .refl⟩
  | sqiUpdate => exact ⟨_, rfl, Keeps.sqiUpdateEff .refl⟩
  | plcaCycleStart => exact ⟨_, rfl, Keeps.plcaCycleStartEff .refl⟩
  | fieldFrameReceived => exact ⟨_, rfl, Keeps.fieldFrameReceivedEff .refl⟩
  | pointFrameTransmit => exact ⟨_, rfl, Keeps.pointFrameTransmitEff .refl⟩
  | nonpointFrameTransmit => exact ⟨_, rfl, Keeps.nonpointFrameTransmitEff .refl⟩
  | pwrctlPoll => exact ⟨_, rfl, Keeps.pwrctlPollEff .refl⟩
  | pwrctlFlt => exact ⟨_, rfl, Keeps.pwrctlFltEff .refl⟩
  | powerBackoffExpiry => exact ⟨_, rfl, Keeps.powerBackoffExpiryEff .refl⟩
  | faultCountClear => exact ⟨_, rfl, Keeps.faultCountClearEff .refl⟩
  | powerClear | powerCycle => exact ⟨_, rfl, Keeps.hostPwrCmd .refl⟩
  | powerCycleExpiry => exact ⟨_, rfl, Keeps.powerCycleExpiryEff .refl⟩
  | powerHold => exact ⟨_, rfl, Keeps.hostPwrCmd .refl⟩
  | mdioAccess => exact ⟨_, rfl, Keeps.mdioAccessEff .refl⟩
  | mdioComplete => exact ⟨_, rfl, Keeps.mdioCompleteEff .refl⟩
  | lgeTaskAssign => exact ⟨_, rfl, Keeps.lgeTaskAssignEff .refl⟩
  | regionFillComplete => exact ⟨_, rfl, Keeps.setF .refl⟩
  | lgeSetcrcRecompute => exact ⟨_, rfl, Keeps.setReg .refl⟩
  | lgeEnd | lgeNop | lgeLdk | lgeLd | lgeLdn | lgeAnd | lgeAndn | lgeOr | lgeOrn | lgeXor | lgeSt | lgeStn
  | lgeSet | lgeRst | lgeBro | lgeBrca | lgeBrco | lgeRe | lgeFe | lgeTon | lgeTof | lgeCtu | lgeCtd | lgeCres
  | lgeCmp | lgeMovk | lgeMov | lgeJc | lgeJnc => exact ⟨_, rfl, Keeps.lgeStep .refl⟩
  | turnBudgetExhausted => exact ⟨_, rfl, Keeps.turnBudgetExhaustedEff .refl⟩
  | slotAssign => exact ⟨_, rfl, Keeps.slotAssignEff .refl⟩
  | captureSegmentTag => exact ⟨_, rfl, Keeps.captureSegmentTagEff .refl⟩
  | cleTclRead => exact ⟨_, rfl, Keeps.cleTclReadEff .refl⟩
  | cleSetcrcRecompute => exact ⟨_, rfl, Keeps.setReg .refl⟩
  | cleCompute => exact ⟨_, rfl, Keeps.cleComputeEff .refl⟩
  | cleOutputWrite => exact ⟨_, rfl, Keeps.cleOutputWriteEff .refl⟩
  | pulseInputEdge => exact ⟨_, rfl, Keeps.pulseInputEdgeEff .refl⟩
  | pwmPeriodStart => exact ⟨_, rfl, Keeps.pwmPeriodStartEff .refl⟩
  | pwmConfigWrite => exact ⟨_, rfl, Keeps.pwmConfigWriteEff .refl⟩
  | pulseStart => exact ⟨_, rfl, Keeps.pulseStartEff .refl⟩
  | pulseEnd => exact ⟨_, rfl, Keeps.pulseEndEff .refl⟩
  | regularSaveComplete => exact ⟨_, rfl, Keeps.regularSaveCompleteEff .refl⟩
  | accumulatorClearRequest => exact ⟨_, rfl, Keeps.accumulatorClearRequestEff .refl⟩
  | intervalControlWrite => exact ⟨_, rfl, Keeps.intervalControlWriteEff .refl⟩
  | pulseOutputConfigWrite => exact ⟨_, rfl, Keeps.pulseOutputConfigWriteEff .refl⟩
  | theftWatchConfigWrite => exact ⟨_, rfl, Keeps.theftWatchConfigWriteEff .refl⟩
  | theftWatchClear => exact ⟨_, rfl, Keeps.theftWatchClearEff .refl⟩
  | theftWatchBurst => exact ⟨_, rfl, Keeps.theftWatchBurstEff .refl⟩
  | theftWatchEvaluation => exact ⟨_, rfl, Keeps.theftWatchEvaluationEff .refl⟩
  | safetyCycle => exact ⟨_, rfl, Keeps.safetyCycleEff .refl⟩
  | switchTestPulse => exact ⟨_, rfl, Keeps.switchTestPulseEff .refl⟩
  | safeInputTestPulse => exact ⟨_, rfl, Keeps.safeInputTestPulseEff .refl⟩
  | safetyMessageCopy => exact ⟨_, rfl, Keeps.safetyMessageCopyEff .refl⟩
  | copyMissing => exact ⟨_, rfl, Keeps.copyMissingEff .refl⟩
  | degradedTimerExpiry => exact ⟨_, rfl, Keeps.degradedTimerExpiryEff .refl⟩
  | degradedTimerRestore => exact ⟨_, rfl, Keeps.degradedTimerRestoreEff .refl⟩
  | streamWatchdog => exact ⟨_, rfl, Keeps.streamWatchdogEff .refl⟩
  | safetyMessageSend => exact ⟨_, rfl, Keeps.safetyMessageSendEff .refl⟩
  | requestUpdate => exact ⟨_, rfl, Keeps.requestUpdateEff .refl⟩
  | safLinkTimeout => exact ⟨_, rfl, Keeps.safLinkTimeoutEff .refl⟩
  | brakeTestDelayExpiry => exact ⟨_, rfl, Keeps.brakeTestDelayExpiryEff .refl⟩
  | brakeTestWindowEnd => exact ⟨_, rfl, Keeps.brakeTestWindowEndEff .refl⟩
  | brakeTestDue => exact ⟨_, rfl, Keeps.brakeTestDueEff .refl⟩
  | brakeTestOverdue => exact ⟨_, rfl, Keeps.brakeTestOverdueEff .refl⟩
  | localReset => exact ⟨_, rfl, Keeps.localResetEff .refl⟩
  | safOeactRise => exact ⟨_, rfl, Keeps.safOeactRiseEff .refl⟩
  | islandStart => exact ⟨_, rfl, Keeps.islandStartEff .refl⟩
  | riserFrameReceived => exact ⟨_, rfl, Keeps.riserFrameReceivedEff .refl⟩
  | riserFrameTransmit => exact ⟨_, rfl, Keeps.riserFrameTransmitEff .refl⟩
  | pauseExpiry => exact ⟨_, rfl, Keeps.pauseExpiryEff .refl⟩
  | prpSupervisionSend => exact ⟨_, rfl, Keeps.prpSupervisionSendEff .refl⟩
  | publicationSend => exact ⟨_, rfl, Keeps.publicationSendEff .refl⟩
  | publicationLateCheck => exact ⟨_, rfl, Keeps.publicationLateCheckEff .refl⟩
  | transmitUnderrun => exact ⟨_, rfl, Keeps.transmitUnderrunEff .refl⟩
  | riserLinkUp => exact ⟨_, rfl, Keeps.riserLinkUpEff .refl⟩
  | riserLinkDown => exact ⟨_, rfl, Keeps.riserLinkDownEff .refl⟩
  | opticInserted => exact ⟨_, rfl, Keeps.opticInsertedEff .refl⟩
  | rsrCntlRead => exact ⟨_, rfl, Keeps.rsrCntlReadEff .refl⟩
  | claim => exact ⟨_, rfl, Keeps.claimEff .refl⟩
  | peerActRise => exact ⟨_, rfl, Keeps.peerActRiseEff .refl⟩
  | contentionWithdraw => exact ⟨_, rfl, Keeps.contentionWithdrawEff .refl⟩
  | activeContentionTimeout => exact ⟨_, rfl, Keeps.activeContentionTimeoutEff .refl⟩
  | confirmWindowEnd => exact ⟨_, rfl, Keeps.confirmWindowEndEff .refl⟩
  | canModeSwitch => exact ⟨_, rfl, Keeps.canModeSwitchEff .refl⟩
  | configSignatureRecompute => exact ⟨_, rfl, Keeps.configSignatureRecomputeEff .refl⟩
  | dropAct => exact ⟨_, rfl, Keeps.dropActEff .refl⟩
  | yield => exact ⟨_, rfl, Keeps.yieldEff .refl⟩
  | twinLinkUp => exact ⟨_, rfl, Keeps.twinLinkUpEff .refl⟩
  | twinLinkDown => exact ⟨_, rfl, Keeps.twinLinkDownEff .refl⟩
  | eventReport => exact ⟨_, rfl, Keeps.eventReportEff .refl⟩
  | recordWrite => exact ⟨_, rfl, Keeps.recordWriteEff .refl⟩
  | eventDelivery => exact ⟨_, rfl, Keeps.eventDeliveryEff .refl⟩
  | bucketRefill => exact ⟨_, rfl, Keeps.bucketRefillEff .refl⟩
  | bucketWrite => exact ⟨_, rfl, Keeps.bucketWriteEff .refl⟩
  | keepClear => exact ⟨_, rfl, Keeps.keepClearEff .refl⟩
  | displayFrameStart => exact ⟨_, rfl, Keeps.displayFrameStartEff .refl⟩
  | thermistorSample => exact ⟨_, rfl, Keeps.thermistorSampleEff .refl⟩
  | panelEnable => exact ⟨_, rfl, Keeps.panelEnableEff .refl⟩
  | panelDisable => exact ⟨_, rfl, Keeps.panelDisableEff .refl⟩
  | pwrgdRise => exact ⟨_, rfl, Keeps.pwrgdRiseEff .refl⟩
  | vcomEnableDelay => exact ⟨_, rfl, Keeps.vcomEnableDelayEff .refl⟩
  | pwrgdTimeout => exact ⟨_, rfl, Keeps.pwrgdTimeoutEff .refl⟩
  | pwrgdLost => exact ⟨_, rfl, Keeps.pwrgdLostEff .refl⟩
  | powerdownDelayExpiry => exact ⟨_, rfl, Keeps.powerdownDelayExpiryEff .refl⟩
  | pwrenOffDelay => exact ⟨_, rfl, Keeps.pwrenOffDelayEff .refl⟩
  | crackMeasurement => exact ⟨_, rfl, Keeps.crackMeasurementEff .refl⟩
  | canFrameReceived => exact ⟨_, rfl, Keeps.canFrameReceivedEff .refl⟩
  | canFrameTransmitted => exact ⟨_, rfl, Keeps.canFrameTransmittedEff .refl⟩
  | canBusError => exact ⟨_, rfl, Keeps.canBusErrorEff .refl⟩
  | busOffRecoveryComplete => exact ⟨_, rfl, Keeps.busOffRecoveryCompleteEff .refl⟩
  | canRecover => exact ⟨_, rfl, Keeps.canRecoverEff .refl⟩
  | mailboxWindowLock => exact ⟨_, rfl, Keeps.mailboxWindowLockEff .refl⟩
  | mailboxWindowRelease => exact ⟨_, rfl, Keeps.mailboxWindowReleaseEff .refl⟩
  | mailboxSelect => exact ⟨_, rfl, Keeps.mailboxSelectEff .refl⟩
  | serFrameEnd => exact ⟨_, rfl, Keeps.serFrameEndEff .refl⟩
  | serBurstStart => exact ⟨_, rfl, Keeps.serBurstStartEff .refl⟩
  | serDriverRelease => exact ⟨_, rfl, Keeps.serDriverReleaseEff .refl⟩
  | legacyConfigurationApply => exact ⟨_, rfl, Keeps.legacyConfigurationApplyEff .refl⟩
  | keySlotAttributeWrite => exact ⟨_, rfl, Keeps.keySlotAttributeWriteEff .refl⟩
  | chainMpart => exact ⟨_, rfl, Keeps.chainMpartEff .refl⟩
  | chainData => exact ⟨_, rfl, Keeps.chainDataEff .refl⟩
  | chainAck => exact ⟨_, rfl, Keeps.chainAckEff .refl⟩
  | chainNak => exact ⟨_, rfl, Keeps.chainNakEff .refl⟩
  | chainCancel => exact ⟨_, rfl, Keeps.chainCancelEff .refl⟩
  | chainBusy => exact ⟨_, rfl, Keeps.chainBusyEff .refl⟩
  | hopTimeout => exact ⟨_, rfl, Keeps.hopTimeoutEff .refl⟩
  | updArm => exact ⟨_, rfl, Keeps.updArmEff .refl⟩
  | updDisarm => exact ⟨_, rfl, Keeps.updDisarmEff .refl⟩
  | updActivate => exact ⟨_, rfl, Keeps.updActivateEff .refl⟩
  | updConfirm => exact ⟨_, rfl, Keeps.updConfirmEff .refl⟩
  | updServe => exact ⟨_, rfl, Keeps.updServeEff .refl⟩
  | bootConfirmed => exact ⟨_, rfl, Keeps.bootConfirmedEff .refl⟩
  | confirmTimeout => exact ⟨_, rfl, Keeps.confirmTimeoutEff .refl⟩
  | loaderGo => exact ⟨_, rfl, Keeps.loaderGoEff .refl⟩
  | loaderCheckComplete => exact ⟨_, rfl, Keeps.loaderCheckCompleteEff .refl⟩
  | powerOnReset => exact ⟨_, rfl, Keeps.powerOnResetEff .refl⟩
  | systemReset => exact ⟨_, rfl, Keeps.systemResetEff .refl⟩
  | rstCtlSysrst => exact ⟨_, rfl, Keeps.rstCtlSysrstEff .refl⟩
  | rstCtlCorerst => exact ⟨_, rfl, Keeps.rstCtlCorerstEff .refl⟩
  | coreWatchdogExpiry => exact ⟨_, rfl, Keeps.coreWatchdogExpiryEff .refl⟩
  | coreResetEnd => exact ⟨_, rfl, Keeps.coreResetEndEff .refl⟩
  | resetRelease => exact ⟨_, rfl, Keeps.resetReleaseEff .refl⟩
  | startComplete => exact ⟨_, rfl, Keeps.startCompleteEff .refl⟩
  | externalReferenceFallback => exact ⟨_, rfl, Keeps.externalReferenceFallbackEff .refl⟩
  | referenceLost => exact ⟨_, rfl, Keeps.referenceLostEff .refl⟩
  | referenceRestored => exact ⟨_, rfl, Keeps.referenceRestoredEff .refl⟩
  | serdesLockLost => exact ⟨_, rfl, Keeps.serdesLockLostEff .refl⟩
  | blockResetAssert => exact ⟨_, rfl, Keeps.blockResetAssertEff .refl⟩
  | blockReleaseRequest => exact ⟨_, rfl, Keeps.blockReleaseRequestEff .refl⟩
  | blockRelease => exact ⟨_, rfl, Keeps.blockReleaseEff .refl⟩
  | vmainWarning => exact ⟨_, rfl, Keeps.vmainWarningEff .refl⟩
  | warningEnd => exact ⟨_, rfl, Keeps.warningEndEff .refl⟩
  | supplyMeasurement => exact ⟨_, rfl, Keeps.supplyMeasurementEff .refl⟩
  | debugUnlock => exact ⟨_, rfl, Keeps.debugUnlockEff .refl⟩
  | peerActFall => exact ⟨_, rfl, Keeps.peerActFallEff .refl⟩
  | frameRecordReceived => exact ⟨_, rfl, Keeps.frameRecordReceivedEff .refl⟩
  | returnRecordReceived => exact ⟨_, rfl, Keeps.returnRecordReceivedEff .refl⟩
  | islandSelfTestComplete => exact ⟨_, rfl, Keeps.islandSelfTestCompleteEff .refl⟩
  | mrpRingOpenDetected => exact ⟨_, rfl, Keeps.mrpRingOpenDetectedEff .refl⟩
  | syncTransmit => exact ⟨_, rfl, Keeps.syncTransmitEff .refl⟩

theorem Keeps.of_exec {c : Instr} {s t : State} (e : exec c s = .next t) : Keeps s t := by
  obtain ⟨u, eu, h⟩ := exec_keeps c s
  cases eu.symm.trans e
  exact h

/-- Settles O57: the step of an empty queue and each of the rows keep the canonical form. -/
theorem everyStepKeepsCanonical : Obligations.EveryStepKeepsCanonical := by
  intro s t hs e
  unfold step at e
  split at e
  · cases e
    exact Keeps.refl.idle.canonical hs
  · exact (Keeps.of_exec e).canonical hs

/-- Settles O58: no row changes the waiting commands or the variant, and a step takes the command at the front. -/
theorem stepKeepsQueueAndVariant : Obligations.StepKeepsQueueAndVariant := by
  refine ⟨fun c s t e => ⟨(Keeps.of_exec e).pending, (Keeps.of_exec e).variant⟩, fun s t e => ?_⟩
  unfold step at e
  split at e
  · next hp =>
    cases e
    have h : Keeps s s.idle := Keeps.refl.idle
    exact ⟨by rw [h.pending, hp, List.tail_nil], h.variant⟩
  · next c rest hp => exact ⟨by rw [(Keeps.of_exec e).pending, hp, List.tail_cons], (Keeps.of_exec e).variant⟩

end Sys2Proof.Machine
end

section
namespace Sys2Proof.Machine

/-! ## A mailbox lock outside the controllers

The release of a mailbox lock (R588) writes the status register of the mailbox that the lock names. The state holds the locks as
plain numbers, so a lock of a controller that CAN_MBSELx cannot name leads outside the unit's blocks 20 and 21. -/

/-- Both ports hold the lock of a mailbox of "controller 32", whose CAN_MBSTx would lie in block 22. No run reaches such a state:
CAN_MBSELx names the controllers 0 to 3. The statement speaks of every state. -/
def strayLocks : State :=
  { State.reset.setReg Reg.RST_BLKSTAT 0 with
    can := { CanSt.reset none with locks := [(.hp0, 32, 0), (.hp1, 32, 0)] } }

theorem CAN_MBST_stray_block : Reg.CAN_MBST 32 0 / 0x10000 = 22 := by decide

/-- When port 0 releases its lock, the lock of port 1 is shown in the register of block 22. -/
theorem mailboxSelect_strayLocks :
    (mailboxSelectEff .hp0 0 strayLocks).reg (Reg.CAN_MBST 32 0) ≠ strayLocks.reg (Reg.CAN_MBST 32 0) := by decide

/-- Refutes O59: MAILBOX_SELECT in `strayLocks` changes a register of block 22, which is none of the legacy unit's. -/
theorem not_unitRowsStayInTheirBlocks : ¬ Obligations.UnitRowsStayInTheirBlocks := by
  intro h
  obtain ⟨-, hreg⟩ := h (.mailboxSelect .hp0 0) .legacy strayLocks _ rfl rfl
  refine mailboxSelect_strayLocks (hreg _ ?_)
  rw [CAN_MBST_stray_block]
  decide

end Sys2Proof.Machine
end

section
namespace Sys2Proof.Machine

/-! ## Host reads (O5) -/

variable {s : State} {x : HPort} {off size : Nat}

/-! ### Where the map has a register, and whose unit it belongs to -/

theorem Reg.row?_elem {r : RegRow} {i : Nat} (hr : r ∈ Reg.blockRows ((r.base + r.stride * i) / 0x10000))
    (hi : i < r.count) (hs : 0 < r.stride) : (Reg.row? (r.base + r.stride * i)).isSome = true := by
  rw [Reg.row?, List.find?_isSome]
  exact ⟨r, hr, RegRow.covers_elem hi hs⟩

/-- Only the field ports and the units of R29 that a variant may lack have absent registers. -/
theorem Variant.absent_fitted {v : Variant} (h : off / 0x10000 ∉ [9, 14, 15, 19]) : v.absent off = false := by
  simp only [List.mem_cons, List.not_mem_nil, or_false, not_or] at h
  obtain ⟨h9, h14, h15, h19⟩ := h
  simp [Variant.absent, Variant.lacks, h9, h14, h15, h19]

theorem State.noReg_fitted (hr : (Reg.row? off).isSome = true) (hb : off / 0x10000 ∉ [9, 14, 15, 19]) :
    s.noReg off = false := by
  rw [State.noReg, Option.isNone_eq_false_iff.2 hr, Variant.absent_fitted hb]
  rfl

theorem isDoorbell_low (h : off < 0x800000) : isDoorbell off = false := by
  simp [isDoorbell, Nat.not_le.2 h]

theorem arr?_outside {base n stride : Nat} (h : off < base ∨ base + n * stride ≤ off) : arr? off base n stride = none := by
  rw [arr?, if_neg]
  simp only [Bool.and_eq_true, decide_eq_true_eq]
  omega

/-! ### What a read answers -/

theorem rcFieldRead_bar0 (h : off < 0x1000000) : exec (.rcFieldRead x off size) s = .next (s.hostRead x off size) := by
  have hl : ¬ 0x1000000 ≤ off := by omega
  simp [exec, execRcFieldRead, rcFieldReadEff, hl]

theorem State.hostRead_noReg (hd : isDoorbell (off - off % 4) = false) (hr : s.noReg (off - off % 4) = true) :
    s.hostRead x off size = s.showRead x off size 0 := by
  simp [State.hostRead, hd, hr]

theorem State.hostRead_inReset (hd : isDoorbell (off - off % 4) = false) (hr : s.noReg (off - off % 4) = false)
    (hb : s.inReset ((off - off % 4) / 0x10000) = true) :
    s.hostRead x off size =
      if (arr? (off - off % 4) (Reg.EVR_RWIN 0 0) 8 4).isSome || (arr? (off - off % 4) (Reg.EVR_RWIN 1 0) 8 4).isSome then
        s.showRead x off size 0
      else s.emit (.completerAbort x off) := by
  simp [State.hostRead, hd, hr, hb]

theorem State.readAct_plain
    (h : [Reg.RTC_FRAC, Reg.TCK_CUR, Reg.CLE_TCL, Reg.CAN_MBWIN x.num 0, Reg.CAN_MBWIN x.num 20].contains off = false)
    (hc : arr? off (Reg.RSR_CNTL 0) 48 8 = none) (hp : arr? off (Reg.RSR_PSTAT 0) 4 4 = none)
    (ht : arr? off (Reg.SER_STAT 0) 8 0x100 = none) : s.readAct x off = s.clearRc off := by
  simp only [List.contains_eq_mem, List.mem_cons, List.not_mem_nil, or_false, decide_eq_false_iff_not, not_or] at h
  obtain ⟨hfrac, hcur, htcl, hwin, hrel⟩ := h
  simp [State.readAct, hfrac, hcur, htcl, hwin, hrel, hc, hp, ht]

/-! ### The recorder's windows (R553) -/

/-- The row of the recorder's window of port `p`, EVR_RWIN (R557). -/
def Reg.evrRwinRow (p : Nat) : RegRow := ⟨Reg.EVR_RWIN p 0, 8, 0x4, .sys, 0x0, [⟨31, 0, .ro, []⟩]⟩

theorem Reg.EVR_RWIN_block {p i : Nat} (hp : p < 2) (hi : i < 8) : Reg.EVR_RWIN p i / 0x10000 = 18 := by
  simp only [Reg.EVR_RWIN]; omega

theorem Reg.evrRwinRow_mem {p : Nat} (hp : p < 2) : Reg.evrRwinRow p ∈ Reg.blockRows 18 := by
  revert p
  decide

theorem State.noReg_EVR_RWIN {p i : Nat} (hp : p < 2) (hi : i < 8) : s.noReg (Reg.EVR_RWIN p i) = false := by
  have hb := Reg.EVR_RWIN_block hp hi
  refine State.noReg_fitted (Reg.row?_elem (r := Reg.evrRwinRow p) (i := i) ?_ hi (by decide : 0 < 4)) (by rw [hb]; decide)
  exact hb.symm ▸ Reg.evrRwinRow_mem hp

theorem arr?_EVR_RWIN {p i : Nat} (hp : p < 2) (hi : i < 8) :
    ((arr? (Reg.EVR_RWIN p i) (Reg.EVR_RWIN 0 0) 8 4).isSome ||
      (arr? (Reg.EVR_RWIN p i) (Reg.EVR_RWIN 1 0) 8 4).isSome) = true := by
  have h : arr? (Reg.EVR_RWIN p i) (Reg.EVR_RWIN p 0) 8 4 = some i := arr?_elem hi (by decide)
  obtain rfl | rfl : p = 0 ∨ p = 1 := by omega
  · simp [h]
  · simp [h]

theorem State.hostRead_EVR_RWIN {p i : Nat} (hp : p < 2) (hi : i < 8) (hb : s.inReset 18 = true) :
    s.hostRead x (Reg.EVR_RWIN p i) 4 = s.showRead x (Reg.EVR_RWIN p i) 4 0 := by
  have hk := Reg.EVR_RWIN_block hp hi
  have h4 : Reg.EVR_RWIN p i - Reg.EVR_RWIN p i % 4 = Reg.EVR_RWIN p i := by simp only [Reg.EVR_RWIN]; omega
  rw [State.hostRead_inReset] <;> rw [h4]
  · rw [if_pos (arr?_EVR_RWIN hp hi)]
  · exact isDoorbell_low (by omega)
  · exact State.noReg_EVR_RWIN hp hi
  · rw [hk, hb]

/-! ### The counter of dropped packets (R199) -/

/-- The row of QPL_QDROP (R199). -/
def Reg.qplQdropRow : RegRow := ⟨0x86000, 1024, 0x4, .sys, 0x0, [⟨31, 0, .rc, []⟩]⟩

theorem Reg.QPL_QDROP_range (q : Fin 1024) : 0x86000 ≤ Reg.QPL_QDROP q ∧ Reg.QPL_QDROP q < 0x87000 := by
  simp only [Reg.QPL_QDROP]; omega

theorem State.noReg_QPL_QDROP (q : Fin 1024) : s.noReg (Reg.QPL_QDROP q) = false := by
  have hb : Reg.QPL_QDROP q / 0x10000 = 8 := by have := Reg.QPL_QDROP_range q; omega
  refine State.noReg_fitted (Reg.row?_elem (r := Reg.qplQdropRow) (i := q) ?_ q.isLt (by decide)) (by rw [hb]; decide)
  exact hb.symm ▸ (by decide : Reg.qplQdropRow ∈ Reg.blockRows 8)

/-- No other part of the state is shown in the registers of 0x85000 to 0x9FFFF. -/
theorem State.viewReg_stored (hl : 0x85000 ≤ off) (hh : off < 0xA0000) : s.viewReg x off = s.reg off := by
  have hne : ∀ r, r < 0x85000 ∨ 0xA0000 ≤ r → off ≠ r := by omega
  have ha : ∀ base n stride, base + n * stride ≤ 0x85000 ∨ 0xA0000 ≤ base → arr? off base n stride = none :=
    fun base n stride h => arr?_outside (by omega)
  unfold State.viewReg
  simp (disch := decide) only [hne, ha, if_false]

theorem State.readAct_QPL_QDROP (q : Fin 1024) : s.readAct x (Reg.QPL_QDROP q) = s.clearRc (Reg.QPL_QDROP q) := by
  have hq := Reg.QPL_QDROP_range q
  refine State.readAct_plain ?_ (arr?_outside ?_) (arr?_outside ?_) (arr?_outside ?_)
  · simp only [List.contains_eq_mem, List.mem_cons, List.not_mem_nil, or_false, decide_eq_false_iff_not]
    simp only [Reg.RTC_FRAC, Reg.TCK_CUR, Reg.CLE_TCL, Reg.CAN_MBWIN]
    omega
  · simp only [Reg.RSR_CNTL]; omega
  · simp only [Reg.RSR_PSTAT]; omega
  · simp only [Reg.SER_STAT]; omega

theorem rcFieldRead_QPL_QDROP (q : Fin 1024) (hb : s.inReset 8 = false) :
    exec (.rcFieldRead x (Reg.QPL_QDROP q) 4) s =
      .next ((s.clearRc (Reg.QPL_QDROP q)).showRead x (Reg.QPL_QDROP q) 4
        (hideWo (Reg.QPL_QDROP q) (s.reg (Reg.QPL_QDROP q)))) := by
  obtain ⟨hl, hh⟩ := Reg.QPL_QDROP_range q
  have hk : Reg.QPL_QDROP q / 0x10000 = 8 := by omega
  have h4 : Reg.QPL_QDROP q - Reg.QPL_QDROP q % 4 = Reg.QPL_QDROP q := by simp only [Reg.QPL_QDROP]; omega
  rw [rcFieldRead_reg] <;> rw [h4]
  · rw [State.readAct_QPL_QDROP, State.viewReg_stored (by omega) (by omega)]
  · exact isDoorbell_low (by omega)
  · exact State.noReg_QPL_QDROP q
  · rw [hk, hb]

/-- Settles O5. -/
theorem registerReadShowsAndClears : Obligations.RegisterReadShowsAndClears := by
  refine ⟨?absent, ?inReset, ?window, ?action, ?reg, ?qdrop⟩
  case absent =>
    intro x off size s hl hd hr
    rw [rcFieldRead_bar0 hl, State.hostRead_noReg hd hr]
  case inReset =>
    intro x off size s hl hd hr hb h0 h1
    rw [rcFieldRead_bar0 hl, State.hostRead_inReset hd hr hb, h0, h1]
    rfl
  case window =>
    intro x p i s hp hi hb
    have := Reg.EVR_RWIN_block hp hi
    rw [rcFieldRead_bar0 (by omega), State.hostRead_EVR_RWIN hp hi hb]
  case action => exact fun x off s h hc hp ht => State.readAct_plain h hc hp ht
  case reg => exact fun x off size s _ hd hr hb => rcFieldRead_reg hd hr hb
  case qdrop => exact fun x q s hb => rcFieldRead_QPL_QDROP q hb

end Sys2Proof.Machine
end

section
namespace Sys2Proof.Machine

/-! ## Memory errors and blocking (O6) -/

variable {s : State}

theorem State.haltRunning_of_not_run {t cause : Nat} (h : s.taskState t ≠ 1) : s.haltRunning t cause = s := by
  simp [State.haltRunning, h]

theorem uncorrectableErrorEff_slot (i : Fin 256) :
    uncorrectableErrorEff (.slot i) s = if s.slotState i = 1 then s.slotFaultNow i 5 else s := rfl

theorem uncorrectableErrorEff_task (t : Fin 16) (w : Fin 3) :
    uncorrectableErrorEff (.task t w) s = s.haltRunning t (if w.val = 0 then 5 else 6) := rfl

theorem exec_uncorrectableError (r : MemRegion) : exec (.uncorrectableError r) s = .next (uncorrectableErrorEff r s) := rfl

theorem exec_blockingExceeded (cls wait blk : Nat) :
    exec (.blockingExceeded cls wait blk) s = .next
      (if cls ≤ 4 then (s.setF F.SYS_STAT_BLKEXC 1).report 0x0001 0 (wd cls) (wd wait) (wd blk) else s) := rfl

/-- Settles O6. -/
theorem memoryErrorsCountAndReport : Obligations.MemoryErrorsCountAndReport := by
  refine ⟨?cells, ?engines, ?capture, ?uncounted, ?slotRuns, ?slotStopped, ?image, ?noReaction, ?taskStopped, ?taskRuns,
    ?poison, ?selfDiagnosis, ?otherClass, ?blocked⟩
  case cells => exact fun q s => rfl
  case engines => exact fun t w i s => ⟨rfl, rfl⟩
  case capture => exact fun j s => rfl
  case uncounted => exact fun i c b s => ⟨rfl, rfl, rfl, rfl, rfl⟩
  case slotRuns =>
    intro i s h
    rw [exec_uncorrectableError, uncorrectableErrorEff_slot, if_pos h]
  case slotStopped =>
    intro i s h
    rw [exec_uncorrectableError, uncorrectableErrorEff_slot, if_neg h]
  case image => exact fun i s => rfl
  case noReaction => exact fun j c b s => ⟨rfl, rfl, rfl⟩
  case taskStopped =>
    intro t w s h
    rw [exec_uncorrectableError, uncorrectableErrorEff_task, State.haltRunning_of_not_run h]
  case taskRuns =>
    intro t w s _
    rw [exec_uncorrectableError, uncorrectableErrorEff_task]
  case poison => exact fun q s => rfl
  case selfDiagnosis => exact fun s => ⟨rfl, rfl⟩
  case otherClass =>
    intro cls wait blk s h
    rw [exec_blockingExceeded, if_neg (by omega)]
  case blocked =>
    intro cls wait blk s h
    rw [exec_blockingExceeded, if_pos h]

end Sys2Proof.Machine
end

section
namespace Sys2Proof.Machine

/-! ## Registers and fields after an update -/

variable {s : State} {f g : Fld} {n o : Nat}

/-- Registers are read from the stored words and the variant alone. -/
theorem State.reg_congr {t : State} (hv : t.variant = s.variant) (hr : t.regs = s.regs) : t.reg o = s.reg o := by
  rw [State.reg, State.reg, hv, hr]

theorem State.rf_congr {t : State} (h : t.reg f.off = s.reg f.off) : t.rf f = s.rf f := by
  rw [State.rf, State.rf, h]

theorem State.on_congr {t : State} (h : t.reg f.off = s.reg f.off) : t.on f = s.on f := by
  rw [State.on, State.on, State.rf_congr h]

theorem State.reg_setF_other (h : o ≠ f.off) : (s.setF f n).reg o = s.reg o := State.reg_setReg_other h

theorem State.on_setF_one (h : f.lo = f.hi) (h32 : f.hi < 32) : (s.setF f 1).on f = true := by
  have hw : f.hi + 1 - f.lo = 1 := by omega
  simp [State.on, State.rf_setF_same (Nat.le_of_eq h) h32, hw]

theorem State.on_setF_zero (h : f.lo ≤ f.hi) (h32 : f.hi < 32) : (s.setF f 0).on f = false := by
  simp [State.on, State.rf_setF_same h h32]

theorem State.on_setF_other (h : f.lo ≤ f.hi) (h32 : f.hi < 32) (hg : g.off ≠ f.off ∨ g.hi < f.lo ∨ f.hi < g.lo) :
    (s.setF f n).on g = s.on g := by
  rw [State.on, State.on, State.rf_setF_other h h32 hg]

theorem State.reg_withTime {τ : TimeSt} : ({ s with time := τ } : State).reg o = s.reg o := State.reg_congr rfl rfl

@[simp] theorem State.setCount_reg : (s.setCount n).reg o = s.reg o := State.reg_withTime

theorem State.setCount_time :
    (s.setCount n).time = { s.time with sec := BitVec.ofNat 48 (n / 2 ^ 32), frac := wd (n % 2 ^ 32) } := rfl

@[simp] theorem State.useFree_reg : s.useFree.reg o = s.reg o := State.reg_congr rfl rfl

@[simp] theorem State.noteLate_reg {b : Bool} : (s.noteLate n b).reg o = s.reg o := State.reg_withTime

@[simp] theorem State.signalUnit_reg {b : Nat} : (s.signalUnit b).reg o = s.reg o :=
  State.reg_congr State.signalUnit_variant State.signalUnit_regs

@[simp] theorem State.signalUnit_time {b : Nat} : (s.signalUnit b).time = s.time := by
  rw [State.signalUnit_sinks]; rfl

@[simp] theorem State.report_time {code part : Nat} {a b c : Word} : (s.report code part a b c).time = s.time := by
  rw [State.report_sinks]; rfl

@[simp] theorem State.setF_count : (s.setF f n).count = s.count := by
  rw [State.count, State.setF_time, State.count]

@[simp] theorem State.noteLate_count {b : Bool} : (s.noteLate n b).count = s.count := by
  simp only [State.count, State.noteLate]

/-- A report changes no field outside EVR_LOST and EVR_STAT. -/
theorem State.report_on {code part : Nat} {a b c : Word} (h : f.off ≠ Reg.EVR_LOST) (k : f.off ≠ Reg.EVR_STAT) :
    (s.report code part a b c).on f = s.on f :=
  State.on_congr (State.report_reg h k)

end Sys2Proof.Machine
end

section
namespace Sys2Proof.Machine

/-! ## Alarms (R62 to R64) -/

variable {s : State} {i : Fin 8}

/-- An alarm's own marks: ARM is 0 and FIRED is 1. -/
def State.alarmFired (s : State) (i : Fin 8) : State :=
  ((s.reachAlarm i).setF (F.RTC_ALMCTL_ARM i) 0).setF (regBit Reg.RTC_ALMSTAT i) 1

/-- The marks of an alarm that may fire late: SKIP as well. -/
def State.alarmMarked (s : State) (i : Fin 8) : State :=
  if bitOf s.time.lateAlarms i then ((s.alarmFired i).setF (regBit Reg.RTC_ALMSTAT (8 + i)) 1).noteLate i false
  else s.alarmFired i

/-- A firing alarm tells the recorder. -/
def State.alarmEvent (s : State) (i : Fin 8) (late : Bool) : State :=
  if s.on (F.RTC_ALMCTL_EVT i) then s.report 0x0401 0 (wd i) (wd (ofBool late)) (s.reg (Reg.RTC_ALMSECL i)) else s

/-- A firing alarm signals RTC's vector. -/
def State.alarmVector (s : State) (i : Fin 8) : State :=
  if s.on (F.RTC_ALMCTL_MSIX i) then s.signalUnit 4 else s

/-- An update that the alarm schedules is activated. -/
def State.alarmUpdate (s : State) (i : Fin 8) : State :=
  if s.on F.UPD_CTL_ALMEN && s.rf F.UPD_CTL_ALM = i then s.activate else s

theorem exec_alarmFire (h : s.alarmDue i = true) :
    exec (.alarmFire i) s =
      .next ((((s.alarmMarked i).alarmEvent i (bitOf s.time.lateAlarms i)).alarmVector i).alarmUpdate i) := by
  have hdue : ¬ (!s.alarmDue i) = true := by simp [h]
  have he : exec (.alarmFire i) s = .next (alarmFireEff i s) := rfl
  rw [he, alarmFireEff, if_neg hdue]
  rfl

/-! ### The marks -/

theorem Reg.RTC_ALMCTL_range (i : Fin 8) : 0x40108 ≤ Reg.RTC_ALMCTL i ∧ Reg.RTC_ALMCTL i < 0x40188 := by
  simp only [Reg.RTC_ALMCTL]; omega

theorem Reg.RTC_ALMCTL_ne_ALMSTAT (i : Fin 8) : Reg.RTC_ALMCTL i ≠ Reg.RTC_ALMSTAT := by
  have := Reg.RTC_ALMCTL_range i
  simp only [Reg.RTC_ALMSTAT]; omega

theorem Reg.RTC_ALMCTL_ne_EVR (i : Fin 8) : Reg.RTC_ALMCTL i ≠ Reg.EVR_LOST ∧ Reg.RTC_ALMCTL i ≠ Reg.EVR_STAT := by
  have := Reg.RTC_ALMCTL_range i
  simp only [Reg.EVR_LOST, Reg.EVR_STAT]; omega

theorem Reg.UPD_CTL_ne_ALMCTL (i : Fin 8) : Reg.UPD_CTL ≠ Reg.RTC_ALMCTL i := by
  have := Reg.RTC_ALMCTL_range i
  simp only [Reg.UPD_CTL]; omega

theorem Reg.RTC_ALMSECL_ne (i : Fin 8) : Reg.RTC_ALMSECL i ≠ Reg.RTC_ALMCTL i ∧ Reg.RTC_ALMSECL i ≠ Reg.RTC_ALMSTAT := by
  simp only [Reg.RTC_ALMSECL, Reg.RTC_ALMCTL, Reg.RTC_ALMSTAT]; omega

@[simp] theorem State.reachAlarm_reg {k o : Nat} : (s.reachAlarm k).reg o = s.reg o := by
  unfold State.reachAlarm
  split
  · rfl
  · exact State.setCount_reg

theorem State.count_setCount {n : Nat} (h : n < 2 ^ 80) : (s.setCount n).count = n := by
  simp only [State.count, State.setCount, wd, BitVec.toNat_ofNat]
  omega

theorem State.alarmTime_lt {k : Nat} : s.alarmTime k < 2 ^ 64 := by
  have hl := (s.reg (Reg.RTC_ALMSECL k)).isLt
  have hh : s.rf (F.RTC_ALMSECH_SEC k) < 2 ^ 16 := Nat.mod_lt _ (Nat.two_pow_pos _)
  have hf : s.rf (F.RTC_ALMSECH_FRAC k) < 2 ^ 16 := Nat.mod_lt _ (Nat.two_pow_pos _)
  unfold State.alarmTime
  omega

theorem State.alarmTime_le_reachAlarm {k : Nat} : s.alarmTime k ≤ (s.reachAlarm k).alarmCount := by
  unfold State.reachAlarm
  split
  · assumption
  · have := s.alarmTime_lt (k := k)
    rw [State.alarmCount, State.count_setCount (by omega)]
    omega

theorem State.alarmMarked_intime (h : bitOf s.time.lateAlarms i = false) : s.alarmMarked i = s.alarmFired i := by
  simp [State.alarmMarked, h]

theorem State.alarmMarked_alarmCount : (s.alarmMarked i).alarmCount = (s.reachAlarm i).alarmCount := by
  unfold State.alarmMarked State.alarmFired State.alarmCount
  split <;> simp only [State.noteLate_count, State.setF_count]

theorem State.alarmFired_reg {o : Nat} (h : o ≠ Reg.RTC_ALMCTL i) (k : o ≠ Reg.RTC_ALMSTAT) :
    (s.alarmFired i).reg o = s.reg o := by
  rw [State.alarmFired, State.reg_setF_other k, State.reg_setF_other h, State.reachAlarm_reg]

/-- Firing leaves the alarm's EVT and MSIX. -/
theorem State.alarmFired_on {b : Nat} (hb : 0 < b) :
    (s.alarmFired i).on ⟨Reg.RTC_ALMCTL i, b, b⟩ = s.on ⟨Reg.RTC_ALMCTL i, b, b⟩ := by
  rw [State.alarmFired, State.on_congr (State.reg_setF_other (Reg.RTC_ALMCTL_ne_ALMSTAT i)),
    State.on_setF_other (Nat.le_refl 0) (show 0 < 32 by decide) (.inr (.inr hb)), State.on_congr State.reachAlarm_reg]

theorem State.alarmFired_arm : (s.alarmFired i).on (F.RTC_ALMCTL_ARM i) = false := by
  rw [State.alarmFired, State.on_congr (State.reg_setF_other (Reg.RTC_ALMCTL_ne_ALMSTAT i))]
  exact State.on_setF_zero (Nat.le_refl 0) (show 0 < 32 by decide)

theorem State.alarmFired_fired : (s.alarmFired i).on (regBit Reg.RTC_ALMSTAT i) = true :=
  State.on_setF_one rfl (by simp only [regBit]; omega)

theorem State.alarmMarked_reg {o : Nat} (k : o ≠ Reg.RTC_ALMSTAT) : (s.alarmMarked i).reg o = (s.alarmFired i).reg o := by
  unfold State.alarmMarked
  split
  · rw [State.noteLate_reg, State.reg_setF_other k]
  · rfl

theorem State.alarmMarked_arm : (s.alarmMarked i).on (F.RTC_ALMCTL_ARM i) = false := by
  rw [State.on_congr (State.alarmMarked_reg (Reg.RTC_ALMCTL_ne_ALMSTAT i)), State.alarmFired_arm]

theorem State.alarmMarked_fired : (s.alarmMarked i).on (regBit Reg.RTC_ALMSTAT i) = true := by
  unfold State.alarmMarked
  split
  · rw [State.on_congr State.noteLate_reg, State.on_setF_other, State.alarmFired_fired]
    all_goals simp only [regBit]; omega
  · exact State.alarmFired_fired

theorem State.alarmMarked_skip (h : bitOf s.time.lateAlarms i = true) :
    (s.alarmMarked i).on (regBit Reg.RTC_ALMSTAT (8 + i)) = true := by
  rw [State.alarmMarked, if_pos h, State.on_congr State.noteLate_reg]
  exact State.on_setF_one rfl (by simp only [regBit]; omega)

/-! ### Whom it tells -/

variable {late : Bool}

@[simp] theorem State.alarmEvent_time : (s.alarmEvent i late).time = s.time := by
  unfold State.alarmEvent
  split
  · exact State.report_time
  · rfl

theorem State.alarmEvent_reg {o : Nat} (h : o ≠ Reg.EVR_LOST) (k : o ≠ Reg.EVR_STAT) :
    (s.alarmEvent i late).reg o = s.reg o := by
  unfold State.alarmEvent
  split
  · exact State.report_reg h k
  · rfl

@[simp] theorem State.alarmVector_time : (s.alarmVector i).time = s.time := by
  unfold State.alarmVector
  split
  · exact State.signalUnit_time
  · rfl

@[simp] theorem State.alarmVector_reg {o : Nat} : (s.alarmVector i).reg o = s.reg o := by
  unfold State.alarmVector
  split
  · exact State.signalUnit_reg
  · rfl

theorem State.alarmEvent_off (h : s.on (F.RTC_ALMCTL_EVT i) = false) : s.alarmEvent i late = s := by
  simp [State.alarmEvent, h]

theorem State.alarmEvent_on (h : s.on (F.RTC_ALMCTL_EVT i) = true) :
    s.alarmEvent i late = s.report 0x0401 0 (wd i) (wd (ofBool late)) (s.reg (Reg.RTC_ALMSECL i)) := by
  simp [State.alarmEvent, h]

theorem State.alarmVector_off (h : s.on (F.RTC_ALMCTL_MSIX i) = false) : s.alarmVector i = s := by
  simp [State.alarmVector, h]

theorem State.alarmVector_on (h : s.on (F.RTC_ALMCTL_MSIX i) = true) : s.alarmVector i = s.signalUnit 4 := by
  simp [State.alarmVector, h]

theorem State.alarmUpdate_off (h : s.on F.UPD_CTL_ALMEN = false) : s.alarmUpdate i = s := by
  simp [State.alarmUpdate, h]

theorem State.alarmUpdate_on (h : s.on F.UPD_CTL_ALMEN = true) (k : s.rf F.UPD_CTL_ALM = i) :
    s.alarmUpdate i = s.activate := by
  simp [State.alarmUpdate, h, k]

/-- What an alarm in time does, by the fields as its marks leave them. -/
theorem exec_alarmFire_intime (h : s.alarmDue i = true) (hl : bitOf s.time.lateAlarms i = false) :
    exec (.alarmFire i) s = .next ((((s.alarmFired i).alarmEvent i false).alarmVector i).alarmUpdate i) := by
  rw [exec_alarmFire h, State.alarmMarked_intime hl, hl]

theorem State.alarmFired_update {f : Fld} (hf : f.off = Reg.UPD_CTL) : (s.alarmFired i).rf f = s.rf f :=
  State.rf_congr (State.alarmFired_reg (hf ▸ Reg.UPD_CTL_ne_ALMCTL i) (hf ▸ by decide))

theorem State.alarmFired_almen {b : Bool} (h : s.on F.UPD_CTL_ALMEN = b) : (s.alarmFired i).on F.UPD_CTL_ALMEN = b := by
  rw [State.on, State.alarmFired_update rfl, ← State.on, h]

theorem State.alarmTold_reg {o : Nat} (h : o ≠ Reg.EVR_LOST) (k : o ≠ Reg.EVR_STAT) :
    ((s.alarmEvent i late).alarmVector i).reg o = s.reg o := by
  rw [State.alarmVector_reg, State.alarmEvent_reg h k]

theorem State.alarmTold_alarmCount : ((s.alarmEvent i late).alarmVector i).alarmCount = s.alarmCount := by
  rw [State.alarmCount, State.count, State.alarmVector_time, State.alarmEvent_time, ← State.count, State.alarmCount]

theorem State.alarmMarked_almen {b : Bool} (h : s.on F.UPD_CTL_ALMEN = b) : (s.alarmMarked i).on F.UPD_CTL_ALMEN = b := by
  rw [State.on_congr (State.alarmMarked_reg (by decide)), State.alarmFired_almen h]

theorem State.alarmTold_almen (h : s.on F.UPD_CTL_ALMEN = false) :
    (((s.alarmMarked i).alarmEvent i late).alarmVector i).on F.UPD_CTL_ALMEN = false := by
  rw [State.on_congr (State.alarmTold_reg (by decide) (by decide)), State.alarmMarked_almen h]

/-- An alarm in time with EVT alone tells the recorder its second. -/
theorem State.alarmFired_tellsRecorder (he : (s.alarmFired i).on (F.RTC_ALMCTL_EVT i) = true)
    (hm : (s.alarmFired i).on (F.RTC_ALMCTL_MSIX i) = false) (hu : s.on F.UPD_CTL_ALMEN = false) :
    (((s.alarmFired i).alarmEvent i false).alarmVector i).alarmUpdate i =
      (s.alarmFired i).report 0x0401 0 (wd i) 0 (s.reg (Reg.RTC_ALMSECL i)) := by
  obtain ⟨hctl, hlost⟩ := Reg.RTC_ALMCTL_ne_EVR i
  obtain ⟨hl, hs⟩ := Reg.RTC_ALMSECL_ne i
  have hm' : ((s.alarmFired i).alarmEvent i false).on (F.RTC_ALMCTL_MSIX i) = false := by
    rw [State.on_congr (State.alarmEvent_reg hctl hlost), hm]
  have hu' : ((s.alarmFired i).alarmEvent i false).on F.UPD_CTL_ALMEN = false := by
    rw [State.on_congr (State.alarmEvent_reg (by decide) (by decide)), State.alarmFired_almen hu]
  rw [State.alarmVector_off hm', State.alarmUpdate_off hu', State.alarmEvent_on he, State.alarmFired_reg hl hs]
  rfl

end Sys2Proof.Machine
end

section
namespace Sys2Proof.Machine

/-! ## Rate measurements (R68, R69) -/

variable {s : State}

theorem exec_measurementDone : exec .measurementDone s = .next (measurementDoneEff s) := rfl

theorem exec_measurementStart {x : HPort} {v : Word} (h : s.mayWrite x 4 = true) :
    exec (.measurementStart x v) s = .next (s.writeMeasCtl v) := by
  rw [← State.asWrite_may (t := s.writeMeasCtl v) h]
  rfl

/-- START of a source that the module has: a measurement begins, and fails at once without its reference. -/
theorem State.writeMeasCtl_start {v : Word} (hm : (s.variant.lacks 14 && fieldOf v 25 24 = 1) = false)
    (hs : fieldOf v 31 31 = 1) (ha : (s.writeFields Reg.RTC_MEASCTL v).autoTrim = false)
    (hsrc : (s.writeFields Reg.RTC_MEASCTL v).rf F.RTC_MEASCTL_SRC ≠ 0) :
    s.writeMeasCtl v =
      if ((s.writeFields Reg.RTC_MEASCTL v).measBegin false).measRef then (s.writeFields Reg.RTC_MEASCTL v).measBegin false
      else ((s.writeFields Reg.RTC_MEASCTL v).measBegin false).measFail 2 := by
  simp [State.writeMeasCtl, hm, hs, ha, hsrc]

/-- SRC = 1 without a metering unit keeps SRC and sets BADVAL. -/
theorem State.writeMeasCtl_noMains {v : Word} (hm : (s.variant.lacks 14 && fieldOf v 25 24 = 1) = true)
    (hs : fieldOf v 31 31 = 0) :
    s.writeMeasCtl v = (s.writeFields Reg.RTC_MEASCTL (withField v 25 24 (s.rf F.RTC_MEASCTL_SRC))).badVal := by
  simp [State.writeMeasCtl, hm, hs]

theorem State.measBegin_reg {auto : Bool} {o : Nat} :
    (s.measBegin auto).reg o = ((s.setF F.RTC_MEASCTL_BUSY 1).setF F.RTC_MEASCTL_FAILC 0).reg o := by
  unfold State.measBegin
  exact State.reg_withTime

theorem State.measBegin_busy {auto : Bool} : (s.measBegin auto).on F.RTC_MEASCTL_BUSY = true := by
  rw [State.on_congr State.measBegin_reg, State.on_setF_other (by decide) (by decide) (by decide)]
  exact State.on_setF_one (by decide) (by decide)

theorem State.measBegin_failc {auto : Bool} : (s.measBegin auto).rf F.RTC_MEASCTL_FAILC = 0 := by
  rw [State.rf_congr State.measBegin_reg, State.rf_setF_same (by decide) (by decide), Nat.zero_mod]

theorem State.measBegin_measFrom {auto : Bool} : (s.measBegin auto).time.measFrom = s.count := by
  simp only [State.measBegin, State.setF_count]

/-- The window's end is reached, unless the count is past it. -/
def State.reachMeasEnd (s : State) : State := if s.count < s.measEnd then s.setCount s.measEnd else s

theorem State.reachMeasEnd_measAuto : s.reachMeasEnd.time.measAuto = s.time.measAuto := by
  unfold State.reachMeasEnd
  split
  · rw [State.setCount_time]
  · rfl

theorem measurementDoneEff_unmeasured (h : s.measOver = true) (hn : s.reachMeasEnd.measNet = false)
    (hc : s.reachMeasEnd.time.measN < 2) : measurementDoneEff s = s.reachMeasEnd.measFail 3 := by
  simp only [State.reachMeasEnd] at hn hc
  simp [measurementDoneEff, State.reachMeasEnd, h, hn, hc]

/-- The result that a measurement leaves: RTC_MEASRES, DONE, BUSY 0 and event 0x0405. -/
def State.measResult (s : State) (e : Int) : State :=
  (((s.useFree.setReg Reg.RTC_MEASRES (wdInt e)).setF F.RTC_MEASCTL_DONE 1).setF F.RTC_MEASCTL_BUSY 0).report
    0x0405 0 (wdInt e) 0 0

theorem State.measResult_time {e : Int} : (s.measResult e).time = s.time := by
  rw [State.measResult, State.report_time, State.setF_time, State.setF_time, State.setReg_time, State.useFree_time]

theorem measurementDoneEff_measured (h : s.measOver = true) (ha : s.time.measAuto = false)
    (hc : s.reachMeasEnd.measNet = true ∨ 2 ≤ s.reachMeasEnd.time.measN) :
    measurementDoneEff s = s.reachMeasEnd.measResult (s.reachMeasEnd.measError (bitOf s.reachMeasEnd.freeVal.toNat 0)) := by
  have hover : ¬ (!s.measOver) = true := by simp [h]
  have hc' : ¬ (!s.reachMeasEnd.measNet && decide (s.reachMeasEnd.time.measN < 2)) = true := by
    rcases hc with hc | hc
    · simp [hc]
    · simp [Nat.not_lt.2 hc]
  have hauto (e : Int) : ¬ ((s.reachMeasEnd.measResult e).time.measAuto && (s.reachMeasEnd.measResult e).autoTrim) = true := by
    simp [State.measResult_time, State.reachMeasEnd_measAuto, ha]
  rw [measurementDoneEff, if_neg hover]
  exact (if_neg hc').trans (if_neg (hauto _))

/-- A quotient rounded to nearest is at most half a unit off. -/
theorem roundNearest_error {num : Int} {den : Nat} {up : Bool} (h : 1 ≤ den) :
    2 * (roundNearest num den up * den - num).natAbs ≤ den := by
  have hdiv := Int.mul_ediv_add_emod num den
  have hlo := Int.emod_nonneg num (b := den) (by omega)
  have hhi := Int.emod_lt_of_pos num (b := den) (by omega)
  rw [Int.mul_comm] at hdiv
  have hup : (num / (den : Int) + 1) * den = num / (den : Int) * den + den := by rw [Int.add_mul, Int.one_mul]
  unfold roundNearest
  dsimp only
  split
  · omega
  · split
    · rw [hup]; omega
    · split
      · rw [hup]; omega
      · omega

/-! ## The always-on domain's flags and the count in Keep state (R72 to R75) -/

/-- The two flags of a cause, before its report. -/
def State.osfFlags (s : State) (bit : Nat) : State := (s.setF (regBit Reg.RTC_STAT bit) 1).setF F.RTC_STAT_OSF 1

theorem exec_kcorrUpdate {corr : Int} : exec (.kcorrUpdate corr) s = .next (kcorrUpdateEff corr s) := rfl

theorem exec_keepSecondRollover : exec .keepSecondRollover s = .next (keepSecondRolloverEff s) := rfl

/-- A cause of OSF writes no register of its own but RTC_STAT. -/
theorem State.osfCause_reg {bit o : Nat} (h : o ≠ Reg.EVR_LOST) (k : o ≠ Reg.EVR_STAT) :
    (s.osfCause bit).reg o = (s.osfFlags bit).reg o := by
  unfold State.osfCause State.osfFlags
  dsimp only
  split
  · rfl
  · split
    · exact State.report_reg h k
    · exact State.reg_congr rfl rfl

theorem State.osfFlags_osf {bit : Nat} : (s.osfFlags bit).on F.RTC_STAT_OSF = true :=
  State.on_setF_one (by decide) (by decide)

theorem State.osfFlags_cause {bit : Nat} (h : 0 < bit) (h32 : bit < 32) :
    (s.osfFlags bit).on (regBit Reg.RTC_STAT bit) = true := by
  rw [State.osfFlags, State.on_setF_other (by decide) (by decide) (.inr (.inr h))]
  exact State.on_setF_one rfl h32

theorem State.keepNext_of_not_rolled (h : s.time.rolled = false) : s.keepNext = s.time.sec.toNat + 1 := by
  have hf := s.time.frac.isLt
  simp only [State.keepNext, State.count, h, Bool.false_eq_true, if_false]
  omega

/-- Settles O8. -/
theorem alarmsTrimAndKeepTime : Obligations.AlarmsTrimAndKeepTime := by
  refine ⟨?quiet, ?tells, ?flags, ?start, ?noMains, ?begins, ?done, ?unmeasured, ?mains, ?causes, ?osf, ?kcorr, ?rollover,
    ?next⟩
  case quiet =>
    intro i s hd he hm hu hl
    have he' : (s.alarmFired i).on (F.RTC_ALMCTL_EVT i) = false := (State.alarmFired_on (by decide)).trans he
    have hm' : (s.alarmFired i).on (F.RTC_ALMCTL_MSIX i) = false := (State.alarmFired_on (by decide)).trans hm
    rw [exec_alarmFire_intime hd hl, State.alarmEvent_off he', State.alarmVector_off hm',
      State.alarmUpdate_off (State.alarmFired_almen hu)]
    rfl
  case tells =>
    intro i s t hd hl ht
    change t = s.alarmFired i at ht
    subst ht
    rw [exec_alarmFire_intime hd hl]
    refine ⟨fun he hm hu _ => ?event, fun he hm hu => ?vector, fun he hm hu hi => ?update⟩
    case event => rw [State.alarmFired_tellsRecorder he hm hu]
    case vector =>
      rw [State.alarmEvent_off he, State.alarmVector_on hm, State.alarmUpdate_off]
      rw [State.on_congr State.signalUnit_reg, State.alarmFired_almen hu]
    case update =>
      rw [State.alarmEvent_off he, State.alarmVector_off hm, State.alarmUpdate_on (State.alarmFired_almen hu)]
      rw [State.alarmFired_update rfl, hi]
  case flags =>
    intro i s t hd hu ht
    rw [exec_alarmFire hd, State.alarmUpdate_off (State.alarmTold_almen hu)] at ht
    cases ht
    obtain ⟨hctl, hlost⟩ := Reg.RTC_ALMCTL_ne_EVR i
    have hstat : ((((s.alarmMarked i).alarmEvent i (bitOf s.time.lateAlarms i)).alarmVector i).reg Reg.RTC_ALMSTAT) =
        (s.alarmMarked i).reg Reg.RTC_ALMSTAT := State.alarmTold_reg (by decide) (by decide)
    refine ⟨?arm, ?fired, fun hl => ?skip, ?count⟩
    case arm => rw [State.on_congr (State.alarmTold_reg hctl hlost), State.alarmMarked_arm]
    case fired => exact (State.on_congr hstat).trans State.alarmMarked_fired
    case skip => exact (State.on_congr hstat).trans (State.alarmMarked_skip hl)
    case count =>
      rw [State.alarmTold_alarmCount, State.alarmMarked_alarmCount]
      exact State.alarmTime_le_reachAlarm
  case start =>
    intro x v s hw hm hs ha hsrc
    rw [exec_measurementStart hw, State.writeMeasCtl_start hm hs ha hsrc]
    exact ⟨fun h => by rw [if_pos h], fun h => by rw [if_neg (by simp [h])]⟩
  case noMains =>
    intro x v s hw hm hs
    rw [exec_measurementStart hw, State.writeMeasCtl_noMains hm hs]
  case begins => exact fun s auto => ⟨State.measBegin_busy, State.measBegin_failc, rfl, State.measBegin_measFrom⟩
  case done =>
    rintro s t e ho ha rfl hc rfl
    rw [exec_measurementDone, measurementDoneEff_measured ho ha hc]
    rfl
  case unmeasured =>
    rintro s t ho rfl hn hc
    rw [exec_measurementDone, measurementDoneEff_unmeasured ho hn hc]
    rfl
  case mains => exact fun f0 n t up hn => roundNearest_error hn
  case causes => exact fun s => ⟨rfl, rfl⟩
  case osf =>
    intro s bit hb
    have ho := State.osfCause_reg (s := s) (bit := bit) (o := Reg.RTC_STAT) (by decide) (by decide)
    exact ⟨(State.on_congr ho).trans State.osfFlags_osf,
      (State.on_congr ho).trans (State.osfFlags_cause (by omega) (by omega))⟩
  case kcorr =>
    intro corr s hk
    rw [exec_kcorrUpdate, kcorrUpdateEff, if_neg (by simp [hk])]
  case rollover =>
    intro s hk
    rw [exec_keepSecondRollover, keepSecondRolloverEff, if_neg (by simp [hk])]
  case next => exact fun s => State.keepNext_of_not_rolled

end Sys2Proof.Machine
end

section
namespace Sys2Proof.Machine

/-! ## Base ticks and frames (R42 to R47, R58, R266) -/

variable {s : State}

theorem exec_tickGeneratorStart {adv : Nat} {i : TickIn} :
    exec (.tickGeneratorStart adv i) s = .next (tickGeneratorStartEff adv i s) := rfl

theorem exec_baseTick {i : TickIn} : exec (.baseTick i) s = .next (baseTickEff i s) := rfl

theorem exec_inputLatchComplete : exec .inputLatchComplete s = .next (inputLatchCompleteEff s) := rfl

theorem exec_publishComplete : exec .publishComplete s = .next (publishCompleteEff s) := rfl

theorem State.setTwn_reg {t : TwnSt} {o : Nat} : (s.setTwn t).reg o = s.reg o := State.reg_congr rfl rfl

/-- The input latch that runs has ended. -/
def State.latchEnded (s : State) : State := { s with ptx := { s.ptx with latching := false } }

/-- The output publish that runs has ended. -/
def State.publishEnded (s : State) : State := { s with ptx := { s.ptx with publishing := false } }

theorem State.publishEnded_on {f : Fld} : s.publishEnded.on f = s.on f := State.on_congr (State.reg_congr rfl rfl)

theorem State.latchEnded_active : s.latchEnded.active = s.active := by
  unfold State.active
  rw [State.rf_congr (State.reg_congr (s := s) (t := s.latchEnded) rfl rfl)]

theorem baseTickEff_running {i : TickIn} (h : s.on F.TCK_STAT_RUN = true) :
    baseTickEff i s =
      if (s.idle.setCount s.nextTick).atBoundary.time.gap.isSome then
        (s.idle.setCount s.nextTick).atBoundary.setMtr { (s.idle.setCount s.nextTick).atBoundary.mtr with
          heldWin := (s.idle.setCount s.nextTick).atBoundary.mtr.heldWin ++ i.mtr }
      else (s.idle.setCount s.nextTick).atBoundary.tickWork i 1 := by
  rw [baseTickEff, if_neg (by simp [h])]

theorem inputLatchCompleteEff_latching (h : s.ptx.latching = true) :
    inputLatchCompleteEff s =
      if s.active then s.latchEnded.openWindow
      else if s.twn.held ≠ [] then s.latchEnded.openWindow.shadowImage
      else if s.inReset 10 then s.latchEnded.openWindow
      else s.latchEnded := by
  rw [inputLatchCompleteEff, if_neg (by simp [h]), ← State.latchEnded_active]
  simp only [bne_iff_ne, ne_eq]
  rfl

theorem publishCompleteEff_publishing (h : s.ptx.publishing = true) :
    publishCompleteEff s =
      (if s.inReset 10 then s.publishEnded else s.publishEnded.driveOutputs.copySnaps).twinPublish := by
  have hr : s.publishEnded.inReset 10 = s.inReset 10 := State.publishEnded_on
  rw [publishCompleteEff, if_neg (by simp [h]), ← hr]
  rfl

theorem State.beginFrame_tick {n : Nat} : (s.beginFrame n).rf F.TCK_CUR_TICK = 0 := by
  unfold State.beginFrame
  dsimp only
  rw [State.rf_congr State.setTwn_reg, State.rf_setF_same (by decide) (by decide), Nat.zero_mod]

theorem State.atBoundary_gap (h : s.time.gap ≠ none) : s.atBoundary = s.endGap := by
  rw [State.atBoundary, if_pos (Option.isSome_iff_ne_none.2 h)]

theorem State.atBoundary_lastTick (h : s.time.gap = none) (ht : s.rf F.TCK_CUR_TICK = 7) :
    s.atBoundary = s.yieldDrop.applyStep.endFrame := by
  simp [State.atBoundary, h, ht]

theorem State.atBoundary_inFrame (h : s.time.gap = none) (ht : s.rf F.TCK_CUR_TICK ≠ 7) :
    s.atBoundary = s.nextInFrame := by
  simp [State.atBoundary, h, ht]

/-- Settles O7. -/
theorem tickAndFrameTimetable : Obligations.TickAndFrameTimetable := by
  refine ⟨?start, ?tick, ?inGap, ?boundary, ?begins, ?latchActive, ?latchStandby, ?publish, ?publishReset⟩
  case start =>
    intro adv i s hp hr
    rw [exec_tickGeneratorStart, tickGeneratorStartEff, if_neg (by simp [hp, hr])]
  case tick =>
    intro i s hr hg
    rw [exec_baseTick, baseTickEff_running hr, if_neg (by simp [hg])]
  case inGap =>
    rintro i s t hr rfl hg
    rw [exec_baseTick, baseTickEff_running hr, if_pos (Option.isSome_iff_ne_none.2 hg)]
  case boundary => exact fun s => ⟨State.atBoundary_gap, State.atBoundary_lastTick, State.atBoundary_inFrame⟩
  case begins => exact fun s n => ⟨State.beginFrame_tick, rfl⟩
  case latchActive =>
    intro s hl ha
    rw [exec_inputLatchComplete, inputLatchCompleteEff_latching hl, if_pos ha]
    rfl
  case latchStandby =>
    intro s hl ha
    rw [exec_inputLatchComplete, inputLatchCompleteEff_latching hl, if_neg (by simp [ha])]
    rfl
  case publish =>
    intro s hp hr
    rw [exec_publishComplete, publishCompleteEff_publishing hp, if_neg (by simp [hr])]
    rfl
  case publishReset =>
    intro s hp hr
    rw [exec_publishComplete, publishCompleteEff_publishing hp, if_pos hr]
    rfl

end Sys2Proof.Machine
end

section
namespace Sys2Proof.Machine

/-! ## Clock controls and the servo (R48 to R54, R77, R648, R666) -/

variable {s t : State}

theorem exec_rtcCtlWrite {x : HPort} {v : Word} (h : s.mayWrite x 4 = true) :
    exec (.rtcCtlWrite x v) s = .next (s.writeRtcCtl v) := by
  rw [← State.asWrite_may (t := s.writeRtcCtl v) h]
  rfl

theorem exec_clkTinWrite {x : HPort} {v : Word} (h : s.mayWrite x 1 = true) :
    exec (.clkTinWrite x v) s = .next (s.sourceChanged (s.writeFields Reg.CLK_TIN v)) := by
  rw [← State.asWrite_may (t := s.sourceChanged (s.writeFields Reg.CLK_TIN v)) h]
  rfl

theorem exec_setTimeGo {x : HPort} (h : s.mayWrite x 4 = true) : exec (.setTimeGo x) s = .next (s.setTimeGo x) := by
  rw [← State.asWrite_may (t := s.setTimeGo x) h]
  rfl

theorem exec_syncReceived {lanB : Bool} {m : SyncSample} :
    exec (.syncReceived lanB m) s = .next (syncReceivedEff lanB m s) := rfl

theorem exec_tinPpsEdge {adv : Nat} : exec (.tinPpsEdge adv) s = .next (tinPpsEdgeEff adv s) := rfl

theorem exec_syncHoldover : exec .syncHoldover s = .next (syncHoldoverEff s) := rfl

/-! ### Sources -/

theorem State.servoSource_network (h : s.on F.RTC_CTL_NETSYNC = true) : s.servoSource = 1 := by
  rw [State.servoSource, if_pos h]

theorem State.servoSource_tin (h : s.on F.RTC_CTL_NETSYNC = false) (k : s.on F.CLK_TIN_EN = true) : s.servoSource = 2 := by
  simp [State.servoSource, h, k]

theorem State.sourceChanged_same (h : s.servoSource = t.servoSource) : s.sourceChanged t = t := by
  rw [State.sourceChanged, if_pos h]

theorem State.sourceChanged_reg {o : Nat} (h : s.servoSource ≠ t.servoSource) :
    (s.sourceChanged t).reg o = ((t.setF F.TCK_STAT_LOCK 0).setF F.TCK_STAT_HOLD 0).reg o := by
  rw [State.sourceChanged, if_neg h]
  exact State.reg_withTime

theorem State.sourceChanged_lock (h : s.servoSource ≠ t.servoSource) : (s.sourceChanged t).on F.TCK_STAT_LOCK = false := by
  rw [State.on_congr (State.sourceChanged_reg h), State.on_setF_other (by decide) (by decide) (by decide)]
  exact State.on_setF_zero (by decide) (by decide)

theorem State.sourceChanged_hold (h : s.servoSource ≠ t.servoSource) : (s.sourceChanged t).on F.TCK_STAT_HOLD = false := by
  rw [State.on_congr (State.sourceChanged_reg h)]
  exact State.on_setF_zero (by decide) (by decide)

theorem State.writeRtcCtl_eq {v : Word} :
    s.writeRtcCtl v =
      (if (s.sourceChanged (s.writeFields Reg.RTC_CTL v)).measNet &&
          !(s.sourceChanged (s.writeFields Reg.RTC_CTL v)).on F.RTC_CTL_NETSYNC then
        (s.sourceChanged (s.writeFields Reg.RTC_CTL v)).measFail 2
      else s.sourceChanged (s.writeFields Reg.RTC_CTL v)).autoStart := rfl

theorem State.autoStart_off (h : s.autoTrim = false) : s.autoStart = s := by
  simp [State.autoStart, h]

theorem State.autoStart_reg {o : Nat} (h : o ≠ Reg.RTC_MEASCTL) : s.autoStart.reg o = s.reg o := by
  unfold State.autoStart
  split
  · rw [State.measBegin_reg, State.reg_setF_other h, State.reg_setF_other h]
  · rfl

theorem TimeSt.withMeas_domB {τ : TimeSt} {a : Bool} {n c f l : Nat} {z : Int} :
    ({ τ with measAuto := a, measFrom := n, measN := c, measFirst := f, measLast := l, measOfs := z } : TimeSt).domB =
      τ.domB := rfl

theorem State.measBegin_domB {auto : Bool} : (s.measBegin auto).time.domB = s.time.domB := by
  have h : ((s.setF F.RTC_MEASCTL_BUSY 1).setF F.RTC_MEASCTL_FAILC 0).time.domB = s.time.domB := by
    rw [State.setF_time, State.setF_time]
  unfold State.measBegin
  exact (TimeSt.withMeas_domB (τ := ((s.setF F.RTC_MEASCTL_BUSY 1).setF F.RTC_MEASCTL_FAILC 0).time)).trans h

theorem State.autoStart_domB : s.autoStart.time.domB = s.time.domB := by
  unfold State.autoStart
  split
  · exact State.measBegin_domB
  · rfl

theorem State.advance_reg {adv o : Nat} : (s.advance adv).reg o = s.reg o := by
  unfold State.advance
  split <;> exact State.setCount_reg

theorem State.servoSource_congr (h : t.reg Reg.RTC_CTL = s.reg Reg.RTC_CTL) (k : t.reg Reg.CLK_TIN = s.reg Reg.CLK_TIN) :
    t.servoSource = s.servoSource := by
  rw [State.servoSource, State.servoSource, State.on_congr (f := F.RTC_CTL_NETSYNC) h, State.on_congr (f := F.CLK_TIN_EN) k]

/-! ### A measurement that the servo takes

The stages of `State.servoTake`, in its order. -/

/-- The offset register takes the clamped offset, and HOLD is 0. -/
def State.servoOffset (s : State) (m : SyncSample) : State :=
  (s.setReg Reg.TCK_OFFSET (wdInt (clampInt (-2147483647) 2147483647 m.offset))).setF F.TCK_STAT_HOLD 0

/-- The intervals in a row within 500 ns and beyond it are counted. -/
def State.servoCounted (s : State) (m : SyncSample) : State :=
  { s with time := { s.time with
    good := if m.offset.natAbs ≤ 500 then s.time.good + 1 else 0
    wild := if m.offset.natAbs ≤ 500 then 0 else s.time.wild + 1 } }

/-- LOCK follows the counts. -/
def State.servoLock (s : State) : State :=
  if 16 ≤ s.time.good && !s.on F.TCK_STAT_LOCK then
    (s.setF F.TCK_STAT_LOCK 1).report 0x0503 0 (s.reg Reg.TCK_OFFSET) 0 0
  else if 4 ≤ s.time.wild && s.on F.TCK_STAT_LOCK then (s.setF F.TCK_STAT_LOCK 0).lockEvent
  else s

/-- An untrusted time, or one more than 1 ms off, is stepped. -/
def State.servoStage (s : State) (m : SyncSample) : State :=
  if s.on F.RTC_STAT_OSF || 1000000 < m.offset.natAbs then
    { s with time := { s.time with staged := some (m.sec, m.frac, 2) } }
  else s

theorem State.servoTake_eq {m : SyncSample} :
    s.servoTake m = (((s.servoOffset m).servoCounted m).servoLock.autoStart).servoStage m := rfl

theorem State.servoStage_reg {m : SyncSample} {o : Nat} : (s.servoStage m).reg o = s.reg o := by
  unfold State.servoStage
  split
  · exact State.reg_withTime
  · rfl

theorem State.servoStage_staged {m : SyncSample} (h : 1000000 < m.offset.natAbs) :
    (s.servoStage m).time.staged = some (m.sec, m.frac, 2) := by
  simp [State.servoStage, h]

theorem State.lockEvent_reg {o : Nat} (h : o ≠ Reg.EVR_LOST) (k : o ≠ Reg.EVR_STAT) : s.lockEvent.reg o = s.reg o :=
  State.report_reg h k

/-- Following the counts changes no field of TCK_STAT but LOCK, and no other register outside the recorder. -/
theorem State.servoLock_reg {o : Nat} (h : o ≠ Reg.EVR_LOST) (k : o ≠ Reg.EVR_STAT) (l : o ≠ Reg.TCK_STAT) :
    s.servoLock.reg o = s.reg o := by
  unfold State.servoLock
  split
  · rw [State.report_reg h k, State.reg_setF_other l]
  · split
    · rw [State.lockEvent_reg h k, State.reg_setF_other l]
    · rfl

theorem State.servoLock_hold : s.servoLock.on F.TCK_STAT_HOLD = s.on F.TCK_STAT_HOLD := by
  unfold State.servoLock
  split
  · rw [State.report_on (by decide) (by decide), State.on_setF_other (by decide) (by decide) (by decide)]
  · split
    · rw [State.on_congr (State.lockEvent_reg (by decide) (by decide)),
        State.on_setF_other (by decide) (by decide) (by decide)]
    · rfl

/-- After sixteen intervals in a row LOCK is 1. -/
theorem State.servoLock_lock (h : 16 ≤ s.time.good) (k : s.time.wild = 0) : s.servoLock.on F.TCK_STAT_LOCK = true := by
  cases hl : s.on F.TCK_STAT_LOCK with
  | false =>
    rw [State.servoLock, if_pos (by simp [h, hl]), State.report_on (by decide) (by decide)]
    exact State.on_setF_one (by decide) (by decide)
  | true => rw [State.servoLock, if_neg (by simp [hl]), if_neg (by simp [k]), hl]

theorem State.servoTake_reg {m : SyncSample} {o : Nat} (h : o ≠ Reg.RTC_MEASCTL) :
    (s.servoTake m).reg o = ((s.servoOffset m).servoCounted m).servoLock.reg o := by
  rw [State.servoTake_eq, State.servoStage_reg, State.autoStart_reg h]

theorem State.servoCounted_reg {m : SyncSample} {o : Nat} : (s.servoCounted m).reg o = s.reg o := State.reg_withTime

theorem State.servoTake_offset {m : SyncSample} :
    (s.servoTake m).reg Reg.TCK_OFFSET = wdInt (clampInt (-2147483647) 2147483647 m.offset) := by
  rw [State.servoTake_reg (by decide), State.servoLock_reg (by decide) (by decide) (by decide), State.servoCounted_reg,
    State.servoOffset, State.reg_setF_other (by decide), State.reg_setReg_same]

theorem State.servoTake_hold {m : SyncSample} : (s.servoTake m).on F.TCK_STAT_HOLD = false := by
  rw [State.on_congr (State.servoTake_reg (by decide)), State.servoLock_hold, State.on_congr State.servoCounted_reg]
  exact State.on_setF_zero (by decide) (by decide)

theorem State.servoTake_lock {m : SyncSample} (h : 15 ≤ s.time.good) (k : m.offset.natAbs ≤ 500) :
    (s.servoTake m).on F.TCK_STAT_LOCK = true := by
  rw [State.on_congr (State.servoTake_reg (by decide))]
  refine State.servoLock_lock ?good ?wild
  case good =>
    simp only [State.servoCounted, State.servoOffset, State.setF_time, State.setReg_time, if_pos k]
    omega
  case wild => simp only [State.servoCounted, if_pos k]

theorem State.servoTake_staged {m : SyncSample} (h : 1000000 < m.offset.natAbs) :
    (s.servoTake m).time.staged = some (m.sec, m.frac, 2) := by
  rw [State.servoTake_eq, State.servoStage_staged h]

/-! ### Loss of Sync -/

/-- HOLD is set and LOCK cleared, with event 0x0502, and the intervals are counted anew. -/
def State.holdover (s : State) : State :=
  let t := ((s.setF F.TCK_STAT_HOLD 1).setF F.TCK_STAT_LOCK 0).lockEvent
  { t with time := { t.time with good := 0, wild := 0 } }

/-- A network measurement fails with cause 2. -/
def State.lostRef (s : State) : State := if s.measNet then s.measFail 2 else s

/-- On the network the servo changes to the other LAN's domain. -/
def State.otherLan (s : State) : State := { s with time := { s.time with domB := !s.time.domB, prefGood := 0 } }

theorem syncHoldoverEff_lost (h : s.servoSource ≠ 0) (k : s.on F.TCK_STAT_HOLD = false) :
    syncHoldoverEff s = if s.servoSource = 1 then s.holdover.lostRef.otherLan else s.holdover.lostRef := by
  rw [syncHoldoverEff, if_neg (by simp [h, k])]
  rfl

theorem State.holdover_reg {o : Nat} (h : o ≠ Reg.EVR_LOST) (k : o ≠ Reg.EVR_STAT) :
    s.holdover.reg o = ((s.setF F.TCK_STAT_HOLD 1).setF F.TCK_STAT_LOCK 0).reg o := by
  unfold State.holdover
  exact State.reg_withTime.trans (State.lockEvent_reg h k)

theorem State.holdover_time : s.holdover.time = { s.time with good := 0, wild := 0 } := by
  simp only [State.holdover, State.lockEvent, State.report_time, State.setF_time]

theorem State.measFail_reg {cause o : Nat} (h : o ≠ Reg.EVR_LOST) (k : o ≠ Reg.EVR_STAT) (l : o ≠ Reg.RTC_MEASCTL) :
    (s.measFail cause).reg o = s.reg o := by
  unfold State.measFail
  split
  · rfl
  · rw [State.autoStart_reg l, State.report_reg h k, State.reg_setF_other l, State.reg_setF_other l, State.reg_setF_other l]

theorem State.measFail_domB {cause : Nat} : (s.measFail cause).time.domB = s.time.domB := by
  unfold State.measFail
  split
  · rfl
  · rw [State.autoStart_domB, State.report_time, State.setF_time, State.setF_time, State.setF_time]

theorem State.lostRef_reg {o : Nat} (h : o ≠ Reg.EVR_LOST) (k : o ≠ Reg.EVR_STAT) (l : o ≠ Reg.RTC_MEASCTL) :
    s.lostRef.reg o = s.reg o := by
  unfold State.lostRef
  split
  · exact State.measFail_reg h k l
  · rfl

theorem State.lostRef_domB : s.lostRef.time.domB = s.time.domB := by
  unfold State.lostRef
  split
  · exact State.measFail_domB
  · rfl

theorem State.otherLan_reg {o : Nat} : s.otherLan.reg o = s.reg o := State.reg_withTime

theorem syncHoldoverEff_reg {o : Nat} (h : s.servoSource ≠ 0) (k : s.on F.TCK_STAT_HOLD = false) (hl : o ≠ Reg.EVR_LOST)
    (hs : o ≠ Reg.EVR_STAT) (hm : o ≠ Reg.RTC_MEASCTL) :
    (syncHoldoverEff s).reg o = ((s.setF F.TCK_STAT_HOLD 1).setF F.TCK_STAT_LOCK 0).reg o := by
  have hr : s.holdover.lostRef.reg o = ((s.setF F.TCK_STAT_HOLD 1).setF F.TCK_STAT_LOCK 0).reg o := by
    rw [State.lostRef_reg hl hs hm, State.holdover_reg hl hs]
  rw [syncHoldoverEff_lost h k]
  split
  · exact State.otherLan_reg.trans hr
  · exact hr

theorem syncHoldoverEff_domB (h : s.servoSource = 1) (k : s.on F.TCK_STAT_HOLD = false) :
    (syncHoldoverEff s).time.domB = !s.time.domB := by
  have hd : s.holdover.lostRef.time.domB = s.time.domB := by rw [State.lostRef_domB, State.holdover_time]
  rw [syncHoldoverEff_lost (by simp [h]) k, if_pos h, ← hd]
  rfl

theorem State.holdover_measNet : s.holdover.measNet = s.measNet := by
  have hr : s.holdover.reg Reg.RTC_MEASCTL = s.reg Reg.RTC_MEASCTL := by
    rw [State.holdover_reg (by decide) (by decide), State.reg_setF_other (by decide), State.reg_setF_other (by decide)]
  rw [State.measNet, State.measNet, State.holdover_time, State.rf_congr (f := F.RTC_MEASCTL_SRC) hr]

/-! ### Staged time -/

theorem State.setTimeGo_refused {x : HPort} (h : s.on F.RTC_CTL_NETSYNC = true) :
    s.setTimeGo x = s.setF F.RTC_SETCTL_REFUSED 1 := by
  rw [State.setTimeGo, if_pos h]

theorem State.setTimeGo_staged {x : HPort} (h : s.on F.RTC_CTL_NETSYNC = false) :
    s.setTimeGo x = { s.setF F.RTC_SETCTL_PEND 1 with time := { s.time with
      staged := some (BitVec.ofNat 48 ((s.reg Reg.RTC_SETSECL).toNat + s.rf F.RTC_SETSECH_SEC * 2 ^ 32),
        s.reg Reg.RTC_SETFRAC, x.num) } } := by
  rw [State.setTimeGo, if_neg (by simp [h])]
  rfl

/-- Settles O9. -/
theorem timeRegistersAndServo : Obligations.TimeRegistersAndServo := by
  refine ⟨?ctl, ?ctlLost, ?source, ?noTrim, ?tin, ?sync, ?pps, ?take, ?holdover, ?holdoverTin, ?go, ?refused, ?frac, ?cur⟩
  case ctl =>
    intro x v s hw hn
    rw [exec_rtcCtlWrite hw, State.writeRtcCtl_eq, if_neg]
    rcases hn with hn | hn <;> simp [hn]
  case ctlLost =>
    intro x v s hw hm hn
    rw [exec_rtcCtlWrite hw, State.writeRtcCtl_eq, if_pos (by simp [hm, hn])]
  case source =>
    exact fun s t => ⟨State.sourceChanged_same, fun h => ⟨State.sourceChanged_lock h, State.sourceChanged_hold h⟩⟩
  case noTrim => exact fun s => State.autoStart_off
  case tin => exact fun x v s => exec_clkTinWrite
  case sync =>
    intro lanB m s hn hl
    rw [exec_syncReceived, syncReceivedEff, if_neg (by simp [State.servoSource_network hn]), if_pos hl]
  case pps =>
    intro adv s hn ht
    have hs : (s.advance adv).servoSource = 2 := by
      rw [State.servoSource_congr State.advance_reg State.advance_reg, State.servoSource_tin hn ht]
    rw [exec_tinPpsEdge, tinPpsEdgeEff, if_pos hs]
  case take =>
    exact fun m s => ⟨State.servoTake_offset, State.servoTake_hold, State.servoTake_staged, State.servoTake_lock⟩
  case holdover =>
    intro s t hs hh ht
    rw [exec_syncHoldover] at ht
    cases ht
    refine ⟨?hold, ?lock, fun h => syncHoldoverEff_domB h hh⟩
    case hold =>
      rw [State.on_congr (syncHoldoverEff_reg hs hh (by decide) (by decide) (by decide)),
        State.on_setF_other (by decide) (by decide) (by decide)]
      exact State.on_setF_one (by decide) (by decide)
    case lock =>
      rw [State.on_congr (syncHoldoverEff_reg hs hh (by decide) (by decide) (by decide))]
      exact State.on_setF_zero (by decide) (by decide)
  case holdoverTin =>
    intro s hs hh hm
    rw [exec_syncHoldover, syncHoldoverEff_lost (by simp [hs]) hh, if_neg (by simp [hs]), State.lostRef,
      State.holdover_measNet, if_neg (by simp [hm])]
    rfl
  case go =>
    intro x s hw hn
    refine ⟨_, exec_setTimeGo hw, ?_⟩
    rw [State.setTimeGo_staged hn]
    refine ⟨?_, rfl, rfl, rfl⟩
    rw [State.on_congr State.reg_withTime]
    exact State.on_setF_one (by decide) (by decide)
  case refused =>
    intro x s hw hn
    rw [exec_setTimeGo hw, State.setTimeGo_refused hn]
  case frac => exact fun x adv s => rfl
  case cur => exact fun x s => rfl

end Sys2Proof.Machine
end

section
namespace Sys2Proof.Machine

/-! ## Loops and stores -/

theorem forUpto_succ {σ : Type} {n : Nat} {s : σ} {f : Nat → σ → σ} : forUpto (n + 1) s f = f n (forUpto n s f) := by
  simp [forUpto, List.range_succ]

theorem forUpto_induction {σ : Type} {P : σ → Prop} {n : Nat} {s : σ} {f : Nat → σ → σ} (h : P s)
    (hf : ∀ i u, P u → P (f i u)) : P (forUpto n s f) := by
  induction n with
  | zero => exact h
  | succ n ih =>
    rw [forUpto_succ]
    exact hf n _ ih

/-- A key that the filter lets through reads as before. -/
theorem Store.get_filter_kept {α : Type} {d : Nat → α} {m : Store α} {p : Nat × α → Bool} {k : Nat}
    (h : ∀ v, p (k, v) = true) : Store.get d (m.filter p) k = Store.get d m k := by
  induction m with
  | nil => rfl
  | cons e m ih =>
    obtain ⟨j, v⟩ := e
    rw [List.filter_cons]
    by_cases hj : j = k
    · subst hj
      simp only [h, if_true, Store.get]
    · split <;> simp only [Store.get, hj, if_false, ih]

/-- A key that the filter takes out reads as its default. -/
theorem Store.get_filter_removed {α : Type} {d : Nat → α} {m : Store α} {p : Nat × α → Bool} {k : Nat}
    (h : ∀ v, p (k, v) = false) : Store.get d (m.filter p) k = d k := by
  refine Store.get_absent fun e he hk => ?_
  obtain ⟨j, v⟩ := e
  cases hk
  have hp := (List.mem_filter.1 he).2
  rw [h] at hp
  cases hp

/-! ## Keep state (R664)

`SameLoss s t` says of every operation of a power-on reset that it leaves the count's second and the second of the last loss of
supply; a chain `h.a.b` says that the operation is `a` and then `b`. -/

/-- From `s` to `t` the second of the count and PWR_LOSSSEC stay. -/
structure SameLoss (s t : State) : Prop where
  sec : t.time.sec = s.time.sec
  loss : t.reg Reg.PWR_LOSSSEC = s.reg Reg.PWR_LOSSSEC

namespace SameLoss

variable {s t u : State}

theorem refl : SameLoss s s := ⟨rfl, rfl⟩

theorem trans (h : SameLoss s t) (k : SameLoss t u) : SameLoss s u := ⟨k.sec.trans h.sec, k.loss.trans h.loss⟩

theorem ite {c : Prop} {_ : Decidable c} (h : SameLoss s t) (k : SameLoss s u) : SameLoss s (if c then t else u) := by
  split
  · exact h
  · exact k

theorem forUpto {n : Nat} {f : Nat → State → State} (h : SameLoss s t) (hf : ∀ i u, SameLoss s u → SameLoss s (f i u)) :
    SameLoss s (forUpto n t f) :=
  forUpto_induction h hf

/-- Any part of the state but the registers, the variant and the time may change. -/
theorem other {host : HostSt} {prt : PrtSt} {pool : PoolSt} {ptx : PtxSt} {fld : FldSt} {lge : LgeSt} {cle : CleSt} {lio : LioSt}
    {mtr : MtrSt} {saf : SafSt} {rsr : RsrSt} {key : KeySt} {dsp : DspSt} {can : CanSt} {twn : TwnSt} {upd : UpdSt} {rst : RstSt}
    {evr : RecSt} {out : List Out} {free : Nat} {pending : List Instr} (h : SameLoss s t) :
    SameLoss s { variant := t.variant, regs := t.regs, time := t.time, host, prt, pool, ptx, fld, lge, cle, lio, mtr, saf, rsr, key,
                 dsp, can, twn, upd, rst, evr, out, free, pending } :=
  h.trans ⟨rfl, State.reg_congr rfl rfl⟩

theorem setReg {off : Nat} {v : Word} (h : SameLoss s t) (hne : Reg.PWR_LOSSSEC ≠ off := by decide) :
    SameLoss s (t.setReg off v) :=
  h.trans ⟨by rw [State.setReg_time], State.reg_setReg_other hne⟩

theorem setF {f : Fld} {n : Nat} (h : SameLoss s t) (hne : Reg.PWR_LOSSSEC ≠ f.off := by decide) : SameLoss s (t.setF f n) :=
  h.setReg hne

theorem emit {o : Out} (h : SameLoss s t) : SameLoss s (t.emit o) := h.other

theorem raiseEvr {bit : Nat} (h : SameLoss s t) : SameLoss s (t.raiseEvr bit) := by
  refine h.trans ⟨?_, State.raise_reg (by decide)⟩
  rw [State.raiseEvr, State.raise_sinks]
  rfl

theorem report {code part : Nat} {a b c : Word} (h : SameLoss s t) : SameLoss s (t.report code part a b c) :=
  h.trans ⟨by rw [State.report_time], State.report_reg (by decide) (by decide)⟩

theorem setBucket {b : Nat} {k : Bucket} (h : SameLoss s t) : SameLoss s (t.setBucket b k) := h.other

theorem writeRecord {r : Report} {summ : Bool} (h : SameLoss s t) : SameLoss s (t.writeRecord r summ) := by
  have hseq : ∀ evr n, SameLoss s (({ t with evr := evr } : State).setF F.EVR_HEADSEQ_SEQ n) := fun _ _ => h.other.setF
  have hcnt : ∀ {u c m n}, SameLoss s u →
      SameLoss s ((if c = 0 then u.setF F.EVR_KBASE_SEQ m else u).setF F.EVR_KCNT_CNT n) :=
    fun hu => (SameLoss.ite hu.setF hu).setF
  unfold State.writeRecord
  exact .ite (.ite (hcnt (hseq _ _)).raiseEvr (hcnt (hseq _ _))) (hseq _ _)

theorem recordOne {r : Report} (h : SameLoss s t) : SameLoss s (t.recordOne r) :=
  .ite h.writeRecord (.ite h.setBucket.writeRecord h.setBucket.setF.raiseEvr)

theorem recordWriteEff (h : SameLoss s t) : SameLoss s (recordWriteEff t) := by
  unfold Machine.recordWriteEff
  refine .ite h (.ite h.other.writeRecord ?_)
  split
  · exact h
  · exact h.other.recordOne

theorem drainReports (h : SameLoss s t) : SameLoss s t.drainReports := h.forUpto fun _ _ h => h.recordWriteEff

theorem writeBank {b : Bank} (h : SameLoss s t) : SameLoss s (t.writeBank b) := h.other.setReg

theorem tornSave (h : SameLoss s t) : SameLoss s t.tornSave := by
  unfold State.tornSave
  split
  · exact h
  · exact h.other.writeBank

theorem pwmIdle {n : Nat} {low : Bool} (h : SameLoss s t) : SameLoss s (t.pwmIdle n low) := by
  unfold State.pwmIdle
  exact (h.setReg (by simp only [Reg.PWR_LOSSSEC, Reg.LIO_PWDUTY]; omega)).emit

theorem lioSafe (h : SameLoss s t) : SameLoss s t.lioSafe := by
  unfold State.lioSafe
  refine other (forUpto (forUpto h fun o u hu => ?_) fun n u hu => hu.pwmIdle)
  exact (hu.setReg (by simp only [Reg.PWR_LOSSSEC, Reg.LIO_AOCODE]; omega)).emit

theorem panelsOff (h : SameLoss s t) : SameLoss s t.panelsOff := h.forUpto fun _ _ h => .ite h.emit h

theorem keyReset (h : SameLoss s t) : SameLoss s t.keyReset := (h.forUpto fun _ _ h => .ite h.report h).other

theorem expireKeys (h : SameLoss s t) : SameLoss s t.expireKeys := .ite h.keyReset h.keyReset.drainReports

end SameLoss

section

variable {s : State}

/-- A register that survives a reset keeps its value (R14, R25). -/
theorem State.cleared_reg {por : Bool} {o : Nat} (h : Reg.survives por o = true) (k : o ≠ Reg.TWN_STAT) :
    (s.cleared por).reg o = s.reg o := by
  rw [State.cleared, State.reg_setF_other k]
  exact Store.get_filter_kept fun _ => h

theorem SameLoss.cleared {por : Bool} {t : State} (h : SameLoss s t) : SameLoss s (t.cleared por) :=
  h.trans ⟨by rw [State.cleared, State.setF_time], State.cleared_reg (by cases por <;> decide) (by decide)⟩

theorem SameLoss.assertReset {por : Bool} {cause : Nat} {t : State} (h : SameLoss s t) :
    SameLoss s (t.assertReset por cause) := by
  unfold State.assertReset
  exact (SameLoss.ite h.emit h).lioSafe.panelsOff.expireKeys.other.cleared.emit

theorem SameLoss.porReset {t : State} (h : SameLoss s t) : SameLoss s t.porReset := h.tornSave.assertReset.other.other

/-- The module as it enters Keep state, but for the state itself: the second of the loss is recorded, everything outside the
always-on domain is reset, and the outage is noted. -/
def State.lossNoted (s : State) : State :=
  let t := (s.setReg Reg.PWR_LOSSSEC (wd (s.time.sec.toNat % 2 ^ 32))).porReset
  (t.setRst { t.rst with outage := true }).setF F.MTR_TWSTAT_LOWB 0

/-- Keep state begins. -/
def State.enterKeep (s : State) : State := { s with time := { s.time with keep := true, rolled := false } }

theorem State.enterKeep_keep : s.enterKeep.time.keep = true := rfl

theorem State.enterKeep_sec : s.enterKeep.time.sec = s.time.sec := rfl

theorem State.enterKeep_rst : s.enterKeep.rst = s.rst := rfl

theorem State.enterKeep_reg {o : Nat} : s.enterKeep.reg o = s.reg o := State.reg_withTime

theorem exec_keepStateEntry : exec .keepStateEntry s = .next (keepStateEntryEff s) := rfl

theorem keepStateEntryEff_supplied (h : s.time.keep = false) :
    keepStateEntryEff s = s.lossNoted.enterKeep := by
  rw [keepStateEntryEff, if_neg (by simp [h])]
  rfl

theorem State.lossNoted_sameLoss : SameLoss (s.setReg Reg.PWR_LOSSSEC (wd (s.time.sec.toNat % 2 ^ 32))) s.lossNoted := by
  unfold State.lossNoted
  exact SameLoss.refl.porReset.other.setF

theorem State.lossNoted_outage : s.lossNoted.rst.outage = true := by
  rw [State.lossNoted, State.setF_rst, State.setRst_rst]

end

end Sys2Proof.Machine
end

section
namespace Sys2Proof.Machine

/-! ## Settings and clearing of the theft watch (R416, R420) -/

variable {s : State}

theorem exec_theftWatchConfigWrite {x : HPort} {k : Fin 16} {v : Word} (h : s.mayWrite x 14 = true) :
    exec (.theftWatchConfigWrite x k v) s = .next ((s.writeFields (Reg.MTR_TW k) v).copyWatch) := by
  rw [← State.asWrite_may (t := (s.writeFields (Reg.MTR_TW k) v).copyWatch) h]
  rfl

theorem exec_theftWatchClear {x : HPort} {v : Word} (h : s.mayWrite x 14 = true) :
    exec (.theftWatchClear x v) s = .next (s.writeWatchClr v) := by
  rw [← State.asWrite_may (t := s.writeWatchClr v) h]
  rfl

theorem Reg.MTR_TWAS_inj {j k : Nat} (h : j ≠ k) : Reg.MTR_TWAS j ≠ Reg.MTR_TWAS k := by
  simp only [Reg.MTR_TWAS]; omega

/-- One total of MTR_TWCLR's mask. -/
def State.clearTotal (s : State) (v : Word) (k : Nat) : State :=
  if bitOf v.toNat k then s.setReg (Reg.MTR_TWAS k) 0 else s

theorem State.clearTotal_same {v : Word} {k : Nat} :
    (s.clearTotal v k).reg (Reg.MTR_TWAS k) = if bitOf v.toNat k then 0 else s.reg (Reg.MTR_TWAS k) := by
  unfold State.clearTotal
  split
  · exact State.reg_setReg_same
  · rfl

theorem State.clearTotal_other {v : Word} {k o : Nat} (h : o ≠ Reg.MTR_TWAS k) : (s.clearTotal v k).reg o = s.reg o := by
  unfold State.clearTotal
  split
  · exact State.reg_setReg_other h
  · rfl

theorem State.clearTotal_frame {v : Word} {k : Nat} : (s.clearTotal v k).mtr = s.mtr ∧ (s.clearTotal v k).host = s.host := by
  unfold State.clearTotal
  split
  · exact ⟨State.setReg_mtr, State.setReg_host⟩
  · exact ⟨rfl, rfl⟩

/-- After the first `n` bits of the mask, the totals below `n` are cleared where it says so. -/
theorem State.clearTotals_reg {v : Word} {n j : Nat} :
    (forUpto n s (fun k t => t.clearTotal v k)).reg (Reg.MTR_TWAS j) =
      if j < n ∧ bitOf v.toNat j = true then 0 else s.reg (Reg.MTR_TWAS j) := by
  induction n with
  | zero => rfl
  | succ n ih =>
    rw [forUpto_succ]
    by_cases hj : j = n
    · subst hj
      rw [State.clearTotal_same, ih]
      simp
    · rw [State.clearTotal_other (Reg.MTR_TWAS_inj hj), ih]
      have hlt : j < n + 1 ↔ j < n := by omega
      simp only [hlt]

theorem State.writeWatchClr_reg {v : Word} (k : Fin 16) :
    (s.writeWatchClr v).reg (Reg.MTR_TWAS k) = if bitOf v.toNat k then 0 else s.reg (Reg.MTR_TWAS k) := by
  refine State.clearTotals_reg.trans ?_
  simp [k.isLt]

theorem State.writeWatchClr_frame {v : Word} : (s.writeWatchClr v).mtr = s.mtr ∧ (s.writeWatchClr v).host = s.host := by
  refine forUpto_induction (f := fun k (t : State) => t.clearTotal v k) (P := fun t => t.mtr = s.mtr ∧ t.host = s.host)
    ⟨rfl, rfl⟩ ?_
  rintro k u ⟨hm, hh⟩
  obtain ⟨hm', hh'⟩ := u.clearTotal_frame (v := v) (k := k)
  exact ⟨hm'.trans hm, hh'.trans hh⟩

/-! ## Bursts (R417, R419) -/

theorem exec_theftWatchBurst {codes : List (List Int)} :
    exec (.theftWatchBurst codes) s = .next (theftWatchBurstEff codes s) := rfl

theorem exec_theftWatchEvaluation : exec .theftWatchEvaluation s = .next (theftWatchEvaluationEff s) := rfl

/-- What a burst does: the rail and MCLK3 are on, and the stored part holds the RMS values `rms`. -/
def State.burst (s : State) (rms : List Nat) : State :=
  ((s.emit (.modPower true)).emit (.mclk 8 true)).setMtr { s.mtr with kept := { s.mtr.kept with watchRms := rms } }

theorem State.watching_iff :
    s.watching = true ↔ s.variant.lacks 14 = false ∧ s.time.keep = true ∧ s.on F.MTR_TWCTL_EN = true ∧
      270 ≤ s.rf F.PWR_MEAS_VBAK := by
  simp [State.watching, and_assoc]

theorem theftWatchBurstEff_watching {codes : List (List Int)} (h : s.watching = true) :
    theftWatchBurstEff codes s =
      s.burst ((List.range 80).map (fun c => watchRms s.mtr.kept.watchCal c (codes.getD c []))) := by
  obtain ⟨hl, hk, he, hv⟩ := State.watching_iff.1 h
  rw [theftWatchBurstEff, if_neg (by simp [hv]), if_pos h]
  rfl

theorem theftWatchBurstEff_unwatched {codes : List (List Int)}
    (h : s.variant.lacks 14 = true ∨ s.time.keep = false ∨ s.on F.MTR_TWCTL_EN = false) : theftWatchBurstEff codes s = s := by
  have hw : ¬ s.watching = true := by
    rw [State.watching_iff]
    rcases h with h | h | h <;> simp [h]
  rw [theftWatchBurstEff, if_neg, if_neg hw]
  rcases h with h | h | h <;> simp [h]

theorem theftWatchBurstEff_lowBattery {codes : List (List Int)} (hl : s.variant.lacks 14 = false) (hk : s.time.keep = true)
    (he : s.on F.MTR_TWCTL_EN = true) (hv : s.rf F.PWR_MEAS_VBAK < 270) :
    theftWatchBurstEff codes s = s.setF F.MTR_TWSTAT_LOWB 1 := by
  rw [theftWatchBurstEff, if_pos (by simp [hl, hk, he, hv])]

/-! ## Judging an entry (R418, R419) -/

theorem State.addSat_rf {f : Fld} {n : Nat} (h : f.lo ≤ f.hi) (h32 : f.hi < 32) :
    (s.addSat f n).rf f = min (s.rf f + n) (2 ^ (f.hi + 1 - f.lo) - 1) := by
  have hp := Nat.two_pow_pos (f.hi + 1 - f.lo)
  rw [State.addSat, State.rf_setF_same h h32]
  exact Nat.mod_eq_of_lt (by omega)

theorem State.addSat_reg {f : Fld} {n o : Nat} (h : o ≠ f.off) : (s.addSat f n).reg o = s.reg o := State.reg_setF_other h

theorem State.setKept_reg {k : MtrKept} {o : Nat} : (s.setKept k).reg o = s.reg o := State.reg_congr rfl rfl

@[simp] theorem State.setKept_kept {k : MtrKept} : (s.setKept k).mtr.kept = k := rfl

theorem Reg.MTR_TWAS_ne_TWSTAT (k : Fin 16) : Reg.MTR_TWSTAT ≠ Reg.MTR_TWAS k := by
  simp only [Reg.MTR_TWSTAT, Reg.MTR_TWAS]; omega

/-- A qualifying entry's total grows by its current in tenths. -/
def State.watchGrown (s : State) (k : Nat) : State :=
  s.useFree.addSat (F.MTR_TWAS_AS k) (wholeUnits ((s.watchJudge k).1.mul (fpInt 10)) (bitOf s.freeVal.toNat 1))

/-- The peak that a burst gives an episode. -/
def State.watchPeak (s : State) (k : Nat) : Nat :=
  wholeUnits ((s.watchJudge k).1.mul (fpInt 100)) (bitOf s.freeVal.toNat 0)

/-- The episode that a first qualifying burst opens. -/
def State.newEpisode (s : State) (k : Nat) : Episode :=
  { entry := k, start := wd (s.time.sec.toNat % 2 ^ 32), bursts := 1, peak := s.watchPeak k }

theorem State.watchGrown_kept {k : Nat} : (s.watchGrown k).mtr = s.mtr := by
  rw [State.watchGrown, State.addSat_mtr, State.useFree_mtr]

theorem State.watchGrown_rf {k : Nat} :
    (s.watchGrown k).rf (F.MTR_TWAS_AS k) =
      min (s.rf (F.MTR_TWAS_AS k) + wholeUnits ((s.watchJudge k).1.mul (fpInt 10)) (bitOf s.freeVal.toNat 1)) 0xFFFFFFFF := by
  rw [State.watchGrown, State.addSat_rf (Nat.zero_le _) (show 31 < 32 by decide), State.rf_congr State.useFree_reg]
  rfl

theorem State.watchGrown_twstat {k : Fin 16} : (s.watchGrown k).reg Reg.MTR_TWSTAT = s.reg Reg.MTR_TWSTAT := by
  rw [State.watchGrown, State.addSat_reg (Reg.MTR_TWAS_ne_TWSTAT k), State.useFree_reg]

theorem State.watchEntry_off {k : Nat} (h : s.on (F.MTR_TW_EN k) = false) : s.watchEntry k = s := by
  simp [State.watchEntry, h]

variable {k : Nat}

/-- A burst that does not qualify ends the entry's run. -/
theorem State.watchEntry_ends (h : s.on (F.MTR_TW_EN k) = true) (hj : (s.watchJudge k).2 = false) :
    s.watchEntry k = s.useFree.setKept { s.mtr.kept with
      qualified := Store.put noFlag s.mtr.kept.qualified k false
      recorded := Store.put noFlag s.mtr.kept.recorded k false } := by
  rw [State.watchEntry, if_neg (by simp [h])]
  rcases e : s.watchJudge k with ⟨amps, yes⟩
  simp only [e] at hj
  subst hj
  rfl

/-- A qualifying burst of a run that could not be recorded only adds to the total. -/
theorem State.watchEntry_unrecorded (h : s.on (F.MTR_TW_EN k) = true) (hj : (s.watchJudge k).2 = true)
    (hq : Store.get noFlag s.mtr.kept.qualified k = true) (hr : Store.get noFlag s.mtr.kept.recorded k = false) :
    s.watchEntry k = s.watchGrown k := by
  rw [State.watchEntry, if_neg (by simp [h])]
  rcases e : s.watchJudge k with ⟨amps, yes⟩
  simp only [e] at hj
  subst hj
  simp [State.watchGrown, e, hq, hr]

/-- A first qualifying burst with 32 episodes open counts OVF. -/
theorem State.watchEntry_overflow (h : s.on (F.MTR_TW_EN k) = true) (hj : (s.watchJudge k).2 = true)
    (hq : Store.get noFlag s.mtr.kept.qualified k = false) (hn : 32 ≤ s.mtr.kept.episodes.length) :
    s.watchEntry k = ((s.watchGrown k).setKept { s.mtr.kept with
      qualified := Store.put noFlag s.mtr.kept.qualified k true }).addSat F.MTR_TWSTAT_OVF 1 := by
  rw [State.watchEntry, if_neg (by simp [h])]
  rcases e : s.watchJudge k with ⟨amps, yes⟩
  simp only [e] at hj
  subst hj
  simp [State.watchGrown, e, hq, Nat.not_lt.2 hn]

/-- A first qualifying burst opens an episode while fewer than 32 are open. -/
theorem State.watchEntry_opens (h : s.on (F.MTR_TW_EN k) = true) (hj : (s.watchJudge k).2 = true)
    (hq : Store.get noFlag s.mtr.kept.qualified k = false) (hn : s.mtr.kept.episodes.length < 32) :
    s.watchEntry k = ((s.watchGrown k).setKept { s.mtr.kept with
      qualified := Store.put noFlag s.mtr.kept.qualified k true
      recorded := Store.put noFlag s.mtr.kept.recorded k true
      episodes := s.mtr.kept.episodes ++ [s.newEpisode k] }).setF F.MTR_TWSTAT_NREC (s.mtr.kept.episodes.length + 1) := by
  rw [State.watchEntry, if_neg (by simp [h])]
  rcases e : s.watchJudge k with ⟨amps, yes⟩
  simp only [e] at hj
  subst hj
  simp [State.watchGrown, State.newEpisode, State.watchPeak, e, hq, hn]

/-! ## The always-on domain's power-on reset (R72) -/

theorem exec_aonPowerOnReset : exec .aonPowerOnReset s = .next (aonPowerOnResetEff s) := rfl

/-- A cause of OSF leaves metering, point exchange and the variant. -/
theorem State.osfCause_frame {bit : Nat} :
    (s.osfCause bit).mtr = s.mtr ∧ (s.osfCause bit).ptx = s.ptx ∧ (s.osfCause bit).variant = s.variant := by
  unfold State.osfCause
  dsimp only
  split
  · exact ⟨rfl, rfl, rfl⟩
  · split
    · rw [State.report_sinks]; exact ⟨rfl, rfl, rfl⟩
    · exact ⟨rfl, rfl, rfl⟩

theorem Reg.resetVal_RTC_STAT (v : Variant) : Reg.resetVal v Reg.RTC_STAT = 3 := by
  cases v <;> decide

theorem Reg.row?_RTC_STAT : (Reg.row? Reg.RTC_STAT).map RegRow.dom = some .aon := by decide

theorem aonPowerOnResetEff_idle (hk : s.time.keep = false) (hp : s.rst.phase ≠ 0) : aonPowerOnResetEff s = s := by
  rw [aonPowerOnResetEff, if_pos (by simp [hk, hp])]

theorem aonPowerOnResetEff_count (h : s.time.keep = true ∨ s.rst.phase = 0) :
    (aonPowerOnResetEff s).time.sec = 0 ∧ (aonPowerOnResetEff s).time.frac = 0 := by
  rw [aonPowerOnResetEff, if_neg (by rcases h with h | h <;> simp [h])]
  exact ⟨rfl, rfl⟩

theorem aonPowerOnResetEff_stat (h : s.time.keep = true ∨ s.rst.phase = 0) :
    (aonPowerOnResetEff s).reg Reg.RTC_STAT = 3 := by
  rw [aonPowerOnResetEff, if_neg (by rcases h with h | h <;> simp [h])]
  obtain ⟨r, hr, hd⟩ := Option.map_eq_some_iff.1 Reg.row?_RTC_STAT
  refine (Store.get_filter_removed fun v => ?_).trans (Reg.resetVal_RTC_STAT _)
  simp only [hr, hd, bne_self_eq_false]

theorem aonPowerOnResetEff_kept (h : s.time.keep = true ∨ s.rst.phase = 0) :
    (aonPowerOnResetEff s).mtr.kept.episodes = [] ∧ (aonPowerOnResetEff s).mtr.kept.snaps = s.mtr.kept.snaps ∧
      (aonPowerOnResetEff s).ptx = s.ptx := by
  obtain ⟨hm, hp, -⟩ := s.osfCause_frame (bit := 1)
  rw [aonPowerOnResetEff, if_neg (by rcases h with h | h <;> simp [h])]
  refine ⟨rfl, ?_, hp⟩
  rw [← hm]
  rfl

/-- Settles O44. -/
theorem theftWatchAndSupplyLoss : Obligations.TheftWatchAndSupplyLoss := by
  refine ⟨?config, ?clear, ?burst, ?unwatched, ?lowBattery, ?evaluation, ?noEvaluation, ?disabled, ?ends, ?overflow,
    ?unrecorded, ?opens, ?keep, ?inKeep, ?idle, ?powerOn⟩
  case config => exact fun x k v s => exec_theftWatchConfigWrite
  case clear =>
    exact fun x v s hw => ⟨_, exec_theftWatchClear hw, State.writeWatchClr_reg, State.writeWatchClr_frame⟩
  case burst =>
    intro codes s hw
    refine ⟨_, exec_theftWatchBurst, ?_⟩
    rw [theftWatchBurstEff_watching hw]
    exact ⟨rfl, rfl, rfl, rfl⟩
  case unwatched =>
    intro codes s h
    rw [exec_theftWatchBurst, theftWatchBurstEff_unwatched h]
  case lowBattery =>
    intro codes s hl hk he hv
    rw [exec_theftWatchBurst, theftWatchBurstEff_lowBattery hl hk he hv]
  case evaluation =>
    intro s hw
    rw [exec_theftWatchEvaluation, theftWatchEvaluationEff, if_pos hw]
  case noEvaluation =>
    intro s hw
    rw [exec_theftWatchEvaluation, theftWatchEvaluationEff, if_neg (by simp [hw])]
  case disabled => exact fun k s => State.watchEntry_off
  case ends =>
    intro k s h hj
    rw [State.watchEntry_ends h hj]
    exact ⟨by simp only [State.setKept_kept, Store.get_put_same], rfl, rfl⟩
  case overflow =>
    intro k s h hj hq hn
    rw [State.watchEntry_overflow h hj hq hn]
    refine ⟨rfl, by simp only [State.addSat_mtr, State.setKept_kept, Store.get_put_same], ?_⟩
    rw [State.addSat_rf (by decide) (by decide), State.addSat_rf (by decide) (by decide), State.rf_congr State.setKept_reg,
      State.rf_congr (f := F.MTR_TWSTAT_OVF) State.watchGrown_twstat]
  case unrecorded =>
    intro k s h hj hq hr
    rw [State.watchEntry_unrecorded h hj hq hr]
    exact ⟨by rw [State.watchGrown_kept], State.watchGrown_rf⟩
  case opens =>
    intro k s h hj hq hn
    rw [State.watchEntry_opens h hj hq hn]
    refine ⟨rfl, by simp only [State.setF_mtr, State.setKept_kept, Store.get_put_same], ?_,
      State.rf_setF_same (by decide) (by decide)⟩
    rw [State.rf_congr (State.reg_setF_other (Reg.MTR_TWAS_ne_TWSTAT k).symm), State.rf_congr State.setKept_reg,
      State.watchGrown_rf]
  case keep =>
    intro s hk
    have hl := s.lossNoted_sameLoss
    refine ⟨_, exec_keepStateEntry, ?_⟩
    rw [keepStateEntryEff_supplied hk]
    refine ⟨State.enterKeep_keep, ?loss, ?outage, ?sec⟩
    case loss => rw [State.enterKeep_reg, hl.loss, State.reg_setReg_same]
    case outage => rw [State.enterKeep_rst, State.lossNoted_outage]
    case sec => rw [State.enterKeep_sec, hl.sec, State.setReg_time]
  case inKeep =>
    intro s hk
    rw [exec_keepStateEntry, keepStateEntryEff, if_pos hk]
  case idle =>
    intro s hk hp
    rw [exec_aonPowerOnReset, aonPowerOnResetEff_idle hk hp]
  case powerOn =>
    intro s h
    obtain ⟨hsec, hfrac⟩ := aonPowerOnResetEff_count h
    obtain ⟨hep, hsnaps, hptx⟩ := aonPowerOnResetEff_kept h
    have hstat := aonPowerOnResetEff_stat h
    refine ⟨_, exec_aonPowerOnReset, hsec, hfrac, hep, ?osf, ?cpor, hsnaps, hptx⟩
    case osf => exact congrArg (fun w => decide (fieldOf w 0 0 = 1)) hstat
    case cpor => exact congrArg (fun w => decide (fieldOf w 1 1 = 1)) hstat

end Sys2Proof.Machine
end

section
namespace Sys2Proof.Machine

/-! ## Partition set-up (R100, R116, R119 to R123) -/

variable {s : State} {x : HPort}

theorem exec_shareCommit (h : s.mayWrite x 6 = true) : exec (.shareCommit x) s = .next (s.shareAct s.shareCommit) := by
  rw [← State.asWrite_may (t := s.shareAct s.shareCommit) h]
  rfl

theorem exec_shareReadBack (h : s.mayWrite x 6 = true) :
    exec (.shareReadBack x) s = .next (s.shareAct s.shareReadBack) := by
  rw [← State.asWrite_may (t := s.shareAct s.shareReadBack) h]
  rfl

theorem exec_prtPenWrite {j : Fin 4} {v : Word} (h : s.mayWrite x 6 = true) :
    exec (.prtPenWrite x j v) s = .next (s.writePen x j v) := by
  rw [← State.asWrite_may (t := s.writePen x j v) h]
  rfl

theorem exec_cfgcrcRecompute : exec .cfgcrcRecompute s = .next (s.setReg Reg.PRT_CFGCRC (crc32Words s.cfgWords)) := rfl

/-! ### The staged share entry -/

theorem State.shareAct_idle {t : State} (h : s.on F.PRT_SHCMD_BUSY = false) : s.shareAct t = t.setF F.PRT_SHCMD_BUSY 1 := by
  simp [State.shareAct, h]

theorem State.shareAct_busy {t : State} (h : s.on F.PRT_SHCMD_BUSY = true) : s.shareAct t = s.badVal := by
  simp [State.shareAct, h]

theorem State.shareCommit_refused (h : s.stagedShare.refused = true) : s.shareCommit = s.setF F.PRT_SHCMD_ERR 1 := by
  simp [State.shareCommit, h]

/-- The entry that a commit stores: an invalid one as zero. -/
def State.shareStored (s : State) : Share := if s.stagedShare.valid then s.stagedShare else { w0 := 0, w1 := 0 }

theorem State.shareCommit_accepted (h : s.stagedShare.refused = false) :
    s.shareCommit =
      (({ s with prt := { s.prt with
            shares := Store.put Share.dflt s.prt.shares (s.rf F.PRT_SHIDX_IDX) s.shareStored } } : State).report
        0x0602 0 (wd (s.rf F.PRT_SHIDX_IDX)) (s.reg Reg.PRT_SHW0) (s.reg Reg.PRT_SHW1)).cullSubs := by
  have hr : ¬ s.stagedShare.refused = true := by simp [h]
  exact if_neg hr

/-! ### The partition enables -/

/-- Setting bit 0 of a word is its disjunction with 1. -/
theorem wd_withBit_zero {v : Word} : wd (withBit v.toNat 0 true) = v ||| 1 := by
  refine BitVec.eq_of_toNat_eq ?_
  have hv := v.isLt
  have hdiv : (v.toNat ||| 1) / 2 = v.toNat / 2 := by simp [Nat.or_div_two]
  have hmod : (v.toNat ||| 1) % 2 = 1 := by simp [Nat.or_mod_two_eq_one]
  have hor : (v ||| 1).toNat = v.toNat ||| 1 := rfl
  simp only [wd, withBit, bitOf, BitVec.toNat_ofNat, hor, Nat.pow_zero, Nat.div_one, decide_eq_true_eq, if_true]
  split <;> omega

theorem Reg.PRT_PEN_range (j : Fin 4) : 0x60010 ≤ Reg.PRT_PEN j ∧ Reg.PRT_PEN j < 0x60020 := by
  simp only [Reg.PRT_PEN]; omega

theorem Reg.PRT_PEN_ne_EVR (j : Fin 4) : Reg.PRT_PEN j ≠ Reg.EVR_LOST ∧ Reg.PRT_PEN j ≠ Reg.EVR_STAT := by
  have := Reg.PRT_PEN_range j
  simp only [Reg.EVR_LOST, Reg.EVR_STAT]; omega

theorem Reg.PRT_PEN_inj {j k : Nat} (h : j ≠ k) : Reg.PRT_PEN j ≠ Reg.PRT_PEN k := by
  simp only [Reg.PRT_PEN]; omega

/-- The word that a write of `v` leaves in PRT_PEN[j]: partition 0 stays enabled (R116). -/
def penWord (j : Nat) (v : Word) : Word := if j = 0 then v ||| 1 else v

theorem wd_pen {j : Nat} {v : Word} : wd (if j = 0 then withBit v.toNat 0 true else v.toNat) = penWord j v := by
  unfold penWord
  split
  · exact wd_withBit_zero
  · exact BitVec.eq_of_toNat_eq (Nat.mod_eq_of_lt v.isLt)

/-- A write of PRT_PEN[j] stores one word; the reports that follow change no enable. -/
theorem State.writePen_reg {j k : Fin 4} {v : Word} :
    (s.writePen x j v).reg (Reg.PRT_PEN k) = (s.setReg (Reg.PRT_PEN j) (penWord j v)).reg (Reg.PRT_PEN k) := by
  obtain ⟨hlost, hstat⟩ := Reg.PRT_PEN_ne_EVR k
  unfold State.writePen
  extract_lets old new
  have hnew : wd new = penWord j v := wd_pen
  rw [hnew]
  refine forUpto_induction
    (P := fun t : State => t.reg (Reg.PRT_PEN k) = (s.setReg (Reg.PRT_PEN j) (penWord j v)).reg (Reg.PRT_PEN k)) rfl ?_
  intro b u hu
  split
  · exact (State.report_reg hlost hstat).trans hu
  · exact hu

theorem State.writePen_same {j : Fin 4} {v : Word} : (s.writePen x j v).reg (Reg.PRT_PEN j) = penWord j v :=
  State.writePen_reg.trans State.reg_setReg_same

theorem State.writePen_other {j k : Fin 4} {v : Word} (h : k ≠ j) :
    (s.writePen x j v).reg (Reg.PRT_PEN k) = s.reg (Reg.PRT_PEN k) :=
  State.writePen_reg.trans (State.reg_setReg_other (Reg.PRT_PEN_inj (Fin.val_ne_of_ne h)))

theorem State.enabled_zero : s.enabled 0 = true := by
  simp [State.enabled]

/-- Settles O10: the share commands by BUSY and by the entry's check, an enable by the register that its write stores. -/
theorem partitionConfiguration : Obligations.PartitionConfiguration := by
  refine ⟨?_, ?_, ?_, ?_, ?_, ?_⟩
  · intro x s hw hb hr
    rw [exec_shareCommit hw, State.shareAct_idle hb, State.shareCommit_accepted hr]
    rfl
  · intro x s hw hb hr
    rw [exec_shareCommit hw, State.shareAct_idle hb, State.shareCommit_refused hr]
  · intro x s hw hb
    rw [exec_shareReadBack hw, State.shareAct_idle hb]
    rfl
  · intro x s hw hb
    rw [exec_shareCommit hw, exec_shareReadBack hw, State.shareAct_busy hb, State.shareAct_busy hb]
    exact ⟨rfl, rfl⟩
  · intro x j v s hw
    exact ⟨_, exec_prtPenWrite hw, State.writePen_same, fun _ hk => State.writePen_other hk, State.enabled_zero⟩
  · intro s
    exact exec_cfgcrcRecompute

end Sys2Proof.Machine
end

section
namespace Sys2Proof.Machine

/-! ## What leaves host memory alone (R107, R130, R154)

`SameMem s t` is the one statement behind O60. As with `Keeps`, each operation that such a row carries out has one lemma
`SameMem.<operation>`, and a chain `h.a.b` says that the operation is `a` and then `b`. Only `dmaWrite` and `hostStores` write
host memory, and no operation below calls them. -/

/-- From `s` to `t` no byte of either host memory changes. -/
structure SameMem (s t : State) : Prop where
  mem0 : t.host.mem0 = s.host.mem0
  mem1 : t.host.mem1 = s.host.mem1

namespace SameMem

variable {s t u : State}

theorem refl : SameMem s s := ⟨rfl, rfl⟩

theorem trans (h : SameMem s t) (k : SameMem t u) : SameMem s u := ⟨k.mem0.trans h.mem0, k.mem1.trans h.mem1⟩

/-- Any part of the state but the registers and the host ports may change. -/
theorem other {time : TimeSt} {prt : PrtSt} {pool : PoolSt} {ptx : PtxSt} {fld : FldSt} {lge : LgeSt} {cle : CleSt} {lio : LioSt}
    {mtr : MtrSt} {saf : SafSt} {rsr : RsrSt} {key : KeySt} {dsp : DspSt} {can : CanSt} {twn : TwnSt} {upd : UpdSt} {rst : RstSt}
    {evr : RecSt} {out : List Out} {free : Nat} (h : SameMem s t) :
    SameMem s { variant := t.variant, regs := t.regs, time, host := t.host, prt, pool, ptx, fld, lge, cle, lio, mtr, saf, rsr, key,
                dsp, can, twn, upd, rst, evr, out, free, pending := t.pending } :=
  h.trans ⟨rfl, rfl⟩

theorem withRegs {regs : Store Word} (h : SameMem s t) : SameMem s { t with regs := regs } := h.trans ⟨rfl, rfl⟩

theorem setReg {off : Nat} {v : Word} (h : SameMem s t) : SameMem s (t.setReg off v) := h.withRegs

theorem setF {f : Fld} {n : Nat} (h : SameMem s t) : SameMem s (t.setF f n) := h.setReg

/-- The host ports may change, but for the bytes of host memory. -/
theorem host {host : HostSt} (h : SameMem s t) (e0 : host.mem0 = t.host.mem0 := by rfl)
    (e1 : host.mem1 = t.host.mem1 := by rfl) : SameMem s { t with host := host } :=
  h.trans ⟨e0, e1⟩

theorem ite {c : Prop} {_ : Decidable c} (h : SameMem s t) (k : SameMem s u) : SameMem s (if c then t else u) := by
  split
  · exact h
  · exact k

theorem of_host_eq (h : SameMem s t) (e : u.host = t.host) : SameMem s u :=
  h.trans ⟨congrArg HostSt.mem0 e, congrArg HostSt.mem1 e⟩

/-- An operation that is followed by another under a condition. -/
theorem thenIf {c : Prop} {_ : Decidable c} (h : SameMem s t) (k : SameMem s t → SameMem s u) : SameMem s (if c then u else t) :=
  ite (k h) h

/-- An operation that is followed by another unless a condition holds. -/
theorem elseIf {c : Prop} {_ : Decidable c} (h : SameMem s t) (k : SameMem s t → SameMem s u) : SameMem s (if c then t else u) :=
  ite h (k h)

/-- The state that an operation answers beside a value. -/
theorem of_eq {α : Type} {p : α × State} {a : α} (h : SameMem s p.2) (e : p = (a, u)) : SameMem s u := by
  subst e
  exact h

/-- The state that an operation answers beside two values. -/
theorem of_eq₂ {α β : Type} {p : α × β × State} {a : α} {b : β} (h : SameMem s p.2.2) (e : p = (a, b, u)) : SameMem s u := by
  subst e
  exact h

theorem foldl {α : Type} {f : State → α → State} {l : List α} (h : SameMem s t)
    (hf : ∀ u a, SameMem s u → SameMem s (f u a)) : SameMem s (l.foldl f t) := by
  induction l generalizing t with
  | nil => exact h
  | cons a l ih => exact ih (hf t a h)

theorem forUpto {n : Nat} {f : Nat → State → State} (h : SameMem s t)
    (hf : ∀ i u, SameMem s u → SameMem s (f i u)) : SameMem s (forUpto n t f) :=
  h.foldl fun u i => hf i u

end SameMem

section

variable {σ τ : State}

/-! ### Ops -/

theorem SameMem.addSat {f : Fld} {n : Nat} (h : SameMem σ τ) : SameMem σ (τ.addSat f n) := h.setF

theorem SameMem.emit {o : Out} (h : SameMem σ τ) : SameMem σ (τ.emit o) := h.other

theorem SameMem.useFree (h : SameMem σ τ) : SameMem σ τ.useFree := h.other

theorem SameMem.useFrees {n : Nat} (h : SameMem σ τ) : SameMem σ (τ.useFrees n) := h.other

theorem SameMem.badVal (h : SameMem σ τ) : SameMem σ τ.badVal := h.setF

theorem SameMem.absWr (h : SameMem σ τ) : SameMem σ τ.absWr := h.setF

theorem SameMem.setPend {x : HPort} {v : Nat} {b : Bool} (h : SameMem σ τ) : SameMem σ (τ.setPend x v b) := by
  unfold State.setPend
  split <;> exact h.host

theorem SameMem.msix {x : HPort} {v : Nat} (h : SameMem σ τ) : SameMem σ (τ.msix x v) := .ite h.setPend h.emit

theorem SameMem.unpend {x : HPort} (h : SameMem σ τ) : SameMem σ (τ.unpend x) := h.foldl (fun _ _ h => .ite h h.setPend.msix)

theorem SameMem.signalOn {x : HPort} {b : Nat} (h : SameMem σ τ) : SameMem σ (τ.signalOn x b) := .ite h.msix h

theorem SameMem.signalUnit {b : Nat} (h : SameMem σ τ) : SameMem σ (τ.signalUnit b) := h.signalOn.signalOn

theorem SameMem.raise {stat ien blk bit : Nat} (h : SameMem σ τ) : SameMem σ (τ.raise stat ien blk bit) :=
  .ite h (.ite h.setF.signalUnit h.setF)

theorem SameMem.reportFrom {origin code part : Nat} {p1 p2 p3 : Word} (h : SameMem σ τ) :
    SameMem σ (τ.reportFrom origin code part p1 p2 p3) :=
  .ite h (.ite h.other h.addSat.raise.other)

theorem SameMem.report {code part : Nat} {p1 p2 p3 : Word} (h : SameMem σ τ) : SameMem σ (τ.report code part p1 p2 p3) :=
  h.reportFrom

theorem SameMem.setCount {n : Nat} (h : SameMem σ τ) : SameMem σ (τ.setCount n) := h.other

/-! ### Pool -/

theorem SameMem.discard {q cause : Nat} (h : SameMem σ τ) : SameMem σ (τ.discard q cause) :=
  (SameMem.ite h h.setF.report).addSat

theorem SameMem.clearInject {q : Nat} (h : SameMem σ τ) : SameMem σ (τ.clearInject q) := h.other

theorem SameMem.refuseWrite {q cause : Nat} (h : SameMem σ τ) : SameMem σ (τ.refuseWrite q cause) :=
  (SameMem.ite h.clearInject h).discard

theorem SameMem.enqueue {q : Nat} {p : Pkt} (h : SameMem σ τ) : SameMem σ (τ.enqueue q p).2 := by
  unfold State.enqueue
  split
  · exact h.refuseWrite
  · exact (SameMem.ite h h.clearInject).other.other

theorem SameMem.shortfall (h : SameMem σ τ) : SameMem σ τ.shortfall := by
  unfold State.shortfall
  exact .ite h h.other.setF.report

theorem SameMem.retireCell (h : SameMem σ τ) : SameMem σ τ.retireCell := h.addSat.shortfall

theorem SameMem.poisonCell {q cell : Nat} (h : SameMem σ τ) : SameMem σ (τ.poisonCell q cell) := h.setF.addSat.report.retireCell

theorem SameMem.corrected {q : Nat} (h : SameMem σ τ) : SameMem σ (τ.corrected q) := h.addSat.addSat

theorem SameMem.flushNow {q : Nat} (h : SameMem σ τ) : SameMem σ (τ.flushNow q) := .ite h.other.other h.other.other.setF

theorem SameMem.requestFlush {q : Nat} (h : SameMem σ τ) : SameMem σ (τ.requestFlush q) := .ite h (.ite h.setF h.other)

/-! ### RiserPath -/

theorem SameMem.setRsr {r : RsrSt} (h : SameMem σ τ) : SameMem σ (τ.setRsr r) := h.other

theorem SameMem.toRiser {r c : Nat} {k : Pkt} (h : SameMem σ τ) : SameMem σ (τ.toRiser r c k) := by
  unfold State.toRiser
  refine .ite h ?_
  split
  · next e => exact h.enqueue.of_eq e
  · next e => exact (h.enqueue.of_eq e).setRsr

theorem SameMem.sendOwn {c : Nat} {k : Pkt} (h : SameMem σ τ) : SameMem σ (τ.sendOwn c k) :=
  h.setRsr.foldl (fun _ _ h => h.foldl (fun _ _ h => h.toRiser))

theorem SameMem.macsecFail {r kind : Nat} (h : SameMem σ τ) : SameMem σ (τ.macsecFail r kind) :=
  .ite h.raise (.ite h.raise.setRsr.report h.raise.report)

theorem SameMem.keyGone {slot : Nat} (h : SameMem σ τ) : SameMem σ (τ.keyGone slot) :=
  h.forUpto (fun _ _ h => .ite h.macsecFail h)

/-! ### Rings -/

theorem SameMem.setRing {x : HPort} {p : Nat} {r : RingSet} (h : SameMem σ τ) : SameMem σ (τ.setRing x p r) := h.host

theorem SameMem.setRs {x : HPort} {p st : Nat} (h : SameMem σ τ) : SameMem σ (τ.setRs x p st) := h.setF

theorem SameMem.fireVec {x : HPort} {p : Nat} {k : RingVec} (h : SameMem σ τ) : SameMem σ (τ.fireVec x p k) :=
  .ite h.setRing.msix h

theorem SameMem.noteEntries {x : HPort} {p : Nat} {k : RingVec} (h : SameMem σ τ) : SameMem σ (τ.noteEntries x p k) :=
  .ite h.fireVec h.setRing

theorem SameMem.dropRing {x : HPort} {p : Nat} (h : SameMem σ τ) : SameMem σ (τ.dropRing x p) :=
  h.setRing.flushNow.flushNow.other

theorem SameMem.ringFault {x : HPort} {p errc : Nat} (h : SameMem σ τ) : SameMem σ (τ.ringFault x p errc) :=
  h.setRs.dropRing.setRing.report.msix

/-! ### Recorder -/

theorem SameMem.setBucket {b : Nat} {k : Bucket} (h : SameMem σ τ) : SameMem σ (τ.setBucket b k) := h.other

theorem SameMem.writeRecord {r : Report} {summ : Bool} (h : SameMem σ τ) : SameMem σ (τ.writeRecord r summ) :=
  .ite ((h.other.setF.thenIf (·.setF)).setF.thenIf (·.raise)) h.other.setF

theorem SameMem.summary {b : Nat} (h : SameMem σ τ) : SameMem σ (τ.summary b) := .ite h h.setBucket.writeRecord

theorem SameMem.recordOne {r : Report} (h : SameMem σ τ) : SameMem σ (τ.recordOne r) :=
  .ite h.writeRecord (.ite h.setBucket.writeRecord h.setBucket.addSat.raise)

theorem SameMem.recordWriteEff (h : SameMem σ τ) : SameMem σ (recordWriteEff τ) := by
  unfold Machine.recordWriteEff
  refine .ite h (.ite h.other.writeRecord ?_)
  split
  · exact h
  · exact h.other.recordOne

/-! ### Points -/

theorem SameMem.setImg {i : Nat} {v : Word} (h : SameMem σ τ) : SameMem σ (τ.setImg i v) := h.other

theorem SameMem.sourceWrite {i : Nat} {v : Word} (h : SameMem σ τ) : SameMem σ (τ.sourceWrite i v) := h.setImg.other

/-! ### Access -/

theorem SameMem.writeField {off : Nat} {v : Word} {f : FieldRow} (h : SameMem σ τ) : SameMem σ (τ.writeField off v f) := by
  unfold State.writeField
  extract_lets b n
  split
  · exact .ite h.setF h.badVal
  · exact h.setF
  · exact h.setF
  · exact h
  · exact h
  · exact h

theorem SameMem.writeFields {off : Nat} {v : Word} (h : SameMem σ τ) : SameMem σ (τ.writeFields off v) := by
  unfold State.writeFields
  split
  · exact h
  · exact h.foldl (fun _ _ h => h.writeField)

theorem SameMem.clearRc {off : Nat} (h : SameMem σ τ) : SameMem σ (τ.clearRc off) := by
  unfold State.clearRc
  split
  · exact h
  · exact h.foldl (fun _ _ h => .ite h.setF h)

theorem SameMem.badValIf {b : Bool} (h : SameMem σ τ) : SameMem σ (τ.badValIf b) := .ite h.badVal h

theorem SameMem.asWrite {x : HPort} {b : Nat} {t : State} (h : SameMem σ τ) (ht : SameMem σ t) : SameMem σ (τ.asWrite x b t) :=
  .ite h.absWr (.ite ht h)

theorem SameMem.showRead {x : HPort} {off size : Nat} {w : Word} (h : SameMem σ τ) : SameMem σ (τ.showRead x off size w) :=
  h.emit

/-! ### Mailbox -/

theorem SameMem.setCan {c : CanSt} (h : SameMem σ τ) : SameMem σ (τ.setCan c) := h.other

theorem SameMem.settleLock {k b : Nat} (h : SameMem σ τ) : SameMem σ (τ.settleLock k b) :=
  .ite h.setF h.setF.setCan.setF.setF.setF

theorem SameMem.releaseMailbox {x : HPort} (h : SameMem σ τ) : SameMem σ (τ.releaseMailbox x) := by
  unfold State.releaseMailbox
  split
  · exact h
  · exact h.setCan.settleLock

theorem SameMem.readWindow0 {x : HPort} (h : SameMem σ τ) : SameMem σ (τ.readWindow0 x).2 := by
  unfold State.readWindow0
  split
  · exact h
  · exact h.setCan.settleLock.setF

/-! ### HostPort -/

theorem SameMem.freeCell {i : Nat} (h : SameMem σ τ) : SameMem σ (τ.freeCell i) := h.useFree.setReg

theorem SameMem.clearStaging {x : HPort} (h : SameMem σ τ) : SameMem σ (τ.clearStaging x) := .ite h.setReg.setReg.setReg h

theorem SameMem.evictCell {i code : Nat} (h : SameMem σ τ) : SameMem σ (τ.evictCell i code) := h.freeCell.report.signalOn

theorem SameMem.rsRefuse {x : HPort} {errc : Nat} (h : SameMem σ τ) : SameMem σ (τ.rsRefuse x errc) := h.setF.setF

theorem SameMem.unlessBusy {x : HPort} {t : State} (h : SameMem σ τ) (ht : SameMem σ t) : SameMem σ (τ.unlessBusy x t) :=
  .ite h.badVal ht

theorem SameMem.stageBase {lo hi n : Nat} (h : SameMem σ τ) : SameMem σ (τ.stageBase lo hi n) := h.setReg.setReg

theorem SameMem.ringSetStartEff {x : HPort} (h : SameMem σ τ) : SameMem σ (ringSetStartEff x τ) := by
  unfold Machine.ringSetStartEff
  refine h.unlessBusy ?_
  extract_lets p
  split
  · exact h.rsRefuse
  · exact h.setRing.setRs

theorem SameMem.setStop {x : HPort} {p : Option Nat} (h : SameMem σ τ) : SameMem σ (τ.setStop x p) := by
  unfold State.setStop
  split <;> exact h.host

theorem SameMem.armVec {x : HPort} {p : Nat} {k : RingVec} {b : Bool} (h : SameMem σ τ) : SameMem σ (τ.armVec x p k b) :=
  .ite (.ite h.setRing.noteEntries h.setRing) h

theorem SameMem.resetStaging {x : HPort} (h : SameMem σ τ) : SameMem σ (τ.resetStaging x) := h.foldl (fun _ _ h => h.setReg)

theorem SameMem.clearSnaps {x : HPort} (h : SameMem σ τ) : SameMem σ (τ.clearSnaps x) := by
  unfold State.clearSnaps
  extract_lets t
  have h_t : SameMem σ t := h.setReg
  split <;> exact h_t.other

theorem SameMem.dropPort {x : HPort} (h : SameMem σ τ) : SameMem σ (τ.dropPort x) :=
  h.forUpto (fun _ _ h => .ite h h.dropRing.setRs)

theorem SameMem.setPci {x : HPort} {c : PciCfg} (h : SameMem σ τ) : SameMem σ (τ.setPci x c) := by
  unfold State.setPci
  refine SameMem.unpend ?_
  split <;> exact h.host

theorem SameMem.resetPci {x : HPort} (h : SameMem σ τ) : SameMem σ (τ.resetPci x) := by
  unfold State.resetPci
  split <;> exact h.host

theorem SameMem.portLoss {x : HPort} (h : SameMem σ τ) : SameMem σ (τ.portLoss x) :=
  h.dropPort.setStop.resetStaging.clearSnaps.releaseMailbox

theorem SameMem.startLeases {x : HPort} (h : SameMem σ τ) : SameMem σ (τ.startLeases x) :=
  h.forUpto (fun _ _ h => .ite h.setF h)

theorem SameMem.linkFalls {x : HPort} (h : SameMem σ τ) : SameMem σ (τ.linkFalls x) :=
  h.setF.setF.setF.portLoss.startLeases.report

theorem SameMem.shareAct {t : State} (h : SameMem σ τ) (ht : SameMem σ t) : SameMem σ (τ.shareAct t) := .ite h.badVal ht.setF

theorem SameMem.writePen {x : HPort} {j : Nat} {v : Word} (h : SameMem σ τ) : SameMem σ (τ.writePen x j v) :=
  h.setReg.forUpto (fun _ _ h => .ite h.report h)

/-! ### Time -/

theorem SameMem.sourceChanged {s : State} (_h : SameMem σ τ) (hs : SameMem σ s) : SameMem σ (τ.sourceChanged s) :=
  .ite hs hs.setF.setF.other

theorem SameMem.lockEvent (h : SameMem σ τ) : SameMem σ τ.lockEvent := h.report

theorem SameMem.measBegin {auto : Bool} (h : SameMem σ τ) : SameMem σ (τ.measBegin auto) := h.setF.setF.other

theorem SameMem.autoStart (h : SameMem σ τ) : SameMem σ τ.autoStart := .ite h.measBegin h

theorem SameMem.measFail {cause : Nat} (h : SameMem σ τ) : SameMem σ (τ.measFail cause) :=
  .ite h h.setF.setF.setF.report.autoStart

theorem SameMem.servoTake {m : SyncSample} (h : SameMem σ τ) : SameMem σ (τ.servoTake m) :=
  (SameMem.ite h.setReg.setF.other.setF.report (h.setReg.setF.other.thenIf (·.setF.lockEvent))).autoStart.thenIf (·.other)

theorem SameMem.syncHoldoverEff (h : SameMem σ τ) : SameMem σ (syncHoldoverEff τ) :=
  .ite h ((h.setF.setF.lockEvent.other.thenIf (·.measFail)).thenIf (·.other))

theorem SameMem.writeRtcCtl {v : Word} (h : SameMem σ τ) : SameMem σ (τ.writeRtcCtl v) :=
  ((h.sourceChanged h.writeFields).thenIf (·.measFail)).autoStart

theorem SameMem.writeClkTin {v : Word} (h : SameMem σ τ) : SameMem σ (τ.writeClkTin v) := h.sourceChanged h.writeFields

theorem SameMem.advance {adv : Nat} (h : SameMem σ τ) : SameMem σ (τ.advance adv) := .ite h.setCount h.setCount

theorem SameMem.snapSec {x : HPort} (h : SameMem σ τ) : SameMem σ (τ.snapSec x) := by
  unfold State.snapSec
  split <;> exact h.other

theorem SameMem.snapFrameSec {x : HPort} (h : SameMem σ τ) : SameMem σ (τ.snapFrameSec x) := by
  unfold State.snapFrameSec
  extract_lets v
  split <;> exact h.other

theorem SameMem.setTimeGo {x : HPort} (h : SameMem σ τ) : SameMem σ (τ.setTimeGo x) := .ite h.setF h.setF.other

theorem SameMem.setTrim {z : Int} {source : Nat} (h : SameMem σ τ) : SameMem σ (τ.setTrim z source) := h.setF.elseIf (·.report)

theorem SameMem.osfCause {bit : Nat} (h : SameMem σ τ) : SameMem σ (τ.osfCause bit) :=
  .ite h.setF.setF (.ite h.setF.setF.report h.setF.setF.other)

/-! ### Queues -/

theorem SameMem.linkAuditCompleteEff (h : SameMem σ τ) : SameMem σ (linkAuditCompleteEff τ) := by
  unfold Machine.linkAuditCompleteEff
  split
  · exact h
  · exact h.other.setF.report

theorem SameMem.queueConfigurationApplyEff (h : SameMem σ τ) : SameMem σ (queueConfigurationApplyEff τ) := by
  unfold Machine.queueConfigurationApplyEff
  split
  · exact h
  · exact (h.forUpto (fun _ _ h => h.setReg.setF)).other.setF.shortfall

/-! ### Display -/

theorem SameMem.setPanel {n : Nat} {p : DspPanel} (h : SameMem σ τ) : SameMem σ (τ.setPanel n p) := h.other

theorem SameMem.panelMove {n st : Nat} (h : SameMem σ τ) : SameMem σ (τ.panelMove n st) := .ite h h.setF.report.raise

theorem SameMem.panelPower {n : Nat} {pwren vcomen : Bool} (h : SameMem σ τ) : SameMem σ (τ.panelPower n pwren vcomen) :=
  h.setPanel.elseIf (·.emit)

theorem SameMem.panelFault {n code : Nat} (h : SameMem σ τ) : SameMem σ (τ.panelFault n code) :=
  .ite h.setF.panelMove.report.raise h.setF.panelMove.report.raise

theorem SameMem.panelArrive {n : Nat} (h : SameMem σ τ) : SameMem σ (τ.panelArrive n) := by
  unfold State.panelArrive
  split
  · exact h.setF.panelMove
  · exact h.panelFault
  · exact h.panelMove

theorem SameMem.powerDown {n goal : Nat} {ending ground : Bool} (h : SameMem σ τ) :
    SameMem σ (τ.powerDown n goal ending ground) :=
  h.setPanel.panelMove.elseIf (·.panelPower)

theorem SameMem.enablePanel {n : Nat} {res : BitVec 16} (h : SameMem σ τ) : SameMem σ (τ.enablePanel n res) :=
  .ite h (.ite h.badVal (h.setF.setF.setPanel.thenIf (·.panelMove)))

/-! ### Field -/

theorem SameMem.setOpportunity {g t : Nat} (h : SameMem σ τ) : SameMem σ (τ.setOpportunity g t) := h.other

theorem SameMem.plcaCycleStartEff {seg : Fin 16} {late : Option (Nat × Nat)} (h : SameMem σ τ) :
    SameMem σ (plcaCycleStartEff seg late τ) := by
  unfold Machine.plcaCycleStartEff
  refine .ite h ?_
  extract_lets t t2
  have h_t : SameMem σ t := h.emit
  split
  · exact h_t.other.setOpportunity
  · exact h_t.other.setOpportunity.addSat.report

theorem SameMem.sendField {i : Nat} {data : List Byte} (h : SameMem σ τ) : SameMem σ (τ.sendField i data) :=
  h.emit.addSat.elseIf (·.other.setOpportunity)

theorem SameMem.settleRet {epn : Nat} (h : SameMem σ τ) : SameMem σ (τ.settleRet epn) := .ite h h.setF

theorem SameMem.sendRequest {e0 : Ent} {mac : Nat} (h : SameMem σ τ) : SameMem σ (τ.sendRequest e0 mac) := by
  unfold State.sendRequest
  extract_lets x f t t2 q
  have h_t : SameMem σ t := h.other
  have h_t2 : SameMem σ t2 := (h_t.thenIf (·.settleRet)).useFrees
  split
  · exact h_t2.refuseWrite
  · exact .ite h_t2.clearInject.useFree.poisonCell (h_t2.clearInject.thenIf (·.corrected)).sendField

theorem SameMem.pointFrameTransmitEff {k : Nat} (h : SameMem σ τ) : SameMem σ (pointFrameTransmitEff k τ) := by
  unfold Machine.pointFrameTransmitEff
  split
  · exact h
  · refine .ite ?_ h
    split
    · exact h
    · exact h.sendRequest

theorem SameMem.writeMdio {v : Word} (h : SameMem σ τ) : SameMem σ (τ.writeMdio v) :=
  .ite h (.ite h.setReg (.ite h.setReg.badVal (.ite h.setReg.setF.badVal h.setReg.setF.emit)))

/-! ### Power -/

theorem SameMem.setPwr {i : Nat} {p : PortPwr} (h : SameMem σ τ) : SameMem σ (τ.setPwr i p) := h.other

theorem SameMem.pwrCmd {i c : Nat} (h : SameMem σ τ) : SameMem σ (τ.pwrCmd i c) := h.setPwr

theorem SameMem.updCharges (h : SameMem σ τ) : SameMem σ τ.updCharges := h.forUpto (fun _ _ h => h.setF)

theorem SameMem.pwrEnter {i st c : Nat} (h : SameMem σ τ) : SameMem σ (τ.pwrEnter i st c) := h.setF.setF.updCharges

theorem SameMem.toDetect {i : Nat} (h : SameMem σ τ) : SameMem σ (τ.toDetect i) := h.pwrEnter.pwrCmd

theorem SameMem.pwrOff {i st : Nat} {ordered : Bool} (h : SameMem σ τ) : SameMem σ (τ.pwrOff i st ordered) :=
  h.pwrEnter.pwrCmd.thenIf (·.other)

theorem SameMem.pwrFault {i code : Nat} {counted : Bool} (h : SameMem σ τ) : SameMem σ (τ.pwrFault i code counted) :=
  .ite h.setF.pwrOff h.setF.setF.report.raise.pwrOff

theorem SameMem.pwrClass {i c : Nat} (h : SameMem σ τ) : SameMem σ (τ.pwrClass i c) :=
  .ite h.setF.report.raise.pwrOff h.pwrEnter.setPwr

theorem SameMem.judgeOn {i : Nat} {r : BitVec 64} {frame : Bool} (h : SameMem σ τ) : SameMem σ (τ.judgeOn i r frame) :=
  .ite h.pwrFault (.ite h (.ite h.setPwr.pwrFault (.ite h.setPwr.pwrFault (h.setPwr.thenIf (·.setF.pwrOff.pwrCmd)))))

theorem SameMem.pwrSeed {i : Nat} {r : BitVec 64} (h : SameMem σ τ) : SameMem σ (τ.pwrSeed i r) :=
  .ite h.other.setPwr.setPwr.pwrEnter h.other.setPwr.toDetect

theorem SameMem.takeRead {i : Nat} {r : BitVec 64} {frame : Bool} (h : SameMem σ τ) : SameMem σ (τ.takeRead i r frame) := by
  unfold State.takeRead
  extract_lets t pst st
  have k : SameMem σ t := h.setF.setF
  exact .ite k (.ite k.pwrSeed (.ite k.judgeOn (.ite (.ite (.ite k.pwrEnter.pwrCmd k.pwrClass) (k.thenIf (·.pwrFault)))
    (.ite (.ite (.ite k.pwrFault k.pwrClass) k) k))))

theorem SameMem.takeSide {c : SideCmd} {r : BitVec 64} (h : SameMem σ τ) : SameMem σ (τ.takeSide c r) := by
  unfold State.takeSide
  split
  · exact h.takeRead
  · exact h.takeRead
  · exact h.setF
  · exact h.setPwr

theorem SameMem.settleSide {keep : Bool} {x : SideTx} (h : SameMem σ τ) : SameMem σ (τ.settleSide keep x).2.2 := by
  unfold State.settleSide
  extract_lets r
  split
  · exact .ite h h.takeSide
  · split <;> exact h

theorem SameMem.runSide {keep : Bool} {n : Nat} {x : Option SideTx} {cs : List SideTx} (h : SameMem σ τ) :
    SameMem σ (τ.runSide keep n x cs).2 := by
  fun_induction State.runSide τ keep n x cs with
  | case1 => exact h
  | case2 s n c cs w ih => exact ih h.emit
  | case3 => exact h
  | case4 s n x c cs w again k t e m u e' ih =>
    have := ih (h.emit.settleSide.of_eq₂ e)
    rw [e'] at this
    exact this
  | case5 s n x again k t e m u e' ih =>
    have := ih (h.emit.settleSide.of_eq₂ e)
    rw [e'] at this
    exact this

theorem SameMem.sideFailed {failed : Nat} (h : SameMem σ τ) : SameMem σ (τ.sideFailed failed) :=
  .ite h.other.report.raise h.other

theorem SameMem.sideOutcome {failed : Nat} (h : SameMem σ τ) : SameMem σ (τ.sideOutcome failed) :=
  .ite h.setF.report h.sideFailed

theorem SameMem.pwrClear {i : Nat} (h : SameMem σ τ) : SameMem σ (τ.pwrClear i) := h.setF.setPwr.thenIf (·.toDetect)

theorem SameMem.pwrCycle {i : Nat} (h : SameMem σ τ) : SameMem σ (τ.pwrCycle i) := .ite h h.pwrOff.setPwr

theorem SameMem.writePwrCmd {v : Word} (h : SameMem σ τ) : SameMem σ (τ.writePwrCmd v) :=
  .ite h.badVal (.ite h.pwrClear (.ite h.pwrCycle h.pwrOff))

theorem SameMem.seedPower (h : SameMem σ τ) : SameMem σ τ.seedPower := (h.forUpto (fun _ _ h => h.setPwr)).other

theorem SameMem.fldResetOut (h : SameMem σ τ) : SameMem σ τ.fldResetOut :=
  (h.foldl (fun _ _ h => h.report.raise)).other.seedPower

/-! ### Logic -/

theorem SameMem.setTask {t : Nat} {k : LgeTask} (h : SameMem σ τ) : SameMem σ (τ.setTask t k) := h.other

theorem SameMem.beginTurn {t : Nat} (h : SameMem σ τ) : SameMem σ (τ.beginTurn t) :=
  .ite h.other.setTask h.other.useFree.setTask

theorem SameMem.nextTurn (h : SameMem σ τ) : SameMem σ τ.nextTurn := by
  unfold State.nextTurn
  extract_lets s
  split
  · exact h.other.beginTurn
  · exact h.other

theorem SameMem.openWindow (h : SameMem σ τ) : SameMem σ τ.openWindow :=
  .ite h.other (h.other.forUpto (fun _ _ h => h.setTask)).nextTurn

theorem SameMem.reassign {t : Nat} {v : Word} (h : SameMem σ τ) : SameMem σ (τ.reassign t v) :=
  (SameMem.ite h.other h).other.setF.setReg.setF.report

theorem SameMem.writeTask {t k : Nat} {v : Word} (h : SameMem σ τ) : SameMem σ (τ.writeTask t k v) :=
  .ite h.badVal (h.writeFields.setReg.badValIf.elseIf (·.reassign)).setF

/-! ### LocalIO -/

theorem SameMem.setPulse {n : Nat} {p : PulseIn} (h : SameMem σ τ) : SameMem σ (τ.setPulse n p) := h.other

theorem SameMem.takeEdge {n : Nat} {onB level : Bool} {time : Nat} (h : SameMem σ τ) :
    SameMem σ (τ.takeEdge n onB level time) :=
  .ite h.setPulse (.ite h.setPulse.addSat.raise.report h.setPulse)

theorem SameMem.settleEdges {n : Nat} {old : Nat → Bool} (h : SameMem σ τ) : SameMem σ (τ.settleEdges n old) :=
  h.setPulse.foldl (fun _ _ h => h.takeEdge)

theorem SameMem.driveLocal {cls ch fmt : Nat} {v : Word} (h : SameMem σ τ) : SameMem σ (τ.driveLocal cls ch fmt v) :=
  .ite h (.ite h.useFree.setReg.emit (.ite (h.setF.thenIf (·.emit)) (h.thenIf (·.useFree.other))))

theorem SameMem.pwmConfigured {n : Nat} {ran : Bool} {old : Word} (h : SameMem σ τ) : SameMem σ (τ.pwmConfigured n ran old) :=
  .ite (.ite h.setReg.emit h) (.ite h.other.setReg.emit h)

/-! ### Loops -/

theorem SameMem.setSlot {i : Nat} {k : LoopSlot} (h : SameMem σ τ) : SameMem σ (τ.setSlot i k) := h.other

theorem SameMem.injEnd {i reason : Nat} (h : SameMem σ τ) : SameMem σ (τ.injEnd i reason) := by
  unfold State.injEnd
  extract_lets k
  split
  · exact h
  · exact h.setSlot.setF.report.raise

theorem SameMem.setCaps {cs : List Capture} (h : SameMem σ τ) : SameMem σ (τ.setCaps cs) := h.other

theorem SameMem.capEnd {c : Capture} {early : Nat} (h : SameMem σ τ) : SameMem σ (τ.capEnd c early) :=
  h.setCaps.setF.report.raise

theorem SameMem.capsEnd {sel : Capture → Bool} (h : SameMem σ τ) : SameMem σ (τ.capsEnd sel) := h.foldl (fun _ _ h => h.capEnd)

theorem SameMem.slotFault {i cause : Nat} {e0 : Word} (h : SameMem σ τ) : SameMem σ (τ.slotFault i cause e0) :=
  h.setSlot.setF.setF.injEnd.capsEnd.report.raise.raise

theorem SameMem.injStep {i : Nat} (h : SameMem σ τ) : SameMem σ (τ.injStep i) := by
  unfold State.injStep
  extract_lets k
  split
  · exact h
  · exact .ite h.injEnd (.ite h (.ite h.setSlot.injEnd h.setSlot))

theorem SameMem.capSteps {i : Nat} {o : LawOut} {x : LoopIn} {inj : Word} {trig : Bool} (h : SameMem σ τ) :
    SameMem σ (τ.capSteps i o x inj trig) :=
  h.setCaps.foldl (fun _ _ h => h.capEnd)

theorem SameMem.computeSlot {i : Nat} (h : SameMem σ τ) : SameMem σ (τ.computeSlot i) := by
  unfold State.computeSlot
  extract_lets k
  split
  · exact h
  · exact .ite h.slotFault (.ite h.slotFault (.ite h.slotFault h.setSlot.setReg.setF.setF.capSteps.injStep))

theorem SameMem.driveOut {i : Nat} {v : Word} (h : SameMem σ τ) : SameMem σ (τ.driveOut i v) := .ite h.driveLocal h

theorem SameMem.writeSlot {i : Nat} (h : SameMem σ τ) : SameMem σ (τ.writeSlot i) :=
  .ite (.ite h.setSlot (h.setSlot.setImg.driveOut.thenIf (·.other))) (h.thenIf fun h => (SameMem.ite h.setSlot (.ite
    h.setSlot.addSat h.setSlot.setF)).elseIf (·.sourceWrite.driveOut))

theorem SameMem.writeSlotCfg {i : Nat} {v : Word} (h : SameMem σ τ) : SameMem σ (τ.writeSlotCfg i v) :=
  .ite h.badVal (.ite h.writeFields h.writeFields.capsEnd.setSlot.setReg.setReg.report)

theorem SameMem.snapTc {x : HPort} (h : SameMem σ τ) : SameMem σ (τ.snapTc x) := by
  unfold State.snapTc
  extract_lets v
  split <;> exact h.other

/-! ### Metering -/

theorem SameMem.setMtr {m : MtrSt} (h : SameMem σ τ) : SameMem σ (τ.setMtr m) := h.other

theorem SameMem.ivFlagAll {bit : Nat} (h : SameMem σ τ) : SameMem σ (τ.ivFlagAll bit) := h.forUpto (fun _ _ h => h.setMtr)

theorem SameMem.regularSaveCompleteEff (h : SameMem σ τ) : SameMem σ (regularSaveCompleteEff τ) := by
  unfold Machine.regularSaveCompleteEff
  split
  · exact h
  · exact h.setMtr.setMtr.setReg

theorem SameMem.writeAccClr {v : Word} (h : SameMem σ τ) : SameMem σ (τ.writeAccClr v) := h.writeFields.thenIf (·.setMtr)

theorem SameMem.writeIvCtl {v : Word} (h : SameMem σ τ) : SameMem σ (τ.writeIvCtl v) := .ite h.writeFields h.setF.badVal

theorem SameMem.writePulseCfg {k : Nat} {v : Word} (h : SameMem σ τ) : SameMem σ (τ.writePulseCfg k v) :=
  ((h.writeFields.thenIf (·.badVal)).elseIf (·.emit)).thenIf (·.setMtr)

theorem SameMem.writePulseMc {k : Nat} {v : Word} (h : SameMem σ τ) : SameMem σ (τ.writePulseMc k v) :=
  h.writeFields.thenIf (·.setMtr)

theorem SameMem.writeWatchClr {v : Word} (h : SameMem σ τ) : SameMem σ (τ.writeWatchClr v) :=
  h.forUpto (fun _ _ h => .ite h.setReg h)

theorem SameMem.setKept {k : MtrKept} (h : SameMem σ τ) : SameMem σ (τ.setKept k) := h.setMtr

theorem SameMem.watchEntry {k : Nat} (h : SameMem σ τ) : SameMem σ (τ.watchEntry k) :=
  .ite h (.ite h.useFree.setKept (.ite (h.useFree.addSat.thenIf (·.setKept)) (.ite h.useFree.addSat.setKept.setF
    h.useFree.addSat.setKept.addSat)))

/-! ### Measure -/

theorem SameMem.writeMeasCtl {v : Word} (h : SameMem σ τ) : SameMem σ (τ.writeMeasCtl v) :=
  .ite ((h.writeFields.thenIf (·.badVal)).measBegin.elseIf (·.measFail)) (h.writeFields.thenIf (·.badVal))

theorem SameMem.measurementDoneEff (h : SameMem σ τ) : SameMem σ (measurementDoneEff τ) := by
  have k : SameMem σ τ.reachMeasEnd := h.thenIf (·.setCount)
  exact .ite h (.ite k.measFail (k.useFree.setReg.setF.setF.report.thenIf (·.setTrim.autoStart)))

/-! ### Legacy -/

theorem SameMem.setEst {k est : Nat} (h : SameMem σ τ) : SameMem σ (τ.setEst k est) := .ite h h.setF.raise.report

theorem SameMem.canRecover {k : Nat} (h : SameMem σ τ) : SameMem σ (τ.canRecover k) := .ite h.setEst h

theorem SameMem.serRelease {j : Nat} (h : SameMem σ τ) : SameMem σ (τ.serRelease j) := h.setCan.setF.emit

theorem SameMem.serDriverReleaseEff {j : Fin 8} {bad : Option Nat} (h : SameMem σ τ) :
    SameMem σ (serDriverReleaseEff j bad τ) := by
  unfold Machine.serDriverReleaseEff
  refine .ite h (SameMem.serRelease ?_)
  split
  · exact h.addSat.thenIf (·.addSat.raise.report)
  · exact h.addSat

theorem SameMem.legacyStandby (h : SameMem σ τ) : SameMem σ τ.legacyStandby :=
  (h.forUpto (fun _ _ h => .ite h.setF h)).forUpto (fun _ _ h => .ite h.serRelease h)

/-! ### Island -/

theorem SameMem.setSaf {v : SafSt} (h : SameMem σ τ) : SameMem σ (τ.setSaf v) := h.other

theorem SameMem.setChan {c : SafCh} {v : SafChan} (h : SameMem σ τ) : SameMem σ (τ.setChan c v) := by
  unfold State.setChan
  split <;> exact h.setSaf

theorem SameMem.setSafKept {k : SafKept} (h : SameMem σ τ) : SameMem σ (τ.setSafKept k) := h.setSaf

theorem SameMem.setStream {j : Nat} {v : SafStream} (h : SameMem σ τ) : SameMem σ (τ.setStream j v) := h.setSaf

theorem SameMem.safShow (h : SameMem σ τ) : SameMem σ τ.safShow :=
  .ite h ((((h.setReg.setReg.setReg.setReg.setReg.setReg.setReg.forUpto fun _ _ h => h.setReg.setReg).forUpto fun _ _ h =>
    h.setReg.setReg).forUpto fun _ _ h => h.setReg.setReg).thenIf (·.signalUnit))

theorem SameMem.safEvent {code : Nat} {p1 p2 p3 : Word} (h : SameMem σ τ) : SameMem σ (τ.safEvent code p1 p2 p3) :=
  h.report.signalUnit

theorem SameMem.setGates {c : SafCh} {g : Nat} (h : SameMem σ τ) : SameMem σ (τ.setGates c g) :=
  h.setChan.forUpto (fun _ _ h => .ite h h.emit)

theorem SameMem.lockChan {c : SafCh} (h : SameMem σ τ) : SameMem σ (τ.lockChan c) := h.setChan.setGates

theorem SameMem.endTest {k res : Nat} (h : SameMem σ τ) : SameMem σ (τ.endTest k res) := h.setSaf.safEvent

theorem SameMem.abortTests (h : SameMem σ τ) : SameMem σ τ.abortTests := h.forUpto (fun _ _ h => .ite h h.endTest)

theorem SameMem.markCause {cause obj : Nat} (h : SameMem σ τ) : SameMem σ (τ.markCause cause obj) :=
  .ite h.setSafKept (.ite h.setSafKept (.ite h.setSafKept (.ite h.setSafKept h)))

theorem SameMem.safCause {cause obj : Nat} (h : SameMem σ τ) : SameMem σ (τ.safCause cause obj) :=
  ((h.markCause.elseIf (·.abortTests)).thenIf (·.setSaf)).elseIf (·.setSafKept.safEvent)

theorem SameMem.faultBy {c : SafCh} {cause obj : Nat} (h : SameMem σ τ) : SameMem σ (τ.faultBy c cause obj) :=
  h.safCause.lockChan.setChan

theorem SameMem.faultBoth {cause obj : Nat} (h : SameMem σ τ) : SameMem σ (τ.faultBoth cause obj) :=
  h.safCause.lockChan.lockChan

theorem SameMem.checkSwitches {sw : Nat × Nat} (h : SameMem σ τ) : SameMem σ (τ.checkSwitches sw) :=
  ((h.elseIf (·.faultBoth)).thenIf (·.faultBoth)).thenIf (·.faultBoth)

theorem SameMem.takeInput {c : SafCh} {v : SafView} {n : Nat} (h : SameMem σ τ) : SameMem σ (τ.takeInput c v n) :=
  .ite h ((h.setChan.thenIf (·.setSafKept)).thenIf (·.faultBy))

theorem SameMem.superviseBrake {c : SafCh} {v : SafView} {k : Nat} (h : SameMem σ τ) : SameMem σ (τ.superviseBrake c v k) := by
  unfold State.superviseBrake
  refine .ite h ?_
  extract_lets chan cur hs ls hi imin lowNow lo t₀ saf t
  have ht : SameMem σ t := h.setChan.elseIf (·.setSaf)
  exact .ite ht.faultBy (.ite ht.faultBoth (ht.thenIf fun h => .ite h.faultBy (h.elseIf (·.setSaf.safEvent))))

theorem SameMem.oeRise {c : SafCh} (h : SameMem σ τ) : SameMem σ (τ.oeRise c) := .ite h h.setChan.setGates

theorem SameMem.countHours (h : SameMem σ τ) : SameMem σ τ.countHours :=
  h.forUpto (fun _ _ h => .ite h (.ite h.setSaf.setSafKept h.setSaf))

theorem SameMem.countDegraded {c : SafCh} (h : SameMem σ τ) : SameMem σ (τ.countDegraded c) :=
  (h.thenIf (·.setSaf)).elseIf (·.setChan)

theorem SameMem.watchSwitches {c : SafCh} {v : SafView} (h : SameMem σ τ) : SameMem σ (τ.watchSwitches c v) :=
  (SameMem.ite h (h.faultBy.elseIf (·.safEvent))).thenIf (·.faultBy)

theorem SameMem.cycleChecks {c : SafCh} {v : SafView} (h : SameMem σ τ) : SameMem σ (τ.cycleChecks c v) :=
  ((((h.forUpto fun _ _ h => h.takeInput).setChan.watchSwitches.setChan.forUpto fun _ _ h => h.superviseBrake).thenIf
    (·.faultBy)).thenIf (·.faultBy)).thenIf (·.faultBy)

theorem SameMem.safetyCycleEff {c : SafCh} {v : SafView} (h : SameMem σ τ) : SameMem σ (safetyCycleEff c v τ) := by
  have hlock : ∀ {p : Prop} {_ : Decidable p}, SameMem σ (if p then τ.lockChan c else τ) := h.thenIf (·.lockChan)
  exact .ite h (((SameMem.ite hlock.oeRise (hlock.thenIf (·.abortTests)).setChan).elseIf
    (·.forUpto fun _ _ h => h.setSaf)).cycleChecks.setGates.setChan.countDegraded.thenIf (·.countHours)).safShow

theorem SameMem.judgePulse {c stp : SafCh} {n contact : Nat} {wentOpen : Bool} (h : SameMem σ τ) :
    SameMem σ (τ.judgePulse c stp n contact wentOpen) :=
  (h.setChan.thenIf (·.setSafKept)).thenIf (·.faultBy)

theorem SameMem.endDegraded (h : SameMem σ τ) : SameMem σ τ.endDegraded := by
  unfold State.endDegraded
  split
  · exact h
  · exact .ite h (h.foldl (fun _ _ h => h.setStream)).safEvent

theorem SameMem.takeCopy {lanB : Bool} {m : List Byte} (h : SameMem σ τ) : SameMem σ (τ.takeCopy lanB m) := by
  unfold State.takeCopy
  extract_lets src
  split
  · exact h.addSat
  · exact .ite h.setStream.faultBoth (.ite h.setStream.faultBoth (.ite h.setStream.faultBoth h.setStream.endDegraded))

theorem SameMem.safetyMessageCopyEff (h : SameMem σ τ) : SameMem σ (safetyMessageCopyEff τ) := by
  unfold Machine.safetyMessageCopyEff
  split
  · exact h
  · exact .ite h.setSaf h.setSaf.takeCopy.safShow

theorem SameMem.startDegraded {j : Nat} {lanB : Bool} (h : SameMem σ τ) : SameMem σ (τ.startDegraded j lanB) :=
  .ite h.faultBoth (.ite h.setStream.safEvent h.setStream)

theorem SameMem.copyMissingEff {j : Fin 16} {lanB : Bool} (h : SameMem σ τ) : SameMem σ (copyMissingEff j lanB τ) := by
  unfold Machine.copyMissingEff
  extract_lets v
  split
  · exact h
  · exact (SameMem.ite h.setStream.startDegraded h.setStream).safShow

theorem SameMem.fullDegraded (h : SameMem σ τ) : SameMem σ τ.fullDegraded := h.setSaf

theorem SameMem.testEdges {old new : Nat} (h : SameMem σ τ) : SameMem σ (τ.testEdges old new) :=
  h.forUpto (fun _ _ h => .ite (.ite h.setSaf h) (.ite h.endTest h))

theorem SameMem.requestUpdateEff (h : SameMem σ τ) : SameMem σ (requestUpdateEff τ) := by
  unfold Machine.requestUpdateEff
  split
  · exact h
  · exact .ite h.setSaf (.ite h.setSaf.setSaf.testEdges.safShow h.setSaf.setSaf.safEvent.safShow)

theorem SameMem.testPassed {k : Nat} (h : SameMem σ τ) : SameMem σ (τ.testPassed k) := h.endTest.setSafKept.setSaf

theorem SameMem.brakeTestWindowEndEff {k : Fin 8} (h : SameMem σ τ) : SameMem σ (brakeTestWindowEndEff k τ) :=
  .ite h (SameMem.ite h.testPassed ((h.endTest.thenIf (·.faultBoth)).thenIf (·.faultBoth))).safShow

theorem SameMem.adoptSwitches (h : SameMem σ τ) : SameMem σ τ.adoptSwitches := by
  unfold State.adoptSwitches
  split
  · exact .ite h.setSafKept.fullDegraded.checkSwitches h
  · exact h

theorem SameMem.clearLock (h : SameMem σ τ) : SameMem σ τ.clearLock := h.setSafKept.setSaf.safEvent

theorem SameMem.refuseReset {press : Nat} (h : SameMem σ τ) : SameMem σ (τ.refuseReset press) := h.safEvent

theorem SameMem.localResetEff {press : Nat} (h : SameMem σ τ) : SameMem σ (localResetEff press τ) :=
  .ite h (.ite h.refuseReset.safShow (.ite h (.ite h.adoptSwitches.refuseReset.safShow (.ite h.adoptSwitches.setSaf.safShow
    h.adoptSwitches.clearLock.safShow))))

theorem SameMem.islandStartEff {saddr : BitVec 16} {sopt : BitVec 8} (h : SameMem σ τ) :
    SameMem σ (islandStartEff saddr sopt τ) :=
  .ite h ((h.setSaf.fullDegraded.thenIf (·.lockChan.lockChan)).elseIf (·.faultBoth.safEvent)).checkSwitches.safShow

theorem SameMem.islandSelfTestCompleteEff {cause : Nat} (h : SameMem σ τ) : SameMem σ (islandSelfTestCompleteEff cause τ) := by
  unfold Machine.islandSelfTestCompleteEff
  refine .ite h ?_
  extract_lets t found
  have h_found : SameMem σ found := h.setSaf
  split
  · exact (SameMem.ite h_found.clearLock h_found.faultBoth.refuseReset).safShow
  · exact (SameMem.ite h_found.safEvent h_found.safEvent.faultBoth).safShow

theorem SameMem.safWarn {b : Bool} (h : SameMem σ τ) : SameMem σ (τ.safWarn b) := h.setSaf.thenIf (·.setSafKept)

/-! ### Vault -/

theorem SameMem.setKey {k : KeySt} (h : SameMem σ τ) : SameMem σ (τ.setKey k) := h.other

theorem SameMem.putStored {i c : Nat} {v : Option StoredKey} (h : SameMem σ τ) : SameMem σ (τ.putStored i c v) := h.setKey

theorem SameMem.storeSlot {i : Nat} (h : SameMem σ τ) : SameMem σ (τ.storeSlot i) := .ite h h.putStored.setF

theorem SameMem.eraseSlot {i cause tag : Nat} (h : SameMem σ τ) : SameMem σ (τ.eraseSlot i cause tag) :=
  h.setKey.setReg.setReg.report.keyGone

theorem SameMem.writeSattr {i : Nat} {v : Word} (h : SameMem σ τ) : SameMem σ (τ.writeSattr i v) :=
  .ite (h.elseIf (·.badVal)).setReg.storeSlot ((h.elseIf (·.badVal)).setReg.eraseSlot.thenIf
    (·.putStored.putStored)).setReg.storeSlot

/-! ### Riser -/

theorem SameMem.ringChange {l : Nat} {isOpen : Bool} (h : SameMem σ τ) : SameMem σ (τ.ringChange l isOpen) :=
  .ite h (h.setF.setF.setRsr.setF.setF.elseIf (·.useFree.setF)).report.raise

theorem SameMem.showPort {r was : Nat} (h : SameMem σ τ) : SameMem σ (τ.showPort r was) := .ite h h.emit

theorem SameMem.opticReports {r : Nat} {los txFlt : Bool} (h : SameMem σ τ) : SameMem σ (τ.opticReports r los txFlt) :=
  h.setF.setF.showPort

theorem SameMem.riserLinkUpEff {r : Fin 4} {pre : Bool} (h : SameMem σ τ) : SameMem σ (riserLinkUpEff r pre τ) :=
  .ite h (h.setF.setF.showPort.opticReports.report.raise.thenIf (·.report))

theorem SameMem.flushPort {r : Nat} (h : SameMem σ τ) : SameMem σ (τ.flushPort r) := h.forUpto (fun _ _ h => h.flushNow.setRsr)

theorem SameMem.riserLinkFalls {r : Nat} (h : SameMem σ τ) : SameMem σ (τ.riserLinkFalls r) :=
  .ite h (h.flushPort.setF.setF.setF.setF.showPort.report.raise.elseIf (·.ringChange))

theorem SameMem.judgeOptic {r : Nat} (h : SameMem σ τ) : SameMem σ (τ.judgeOptic r) := by
  unfold State.judgeOptic
  split
  · exact .ite h.riserLinkFalls.report h
  · exact h

/-! ### Twin -/

theorem SameMem.setTwn {t : TwnSt} (h : SameMem σ τ) : SameMem σ (τ.setTwn t) := h.other

theorem SameMem.setRole {r : Nat} (h : SameMem σ τ) : SameMem σ (τ.setRole r) := h.setF.raise

theorem SameMem.setAct {b : Bool} (h : SameMem σ τ) : SameMem σ (τ.setAct b) := h.setF.emit

theorem SameMem.healthChange {off : Nat} {w : Word} (h : SameMem σ τ) : SameMem σ (τ.healthChange off w) :=
  h.setReg.elseIf (·.raise.report)

theorem SameMem.takeNote {n : PeerNote} (h : SameMem σ τ) : SameMem σ (τ.takeNote n) :=
  h.setTwn.setF.setReg.setReg.setF.healthChange

theorem SameMem.resyncStart (h : SameMem σ τ) : SameMem σ τ.resyncStart := h.setF.setTwn

theorem SameMem.recordMissed {reason : Nat} (h : SameMem σ τ) : SameMem σ (τ.recordMissed reason) :=
  h.addSat.report.setTwn.resyncStart

theorem SameMem.frameRecordReceivedEff {r : TwinRec} (h : SameMem σ τ) : SameMem σ (frameRecordReceivedEff r τ) :=
  .ite h (.ite h.setTwn.recordMissed (.ite h.setTwn.takeNote.setTwn.recordMissed (.ite h.setTwn.takeNote.setTwn.recordMissed
    h.setTwn.takeNote.setTwn.setTwn)))

theorem SameMem.twinLinkUpEff {cap0 cap1 : Word} (h : SameMem σ τ) : SameMem σ (twinLinkUpEff cap0 cap1 τ) :=
  .ite h ((h.setF.setTwn.thenIf (·.report)).elseIf (·.resyncStart))

theorem SameMem.withdraw (h : SameMem σ τ) : SameMem σ τ.withdraw := h.setTwn.setRole.setAct

theorem SameMem.contention {us : Nat} (h : SameMem σ τ) : SameMem σ (τ.contention us) := h.report

theorem SameMem.peerActRiseEff (h : SameMem σ τ) : SameMem σ (peerActRiseEff τ) :=
  .ite h.setF (.ite h.setF (.ite h.setF.contention.addSat (.ite h.setF.contention.addSat.raise.withdraw
    h.setF.contention.addSat.raise.setTwn)))

theorem SameMem.drop {cause : Nat} (h : SameMem σ τ) : SameMem σ (τ.drop cause) :=
  h.setF.setAct.setRole.report.report.setTwn.other.resyncStart.legacyStandby

theorem SameMem.selfCause {cause : Nat} (h : SameMem σ τ) : SameMem σ (τ.selfCause cause) :=
  .ite (h.thenIf (·.setTwn)).drop ((h.thenIf (·.setTwn)).thenIf (·.withdraw))

theorem SameMem.dropActEff {cause : Fin 8} (h : SameMem σ τ) : SameMem σ (dropActEff cause τ) := by
  unfold Machine.dropActEff
  split
  · exact .ite h.selfCause h
  · exact .ite h.selfCause h
  · exact h
  · exact h
  · exact h.selfCause

theorem SameMem.yield (h : SameMem σ τ) : SameMem σ τ.yield := .ite h (.ite h.setTwn h.raise.report)

/-! ### Update -/

theorem SameMem.setUpd {u0 : UpdSt} (h : SameMem σ τ) : SameMem σ (τ.setUpd u0) := h.other

theorem SameMem.setImgSlot {j : Nat} {v : ImgSlot} (h : SameMem σ τ) : SameMem σ (τ.setImgSlot j v) := h.setUpd

theorem SameMem.sendFrags {u0 : UpdSend} {op idx : Nat} {d : List Byte} (h : SameMem σ τ) :
    SameMem σ (τ.sendFrags u0 op idx d) :=
  h.forUpto (fun _ _ h => h.sendOwn)

theorem SameMem.pump {fuel : Nat} (h : SameMem σ τ) : SameMem σ (τ.pump fuel) := by
  induction fuel generalizing τ with
  | zero =>
    rw [State.pump]
    exact h
  | succ n ih =>
    rw [State.pump]
    split
    · exact h
    · refine .ite h ?_
      split
      · exact h
      · exact ih h.sendFrags.setUpd

theorem SameMem.serveNext (h : SameMem σ τ) : SameMem σ τ.serveNext := by
  unfold State.serveNext
  split
  · exact h
  · exact .ite h.setUpd.setUpd.pump h.setUpd

theorem SameMem.afterSend {u0 : UpdSend} {served : Bool} (h : SameMem σ τ) : SameMem σ (τ.afterSend u0 served) := by
  unfold State.afterSend
  refine .ite (SameMem.ite h.setF h).setUpd.serveNext (.ite h.setUpd.serveNext ?_)
  split
  · exact h.setUpd.pump
  · exact h.setUpd.serveNext

theorem SameMem.silence (h : SameMem σ τ) : SameMem σ τ.silence := by
  unfold State.silence
  split
  · exact h
  · exact h.setF.raise.report.afterSend

theorem SameMem.hopTimeoutEff (h : SameMem σ τ) : SameMem σ (hopTimeoutEff τ) := by
  unfold Machine.hopTimeoutEff
  split
  · exact h
  · exact .ite h h.silence

theorem SameMem.arm {j : Nat} (h : SameMem σ τ) : SameMem σ (τ.arm j) := .ite h.setImgSlot.report h.badVal

theorem SameMem.disarm (h : SameMem σ τ) : SameMem σ τ.disarm := by
  unfold State.disarm
  split
  · exact h
  · exact h.setImgSlot.report

theorem SameMem.serveAll (h : SameMem σ τ) : SameMem σ τ.serveAll := .ite h (.ite h.setUpd h.setUpd.serveNext)

theorem SameMem.bootConfirm {sec : Nat} (h : SameMem σ τ) : SameMem σ (τ.bootConfirm sec) :=
  .ite h (SameMem.ite h.setF.setImgSlot h.setF).report

theorem SameMem.hostConfirm {sec : Nat} (h : SameMem σ τ) : SameMem σ (τ.hostConfirm sec) := .ite h.bootConfirm h

/-! ### Reset -/

theorem SameMem.setRst {r : RstSt} (h : SameMem σ τ) : SameMem σ (τ.setRst r) := h.other

theorem SameMem.aonPowerOnResetEff (h : SameMem σ τ) : SameMem σ (aonPowerOnResetEff τ) := .ite h (h.osfCause.of_host_eq rfl)

theorem SameMem.startCompleteEff (h : SameMem σ τ) : SameMem σ (startCompleteEff τ) :=
  .ite h (h.setF.setF.setRst.signalUnit.safShow.report.thenIf (·.report))

theorem SameMem.blockOut {b : Nat} (h : SameMem σ τ) : SameMem σ (τ.blockOut b) :=
  .ite h.fldResetOut (.ite (h.foldl (fun _ _ h => h.flushNow)) (.ite h.safShow h))

theorem SameMem.releaseBlock {b : Nat} (h : SameMem σ τ) : SameMem σ (τ.releaseBlock b) :=
  .ite h (.ite h.setF h.setF.setF.setRst)

/-! ### Registers -/

theorem SameMem.readAct {x : HPort} {off : Nat} (h : SameMem σ τ) : SameMem σ (τ.readAct x off) := by
  unfold State.readAct
  refine .ite h.snapSec (.ite h.snapFrameSec (.ite h.snapTc (.ite h.readWindow0 (.ite h.releaseMailbox ?_))))
  split
  · exact h.setReg.setRsr
  · split
    · exact h.useFree
    · split
      · exact h.useFree
      · exact h.clearRc

theorem SameMem.hostRead {x : HPort} {off size : Nat} (h : SameMem σ τ) : SameMem σ (τ.hostRead x off size) :=
  .ite h.showRead (.ite h.showRead (.ite (.ite h.showRead h.emit) h.readAct.showRead))

/-! ### Frame -/

theorem SameMem.singleBitErrorEff {r : MemRegion} (h : SameMem σ τ) : SameMem σ (singleBitErrorEff r τ) := by
  cases r with
  | cells => exact h.corrected
  | task | slot | capture => exact h.addSat
  | image | ptx | twn | meter | other => exact h

end

theorem SameMem.memByte {s t : State} (h : SameMem s t) (x : HPort) (a : Nat) : t.memByte x a = s.memByte x a := by
  have hmem : t.hmem x = s.hmem x := by
    cases x with
    | hp0 => exact h.mem0
    | hp1 => exact h.mem1
  rw [State.memByte, State.memByte, hmem]

/-! ### The rows -/

/-- Every row that stores nothing answers a state with the same host memory: one case per row. -/
theorem exec_sameMem {c : Instr} {s : State} (hc : storesNothing c = true) : ∃ t, exec c s = .next t ∧ SameMem s t := by
  have h : SameMem s s := .refl
  cases c with
  | rcFieldRead => exact ⟨_, rfl, .ite h.showRead h.hostRead⟩
  | singleBitError => exact ⟨_, rfl, h.singleBitErrorEff⟩
  | blockingExceeded => exact ⟨_, rfl, .ite h.setF.report h⟩
  | inputLatchComplete =>
    exact ⟨_, rfl, .ite h (.ite h.other.openWindow (.ite h.other.openWindow.other (.ite h.other.openWindow h.other)))⟩
  | syncReceived => exact ⟨_, rfl, .ite h (.ite h.servoTake (.ite (.ite h.other h.other) h))⟩
  | syncHoldover => exact ⟨_, rfl, h.syncHoldoverEff⟩
  | tinPpsEdge => exact ⟨_, rfl, .ite h.advance.useFree.servoTake h.advance⟩
  | rtcCtlWrite => exact ⟨_, rfl, h.asWrite h.writeRtcCtl⟩
  | clkTinWrite => exact ⟨_, rfl, h.asWrite h.writeClkTin⟩
  | rtcFracRead => exact ⟨_, rfl, h.advance.snapSec.showRead⟩
  | tckCurRead => exact ⟨_, rfl, h.snapFrameSec.showRead⟩
  | setTimeGo => exact ⟨_, rfl, h.asWrite h.setTimeGo⟩
  | measurementStart => exact ⟨_, rfl, h.asWrite h.writeMeasCtl⟩
  | measurementDone => exact ⟨_, rfl, h.measurementDoneEff⟩
  | oscillatorStop | vbakBelowRetention => exact ⟨_, rfl, h.osfCause⟩
  | aonPowerOnReset => exact ⟨_, rfl, h.aonPowerOnResetEff⟩
  | kcorrUpdate => exact ⟨_, rfl, .ite h h.setReg⟩
  | keepSecondRollover => exact ⟨_, rfl, .ite h h.setCount.other⟩
  | shareReadBack => exact ⟨_, rfl, h.asWrite (h.shareAct h.setReg.setReg)⟩
  | prtPenWrite => exact ⟨_, rfl, h.asWrite h.writePen⟩
  | cfgcrcRecompute | lgeSetcrcRecompute | cleSetcrcRecompute | configSignatureRecompute => exact ⟨_, rfl, h.setReg⟩
  | hostLinkDown => exact ⟨_, rfl, .ite h.linkFalls h⟩
  | hostLinkUp => exact ⟨_, rfl, .ite h h.setF.setF.setF.report.setPci⟩
  | fundamentalReset => exact ⟨_, rfl, (SameMem.ite h.linkFalls h.portLoss).resetPci⟩
  | functionLevelReset => exact ⟨_, rfl, h.portLoss.resetPci⟩
  | semAcquire => exact ⟨_, rfl, .ite (.ite h.setF.setF h) (.ite h.setReg.clearStaging.host.report h.setReg)⟩
  | semRelease => exact ⟨_, rfl, .ite (.ite h.freeCell.report h.freeCell) h.badVal⟩
  | leaseExpiry | heartbeatTimeout => exact ⟨_, rfl, .ite h.evictCell h⟩
  | ringSetCommit => exact ⟨_, rfl, h.unlessBusy (.ite h.rsRefuse h.setRing)⟩
  | ringSetReadBack => exact ⟨_, rfl, h.unlessBusy h.stageBase.stageBase.stageBase.stageBase.setReg.setReg.setReg⟩
  | ringSetStart => exact ⟨_, rfl, h.ringSetStartEff⟩
  | ringSetStopped => exact ⟨_, rfl, .ite (SameMem.ite h.setRs.flushNow.setStop.setF h.setRs.flushNow).msix h⟩
  | ringSetFault => exact ⟨_, rfl, .ite h.ringFault h⟩
  | cplCiWrite => exact ⟨_, rfl, .ite h.setRing h.setRing⟩
  | armWrite => exact ⟨_, rfl, h.armVec.armVec.armVec⟩
  | interruptCoalescingExpiry => exact ⟨_, rfl, .ite (.ite h.setRing.fireVec h.setRing) h⟩
  | linkAuditComplete => exact ⟨_, rfl, h.linkAuditCompleteEff⟩
  | queueFlush => exact ⟨_, rfl, h.asWrite h.requestFlush⟩
  | queueConfigurationApply => exact ⟨_, rfl, h.queueConfigurationApplyEff⟩
  | injectCorrectable | injectUncorrectable => exact ⟨_, rfl, h.asWrite h.writeFields.other⟩
  | fieldLinkUp => exact ⟨_, rfl, .ite h (SameMem.ite h.setF.setF.setF.useFree.report h.setF.setF.setF.report).raise⟩
  | sqiUpdate | faultCountClear | canModeSwitch => exact ⟨_, rfl, .ite h.setF h⟩
  | plcaCycleStart => exact ⟨_, rfl, h.plcaCycleStartEff⟩
  | pointFrameTransmit => exact ⟨_, rfl, h.pointFrameTransmitEff⟩
  | pwrctlPoll => exact ⟨_, rfl, .ite h h.other.runSide.sideOutcome⟩
  | pwrctlFlt => exact ⟨_, rfl, .ite h h.runSide.sideFailed⟩
  | powerBackoffExpiry => exact ⟨_, rfl, .ite h.toDetect h⟩
  | powerClear | powerCycle | powerHold => exact ⟨_, rfl, h.asWrite h.writePwrCmd⟩
  | powerCycleExpiry => exact ⟨_, rfl, .ite h.setPwr.toDetect h⟩
  | mdioAccess => exact ⟨_, rfl, h.asWrite h.writeMdio⟩
  | mdioComplete => exact ⟨_, rfl, .ite (SameMem.ite h h.setF).setF h⟩
  | lgeTaskAssign => exact ⟨_, rfl, h.asWrite h.writeTask⟩
  | regionFillComplete => exact ⟨_, rfl, h.setF⟩
  | slotAssign => exact ⟨_, rfl, h.asWrite h.writeSlotCfg⟩
  | captureSegmentTag => exact ⟨_, rfl, h.asWrite h.writeFields.capsEnd.setCaps⟩
  | cleTclRead => exact ⟨_, rfl, .ite h.emit h.snapTc.showRead⟩
  | cleCompute => exact ⟨_, rfl, h.forUpto (fun _ _ h => h.computeSlot)⟩
  | cleOutputWrite => exact ⟨_, rfl, h.forUpto (fun _ _ h => h.writeSlot)⟩
  | pulseInputEdge =>
    exact ⟨_, rfl, .ite h.setPulse (.ite h.settleEdges (.ite h.settleEdges.setPulse h.settleEdges.setPulse))⟩
  | pwmPeriodStart => exact ⟨_, rfl, .ite h h.useFree.setReg.other.emit⟩
  | pwmConfigWrite => exact ⟨_, rfl, h.asWrite h.writeFields.setReg.badValIf.other.pwmConfigured⟩
  | pulseEnd => exact ⟨_, rfl, .ite h.setMtr.emit h⟩
  | regularSaveComplete => exact ⟨_, rfl, h.regularSaveCompleteEff⟩
  | accumulatorClearRequest => exact ⟨_, rfl, h.asWrite h.writeAccClr⟩
  | intervalControlWrite => exact ⟨_, rfl, h.asWrite h.writeIvCtl⟩
  | pulseOutputConfigWrite => exact ⟨_, rfl, h.asWrite (.ite h.writePulseMc h.writePulseCfg)⟩
  | theftWatchConfigWrite => exact ⟨_, rfl, h.asWrite h.writeFields.setMtr⟩
  | theftWatchClear => exact ⟨_, rfl, h.asWrite h.writeWatchClr⟩
  | theftWatchBurst => exact ⟨_, rfl, .ite h.setF (.ite h.emit.emit.setMtr h)⟩
  | theftWatchEvaluation => exact ⟨_, rfl, .ite (h.emit.emit.forUpto (fun _ _ h => h.watchEntry)) h⟩
  | safetyCycle => exact ⟨_, rfl, h.safetyCycleEff⟩
  | switchTestPulse => exact ⟨_, rfl, .ite h (SameMem.ite h.emit.emit h.emit.emit.faultBy).safShow⟩
  | safeInputTestPulse => exact ⟨_, rfl, .ite h (h.forUpto (fun _ _ h => .ite h.judgePulse.judgePulse h)).safShow⟩
  | safetyMessageCopy => exact ⟨_, rfl, h.safetyMessageCopyEff⟩
  | copyMissing => exact ⟨_, rfl, h.copyMissingEff⟩
  | degradedTimerExpiry => exact ⟨_, rfl, .ite h h.faultBy.safShow⟩
  | degradedTimerRestore => exact ⟨_, rfl, .ite h h.fullDegraded.safShow⟩
  | streamWatchdog => exact ⟨_, rfl, .ite h.setStream.faultBoth.safShow h⟩
  | safetyMessageSend =>
    exact ⟨_, rfl, .ite h (SameMem.ite (h.setSaf.forUpto (fun _ _ h => h.toRiser)) h.setSaf).safShow⟩
  | requestUpdate => exact ⟨_, rfl, h.requestUpdateEff⟩
  | safLinkTimeout => exact ⟨_, rfl, .ite h h.setSaf.testEdges.safEvent.safShow⟩
  | brakeTestDelayExpiry => exact ⟨_, rfl, .ite h h.setSaf.setChan.setChan.safShow⟩
  | brakeTestWindowEnd => exact ⟨_, rfl, h.brakeTestWindowEndEff⟩
  | brakeTestDue => exact ⟨_, rfl, .ite h h.setSaf.safEvent.safShow⟩
  | brakeTestOverdue => exact ⟨_, rfl, .ite h h.faultBoth.safShow⟩
  | localReset => exact ⟨_, rfl, h.localResetEff⟩
  | safOeactRise => exact ⟨_, rfl, .ite h h.oeRise.oeRise.safShow⟩
  | islandStart => exact ⟨_, rfl, h.islandStartEff⟩
  | pauseExpiry => exact ⟨_, rfl, h.setF.setF⟩
  | prpSupervisionSend => exact ⟨_, rfl, .ite h h.setRsr.sendOwn⟩
  | publicationSend => exact ⟨_, rfl, .ite h (h.forUpto (fun _ _ h => h.sendOwn))⟩
  | publicationLateCheck => exact ⟨_, rfl, .ite h h.report.raise⟩
  | riserLinkUp => exact ⟨_, rfl, h.riserLinkUpEff⟩
  | riserLinkDown => exact ⟨_, rfl, .ite h h.riserLinkFalls.opticReports⟩
  | opticInserted => exact ⟨_, rfl, .ite h h.setF.opticReports.setRsr.judgeOptic⟩
  | rsrCntlRead => exact ⟨_, rfl, .ite h.emit h.showRead.setReg.setRsr⟩
  | claim => exact ⟨_, rfl, .ite h.setTwn.setRole.setAct h⟩
  | peerActRise => exact ⟨_, rfl, h.peerActRiseEff⟩
  | contentionWithdraw => exact ⟨_, rfl, .ite h.withdraw h⟩
  | activeContentionTimeout => exact ⟨_, rfl, .ite h.setTwn.raise h⟩
  | dropAct => exact ⟨_, rfl, h.dropActEff⟩
  | yield => exact ⟨_, rfl, .ite h h.yield⟩
  | twinLinkUp => exact ⟨_, rfl, h.twinLinkUpEff⟩
  | twinLinkDown => exact ⟨_, rfl, h.setF.setF.setF⟩
  | eventReport => exact ⟨_, rfl, h.reportFrom⟩
  | recordWrite => exact ⟨_, rfl, h.recordWriteEff⟩
  | bucketRefill => exact ⟨_, rfl, .ite h h.setBucket.summary⟩
  | keepClear => exact ⟨_, rfl, .ite h.setF.setF.other.writeRecord h⟩
  | thermistorSample => exact ⟨_, rfl, .ite h (SameMem.ite h.setF.setF.raise.report h.setF.setF).setF⟩
  | panelEnable => exact ⟨_, rfl, h.asWrite h.enablePanel⟩
  | pwrgdRise => exact ⟨_, rfl, .ite h.setPanel h⟩
  | vcomEnableDelay => exact ⟨_, rfl, .ite h.panelPower h⟩
  | powerdownDelayExpiry => exact ⟨_, rfl, .ite h.powerDown h⟩
  | pwrenOffDelay => exact ⟨_, rfl, .ite h (.ite h.panelPower.setPanel h.panelPower.panelArrive)⟩
  | busOffRecoveryComplete => exact ⟨_, rfl, .ite h.setF.setF.setF.setEst.report h⟩
  | canRecover => exact ⟨_, rfl, h.asWrite h.canRecover⟩
  | mailboxWindowLock => exact ⟨_, rfl, .ite h h.readWindow0.showRead⟩
  | mailboxWindowRelease => exact ⟨_, rfl, .ite h h.releaseMailbox.showRead⟩
  | mailboxSelect => exact ⟨_, rfl, .ite h h.releaseMailbox.writeFields⟩
  | serDriverRelease => exact ⟨_, rfl, h.serDriverReleaseEff⟩
  | keySlotAttributeWrite => exact ⟨_, rfl, h.asWrite h.writeSattr⟩
  | hopTimeout => exact ⟨_, rfl, h.hopTimeoutEff⟩
  | updArm => exact ⟨_, rfl, h.asWrite h.arm⟩
  | updDisarm => exact ⟨_, rfl, h.asWrite h.disarm⟩
  | updConfirm => exact ⟨_, rfl, h.asWrite h.hostConfirm⟩
  | updServe => exact ⟨_, rfl, h.asWrite h.serveAll⟩
  | bootConfirmed => exact ⟨_, rfl, .ite h (.ite h.setUpd h.setUpd.bootConfirm)⟩
  | coreResetEnd => exact ⟨_, rfl, h.setRst⟩
  | startComplete => exact ⟨_, rfl, h.startCompleteEff⟩
  | externalReferenceFallback => exact ⟨_, rfl, .ite h h.setF.setF.report⟩
  | referenceLost => exact ⟨_, rfl, .ite h h.setF.raise.report.selfCause⟩
  | referenceRestored | serdesLockLost => exact ⟨_, rfl, .ite h h.setF.raise.report⟩
  | blockReleaseRequest => exact ⟨_, rfl, h.asWrite h.releaseBlock⟩
  | blockRelease => exact ⟨_, rfl, .ite h h.setF.setRst.report.blockOut.signalUnit⟩
  | warningEnd => exact ⟨_, rfl, .ite h.setF h.setF.setF.setF.raise.report.safWarn.setMtr.ivFlagAll⟩
  | debugUnlock => exact ⟨_, rfl, h.setKey⟩
  | peerActFall => exact ⟨_, rfl, .ite h.setF.setTwn (.ite h.setF.setTwn.contention h.setF)⟩
  | frameRecordReceived => exact ⟨_, rfl, h.frameRecordReceivedEff⟩
  | returnRecordReceived => exact ⟨_, rfl, .ite h h.takeNote⟩
  | islandSelfTestComplete => exact ⟨_, rfl, h.islandSelfTestCompleteEff⟩
  | mrpRingOpenDetected => exact ⟨_, rfl, .ite h h.ringChange⟩
  | syncTransmit => exact ⟨_, rfl, h.forUpto (fun _ _ h => .ite h.emit h)⟩
  | _ => cases hc

/-- Settles O60: no row that stores nothing reaches a write of host memory. -/
theorem rowsThatStoreNothing : Obligations.RowsThatStoreNothing := by
  intro c s t hc e x a
  obtain ⟨u, eu, h⟩ := exec_sameMem (s := s) hc
  cases eu.symm.trans e
  exact h.memByte x a

end Sys2Proof.Machine
end

section
namespace Sys2Proof.Machine

/-! ## The checks of a ring command (R152) -/

variable {s : State} {x : HPort} {p : Part} {d : Desc} {o : Op} {sel wf fitted cfg : Bool} {body : State → Nat → CmdEnd}

/-- How a configuration-class command ends without the right to it: DENIED, and outside partition 0 as a refusal of an object whose
class and number are open (log 34). -/
def State.deniedCfg (s : State) (x : HPort) (p : Part) (o : Op) : State :=
  s.ends (if p.val = 0 then s.started x p o
    else (s.started x p o).useFree.useFree.refusal p (s.started x p o).freeVal.toNat
      (s.started x p o).useFree.freeVal.toNat St.denied) x p o St.denied 0 0

theorem State.deniedCfg_operator (h : p.val = 0) : s.deniedCfg x p o = s.ends (s.started x p o) x p o St.denied 0 0 := by
  rw [State.deniedCfg, if_pos h]

theorem State.deniedCfg_tenant (h : p.val ≠ 0) :
    s.deniedCfg x p o = s.ends ((s.started x p o).useFree.useFree.refusal p (s.started x p o).freeVal.toNat
      (s.started x p o).useFree.freeVal.toNat St.denied) x p o St.denied 0 0 := by
  rw [State.deniedCfg, if_neg h]

/-- The checks of a command that its ring set may start, in the order of R152. -/
theorem State.command_checks (hr : s.rsRunning x p = true) (ho : startable d [] (s.ring x p).ops = some o) :
    s.command x p d true wf fitted cfg body =
      if wf = false then s.ends (s.started x p o) x p o St.badDesc 0 0
      else if d.epoch ≠ s.epoch then s.ends (s.started x p o) x p o St.roleChanged 0 0
      else if fitted = false then s.ends (s.started x p o) x p o St.unsupported 0 0
      else if cfg = true ∧ s.mayConfigure x p = false then s.deniedCfg x p o
      else if s.inReset d.block = true then s.ends (s.started x p o) x p o St.aborted 0 0
      else s.finish (body (s.started x p o) o.id) x p o := by
  simp only [State.command, hr, ho, Bool.not_true, Bool.or_false, Bool.false_eq_true, if_false, Bool.not_eq_true', bne_iff_ne,
    Bool.and_eq_true]
  rfl

theorem State.command_idle (h : sel = false ∨ s.rsRunning x p = false ∨ startable d [] (s.ring x p).ops = none) :
    s.command x p d sel wf fitted cfg body = s := by
  unfold State.command
  rcases h with h | h | h <;> simp [h]

theorem State.mayConfigure_denied (h : p.val = 0 → s.holdsSem0 x = false) : s.mayConfigure x p = false := by
  by_cases hp : p.val = 0
  · simp [State.mayConfigure, h hp]
  · simp [State.mayConfigure, hp]

/-- A command of a fitted unit that every partition may give finishes as its body says, once it passes the checks. -/
theorem State.command_finishes (h : s.mayStart x p d o = true) (hs : sel = true) (hw : wf = true) :
    s.command x p d sel wf true false body = s.finish (body (s.started x p o) o.id) x p o :=
  State.command_finish h hs hw rfl (fun hc => nomatch hc)

theorem exec_nop : exec (.nop x p d) s =
    .next (s.command x p d (d.opcode = 0x00) (d.clean 0 0 0 0 0 0) true false nopBody) := rfl

/-- Settles O20. -/
theorem ringCommandChecks : Obligations.RingCommandChecks := by
  refine ⟨?checks, ?idle, ?nop⟩
  case checks =>
    intro x p d o wf fitted cfg body s hr ho
    refine ⟨?malformed, ?epoch, ?missing, ?operator, ?inReset, ?runs, ?tenant⟩
    case malformed => intro hw; rw [State.command_checks hr ho, if_pos hw]
    case epoch => intro hw he; simp [State.command_checks hr ho, hw, he]
    case missing => intro hw he hf; simp [State.command_checks hr ho, hw, he, hf]
    case operator =>
      intro hw he hf hc hp h0
      have hm : s.mayConfigure x p = false := State.mayConfigure_denied fun _ => h0
      simp [State.command_checks hr ho, hw, he, hf, hc, hm, State.deniedCfg_operator hp]
    case inReset =>
      intro hw he hf hc hb
      simp +contextual [State.command_checks hr ho, hw, he, hf, hc, hb]
    case runs => exact fun hw h hf hc => State.command_runs h rfl hw hf hc
    case tenant =>
      intro hw he hf hc hp
      have hm : s.mayConfigure x p = false := State.mayConfigure_denied fun h => absurd h hp
      simp [State.command_checks hr ho, hw, he, hf, hc, hm, State.deniedCfg_tenant hp]
  case idle => exact fun x p d sel wf fitted cfg body s h => State.command_idle h
  case nop =>
    intro x p d o s h hd hw
    rw [exec_nop, State.command_finishes h (decide_eq_true hd) hw]
    rfl

end Sys2Proof.Machine
end

section
namespace Sys2Proof.Machine

/-! ## Semaphore cells (R135 to R139) -/

variable {s : State} {x : HPort} {i : Fin 64} {tag : BitVec 16}

theorem exec_semAcquire : exec (.semAcquire x i tag) s = .next (semAcquireEff x i tag s) := rfl

theorem exec_semRelease : exec (.semRelease x i) s = .next (semReleaseEff x i s) := rfl

theorem exec_leaseExpiry : exec (.leaseExpiry i) s = .next (leaseExpiryEff i s) := rfl

theorem exec_heartbeatTimeout : exec (.heartbeatTimeout i) s = .next (heartbeatTimeoutEff i s) := rfl

/-! ### The registers of the cells -/

theorem Reg.SEM_CELL_block {i : Nat} : 0x180000 ≤ Reg.SEM_CELL i := by simp only [Reg.SEM_CELL]; omega

theorem Reg.SEM_CELL_inj {i j : Nat} (h : j ≠ i) : Reg.SEM_CELL j ≠ Reg.SEM_CELL i := by
  simp only [Reg.SEM_CELL]; omega

/-- A bit of a word as the register map reads it. -/
theorem fieldOf_bit (w : Word) (k : Nat) : fieldOf w k k = (w.getLsbD k).toNat := by
  have h : k + 1 - k = 1 := by omega
  rw [fieldOf, h, pow_one, BitVec.getLsbD, Nat.testBit_eq_decide_div_mod_eq]
  rcases Nat.mod_two_eq_zero_or_one (w.toNat / 2 ^ k) with e | e <;> simp [e]

/-- A report does not reach the semaphores' registers. -/
theorem State.report_semReg {code part o : Nat} {a b c : Word} (h : 0x180000 ≤ o) :
    (s.report code part a b c).reg o = s.reg o :=
  State.report_reg (by simp only [Reg.EVR_LOST]; omega) (by simp only [Reg.EVR_STAT]; omega)

@[simp] theorem State.signalOn_reg {b o : Nat} : (s.signalOn x b).reg o = s.reg o :=
  State.reg_congr State.signalOn_variant State.signalOn_regs

@[simp] theorem State.report_rings {code part : Nat} {a b c : Word} :
    (s.report code part a b c).host.rings = s.host.rings := by
  rw [State.report_sinks]; rfl

/-! ### Acquiring -/

/-- The cell with its new holder: HELD, PORT and TAG as given, without a lease (R135). -/
def heldCell (x : HPort) (tag : BitVec 16) : Word := wd (2 ^ 31 + x.num * 2 ^ 30 + tag.toNat)

theorem heldCell_toNat : (heldCell x tag).toNat = 2 ^ 31 + x.num * 2 ^ 30 + tag.toNat := by
  have := tag.isLt
  rw [heldCell, wd, BitVec.toNat_ofNat]
  cases x <;> simp only [HPort.num] <;> omega

/-- HELD, PORT, LEASE and TAG of a cell with its new holder. -/
theorem heldCell_fields :
    fieldOf (heldCell x tag) 31 31 = 1 ∧ fieldOf (heldCell x tag) 30 30 = x.num ∧ fieldOf (heldCell x tag) 29 29 = 0 ∧
      fieldOf (heldCell x tag) 15 0 = tag.toNat := by
  have := tag.isLt
  simp only [fieldOf, heldCell_toNat]
  cases x <;> simp only [HPort.num] <;> omega

theorem State.clearStaging_semReg {o : Nat} (h : 0x180000 ≤ o) : (s.clearStaging x).reg o = s.reg o := by
  unfold State.clearStaging
  split
  · rw [State.reg_setReg_other (by simp only [Reg.PRT_SHW1]; omega), State.reg_setReg_other (by simp only [Reg.PRT_SHW0]; omega),
      State.reg_setReg_other (by simp only [Reg.PRT_SHIDX]; omega)]
  · rfl

theorem State.clearStaging_rings : (s.clearStaging x).host.rings = s.host.rings := by
  unfold State.clearStaging
  split <;> rfl

/-- SEM0 has a new holder: the staging registers go with a change of port, and the recorder hears of it (R105, R172). -/
def State.sem0Taken (s : State) (x : HPort) (tag : BitVec 16) : State :=
  let t := s.clearStaging x
  State.report { t with host := { t.host with semLast := some x } } 0x1801 0 (wd x.num) (wd tag.toNat) 0

theorem State.sem0Taken_semReg {o : Nat} (h : 0x180000 ≤ o) : (s.sem0Taken x tag).reg o = s.reg o := by
  rw [State.sem0Taken, State.report_semReg h, ← State.clearStaging_semReg (s := s) (x := x) h]
  exact State.reg_congr rfl rfl

theorem State.sem0Taken_rings : (s.sem0Taken x tag).host.rings = s.host.rings := by
  rw [State.sem0Taken, State.report_rings, ← State.clearStaging_rings (s := s) (x := x)]

theorem semAcquireEff_sem0 (h : s.on (F.SEM_CELL_HELD i) = false) (h0 : i.val = 0) :
    semAcquireEff x i tag s = (s.setReg (Reg.SEM_CELL i) (heldCell x tag)).sem0Taken x tag := by
  unfold semAcquireEff
  rw [h, if_neg (by decide)]
  dsimp only
  rw [if_pos h0]
  unfold State.sem0Taken heldCell
  rfl

theorem semAcquireEff_notSem0 (h : s.on (F.SEM_CELL_HELD i) = false) (h0 : i.val ≠ 0) :
    semAcquireEff x i tag s = s.setReg (Reg.SEM_CELL i) (heldCell x tag) := by
  unfold semAcquireEff
  rw [h, if_neg (by decide)]
  dsimp only
  rw [if_neg h0]
  unfold heldCell
  rfl

theorem semAcquireEff_reg {o : Nat} (h : s.on (F.SEM_CELL_HELD i) = false) (ho : 0x180000 ≤ o) :
    (semAcquireEff x i tag s).reg o = (s.setReg (Reg.SEM_CELL i) (heldCell x tag)).reg o := by
  by_cases h0 : i.val = 0
  · rw [semAcquireEff_sem0 h h0, State.sem0Taken_semReg ho]
  · rw [semAcquireEff_notSem0 h h0]

theorem semAcquireEff_rings (h : s.on (F.SEM_CELL_HELD i) = false) :
    (semAcquireEff x i tag s).host.rings = s.host.rings := by
  by_cases h0 : i.val = 0
  · rw [semAcquireEff_sem0 h h0, State.sem0Taken_rings, State.setReg_host]
  · rw [semAcquireEff_notSem0 h h0, State.setReg_host]

/-- After an acquisition of a free cell, each of its fields is that of `heldCell`. -/
theorem semAcquireEff_field {hi lo : Nat} (h : s.on (F.SEM_CELL_HELD i) = false) :
    (semAcquireEff x i tag s).rf ⟨Reg.SEM_CELL i, hi, lo⟩ = fieldOf (heldCell x tag) hi lo := by
  rw [State.rf, semAcquireEff_reg h Reg.SEM_CELL_block, State.reg_setReg_same]

theorem semAcquireEff_cellPort (h : s.on (F.SEM_CELL_HELD i) = false) : (semAcquireEff x i tag s).cellPort i = x := by
  obtain ⟨-, hport, -, -⟩ := heldCell_fields (x := x) (tag := tag)
  rw [State.cellPort, State.on, F.SEM_CELL_PORT, semAcquireEff_field h, hport]
  cases x <;> rfl

theorem semAcquireEff_held (h : s.on (F.SEM_CELL_HELD i) = true) :
    semAcquireEff x i tag s =
      if s.cellPort i = x then (s.setF (F.SEM_CELL_TAG i) tag.toNat).setF (F.SEM_CELL_LEASE i) 0 else s := by
  rw [semAcquireEff, if_pos h]

/-! ### Freeing -/

theorem State.freeCell_reg : (s.freeCell i).reg (Reg.SEM_CELL i) = s.freeVal &&& 0x4000FFFF := State.reg_setReg_same

theorem State.freeCell_other {o : Nat} (h : o ≠ Reg.SEM_CELL i) : (s.freeCell i).reg o = s.reg o := by
  rw [State.freeCell, State.reg_setReg_other h, State.useFree_reg]

/-- From `s` to `t` the cell `i` is freed: HELD and LEASE read 0, and every other cell stays. -/
structure CellFreed (s t : State) (i : Fin 64) : Prop where
  held : t.on (F.SEM_CELL_HELD i) = false
  lease : t.on (F.SEM_CELL_LEASE i) = false
  others : ∀ j : Fin 64, j ≠ i → t.reg (Reg.SEM_CELL j) = s.reg (Reg.SEM_CELL j)

theorem State.freeCell_freed : CellFreed s (s.freeCell i) i where
  held := by simp [State.on, State.rf, F.SEM_CELL_HELD, State.freeCell_reg, fieldOf_bit]
  lease := by simp [State.on, State.rf, F.SEM_CELL_LEASE, State.freeCell_reg, fieldOf_bit]
  others := fun j h => State.freeCell_other (Reg.SEM_CELL_inj (Fin.val_ne_of_ne h))

/-- What follows the freeing of a cell and leaves the semaphores' registers alone. -/
theorem CellFreed.of_semRegs {t u : State} (h : CellFreed s t i) (k : ∀ o, 0x180000 ≤ o → u.reg o = t.reg o) : CellFreed s u i where
  held := (State.on_congr (k _ Reg.SEM_CELL_block)).trans h.held
  lease := (State.on_congr (k _ Reg.SEM_CELL_block)).trans h.lease
  others := fun j hj => (k _ Reg.SEM_CELL_block).trans (h.others j hj)

theorem State.evictCell_freed {code : Nat} : CellFreed s (s.evictCell i code) i :=
  State.freeCell_freed.of_semRegs fun o ho => by rw [State.evictCell, State.signalOn_reg, State.report_semReg ho]

theorem semReleaseEff_freed (h : s.on (F.SEM_CELL_HELD i) = true) (hx : s.cellPort i = x) :
    CellFreed s (semReleaseEff x i s) i := by
  rw [semReleaseEff, if_pos (by simp [h, hx])]
  dsimp only
  split
  · exact State.freeCell_freed.of_semRegs fun _ ho => State.report_semReg ho
  · exact State.freeCell_freed

theorem semReleaseEff_notHolder (h : ¬ (s.on (F.SEM_CELL_HELD i) = true ∧ s.cellPort i = x)) : semReleaseEff x i s = s.badVal := by
  rw [semReleaseEff, if_neg (by simpa using h)]

theorem leaseExpiryEff_leased (h : s.on (F.SEM_CELL_HELD i) = true) (hl : s.on (F.SEM_CELL_LEASE i) = true) :
    leaseExpiryEff i s = s.evictCell i 0x1803 := by
  simp [leaseExpiryEff, h, hl]

theorem heartbeatTimeoutEff_missed (h : s.on (F.SEM_CELL_HELD i) = true) (ht : s.rf F.SEM_CTL_HBTMO ≠ 0) :
    heartbeatTimeoutEff i s = s.evictCell i 0x1804 := by
  simp [heartbeatTimeoutEff, h, ht]

/-- Settles O11. -/
theorem semaphoreCells : Obligations.SemaphoreCells := by
  refine ⟨?acquire, ?refresh, ?release, ?notHolder, ?lease, ?heartbeat⟩
  case acquire =>
    intro x i tag s h
    obtain ⟨hheld, -, hlease, htag⟩ := heldCell_fields (x := x) (tag := tag)
    refine ⟨_, exec_semAcquire, ?held, semAcquireEff_cellPort h, (semAcquireEff_field h).trans htag, ?noLease, ?others,
      semAcquireEff_rings h⟩
    case held => rw [State.on, F.SEM_CELL_HELD, semAcquireEff_field h, hheld]; rfl
    case noLease => rw [State.on, F.SEM_CELL_LEASE, semAcquireEff_field h, hlease]; rfl
    case others =>
      intro j hj
      rw [semAcquireEff_reg h Reg.SEM_CELL_block, State.reg_setReg_other (Reg.SEM_CELL_inj (Fin.val_ne_of_ne hj))]
  case refresh => exact fun x i tag s h => by rw [exec_semAcquire, semAcquireEff_held h]
  case release =>
    intro x i s h hx
    have hf := semReleaseEff_freed h hx
    exact ⟨_, exec_semRelease, hf.held, hf.lease, hf.others⟩
  case notHolder => exact fun x i s h => by rw [exec_semRelease, semReleaseEff_notHolder (of_eq_false h)]
  case lease =>
    intro i s h hl
    have hf : CellFreed s (s.evictCell i 0x1803) i := State.evictCell_freed
    exact ⟨_, by rw [exec_leaseExpiry, leaseExpiryEff_leased h hl], hf.held, hf.lease⟩
  case heartbeat =>
    intro i s h ht
    have hf : CellFreed s (s.evictCell i 0x1804) i := State.evictCell_freed
    exact ⟨_, by rw [exec_heartbeatTimeout, heartbeatTimeoutEff_missed h ht], hf.held, hf.others⟩

end Sys2Proof.Machine
end

section
namespace Sys2Proof.Machine

/-! ## Ring sets: what the shared operations leave alone

A ring set's state stands in HPC_STATEx, below 0x80000; the pool, the recorder, the riser and the CAN controllers have their
registers above. -/

variable {s t : State} {x : HPort} {p q n o : Nat}

/-! ### The state field (R143, R176) -/

theorem rsField_range (hp : p < 128) : 0x70200 ≤ (rsField x p).off ∧ (rsField x p).off < 0x70240 := by
  cases x <;> simp only [rsField, Reg.HPC_STATE, HPort.num] <;> omega

theorem rsField_lt (hp : p < 128) : (rsField x p).off < 0x80000 := (rsField_range hp).2.trans (by decide)

theorem rsField_bits : (rsField x p).lo ≤ (rsField x p).hi ∧ (rsField x p).hi < 32 := by
  simp only [rsField]; omega

theorem rsField_disjoint (h : q ≠ p) : (rsField x q).off ≠ (rsField x p).off ∨ (rsField x q).hi < (rsField x p).lo ∨
    (rsField x p).hi < (rsField x q).lo := by
  simp only [rsField, Reg.HPC_STATE]; omega

theorem State.rsIdx_lt : s.rsIdx x < 128 := by
  simp only [State.rsIdx, State.rf, fieldOf, F.HPC_RSIDX_RS]
  exact Nat.mod_lt _ (by decide)

theorem State.rsState_congr (h : t.reg (rsField x p).off = s.reg (rsField x p).off) : t.rsState x p = s.rsState x p :=
  State.rf_congr h

theorem State.setRs_rsState : (s.setRs x p n).rsState x p = n % 4 := by
  have hw : (rsField x p).hi + 1 - (rsField x p).lo = 2 := by simp only [rsField]; omega
  rw [State.rsState, State.setRs, State.rf_setF_same rsField_bits.1 rsField_bits.2, hw]
  rfl

theorem State.setRs_rsState_other (h : q ≠ p) : (s.setRs x p n).rsState x q = s.rsState x q :=
  State.rf_setF_other rsField_bits.1 rsField_bits.2 (rsField_disjoint h)

theorem State.setF_rsState {f : Fld} (h : (rsField x p).off ≠ f.off) : (s.setF f n).rsState x p = s.rsState x p :=
  State.rsState_congr (State.reg_setF_other h)

theorem HPC_RSCMD_BUSY_off (hp : p < 128) : (rsField x p).off ≠ (F.HPC_RSCMD_BUSY x.num).off := by
  have := (rsField_range (x := x) hp).1
  cases x <;> simp only [F.HPC_RSCMD_BUSY, Reg.HPC_RSCMD, HPort.num] <;> omega

/-! ### Registers -/

@[simp] theorem State.setRing_reg {r : RingSet} : (s.setRing x p r).reg o = s.reg o := State.reg_congr rfl rfl

@[simp] theorem State.endSubs_reg : (s.endSubs x p).reg o = s.reg o := State.reg_congr rfl rfl

@[simp] theorem State.setStop_reg {m : Option Nat} : (s.setStop x m).reg o = s.reg o := by cases x <;> exact State.reg_congr rfl rfl

@[simp] theorem State.msix_reg {v : Nat} : (s.msix x v).reg o = s.reg o := State.reg_congr State.msix_variant State.msix_regs

@[simp] theorem State.emptyQueue_reg : (s.emptyQueue q).reg o = s.reg o := State.reg_congr rfl rfl

theorem State.flushNow_reg (h : o < 0x80000) : (s.flushNow q).reg o = s.reg o := by
  have hq : o ≠ (F.QPL_QSTAT_FLUSHED q).off := by simp only [F.QPL_QSTAT_FLUSHED, Reg.QPL_QSTAT]; omega
  unfold State.flushNow
  split
  · exact State.emptyQueue_reg
  · rw [State.reg_setF_other hq, State.emptyQueue_reg]

theorem State.dropRing_reg (h : o < 0x80000) : (s.dropRing x p).reg o = s.reg o := by
  simp only [State.dropRing, State.endSubs_reg, State.flushNow_reg h, State.setRing_reg]

theorem State.report_portReg {code part : Nat} {a b c : Word} (h : o < 0x80000) : (s.report code part a b c).reg o = s.reg o :=
  State.report_reg (by simp only [Reg.EVR_LOST]; omega) (by simp only [Reg.EVR_STAT]; omega)

/-! ### Ring sets -/

/-- Ring sets are read from their store alone. -/
theorem State.ring_congr (h : t.host.rings = s.host.rings) : t.ring x p = s.ring x p := by
  rw [State.ring, State.ring, h]

@[simp] theorem State.setRs_ring {y : HPort} : (s.setRs y q n).ring x p = s.ring x p := rfl

@[simp] theorem State.endSubs_ring {y : HPort} : (s.endSubs y q).ring x p = s.ring x p := rfl

@[simp] theorem State.flushNow_ring {m : Nat} : (s.flushNow m).ring x p = s.ring x p := by
  unfold State.flushNow; split <;> rfl

@[simp] theorem State.report_ring {code part : Nat} {a b c : Word} : (s.report code part a b c).ring x p = s.ring x p :=
  State.ring_congr State.report_rings

@[simp] theorem State.msix_ring {y : HPort} {v : Nat} : (s.msix y v).ring x p = s.ring x p := by
  rw [State.msix_sinks]; rfl

@[simp] theorem State.dropRing_ops : ((s.dropRing x p).ring x p).ops = [] := by
  simp [State.dropRing]

/-! ### Queues -/

@[simp] theorem State.emptyQueue_queue : (s.emptyQueue q).queue q = [] :=
  State.queue_setQueue_same (s := s) (ps := [])

theorem State.emptyQueue_queue_other (h : n ≠ q) : (s.emptyQueue q).queue n = s.queue n :=
  State.queue_setQueue_other (s := s) (ps := []) h

@[simp] theorem State.flushNow_queue : (s.flushNow q).queue q = [] := by
  unfold State.flushNow
  split <;> exact State.emptyQueue_queue

theorem State.flushNow_queue_other (h : n ≠ q) : (s.flushNow q).queue n = s.queue n := by
  unfold State.flushNow
  split <;> exact State.emptyQueue_queue_other h

@[simp] theorem State.endSubs_queue : (s.endSubs x p).queue q = s.queue q := rfl

@[simp] theorem State.setRing_queue {r : RingSet} : (s.setRing x p r).queue q = s.queue q := rfl

@[simp] theorem State.report_queue {code part : Nat} {a b c : Word} : (s.report code part a b c).queue q = s.queue q := by
  rw [State.report_sinks]; rfl

@[simp] theorem State.msix_queue {v : Nat} : (s.msix x v).queue q = s.queue q := by
  rw [State.msix_sinks]; rfl

theorem rxQueue_ne_stagingQueue : rxQueue x p ≠ stagingQueue x p := by
  simp only [rxQueue, stagingQueue]; omega

@[simp] theorem State.dropRing_queue : (s.dropRing x p).queue (rxQueue x p) = [] := by
  simp [State.dropRing, State.flushNow_queue_other rxQueue_ne_stagingQueue]

/-! ### STOP and the way to FAULT (R145, R146) -/

/-- A RUNNING ring set without commands stops: it is STOPPING, with no frame waiting and no subscription left. -/
theorem State.stopRing_running (h : s.rsState x p = 1) (ho : (s.ring x p).ops = []) :
    s.stopRing x p = ((((s.setRs x p 2).setRing x p { s.ring x p with
      cmdCi := (s.ring x p).cmdSeen, ops := [], holding := false }).flushNow (rxQueue x p)).endSubs x p) := by
  simp only [State.stopRing, h, if_true, State.setRs_ring, ho]
  rfl

theorem State.stopRing_faulted (h : s.rsState x p = 3) : s.stopRing x p = s.setRs x p 0 := by
  simp [State.stopRing, h]

theorem State.stopRing_stopped (h : s.rsState x p = 0 ∨ s.rsState x p = 2) : s.stopRing x p = s := by
  rcases h with h | h <;> simp [State.stopRing, h]

theorem State.stopRing_reg (h : s.rsState x p = 1) (ho : (s.ring x p).ops = []) (hl : o < 0x80000) :
    (s.stopRing x p).reg o = (s.setRs x p 2).reg o := by
  rw [State.stopRing_running h ho, State.endSubs_reg, State.flushNow_reg hl, State.setRing_reg]

theorem State.stopRing_rsState (h : s.rsState x p = 1) (ho : (s.ring x p).ops = []) (hp : p < 128) :
    (s.stopRing x p).rsState x p = 2 :=
  (State.rsState_congr (State.stopRing_reg h ho (rsField_lt hp))).trans State.setRs_rsState

theorem State.ringFault_reg {errc : Nat} (h : o < 0x80000) : (s.ringFault x p errc).reg o = (s.setRs x p 3).reg o := by
  simp only [State.ringFault, State.msix_reg, State.report_portReg h, State.setRing_reg, State.dropRing_reg h]

theorem State.ringFault_rsState {errc : Nat} (hp : p < 128) : (s.ringFault x p errc).rsState x p = 3 :=
  (State.rsState_congr (State.ringFault_reg (rsField_lt hp))).trans State.setRs_rsState

theorem State.ringFault_ring {errc : Nat} :
    (s.ringFault x p errc).ring x p = { ((s.setRs x p 3).dropRing x p).ring x p with errc := errc } := by
  simp [State.ringFault]

theorem State.ringFault_queue {errc : Nat} : (s.ringFault x p errc).queue (rxQueue x p) = [] := by
  simp [State.ringFault]

end Sys2Proof.Machine
end

section
namespace Sys2Proof.Machine

/-! ## START, STOP and FAULT of a ring set (R144 to R146) -/

variable {s : State} {x : HPort} {p : Nat} {r : RingSet}

theorem exec_ringSetStart : exec (.ringSetStart x) s = .next (ringSetStartEff x s) := rfl

theorem exec_ringSetStop : exec (.ringSetStop x) s = .next (ringSetStopEff x s) := rfl

theorem exec_ringSetStopped {p : Part} : exec (.ringSetStopped x p) s = .next (ringSetStoppedEff x p s) := rfl

theorem exec_ringSetFault {p : Part} {errc : Fin 4} :
    exec (.ringSetFault x p errc) s = .next (ringSetFaultEff x p errc s) := rfl

theorem State.unlessBusy_idle {t : State} (h : s.on (F.HPC_RSCMD_BUSY x.num) = false) : s.unlessBusy x t = t := by
  rw [State.unlessBusy, h]; rfl

theorem State.unlessBusy_busy {t : State} (h : s.on (F.HPC_RSCMD_BUSY x.num) = true) : s.unlessBusy x t = s.badVal := by
  rw [State.unlessBusy, if_pos h]

/-! ### The conditions of START, in their order -/

/-- The four ring bases are aligned to 4 KiB. -/
abbrev RingSet.basesAligned (r : RingSet) : Prop :=
  r.cmdB % 4096 = 0 ∧ r.cplB % 4096 = 0 ∧ r.evtB % 4096 = 0 ∧ r.rxB % 4096 = 0

/-- The sizes of the rings and of the receive buffers are defined. -/
abbrev RingSet.sizesDefined (r : RingSet) : Prop :=
  sizeOk (fieldOf r.size 3 0) = true ∧ sizeOk (fieldOf r.size 7 4) = true ∧ sizeOk (fieldOf r.size 11 8) = true ∧
    sizeOk (fieldOf r.size 15 12) = true ∧ fieldOf r.size 18 16 ≤ 6

/-- The function may send requests with a PASID where the ring set needs one. -/
abbrev State.pasidReady (s : State) (x : HPort) (p : Nat) : Prop :=
  s.on (F.PRT_PASID_EN x.num p) = true → (s.pci x).pasidOn = true

theorem RingSet.misaligned_iff :
    [r.cmdB, r.cplB, r.evtB, r.rxB].any (fun b => b % 4096 != 0) = true ↔ ¬ r.basesAligned := by
  simp only [List.any_cons, List.any_nil, Bool.or_false, Bool.or_eq_true, bne_iff_ne, RingSet.basesAligned]
  omega

theorem RingSet.sizesUndefined_iff :
    (sizeOk (fieldOf r.size 3 0) && sizeOk (fieldOf r.size 7 4) && sizeOk (fieldOf r.size 11 8)
      && sizeOk (fieldOf r.size 15 12) && Decidable.decide (fieldOf r.size 18 16 ≤ 6)) = false ↔ ¬ r.sizesDefined := by
  rw [← Bool.not_eq_true]
  simp only [Bool.and_eq_true, decide_eq_true_eq, RingSet.sizesDefined, and_assoc]

theorem State.pasidMissing_iff : (s.on (F.PRT_PASID_EN x.num p) && !(s.pci x).pasidOn) = true ↔ ¬ s.pasidReady x p := by
  simp [State.pasidReady]

/-- START names the first condition that fails, in the order of R144. -/
theorem State.startCause_order :
    s.startCause x p =
      if ¬ s.rsState x p = 0 then some 3
      else if ¬ (s.ring x p).basesAligned then some 1
      else if ¬ (s.ring x p).sizesDefined then some 2
      else if ¬ s.enabled p = true then some 4
      else if ¬ (s.pci x).busMaster = true then some 6
      else if ¬ s.pasidReady x p then some 5
      else none := by
  simp only [State.startCause, RingSet.misaligned_iff, RingSet.sizesUndefined_iff, State.pasidMissing_iff, bne_iff_ne, ne_eq,
    Bool.not_eq_true', Bool.not_eq_true]

/-- A check that comes first lets a chain of checks end without a cause only where it passes. -/
theorem check_eq_none {c : Prop} [Decidable c] {k : Nat} {e : Option Nat} :
    (if ¬ c then some k else e) = none ↔ c ∧ e = none := by
  by_cases h : c <;> simp [h]

theorem State.startCause_none_iff :
    s.startCause x p = none ↔ s.rsState x p = 0 ∧ (s.ring x p).basesAligned ∧ (s.ring x p).sizesDefined ∧ s.enabled p = true ∧
      (s.pci x).busMaster = true ∧ s.pasidReady x p := by
  simp only [State.startCause_order, check_eq_none, and_true]

/-! ### What each command does -/

/-- A ring set as START leaves it: no command, no entry, phase 1, and its set-up and ARM as before (R144). -/
def RingSet.zeroed (r : RingSet) : RingSet :=
  { r with
    cmdPi := 0, cmdCi := 0, cplPi := 0, cplCi := 0, evtPi := 0, evtCi := 0, rxPi := 0, rxCi := 0
    cplPhase := true, evtPhase := true, dueCpl := false, dueEvt := false, dueRx := false, rxNew := false
    errc := 0, rxNoBuf := 0, evtLost := 0, dbErr := 0, lostSince := 0, ops := [], holding := false }

theorem ringSetStartEff_starts (h : s.on (F.HPC_RSCMD_BUSY x.num) = false) (hc : s.startCause x (s.rsIdx x) = none) :
    ringSetStartEff x s = (s.setRing x (s.rsIdx x) (s.ring x (s.rsIdx x)).zeroed).setRs x (s.rsIdx x) 1 := by
  simp only [ringSetStartEff, State.unlessBusy_idle h, hc]
  rfl

theorem ringSetStartEff_refused {c : Nat} (h : s.on (F.HPC_RSCMD_BUSY x.num) = false)
    (hc : s.startCause x (s.rsIdx x) = some c) : ringSetStartEff x s = s.rsRefuse x c := by
  simp only [ringSetStartEff, State.unlessBusy_idle h, hc]

theorem ringSetStopEff_running (h : s.on (F.HPC_RSCMD_BUSY x.num) = false) (hr : s.rsState x (s.rsIdx x) = 1)
    (ho : (s.ring x (s.rsIdx x)).ops = []) :
    ringSetStopEff x s =
      ((s.stopRing x (s.rsIdx x)).setStop x (some (s.rsIdx x))).setF (F.HPC_RSCMD_BUSY x.num) 1 := by
  simp only [ringSetStopEff, State.unlessBusy_idle h, State.stopRing_rsState hr ho State.rsIdx_lt, if_true]

theorem ringSetStopEff_faulted (h : s.on (F.HPC_RSCMD_BUSY x.num) = false) (hr : s.rsState x (s.rsIdx x) = 3) :
    ringSetStopEff x s = s.setRs x (s.rsIdx x) 0 := by
  have h0 : (s.setRs x (s.rsIdx x) 0).rsState x (s.rsIdx x) = 0 := State.setRs_rsState
  simp only [ringSetStopEff, State.unlessBusy_idle h, State.stopRing_faulted hr, h0]
  rfl

theorem ringSetStoppedEff_stopping {p : Part} (h : s.rsState x p = 2) (ho : (s.ring x p).ops = []) :
    ringSetStoppedEff x p s =
      (let t := (s.setRs x p 0).flushNow (stagingQueue x p)
       (if s.stopIdx x = some p.val then (t.setStop x none).setF (F.HPC_RSCMD_BUSY x.num) 0 else t).msix x (8 * p + 3)) := by
  have hi : ((s.setRs x p 0).flushNow (stagingQueue x p)).stopIdx x = s.stopIdx x := by
    unfold State.flushNow
    split <;> cases x <;> rfl
  simp only [ringSetStoppedEff, h, ho, decide_true, Bool.and_self, if_true, hi]

theorem ringSetFaultEff_active {p : Part} {errc : Fin 4} (h : s.rsState x p = 1 ∨ s.rsState x p = 2) (he : errc.val ≠ 0) :
    ringSetFaultEff x p errc s = s.ringFault x p errc := by
  rw [ringSetFaultEff, if_pos (by simpa [he] using h)]

theorem State.stopIdx_setStop {m : Option Nat} : (s.setStop x m).stopIdx x = m := by cases x <;> rfl

theorem State.endSubs_gone {b : Sub} (h : b ∈ (s.endSubs x p).ptx.subs) : ¬ (b.port = x ∧ b.part = p) := by
  exact not_and_or.2 (by simpa using (List.mem_filter.1 h).2)

@[simp] theorem State.setF_queue {f : Fld} {n q : Nat} : (s.setF f n).queue q = s.queue q := rfl

@[simp] theorem State.setStop_queue {m : Option Nat} {q : Nat} : (s.setStop x m).queue q = s.queue q := by cases x <;> rfl

@[simp] theorem State.setStop_ptx {m : Option Nat} : (s.setStop x m).ptx = s.ptx := by cases x <;> rfl

@[simp] theorem State.setF_stopIdx {f : Fld} {n : Nat} : (s.setF f n).stopIdx x = s.stopIdx x := by cases x <;> rfl

theorem State.stopRing_queue (h : s.rsState x p = 1) (ho : (s.ring x p).ops = []) :
    (s.stopRing x p).queue (rxQueue x p) = [] := by
  rw [State.stopRing_running h ho, State.endSubs_queue, State.flushNow_queue]

/-- Settles O13. -/
theorem ringSetLifeCycle : Obligations.RingSetLifeCycle := by
  refine ⟨?start, ?startRefused, ?cause, ?stopFaulted, ?stop, ?stopped, ?fault⟩
  case start =>
    intro x s h hc
    refine ⟨_, by rw [exec_ringSetStart, ringSetStartEff_starts h hc], State.setRs_rsState, ?_⟩
    rw [State.setRs_ring, State.ring_setRing_same]
    exact ⟨rfl, rfl, rfl, rfl, rfl, rfl, rfl, rfl, rfl, rfl, rfl, rfl, rfl, rfl, rfl, rfl, rfl, rfl⟩
  case startRefused => exact fun x s c h hc => by rw [exec_ringSetStart, ringSetStartEff_refused h hc]; rfl
  case cause =>
    intro x p s
    refine ⟨State.startCause_none_iff, ?state, ?bases, ?sizes, ?partition, ?master, ?pasid⟩
    case state => exact fun hs => by rw [State.startCause_order, if_pos hs]
    case bases => exact fun hs hb => by rw [State.startCause_order, if_neg (not_not.2 hs), if_pos hb]
    case sizes => exact fun hs hb hz => by simp [State.startCause_order, hs, hb, hz]
    case partition => exact fun hs hb hz he => by simp [State.startCause_order, hs, hb, hz, he]
    case master => exact fun hs hb hz he hm => by simp [State.startCause_order, hs, hb, hz, he, hm]
    case pasid => exact fun hs hb hz he hm hp => by simp [State.startCause_order, hs, hb, hz, he, hm, hp]
  case stopFaulted => exact fun x s h hr => by rw [exec_ringSetStop, ringSetStopEff_faulted h hr]
  case stop =>
    intro x s h hr ho
    refine ⟨_, by rw [exec_ringSetStop, ringSetStopEff_running h hr ho], ?_, ?_, ?_, ?_, ?_⟩
    · rw [State.setF_rsState (HPC_RSCMD_BUSY_off State.rsIdx_lt), State.rsState_congr State.setStop_reg,
        State.stopRing_rsState hr ho State.rsIdx_lt]
    · exact State.on_setF_one rfl (by simp only [F.HPC_RSCMD_BUSY]; decide)
    · rw [State.setF_queue, State.setStop_queue, State.stopRing_queue hr ho]
    · rw [State.setF_stopIdx, State.stopIdx_setStop]
    · intro b hb
      rw [State.setF_ptx, State.setStop_ptx, State.stopRing_running hr ho] at hb
      exact eq_false (State.endSubs_gone hb)
  case stopped => exact fun x p s h ho => by rw [exec_ringSetStopped, ringSetStoppedEff_stopping h ho]
  case fault =>
    intro x p errc s h he
    refine ⟨_, by rw [exec_ringSetFault, ringSetFaultEff_active h he], State.ringFault_rsState p.isLt, ?_, ?_,
      State.ringFault_queue, ?_, ?_⟩
    · rw [State.ringFault_ring]
    · rw [State.ringFault_ring, State.dropRing_ops]
    · exact (SameMem.refl.ringFault).mem0
    · exact (SameMem.refl.ringFault).mem1

end Sys2Proof.Machine
end

section
namespace Sys2Proof.Machine

/-! ## Completion entries (R154, R161) -/

variable {s : State} {x : HPort} {p id status epoch : Nat} {r0 r1 : Word} {o : Op} {os : List Op}

/-! ### Writes of host memory -/

/-- A write of a ring set that succeeds puts its bytes into host memory. -/
theorem State.dmaWrite_ok {a : Nat} {data : List Byte} (hd : data ≠ []) (h : s.dmaOk x a data.length = true) :
    s.dmaWrite x p a data =
      (true, (s.emit (.memWrite x (s.pasid x p) a data)).setHmem x (Store.putList byteZero (s.hmem x) a data)) := by
  rw [State.dmaWrite, if_neg hd, if_pos h]

/-- The bytes that a ring set wrote are read back. -/
theorem State.memBytes_dmaWrite {a : Nat} {data : List Byte} (hd : data ≠ []) (h : s.dmaOk x a data.length = true) :
    (s.dmaWrite x p a data).2.memBytes x a data.length = data := by
  rw [State.dmaWrite_ok hd h, State.memBytes, State.hmem_setHmem, Store.getList_putList]

theorem State.setRing_dmaOk {r : RingSet} {a n : Nat} : (s.setRing x p r).dmaOk x a n = s.dmaOk x a n := by cases x <;> rfl

theorem SameMem.hmem {t : State} (h : SameMem s t) : t.hmem x = s.hmem x := by
  cases x
  · exact h.mem0
  · exact h.mem1

/-! ### One entry -/

/-- A note of completion entries changes no more of the ring set than the vector's ARM bit and its timer (R170). -/
theorem State.noteEntries_cpl_ring :
    ∃ a d, (s.noteEntries x p .cpl).ring x p = { s.ring x p with armCpl := a, dueCpl := d } := by
  unfold State.noteEntries State.fireVec
  dsimp only
  split
  · split
    · exact ⟨false, false, by rw [State.msix_ring, State.ring_setRing_same]; rfl⟩
    · exact ⟨_, _, rfl⟩
  · exact ⟨_, true, by rw [State.ring_setRing_same]; rfl⟩

/-- The 16 bytes of the completion entry of command `o` in a ring set whose phase is as given (R161). -/
def cplEntry (phase : Bool) (o : Op) : List Byte :=
  wordsBytes [o.desc.w1, wd (ofBool phase * 2 ^ 31 + o.status % 256 * 2 ^ 16 + o.epoch % 65536), o.r0, o.r1]

theorem cplEntry_length {phase : Bool} : (cplEntry phase o).length = 16 := rfl

/-- The ring set once the entry of its oldest command is written: the slot is free, and the producer index is past the entry. -/
def RingSet.afterCpl (r : RingSet) : RingSet :=
  { r with
    ops := r.ops.drop 1
    cplPi := if r.cplPi + 1 = r.cplN then 0 else r.cplPi + 1
    cplPhase := if r.cplPi + 1 = r.cplN then !r.cplPhase else r.cplPhase }

/-- The oldest command's entry is written, and its slot is freed. -/
def State.cplWritten (s : State) (x : HPort) (p : Nat) (o : Op) : State :=
  ((s.dmaWrite x p ((s.ring x p).cplB + 16 * (s.ring x p).cplPi) (cplEntry (s.ring x p).cplPhase o)).2.setRing x p
    (s.ring x p).afterCpl).noteEntries x p .cpl

theorem State.writeCpl_ok (h : s.dmaOk x ((s.ring x p).cplB + 16 * (s.ring x p).cplPi) 16 = true) :
    s.writeCpl x p o = (true, s.cplWritten x p o) := by
  have hw := State.dmaWrite_ok (s := s) (x := x) (p := p) (data := cplEntry (s.ring x p).cplPhase o) (by rintro ⟨⟩) h
  rw [State.cplWritten, hw]
  rw [cplEntry] at hw
  simp only [State.writeCpl, hw]
  rfl

theorem State.cplWritten_ring :
    ∃ a d, (s.cplWritten x p o).ring x p = { (s.ring x p).afterCpl with armCpl := a, dueCpl := d } := by
  obtain ⟨a, d, e⟩ := State.noteEntries_cpl_ring (s := (s.dmaWrite x p ((s.ring x p).cplB + 16 * (s.ring x p).cplPi)
    (cplEntry (s.ring x p).cplPhase o)).2.setRing x p (s.ring x p).afterCpl) (x := x) (p := p)
  exact ⟨a, d, by rw [State.cplWritten, e, State.ring_setRing_same]⟩

/-- The entry's bytes are the only ones written. -/
theorem State.cplWritten_sameMem :
    SameMem (s.dmaWrite x p ((s.ring x p).cplB + 16 * (s.ring x p).cplPi) (cplEntry (s.ring x p).cplPhase o)).2
      (s.cplWritten x p o) :=
  SameMem.refl.setRing.noteEntries

theorem State.cplWritten_memBytes (h : s.dmaOk x ((s.ring x p).cplB + 16 * (s.ring x p).cplPi) 16 = true) :
    (s.cplWritten x p o).memBytes x ((s.ring x p).cplB + 16 * (s.ring x p).cplPi) 16 = cplEntry (s.ring x p).cplPhase o := by
  rw [State.memBytes, State.cplWritten_sameMem.hmem]
  exact State.memBytes_dmaWrite (data := cplEntry (s.ring x p).cplPhase o) (by rintro ⟨⟩) h

theorem State.cplWritten_memByte {y : HPort} {b : Nat} (h : y ≠ x ∨ b < (s.ring x p).cplB + 16 * (s.ring x p).cplPi ∨
      (s.ring x p).cplB + 16 * (s.ring x p).cplPi + 16 ≤ b) : (s.cplWritten x p o).memByte y b = s.memByte y b := by
  rw [State.cplWritten_sameMem.memByte, State.memByte_dmaWrite_other (by rwa [cplEntry_length])]

/-! ### The end of the oldest command -/

/-- A ring set whose oldest command is still at work writes no entry. -/
theorem State.drain_busy {n : Nat} (h : ∀ o ∈ (s.ring x p).ops, o.st ≠ .done) : s.drain x p n = s := by
  cases n with
  | zero => rfl
  | succ n =>
    unfold State.drain
    split
    · next o os e => rw [if_neg (h o (by rw [e]; exact List.mem_cons_self))]
    · rfl

/-- Ending one command leaves the record of the others as it is. -/
theorem finishOp_others (h : ∀ q ∈ os, q.id ≠ id) : finishOp id status epoch r0 r1 os = os := by
  rw [finishOp, List.map_congr_left (fun q hq => if_neg (h q hq)), List.map_id']

/-- A command that has ended with a status and two result words under an epoch. -/
def Op.ended (o : Op) (status epoch : Nat) (r0 r1 : Word) : Op :=
  { o with st := .done, status := status, epoch := epoch, r0 := r0, r1 := r1 }

theorem finishOp_oldest (ho : o.id = id) (h : ∀ q ∈ os, q.id ≠ id) :
    finishOp id status epoch r0 r1 (o :: os) = o.ended status epoch r0 r1 :: os := by
  have e : finishOp id status epoch r0 r1 (o :: os) = o.ended status epoch r0 r1 :: finishOp id status epoch r0 r1 os := by
    simp [finishOp, ho, Op.ended]
  rw [e, finishOp_others h]

/-- The ring set holds the commands given. -/
def State.withOps (s : State) (x : HPort) (p : Nat) (os : List Op) : State := s.setRing x p { s.ring x p with ops := os }

theorem State.withOps_ring : (s.withOps x p os).ring x p = { s.ring x p with ops := os } := State.ring_setRing_same

theorem State.withOps_sameMem : SameMem s (s.withOps x p os) := SameMem.refl.setRing

/-- The oldest command ends, and none behind it has ended before: one entry is written. -/
theorem State.complete_oldest (he : (s.ring x p).ops = o :: os) (ho : o.id = id)
    (hq : ∀ q ∈ os, q.st ≠ .done ∧ q.id ≠ id)
    (hd : (s.withOps x p (o.ended status epoch r0 r1 :: os)).dmaOk x ((s.ring x p).cplB + 16 * (s.ring x p).cplPi) 16 = true) :
    s.complete x p id status epoch r0 r1 =
      (s.withOps x p (o.ended status epoch r0 r1 :: os)).cplWritten x p (o.ended status epoch r0 r1) := by
  have hu : s.setRing x p { s.ring x p with ops := o.ended status epoch r0 r1 :: os } =
    s.withOps x p (o.ended status epoch r0 r1 :: os) := rfl
  have hr := State.withOps_ring (s := s) (x := x) (p := p) (os := o.ended status epoch r0 r1 :: os)
  rw [State.complete, he, finishOp_oldest ho (fun q h => (hq q h).2), hu, List.length_cons]
  generalize s.withOps x p (o.ended status epoch r0 r1 :: os) = u at hr hd
  have hw := State.writeCpl_ok (s := u) (x := x) (p := p) (o := o.ended status epoch r0 r1) (by rw [hr]; exact hd)
  obtain ⟨a, d, e⟩ := State.cplWritten_ring (s := u) (x := x) (p := p) (o := o.ended status epoch r0 r1)
  have hdone : (o.ended status epoch r0 r1).st = .done := rfl
  rw [State.drain]
  simp only [hr, hdone, if_true, hw]
  refine State.drain_busy fun q h => ?_
  rw [e, RingSet.afterCpl, hr] at h
  exact (hq q h).1

/-- Settles O21. -/
theorem completionsAndEntries : Obligations.CompletionsAndEntries := by
  intro x p id status epoch r0 r1 o os s he ho hall hd
  have hq : ∀ q ∈ os, q.st ≠ .done ∧ q.id ≠ id := by simpa using hall
  have hok : (s.withOps x p (o.ended status epoch r0 r1 :: os)).dmaOk x ((s.ring x p).cplB + 16 * (s.ring x p).cplPi) 16 =
      true := State.setRing_dmaOk.trans hd
  have hm := State.withOps_sameMem (s := s) (x := x) (p := p) (os := o.ended status epoch r0 r1 :: os)
  have hr := State.withOps_ring (s := s) (x := x) (p := p) (os := o.ended status epoch r0 r1 :: os)
  dsimp only
  rw [State.complete_oldest he ho hq hok]
  generalize s.withOps x p (o.ended status epoch r0 r1 :: os) = u at hr hok hm
  obtain ⟨a, d, e⟩ := State.cplWritten_ring (s := u) (x := x) (p := p) (o := o.ended status epoch r0 r1)
  refine ⟨?entry, ?slot, ?index, ?phase, ?otherBytes, ?otherPort⟩
  case entry =>
    have hb := State.cplWritten_memBytes (s := u) (x := x) (p := p) (o := o.ended status epoch r0 r1) (by rw [hr]; exact hok)
    rw [hr] at hb
    exact hb
  case slot => rw [e, hr]; rfl
  case index => rw [e, hr]; rfl
  case phase => rw [e, hr]; rfl
  case otherBytes =>
    intro b hb
    rw [State.cplWritten_memByte (.inr (by rw [hr]; exact hb)), hm.memByte]
  case otherPort =>
    intro b
    rw [State.cplWritten_memByte (.inl (by cases x <;> nofun)), hm.memByte]

end Sys2Proof.Machine
end

section
namespace Sys2Proof.Machine

/-! ## Staging registers and the loss of a host port (R128, R131, R138, R172, R175, R176) -/

variable {s : State} {x : HPort} {p o : Nat}

/-! ### WR and RD of the staging set -/

theorem exec_ringSetCommit : exec (.ringSetCommit x) s = .next (ringSetCommitEff x s) := rfl

theorem exec_ringSetReadBack : exec (.ringSetReadBack x) s = .next (ringSetReadBackEff x s) := rfl

theorem ringSetCommitEff_stopped (h : s.on (F.HPC_RSCMD_BUSY x.num) = false) (hs : s.rsState x (s.rsIdx x) = 0) :
    ringSetCommitEff x s = s.setRing x (s.rsIdx x) { s.ring x (s.rsIdx x) with
      cmdB := s.stagedBase (Reg.HPC_CMDBL x.num) (Reg.HPC_CMDBH x.num)
      cplB := s.stagedBase (Reg.HPC_CPLBL x.num) (Reg.HPC_CPLBH x.num)
      evtB := s.stagedBase (Reg.HPC_EVTBL x.num) (Reg.HPC_EVTBH x.num)
      rxB := s.stagedBase (Reg.HPC_RXBL x.num) (Reg.HPC_RXBH x.num)
      size := s.reg (Reg.HPC_RSSIZE x.num)
      cfg := s.reg (Reg.HPC_RSCFG x.num)
      hold := s.reg (Reg.HPC_RXHOLD x.num) } := by
  simp only [ringSetCommitEff, State.unlessBusy_idle h, hs]
  rfl

theorem ringSetCommitEff_refused (h : s.on (F.HPC_RSCMD_BUSY x.num) = false) (hs : s.rsState x (s.rsIdx x) ≠ 0) :
    ringSetCommitEff x s = s.rsRefuse x 3 := by
  simp [ringSetCommitEff, State.unlessBusy_idle h, hs]

/-- While BUSY is 1, no command of HPC_RSCMDx does more than set BADVAL (R175). -/
theorem rsCommands_busy (h : s.on (F.HPC_RSCMD_BUSY x.num) = true) :
    ringSetCommitEff x s = s.badVal ∧ ringSetReadBackEff x s = s.badVal ∧ ringSetStartEff x s = s.badVal ∧
      ringSetStopEff x s = s.badVal :=
  ⟨State.unlessBusy_busy h, State.unlessBusy_busy h, State.unlessBusy_busy h, State.unlessBusy_busy h⟩

theorem State.reg_setReg {off : Nat} {v : Word} : (s.setReg off v).reg o = if o = off then v else s.reg o := by
  split
  · next h => rw [h, State.reg_setReg_same]
  · next h => exact State.reg_setReg_other h

theorem State.stageBase_reg {lo hi n : Nat} :
    (s.stageBase lo hi n).reg o = if o = hi then wd (n / 2 ^ 32) else if o = lo then wd (n % 2 ^ 32) else s.reg o := by
  rw [State.stageBase, State.reg_setReg, State.reg_setReg]

theorem State.stageBase_host {lo hi n : Nat} : (s.stageBase lo hi n).host = s.host := rfl

theorem ringSetReadBackEff_shows (h : s.on (F.HPC_RSCMD_BUSY x.num) = false) :
    (ringSetReadBackEff x s).reg (Reg.HPC_RSSIZE x.num) = (s.ring x (s.rsIdx x)).size ∧
      (ringSetReadBackEff x s).reg (Reg.HPC_RSCFG x.num) = (s.ring x (s.rsIdx x)).cfg ∧
      (ringSetReadBackEff x s).reg (Reg.HPC_RXHOLD x.num) = (s.ring x (s.rsIdx x)).hold ∧
      (ringSetReadBackEff x s).reg (Reg.HPC_CMDBL x.num) = wd ((s.ring x (s.rsIdx x)).cmdB % 2 ^ 32) ∧
      (ringSetReadBackEff x s).host = s.host := by
  simp [ringSetReadBackEff, State.unlessBusy_idle h, State.reg_setReg, State.stageBase_reg, State.stageBase_host, Reg.HPC_RSSIZE,
    Reg.HPC_RSCFG, Reg.HPC_RXHOLD, Reg.HPC_CMDBL, Reg.HPC_CMDBH, Reg.HPC_CPLBL, Reg.HPC_CPLBH, Reg.HPC_EVTBL, Reg.HPC_EVTBH,
    Reg.HPC_RXBL, Reg.HPC_RXBH]

/-! ### The function's configuration -/

theorem State.setPend_sinks {v : Nat} {b : Bool} : s.setPend x v b = s.withSinks (s.setPend x v b) := by cases x <;> rfl

theorem State.unpend_sinks : s.unpend x = s.withSinks (s.unpend x) := by
  unfold State.unpend
  generalize s.pba x = l
  induction l generalizing s with
  | nil => exact State.withSinks_self.symm
  | cons e l ih =>
    rw [List.foldl_cons]
    split
    · exact ih
    · exact State.sinks_chain (State.sinks_chain State.setPend_sinks State.msix_sinks) ih

theorem State.unpend_pci {y : HPort} : (s.unpend x).pci y = s.pci y := by
  rw [State.unpend_sinks]; cases y <;> rfl

theorem State.unpend_rings : (s.unpend x).host.rings = s.host.rings := by
  rw [State.unpend_sinks]; rfl

theorem State.setPci_pci {c : PciCfg} : (s.setPci x c).pci x = c := by
  cases x <;> exact State.unpend_pci

theorem State.setPci_pci_other {c : PciCfg} : (s.setPci x c).pci x.other = s.pci x.other := by
  cases x <;> exact State.unpend_pci

theorem State.setPci_rings {c : PciCfg} : (s.setPci x c).host.rings = s.host.rings := by
  cases x <;> exact State.unpend_rings

theorem State.resetPci_pci : (s.resetPci x).pci x = PciCfg.reset := by cases x <;> rfl

/-- The command word of the configuration space holds Bus Master Enable (log 40). -/
theorem exec_registerWrite_command {v : Word} :
    exec (.registerWrite x 0x1010004 4 v) s = .next (s.setPci x { s.pci x with busMaster := bitOf v.toNat 2 }) := rfl

/-! ### What a port loses (R131) -/

/-- An iteration that establishes a fact, that later iterations keep, under a condition that all of them keep. -/
theorem forUpto_establishes {σ : Type} {P Q : σ → Prop} {n i : Nat} {s : σ} {f : Nat → σ → σ} (hi : i < n) (h : P s)
    (hP : ∀ j u, P u → P (f j u)) (hQ : ∀ u, P u → Q (f i u)) (keep : ∀ j u, j ≠ i → Q u → Q (f j u)) : Q (forUpto n s f) := by
  induction n with
  | zero => exact absurd hi (Nat.not_lt_zero i)
  | succ n ih =>
    rw [forUpto_succ]
    by_cases e : n = i
    · subst e
      exact hQ _ (forUpto_induction h hP)
    · exact keep n _ e (ih (by omega))

/-- One ring set of a lost port goes to STOPPED. -/
def State.dropOne (s : State) (x : HPort) (p : Nat) : State :=
  if s.rsState x p = 0 && (s.ring x p).ops = [] then s else (s.dropRing x p).setRs x p 0

theorem State.dropPort_eq : s.dropPort x = forUpto 128 s (fun p t => t.dropOne x p) := rfl

theorem State.dropOne_rsState : (s.dropOne x p).rsState x p = 0 := by
  unfold State.dropOne
  split
  · next h => simp only [Bool.and_eq_true, decide_eq_true_eq] at h; exact h.1
  · exact State.setRs_rsState

theorem State.dropOne_rsState_other {q : Nat} (h : q ≠ p) (hq : q < 128) : (s.dropOne x p).rsState x q = s.rsState x q := by
  unfold State.dropOne
  split
  · rfl
  · rw [State.setRs_rsState_other h, State.rsState_congr (State.dropRing_reg (rsField_lt hq))]

theorem State.dropPort_rsState (hp : p < 128) : (s.dropPort x).rsState x p = 0 := by
  rw [State.dropPort_eq]
  exact forUpto_establishes (P := fun _ => True) (Q := fun t : State => t.rsState x p = 0) hp trivial (fun _ _ _ => trivial)
    (fun _ _ => State.dropOne_rsState) (fun _ _ hj h => (State.dropOne_rsState_other hj.symm hp).trans h)

theorem State.foldl_resetReg {offs : List Nat} (h : o ∉ offs) :
    (offs.foldl (fun t off => t.setReg off (Reg.resetVal t.variant off)) s).reg o = s.reg o := by
  induction offs generalizing s with
  | nil => rfl
  | cons off offs ih =>
    rw [List.mem_cons, not_or] at h
    rw [List.foldl_cons, ih h.2, State.reg_setReg_other h.1]

theorem State.resetStaging_reg (h : 0x70200 ≤ o) (k : o < 0x70240) : (s.resetStaging x).reg o = s.reg o := by
  refine State.foldl_resetReg ?_
  simp only [List.mem_cons, List.not_mem_nil, or_false, Reg.HPC_RSIDX, Reg.HPC_CMDBL, Reg.HPC_CMDBH, Reg.HPC_CPLBL, Reg.HPC_CPLBH,
    Reg.HPC_EVTBL, Reg.HPC_EVTBH, Reg.HPC_RXBL, Reg.HPC_RXBH, Reg.HPC_RSSIZE, Reg.HPC_RSCFG, Reg.HPC_RXHOLD, Reg.HPC_RSCMD,
    Reg.HPC_UVEN]
  cases x <;> simp only [HPort.num] <;> omega

theorem State.clearSnaps_reg (h : o < 0x80000) : (s.clearSnaps x).reg o = s.reg o := by
  have e : (s.clearSnaps x).reg o = (s.setReg (Reg.RSR_CNTH x.num) 0).reg o := by cases x <;> exact State.reg_congr rfl rfl
  rw [e, State.reg_setReg_other (by simp only [Reg.RSR_CNTH]; omega)]

theorem State.setCan_reg {c : CanSt} : (s.setCan c).reg o = s.reg o := State.reg_congr rfl rfl

theorem State.settleLock_reg {k b : Nat} (h : o < 0x80000) : (s.settleLock k b).reg o = s.reg o := by
  have hb : o ≠ Reg.CAN_MBST k b := by simp only [Reg.CAN_MBST]; omega
  have hf : ∀ {t : State} {f : Fld} {n : Nat}, f.off = Reg.CAN_MBST k b → (t.setF f n).reg o = t.reg o :=
    fun e => State.reg_setF_other (e ▸ hb)
  unfold State.settleLock
  dsimp only
  split
  · exact hf rfl
  · rw [hf rfl, hf rfl, hf rfl, State.setCan_reg, hf rfl]

theorem State.releaseMailbox_reg (h : o < 0x80000) : (s.releaseMailbox x).reg o = s.reg o := by
  unfold State.releaseMailbox
  split
  · rfl
  · rw [State.settleLock_reg h, State.setCan_reg]

theorem State.portLoss_rsState (hp : p < 128) : (s.portLoss x).rsState x p = 0 := by
  obtain ⟨hlo, hhi⟩ := rsField_range (x := x) hp
  have hl := rsField_lt (x := x) hp
  have h : (s.portLoss x).reg (rsField x p).off = (s.dropPort x).reg (rsField x p).off := by
    rw [State.portLoss, State.releaseMailbox_reg hl, State.clearSnaps_reg hl, State.resetStaging_reg hlo hhi, State.setStop_reg]
  exact (State.rsState_congr h).trans (State.dropPort_rsState hp)

/-! ### Leases (R138) -/

/-- The lease of one cell starts where the port holds it. -/
def State.leaseOne (s : State) (x : HPort) (i : Nat) : State :=
  if s.on (F.SEM_CELL_HELD i) && s.cellPort i = x then s.setF (F.SEM_CELL_LEASE i) 1 else s

/-- The port holds the cell. -/
def State.holdsCell (s : State) (x : HPort) (i : Nat) : Prop := s.on (F.SEM_CELL_HELD i) = true ∧ s.cellPort i = x

/-- Starting the lease of a cell leaves the other cells and the other fields of this one. -/
theorem State.leaseOne_on {j : Nat} {f : Fld} (h : f.off ≠ Reg.SEM_CELL j ∨ f.hi < 29 ∨ 29 < f.lo) :
    (s.leaseOne x j).on f = s.on f := by
  unfold State.leaseOne
  split
  · exact State.on_setF_other (Nat.le_refl 29) (by simp only [F.SEM_CELL_LEASE]; decide) h
  · rfl

theorem State.leaseOne_holdsCell {i j : Nat} (h : s.holdsCell x i) : (s.leaseOne x j).holdsCell x i := by
  have hport : (s.leaseOne x j).on (F.SEM_CELL_PORT i) = s.on (F.SEM_CELL_PORT i) :=
    State.leaseOne_on (.inr (.inr (by simp only [F.SEM_CELL_PORT]; decide)))
  have hheld : (s.leaseOne x j).on (F.SEM_CELL_HELD i) = s.on (F.SEM_CELL_HELD i) :=
    State.leaseOne_on (.inr (.inr (by simp only [F.SEM_CELL_HELD]; decide)))
  rw [State.holdsCell, State.cellPort, hport, hheld]
  exact h

theorem State.leaseOne_leased {i : Nat} (h : s.holdsCell x i) : (s.leaseOne x i).on (F.SEM_CELL_LEASE i) = true := by
  rw [State.leaseOne, if_pos (by simpa [State.holdsCell] using h)]
  exact State.on_setF_one rfl (by simp only [F.SEM_CELL_LEASE]; decide)

theorem State.startLeases_leased {i : Fin 64} (h : s.holdsCell x i) : (s.startLeases x).on (F.SEM_CELL_LEASE i) = true :=
  forUpto_establishes (f := fun j t => t.leaseOne x j) (P := fun t => t.holdsCell x i)
    (Q := fun t : State => t.on (F.SEM_CELL_LEASE i) = true) i.isLt h (fun _ _ => State.leaseOne_holdsCell)
    (fun _ => State.leaseOne_leased)
    (fun _ _ hj hl => (State.leaseOne_on (.inl (Reg.SEM_CELL_inj hj.symm))).trans hl)

/-! ### Links and resets -/

theorem exec_hostLinkUp {speed width : Nat} {cfg : PciCfg} :
    exec (.hostLinkUp x speed width cfg) s = .next (hostLinkUpEff x speed width cfg s) := rfl

theorem exec_hostLinkDown : exec (.hostLinkDown x) s = .next (hostLinkDownEff x s) := rfl

theorem exec_fundamentalReset : exec (.fundamentalReset x) s = .next (fundamentalResetEff x s) := rfl

theorem hostLinkUpEff_up {speed width : Nat} {cfg : PciCfg} (h : ¬ (x = .hp1 ∧ s.on F.UPD_STAT_WHITEOUT = true)) :
    hostLinkUpEff x speed width cfg s =
      (((((s.setF (F.HPC_PSTAT_LINK x.num) 1).setF (F.HPC_PSTAT_SPEED x.num) speed).setF (F.HPC_PSTAT_WIDTH x.num) width).report
        0x0702 0 (wd x.num) (wd (speed % 8)) (wd (width % 8))).setPci x cfg) := by
  rw [hostLinkUpEff, if_neg (by simpa using h)]

theorem hostLinkUpEff_whiteout {speed width : Nat} {cfg : PciCfg} (h : s.on F.UPD_STAT_WHITEOUT = true) :
    hostLinkUpEff .hp1 speed width cfg s = s := by
  rw [hostLinkUpEff, if_pos (by simp [h])]

theorem hostLinkDownEff_up (h : s.on (F.HPC_PSTAT_LINK x.num) = true) : hostLinkDownEff x s = s.linkFalls x := if_pos h

theorem hostLinkDownEff_down (h : s.on (F.HPC_PSTAT_LINK x.num) = false) : hostLinkDownEff x s = s :=
  if_neg (Bool.eq_false_iff.1 h)

theorem fundamentalResetEff_up (h : s.on (F.HPC_PSTAT_LINK x.num) = true) :
    fundamentalResetEff x s = (s.linkFalls x).resetPci x := by
  rw [fundamentalResetEff, if_pos h]

theorem fundamentalResetEff_down (h : s.on (F.HPC_PSTAT_LINK x.num) = false) :
    fundamentalResetEff x s = (s.portLoss x).resetPci x := by
  rw [fundamentalResetEff, if_neg (Bool.eq_false_iff.1 h)]

/-- Settles O12. -/
theorem ringSetStagingAndHostLinks : Obligations.RingSetStagingAndHostLinks := by
  refine ⟨?commit, ?commitRefused, ?readBack, ?busy, ?linkUp, ?whiteout, ?function, ?linkDown, ?alreadyDown, ?loss, ?leases,
    ?flr, ?reset, ?resetDown, ?pciReset, ?d3hot, ?stop, ?busMaster⟩
  case commit => exact fun x s h hs => by rw [exec_ringSetCommit, ringSetCommitEff_stopped h hs]
  case commitRefused => exact fun x s h hs => by rw [exec_ringSetCommit, ringSetCommitEff_refused h hs]; rfl
  case readBack => exact fun x s h => ⟨_, exec_ringSetReadBack, ringSetReadBackEff_shows h⟩
  case busy =>
    intro x s h
    obtain ⟨hc, hr, hs, ht⟩ := rsCommands_busy h
    rw [exec_ringSetCommit, exec_ringSetReadBack, exec_ringSetStart, exec_ringSetStop, hc, hr, hs, ht]
    exact ⟨rfl, rfl, rfl, rfl⟩
  case linkUp => exact fun x speed width cfg s h => by rw [exec_hostLinkUp, hostLinkUpEff_up (of_eq_false h)]
  case whiteout => exact fun speed width cfg s h => by rw [exec_hostLinkUp, hostLinkUpEff_whiteout h]
  case function => exact fun x cfg s => ⟨State.setPci_pci, State.setPci_pci_other, State.setPci_rings⟩
  case linkDown => exact fun x s h => by rw [exec_hostLinkDown, hostLinkDownEff_up h]; rfl
  case alreadyDown => exact fun x s h => by rw [exec_hostLinkDown, hostLinkDownEff_down h]
  case loss => exact fun x p s => ⟨State.portLoss_rsState p.isLt, SameMem.refl.portLoss.mem0, SameMem.refl.portLoss.mem1⟩
  case leases => exact fun x i s h hx => State.startLeases_leased ⟨h, hx⟩
  case flr => exact fun x s => rfl
  case reset => exact fun x s h => by rw [exec_fundamentalReset, fundamentalResetEff_up h]; rfl
  case resetDown => exact fun x s h => by rw [exec_fundamentalReset, fundamentalResetEff_down h]
  case pciReset => exact fun x s => State.resetPci_pci
  case d3hot => exact fun x s => rfl
  case stop =>
    intro x p s
    refine ⟨fun h => ?_, fun h ho => State.stopRing_rsState h ho p.isLt, State.stopRing_stopped⟩
    rw [State.stopRing_faulted h, State.setRs_rsState]
  case busMaster => exact fun x v s => exec_registerWrite_command

end Sys2Proof.Machine
end

section
namespace Sys2Proof.Machine

/-! ## Doorbells, command fetch and receive delivery (R134, R147 to R150, R164 to R170) -/

variable {s : State} {x : HPort} {p : Part} {v : Word} {mem : HostMem}

/-! ### Doorbells -/

theorem exec_cmdPiWrite : exec (.cmdPiWrite x p v mem) s = .next (cmdPiWriteEff x p v mem s) := rfl

theorem exec_rxPiWrite : exec (.rxPiWrite x p v mem) s = .next (rxPiWriteEff x p v mem s) := rfl

theorem exec_cplCiWrite : exec (.cplCiWrite x p v) s = .next (cplCiWriteEff x p v s) := rfl

theorem exec_evtCiWrite : exec (.evtCiWrite x p v) s = .next (evtCiWriteEff x p v s) := rfl

theorem exec_armWrite : exec (.armWrite x p v) s = .next (armWriteEff x p v s) := rfl

/-- A producer index of commands is taken or counted, once the host's own stores are visible (R148, R149). -/
theorem cmdPiWriteEff_eq :
    cmdPiWriteEff x p v mem s =
      if (s.hostStores x mem).dbOk x p ((s.hostStores x mem).ring x p).cmdN v then
        (s.hostStores x mem).setRing x p { (s.hostStores x mem).ring x p with cmdPi := v.toNat }
      else (s.hostStores x mem).dbErr x p := rfl

/-- A producer index of receive buffers is taken or counted, once the host's own stores are visible (R148, R149). -/
theorem rxPiWriteEff_eq :
    rxPiWriteEff x p v mem s =
      if (s.hostStores x mem).dbOk x p ((s.hostStores x mem).ring x p).rxN v then
        (s.hostStores x mem).setRing x p { (s.hostStores x mem).ring x p with rxPi := v.toNat }
      else (s.hostStores x mem).dbErr x p := rfl

theorem cplCiWriteEff_eq :
    cplCiWriteEff x p v s =
      if s.dbOk x p (s.ring x p).cplN v then s.setRing x p { s.ring x p with cplCi := v.toNat } else s.dbErr x p := rfl

theorem evtCiWriteEff_eq :
    evtCiWriteEff x p v s =
      if s.dbOk x p (s.ring x p).evtN v then (s.setRing x p { s.ring x p with evtCi := v.toNat }).lostEntry x p
      else s.dbErr x p := rfl

/-! ### Command fetch -/

theorem exec_commandFetch : exec (.commandFetch x p) s = .next (commandFetchEff x p s) := rfl

theorem commandFetchEff_next (hp : (s.ring x p).ops.any (fun o => o.st = .passed) = false) (h : s.mayFetch x p = true) :
    commandFetchEff x p s = s.fetchNext x p := by
  simp [commandFetchEff, hp, h]

theorem commandFetchEff_passed (hr : s.rsRunning x p = true) (he : s.enabled p = true)
    (hp : (s.ring x p).ops.any (fun o => o.st = .passed) = true) (hf : s.stagingFull x p = false) :
    commandFetchEff x p s = s.setRing x p { s.ring x p with ops := fetchPassed (s.ring x p).ops } := by
  simp only [commandFetchEff, hr, he, hp, hf, Bool.not_false, Bool.and_self, if_true]

/-- The next command of the ring is known and transmits nothing: it is fetched whatever the staging queue holds. -/
theorem State.fetchNext_fetched {t : State} {bs : List Byte}
    (hd : s.dmaRead x p ((s.ring x p).cmdB + 32 * (s.ring x p).cmdCi) 32 = (some bs, t)) (hk : (descOf bs).known = true)
    (ht : (descOf bs).transmits = false) :
    s.fetchNext x p = ((if (s.ring x p).slots = 0 then t else t.setTurn x p).setRing x p { s.ring x p with
      ops := (s.ring x p).ops ++
        [{ id := (s.ring x p).nextOp, desc := descOf bs, st := .fetched, status := St.badDesc, epoch := s.epoch, r0 := 0, r1 := 0 }]
      nextOp := (s.ring x p).nextOp + 1
      cmdCi := if (s.ring x p).cmdCi + 1 = (s.ring x p).cmdN then 0 else (s.ring x p).cmdCi + 1 }).drain x p
        ((s.ring x p).ops.length + 1) := by
  simp [State.fetchNext, hd, hk, ht]

/-! ### Receive delivery and interrupts -/

theorem exec_receiveFrameDelivery : exec (.receiveFrameDelivery x p) s = .next (s.deliverHead x p) := rfl

theorem exec_receiveHoldExpiry : exec (.receiveHoldExpiry x p) s = .next (receiveHoldExpiryEff x p s) := rfl

theorem exec_interruptCoalescingExpiry {k : RingVec} :
    exec (.interruptCoalescingExpiry x p k) s = .next (interruptCoalescingExpiryEff x p k s) := rfl

variable {k : Pkt} {ks : List Pkt}

theorem receiveHoldExpiryEff_lacking (hq : s.queue (rxQueue x p) = k :: ks) (hh : (s.ring x p).holding = true)
    (hn : (s.ring x p).rxFree < (s.ring x p).need k) :
    receiveHoldExpiryEff x p s = (s.dropHead x p 1).headArrives x p ((s.dropHead x p 1).queue (rxQueue x p)).length := by
  simp [receiveHoldExpiryEff, hq, hh, hn]

/-- Settles O14. -/
theorem doorbellsFetchAndDelivery : Obligations.DoorbellsFetchAndDelivery := by
  refine ⟨?producers, ?consumers, ?arm, ?fetch, ?passed, ?deliver, ?holdOver, ?coalesced⟩
  case producers =>
    intro x p v mem s
    dsimp only
    rw [exec_cmdPiWrite, exec_rxPiWrite, cmdPiWriteEff_eq, rxPiWriteEff_eq]
    exact ⟨fun h => by rw [if_pos h], fun h => by rw [if_neg (Bool.eq_false_iff.1 h)], fun h => by rw [if_pos h],
      fun h => by rw [if_neg (Bool.eq_false_iff.1 h)]⟩
  case consumers =>
    intro x p v s
    rw [exec_cplCiWrite, exec_evtCiWrite, cplCiWriteEff_eq, evtCiWriteEff_eq]
    exact ⟨fun h => by rw [if_pos h], fun h => by rw [if_neg (Bool.eq_false_iff.1 h)], fun h => by rw [if_pos h],
      fun h => by rw [if_neg (Bool.eq_false_iff.1 h)]⟩
  case arm => exact fun x p v s => by rw [exec_armWrite, armWriteEff]
  case fetch =>
    intro x p s t bs hp hm hd hk ht
    rw [exec_commandFetch, commandFetchEff_next hp hm, State.fetchNext_fetched hd hk ht]
  case passed =>
    intro x p s hr he hp hf
    rw [exec_commandFetch, commandFetchEff_passed hr he hp hf]
  case deliver =>
    intro x p k ks s hq hr hn
    rw [exec_receiveFrameDelivery, State.deliverHead, hq]
    have hl : ¬ (s.ring x p).rxFree < (s.ring x p).need k := Nat.not_lt.2 hn
    simp only [hr, hl]
    rfl
  case holdOver =>
    intro x p k ks s hq hh hn
    rw [exec_receiveHoldExpiry, receiveHoldExpiryEff_lacking hq hh hn]
  case coalesced =>
    intro x p k s h
    rw [exec_interruptCoalescingExpiry, interruptCoalescingExpiryEff]
    simp only [h, if_true]

end Sys2Proof.Machine
end

section
namespace Sys2Proof.Machine

/-! ## Forces and snapshots (R159, R160, R280 to R283) -/

variable {s t : State} {x : HPort} {p : Part} {d : Desc} {o : Op} {id : Nat} {f : Force}

/-! ### The bodies on permitted points -/

/-- FORCE_SET of a point that carries no force, with room in the partition's quota and in the table (R280, R282). -/
theorem forceSetBody_sets
    (hf : s.filterWrite p (s.ptTag (fieldOf d.w2 15 0)) Cls.point (fieldOf d.w2 15 0) = St.success)
    (ha : s.active = true) (hd : (s.pt (fieldOf d.w2 15 0)).dir ≠ 0) (hn : s.force (fieldOf d.w2 15 0) = none)
    (hq : s.forceUse p < s.rf (F.PTX_QUOTA_FQ p)) (hl : s.forceList.length < 4096) :
    forceSetBody p d s id =
      (let i := fieldOf d.w2 15 0
       let v := normValue (s.pt i).fmt d.w3
       let f : Force := { owner := p, value := v, torn := false }
       let u := (((s.setForce i (some f)).report 0x0A04 (s.pt i).tag (wd i) (wd p) v).forceChg).audit p (s.pt i).tag Cls.point
        i 0x05
       .done u St.success (wd (u.forceUse p)) 0) := by
  have hq' : ¬ s.rf (F.PTX_QUOTA_FQ p) ≤ s.forceUse p := Nat.not_le.2 hq
  have hl' : ¬ 4096 ≤ s.forceList.length := Nat.not_le.2 hl
  simp [forceSetBody, hf, ha, hd, hn, hq', hl']

theorem forceClrBody_clears (hw : fieldOf d.w2 31 31 = 0)
    (hf : s.filterWrite p (s.ptTag (fieldOf d.w2 15 0)) Cls.point (fieldOf d.w2 15 0) = St.success)
    (ha : s.active = true) (hs : s.force (fieldOf d.w2 15 0) = some f) (ho : p.val = 0 ∨ f.owner = p.val) :
    forceClrBody p d s id = .done (s.clearForce p (fieldOf d.w2 15 0) f) St.success 1 0 := by
  have hp : (p.val != 0 && f.owner != p.val) = false := by
    simpa [or_iff_not_imp_left] using ho
  simp [forceClrBody, hw, hf, ha, hs, hp]

theorem forceClrBody_noForce (hw : fieldOf d.w2 31 31 = 0)
    (hf : s.filterWrite p (s.ptTag (fieldOf d.w2 15 0)) Cls.point (fieldOf d.w2 15 0) = St.success)
    (ha : s.active = true) (hn : s.force (fieldOf d.w2 15 0) = none) :
    forceClrBody p d s id = .done s St.success 0 0 := by
  simp [forceClrBody, hw, hf, ha, hn]

/-- FORCE_CLR with ALL removes the forces that the partition owns (R282). -/
theorem forceClrBody_all (hw : fieldOf d.w2 31 31 = 1) (ha : s.active = true) :
    forceClrBody p d s id =
      .done ((s.forceList.filter (fun e => e.2.owner = p.val)).foldl (fun t e => t.clearForce p e.1 e.2) s) St.success
        (wd (s.forceList.filter (fun e => e.2.owner = p.val)).length) 0 := by
  simp [forceClrBody, hw, ha]

/-- The forces that a partition sees. -/
def State.visibleForces (s : State) (p : Nat) : List (Nat × Force) := s.forceList.filter (fun e => s.canRead p e.1)

theorem forceListBody_writes
    (h : s.dmaWrite x p d.addr (wordsBytes (((s.visibleForces p).take d.len).flatMap
      (fun e => [wd (e.1 + e.2.owner * 2 ^ 16), e.2.value]))) = (true, t)) :
    forceListBody x p d s id =
      .done t St.success (wd ((s.visibleForces p).take d.len).length) (wd (s.visibleForces p).length) := by
  rw [State.visibleForces] at h ⊢
  simp only [forceListBody, h]

/-! ### The rows -/

theorem exec_forceSet : exec (.forceSet x p d) s =
    .next (s.command x p d (d.opcode = 0x05 && !s.inWindow) (d.clean 0xFFFF 0xFFFFFFFF 0 0 0 0) true false
      (forceSetBody p d)) := rfl

theorem exec_forceClr : exec (.forceClr x p d) s =
    .next (s.command x p d (d.opcode = 0x06 && !s.inWindow) (d.clean 0x8000FFFF 0 0 0 0 0) true false (forceClrBody p d)) := rfl

theorem exec_forceList : exec (.forceList x p d) s =
    .next (s.command x p d (d.opcode = 0x07) (d.buf 0 0 0 1 4096) true false (forceListBody x p d)) := rfl

theorem exec_snapshot : exec (.snapshot x p d) s =
    .next (s.command x p d (d.opcode = 0x08)
      (d.clean 0xFFFF 0x1FFFF 0xFFFFFFFF 0xFFFFFFFF 0 0 && d.addr % 8 = 0 && 1 ≤ fieldOf d.w3 16 0
        && fieldOf d.w2 15 0 + fieldOf d.w3 16 0 ≤ 65536) true false (snapshotBody x p d)) := rfl

theorem exec_forceSet_finish (h : s.mayStart x p d o = true) (hd : d.opcode = 0x05) (hw : s.inWindow = false)
    (hc : d.clean 0xFFFF 0xFFFFFFFF 0 0 0 0 = true) :
    exec (.forceSet x p d) s = .next (s.finish (forceSetBody p d (s.started x p o) o.id) x p o) := by
  rw [exec_forceSet, State.command_finishes h (by simp [hd, hw]) hc]

theorem exec_forceClr_finish (h : s.mayStart x p d o = true) (hd : d.opcode = 0x06) (hw : s.inWindow = false)
    (hc : d.clean 0x8000FFFF 0 0 0 0 0 = true) :
    exec (.forceClr x p d) s = .next (s.finish (forceClrBody p d (s.started x p o) o.id) x p o) := by
  rw [exec_forceClr, State.command_finishes h (by simp [hd, hw]) hc]

/-- Settles O23. -/
theorem forcesAndSnapshots : Obligations.ForcesAndSnapshots := by
  refine ⟨?set, ?clear, ?noForce, ?clearAll, ?list, ?snapshot⟩
  case set =>
    intro x p d o s h hd hw hc hf ha hdir hn hq hl
    rw [exec_forceSet_finish h hd hw hc, forceSetBody_sets hf ha hdir hn hq hl]
    rfl
  case clear =>
    intro x p d o s f h hd hw hc h0 hf ha hs ho
    rw [exec_forceClr_finish h hd hw hc, forceClrBody_clears h0 hf ha hs ho, State.finish_done]
  case noForce =>
    intro x p d o s h hd hw hc h0 hf ha hn
    rw [exec_forceClr_finish h hd hw hc, forceClrBody_noForce h0 hf ha hn, State.finish_done]
  case clearAll =>
    intro x p d o s h hd hw hc h1 ha
    rw [exec_forceClr_finish h hd hw hc, forceClrBody_all h1 ha, State.finish_done]
  case list =>
    intro x p d o s t h hd hb hw
    rw [exec_forceList, State.command_finishes h (decide_eq_true hd) hb, forceListBody_writes hw, State.finish_done]
    rfl
  case snapshot =>
    intro x p d o s h hd hc ha h1 hn
    rw [exec_snapshot, State.command_finishes h (decide_eq_true hd) (by simp [hc, ha, h1, hn])]
    rfl

end Sys2Proof.Machine
end

section
namespace Sys2Proof.Machine

/-! ## CFG_LOAD (R157, R158) -/

variable {s t : State} {x : HPort} {p : Part} {d : Desc} {o : Op} {bs : List Byte} {ws : List Word} {ty len id : Nat}

/-- A CFG_LOAD of a TYPE passes the checks of R152, and its image `bs` is read, in `t`, with the CRC-32 of word 7 (R158). -/
structure ImageRead (s : State) (x : HPort) (p : Part) (d : Desc) (o : Op) (ty : Nat) (bs : List Byte) (t : State) : Prop where
  start : s.mayStart x p d o = true
  configure : s.mayConfigure x p = true
  opcode : d.opcode = 0x30
  type : fieldOf d.w2 7 0 = ty
  shape : d.buf 0xFF 0 0xFFFFFFFF 0 4294967296 = true
  read : (s.started x p o).dmaRead x p d.addr d.len = (some bs, t)
  crc : crc32 bs = d.w7

theorem cfgBody_read {body : List Word → State → Nat → CmdEnd} (hr : s.dmaRead x p d.addr d.len = (some bs, t))
    (hc : crc32 bs = d.w7) : cfgBody x p d body s id = body (wordsOf bs) t id := by
  simp only [cfgBody, hr, hc, if_true]

/-- A command whose image is read finishes as the image's own rules say. -/
theorem ImageRead.finish {lenOk fitted : Bool} {body : List Word → State → Nat → CmdEnd} (h : ImageRead s x p d o ty bs t)
    (hl : lenOk = true) (hf : fitted = true) :
    s.cfgLoad x p d ty lenOk fitted body = s.finish (body (wordsOf bs) t o.id) x p o := by
  have hb : (d.buf 0xFF 0 allBits 0 (2 ^ 32) && lenOk) = true := by rw [hl, Bool.and_true]; exact h.shape
  rw [State.cfgLoad, State.command_finish h.start (by simp [h.opcode, h.type]) hb hf (fun _ => h.configure),
    cfgBody_read h.read h.crc]

/-- An accepted image's command ends SUCCESS with RESULT0 all ones (R158). -/
theorem State.finish_accepted : s.finish (accepted t) x p o = s.ends t x p o St.success 0xFFFFFFFF 0 := rfl

/-! ### The exchange's images: what breaks no rule is accepted -/

theorem pointCfg_accepts (hsum : (ws.getD 0 0).toNat + (ws.getD 1 0).toNat ≤ 65536) (hfirst : (ws.getD 0 0).toNat < 65536)
    (hn : (ws.getD 1 0).toNat < 131072) (hlen : len = 8 + 16 * (ws.getD 1 0).toNat)
    (ho : (s.offenders (ws.getD 0 0).toNat (pointsOf (ws.drop 2))).min? = none) :
    pointCfg len ws s id = accepted (
      let u : State := { s with ptx := { s.ptx with
        loads := s.ptx.loads ++ [.points (ws.getD 0 0).toNat (pointsOf (ws.drop 2))] } }
      u.unverify.unloadSlots) := by
  have hok : ¬ (2 ^ 16 ≤ (ws.getD 0 0).toNat || 2 ^ 17 ≤ (ws.getD 1 0).toNat
      || 65536 < (ws.getD 0 0).toNat + (ws.getD 1 0).toNat || len != 8 + 16 * (ws.getD 1 0).toNat) = true := by
    simp only [Bool.or_eq_true, decide_eq_true_eq, bne_iff_ne]
    omega
  simp only [pointCfg, if_neg hok, ho]

theorem scheduleCfg_accepts (h0 : fieldOf (ws.getD 0 0) 31 28 = 0) (hv : 2 ≤ fieldOf (ws.getD 0 0) 27 24)
    (ht : fieldOf (ws.getD 0 0) 23 16 ≠ 0) (hlen : len = 4 + 12 * fieldOf (ws.getD 0 0) 15 0)
    (he : s.firstBadEnt (stnsOf s.lastStations) (s.lastTable.filter (fun e => e.2.valid)) [] 0 (entsOf (ws.drop 1)) = none)
    (hr : (List.range 1024).findSome? (fun f => s.residueBad (stnsOf s.lastStations) (fieldOf (ws.getD 0 0) 23 16) f [] 0
      (entsOf (ws.drop 1))) = none) :
    scheduleCfg len ws s id = accepted { s with ptx := { s.ptx with loads := s.ptx.loads ++ [.schedule ws] } } := by
  have hok : ¬ (fieldOf (ws.getD 0 0) 31 28 != 0 || fieldOf (ws.getD 0 0) 27 24 < 2 || fieldOf (ws.getD 0 0) 23 16 = 0
      || len != 4 + 12 * fieldOf (ws.getD 0 0) 15 0) = true := by
    simp only [Bool.or_eq_true, decide_eq_true_eq, bne_iff_ne]
    omega
  simp only [scheduleCfg, if_neg hok, he, hr]

theorem stationCfg_accepts (hs : s.firstBadStn [] 0 (stnsOf ws) = none)
    (he : (entsOf (s.lastSchedule.drop 1)).findIdx? (fun e => e.valid && !(stnsOf ws).any
      (fun u => u.valid && u.epn = e.epn && u.port = e.port)) = none) :
    stationCfg ws s id = accepted { s with ptx := { s.ptx with loads := s.ptx.loads ++ [.stations ws] } } := by
  simp only [stationCfg, hs, he]

theorem queueCfgBody_accepts (hq : (List.range 1024).find? (fun q => queueBad q (queueWords ws q)) = none)
    (hr : sumQueues (fun q => fieldOf (queueWords ws q).1 15 0) + s.rf F.QPL_RETIRED_CNT ≤ 65536) :
    queueCfgBody ws s id = accepted { s with
      pool := { s.pool with cfgPend := some ws }
      twn := { s.twn with crc09 := crc32Words ws } } := by
  have hok : ¬ 65536 < sumQueues (fun q => fieldOf (queueWords ws q).1 15 0) + s.rf F.QPL_RETIRED_CNT := not_lt.2 hr
  unfold queueCfgBody
  rewrite [hq]
  exact if_neg hok

theorem fieldTableBody_accepts (hw : (fieldImageRegs.zip ws).findIdx? (fun e => s.fieldWordBad e.1 e.2) = none) :
    fieldTableBody ws s id = accepted (
      let u := (fieldImageRegs.zip ws).foldl (fun u e => u.applyFieldWord e) s
      { u with twn := { u.twn with crc04 := crc32Words ws } }) := by
  simp only [fieldTableBody, hw]

/-! ### The rows -/

theorem exec_cfgLoadPointTable : exec (.cfgLoadPointTable x p d) s =
    .next (s.cfgLoad x p d 0x01 (24 ≤ d.len && d.len ≤ 8 + 16 * 65536 && d.len % 16 = 8) true (pointCfg d.len)) := rfl

theorem exec_cfgLoadExchangeSchedule : exec (.cfgLoadExchangeSchedule x p d) s =
    .next (s.cfgLoad x p d 0x02 (16 ≤ d.len && d.len ≤ 4 + 12 * 4096 && d.len % 12 = 4) true (scheduleCfg d.len)) := rfl

theorem exec_cfgLoadStationTable : exec (.cfgLoadStationTable x p d) s =
    .next (s.cfgLoad x p d 0x03 (16 ≤ d.len && d.len ≤ 16 * 2048 && d.len % 16 = 0) true stationCfg) := rfl

theorem exec_cfgLoadQueueConfiguration : exec (.cfgLoadQueueConfiguration x p d) s =
    .next (s.cfgLoad x p d 0x09 (d.len = 8192) true queueCfgBody) := rfl

theorem exec_cfgLoadFieldPortTable : exec (.cfgLoadFieldPortTable x p d) s =
    .next (s.cfgLoad x p d 0x04 (d.len = 8752) true fieldTableBody) := rfl

/-- Settles O28. -/
theorem exchangeConfigurationLoads : Obligations.ExchangeConfigurationLoads := by
  refine ⟨?points, ?schedule, ?stations, ?queues, ?fieldPorts⟩
  case points =>
    intro x p d o s bs t h hc hd hty hb hmin hmax hmod hr hcrc hsum hfirst hn hlen ho
    have hi : ImageRead s x p d o 0x01 bs t := ⟨h, hc, hd, hty, hb, hr, hcrc⟩
    rw [exec_cfgLoadPointTable, hi.finish (by simp [hmin, hmax, hmod]) rfl, pointCfg_accepts hsum hfirst hn hlen ho,
      State.finish_accepted]
  case schedule =>
    intro x p d o s bs t h hc hd hty hb hmin hmax hmod hr hcrc h0 hv ht hlen he hres
    have hi : ImageRead s x p d o 0x02 bs t := ⟨h, hc, hd, hty, hb, hr, hcrc⟩
    rw [exec_cfgLoadExchangeSchedule, hi.finish (by simp [hmin, hmax, hmod]) rfl, scheduleCfg_accepts h0 hv ht hlen he hres,
      State.finish_accepted]
  case stations =>
    intro x p d o s bs t h hc hd hty hb hmin hmax hmod hr hcrc hs he
    have hi : ImageRead s x p d o 0x03 bs t := ⟨h, hc, hd, hty, hb, hr, hcrc⟩
    rw [exec_cfgLoadStationTable, hi.finish (by simp [hmin, hmax, hmod]) rfl, stationCfg_accepts hs he, State.finish_accepted]
  case queues =>
    intro x p d o s bs t h hc hd hty hb hlen hr hcrc hq hres
    have hi : ImageRead s x p d o 0x09 bs t := ⟨h, hc, hd, hty, hb, hr, hcrc⟩
    rw [exec_cfgLoadQueueConfiguration, hi.finish (decide_eq_true hlen) rfl, queueCfgBody_accepts hq hres, State.finish_accepted]
  case fieldPorts =>
    intro x p d o s bs t h hc hd hty hb hlen hr hcrc hw
    have hi : ImageRead s x p d o 0x04 bs t := ⟨h, hc, hd, hty, hb, hr, hcrc⟩
    rw [exec_cfgLoadFieldPortTable, hi.finish (decide_eq_true hlen) rfl, fieldTableBody_accepts hw, State.finish_accepted]

end Sys2Proof.Machine
end

section
namespace Sys2Proof.Machine

/-! ## Images of the units: what breaks no rule is accepted (R386, R391, R461, R499, R529, R565, R567, R597, R625)

The searches for an offending entry are put in with `rewrite`: the closing `rfl` of `rw` would start to evaluate them. -/

variable {s t : State} {x : HPort} {p : Part} {d : Desc} {o : Op} {ws : List Word} {len id : Nat}

theorem circCfg_accepts (hc : (List.range 72).find? (s.circBad ws s.lastCal) = none) :
    circCfg ws s id = accepted { s with mtr := { s.mtr with
      circPend := s.mtr.circPend ++ [ws]
      kept := { s.mtr.kept with circImg := some (ws, true) } } } := by
  unfold circCfg
  rewrite [hc]
  rfl

/-- A calibration set's command waits until the set is applied (R386). -/
theorem calCfg_waits (hc : (List.range 80).find? (calBad ws (usedChans s.mtr.circ)) = none) :
    calCfg x p ws s id = .wait { s with mtr := { s.mtr with
      calPend := s.mtr.calPend ++ [(ws, x, p, id)]
      kept := { s.mtr.kept with calImg := some (ws, true) } } } := by
  unfold calCfg
  rewrite [hc]
  rfl

theorem regionBody_accepts (hr : (List.range 64).find? (fun r => s.regionBad ws r) = none)
    (hb : (List.range 64).any (fun r => regionChanged s.lastRegions ws r && s.regionBusy r) = false) :
    regionBody ws s id = accepted (s.setDsp { s.dsp with regPend := some ws }) := by
  unfold regionBody
  rewrite [hr]
  exact if_neg (Bool.eq_false_iff.1 hb)

theorem waveBody_accepts (hf : waveFault ws = none) (hb : s.panelBusy (fieldOf (ws.getD 0 0) 8 8) = false) :
    waveBody ws s id = accepted (s.setDsp { s.dsp with
      wavePend := Store.put noWordList s.dsp.wavePend (fieldOf (ws.getD 0 0) 8 8) ws }) := by
  unfold waveBody
  rewrite [hf]
  exact if_neg (Bool.eq_false_iff.1 hb)

theorem legacyBody_accepts (hw : (List.range 552).find? (legacyBad ws) = none) :
    legacyBody ws s id = accepted (s.setCan { s.can with img := some ws, imgPend := ws, left := List.range 12 }) := by
  unfold legacyBody
  rewrite [hw]
  rfl

theorem riserCfgBody_accepts (hw : (List.range 146).find? (s.riserWordBad ws) = none) :
    riserCfgBody ws s id = accepted (s.setRsr { s.rsr with img := some (ws, true), imgPend := some ws }) := by
  unfold riserCfgBody
  rewrite [hw]
  rfl

theorem twinCfgBody_accepts (hw : wordOk Reg.TWN_CFG (ws.getD 0 0) = true) :
    twinCfgBody ws s id = accepted (s.setTwn { s.twn with cfgKept := some (ws.getD 0 0), cfgPend := some (ws.getD 0 0) }) := by
  rw [twinCfgBody, if_pos hw]

/-- A parameter set that breaks no rule and has its own CRC, with no self-test in the way: the configuration switch decides whether
the island stores it (R461). -/
theorem safetySetBody_decides (hw : (List.range 122).find? (s.setWordBad ws) = none)
    (hc : crc32Words (ws.take 122) = ws.getD 122 0) (ht : s.saf.selfTest = false ∨ s.saf.resetWait ≠ none) :
    safetySetBody ws s id =
      if bitOf s.swNow.2 7 then
        accepted ((s.setSafKept { s.saf.kept with set := ws }).safEvent 0x0F07 (ws.getD 122 0) s.safCrc 0).safShow
      else if ws.getD 122 0 != s.safCrc || s.saf.kept.set = [] then
        .done ((s.setSaf { s.saf with ctl := [] }).paramOk false).safShow St.verifyFail (ws.getD 122 0) 0
      else accepted ((s.setSaf { s.saf with ctl := ws }).paramOk true).safShow := by
  have hn : ¬ (s.saf.selfTest && s.saf.resetWait = none) = true := by
    rcases ht with ht | ht <;> simp [ht]
  unfold safetySetBody
  rewrite [hw]
  simp only [hc, bne_self_eq_false, Bool.false_eq_true, if_false, if_neg hn]

theorem safetySetBody_stores (hw : (List.range 122).find? (s.setWordBad ws) = none)
    (hc : crc32Words (ws.take 122) = ws.getD 122 0) (ht : s.saf.selfTest = false ∨ s.saf.resetWait ≠ none)
    (hs : bitOf s.swNow.2 7 = true) :
    safetySetBody ws s id =
      accepted ((s.setSafKept { s.saf.kept with set := ws }).safEvent 0x0F07 (ws.getD 122 0) s.safCrc 0).safShow := by
  rw [safetySetBody_decides hw hc ht, if_pos hs]

theorem safetySetBody_confirms (hw : (List.range 122).find? (s.setWordBad ws) = none)
    (hc : crc32Words (ws.take 122) = ws.getD 122 0) (ht : s.saf.selfTest = false ∨ s.saf.resetWait ≠ none)
    (hs : bitOf s.swNow.2 7 = false) (he : ws.getD 122 0 = s.safCrc) (hk : s.saf.kept.set ≠ []) :
    safetySetBody ws s id = accepted ((s.setSaf { s.saf with ctl := ws }).paramOk true).safShow := by
  rw [safetySetBody_decides hw hc ht, if_neg (Bool.eq_false_iff.1 hs), if_neg (by rw [he]; simp [hk])]

theorem chainBody_accepts (hc : chainBad (len / 4) ws = none) :
    chainBody len ws s id = accepted (s.setUpd { s.upd with kept := { s.upd.kept with table := ws } }) := by
  unfold chainBody
  rewrite [hc]
  rfl

/-! ### The rows -/

theorem exec_cfgLoadCircuitTable : exec (.cfgLoadCircuitTable x p d) s =
    .next (s.cfgLoad x p d 0x05 (d.len = 2304) (!s.variant.lacks 14) circCfg) := rfl

theorem exec_cfgLoadCalibrationSet : exec (.cfgLoadCalibrationSet x p d) s =
    .next (s.cfgLoad x p d 0x06 (d.len = 1280) (!s.variant.lacks 14) (calCfg x p)) := rfl

theorem exec_cfgLoadRegionTable : exec (.cfgLoadRegionTable x p d) s =
    .next (s.cfgLoad x p d 0x07 (d.len = 512) s.hasDisplay regionBody) := rfl

theorem exec_cfgLoadWaveformTables : exec (.cfgLoadWaveformTables x p d) s =
    .next (s.cfgLoad x p d 0x08 ((List.range 16).any (fun k => d.len = 36 + 17408 * (k + 1))) s.hasDisplay waveBody) := rfl

theorem exec_cfgLoadCanRs485Configuration : exec (.cfgLoadCanRs485Configuration x p d) s =
    .next (s.cfgLoad x p d 0x0A (d.len = 2208) true legacyBody) := rfl

theorem exec_cfgLoadRiserConfiguration : exec (.cfgLoadRiserConfiguration x p d) s =
    .next (s.cfgLoad x p d 0x0B (d.len = 584) true riserCfgBody) := rfl

theorem exec_cfgLoadTwinConfiguration : exec (.cfgLoadTwinConfiguration x p d) s =
    .next (s.cfgLoad x p d 0x0C (d.len = 4) true twinCfgBody) := rfl

theorem exec_cfgLoadSafetyParameterSet : exec (.cfgLoadSafetyParameterSet x p d) s =
    .next (s.cfgLoad x p d 0x0D (d.len = 492) s.hasIsland safetySetBody) := rfl

theorem exec_cfgLoadChainTable : exec (.cfgLoadChainTable x p d) s =
    .next (s.cfgLoad x p d 0x0E (12 ≤ d.len && d.len ≤ 2052 && d.len % 8 = 4) true (chainBody d.len)) := rfl

/-- Settles O29. -/
theorem unitConfigurationLoads : Obligations.UnitConfigurationLoads := by
  refine ⟨?circuits, ?calibration, ?regions, ?waveforms, ?legacy, ?riser, ?twin, ?safetyStored, ?safetyConfirmed, ?chain⟩
  case circuits =>
    intro x p d o s bs t h hc hd hty hb hlen hv hr hcrc hw
    have hi : ImageRead s x p d o 0x05 bs t := ⟨h, hc, hd, hty, hb, hr, hcrc⟩
    rw [exec_cfgLoadCircuitTable, hi.finish (decide_eq_true hlen) (by simp [hv]), circCfg_accepts hw, State.finish_accepted]
  case calibration =>
    intro x p d o s bs t h hc hd hty hb hlen hv hr hcrc hw
    have hi : ImageRead s x p d o 0x06 bs t := ⟨h, hc, hd, hty, hb, hr, hcrc⟩
    rw [exec_cfgLoadCalibrationSet, hi.finish (decide_eq_true hlen) (by simp [hv]), calCfg_waits hw, State.finish_wait]
  case regions =>
    intro x p d o s bs t h hc hd hty hb hlen hv hr hcrc hw hbusy
    have hi : ImageRead s x p d o 0x07 bs t := ⟨h, hc, hd, hty, hb, hr, hcrc⟩
    rw [exec_cfgLoadRegionTable, hi.finish (decide_eq_true hlen) hv, regionBody_accepts hw hbusy, State.finish_accepted]
  case waveforms =>
    intro x p d o s bs t h hc hd hty hb hlen hv hr hcrc hw hbusy
    have hi : ImageRead s x p d o 0x08 bs t := ⟨h, hc, hd, hty, hb, hr, hcrc⟩
    rw [exec_cfgLoadWaveformTables, hi.finish hlen hv, waveBody_accepts hw hbusy, State.finish_accepted]
  case legacy =>
    intro x p d o s bs t h hc hd hty hb hlen hr hcrc hw
    have hi : ImageRead s x p d o 0x0A bs t := ⟨h, hc, hd, hty, hb, hr, hcrc⟩
    rw [exec_cfgLoadCanRs485Configuration, hi.finish (decide_eq_true hlen) rfl, legacyBody_accepts hw, State.finish_accepted]
  case riser =>
    intro x p d o s bs t h hc hd hty hb hlen hr hcrc hw
    have hi : ImageRead s x p d o 0x0B bs t := ⟨h, hc, hd, hty, hb, hr, hcrc⟩
    rw [exec_cfgLoadRiserConfiguration, hi.finish (decide_eq_true hlen) rfl, riserCfgBody_accepts hw, State.finish_accepted]
  case twin =>
    intro x p d o s bs t h hc hd hty hb hlen hr hcrc hw
    have hi : ImageRead s x p d o 0x0C bs t := ⟨h, hc, hd, hty, hb, hr, hcrc⟩
    rw [exec_cfgLoadTwinConfiguration, hi.finish (decide_eq_true hlen) rfl, twinCfgBody_accepts hw, State.finish_accepted]
  case safetyStored =>
    intro x p d o s bs t h hc hd hty hb hlen hv hr hcrc hw hown hself hswitch
    have hi : ImageRead s x p d o 0x0D bs t := ⟨h, hc, hd, hty, hb, hr, hcrc⟩
    rw [exec_cfgLoadSafetyParameterSet, hi.finish (decide_eq_true hlen) hv, safetySetBody_stores hw hown hself hswitch,
      State.finish_accepted]
  case safetyConfirmed =>
    intro x p d o s bs t h hc hd hty hb hlen hv hr hcrc hw hown hself hswitch hsame hkept
    have hi : ImageRead s x p d o 0x0D bs t := ⟨h, hc, hd, hty, hb, hr, hcrc⟩
    rw [exec_cfgLoadSafetyParameterSet, hi.finish (decide_eq_true hlen) hv,
      safetySetBody_confirms hw hown hself hswitch hsame hkept, State.finish_accepted]
  case chain =>
    intro x p d o s bs t h hc hd hty hb hmin hmax hmod hr hcrc hw
    have hi : ImageRead s x p d o 0x0E bs t := ⟨h, hc, hd, hty, hb, hr, hcrc⟩
    rw [exec_cfgLoadChainTable, hi.finish (by simp [hmin, hmax, hmod]) rfl, chainBody_accepts hw, State.finish_accepted]

end Sys2Proof.Machine
end

section
namespace Sys2Proof.Machine

/-! ## Reading and flushing queues, records and metering data (R195, R410, R551) -/

variable {s t : State} {x : HPort} {p : Part} {d : Desc} {o : Op} {id q bad : Nat} {ws : List Word}

/-! ### The pool -/

@[simp] theorem State.report_pool {code part : Nat} {a b c : Word} : (s.report code part a b c).pool = s.pool := by
  rw [State.report_sinks]; rfl

@[simp] theorem State.audit_pool {tag cls i code : Nat} : (s.audit p tag cls i code).pool = s.pool := by
  unfold State.audit
  split
  · exact State.report_pool
  · rfl

theorem State.flushRuns_congr (h : t.pool = s.pool) : t.flushRuns q = s.flushRuns q := by
  rw [State.flushRuns, State.flushRuns, h]

theorem State.requestFlush_empty (hr : s.flushRuns q = false) (hq : s.queue q = []) :
    s.requestFlush q = s.setF (F.QPL_QSTAT_FLUSHED q) 1 := by
  simp [State.requestFlush, hr, hq]

/-- An empty queue is flushed at once; no flush of it is in progress then (R191). -/
theorem State.requestFlush_idle (hr : s.flushRuns q = false) (hq : s.queue q = []) : (s.requestFlush q).flushRuns q = false := by
  rw [State.requestFlush_empty hr hq, State.flushRuns_congr State.setF_pool, hr]

/-- A flush in progress is joined, and one of a queue with packets begins (R191, R192). -/
theorem State.requestFlush_runs (h : s.flushRuns q = true ∨ s.queue q ≠ []) : (s.requestFlush q).flushRuns q = true := by
  unfold State.requestFlush
  split
  case isTrue hr => exact hr
  case isFalse hr =>
    rw [if_neg (h.resolve_left hr)]
    simp [State.flushRuns]

/-! ### The bodies -/

/-- What Q_FLUSH of queue `q` has requested, with its audit record (R115, R195). -/
def State.auditedFlush (s : State) (p : Part) (q : Nat) : State := (s.requestFlush q).audit p (s.queueTag q) Cls.queue q 0x10

theorem State.auditedFlush_runs : (s.auditedFlush p q).flushRuns q = (s.requestFlush q).flushRuns q :=
  State.flushRuns_congr State.audit_pool

theorem qFlushBody_permitted (hw : fieldOf d.w2 9 0 = q)
    (hf : s.filterWrite p (some (s.queueTag q)) Cls.queue q = St.success) :
    qFlushBody x p d s id =
      if (s.requestFlush q).flushRuns q then
        .wait { s.auditedFlush p q with pool := { (s.auditedFlush p q).pool with
          flushOps := (s.auditedFlush p q).pool.flushOps ++ [(q, x, p, id)] } }
      else .done (s.auditedFlush p q) St.success 0 0 := by
  rw [← State.auditedFlush_runs (p := p)]
  simp only [qFlushBody, hw, hf, bne_self_eq_false, Bool.false_eq_true, if_false]
  rfl

theorem qStatBody_reads (hw : fieldOf d.w2 9 0 = q) (hc : fieldOf d.w2 31 31 = 0)
    (hf : s.filterRead p (some (s.queueTag q)) Cls.queue q = St.success) :
    qStatBody p d s id = .done s St.success (wd (s.fill q)) (wd (fieldOf (s.qstat q) 2 0)) := by
  simp [qStatBody, hw, hc, hf]

theorem qStatBody_clears (hw : fieldOf d.w2 9 0 = q) (hc : fieldOf d.w2 31 31 = 1)
    (hf : s.filterWrite p (some (s.queueTag q)) Cls.queue q = St.success) :
    qStatBody p d s id = .done ((s.setF (F.QPL_QSTAT_OVR q) 0).audit p (s.queueTag q) Cls.queue q 0x11) St.success
      (wd (s.fill q)) (wd (fieldOf (s.qstat q) 2 0)) := by
  simp [qStatBody, hw, hc, hf]

theorem recReadBody_writes
    (hk : pickRecords p (s.viewHead p) d.w3.toNat (if fieldOf d.w2 16 16 = 1 then 8 else 0)
      (s.areaRecords (fieldOf d.w2 16 16 = 1)) (fieldOf d.w2 15 0) = (ws, bad))
    (hw : (if bad = 0 then s else (s.addSat F.EVR_BADCRC_CNT bad).raiseEvr 4).dmaWrite x p d.addr (wordsBytes ws) = (true, t)) :
    recReadBody x p d s id = .done t St.success (wd (ws.length / 8)) (wd (s.viewHead p)) := by
  simp only [recReadBody, hk, hw]

theorem mtrReadBody_writes (hc : fieldOf d.w2 6 0 = q) (hf : s.filterRead p (s.circuitTag q) Cls.circuit q = St.success)
    (hw : s.dmaWrite x p d.addr (s.meterBytes p q ((d.len - 144) / 80)) = (true, t)) :
    mtrReadBody x p d s id = .done t St.success (wd (s.frameNo % 2 ^ 32)) 0 := by
  simp [mtrReadBody, hc, hf, hw]

/-! ### The rows -/

theorem exec_qFlush : exec (.qFlush x p d) s =
    .next (s.command x p d (d.opcode = 0x10) (d.clean 0x3FF 0 0 0 0 0) true false (qFlushBody x p d)) := rfl

theorem exec_qStat : exec (.qStat x p d) s =
    .next (s.command x p d (d.opcode = 0x11) (d.clean 0x800003FF 0 0 0 0 0) true false (qStatBody p d)) := rfl

theorem exec_recRead : exec (.recRead x p d) s =
    .next (s.command x p d (d.opcode = 0x18)
      (d.clean 0x1FFFF 0xFFFFFFFF 0xFFFFFFFF 0xFFFFFFFF 0 0 && d.addr % 8 = 0) true false (recReadBody x p d)) := rfl

theorem exec_mtrRead : exec (.mtrRead x p d) s =
    .next (s.command x p d (d.opcode = 0x20) (d.buf 0x7F 0 0 144 7824 && (d.len - 144) % 80 = 0) (!s.variant.lacks 14) false
      (mtrReadBody x p d)) := rfl

theorem exec_qFlush_finish (h : s.mayStart x p d o = true) (hd : d.opcode = 0x10) (hc : d.clean 0x3FF 0 0 0 0 0 = true) :
    exec (.qFlush x p d) s = .next (s.finish (qFlushBody x p d (s.started x p o) o.id) x p o) := by
  rw [exec_qFlush, State.command_finishes h (decide_eq_true hd) hc]

theorem exec_qStat_finish (h : s.mayStart x p d o = true) (hd : d.opcode = 0x11)
    (hc : d.clean 0x800003FF 0 0 0 0 0 = true) :
    exec (.qStat x p d) s = .next (s.finish (qStatBody p d (s.started x p o) o.id) x p o) := by
  rw [exec_qStat, State.command_finishes h (decide_eq_true hd) hc]

/-- Settles O24. -/
theorem queueAndDataCommands : Obligations.QueueAndDataCommands := by
  refine ⟨?flushed, ?waits, ?status, ?cleared, ?records, ?metering⟩
  case flushed =>
    intro x p d o s h hd hc hf hr hq
    have hidle := State.requestFlush_idle (s := s.started x p o) hr hq
    rw [exec_qFlush_finish h hd hc, qFlushBody_permitted rfl hf, hidle]
    rfl
  case waits =>
    intro x p d o s h hd hc hf hr
    have hruns := State.requestFlush_runs (s := s.started x p o) hr
    rw [exec_qFlush_finish h hd hc, qFlushBody_permitted rfl hf, hruns]
    rfl
  case status =>
    intro x p d o s h hd hc h0 hf
    rw [exec_qStat_finish h hd hc, qStatBody_reads rfl h0 hf, State.finish_done]
  case cleared =>
    intro x p d o s h hd hc h1 hf
    rw [exec_qStat_finish h hd hc, qStatBody_clears rfl h1 hf, State.finish_done]
  case records =>
    intro x p d o s ws bad t h hd hc ha hk hw
    rw [exec_recRead, State.command_finishes h (decide_eq_true hd) (by simp [hc, ha]), recReadBody_writes hk hw, State.finish_done]
  case metering =>
    intro x p d o s t h hd hb hl hv hf hw
    rw [exec_mtrRead, hv, Bool.not_false, State.command_finishes h (decide_eq_true hd) (by simp [hb, hl]),
      mtrReadBody_writes rfl hf hw, State.finish_done]

end Sys2Proof.Machine
end

section
namespace Sys2Proof.Machine

/-! ## Staging frames (R179, R218, R589, R594) -/

variable {s t : State} {x : HPort} {p : Part} {d : Desc} {o : Op} {id k b : Nat} {bs : List Byte}

/-! ### What a refused packet leaves -/

theorem State.discard_queue {q cause r : Nat} : (s.discard q cause).queue r = s.queue r := by
  unfold State.discard
  dsimp only
  split
  · rfl
  · exact State.report_queue

theorem State.refuseWrite_queue {q cause r : Nat} : (s.refuseWrite q cause).queue r = s.queue r := by
  rw [State.refuseWrite, State.discard_queue]
  split <;> rfl

theorem State.enqueue_refused {q cause : Nat} {k : Pkt} (h : s.allocRefused q k.cells = some cause) :
    s.enqueue q k = (false, s.refuseWrite q cause) := by
  rw [State.enqueue, h]

theorem State.stage_later {target : Nat} {data : List Byte}
    (h : s.allocRefused (stagingQueue x p) (mkPkt data target 0 s.frameNo).cells = some 1) :
    s.stage x p id target data = .later := if_pos h

/-- Where the ring set's own quota is the cause, the command ends with NO_SPACE (R179). -/
theorem State.stage_noSpace {target : Nat} {data : List Byte}
    (h : s.allocRefused (stagingQueue x p) (mkPkt data target 0 s.frameNo).cells = some 0) :
    s.stage x p id target data = .done (s.refuseWrite (stagingQueue x p) 0) St.noSpace 0 0 := by
  have hq : s.allocRefused (stagingQueue x p) ({ mkPkt data target 0 s.frameNo with op := some (x, p, id) } : Pkt).cells = some 0 := h
  simp [State.stage, hq, State.enqueue_refused hq]

/-! ### The bodies -/

theorem canTxBody_stages (hk : fieldOf d.w2 1 0 = k) (hb : fieldOf d.w2 13 8 = b)
    (hf : s.filterWrite p (some (s.rf (F.CAN_CTL_TAG k))) 0 k = St.success) (ha : s.active = true)
    (hr : s.canRuns k = true) (hn : s.canNormal k = true) (hm : s.rf (F.CAN_MBCFG_MODE k b) = 1)
    (hd : s.dmaRead x p d.addr d.len = (some bs, t)) (hh : t.txHeaderBad k d.len bs = none) :
    canTxBody x p d s id = (t.stage x p id (420 + k)
      (bs.take 4 ++ wordBytes (withField (wordAt bs 1) 29 24 b) ++ bs.drop 8)).audited p (s.rf (F.CAN_CTL_TAG k)) 0 k 0x50 := by
  simp [canTxBody, hk, hb, hf, ha, hr, hn, hm, hd, hh]

theorem serTxBody_stages (hk : fieldOf d.w2 2 0 = k)
    (hf : s.filterWrite p (some (s.rf (F.SER_CTL_TAG k))) 0 k = St.success) (ha : s.active = true)
    (hd : s.dmaRead x p d.addr d.len = (some bs, t)) :
    serTxBody x p d s id = (t.stage x p id (424 + k) bs).audited p (s.rf (F.SER_CTL_TAG k)) 0 k 0x51 := by
  simp [serTxBody, hk, hf, ha, hd]

/-- ETH_TX to a field port: a tenant's frame, which is not of the point EtherType, carries the port's own address (R218). -/
theorem ethTxBody_stagesField (hk : fieldOf d.w2 6 0 = k) (hl : k < 64)
    (hf : s.filterWrite p (some (s.rf (F.FLD_PCTL_TAG k))) 0 k = St.success)
    (hd : s.dmaRead x p d.addr d.len = (some bs, t)) (he : p.val = 0 ∨ (etherOf bs).1 ≠ t.rf F.FLD_CTL_ETYPE)
    (ha : t.active = true) (hlink : t.on (F.FLD_PSTAT_LINK k) = true) :
    ethTxBody x p d s id = (t.stage x p id (320 + k)
      (if p.val = 0 then bs else bs.take 6 ++ bytesBE 6 (t.portMac k) ++ bs.drop 12)).audited p (s.rf (F.FLD_PCTL_TAG k)) 0 k
        0x58 := by
  have h64 : k ≠ 64 := Nat.ne_of_lt hl
  have hle : ¬ 64 < k := Nat.not_lt.2 (Nat.le_of_lt hl)
  have hp : ¬ (p.val ≠ 0 ∧ (etherOf bs).1 = t.rf F.FLD_CTL_ETYPE) := fun ⟨h0, hty⟩ => he.elim h0 (fun hne => hne hty)
  simp only [ethTxBody, hk, h64, hle, hf, hd, ha, hlink, fieldTx, Bool.and_eq_true, bne_iff_ne, decide_eq_true_eq, hp, ne_eq,
    not_true_eq_false, if_false, Bool.not_true, Bool.or_false, Bool.false_eq_true]

theorem ethTxBody_stagesRiser (hk : fieldOf d.w2 6 0 = 64) (hd : s.dmaRead x p d.addr d.len = (some bs, t)) :
    ethTxBody x p d s id = t.stage x p id (1024 + classOf bs) bs := by
  simp only [ethTxBody, hk, if_true, hd]

/-! ### The rows -/

theorem exec_canTx : exec (.canTx x p d) s =
    .next (s.command x p d (d.opcode = 0x50) (d.buf 0x3F03 0 0 0 4294967296) true false (canTxBody x p d)) := rfl

theorem exec_serTx : exec (.serTx x p d) s =
    .next (s.command x p d (d.opcode = 0x51) (d.buf 7 0 0 1 4096) true false (serTxBody x p d)) := rfl

theorem exec_ethTx : exec (.ethTx x p d) s =
    .next (s.command x p d (d.opcode = 0x58) (d.buf 0x7F 0 0 14 (if fieldOf d.w2 6 0 = 64 then 9018 else 1514))
      (64 ≤ fieldOf d.w2 6 0 || s.fieldFitted (fieldOf d.w2 6 0)) (fieldOf d.w2 6 0 = 64) (ethTxBody x p d)) := rfl

/-! ## The consumers of the pool (R185) -/

theorem exec_packetRead {q : Fin 1024} : exec (.packetRead q) s = .next (packetReadEff q s) := rfl

theorem pointQueue_range {q : Nat} (h : pointQueue q = true) : 256 ≤ q ∧ (q < 418 ∨ 432 ≤ q ∧ q < 512) := by
  simp only [pointQueue, Bool.or_eq_true, Bool.and_eq_true, decide_eq_true_eq] at h
  omega

/-- The head packet of a queue that neither a ring set nor the update chain, a CAN controller or an RS-485 port consumes goes to
PTX or to the outside (R179, R185). -/
theorem packetReadEff_taken {q : Fin 1024} {h : Pkt} (h0 : 256 ≤ q.val)
    (hq : q.val < 418 ∨ (418 < q.val ∧ q.val < 420) ∨ (432 ≤ q.val ∧ q.val < 512) ∨ 768 ≤ q.val)
    (ht : s.takePkt q = (some h, t)) :
    packetReadEff q s = if pointQueue q then t.toInbox q h else t.emit (.packet q h.data) := by
  have hrx : ¬ q.val < 256 := by omega
  have hst : ¬ (512 ≤ q.val ∧ q.val < 768) := by omega
  have hown : ¬ (q.val = 418 ∨ 424 ≤ q.val ∧ q.val < 432) := by omega
  have hcan : ¬ (420 ≤ q.val ∧ q.val < 424) := by omega
  simp only [packetReadEff, ht, hrx, hst, hown, hcan, Bool.and_eq_true, Bool.or_eq_true, decide_eq_true_eq, if_false]

theorem packetReadEff_can {q : Fin 1024} (hk : k < 4) (hq : q.val = 420 + k) : packetReadEff q s = s.canLoad k := by
  have hrx : ¬ q.val < 256 := by omega
  have hst : ¬ (512 ≤ q.val ∧ q.val < 768) := by omega
  have hown : ¬ (q.val = 418 ∨ 424 ≤ q.val ∧ q.val < 432) := by omega
  have hcan : 420 ≤ q.val ∧ q.val < 424 := by omega
  have hsub : q.val - 420 = k := by omega
  simp only [packetReadEff, hrx, hst, hown, hcan, hsub, Bool.and_eq_true, Bool.or_eq_true, decide_eq_true_eq, if_false,
    and_self, if_true]

theorem packetReadEff_staging {q : Fin 1024} (h0 : 512 ≤ q.val) (h1 : q.val < 768) : packetReadEff q s = s.moveStaged q 1 := by
  have hrx : ¬ q.val < 256 := by omega
  simp [packetReadEff, hrx, h0, h1]

theorem packetReadEff_receive {q : Fin 1024} (h : q.val < 256) :
    packetReadEff q s = s.deliverHead (if q.val < 128 then .hp0 else .hp1) (q.val % 128) := if_pos h

/-- A head frame passes into its empty transmit buffer (R590). -/
theorem State.canLoad_loads {h : Pkt} {hs : List Pkt} (hq : s.queue (420 + k) = h :: hs)
    (hm : s.rf (F.CAN_MBCFG_MODE k (txBuf h.data)) = 1) (he : s.on (F.CAN_MBST_FULL k (txBuf h.data)) = false)
    (ht : s.takePkt (420 + k) = (some h, t)) : s.canLoad k = t.putTx k (txBuf h.data) h.data := by
  simp [State.canLoad, hq, hm, he, ht]

theorem State.deliverHead_notRunning {p : Nat} (h : s.rsRunning x p = false) : s.deliverHead x p = s := by
  unfold State.deliverHead
  split
  · rfl
  · simp [h]

/-- Settles O35. -/
theorem legacyAndEthernetCommands : Obligations.LegacyAndEthernetCommands := by
  refine ⟨?can, ?serial, ?fieldPort, ?riser, ?later, ?noSpace, ?points, ?canBuffer, ?other, ?staging, ?receive⟩
  case can =>
    intro x p d o s bs t h hd hb hf ha hr hn hm hread hh
    rw [exec_canTx, State.command_finishes h (decide_eq_true hd) hb, canTxBody_stages rfl rfl hf ha hr hn hm hread hh]
  case serial =>
    intro x p d o s bs t h hd hb hf ha hread
    rw [exec_serTx, State.command_finishes h (decide_eq_true hd) hb, serTxBody_stages rfl hf ha hread]
  case fieldPort =>
    intro x p d o s bs t h hd hb hl hfit hf hread he ha hlink
    have h64 : fieldOf d.w2 6 0 ≠ 64 := Nat.ne_of_lt hl
    rw [exec_ethTx, State.command_finish h (decide_eq_true hd) (by rw [if_neg h64]; exact hb) (by simp [hfit]) (by simp [h64]),
      ethTxBody_stagesField rfl hl hf hread he ha hlink]
  case riser =>
    intro x p d o s bs t h hcfg hd hb h64 hread
    rw [exec_ethTx, State.command_finish h (decide_eq_true hd) (by rw [if_pos h64]; exact hb) (by simp [h64]) (fun _ => hcfg),
      ethTxBody_stagesRiser h64 hread]
  case later => exact fun x p id target data s h => State.stage_later h
  case noSpace => exact fun x p id target data s h => ⟨_, State.stage_noSpace h, State.refuseWrite_queue⟩
  case points =>
    intro q k s t hq ht
    obtain ⟨h0, hr⟩ := pointQueue_range hq
    rw [exec_packetRead, packetReadEff_taken h0 (by omega) ht, if_pos hq]
    rfl
  case canBuffer =>
    intro k h hs s t q hq hqueue hm he ht
    rw [hq] at hqueue ht
    rw [exec_packetRead, packetReadEff_can k.isLt hq, State.canLoad_loads hqueue hm he ht]
  case other =>
    intro q k s t h0 hr hq ht
    rw [exec_packetRead, packetReadEff_taken h0 hr ht, hq]
    rfl
  case staging =>
    intro q s h0 h1
    rw [exec_packetRead, packetReadEff_staging h0 h1]
  case receive =>
    intro q s h
    rw [exec_packetRead, packetReadEff_receive h]
    exact ⟨rfl, fun hr => by rw [State.deliverHead_notRunning hr]⟩

end Sys2Proof.Machine
end

section
namespace Sys2Proof.Machine

/-! ## A poisoned cell of a queue (R188) -/

variable {s : State} {q i cell o : Nat}

theorem State.addSat_reg_other {f : Fld} {n : Nat} (h : o ≠ f.off) : (s.addSat f n).reg o = s.reg o := State.reg_setF_other h

/-- Withdrawing guarantees writes no register but QPL_STAT and what the report writes (R190). -/
theorem State.shortfall_reg (hs : o ≠ Reg.QPL_STAT) (hl : o ≠ Reg.EVR_LOST) (he : o ≠ Reg.EVR_STAT) :
    s.shortfall.reg o = s.reg o := by
  unfold State.shortfall
  dsimp only
  split
  · rfl
  · rw [State.report_reg hl he, State.reg_setF_other hs]
    exact State.reg_congr rfl rfl

/-- Queue `q` without the packet at position `i`. -/
def State.withoutPkt (s : State) (q i : Nat) : State :=
  let t := s.setQueue q ((s.queue q).eraseIdx i)
  if i < t.flushLeft q then t.flushConsume q else t

theorem State.poison_eq : s.poison q i cell = (s.withoutPkt q i).poisonCell q cell := rfl

/-- Each of the pool's 1,024 queues shows PSN after a poisoned cell. -/
theorem State.poison_psn (hq : q < 1024) : (s.poison q i cell).on (F.QPL_QSTAT_PSN q) = true := by
  have hlo : 0x83000 ≤ Reg.QPL_QSTAT q := by simp only [Reg.QPL_QSTAT]; omega
  have hhi : Reg.QPL_QSTAT q < 0x84000 := by simp only [Reg.QPL_QSTAT]; omega
  have hreg : (s.poison q i cell).reg (Reg.QPL_QSTAT q) = ((s.withoutPkt q i).setF (F.QPL_QSTAT_PSN q) 1).reg
      (Reg.QPL_QSTAT q) := by
    have hlost : Reg.QPL_QSTAT q ≠ Reg.EVR_LOST := by simp only [Reg.EVR_LOST]; omega
    have hevr : Reg.QPL_QSTAT q ≠ Reg.EVR_STAT := by simp only [Reg.EVR_STAT]; omega
    rw [State.poison_eq, State.poisonCell, State.retireCell,
      State.shortfall_reg (by simp only [Reg.QPL_STAT]; omega) hlost hevr,
      State.addSat_reg_other (by simp only [F.QPL_RETIRED_CNT, Reg.QPL_RETIRED]; omega), State.report_reg hlost hevr,
      State.addSat_reg_other (by simp only [F.QPL_UERR_CNT, Reg.QPL_UERR]; omega)]
  rw [State.on_congr (f := F.QPL_QSTAT_PSN q) hreg]
  exact State.on_setF_one (f := F.QPL_QSTAT_PSN q) rfl (by decide : 4 < 32)

/-! ## A poisoned cell outside the queues of the pool (O15)

The clause on `State.poison` speaks of every number `q`, but the pool has 1,024 queues (R179), and no row of the table names
another one. The expression of QPL_QSTAT[q] leads beyond the pool's registers for a larger number, and for 160,774 it is the offset
of EVR_LOST, in which the report of the poisoned cell itself counts when it finds the recorder's input buffer full (R544, R553). -/

theorem Reg.QPL_QSTAT_stray : Reg.QPL_QSTAT 160774 = Reg.EVR_LOST := by decide

theorem sumQueues_zero : sumQueues (fun _ => 0) = 0 := by
  unfold sumQueues
  exact List.foldl_fixed _

theorem State.shortfall_unguaranteed (h : s.pool.guarBelow = 0) : s.shortfall = s := by
  have hg : s.guarantee = fun _ => 0 := by funext q; simp [State.guarantee, h]
  simp [State.shortfall, hg, sumQueues_zero]

/-- A report that finds the input buffer full counts in EVR_LOST (R544). -/
theorem State.report_lost {code part : Nat} {a b c : Word} (hl : s.variant.lacks (code / 256) = false)
    (hb : 512 ≤ s.evr.buf.length) :
    (s.report code part a b c).reg Reg.EVR_LOST = (s.addSat F.EVR_LOST_CNT 1).reg Reg.EVR_LOST := by
  have e : ∀ {t : State} {v : RecSt}, ({ t with evr := v } : State).reg Reg.EVR_LOST = t.reg Reg.EVR_LOST := rfl
  simp only [State.report, State.reportFrom, hl, Nat.not_lt.2 hb, Bool.false_eq_true, if_false, e]
  exact State.raise_reg (by decide)

/-- The input buffer is full and no queue has a guarantee left: a poisoned cell counts in EVR_LOST, and its retirement does not. -/
theorem State.poisonCell_lost (hl : s.variant.lacks 8 = false) (hb : 512 ≤ s.evr.buf.length) (hg : s.pool.guarBelow = 0) :
    (s.poisonCell q cell).reg Reg.EVR_LOST =
      (((s.setF (F.QPL_QSTAT_PSN q) 1).addSat F.QPL_UERR_CNT 1).addSat F.EVR_LOST_CNT 1).reg Reg.EVR_LOST := by
  rw [State.poisonCell, State.retireCell, State.shortfall_unguaranteed (by simpa using hg),
    State.addSat_reg_other (by decide), State.report_lost (by simpa using hl) (by simpa using hb)]

/-- The recorder's input buffer is full, and 15 reports have been lost: PSN of "queue 160,774" makes that count 31, and the report
of the poisoned cell makes it 32, in which bit 4 is 0. No guarantee is left, so the retirement of the cell reports nothing. -/
def lossesAtPsn : State :=
  { State.reset.setReg Reg.EVR_LOST 15 with
    pool := { PoolSt.reset with guarBelow := 0 }
    evr := { RecSt.reset with buf := List.replicate 512 ⟨0x0801, 0, 0, 0, 0, 0, 0, 0, false⟩ } }

theorem poison_lossesAtPsn : (lossesAtPsn.poison 160774 0 0).on (F.QPL_QSTAT_PSN 160774) = false := by
  have hlost : (lossesAtPsn.poison 160774 0 0).reg Reg.EVR_LOST = 32 := by
    rw [State.poison_eq, State.poisonCell_lost rfl (Nat.le_of_eq List.length_replicate.symm) rfl]
    decide
  rw [State.on, State.rf, F.QPL_QSTAT_PSN, Reg.QPL_QSTAT_stray, hlost]
  decide

/-- Refutes O15: a poisoned cell of "queue 160,774" leaves its PSN at 0 in `lossesAtPsn`. For the queues that the pool has, PSN is
set (`State.poison_psn`). -/
theorem not_queuePoolPackets : ¬ Obligations.QueuePoolPackets := by
  intro h
  obtain ⟨-, -, -, -, -, -, -, -, hpoison, -⟩ := h
  obtain ⟨-, hpsn⟩ := hpoison 160774 0 0 lossesAtPsn
  exact Bool.false_ne_true (poison_lossesAtPsn.symm.trans hpsn)

end Sys2Proof.Machine
end

section
namespace Sys2Proof.Machine

/-! ## Loops with a bound, and sums -/

theorem sum_foldl_range {n : Nat} {f : Nat → Nat} :
    (List.range n).foldl (fun a j => a + f j) 0 = ∑ j ∈ Finset.range n, f j := by
  rw [← List.foldl_map, ← List.sum_eq_foldl]
  rfl

/-- An invariant that may speak of how far the loop has come. -/
theorem forUpto_invariant {σ : Type} {P : Nat → σ → Prop} {n : Nat} {s : σ} {f : Nat → σ → σ} (h : P 0 s)
    (hf : ∀ i u, i < n → P i u → P (i + 1) (f i u)) : P n (forUpto n s f) := by
  induction n with
  | zero => exact h
  | succ n ih =>
    rw [forUpto_succ]
    exact hf n _ (Nat.lt_succ_self n) (ih fun i u hi => hf i u (Nat.lt_succ_of_lt hi))

end Sys2Proof.Machine
end

section
namespace Sys2Proof.Machine

/-! ## Field power: what its operations change (R222 to R229, R243) -/

variable {s t : State} {i j g c st o : Nat}

/-! ### What is kept about a port -/

@[simp] theorem State.pwr_setPwr_same {p : PortPwr} : (s.setPwr i p).pwr i = p := Store.get_put_same

@[simp] theorem State.setPwr_reg {p : PortPwr} : (s.setPwr i p).reg o = s.reg o := State.reg_congr rfl rfl

@[simp] theorem State.setPwr_rf {p : PortPwr} {f : Fld} : (s.setPwr i p).rf f = s.rf f := State.rf_congr State.setPwr_reg

@[simp] theorem State.setPwr_pwrState {p : PortPwr} : (s.setPwr i p).pwrState j = s.pwrState j := State.setPwr_rf

@[simp] theorem State.pwrCmd_rf {f : Fld} : (s.pwrCmd i c).rf f = s.rf f := State.setPwr_rf

@[simp] theorem State.pwrCmd_pwrState : (s.pwrCmd i c).pwrState j = s.pwrState j := State.setPwr_rf

@[simp] theorem State.pwrCmd_pwr : (s.pwrCmd i c).pwr i =
    { s.pwr i with cmds := if c = 5 then [5] else (s.pwr i).cmds.filter (fun k => k = 5) ++ [c] } :=
  State.pwr_setPwr_same

@[simp] theorem State.setF_pwr {f : Fld} {n : Nat} : (s.setF f n).pwr i = s.pwr i := rfl

/-! ### Entering a state -/

/-- Only the four FLD_GRPCHG follow the ports in ON. -/
theorem State.updCharges_reg (h : o < 0x90020 ∨ 0x90030 ≤ o) : s.updCharges.reg o = s.reg o := by
  refine forUpto_invariant (P := fun _ (u : State) => u.reg o = s.reg o) rfl fun g u hg hu => ?_
  rw [State.reg_setF_other (by simp only [F.FLD_GRPCHG_CHG, Reg.FLD_GRPCHG]; omega), hu]

theorem State.updCharges_fld : s.updCharges.fld = s.fld :=
  forUpto_induction (P := fun u : State => u.fld = s.fld) rfl fun _ _ h => h

theorem State.updCharges_ptx : s.updCharges.ptx = s.ptx :=
  forUpto_induction (P := fun u : State => u.ptx = s.ptx) rfl fun _ _ h => h

theorem State.updCharges_rf {f : Fld} (h : f.off < 0x90020 ∨ 0x90030 ≤ f.off) : s.updCharges.rf f = s.rf f :=
  State.rf_congr (State.updCharges_reg h)

theorem Reg.FLD_PWRSTAT_above : 0x90030 ≤ Reg.FLD_PWRSTAT i := by simp only [Reg.FLD_PWRSTAT]; omega

theorem Reg.FLD_PWRSTAT_ne (h : j ≠ i) : Reg.FLD_PWRSTAT j ≠ Reg.FLD_PWRSTAT i := by simp only [Reg.FLD_PWRSTAT]; omega

@[simp] theorem State.pwrEnter_fld : (s.pwrEnter i st c).fld = s.fld := by
  rw [State.pwrEnter, State.updCharges_fld, State.setF_fld, State.setF_fld]

@[simp] theorem State.pwrEnter_ptx : (s.pwrEnter i st c).ptx = s.ptx := by
  rw [State.pwrEnter, State.updCharges_ptx, State.setF_ptx, State.setF_ptx]

@[simp] theorem State.pwrEnter_pwr : (s.pwrEnter i st c).pwr j = s.pwr j := by
  rw [State.pwr, State.pwr, State.pwrEnter_fld]

theorem State.pwrEnter_reg (h : o < 0x90020 ∨ 0x90030 ≤ o) (hi : o ≠ Reg.FLD_PWRSTAT i) :
    (s.pwrEnter i st c).reg o = s.reg o := by
  rw [State.pwrEnter, State.updCharges_reg h, State.reg_setF_other hi, State.reg_setF_other hi]

theorem State.pwrEnter_pwrState (h : st < 16) : (s.pwrEnter i st c).pwrState i = st := by
  rw [State.pwrState, State.pwrEnter, State.updCharges_rf (.inr Reg.FLD_PWRSTAT_above),
    State.rf_setF_other (by decide : 24 ≤ 27) (by decide : 27 < 32) (.inr (.inr (by decide : 27 < 28))),
    State.rf_setF_same (by decide : 28 ≤ 31) (by decide : 31 < 32)]
  exact Nat.mod_eq_of_lt h

/-- CLASS reads 0 outside WAIT and ON (R243). -/
theorem State.pwrEnter_class (h : c < 16) :
    (s.pwrEnter i st c).rf (F.FLD_PWRSTAT_CLASS i) = if st = Pwr.wait ∨ st = Pwr.on then c else 0 := by
  rw [State.pwrEnter, State.updCharges_rf (.inr Reg.FLD_PWRSTAT_above),
    State.rf_setF_same (by decide : 24 ≤ 27) (by decide : 27 < 32)]
  simp only [Bool.or_eq_true, decide_eq_true_eq]
  exact Nat.mod_eq_of_lt (by split; exacts [h, (by decide : 0 < 16)])

theorem State.pwrEnter_faultCount : (s.pwrEnter i st c).rf (F.FLD_PWRSTAT_FCNT i) = s.rf (F.FLD_PWRSTAT_FCNT i) := by
  rw [State.pwrEnter, State.updCharges_rf (.inr Reg.FLD_PWRSTAT_above),
    State.rf_setF_other (by decide : 24 ≤ 27) (by decide : 27 < 32) (.inr (.inl (by decide : 19 < 24))),
    State.rf_setF_other (by decide : 28 ≤ 31) (by decide : 31 < 32) (.inr (.inl (by decide : 19 < 28)))]

theorem State.pwrEnter_pwrState_other (h : j ≠ i) : (s.pwrEnter i st c).pwrState j = s.pwrState j :=
  State.rf_congr (State.pwrEnter_reg (.inr Reg.FLD_PWRSTAT_above) (Reg.FLD_PWRSTAT_ne h))

/-! ### Detection and switching off -/

@[simp] theorem State.toDetect_pwrState : (s.toDetect i).pwrState i = 1 :=
  State.pwrCmd_pwrState.trans (State.pwrEnter_pwrState (by decide))

theorem State.toDetect_pwrState_other (h : j ≠ i) : (s.toDetect i).pwrState j = s.pwrState j :=
  State.pwrCmd_pwrState.trans (State.pwrEnter_pwrState_other h)

theorem State.toDetect_class : (s.toDetect i).rf (F.FLD_PWRSTAT_CLASS i) = 0 :=
  State.pwrCmd_rf.trans ((State.pwrEnter_class (by decide)).trans (if_neg (by decide)))

theorem State.toDetect_faultCount : (s.toDetect i).rf (F.FLD_PWRSTAT_FCNT i) = s.rf (F.FLD_PWRSTAT_FCNT i) :=
  State.pwrCmd_rf.trans State.pwrEnter_faultCount

/-- DETECT becomes pending behind an OFF that is still to be sent. -/
theorem State.toDetect_pwr : (s.toDetect i).pwr i = { s.pwr i with cmds := (s.pwr i).cmds.filter (fun k => k = 5) ++ [2] } := by
  simp [State.toDetect]

/-- A switch-off that FLD_PWRCMD ordered does not lose the port (R219). -/
theorem State.pwrOff_ordered : s.pwrOff i st true = (s.pwrEnter i st 0).pwrCmd i 5 := by
  simp [State.pwrOff]

theorem State.pwrOff_ordered_pwrState (h : st < 16) : (s.pwrOff i st true).pwrState i = st := by
  rw [State.pwrOff_ordered, State.pwrCmd_pwrState, State.pwrEnter_pwrState h]

theorem State.pwrOff_ordered_pwrState_other (h : j ≠ i) : (s.pwrOff i st true).pwrState j = s.pwrState j := by
  rw [State.pwrOff_ordered, State.pwrCmd_pwrState, State.pwrEnter_pwrState_other h]

theorem State.pwrOff_ordered_cmds : ((s.pwrOff i st true).pwr i).cmds = [5] := by
  simp [State.pwrOff_ordered]

theorem State.pwrOff_ordered_ptx : (s.pwrOff i st true).ptx = s.ptx := by
  rw [State.pwrOff_ordered, State.pwrCmd, State.setPwr, State.pwrEnter_ptx]

/-! ### CLEAR and CYCLE (R229) -/

/-- The fault count is 0, and no power has been on since. -/
def State.faultsCleared (s : State) (i : Nat) : State :=
  (s.setF (F.FLD_PWRSTAT_FCNT i) 0).setPwr i { s.pwr i with wasOn := false }

theorem State.faultsCleared_faultCount : (s.faultsCleared i).rf (F.FLD_PWRSTAT_FCNT i) = 0 := by
  rw [State.faultsCleared, State.setPwr_rf, State.rf_setF_same (by decide : 16 ≤ 19) (by decide : 19 < 32), Nat.zero_mod]

theorem State.faultsCleared_pwrState : (s.faultsCleared i).pwrState i = s.pwrState i := by
  rw [State.faultsCleared, State.setPwr_pwrState, State.pwrState,
    State.rf_setF_other (by decide : 16 ≤ 19) (by decide : 19 < 32) (.inr (.inr (by decide : 19 < 28)))]
  rfl

theorem State.faultsCleared_wasOn : ((s.faultsCleared i).pwr i).wasOn = false := by
  rw [State.faultsCleared, State.pwr_setPwr_same]

theorem State.pwrClear_eq :
    s.pwrClear i = if s.pwrState i = 6 ∨ s.pwrState i = 7 then (s.faultsCleared i).toDetect i else s.faultsCleared i := by
  have e : s.pwrClear i = if (s.faultsCleared i).pwrState i = 6 || (s.faultsCleared i).pwrState i = 7 then
    (s.faultsCleared i).toDetect i else s.faultsCleared i := rfl
  rw [e, State.faultsCleared_pwrState]
  simp only [Bool.or_eq_true, decide_eq_true_eq]

theorem State.pwrCycle_locked (h : s.pwrState i = 6 ∨ s.pwrState i = 7) : s.pwrCycle i = s :=
  if_pos (by rcases h with h | h <;> rw [h] <;> rfl)

theorem State.pwrCycle_off (h6 : s.pwrState i ≠ 6) (h7 : s.pwrState i ≠ 7) :
    s.pwrCycle i = (s.pwrOff i 0 true).setPwr i { (s.pwrOff i 0 true).pwr i with cycling := true } :=
  if_neg (by simp [Pwr.fault, Pwr.hold, h6, h7])

/-! ### Writes of FLD_PWRCMD (R229, R242) -/

theorem pwrCmdWord_op {op : Nat} (ho : op < 4) (hi : i < 64) : fieldOf (wd (op * 2 ^ 30 + i)) 31 30 = op := by
  simp only [fieldOf, wd, BitVec.toNat_ofNat]; omega

theorem pwrCmdWord_port {op : Nat} (hi : i < 64) : fieldOf (wd (op * 2 ^ 30 + i)) 5 0 = i := by
  simp only [fieldOf, wd, BitVec.toNat_ofNat]; omega

variable {x : HPort} {op : Nat}

theorem State.hostPwrCmd_written (h : s.mayWrite x 9 = true) (ho : op < 4) (hi : i < 64) :
    s.hostPwrCmd x op i =
      if op = 0 ∨ 48 ≤ i ∨ s.fieldFitted i = false ∨ s.rf (F.FLD_PWRCFG_MODE i) = 0 then s.badVal
      else if op = 1 then s.pwrClear i
      else if op = 2 then s.pwrCycle i
      else s.pwrHold i := by
  rw [State.hostPwrCmd, State.asWrite_may h, State.writePwrCmd, pwrCmdWord_op ho hi, pwrCmdWord_port hi]
  simp only [Bool.or_eq_true, decide_eq_true_eq, Bool.not_eq_true', or_assoc]

theorem State.hostPwrCmd_refused (h : s.mayWrite x 9 = true) (ho : op < 4) (hi : i < 64)
    (hr : 48 ≤ i ∨ s.fieldFitted i = false ∨ s.rf (F.FLD_PWRCFG_MODE i) = 0) : s.hostPwrCmd x op i = s.badVal := by
  rw [State.hostPwrCmd_written h ho hi, if_pos (.inr hr)]

theorem State.hostPwrCmd_taken (h : s.mayWrite x 9 = true) (ho : op < 4) (hop : op ≠ 0) (hi : i < 48)
    (hf : s.fieldFitted i = true) (hm : s.rf (F.FLD_PWRCFG_MODE i) ≠ 0) :
    s.hostPwrCmd x op i = if op = 1 then s.pwrClear i else if op = 2 then s.pwrCycle i else s.pwrHold i := by
  rw [State.hostPwrCmd_written h ho (by omega), if_neg (by simp [hop, hf, hm, hi])]

/-! ### The charged sum of a group (R224) -/

/-- What port `j` adds to the charged sum of group `g`. -/
def State.chargeIn (s : State) (g j : Nat) : Nat :=
  if s.pwrState j = Pwr.on ∧ s.pwrGroup j = g then s.charge (s.rf (F.FLD_PWRSTAT_CLASS j)) else 0

theorem State.chargeSum_eq : s.chargeSum g = ∑ j ∈ Finset.range 48, s.chargeIn g j := by
  have hf : ∀ a j, (if s.pwrState j = Pwr.on && s.pwrGroup j = g then
      a + s.charge (s.rf (F.FLD_PWRSTAT_CLASS j)) else a) = a + s.chargeIn g j := by
    intro a j
    simp only [State.chargeIn, Bool.and_eq_true, decide_eq_true_eq, add_ite, Nat.add_zero]
  simp only [State.chargeSum, hf, sum_foldl_range]

theorem State.charge_congr (hv : t.variant = s.variant) (hf : t.fld.force = s.fld.force) : t.charge c = s.charge c := by
  simp only [State.charge, State.fldForce, hv, hf]

theorem State.chargeIn_congr (hv : t.variant = s.variant) (hf : t.fld.force = s.fld.force)
    (hs : t.reg (Reg.FLD_PWRSTAT j) = s.reg (Reg.FLD_PWRSTAT j)) (hc : t.reg (Reg.FLD_PWRCFG j) = s.reg (Reg.FLD_PWRCFG j)) :
    t.chargeIn g j = s.chargeIn g j := by
  have hst : t.pwrState j = s.pwrState j := State.rf_congr hs
  have hg : t.pwrGroup j = s.pwrGroup j := State.rf_congr hc
  have hcl : t.rf (F.FLD_PWRSTAT_CLASS j) = s.rf (F.FLD_PWRSTAT_CLASS j) := State.rf_congr hs
  rw [State.chargeIn, State.chargeIn, hst, hg, hcl, State.charge_congr hv hf]

/-- A port that is not in ON adds nothing; when it enters ON in its own group, the sum grows by its charge. -/
theorem State.chargeSum_grows (hi : i < 48) (hoff : s.pwrState i ≠ Pwr.on)
    (hothers : ∀ j < 48, j ≠ i → t.chargeIn g j = s.chargeIn g j) :
    t.chargeSum g = s.chargeSum g + t.chargeIn g i := by
  have hmem : i ∈ Finset.range 48 := Finset.mem_range.2 hi
  have hzero : s.chargeIn g i = 0 := if_neg fun h => hoff h.1
  rw [State.chargeSum_eq, State.chargeSum_eq, ← Finset.add_sum_erase _ _ hmem, ← Finset.add_sum_erase _ _ hmem, hzero,
    Finset.sum_congr rfl fun j hj => hothers j (Finset.mem_range.1 (Finset.mem_of_mem_erase hj)) (Finset.ne_of_mem_erase hj),
    Nat.zero_add, Nat.add_comm]

/-! ### Admission (R225) -/

@[simp] theorem State.report_fld {code part : Nat} {a b d : Word} : (s.report code part a b d).fld = s.fld := by
  rw [State.report_sinks]; rfl

theorem State.report_fieldReg {code part : Nat} {a b d : Word} (h : o < 0x100000) : (s.report code part a b d).reg o = s.reg o :=
  State.report_reg (by simp only [Reg.EVR_LOST]; omega) (by simp only [Reg.EVR_STAT]; omega)

theorem Reg.FLD_PWRSTAT_lt (h : i < 48) : Reg.FLD_PWRSTAT i < 0x100000 := by simp only [Reg.FLD_PWRSTAT]; omega

theorem Reg.FLD_PWRCFG_range (h : i < 48) : 0x90030 ≤ Reg.FLD_PWRCFG i ∧ Reg.FLD_PWRCFG i < 0x91300 := by
  simp only [Reg.FLD_PWRCFG]; omega

theorem Reg.FLD_PWRCFG_ne_PWRSTAT (h : j < 48) : Reg.FLD_PWRCFG j ≠ Reg.FLD_PWRSTAT i := by
  simp only [Reg.FLD_PWRCFG, Reg.FLD_PWRSTAT]; omega

theorem State.class_lt : s.rf (F.FLD_PWRSTAT_CLASS i) < 16 := Nat.mod_lt _ (Nat.two_pow_pos _)

/-- ON becomes pending, and the counts of bad readbacks start anew. -/
def State.onCommanded (s : State) (i : Nat) : State :=
  (s.pwrCmd i 4).setPwr i { (s.pwrCmd i 4).pwr i with wasOn := true, vSeen := false, overN := 0, underN := 0, lowN := 0 }

/-- The port is in ON with the class it was given. -/
def State.admitted (s : State) (i : Nat) : State := (s.onCommanded i).pwrEnter i 4 (s.rf (F.FLD_PWRSTAT_CLASS i))

theorem State.admitPort_fits (hw : s.pwrState i = 3) (hc : s.charge (s.rf (F.FLD_PWRSTAT_CLASS i)) ≠ 0)
    (hb : s.chargeSum (s.pwrGroup i) + s.charge (s.rf (F.FLD_PWRSTAT_CLASS i)) ≤ s.effBudget (s.pwrGroup i)) :
    s.admitPort i = (s.admitted i).report 0x0903 0 (wd i) (wd (s.rf (F.FLD_PWRSTAT_CLASS i))) (wd (s.pwrGroup i)) := by
  have hw' : ¬ (s.pwrState i != Pwr.wait) = true := by simp [hw, Pwr.wait]
  rw [State.admitPort, if_neg hw']
  dsimp only
  rw [if_neg hc, if_pos hb]
  rfl

/-- The first refusal of a wait is recorded, a later one is not. -/
theorem State.admitPort_refused (hw : s.pwrState i = 3) (hc : s.charge (s.rf (F.FLD_PWRSTAT_CLASS i)) ≠ 0)
    (hb : s.effBudget (s.pwrGroup i) < s.chargeSum (s.pwrGroup i) + s.charge (s.rf (F.FLD_PWRSTAT_CLASS i))) :
    s.admitPort i = if (s.pwr i).refused = true then s else (s.setPwr i { s.pwr i with refused := true }).report 0x0904 0 (wd i)
      (wd (s.rf (F.FLD_PWRSTAT_CLASS i))) (wd (s.chargeSum (s.pwrGroup i))) := by
  have hw' : ¬ (s.pwrState i != Pwr.wait) = true := by simp [hw, Pwr.wait]
  rw [State.admitPort, if_neg hw']
  dsimp only
  rw [if_neg hc, if_neg (Nat.not_le.2 hb)]

theorem State.onCommanded_reg : (s.onCommanded i).reg o = s.reg o := State.reg_congr rfl rfl

theorem State.onCommanded_force : (s.onCommanded i).fld.force = s.fld.force := rfl

theorem State.admitted_reg (h : o < 0x90020 ∨ 0x90030 ≤ o) (hi : o ≠ Reg.FLD_PWRSTAT i) : (s.admitted i).reg o = s.reg o := by
  rw [State.admitted, State.pwrEnter_reg h hi, State.onCommanded_reg]

theorem State.admitted_force : (s.admitted i).fld.force = s.fld.force := by
  rw [State.admitted, State.pwrEnter_fld, State.onCommanded_force]

theorem State.admitted_variant : (s.admitted i).variant = s.variant := Keeps.refl.setPwr.setPwr.pwrEnter.variant

theorem State.admitted_pwrState : (s.admitted i).pwrState i = 4 := State.pwrEnter_pwrState (by decide)

theorem State.admitted_class : (s.admitted i).rf (F.FLD_PWRSTAT_CLASS i) = s.rf (F.FLD_PWRSTAT_CLASS i) :=
  (State.pwrEnter_class State.class_lt).trans (if_pos (.inr rfl))

theorem State.admitted_cmds : ((s.admitted i).pwr i).cmds = (s.pwr i).cmds.filter (fun k => k = 5) ++ [4] := by
  simp [State.admitted, State.onCommanded]

/-- A port that leaves WAIT for ON adds its charge to its group's sum. -/
theorem State.admitted_chargeSum (hi : i < 48) (hw : s.pwrState i = 3) :
    (s.admitted i).chargeSum (s.pwrGroup i) = s.chargeSum (s.pwrGroup i) + s.charge (s.rf (F.FLD_PWRSTAT_CLASS i)) := by
  have hgroup : (s.admitted i).pwrGroup i = s.pwrGroup i :=
    State.rf_congr (State.admitted_reg (.inr (Reg.FLD_PWRCFG_range hi).1) (Reg.FLD_PWRCFG_ne_PWRSTAT hi))
  have hown : (s.admitted i).chargeIn (s.pwrGroup i) i = s.charge (s.rf (F.FLD_PWRSTAT_CLASS i)) := by
    rw [State.chargeIn, if_pos ⟨State.admitted_pwrState, hgroup⟩, State.admitted_class,
      State.charge_congr State.admitted_variant State.admitted_force]
  have hoff : s.pwrState i ≠ Pwr.on := by rw [hw]; decide
  rw [State.chargeSum_grows hi hoff fun j hj hne => ?_, hown]
  exact State.chargeIn_congr State.admitted_variant State.admitted_force
    (State.admitted_reg (.inr Reg.FLD_PWRSTAT_above) (Reg.FLD_PWRSTAT_ne hne))
    (State.admitted_reg (.inr (Reg.FLD_PWRCFG_range hj).1) (Reg.FLD_PWRCFG_ne_PWRSTAT hj))

/-- A report changes no state, class or charge of a port. -/
theorem State.report_pwrState {code part : Nat} {a b d : Word} (hi : i < 48) :
    (s.report code part a b d).pwrState i = s.pwrState i :=
  State.rf_congr (State.report_fieldReg (Reg.FLD_PWRSTAT_lt hi))

theorem State.report_chargeSum {code part : Nat} {a b d : Word} : (s.report code part a b d).chargeSum g = s.chargeSum g := by
  rw [State.chargeSum_eq, State.chargeSum_eq]
  refine Finset.sum_congr rfl fun j hj => ?_
  have hj := Finset.mem_range.1 hj
  exact State.chargeIn_congr State.report_variant (by rw [State.report_fld])
    (State.report_fieldReg (Reg.FLD_PWRSTAT_lt hj)) (State.report_fieldReg ((Reg.FLD_PWRCFG_range hj).2.trans (by decide)))

theorem State.setPwr_chargeSum {p : PortPwr} : (s.setPwr i p).chargeSum g = s.chargeSum g := by
  rw [State.chargeSum_eq, State.chargeSum_eq]
  exact Finset.sum_congr rfl fun j _ => State.chargeIn_congr rfl rfl State.setPwr_reg State.setPwr_reg

/-! ### The rows -/

theorem exec_pwrctlPoll {rs : List SideResp} : exec (.pwrctlPoll rs) s = .next (pwrctlPollEff rs s) := rfl

theorem exec_pwrctlFlt {rs : List SideResp} : exec (.pwrctlFlt rs) s = .next (pwrctlFltEff rs s) := rfl

theorem exec_powerBackoffExpiry {k : Fin 48} : exec (.powerBackoffExpiry k) s = .next (powerBackoffExpiryEff k s) := rfl

theorem exec_faultCountClear {k : Fin 48} : exec (.faultCountClear k) s = .next (faultCountClearEff k s) := rfl

theorem exec_powerClear {k : Fin 64} : exec (.powerClear x k) s = .next (s.hostPwrCmd x 1 k) := rfl

theorem exec_powerCycle {k : Fin 64} : exec (.powerCycle x k) s = .next (s.hostPwrCmd x 2 k) := rfl

theorem exec_powerHold {k : Fin 64} : exec (.powerHold x k) s = .next (s.hostPwrCmd x 3 k) := rfl

theorem exec_powerCycleExpiry {k : Fin 48} : exec (.powerCycleExpiry k) s = .next (powerCycleExpiryEff k s) := rfl

/-- Settles O41. -/
theorem fieldPower : Obligations.FieldPower := by
  refine ⟨?poll, ?inReset, ?extra, ?backoff, ?noBackoff, ?cleared, ?notCleared, ?taken, ?refused, ?clear, ?cycle, ?states,
    ?second, ?noSecond, ?admission⟩
  case poll =>
    intro rs s h
    rw [exec_pwrctlPoll, pwrctlPollEff, h]
    rfl
  case inReset =>
    intro rs s h
    rw [exec_pwrctlPoll, exec_pwrctlFlt, pwrctlPollEff, pwrctlFltEff, h]
    exact ⟨rfl, rfl⟩
  case extra =>
    intro rs cs s h hcs
    subst hcs
    rw [exec_pwrctlFlt, pwrctlFltEff, h]
    rfl
  case backoff =>
    intro i s h
    rw [exec_powerBackoffExpiry]
    exact congrArg Host.Outcome.next (if_pos h)
  case noBackoff =>
    intro i s h
    rw [exec_powerBackoffExpiry]
    exact congrArg Host.Outcome.next (if_neg h)
  case cleared =>
    intro i s h
    rw [exec_faultCountClear]
    exact congrArg Host.Outcome.next (if_pos h)
  case notCleared =>
    intro i s h
    rw [exec_faultCountClear]
    exact congrArg Host.Outcome.next (if_neg h)
  case taken =>
    intro x i s h hi hf hm
    rw [exec_powerClear, exec_powerCycle, exec_powerHold, State.hostPwrCmd_taken h (by decide) (by decide) hi hf hm,
      State.hostPwrCmd_taken h (by decide) (by decide) hi hf hm, State.hostPwrCmd_taken h (by decide) (by decide) hi hf hm]
    exact ⟨rfl, rfl, rfl⟩
  case refused =>
    intro x i s h hr
    rw [exec_powerClear, exec_powerCycle, exec_powerHold, State.hostPwrCmd_refused h (by decide) i.isLt hr,
      State.hostPwrCmd_refused h (by decide) i.isLt hr, State.hostPwrCmd_refused h (by decide) i.isLt hr]
    exact ⟨rfl, rfl, rfl⟩
  case clear =>
    intro i s
    rw [State.pwrClear_eq]
    split
    · next h =>
      refine ⟨?_, ?_, fun _ => State.toDetect_pwrState, fun h6 h7 => absurd h (not_or.2 ⟨h6, h7⟩)⟩
      · rw [State.toDetect_faultCount, State.faultsCleared_faultCount]
      · rw [State.toDetect_pwr, State.faultsCleared_wasOn]
    · next h =>
      exact ⟨State.faultsCleared_faultCount, State.faultsCleared_wasOn, fun hl => absurd hl h,
        fun _ _ => State.faultsCleared_pwrState⟩
  case cycle =>
    refine fun i s => ⟨State.pwrCycle_locked, fun h6 h7 => ?_⟩
    rw [State.pwrCycle_off h6 h7, State.setPwr_pwrState, State.pwr_setPwr_same]
    refine ⟨State.pwrOff_ordered_pwrState (by decide), rfl, State.pwrOff_ordered_cmds, ?_⟩
    rw [State.setPwr, State.pwrOff_ordered_ptx]
  case states =>
    intro i s
    refine ⟨State.toDetect_pwrState, State.toDetect_class, ?_, State.pwrOff_ordered_pwrState (by decide),
      State.pwrOff_ordered_cmds, ?_, fun j hj => ?_⟩
    · rw [State.toDetect_pwr]
    · rw [State.pwrHold, State.pwrOff_ordered_ptx]
    · have hne := Fin.val_ne_of_ne hj
      exact ⟨State.pwrOff_ordered_pwrState_other hne, State.toDetect_pwrState_other hne⟩
  case second =>
    intro i s hc hoff
    rw [exec_powerCycleExpiry, powerCycleExpiryEff, if_pos (by rw [hc, hoff]; rfl)]
  case noSecond =>
    intro i s h
    rw [exec_powerCycleExpiry, powerCycleExpiryEff, if_neg]
    rcases h with h | h <;> simp [h, Pwr.off]
  case admission =>
    intro i s hw hc
    refine ⟨fun hb => ?_, fun hb => ?_⟩
    · rw [State.admitPort_fits hw hc hb, State.report_pwrState i.isLt, State.report_chargeSum, State.pwr, State.report_fld]
      exact ⟨State.admitted_pwrState, State.admitted_cmds, State.admitted_chargeSum i.isLt hw⟩
    · have he := State.admitPort_refused hw hc hb
      refine ⟨?_, ?_, he⟩ <;> rw [he] <;> split
      · exact hw
      · rw [State.report_pwrState i.isLt, State.setPwr_pwrState, hw]
      · rfl
      · rw [State.report_chargeSum, State.setPwr_chargeSum]

end Sys2Proof.Machine
end

section
namespace Sys2Proof.Machine

/-! ## What completing staged transmit commands leaves alone (R179, R219)

A port that loses its link takes its frames out of the staging queues, and their commands complete, each perhaps with a fault of
its ring set. `TxKept s t` says of every operation on that way that it leaves the ports' states and transmit queues, and that no
queue gains a packet; a chain `h.a.b` says that the operation is `a` and then `b`. -/

/-- From `s` to `t` the lost ports, FLD_PSTAT and the transmit queues stay, and no queue gains a packet. -/
structure TxKept (s t : State) : Prop where
  lost : t.ptx.lost = s.ptx.lost
  pstat : ∀ o, 0x91100 ≤ o → o < 0x91200 → t.reg o = s.reg o
  sending : ∀ q, 256 ≤ q → q < 512 → t.queue q = s.queue q
  shrinks : ∀ q, t.queue q ⊆ s.queue q

namespace TxKept

variable {s t u : State} {x : HPort} {p q : Nat}

theorem refl : TxKept s s := ⟨rfl, fun _ _ _ => rfl, fun _ _ _ => rfl, fun _ _ => id⟩

theorem trans (h : TxKept s t) (k : TxKept t u) : TxKept s u where
  lost := k.lost.trans h.lost
  pstat := fun o h0 h1 => (k.pstat o h0 h1).trans (h.pstat o h0 h1)
  sending := fun q h0 h1 => (k.sending q h0 h1).trans (h.sending q h0 h1)
  shrinks := fun q => List.Subset.trans (k.shrinks q) (h.shrinks q)

theorem ite {c : Prop} {_ : Decidable c} (h : TxKept s t) (k : TxKept s u) : TxKept s (if c then t else u) := by
  split
  · exact h
  · exact k

/-- An operation that changes neither the pool nor the lost ports, and FLD_PSTAT no more. -/
theorem outside (h : TxKept s t) (hp : u.pool = t.pool) (hl : u.ptx.lost = t.ptx.lost)
    (hr : ∀ o, 0x91100 ≤ o → o < 0x91200 → u.reg o = t.reg o) : TxKept s u := by
  have hq : ∀ q, u.queue q = t.queue q := fun q => by rw [State.queue, State.queue, hp]
  exact h.trans ⟨hl, hr, fun q _ _ => hq q, fun q => by rw [hq]; exact List.Subset.refl _⟩

theorem setF {f : Fld} {n : Nat} (h : TxKept s t) (hf : f.off < 0x91100 ∨ 0x91200 ≤ f.off) : TxKept s (t.setF f n) :=
  h.outside State.setF_pool (by rw [State.setF_ptx]) fun o _ _ => State.reg_setF_other (by omega)

theorem setRing {r : RingSet} (h : TxKept s t) : TxKept s (t.setRing x p r) :=
  h.outside State.setRing_pool (by rw [State.setRing_ptx]) fun _ _ _ => State.setRing_reg

theorem msix {v : Nat} (h : TxKept s t) : TxKept s (t.msix x v) := by
  refine h.outside ?_ ?_ fun _ _ _ => State.msix_reg <;> (rw [State.msix_sinks]; rfl)

theorem report {code part : Nat} {a b c : Word} (h : TxKept s t) : TxKept s (t.report code part a b c) := by
  refine h.outside ?_ ?_ fun _ _ _ => State.report_fieldReg (by omega) <;> (rw [State.report_sinks]; rfl)

/-- A queue that is no port's transmit queue loses packets. -/
theorem emptyQueue (h : TxKept s t) (hq : q < 256 ∨ 512 ≤ q) : TxKept s (t.emptyQueue q) :=
  h.trans ⟨rfl, fun _ _ _ => State.emptyQueue_reg, fun r _ _ => State.emptyQueue_queue_other (by omega), fun r => by
    by_cases e : r = q
    · rw [e, State.emptyQueue_queue]; exact List.nil_subset _
    · rw [State.emptyQueue_queue_other e]; exact List.Subset.refl _⟩

theorem flushNow (h : TxKept s t) (hq : q < 256 ∨ 512 ≤ q ∧ q < 768) : TxKept s (t.flushNow q) :=
  have k := h.emptyQueue (hq.imp_right And.left)
  .ite k (k.setF (by simp only [F.QPL_QSTAT_FLUSHED, Reg.QPL_QSTAT]; omega))

theorem endSubs (h : TxKept s t) : TxKept s (t.endSubs x p) :=
  h.trans ⟨rfl, fun _ _ _ => State.endSubs_reg, fun _ _ _ => rfl, fun _ _ => id⟩

theorem dropRing (h : TxKept s t) (hp : p < 128) : TxKept s (t.dropRing x p) := by
  have hrx : rxQueue x p < 256 := by cases x <;> simp only [rxQueue, HPort.num] <;> omega
  have hst : 512 ≤ stagingQueue x p ∧ stagingQueue x p < 768 := by cases x <;> simp only [stagingQueue, HPort.num] <;> omega
  exact ((h.setRing.flushNow (.inl hrx)).flushNow (.inr hst)).endSubs

theorem ringFault {errc : Nat} (h : TxKept s t) (hp : p < 128) : TxKept s (t.ringFault x p errc) := by
  have hrs : (rsField x p).off < 0x91100 := (rsField_lt hp).trans (by decide)
  exact ((h.setF (.inl hrs)).dropRing hp).setRing.report.msix

theorem fireVec {k : RingVec} (h : TxKept s t) : TxKept s (t.fireVec x p k) := .ite h.setRing.msix h

theorem noteEntries {k : RingVec} (h : TxKept s t) : TxKept s (t.noteEntries x p k) := .ite h.fireVec h.setRing

theorem emit {o : Out} (h : TxKept s t) : TxKept s (t.emit o) := h.outside rfl rfl fun _ _ _ => State.reg_congr rfl rfl

theorem setHmem {m : Store Byte} (h : TxKept s t) : TxKept s (t.setHmem x m) := by
  refine h.outside ?_ ?_ fun _ _ _ => State.reg_congr State.setHmem_variant State.setHmem_regs <;> (cases x <;> rfl)

theorem dmaWrite {a : Nat} {data : List Byte} (h : TxKept s t) : TxKept s (t.dmaWrite x p a data).2 := by
  unfold State.dmaWrite
  split
  · exact h
  · dsimp only
    split
    · exact h.emit.setHmem
    · exact h.emit

/-- The state that an operation answers beside a value. -/
theorem of_eq {α : Type} {r : α × State} {a : α} (h : TxKept s r.2) (e : r = (a, u)) : TxKept s u := by
  subst e
  exact h

theorem writeCpl {o : Op} (h : TxKept s t) (hp : p < 128) : TxKept s (t.writeCpl x p o).2 := by
  unfold State.writeCpl
  extract_lets r w1
  split
  · next e => exact (h.dmaWrite.of_eq e).ringFault hp
  · next e => exact (h.dmaWrite.of_eq e).setRing.noteEntries

theorem drain {n : Nat} (h : TxKept s t) (hp : p < 128) : TxKept s (t.drain x p n) := by
  induction n generalizing t with
  | zero => exact h
  | succ n ih =>
    unfold State.drain
    split
    · next o os _ =>
      split
      · split
        · next e => exact ih ((h.writeCpl hp).of_eq e)
        · next e => exact (h.writeCpl hp).of_eq e
      · exact h
    · exact h

theorem completeLate {id status : Nat} {r0 r1 : Word} (h : TxKept s t) (hp : p < 128) :
    TxKept s (t.completeLate x p id status r0 r1) := h.setRing.drain hp

theorem endStaged {status : Nat} {ks : List Pkt} (h : TxKept s t) : TxKept s (t.endStaged status ks) := by
  induction ks generalizing t with
  | nil => exact h
  | cons k ks ih =>
    refine ih ?_
    dsimp only
    split
    · next y c _ _ => exact h.completeLate c.isLt
    · exact h

theorem filterQueue {keep : Pkt → Bool} (h : TxKept s t) (hq : 512 ≤ q) : TxKept s (t.filterQueue q keep) := by
  have hsame : (t.filterQueue q keep).queue q = (t.queue q).filter keep := Store.get_put_same
  have hother : ∀ r, r ≠ q → (t.filterQueue q keep).queue r = t.queue r := fun r hr => Store.get_put_other hr
  refine h.trans ⟨rfl, fun _ _ _ => State.reg_congr rfl rfl, fun r _ _ => hother r (by omega), fun r => ?_⟩
  by_cases e : r = q
  · rw [e, hsame]; exact List.filter_subset_self _
  · rw [hother r e]; exact List.Subset.refl _

/-- What no packet of a queue does, none of it does later. -/
theorem all {f : Pkt → Bool} (h : TxKept s t) (ha : (s.queue q).all f = true) : (t.queue q).all f = true :=
  List.all_eq_true.2 fun k hk => List.all_eq_true.1 ha k (h.shrinks q hk)

end TxKept

section

variable {s : State} {i q : Nat}

/-! ### Frames of a port in the staging queues -/

theorem State.dropStaged_none (h : (s.queue q).all (fun k => !k.forPort i) = true) : s.dropStaged i q = s := by
  have hf : (s.queue q).filter (fun k => k.forPort i) = [] := by simpa using h
  simp only [State.dropStaged, hf, if_true]

theorem TxKept.dropStaged (hq : 512 ≤ q) : TxKept s (s.dropStaged i q) :=
  .ite .refl ((TxKept.refl.filterQueue hq).endStaged.setF (by simp only [F.FLD_TXDROP_CNT, Reg.FLD_TXDROP]; omega))

theorem State.dropStaged_cleared : ((s.dropStaged i q).queue q).all (fun k => !k.forPort i) = true := by
  by_cases h : (s.queue q).filter (fun k => k.forPort i) = []
  · rw [State.dropStaged_none] <;> simpa using h
  · have hkept : ((s.filterQueue q (fun k => !k.forPort i)).queue q).all (fun k => !k.forPort i) = true := by
      have e : (s.filterQueue q (fun k => !k.forPort i)).queue q = (s.queue q).filter (fun k => !k.forPort i) :=
        Store.get_put_same
      simp [e]
    rw [State.dropStaged]
    simp only [h, if_false]
    exact TxKept.refl.endStaged.all hkept

/-- The frames in the port's transmit queue are discarded and counted. -/
def State.dropSending (s : State) (i : Nat) : State :=
  (s.emptyQueue (320 + i)).addSat (F.FLD_TXDROP_CNT i) (s.queue (320 + i)).length

theorem State.dropTx_eq : s.dropTx i = forUpto 256 (s.dropSending i) (fun q t => t.dropStaged i (512 + q)) := rfl

theorem State.dropTx_kept :
    TxKept (s.dropSending i) (s.dropTx i) ∧
      ∀ q, q < 256 → ((s.dropTx i).queue (512 + q)).all (fun k => !k.forPort i) = true := by
  rw [State.dropTx_eq]
  refine forUpto_invariant (P := fun n (u : State) => TxKept (s.dropSending i) u ∧
    ∀ q, q < n → (u.queue (512 + q)).all (fun k => !k.forPort i) = true)
    ⟨.refl, fun q hq => absurd hq (Nat.not_lt_zero q)⟩ ?_
  rintro n u hn ⟨hk, ha⟩
  have hstep : TxKept u (u.dropStaged i (512 + n)) := .dropStaged (by omega)
  refine ⟨hk.trans hstep, fun q hq => ?_⟩
  rcases Nat.lt_succ_iff_lt_or_eq.1 hq with hlt | heq
  · exact hstep.all (ha q hlt)
  · rw [heq]
    exact State.dropStaged_cleared

theorem State.dropSending_queue : (s.dropSending i).queue (320 + i) = [] := State.emptyQueue_queue

theorem State.dropSending_queue_other (h : q ≠ 320 + i) : (s.dropSending i).queue q = s.queue q :=
  State.emptyQueue_queue_other h

theorem State.dropSending_reg {o : Nat} (h : o ≠ Reg.FLD_TXDROP i) : (s.dropSending i).reg o = s.reg o := by
  rw [State.dropSending, State.addSat_reg h, State.emptyQueue_reg]

/-- Without a frame for the port in a staging queue, only those of its transmit queue are counted. -/
theorem State.dropTx_unstaged (hi : i < 64) (h : ∀ q, q < 256 → (s.queue (512 + q)).all (fun k => !k.forPort i) = true) :
    s.dropTx i = s.dropSending i := by
  rw [State.dropTx_eq]
  refine forUpto_invariant (P := fun _ u => u = s.dropSending i) rfl ?_
  rintro q u hq rfl
  exact State.dropStaged_none (by rw [State.dropSending_queue_other (by omega)]; exact h q hq)

/-! ### The loss of a link -/

/-- The stations of the port are lost, and the loss of its link is reported. -/
def State.linkTold (s : State) (i : Nat) (rx : Word) : State :=
  ((s.portLost i 0).report 0x0902 0 (wd i) rx 0).raiseFld 0

theorem State.linkDown_link (h : s.on (F.FLD_PSTAT_LINK i) = true) :
    s.linkDown i = ((s.clearLink i).dropTx i).linkTold i (s.reg (Reg.FLD_RXOK i)) := if_pos h

theorem State.linkTold_reg {o : Nat} {rx : Word} (h : o < 0x100000) (hs : o ≠ Reg.FLD_STAT) :
    (s.linkTold i rx).reg o = s.reg o := by
  rw [State.linkTold, State.raiseFld, State.raise_reg hs, State.report_fieldReg h]
  exact State.reg_congr rfl rfl

@[simp] theorem State.linkTold_queue {rx : Word} : (s.linkTold i rx).queue q = s.queue q := by
  rw [State.linkTold, State.raiseFld, State.raise_sinks, State.report_sinks]
  rfl

@[simp] theorem State.linkTold_lost {rx : Word} : (s.linkTold i rx).ptx.lost = s.ptx.lost ++ [(i, 0)] := by
  rw [State.linkTold, State.raiseFld, State.raise_sinks, State.report_sinks]
  rfl

theorem Reg.FLD_PSTAT_range (h : i < 64) : 0x91100 ≤ Reg.FLD_PSTAT i ∧ Reg.FLD_PSTAT i < 0x91200 := by
  simp only [Reg.FLD_PSTAT]; omega

theorem Reg.FLD_PSTAT_ne_TXDROP {j : Nat} (h : j < 64) : Reg.FLD_PSTAT j ≠ Reg.FLD_TXDROP i := by
  simp only [Reg.FLD_PSTAT, Reg.FLD_TXDROP]; omega

/-- FLD_PSTAT of every port after the loss of one's link is what clearing that one leaves. -/
theorem State.linkDown_pstat {j : Nat} (h : s.on (F.FLD_PSTAT_LINK i) = true) (hj : j < 64) :
    (s.linkDown i).reg (Reg.FLD_PSTAT j) = (s.clearLink i).reg (Reg.FLD_PSTAT j) := by
  obtain ⟨h0, h1⟩ := Reg.FLD_PSTAT_range hj
  rw [State.linkDown_link h, State.linkTold_reg (by omega) (by simp only [Reg.FLD_STAT]; omega),
    State.dropTx_kept.1.pstat _ h0 h1, State.dropSending_reg (Reg.FLD_PSTAT_ne_TXDROP hj)]

/-- A transmit queue after the loss of a link is what discarding the port's frames leaves. -/
theorem State.linkDown_sending {j : Nat} (h : s.on (F.FLD_PSTAT_LINK i) = true) (hj : j < 64) :
    (s.linkDown i).queue (320 + j) = ((s.clearLink i).dropSending i).queue (320 + j) := by
  rw [State.linkDown_link h, State.linkTold_queue, State.dropTx_kept.1.sending _ (by omega) (by omega)]

theorem State.linkDown_dropCount (h : s.on (F.FLD_PSTAT_LINK i) = true) (hi : i < 64)
    (hn : ∀ q, q < 256 → (s.queue (512 + q)).all (fun k => !k.forPort i) = true) :
    (s.linkDown i).rf (F.FLD_TXDROP_CNT i) =
      min 0xFFFFFFFF (s.rf (F.FLD_TXDROP_CNT i) + (s.queue (320 + i)).length) := by
  have hoff : Reg.FLD_TXDROP i < 0x100000 ∧ Reg.FLD_TXDROP i ≠ Reg.FLD_STAT ∧ Reg.FLD_TXDROP i ≠ Reg.FLD_PSTAT i := by
    simp only [Reg.FLD_TXDROP, Reg.FLD_STAT, Reg.FLD_PSTAT]; omega
  obtain ⟨hlt, hstat, hpstat⟩ := hoff
  have hold : ((s.clearLink i).emptyQueue (320 + i)).rf (F.FLD_TXDROP_CNT i) = s.rf (F.FLD_TXDROP_CNT i) :=
    State.rf_congr (State.emptyQueue_reg.trans (State.reg_setReg_other hpstat))
  rw [State.linkDown_link h, State.rf_congr (State.linkTold_reg hlt hstat), State.dropTx_unstaged (s := s.clearLink i) hi hn,
    State.dropSending, State.addSat_rf (Nat.zero_le _) (by decide : 31 < 32), hold, Nat.min_comm]
  rfl

end

end Sys2Proof.Machine
end

section
namespace Sys2Proof.Machine

/-! ## Links, PLCA cycles and MDIO (R202 to R206, R219, R244, R245, R694) -/

variable {s : State} {i g n : Nat} {x : HPort} {v : Word}

/-! ### Two writes of one key -/

theorem Store.filter_insert_same {α : Type} {m : Store α} {k : Nat} {v : α} :
    (Store.insert m k v).filter (fun e => e.1 != k) = m.filter (fun e => e.1 != k) := by
  induction m with
  | nil => simp [Store.insert]
  | cons e m ih =>
    unfold Store.insert
    split
    · simp
    · rw [List.filter_cons, List.filter_cons, ih]

/-- The last value written at a key stands. -/
theorem Store.put_put {α : Type} [DecidableEq α] {d : Nat → α} {m : Store α} {k : Nat} {v w : α} :
    Store.put d (Store.put d m k v) k w = Store.put d m k w := by
  have hf : (Store.put d m k v).filter (fun e => e.1 != k) = m.filter (fun e => e.1 != k) := by
    unfold Store.put
    split
    · simp
    · simp [Store.filter_insert_same]
  rw [Store.put, hf]
  rfl

/-! ### Links -/

theorem exec_fieldLinkUp {k : Fin 64} {lv1 lead : Bool} :
    exec (.fieldLinkUp k lv1 lead) s = .next (fieldLinkUpEff k lv1 lead s) := rfl

theorem fieldLinkUpEff_refused {k : Fin 64} {lv1 lead : Bool} (h : s.fieldFitted k = false ∨ s.on (F.FLD_PCTL_EN k) = false ∨
      s.on (F.FLD_PSTAT_LINK k) = true ∨ s.inReset 9 = true ∨ s.linkAgrees k lv1 lead = false) :
    fieldLinkUpEff k lv1 lead s = s := by
  refine if_pos ?_
  rcases h with h | h | h | h | h <;> simp [h]

/-- What a port shows whose link is up: on a segment neither a level nor a role (R203). -/
def State.linkShown (s : State) (i : Nat) (lv1 lead : Bool) : State :=
  ((s.setF (F.FLD_PSTAT_LINK i) 1).setF (F.FLD_PSTAT_LV1 i) (ofBool (lv1 && !Decidable.decide (48 ≤ i)))).setF
    (F.FLD_PSTAT_LEAD i) (ofBool (lead && !Decidable.decide (48 ≤ i)))

theorem fieldLinkUpEff_up {k : Fin 64} {lv1 lead : Bool} (hf : s.fieldFitted k = true) (he : s.on (F.FLD_PCTL_EN k) = true)
    (hl : s.on (F.FLD_PSTAT_LINK k) = false) (hr : s.inReset 9 = false) (ha : s.linkAgrees k lv1 lead = true) :
    fieldLinkUpEff k lv1 lead s = (if 48 ≤ k.val then
      (s.linkShown k lv1 lead).useFree.report 0x0901 0 (wd k) 2 (wd ((s.linkShown k lv1 lead).freeVal.toNat % 2))
      else (s.linkShown k lv1 lead).report 0x0901 0 (wd k) (wd (ofBool lv1)) (wd (ofBool !lead))).raiseFld 0 := by
  rw [fieldLinkUpEff, if_neg (by simp [hf, he, hl, hr, ha])]
  rfl

theorem State.linkShown_t1l {lv1 lead : Bool} (h : i < 48) : s.linkShown i lv1 lead =
    ((s.setF (F.FLD_PSTAT_LINK i) 1).setF (F.FLD_PSTAT_LV1 i) (ofBool lv1)).setF (F.FLD_PSTAT_LEAD i) (ofBool lead) := by
  simp [State.linkShown, Nat.not_le.2 h]

theorem State.linkShown_t1s {lv1 lead : Bool} (h : 48 ≤ i) : s.linkShown i lv1 lead =
    ((s.setF (F.FLD_PSTAT_LINK i) 1).setF (F.FLD_PSTAT_LV1 i) 0).setF (F.FLD_PSTAT_LEAD i) 0 := by
  simp [State.linkShown, h, ofBool]

/-- A segment asks for neither level nor role (R203). -/
theorem State.linkAgrees_t1s {lv1 lead : Bool} (h : 48 ≤ i) : s.linkAgrees i lv1 lead = true := by
  simp [State.linkAgrees, h]

theorem exec_fieldLinkDown {k : Fin 64} : exec (.fieldLinkDown k) s = .next (s.linkDown k) := rfl

theorem exec_sqiUpdate {k : Fin 48} {snr : Int} : exec (.sqiUpdate k snr) s = .next (sqiUpdateEff k snr s) := rfl

/-! ### PLCA cycles -/

theorem exec_plcaCycleStart {k : Fin 16} {late : Option (Nat × Nat)} :
    exec (.plcaCycleStart k late) s = .next (plcaCycleStartEff k late s) := rfl

/-- A beacon is sent, and no frame counts as sent in the cycle. -/
def State.beaconSent (s : State) (g : Fin 16) : State :=
  { s.emit (.beacon g) with fld := { s.fld with plcaSent := Store.put natZero s.fld.plcaSent g 0 } }

theorem plcaCycleStartEff_onTime {k : Fin 16} (he : s.on (F.FLD_PCTL_EN (48 + k.val)) = true) (hr : s.inReset 9 = false) :
    plcaCycleStartEff k none s = (s.beaconSent k).setOpportunity k 24 := if_neg (by simp [he, hr])

theorem plcaCycleStartEff_late {k : Fin 16} {node ns : Nat} (he : s.on (F.FLD_PCTL_EN (48 + k.val)) = true)
    (hr : s.inReset 9 = false) : plcaCycleStartEff k (some (node, ns)) s =
      (((s.beaconSent k).setOpportunity k (ceilDiv ns 100 + 24)).addSat (F.FLD_PLCAOVR_CNT k) 1).report 0x0908 0 (wd k) (wd node)
        (wd ns) := if_neg (by simp [he, hr])

theorem plcaCycleStartEff_idle {k : Fin 16} {late : Option (Nat × Nat)}
    (h : s.on (F.FLD_PCTL_EN (48 + k.val)) = false ∨ s.inReset 9 = true) : plcaCycleStartEff k late s = s := by
  refine if_pos ?_
  rcases h with h | h <;> simp [h]

@[simp] theorem State.setOpportunity_plcaFrom {a : Nat} :
    (s.setOpportunity g a).fld.plcaFrom = Store.put natZero s.fld.plcaFrom g a := rfl

@[simp] theorem State.setOpportunity_plcaOpen {a : Nat} :
    (s.setOpportunity g a).fld.plcaOpen = Store.put natZero s.fld.plcaOpen g (a + fieldOf (s.plca g) 23 16) := rfl

@[simp] theorem State.setOpportunity_plcaSent {a : Nat} : (s.setOpportunity g a).plcaSent n = s.plcaSent n := rfl

@[simp] theorem State.beaconSent_plcaFrom {k : Fin 16} : (s.beaconSent k).fld.plcaFrom = s.fld.plcaFrom := rfl

@[simp] theorem State.beaconSent_plcaOpen {k : Fin 16} : (s.beaconSent k).fld.plcaOpen = s.fld.plcaOpen := rfl

@[simp] theorem State.beaconSent_plca {k : Fin 16} : (s.beaconSent k).plca n = s.plca n := rfl

theorem State.beaconSent_plcaSent {k : Fin 16} : (s.beaconSent k).plcaSent k = 0 := by
  rw [State.plcaSent, State.beaconSent, Store.get_put_same]

theorem State.beaconSent_plcaSent_other {k : Fin 16} (h : n ≠ k.val) : (s.beaconSent k).plcaSent n = s.plcaSent n := by
  rw [State.plcaSent, State.beaconSent, Store.get_put_other h, State.plcaSent]

/-- An opportunity that opens anew replaces the one before. -/
theorem State.setOpportunity_again {a b : Nat} : (s.setOpportunity g a).setOpportunity g b = s.setOpportunity g b := by
  have hp : (s.setOpportunity g a).plca g = s.plca g := rfl
  rw [State.setOpportunity, hp]
  simp only [State.setOpportunity, Store.put_put]

/-! ### MDIO -/

theorem exec_mdioAccess : exec (.mdioAccess x v) s = .next (mdioAccessEff x v s) := rfl

theorem exec_mdioComplete {data : BitVec 16} : exec (.mdioComplete data) s = .next (mdioCompleteEff data s) := rfl

theorem fieldOf_go_wr : fieldOf v 31 30 = 2 * fieldOf v 31 31 + fieldOf v 30 30 := by
  simp only [fieldOf]; omega

theorem State.writeMdio_busy (h : s.on F.FLD_MDIO_GO = true) : s.writeMdio v = s := if_pos h

/-- The register takes the written word, with GO 0. -/
def State.mdioStored (s : State) (v : Word) : State := s.setReg Reg.FLD_MDIO (v &&& 0x7F1FFFFF)

theorem State.writeMdio_noGo (h : s.on F.FLD_MDIO_GO = false) (hg : fieldOf v 31 31 = 0) : s.writeMdio v = s.mdioStored v := by
  simp only [State.writeMdio, h, hg, Bool.false_eq_true, if_false, if_true]
  rfl

theorem State.writeMdio_read (h : s.on F.FLD_MDIO_GO = false) (hg : fieldOf v 31 30 = 2) :
    s.writeMdio v = if s.fieldFitted (fieldOf v 29 24) = true then ((s.mdioStored v).setF F.FLD_MDIO_GO 1).emit
      (.mdio (fieldOf v 29 24) (fieldOf v 20 16) (s.rf F.FLD_MDIOA_REGAD) none)
      else ((s.mdioStored v).setF F.FLD_MDIO_DATA 0).badVal := by
  have hb : fieldOf v 30 30 < 2 := Nat.mod_lt _ (by decide)
  have hgo : fieldOf v 31 31 = 1 := by have := fieldOf_go_wr (v := v); omega
  have hwr : fieldOf v 30 30 = 0 := by have := fieldOf_go_wr (v := v); omega
  cases hf : s.fieldFitted (fieldOf v 29 24) <;> simp [State.writeMdio, State.mdioStored, h, hgo, hwr, hf]

theorem State.writeMdio_write (h : s.on F.FLD_MDIO_GO = false) (hg : fieldOf v 31 30 = 3) :
    s.writeMdio v = if s.fieldFitted (fieldOf v 29 24) = false ∨ s.on (F.FLD_PCTL_EN (fieldOf v 29 24)) = true
      then (s.mdioStored v).badVal else ((s.mdioStored v).setF F.FLD_MDIO_GO 1).emit
      (.mdio (fieldOf v 29 24) (fieldOf v 20 16) (s.rf F.FLD_MDIOA_REGAD) (some (fieldOf v 15 0))) := by
  have hb : fieldOf v 30 30 < 2 ∧ fieldOf v 31 31 < 2 := ⟨Nat.mod_lt _ (by decide), Nat.mod_lt _ (by decide)⟩
  have hgo : fieldOf v 31 31 = 1 := by have := fieldOf_go_wr (v := v); omega
  have hwr : fieldOf v 30 30 = 1 := by have := fieldOf_go_wr (v := v); omega
  simp [State.writeMdio, State.mdioStored, h, hgo, hwr]

theorem mdioAccessEff_may (h : s.mayWrite x 9 = true) : mdioAccessEff x v s = s.writeMdio v := State.asWrite_may h

theorem mdioCompleteEff_runs {data : BitVec 16} (h : s.on F.FLD_MDIO_GO = true) :
    mdioCompleteEff data s = (if s.on F.FLD_MDIO_WR then s else s.setF F.FLD_MDIO_DATA data.toNat).setF F.FLD_MDIO_GO 0 :=
  if_pos h

theorem mdioCompleteEff_idle {data : BitVec 16} (h : s.on F.FLD_MDIO_GO = false) : mdioCompleteEff data s = s :=
  if_neg (by rw [h]; decide)

/-! ## Frames in and between slots (R212 to R217) -/

theorem exec_fieldFrameReceived {k : Fin 64} {data : List Byte} {good : Bool} :
    exec (.fieldFrameReceived k data good) s = .next (fieldFrameReceivedEff k data good s) := rfl

theorem fieldFrameReceivedEff_closed {k : Fin 64} {data : List Byte} {good : Bool}
    (h : s.on (F.FLD_PCTL_EN k) = false ∨ s.on (F.FLD_PSTAT_LINK k) = false ∨ s.inReset 9 = true) :
    fieldFrameReceivedEff k data good s = s := by
  refine if_pos ?_
  rcases h with h | h | h <;> simp [h]

/-- The length limits of R212 count the FCS, which the data leaves out. -/
theorem frameBad_iff {good : Bool} {data : List Byte} :
    (!good || Decidable.decide (data.length + 4 < 64) || Decidable.decide (1522 < data.length + 4)) = true ↔
      good = false ∨ data.length < 60 ∨ 1518 < data.length := by
  simp only [Bool.or_eq_true, Bool.not_eq_true', decide_eq_true_eq, or_assoc]
  exact or_congr Iff.rfl (or_congr (by omega) (by omega))

theorem fieldFrameReceivedEff_open {k : Fin 64} {data : List Byte} {good : Bool} (he : s.on (F.FLD_PCTL_EN k) = true)
    (hl : s.on (F.FLD_PSTAT_LINK k) = true) (hr : s.inReset 9 = false) : fieldFrameReceivedEff k data good s =
      if good = false ∨ data.length < 60 ∨ 1518 < data.length then s.addSat (F.FLD_RXERR_CNT k) 1
      else if s.macAccepted k (natBE (data.take 6)) = false then
        (if s.on (F.FLD_PCTL_PROM k) = true then s.fieldToHost k data else s.addSat (F.FLD_RXFILT_CNT k) 1)
      else if (etherOf data).1 ≠ s.rf F.FLD_CTL_ETYPE then s.fieldToHost k data
      else if s.stns.any (fun t => t.port = k.val && t.mac = natBE ((data.drop 6).take 6)) = true then s.fieldToPoints k data
      else s.addSat (F.FLD_RXUNK_CNT k) 1 := by
  rw [fieldFrameReceivedEff, if_neg (by simp [he, hl, hr])]
  simp only [frameBad_iff, Bool.not_eq_true', ite_not]

theorem pointFrameTransmitEff_due {k : Nat} {e : Ent} {t : Stn} (hk : s.ents[k]? = some e) (hx : s.exchanges = true)
    (ha : e.activeIn s.frameNo = true) (hl : s.on (F.FLD_PSTAT_LINK e.port) = true)
    (hsent : (s.exch e.key).sent ≠ s.frameNo + 1) (ht : s.stns.find? (fun u => u.epn = e.epn) = some t) :
    pointFrameTransmitEff k s = s.sendRequest e t.mac := by
  simp [pointFrameTransmitEff, hk, hx, ha, hl, hsent, ht]

theorem pointFrameTransmitEff_notDue {k : Nat} {e : Ent} (hk : s.ents[k]? = some e)
    (h : s.exchanges = false ∨ e.activeIn s.frameNo = false ∨ s.on (F.FLD_PSTAT_LINK e.port) = false ∨
      (s.exch e.key).sent = s.frameNo + 1 ∨ s.stns.find? (fun u => u.epn = e.epn) = none) : pointFrameTransmitEff k s = s := by
  simp only [pointFrameTransmitEff, hk]
  rcases h with h | h | h | h | h <;> simp [h]

theorem exec_pointFrameTransmit {k : Nat} : exec (.pointFrameTransmit k) s = .next (pointFrameTransmitEff k s) := rfl

theorem exec_nonpointFrameTransmit {k : Fin 64} {time : Nat} :
    exec (.nonpointFrameTransmit k time) s = .next (nonpointFrameTransmitEff k time s) := rfl

theorem nonpointFrameTransmitEff_empty {k : Fin 64} {time : Nat}
    (h : s.on (F.FLD_PSTAT_LINK k) = false ∨ s.inReset 9 = true ∨ s.queue (320 + k) = []) :
    nonpointFrameTransmitEff k time s = s := by
  rcases h with h | h | h
  · exact if_pos (by simp [h])
  · exact if_pos (by simp [h])
  · simp [nonpointFrameTransmitEff, fieldTx, h]

/-! ### The oldest frame of a port with link -/

section

variable {k : Fin 64} {time : Nat} {p p' : Pkt} {ps : List Pkt} {t : State} (hl : s.on (F.FLD_PSTAT_LINK k) = true)
  (hr : s.inReset 9 = false) (hq : s.queue (320 + k) = p :: ps)

include hl hr hq

theorem nonpointFrameTransmitEff_sends (hm : s.maySend k time p.data.length = true) (ht : s.takePkt (320 + k) = (some p', t)) :
    nonpointFrameTransmitEff k time s = t.sendAt k time p'.data := by
  simp [nonpointFrameTransmitEff, fieldTx, hl, hr, hq, hm, ht]

theorem nonpointFrameTransmitEff_drops (hm : s.maySend k time p.data.length = true) (ht : s.takePkt (320 + k) = (none, t)) :
    nonpointFrameTransmitEff k time s = t := by
  simp [nonpointFrameTransmitEff, fieldTx, hl, hr, hq, hm, ht]

/-- A frame that may not leave now is counted as held once on a T1L port. -/
theorem nonpointFrameTransmitEff_holds (hm : s.maySend k time p.data.length = false) :
    nonpointFrameTransmitEff k time s =
      if k.val < 48 ∧ s.isHeld k p.seq = false then (s.setHeld k p.seq).addSat (F.FLD_TXDEFER_CNT k) 1 else s := by
  simp [nonpointFrameTransmitEff, fieldTx, hl, hr, hq, hm]

end

/-- A frame that may not leave now stays; on a segment, and where it has been counted, nothing changes. -/
theorem nonpointFrameTransmitEff_waits {k : Fin 64} {time : Nat} {p : Pkt} {ps : List Pkt} (hq : s.queue (320 + k) = p :: ps)
    (hm : s.maySend k time p.data.length = false) (hw : 48 ≤ k.val ∨ s.isHeld k p.seq = true) :
    nonpointFrameTransmitEff k time s = s := by
  cases hl : s.on (F.FLD_PSTAT_LINK k)
  · exact nonpointFrameTransmitEff_empty (.inl hl)
  cases hr : s.inReset 9
  · have hn : ¬ (k.val < 48 ∧ s.isHeld k p.seq = false) := by
      rintro ⟨hlt, hh⟩
      rcases hw with h | h
      · omega
      · rw [hh] at h; cases h
    rw [nonpointFrameTransmitEff_holds hl hr hq hm, if_neg hn]
  · exact nonpointFrameTransmitEff_empty (.inr (.inl hr))

/-- Settles O40. -/
theorem fieldLinksAndFrames : Obligations.FieldLinksAndFrames := by
  refine ⟨?linkUp, ?segmentUp, ?noLink, ?linkDown, ?noLinkDown, ?sqi, ?noSqi, ?cycle, ?noCycle, ?read, ?write, ?notAllowed,
    ?busy, ?readDone, ?otherDone, ?received, ?closed, ?slot, ?noSlot, ?noEntry, ?sent, ?poisoned, ?held, ?waits, ?nothing⟩
  case linkUp =>
    intro i lv1 lead s hi hf he hl hr ha
    rw [exec_fieldLinkUp, fieldLinkUpEff_up hf he hl hr ha, if_neg (Nat.not_le.2 hi), State.linkShown_t1l hi]
  case segmentUp =>
    intro i lv1 lead s t hi hf he hl hr ht
    rw [exec_fieldLinkUp, fieldLinkUpEff_up hf he hl hr (State.linkAgrees_t1s hi), if_pos hi, State.linkShown_t1s hi, ht]
  case noLink =>
    intro i lv1 lead s h
    rw [exec_fieldLinkUp, fieldLinkUpEff_refused h]
  case linkDown =>
    intro i s h
    refine ⟨_, exec_fieldLinkDown, ?_, ?_, ?_, ?_, State.linkDown_dropCount h i.isLt, fun j hj => ⟨?_, ?_⟩⟩
    · rw [State.linkDown_pstat h i.isLt]
      exact State.reg_setReg_same
    · rw [State.linkDown_sending h i.isLt, State.dropSending_queue]
    · intro q hq
      rw [State.linkDown_link h, State.linkTold_queue]
      exact State.dropTx_kept.2 q hq
    · rw [State.linkDown_link h, State.linkTold_lost, State.dropTx_kept.1.lost]
      rfl
    · have hne : Reg.FLD_PSTAT j ≠ Reg.FLD_PSTAT i := by
        have := Fin.val_ne_of_ne hj
        simp only [Reg.FLD_PSTAT]; omega
      rw [State.linkDown_pstat h j.isLt]
      exact State.reg_setReg_other hne
    · have hne : 320 + j.val ≠ 320 + i.val := by
        have := Fin.val_ne_of_ne hj
        omega
      rw [State.linkDown_sending h j.isLt, State.dropSending_queue_other hne]
      rfl
  case noLinkDown =>
    intro i s h
    rw [exec_fieldLinkDown, State.linkDown, h]
    rfl
  case sqi =>
    intro i snr s h
    rw [exec_sqiUpdate, sqiUpdateEff, h]
    rfl
  case noSqi =>
    intro i snr s h
    rw [exec_sqiUpdate, sqiUpdateEff, h]
    rfl
  case cycle =>
    intro g s he hr
    refine ⟨(s.beaconSent g).setOpportunity g 24, by rw [exec_plcaCycleStart, plcaCycleStartEff_onTime he hr], rfl,
      State.beaconSent_plcaSent, ?_, ?_, fun h hne => ?_, rfl, fun node ns => ?_⟩
    · rw [State.setOpportunity_plcaFrom, Store.get_put_same]
    · rw [State.setOpportunity_plcaOpen, Store.get_put_same, State.beaconSent_plca]
    · have hval := Fin.val_ne_of_ne hne
      rw [State.setOpportunity_plcaSent, State.beaconSent_plcaSent_other hval, State.setOpportunity_plcaFrom,
        State.setOpportunity_plcaOpen, Store.get_put_other hval, Store.get_put_other hval]
      exact ⟨rfl, rfl, rfl⟩
    · rw [exec_plcaCycleStart, plcaCycleStartEff_late he hr, State.setOpportunity_again]
  case noCycle =>
    intro g late s h
    rw [exec_plcaCycleStart, plcaCycleStartEff_idle h]
  case read =>
    intro x v s h hgo hop hf
    rw [exec_mdioAccess, mdioAccessEff_may h, State.writeMdio_read hgo hop, if_pos hf]
    rfl
  case write =>
    intro x v s h hgo hop hf he
    rw [exec_mdioAccess, mdioAccessEff_may h, State.writeMdio_write hgo hop, if_neg (by simp [hf, he])]
    rfl
  case notAllowed =>
    intro x v s h hgo
    rw [exec_mdioAccess, mdioAccessEff_may h]
    refine ⟨fun hg => ?_, fun hop hr => ?_, fun hop hf => ?_⟩
    · rw [State.writeMdio_noGo hgo hg]; rfl
    · rw [State.writeMdio_write hgo hop, if_pos hr]; rfl
    · rw [State.writeMdio_read hgo hop, if_neg (by simp [hf])]; rfl
  case busy =>
    intro x v s h hgo
    rw [exec_mdioAccess, mdioAccessEff_may h, State.writeMdio_busy hgo]
  case readDone =>
    intro data s hgo hwr
    rw [exec_mdioComplete, mdioCompleteEff_runs hgo, hwr]
    rfl
  case otherDone =>
    refine fun data s => ⟨fun hgo hwr => ?_, fun hgo => ?_⟩
    · rw [exec_mdioComplete, mdioCompleteEff_runs hgo, if_pos hwr]
    · rw [exec_mdioComplete, mdioCompleteEff_idle hgo]
  case received =>
    intro i data good s he hl hr
    rw [exec_fieldFrameReceived, fieldFrameReceivedEff_open he hl hr]
  case closed =>
    intro i data good s h
    rw [exec_fieldFrameReceived, fieldFrameReceivedEff_closed h]
  case slot =>
    intro k e t s hk hx ha hl hsent ht
    rw [exec_pointFrameTransmit, pointFrameTransmitEff_due hk hx ha hl hsent ht]
  case noSlot =>
    intro k e s hk h
    rw [exec_pointFrameTransmit, pointFrameTransmitEff_notDue hk h]
  case noEntry =>
    intro k s h
    rw [exec_pointFrameTransmit, pointFrameTransmitEff, h]
  case sent =>
    intro i time k ks s t hl hr hq hm ht
    rw [exec_nonpointFrameTransmit, nonpointFrameTransmitEff_sends hl hr hq hm ht]
  case poisoned =>
    intro i time k ks s t hl hr hq hm ht
    rw [exec_nonpointFrameTransmit, nonpointFrameTransmitEff_drops hl hr hq hm ht]
  case held =>
    intro i time k ks s hl hr hq hm hi hh
    rw [exec_nonpointFrameTransmit, nonpointFrameTransmitEff_holds hl hr hq hm, if_pos ⟨hi, hh⟩]
  case waits =>
    intro i time k ks s hq hm hw
    rw [exec_nonpointFrameTransmit, nonpointFrameTransmitEff_waits hq hm hw]
  case nothing =>
    intro i time s h
    rw [exec_nonpointFrameTransmit, nonpointFrameTransmitEff_empty h]

end Sys2Proof.Machine
end

section
namespace Sys2Proof.Machine

/-! ## Reading, writing and subscribing to points (R286 to R289) -/

variable {s t u : State} {x : HPort} {p : Part} {d : Desc} {o : Op} {id i : Nat} {v : Word} {code : Nat} {bs : List Byte}
  {r : ListRun}

/-! ### The bodies on permitted points -/

theorem ptReadBody_permitted
    (hf : s.filterRead p (s.ptTag (fieldOf d.w2 15 0)) Cls.point (fieldOf d.w2 15 0) = St.success) :
    ptReadBody p d s id =
      .done s St.success (s.readValue (fieldOf d.w2 15 0) (fieldOf d.w2 16 16 = 1)) (s.quality (fieldOf d.w2 15 0)) := by
  simp [ptReadBody, hf]

/-- A permitted write to a point whose source is host commands stores the value in the point's format (R248, R287). -/
theorem State.hostPointWrite_permitted (hf : s.filterWrite p (s.ptTag i) Cls.point i = St.success) (ha : s.active = true)
    (hw : (s.pt i).wsrc = 4) :
    s.hostPointWrite p i v code =
      (St.success, (s.sourceWrite i (normValue (s.pt i).fmt v)).audit p (s.pt i).tag Cls.point i code) := by
  simp [State.hostPointWrite, hf, ha, hw]

theorem ptWriteBody_permitted
    (hf : s.filterWrite p (s.ptTag (fieldOf d.w2 15 0)) Cls.point (fieldOf d.w2 15 0) = St.success)
    (ha : s.active = true) (hw : (s.pt (fieldOf d.w2 15 0)).wsrc = 4) :
    ptWriteBody p d s id =
      .done ((s.sourceWrite (fieldOf d.w2 15 0) (normValue (s.pt (fieldOf d.w2 15 0)).fmt d.w3)).audit p
        (s.pt (fieldOf d.w2 15 0)).tag Cls.point (fieldOf d.w2 15 0) 0x02) St.success 0 0 := by
  have hok : isRefusal St.success = false := by decide
  simp only [ptWriteBody, State.hostPointWrite_permitted hf ha hw, hok, Bool.false_eq_true, if_false]

theorem endList_served (h : (t.noteFirst p r.first).dmaWrite x p d.addr (wordsBytes r.words) = (true, u)) :
    endList x p d r t = .done u St.success (wd r.ok) 0 := by
  simp only [endList, h]

/-- The entries could not be written back (R159). -/
theorem endList_failed (h : (t.noteFirst p r.first).dmaWrite x p d.addr (wordsBytes r.words) = (false, u)) :
    endList x p d r t = .done u St.dmaError 0 0 := by
  simp only [endList, h]

theorem ptListReadBody_reads (h : s.dmaRead x p d.addr (8 * d.len) = (some bs, t)) :
    ptListReadBody x p d s id = endList x p d (t.listRead p (wordsOf bs) ListRun.empty) t := by
  simp only [ptListReadBody, h]

theorem ptListWriteBody_reads (ha : s.active = true) (h : s.dmaRead x p d.addr (8 * d.len) = (some bs, t)) :
    ptListWriteBody x p d s id =
      endList x p d (listWrite p (wordsOf bs) ListRun.empty t).1 (listWrite p (wordsOf bs) ListRun.empty t).2 := by
  simp only [ptListWriteBody, ha, h, Bool.not_true, Bool.false_eq_true, if_false]

/-- The subscription that PT_SUB of point `i` makes: its baseline is the point's value and quality now (R289). -/
def State.newSub (s : State) (x : HPort) (p : Part) (i : Nat) : Sub :=
  { port := x, part := p, point := i, value := s.readValue i false, qual := (s.quality i).toNat % 256 }

theorem ptSubBody_adds (hi : fieldOf d.w2 15 0 = i) (hf : s.filterRead p (s.ptTag i) Cls.point i = St.success)
    (ha : s.active = true) (hn : s.ptx.subs.any (fun b => b.isFor x p i) = false)
    (hq : s.subUse p < s.rf (F.PTX_QUOTA_SQ p)) :
    ptSubBody x p d s id =
      .done { s with ptx := { s.ptx with subs := s.ptx.subs ++ [s.newSub x p i] } } St.success (s.readValue i false)
        (s.quality i) := by
  have hq' : ¬ s.rf (F.PTX_QUOTA_SQ p) ≤ s.subUse p := Nat.not_le.2 hq
  simp only [ptSubBody, hi, hf, ha, hn, if_neg hq', bne_self_eq_false, Bool.not_true, Bool.false_eq_true, if_false]
  rfl

theorem ptSubBody_renews (hi : fieldOf d.w2 15 0 = i) (hf : s.filterRead p (s.ptTag i) Cls.point i = St.success)
    (ha : s.active = true) (hh : s.ptx.subs.any (fun b => b.isFor x p i) = true) :
    ptSubBody x p d s id =
      .done { s with ptx := { s.ptx with subs := s.ptx.subs.map (fun c => if c.isFor x p i then s.newSub x p i else c) } }
        St.success (s.readValue i false) (s.quality i) := by
  simp only [ptSubBody, hi, hf, ha, hh, if_true, bne_self_eq_false, Bool.not_true, Bool.false_eq_true, if_false]
  rfl

theorem ptSubCancelBody_removes
    (hf : s.filterRead p (s.ptTag (fieldOf d.w2 15 0)) Cls.point (fieldOf d.w2 15 0) = St.success) (ha : s.active = true) :
    ptSubCancelBody x p d s id =
      .done { s with ptx := { s.ptx with subs := s.ptx.subs.filter (fun b => !b.isFor x p (fieldOf d.w2 15 0)) } }
        St.success 0 0 := by
  simp [ptSubCancelBody, hf, ha]

/-! ### The rows -/

theorem exec_ptRead : exec (.ptRead x p d) s =
    .next (s.command x p d (d.opcode = 0x01) (d.clean 0x1FFFF 0 0 0 0 0) true false (ptReadBody p d)) := rfl

theorem exec_ptWrite : exec (.ptWrite x p d) s =
    .next (s.command x p d (d.opcode = 0x02) (d.clean 0xFFFF 0xFFFFFFFF 0 0 0 0) true false (ptWriteBody p d)) := rfl

theorem exec_ptListRead : exec (.ptListRead x p d) s =
    .next (s.command x p d (d.opcode = 0x03 && fieldOf d.w2 0 0 = 0) (d.buf 1 0 0 1 4096) true false
      (ptListReadBody x p d)) := rfl

theorem exec_ptListWrite : exec (.ptListWrite x p d) s =
    .next (s.command x p d (d.opcode = 0x03 && fieldOf d.w2 0 0 = 1) (d.buf 1 0 0 1 4096) true false
      (ptListWriteBody x p d)) := rfl

theorem exec_ptSub : exec (.ptSub x p d) s =
    .next (s.command x p d (d.opcode = 0x04 && fieldOf d.w2 31 31 = 0) (d.clean 0x8000FFFF 0 0 0 0 0) true false
      (ptSubBody x p d)) := rfl

theorem exec_ptSubCancel : exec (.ptSubCancel x p d) s =
    .next (s.command x p d (d.opcode = 0x04 && fieldOf d.w2 31 31 = 1) (d.clean 0x8000FFFF 0 0 0 0 0) true false
      (ptSubCancelBody x p d)) := rfl

theorem exec_ptSub_finish (h : s.mayStart x p d o = true) (hd : d.opcode = 0x04) (h0 : fieldOf d.w2 31 31 = 0)
    (hc : d.clean 0x8000FFFF 0 0 0 0 0 = true) :
    exec (.ptSub x p d) s = .next (s.finish (ptSubBody x p d (s.started x p o) o.id) x p o) := by
  rw [exec_ptSub, State.command_finishes h (by simp [hd, h0]) hc]

/-- Settles O22. -/
theorem pointReadsAndWrites : Obligations.PointReadsAndWrites := by
  refine ⟨?read, ?write, ?listRead, ?listWrite, ?subscribe, ?renew, ?cancel⟩
  case read =>
    intro x p d o s h hd hc hf
    rw [exec_ptRead, State.command_finishes h (decide_eq_true hd) hc, ptReadBody_permitted hf, State.finish_done]
  case write =>
    intro x p d o s h hd hc hf ha hw
    rw [exec_ptWrite, State.command_finishes h (decide_eq_true hd) hc, ptWriteBody_permitted hf ha hw, State.finish_done]
  case listRead =>
    intro x p d o s bs t h hd h0 hb hread
    rw [exec_ptListRead, State.command_finishes h (by simp [hd, h0]) hb, ptListReadBody_reads hread]
    dsimp only
    split
    case h_1 u hw => rw [endList_failed hw, State.finish_done]
    case h_2 u hw => rw [endList_served hw, State.finish_done]
  case listWrite =>
    intro x p d o s bs t h hd h1 hb ha hread
    rw [exec_ptListWrite, State.command_finishes h (by simp [hd, h1]) hb, ptListWriteBody_reads ha hread]
    dsimp only
    split
    case h_1 u hw => rw [endList_failed hw, State.finish_done]
    case h_2 u hw => rw [endList_served hw, State.finish_done]
  case subscribe =>
    intro x p d o s h hd h0 hc hf ha hn hq
    rw [exec_ptSub_finish h hd h0 hc, ptSubBody_adds rfl hf ha hn hq]
    rfl
  case renew =>
    intro x p d o s h hd h0 hc hf ha hh
    rw [exec_ptSub_finish h hd h0 hc, ptSubBody_renews rfl hf ha hh]
    rfl
  case cancel =>
    intro x p d o s h hd h1 hc hf ha
    rw [exec_ptSubCancel, State.command_finishes h (by simp [hd, h1]) hc, ptSubCancelBody_removes hf ha, State.finish_done]

end Sys2Proof.Machine
end

section
namespace Sys2Proof.Machine

/-! ## The logic engine at an instruction (R309 to R317, R325) -/

variable {s : State} {t : Nat}

/-- The engine runs the instruction it is at, by the command that names it. -/
theorem exec_lgeAt {c : Instr} {i : LgeI} {sel : LgeI → Bool} (h : s.lgeAt t i = true)
    (hc : exec c s = .next (s.lgeStep sel)) (hs : sel i = true) : exec c s = .next (s.runI t (s.task t).pc i) := by
  rw [hc, State.lgeStep_at h hs]

/-- An instruction of `n` words and `n` cycles that leads to `u` is done in `u`. -/
theorem exec_lgeDone {c : Instr} {i : LgeI} {sel : LgeI → Bool} {u : State} (n : Nat) (h : s.lgeAt t i = true)
    (hc : exec c s = .next (s.lgeStep sel)) (hs : sel i = true)
    (hu : s.runI t (s.task t).pc i = u.goOn t (s.task t).pc ((s.task t).pc + n) n) :
    exec c s = .next (s.lgeDone u t n) := by
  rw [exec_lgeAt h hc hs, hu, State.lgeDone]

/-! ### The branch stack (R311, R325) -/

theorem State.runI_stop_empty {here : Nat} (h : (s.task t).stack = []) :
    s.runI t here .stop =
      (s.setTask t { s.task t with spent := (s.task t).spent + 1, cyc := (s.task t).cyc + 1, lastPc := here }).endCycle t :=
  if_pos h

theorem State.runI_stop_open {here : Nat} (h : (s.task t).stack ≠ []) : s.runI t here .stop = s.haltHere t 3 here := if_neg h

theorem State.runI_bro_room {here : Nat} (h : (s.task t).stack.length < 16) :
    s.runI t here .bro =
      (s.setTask t { s.task t with stack := (s.task t).acc :: (s.task t).stack }).goOn t here (here + 1) 1 :=
  if_neg (Nat.not_le.2 h)

theorem State.runI_bro_full {here : Nat} (h : 16 ≤ (s.task t).stack.length) : s.runI t here .bro = s.haltHere t 1 here :=
  if_pos h

theorem State.popWith_empty {here : Nat} {f : Bool → Bool → Bool} (h : (s.task t).stack = []) :
    s.popWith t here f = s.haltHere t 2 here := by
  simp only [State.popWith, h]

theorem State.popWith_cons {here : Nat} {f : Bool → Bool → Bool} {b : Bool} {bs : List Bool}
    (h : (s.task t).stack = b :: bs) :
    s.popWith t here f =
      (s.setTask t { s.task t with stack := bs, acc := f b (s.task t).acc }).goOn t here (here + 1) 1 := by
  simp only [State.popWith, h]

/-! ### Jumps (R311) -/

theorem State.runI_jc {n : Nat} :
    s.runI t (s.task t).pc (.jc n) =
      if (s.task t).acc then s.goOn t (s.task t).pc ((s.task t).pc + n) 2 else s.lgeDone s t 1 := rfl

theorem State.runI_jnc {n : Nat} :
    s.runI t (s.task t).pc (.jnc n) =
      if (s.task t).acc then s.lgeDone s t 1 else s.goOn t (s.task t).pc ((s.task t).pc + n) 2 := by
  have h : s.runI t (s.task t).pc (.jnc n) =
    if !(s.task t).acc then s.goOn t (s.task t).pc ((s.task t).pc + n) 2 else s.lgeDone s t 1 := rfl
  rw [h]
  cases (s.task t).acc <;> rfl

/-! ### The instructions -/

/-- Settles O17: at an instruction the engine takes that instruction's branch of `runI`; END's turns on the empty stack. -/
theorem logicBitInstructions : Obligations.LogicBitInstructions := by
  refine ⟨?stop, ?nop, ?ldk, ?ld, ?ldn, ?and, ?andn, ?or, ?orn, ?xor⟩
  case stop =>
    intro t s h he
    rw [exec_lgeAt h rfl rfl, State.runI_stop_empty he]
  case nop => exact fun t s h => exec_lgeDone 1 h rfl rfl rfl
  case ldk => exact fun t b s h => exec_lgeDone 1 h rfl rfl rfl
  case ld | ldn | and | andn | or | orn | xor => exact fun t o s h => exec_lgeDone 1 h rfl rfl rfl

/-- Settles O18: what BRO, BRCA, BRCO and END do turns on the branch stack. -/
theorem logicStoresAndBranches : Obligations.LogicStoresAndBranches := by
  refine ⟨?st, ?stn, ?set, ?rst, ?push, ?popAnd, ?popOr, ?rise, ?fall, ?full, ?empty, ?unclosed⟩
  case st | stn | set | rst => exact fun t o s h => exec_lgeDone 1 h rfl rfl rfl
  case push => exact fun t s h hroom => exec_lgeDone 1 h rfl rfl (State.runI_bro_room hroom)
  case popAnd | popOr => exact fun t b bs s h hcons => exec_lgeDone 1 h rfl rfl (State.popWith_cons hcons)
  case rise | fall => exact fun t m s h => exec_lgeDone 1 h rfl rfl rfl
  case full =>
    intro t s hfull h
    rw [exec_lgeAt h rfl rfl, State.runI_bro_full hfull, State.haltHere]
  case empty =>
    intro t s he
    have halts {f : Bool → Bool → Bool} :
        s.popWith t (s.task t).pc f = (s.taskHalt t 2 (s.task t).pc).nextTurn := State.popWith_empty he
    exact ⟨fun h => (exec_lgeAt h rfl rfl).trans (congrArg _ halts), fun h => (exec_lgeAt h rfl rfl).trans (congrArg _ halts)⟩
  case unclosed =>
    intro t s h hopen
    rw [exec_lgeAt h rfl rfl, State.runI_stop_open hopen, State.haltHere]

/-- Settles O19: each instruction's branch of `runI`, of two words but for CRES and the jumps. -/
theorem logicTimersCountersAndMoves : Obligations.LogicTimersCountersAndMoves := by
  refine ⟨?ton, ?tof, ?ctu, ?ctd, ?cres, ?cmp, ?movk, ?mov, ?jc, ?jnc⟩
  case ton | tof | ctu | ctd => exact fun t n l s h => exec_lgeDone 2 h rfl rfl rfl
  case cres => exact fun t n s h => exec_lgeDone 1 h rfl rfl rfl
  case cmp => exact fun t comb cond pt l s h => exec_lgeDone 2 h rfl rfl rfl
  case movk => exact fun t pt l s h => exec_lgeDone 2 h rfl rfl rfl
  case mov => exact fun t dst src s h => exec_lgeDone 2 h rfl rfl rfl
  case jc =>
    intro t n s h
    rw [exec_lgeAt h rfl rfl, State.runI_jc]
  case jnc =>
    intro t n s h
    rw [exec_lgeAt h rfl rfl, State.runI_jnc]

end Sys2Proof.Machine
end

section
namespace Sys2Proof.Machine

/-! ## Logic tasks: what their operations leave alone -/

variable {s u : State} {t o : Nat} {p cls i tag code : Nat}

theorem State.task_congr (h : u.lge = s.lge) : u.task t = s.task t := by rw [State.task, State.task, h]

theorem State.taskState_congr (h : u.reg (Reg.LGE_TSTAT t) = s.reg (Reg.LGE_TSTAT t)) : u.taskState t = s.taskState t :=
  State.rf_congr h

@[simp] theorem State.setTask_reg {k : LgeTask} : (s.setTask t k).reg o = s.reg o := State.reg_congr rfl rfl

@[simp] theorem State.task_setTask_same {k : LgeTask} : (s.setTask t k).task t = k := Store.get_put_same

@[simp] theorem State.setTimer_reg {n : Nat} {k : LgeTimer} : (s.setTimer t n k).reg o = s.reg o := State.reg_congr rfl rfl

@[simp] theorem State.setTimer_task {r n : Nat} {k : LgeTimer} : (s.setTimer r n k).task t = s.task t := rfl

@[simp] theorem State.report_lge {part : Nat} {a b c : Word} : (s.report code part a b c).lge = s.lge := by
  rw [State.report_sinks]; rfl

@[simp] theorem State.audit_lge : (s.audit p tag cls i code).lge = s.lge := by
  unfold State.audit
  split <;> simp

theorem State.audit_fieldReg (h : o < 0x100000) : (s.audit p tag cls i code).reg o = s.reg o := by
  unfold State.audit
  split
  · exact State.report_fieldReg h
  · rfl

@[simp] theorem State.raiseLge_lge {bit : Nat} : (s.raiseLge bit).lge = s.lge := by
  rw [State.raiseLge, State.raise_sinks]; rfl

theorem State.raiseLge_reg {bit : Nat} (h : o ≠ Reg.LGE_STAT) : (s.raiseLge bit).reg o = s.reg o := State.raise_reg h

theorem Reg.LGE_TSTAT_range (h : t < 16) : Reg.LGE_STAT < Reg.LGE_TSTAT t ∧ Reg.LGE_TSTAT t < 0x100000 := by
  simp only [Reg.LGE_STAT, Reg.LGE_TSTAT]; omega

/-- An audit record changes no task's state. -/
theorem State.audit_taskState (h : t < 16) : (s.audit p tag cls i code).taskState t = s.taskState t :=
  State.taskState_congr (State.audit_fieldReg (Reg.LGE_TSTAT_range h).2)

/-- A task that is put into a state is in it. -/
theorem State.taskMove_taskState {st : Nat} (h : t < 16) (hst : st < 4) : (s.taskMove t st p).taskState t = st := by
  obtain ⟨hlow, hhigh⟩ := Reg.LGE_TSTAT_range h
  calc (s.taskMove t st p).taskState t
      = (s.setF (F.LGE_TSTAT_STATE t) st).taskState t :=
        State.taskState_congr ((State.raiseLge_reg (Nat.ne_of_gt hlow)).trans (State.report_fieldReg hhigh))
    _ = st % 2 ^ 2 := State.rf_setF_same (by simp [F.LGE_TSTAT_STATE]) (by simp [F.LGE_TSTAT_STATE])
    _ = st := Nat.mod_eq_of_lt hst

@[simp] theorem State.taskMove_lge {st : Nat} : (s.taskMove t st p).lge = s.lge :=
  State.raiseLge_lge.trans (State.report_lge.trans State.setF_lge)

/-- The task a command names is one of the 16 (R329). -/
theorem Desc.task_lt {d : Desc} : fieldOf d.w2 3 0 < 16 := Nat.mod_lt _ (by decide)

end Sys2Proof.Machine
end

section
namespace Sys2Proof.Machine

/-! ## Assignment of logic tasks and the end of a turn (R298, R300, R321, R327) -/

variable {s : State} {t k : Nat} {v : Word}

theorem exec_lgeTaskAssign {x : HPort} {t : Fin 16} {k : Fin 3} (h : s.mayWrite x 11 = true) :
    exec (.lgeTaskAssign x t k v) s = .next (s.writeTask t k v) := by
  rw [← State.asWrite_may (t := s.writeTask t k v) h]
  rfl

theorem State.writeTask_refused (h : s.taskState t ≠ 0) : s.writeTask t k v = s.badVal := if_pos (bne_iff_ne.2 h)

/-- In STOP the written fields are stored, but for those a limit keeps, and a changed LGE_TCFG assigns the task anew. -/
theorem State.writeTask_stop (h : s.taskState t = 0) :
    s.writeTask t k v =
      let off := if k = 0 then Reg.LGE_TCFG t else if k = 1 then Reg.LGE_TSCH t else Reg.LGE_TBUD t
      let u := s.writeFields off v
      let w := settleWord (fun w => s.taskFits t ((s.setReg off w).taskCfg t)) (s.reg off) (u.reg off) (taskTries k)
      let u := (u.setReg off w.1).badValIf w.2
      (if u.reg (Reg.LGE_TCFG t) = s.reg (Reg.LGE_TCFG t) then u else u.reassign t (u.reg (Reg.LGE_TCFG t))).updBudget := by
  have hs : ¬ (s.taskState t != 0) = true := by simp [h]
  exact if_neg hs

theorem turnBudgetExhaustedEff_none (h : s.lge.turn = none) : turnBudgetExhaustedEff s = s := by
  simp only [turnBudgetExhaustedEff, h]

theorem turnBudgetExhaustedEff_turn (h : s.lge.turn = some t) :
    turnBudgetExhaustedEff s =
      if s.lge.window = true ∧ s.rf (F.LGE_TBUD_BUDGET t) ≤ (s.task t).spent then s.endTurn t else s := by
  simp only [turnBudgetExhaustedEff, h, Bool.and_eq_true, decide_eq_true_eq]

theorem State.endTurn_free (h : (s.task t).stops = []) :
    s.endTurn t = (s.setTask t { s.task t with turned := true }).nextTurn := by
  simp only [State.endTurn, h, if_true]

/-- A STOP that waited for the end of the turn acts (R327). -/
theorem State.endTurn_stopped {e : HPort × Part × Nat} {es : List (HPort × Part × Nat)} (h : (s.task t).stops = e :: es) :
    s.endTurn t = (s.taskStop t e.2.1).nextTurn := by
  simp [State.endTurn, stopPart, h]

end Sys2Proof.Machine
end

section
namespace Sys2Proof.Machine

/-! ## The ring commands on logic tasks (R301, R303 to R306, R329, R330) -/

variable {s u : State} {x : HPort} {p : Part} {d : Desc} {o : Op} {t id op : Nat} {wf sel : Bool}
  {body : Nat → State → Nat → CmdEnd}

theorem State.taskGate_permitted {k : State → CmdEnd} (hf : s.filterWrite p (s.taskTag t) Cls.task t = St.success)
    (hfill : s.on (F.LGE_TSTAT_FILL t) = false) : s.taskGate p t k = k s := by
  simp only [State.taskGate, hf, hfill, bne_self_eq_false, Bool.false_eq_true, if_false]

/-- An LGE_CTL on a task that the partition may write, with no fill in progress, finishes as its operation says. -/
theorem State.lgeCtl_finishes (h : s.mayStart x p d o = true) (hd : d.opcode = 0x29) (hop : fieldOf d.w3 2 0 = op)
    (hw : wf = true) (hs : sel = true)
    (hf : (s.started x p o).filterWrite p ((s.started x p o).taskTag (fieldOf d.w2 3 0)) Cls.task (fieldOf d.w2 3 0)
      = St.success)
    (hfill : (s.started x p o).on (F.LGE_TSTAT_FILL (fieldOf d.w2 3 0)) = false) :
    s.lgeCtl x p d op wf sel body = s.finish (body (fieldOf d.w2 3 0) (s.started x p o) o.id) x p o := by
  rw [State.lgeCtl, State.command_finishes h (by simp [hd, hop, hs]) hw, State.taskGate_permitted hf hfill]

/-! ### LOAD (R303, R306) -/

/-- The state after the read of a load's words: they stand in the region from the load's offset on, and the task is to be verified
again. -/
def State.regionLoaded (s u : State) (p : Part) (d : Desc) (t : Nat) (bs : List Byte) : State :=
  let w : State := { u with lge := { u.lge with
    prog := Store.putList wordZero u.lge.prog (u.regionBase t + d.w3.toNat) (wordsOf bs) } }
  (w.setF (F.LGE_TSTAT_VERIFIED t) 0).audit p (s.taskEvTag t) Cls.task t 0x28

theorem lgeLoadBody_loads {bs : List Byte} (ht : fieldOf d.w2 3 0 = t)
    (hf : s.filterWrite p (s.taskTag t) Cls.task t = St.success) (hfill : s.on (F.LGE_TSTAT_FILL t) = false)
    (hstop : s.taskState t = 0) (hfits : d.w3.toNat + d.len ≤ s.regionLen t)
    (hread : s.dmaRead x p d.addr (4 * d.len) = (some bs, u)) :
    lgeLoadBody x p d s id =
      .done (s.regionLoaded u p d t bs) St.success (wd d.len) (wd ((s.regionLoaded u p d t bs).orphanForces t)) := by
  rw [lgeLoadBody, ht, State.taskGate_permitted hf hfill]
  simp only [hstop, hread, Nat.not_lt.2 hfits, bne_self_eq_false, Bool.false_eq_true, if_false]
  rfl

/-! ### VERIFY (R304, R305) -/

/-- The state in which task `t`, whose region holds `ws`, has been verified. -/
def State.verified (s : State) (p : Part) (t : Nat) (ws : List Word) : State :=
  (((s.setF (F.LGE_TSTAT_VERIFIED t) 1).setTask t { s.task t with worst := worstCase ws }).report 0x0B04 (s.taskEvTag t) (wd t)
    (crc32Words ws) (wd (worstCase ws))).audit p (s.taskEvTag t) Cls.task t 0x29

theorem State.verified_on {ws : List Word} (h : t < 16) : (s.verified p t ws).on (F.LGE_TSTAT_VERIFIED t) = true := by
  have hhigh := (Reg.LGE_TSTAT_range h).2
  calc (s.verified p t ws).on (F.LGE_TSTAT_VERIFIED t)
      = (s.setF (F.LGE_TSTAT_VERIFIED t) 1).on (F.LGE_TSTAT_VERIFIED t) :=
        State.on_congr ((State.audit_fieldReg hhigh).trans ((State.report_fieldReg hhigh).trans State.setTask_reg))
    _ = true := State.on_setF_one rfl (by simp [F.LGE_TSTAT_VERIFIED])

theorem lgeVerifyBody_verifies (hstop : s.taskState t = 0) (hc : crc32Words (s.region t) = d.w7)
    (hl : leastFault (lgeFaults s.nextPt t (s.taskEvTag t) (s.region t)) = none) :
    lgeVerifyBody p d t s id =
      .done (s.verified p t (s.region t)) St.success d.w7 (wd (worstCase (s.region t))) := by
  simp only [lgeVerifyBody, State.verified, hstop, hc, hl, bne_self_eq_false, Bool.false_eq_true, if_false]

/-! ### START (R301, R318) -/

/-- What a START leaves of task `t`: no cycle, and the first due frame. -/
def State.startingTask (s : State) (t : Nat) : LgeTask :=
  { LgeTask.dflt t with startFc := s.firstDue t, worst := (s.task t).worst }

/-- Task `t` without a cycle, and its first `n` timers at 0, last evaluated in the current frame. -/
def State.timersReset (s : State) (t n : Nat) : State :=
  forUpto n (s.setTask t (s.startingTask t)) (fun i u =>
    u.setTimer t i { et := 0, q := false, inp := false, last := s.reg Reg.LGE_FC })

theorem State.timersReset_task {n : Nat} : (s.timersReset t n).task t = s.startingTask t :=
  forUpto_induction (P := fun (u : State) => u.task t = s.startingTask t) State.task_setTask_same fun _ _ h => h

/-- The state in which task `t` has been put into RUN. -/
def State.startedTask (s : State) (p : Part) (t : Nat) : State :=
  (((s.timersReset t 256).setReg (Reg.LGE_TOVR t) 0).taskMove t 1 p).audit p (s.taskEvTag t) Cls.task t 0x29

theorem State.startedTask_runs (h : t < 16) : (s.startedTask p t).taskState t = 1 :=
  (State.audit_taskState h).trans (State.taskMove_taskState h (by decide))

theorem State.startedTask_task : (s.startedTask p t).task t = s.startingTask t :=
  (State.task_congr (State.audit_lge.trans (State.taskMove_lge.trans State.setReg_lge))).trans State.timersReset_task

theorem lgeStartBody_starts (ha : s.active = true) (hstop : s.taskState t = 0)
    (hv : s.on (F.LGE_TSTAT_VERIFIED t) = true) (hb : 8 ≤ s.rf (F.LGE_TBUD_BUDGET t)) :
    lgeStartBody p t s id = .done (s.startedTask p t) St.success (wd (s.firstDue t)) 0 := by
  have hb' : ¬ s.rf (F.LGE_TBUD_BUDGET t) < 8 := Nat.not_lt.2 hb
  simp only [lgeStartBody, ha, hstop, hv, hb', bne_self_eq_false, Bool.not_true, Bool.or_false, decide_false,
    Bool.false_eq_true, if_false, Nat.zero_ne_one]
  rfl

theorem lgeStartBody_running (ha : s.active = true) (hrun : s.taskState t = 1) :
    lgeStartBody p t s id = .done s St.success (wd (s.task t).startFc) 0 := by
  simp only [lgeStartBody, ha, hrun, Bool.not_true, Bool.false_eq_true, if_false, if_true]

/-! ### STOP (R327) -/

theorem lgeStopBody_stopped (ha : s.active = true) (hstop : s.taskState t = 0) :
    lgeStopBody x p t s id = .done s St.success (wd s.lgeFc) 0 := by
  simp only [lgeStopBody, ha, hstop, Bool.not_true, Bool.false_eq_true, if_false, if_true]

/-- A STOP of a task out of STOP waits while a cycle of the task is in its turn, and else acts at once. -/
theorem lgeStopBody_stops (hk : t < 16) (ha : s.active = true) (hn : s.taskState t ≠ 0) :
    lgeStopBody x p t s id =
      let u := s.audit p (s.taskEvTag t) Cls.task t 0x29
      if s.taskState t = 1 ∧ (s.task t).busy = true ∧ s.lge.turn = some t then
        .wait (u.setTask t { u.task t with stops := (u.task t).stops ++ [(x, p, id)] })
      else .done (u.taskStop t p) St.success (wd (u.taskStop t p).lgeFc) 0 := by
  simp only [lgeStopBody, ha, hn, Bool.not_true, Bool.false_eq_true, if_false, Bool.and_eq_true, decide_eq_true_eq,
    State.audit_taskState hk, State.audit_lge, State.task_congr State.audit_lge, and_assoc]

/-! ### DUMP (R330) -/

theorem lgeDumpBody_dumps (hw : s.dmaWrite x p d.addr (s.taskDump t) = (true, u)) :
    lgeDumpBody x p d t s id = .done u St.success 4624 (wd u.lgeFc) := by
  simp only [lgeDumpBody, hw]

/-! ### The rows -/

theorem exec_lgeLoad : exec (.lgeLoad x p d) s =
    .next (s.command x p d (d.opcode = 0x28) (d.buf 0xF 0xFFFFFFFF 0 1 (2 ^ 32)) true false (lgeLoadBody x p d)) := rfl

theorem exec_lgeVerify : exec (.lgeVerify x p d) s =
    .next (s.lgeCtl x p d 1 (d.clean 0xF 7 0 0 0 0xFFFFFFFF) true (lgeVerifyBody p d)) := rfl

theorem exec_lgeStart : exec (.lgeStart x p d) s =
    .next (s.lgeCtl x p d 2 (d.clean 0xF 7 0 0 0 0) true (lgeStartBody p)) := rfl

theorem exec_lgeStop : exec (.lgeStop x p d) s =
    .next (s.lgeCtl x p d 3 (d.clean 0xF 7 0 0 0 0) true (lgeStopBody x p)) := rfl

theorem exec_lgeStatus : exec (.lgeStatus x p d) s =
    .next (s.lgeCtl x p d 4 (d.clean 0xF 7 0 0 0 0) true
      (fun t s _ => .done s St.success (s.reg (Reg.LGE_TSTAT t)) (s.reg (Reg.LGE_TOVR t)))) := rfl

theorem exec_lgeDump : exec (.lgeDump x p d) s =
    .next (s.lgeCtl x p d 5 (d.buf 0xF 7 0 4624 4624) (!(s.task (fieldOf d.w2 3 0)).busy) (lgeDumpBody x p d)) := rfl

theorem exec_turnBudgetExhausted : exec .turnBudgetExhausted s = .next (turnBudgetExhaustedEff s) := rfl

/-- Settles O25: an assignment and a turn's end by their conditions; a command on a task passes the shared gate and ends as its
operation's body says, which for VERIFY and START leaves the named state in the task. -/
theorem logicTasksAndTurns : Obligations.LogicTasksAndTurns := by
  refine ⟨?refused, ?assigned, ?filled, ?setcrc, ?budget, ?budgetStop, ?noBudget, ?load, ?verify, ?start, ?stop, ?stopWaits,
    ?stopped, ?running, ?status, ?dump⟩
  case refused =>
    intro x t k v s hw hn
    rw [exec_lgeTaskAssign hw, State.writeTask_refused hn]
  case assigned =>
    intro x t k v s hw hstop
    rw [exec_lgeTaskAssign hw, State.writeTask_stop hstop]
  case filled => exact fun t s => rfl
  case setcrc => exact fun s => rfl
  case budget =>
    intro t s ht hw hb hs
    rw [exec_turnBudgetExhausted, turnBudgetExhaustedEff_turn ht, if_pos ⟨hw, hb⟩, State.endTurn_free hs]
  case budgetStop =>
    intro t e es s ht hw hb hs
    rw [exec_turnBudgetExhausted, turnBudgetExhaustedEff_turn ht, if_pos ⟨hw, hb⟩, State.endTurn_stopped hs]
  case noBudget =>
    intro t s h
    rw [exec_turnBudgetExhausted]
    rcases h with ht | ⟨ht, h⟩
    · rw [turnBudgetExhaustedEff_none ht]
    · rw [turnBudgetExhaustedEff_turn ht, if_neg]
      rintro ⟨hw, hb⟩
      rcases h with h | h
      · simp [hw] at h
      · exact Nat.not_lt.2 hb h
  case load =>
    intro x p d o s bs t h hd hb hf hfill hstop hfits hread
    rw [exec_lgeLoad, State.command_finishes h (decide_eq_true hd) hb, lgeLoadBody_loads rfl hf hfill hstop hfits hread]
    rfl
  case verify =>
    intro x p d o s h hd hop hc hf hfill hstop hcrc hfaults
    refine ⟨(s.started x p o).verified p (fieldOf d.w2 3 0) ((s.started x p o).region (fieldOf d.w2 3 0)), ?_,
      State.verified_on Desc.task_lt⟩
    rw [exec_lgeVerify, State.lgeCtl_finishes h hd hop hc rfl hf hfill, lgeVerifyBody_verifies hstop hcrc hfaults,
      State.finish_done]
  case start =>
    intro x p d o s h hd hop hc hf hfill ha hstop hv hb
    refine ⟨(s.started x p o).startedTask p (fieldOf d.w2 3 0), ?_, State.startedTask_runs Desc.task_lt,
      congrArg LgeTask.startFc State.startedTask_task⟩
    rw [exec_lgeStart, State.lgeCtl_finishes h hd hop hc rfl hf hfill, lgeStartBody_starts ha hstop hv hb, State.finish_done]
  case stop =>
    intro x p d o s h hd hop hc hf hfill ha hn hfree
    rw [exec_lgeStop, State.lgeCtl_finishes h hd hop hc rfl hf hfill, lgeStopBody_stops Desc.task_lt ha hn]
    dsimp only
    rw [if_neg, State.finish_done]
    rintro ⟨hrun, hbusy, hturn⟩
    rcases hfree with h1 | hidle | hother
    · exact h1 hrun
    · simp [hbusy] at hidle
    · exact hother hturn
  case stopWaits =>
    intro x p d o s h hd hop hc hf hfill ha hrun hbusy hturn
    have hn : (s.started x p o).taskState (fieldOf d.w2 3 0) ≠ 0 := by omega
    rw [exec_lgeStop, State.lgeCtl_finishes h hd hop hc rfl hf hfill, lgeStopBody_stops Desc.task_lt ha hn]
    dsimp only
    rw [if_pos ⟨hrun, hbusy, hturn⟩, State.finish_wait]
  case stopped =>
    intro x p d o s h hd hop hc hf hfill ha hstop
    rw [exec_lgeStop, State.lgeCtl_finishes h hd hop hc rfl hf hfill, lgeStopBody_stopped ha hstop, State.finish_done]
  case running =>
    intro x p d o s h hd hop hc hf hfill ha hrun
    rw [exec_lgeStart, State.lgeCtl_finishes h hd hop hc rfl hf hfill, lgeStartBody_running ha hrun, State.finish_done]
  case status =>
    intro x p d o s h hd hop hc hf hfill
    rw [exec_lgeStatus, State.lgeCtl_finishes h hd hop hc rfl hf hfill, State.finish_done]
  case dump =>
    intro x p d o s t h hd hop hb hidle hf hfill hw
    rw [exec_lgeDump, State.lgeCtl_finishes h hd hop hb (by simp [hidle]) hf hfill, lgeDumpBody_dumps hw, State.finish_done]

end Sys2Proof.Machine
end

section
namespace Sys2Proof.Machine

/-! ## Reserved bits of the capture segments (R11, R372)

A write stores the fields of its word, so the reserved bits of the register stay as they are. O27 asks that a word without reserved
bits be the register's whole new value, in every state. -/

/-- A state whose CLE_CAPSEG[0] holds 1 in the reserved bit 31. No run reaches it, since no write sets that bit; the statement speaks
of every state. -/
def capSegReserved : State := State.reset.setReg (Reg.CLE_CAPSEG 0) 0x80000000

theorem writeCapSeg_keepsReserved : (capSegReserved.writeCapSeg 0 0).reg (Reg.CLE_CAPSEG 0) = 0x80000000 := by decide

/-- Refutes O27: in `capSegReserved` a write of 0 to CLE_CAPSEG[0] leaves the register at 0x80000000. -/
theorem not_loopRegistersAndSamples : ¬ Obligations.LoopRegistersAndSamples := by
  rintro ⟨-, -, hstored, -⟩
  have hzero : (capSegReserved.writeCapSeg 0 0).reg (Reg.CLE_CAPSEG 0) = 0 := (hstored 0 0 capSegReserved (by decide)).1
  exact absurd (writeCapSeg_keepsReserved.symm.trans hzero) (by decide)

end Sys2Proof.Machine
end

section
namespace Sys2Proof.Machine

/-! ## Loop slots: what their operations leave alone -/

variable {s u : State} {i o : Nat} {p cls tag code : Nat}

theorem State.slot_congr (h : u.cle = s.cle) : u.slot i = s.slot i := by rw [State.slot, State.slot, h]

theorem State.slotState_congr (h : u.reg (Reg.CLE_SSTAT i) = s.reg (Reg.CLE_SSTAT i)) : u.slotState i = s.slotState i :=
  State.rf_congr h

@[simp] theorem State.setSlot_reg {k : LoopSlot} : (s.setSlot i k).reg o = s.reg o := State.reg_congr rfl rfl

@[simp] theorem State.slot_setSlot_same {k : LoopSlot} : (s.setSlot i k).slot i = k := Store.get_put_same

@[simp] theorem State.setF_slot {f : Fld} {n : Nat} : (s.setF f n).slot i = s.slot i := State.slot_congr State.setF_cle

@[simp] theorem State.setCaps_cle {cs : List Capture} : (s.setCaps cs).cle = { s.cle with caps := cs } := rfl

@[simp] theorem State.report_cle {part : Nat} {a b c : Word} : (s.report code part a b c).cle = s.cle := by
  rw [State.report_sinks]; rfl

@[simp] theorem State.audit_cle : (s.audit p tag cls i code).cle = s.cle := by
  unfold State.audit
  split <;> simp

@[simp] theorem State.audit_slot {j : Nat} : (s.audit p tag cls j code).slot i = s.slot i := State.slot_congr State.audit_cle

@[simp] theorem State.raiseCle_cle {bit : Nat} : (s.raiseCle bit).cle = s.cle := by
  rw [State.raiseCle, State.raise_sinks]; rfl

theorem Reg.CLE_SSTAT_range (h : i < 256) : Reg.CLE_STAT < Reg.CLE_SSTAT i ∧ Reg.CLE_SSTAT i < 0x100000 := by
  simp only [Reg.CLE_STAT, Reg.CLE_SSTAT]; omega

/-- A slot that is put into a state is in it. -/
theorem State.slotMove_slotState {st : Nat} (h : i < 256) (hst : st < 4) : (s.slotMove i st p).slotState i = st := by
  obtain ⟨hlow, hhigh⟩ := Reg.CLE_SSTAT_range h
  calc (s.slotMove i st p).slotState i
      = (s.setF (F.CLE_SSTAT_STATE i) st).slotState i :=
        State.slotState_congr ((State.raise_reg (Nat.ne_of_gt hlow)).trans ((State.report_fieldReg hhigh).trans State.setSlot_reg))
    _ = st % 2 ^ 2 := State.rf_setF_same (by simp [F.CLE_SSTAT_STATE]) (by simp [F.CLE_SSTAT_STATE])
    _ = st := Nat.mod_eq_of_lt hst

/-- With the change of state a tuning load that waited comes into force (R342, log 129). -/
theorem State.slotMove_slot {st : Nat} :
    (s.slotMove i st p).slot i = { s.slot i with entry := (s.slot i).newest, tuned := none } :=
  (State.slot_congr (State.raiseCle_cle.trans State.report_cle)).trans State.slot_setSlot_same

/-- An audit record changes no bit of a slot's status. -/
theorem State.audit_slotOn {f : Fld} {j : Nat} (h : i < 256) (hf : f.off = Reg.CLE_SSTAT i) :
    (s.audit p tag cls j code).on f = s.on f :=
  State.on_congr (State.audit_fieldReg (hf ▸ (Reg.CLE_SSTAT_range h).2))

/-- The slot a command names is one of the 256 (R340). -/
theorem Desc.slot_lt {d : Desc} : fieldOf d.w2 7 0 < 256 := Nat.mod_lt _ (by decide)

theorem le_nextDue {e : List Word} {n : Nat} : n ≤ nextDue e n := Nat.le_add_right _ _

end Sys2Proof.Machine
end

section
namespace Sys2Proof.Machine

/-! ## The ring commands on loop slots (R336, R340, R351, R355 to R361) -/

variable {s u : State} {x : HPort} {p : Part} {d : Desc} {o : Op} {i n op : Nat} {wf : Bool} {bs : List Byte}
  {body : Nat → State → Nat → CmdEnd}

/-- A CLE_CTL on a slot that the partition may write finishes as its operation says; but for the capture read the module must be
ACTIVE. -/
theorem State.cleCtl_finishes (h : s.mayStart x p d o = true) (hd : d.opcode = 0x2D) (hop : fieldOf d.w3 3 0 = op)
    (hw : wf = true)
    (hf : (s.started x p o).filterWrite p ((s.started x p o).slotTag (fieldOf d.w2 7 0)) Cls.loop (fieldOf d.w2 7 0)
      = St.success)
    (ha : (s.started x p o).active = true ∨ op = 6) :
    s.cleCtl x p d op wf body = s.finish (body (fieldOf d.w2 7 0) (s.started x p o) o.id) x p o := by
  have hrun : (!(s.started x p o).active && op != 6) = false := by rcases ha with ha | ha <;> simp [ha]
  rw [State.cleCtl, State.command_finishes h (by simp [hd, hop]) hw]
  simp only [hf, hrun, bne_self_eq_false, Bool.false_eq_true, if_false]

/-! ### Load (R340) -/

/-- The entries that a load of `es` from slot `first` on judges: its own, and elsewhere those last loaded. -/
def State.loadedEntry (s : State) (first n : Nat) (es : List (List Word)) (j : Nat) : List Word :=
  if first ≤ j && j < first + n then es.getD (j - first) [] else if s.on (F.CLE_SSTAT_LOADED j) then (s.slot j).newest else []

theorem cleLoadBody_loads {first len : Nat} (hi : fieldOf d.w2 7 0 = first) (hn : fieldOf d.w3 8 0 = len)
    (hr : s.slotRefused p first len = none) (hread : s.dmaRead x p d.addr (80 * len) = (some bs, u))
    (hok : u.firstBad (u.loadedEntry first len (entriesOf len (wordsOf bs))) first (entriesOf len (wordsOf bs)) = none) :
    cleLoadBody x p d s n =
      .done (forUpto len u (fun k t => t.storeEntry p (first + k) ((entriesOf len (wordsOf bs)).getD k []))) St.success
        (wd len) 0 := by
  simp only [cleLoadBody, hi, hn, hr, hread]
  split
  · next hbad => cases hok.symm.trans hbad
  · rfl

/-! ### Enable (R351) -/

/-- The first sample of a slot that is enabled now: the first due tick after the current one, or after the next (log 48). -/
def State.firstSample (s : State) (i : Nat) : Nat := nextDue (s.slot i).entry (s.cle.tc + 1 + s.freeVal.toNat % 2)

theorem State.tc_lt_firstSample : s.cle.tc < s.firstSample i :=
  Nat.lt_of_lt_of_le (by omega) le_nextDue

theorem cleEnableBody_running (h : s.slotState i = 1) :
    cleEnableBody p i s n = .done s St.success (wd (s.slot i).firstTc) 0 := if_pos h

theorem cleEnableBody_enables (hi : i < 256) (hoff : s.slotState i = 0) (hl : s.on (F.CLE_SSTAT_LOADED i) = true) :
    ∃ u, cleEnableBody p i s n = .done u St.success (wd (s.firstSample i)) 0 ∧ u.slotState i = 1 ∧
      (u.slot i).firstTc = s.firstSample i ∧ (u.slot i).dPrev = 0 := by
  have hrun : ¬ s.slotState i = 1 := by omega
  have hmay : ¬ (s.slotState i != 0 || !s.on (F.CLE_SSTAT_LOADED i)) = true := by simp [hoff, hl]
  unfold cleEnableBody
  extract_lets k e pv sp w e0 first bumpless cleared
  rw [if_neg hrun, if_neg hmay]
  refine ⟨_, rfl, ?run, ?first, ?dzero⟩
  case run =>
    exact (State.slotState_congr (State.audit_fieldReg (Reg.CLE_SSTAT_range hi).2)).trans (State.slotMove_slotState hi (by decide))
  case first => simp only [State.audit_slot, State.slotMove_slot, cleared, State.setF_slot, bumpless, State.slot_setSlot_same]; rfl
  case dzero => simp only [State.audit_slot, State.slotMove_slot, cleared, State.setF_slot, bumpless, State.slot_setSlot_same]

/-! ### Disable (R355) -/

theorem cleDisableBody_off (h : s.slotState i = 0) : cleDisableBody x p i s n = .done s St.success (wd s.cle.tc) 0 := if_pos h

theorem cleDisableBody_running (h : s.slotState i = 1) :
    cleDisableBody x p i s n = .wait ((s.audit p (s.slotEvTag i) Cls.loop i 0x2D).setSlot i
      { s.slot i with stops := (s.slot i).stops ++ [(x, p, n)] }) := by
  simp only [cleDisableBody, h, Nat.one_ne_zero, if_false, if_true]

theorem cleDisableBody_fault (h : 2 ≤ s.slotState i) :
    cleDisableBody x p i s n = .done (((s.audit p (s.slotEvTag i) Cls.loop i 0x2D).outSrcFlt i false).slotMove i 0 p)
      St.success (wd s.cle.tc) 0 := by
  have h0 : s.slotState i ≠ 0 := by omega
  have h1 : s.slotState i ≠ 1 := by omega
  simp only [cleDisableBody, h0, h1, if_false]

/-! ### Test signals (R356 to R358) -/

/-- The injection of `ws` that a start now gives slot `i` (R356). -/
def State.newInj (s : State) (i : Nat) (ws : List Word) : Inj :=
  { desc := ws, start := s.upcoming i, n := 0, lfsr := 0x7FFF, k := 0, m := 0, stopped := false }

/-- The samples that an inject start answers: how long the injection lasts, all ones where it is to be stopped (R356, R362). -/
def injLength (t : Word) (ws : List Word) : Word :=
  match injTotal t ws with
  | some m => wd m
  | none => 0xFFFFFFFF

/-- The state in which slot `i` has the injection of `ws`; `u` is the state after the read of its descriptor. -/
def State.injecting (s u : State) (p : Part) (i : Nat) (ws : List Word) : State :=
  ((u.setSlot i { s.slot i with inj := some (s.newInj i ws) }).setF (F.CLE_SSTAT_INJ i) 1).audit p (s.slotEvTag i) Cls.loop i 0x2D

theorem State.injecting_slot {ws : List Word} :
    ((s.injecting u p i ws).slot i).inj = some (s.newInj i ws) := by
  simp only [State.injecting, State.audit_slot, State.setF_slot, State.slot_setSlot_same]

theorem State.injecting_on {ws : List Word} (hi : i < 256) : (s.injecting u p i ws).on (F.CLE_SSTAT_INJ i) = true :=
  (State.audit_slotOn hi rfl).trans (State.on_setF_one rfl (by simp [F.CLE_SSTAT_INJ]))

theorem cleInjectStartBody_starts (hrun : s.slotState i = 1) (hn : (s.slot i).inj = none)
    (hread : s.dmaRead x p d.addr 32 = (some bs, u)) (hok : injOk (entT (s.slot i).entry) (wordsOf bs) = true) :
    cleInjectStartBody x p d i s n = .done (s.injecting u p i (wordsOf bs)) St.success (wd (s.upcoming i))
      (injLength (entT (s.slot i).entry) (wordsOf bs)) := by
  simp only [cleInjectStartBody, hrun, hn, hread, hok, bne_self_eq_false, Option.isSome_none, Bool.not_true, Bool.false_eq_true,
    if_false]
  rfl

theorem cleInjectStopBody_none (h : (s.slot i).inj = none) : cleInjectStopBody p i s n = .done s St.success 0 0 := by
  simp only [cleInjectStopBody, h]

theorem cleInjectStopBody_stops {j : Inj} (h : (s.slot i).inj = some j) :
    cleInjectStopBody p i s n =
      .done ((s.setSlot i { s.slot i with inj := some { j with stopped := true } }).audit p (s.slotEvTag i) Cls.loop i 0x2D)
        St.success (wd j.n) 0 := by
  simp only [cleInjectStopBody, h]

/-! ### Captures (R359 to R361) -/

/-- The capture with descriptor `ws` that a start now begins on slot `i` (R360). -/
def State.newCapture (s : State) (i : Nat) (ws : List Word) : Capture where
  part := s.slotEvTag i
  slot := i
  desc := ws
  segs := (s.segsOf (s.slotEvTag i)).take (ceilDiv (entF ws 2 14 0) 1024)
  running := true
  armed := entF ws 0 16 16 = 1
  start := s.upcoming i
  seen := 0
  data := []

/-- The state in which slot `i` is captured by `ws`, in place of its partition's capture before; `u` is the state after the read of
the descriptor. -/
def State.capturing (s u : State) (p : Part) (i : Nat) (ws : List Word) : State :=
  ((u.setCaps (u.cle.caps.filter (fun c => c.part != s.slotEvTag i) ++ [s.newCapture i ws])).setF (F.CLE_SSTAT_CAP i) 1).audit
    p (s.slotEvTag i) Cls.loop i 0x2D

theorem State.capturing_caps {ws : List Word} : s.newCapture i ws ∈ (s.capturing u p i ws).cle.caps := by
  simp [State.capturing]

theorem State.capturing_on {ws : List Word} (hi : i < 256) : (s.capturing u p i ws).on (F.CLE_SSTAT_CAP i) = true :=
  (State.audit_slotOn hi rfl).trans (State.on_setF_one rfl (by simp [F.CLE_SSTAT_CAP]))

theorem cleCaptureStartBody_starts (hrun : s.slotState i = 1)
    (hidle : ∀ c, s.capOf (s.slotEvTag i) = some c → c.running = false)
    (hread : s.dmaRead x p d.addr 16 = (some bs, u)) (hok : capOk (wordsOf bs) = true)
    (hroom : entF (wordsOf bs) 2 14 0 ≤ 1024 * (s.segsOf (s.slotEvTag i)).length) :
    cleCaptureStartBody x p d i s n = .done (s.capturing u p i (wordsOf bs)) St.success
      (if entF (wordsOf bs) 0 16 16 = 1 then 0xFFFFFFFF else wd (s.upcoming i)) (wd (entF (wordsOf bs) 2 14 0)) := by
  unfold cleCaptureStartBody
  extract_lets tag segs first
  refine (if_neg (by simp [hrun])).trans ((if_neg ?free).trans ?starts)
  case free =>
    split
    · next c hc => simp [hidle c hc]
    · exact Bool.false_ne_true
  case starts =>
    simp only [tag, segs, hread, hok, Nat.not_lt.2 hroom, Bool.not_true, Bool.false_eq_true, if_false]
    rfl

/-- The samples captured for a partition. -/
def State.capData (s : State) (tag : Nat) : List (List Word) :=
  match s.capOf tag with
  | some c => c.data
  | none => []

/-- The bytes that a capture read of at most `len` bytes writes: whole samples of 16 bytes (R361). -/
def sampleBytes (data : List (List Word)) (len : Nat) : List Byte := wordsBytes ((data.take (len / 16)).flatMap id)

theorem cleCaptureReadBody_reads
    (hw : s.dmaWrite x p d.addr (sampleBytes (s.capData (s.slotEvTag i)) d.len) = (true, u)) :
    cleCaptureReadBody x p d i s n =
      .done u St.success (wd (sampleBytes (s.capData (s.slotEvTag i)) d.len).length) (wd (s.capData (s.slotEvTag i)).length) := by
  unfold cleCaptureReadBody
  extract_lets data out
  have hout : s.dmaWrite x p d.addr out = (true, u) := hw
  simp only [hout]
  rfl

/-! ### The rows -/

theorem exec_cleLoad : exec (.cleLoad x p d) s =
    .next (s.command x p d (d.opcode = 0x2C)
      (d.clean 0xFF 0x1FF 0xFFFFFFFF 0xFFFFFFFF 0 0 && d.addr % 8 = 0 && 1 ≤ fieldOf d.w3 8 0 && fieldOf d.w3 8 0 ≤ 256
        && fieldOf d.w2 7 0 + fieldOf d.w3 8 0 ≤ 256) true false (cleLoadBody x p d)) := rfl

theorem exec_cleEnable : exec (.cleEnable x p d) s =
    .next (s.cleCtl x p d 1 (d.clean 0xFF 0xF 0 0 0 0) (cleEnableBody p)) := rfl

theorem exec_cleDisable : exec (.cleDisable x p d) s =
    .next (s.cleCtl x p d 2 (d.clean 0xFF 0xF 0 0 0 0) (cleDisableBody x p)) := rfl

theorem exec_cleInjectStart : exec (.cleInjectStart x p d) s =
    .next (s.cleCtl x p d 3 (d.buf 0xFF 0xF 0 32 32) (cleInjectStartBody x p d)) := rfl

theorem exec_cleInjectStop : exec (.cleInjectStop x p d) s =
    .next (s.cleCtl x p d 4 (d.clean 0xFF 0xF 0 0 0 0) (cleInjectStopBody p)) := rfl

theorem exec_cleCaptureStart : exec (.cleCaptureStart x p d) s =
    .next (s.cleCtl x p d 5 (d.buf 0xFF 0xF 0 16 16) (cleCaptureStartBody x p d)) := rfl

theorem exec_cleCaptureRead : exec (.cleCaptureRead x p d) s =
    .next (s.cleCtl x p d 6 (d.buf 0xFF 0xF 0 0 0xFFFFFFFF && d.len % 16 = 0) (cleCaptureReadBody x p d)) := rfl

/-- Settles O26: a command on a slot passes the shared gate and ends as its operation's body says; what an enable, an inject start
and a capture start leave is read off the named states. -/
theorem loopSlotCommands : Obligations.LoopSlotCommands := by
  refine ⟨?load, ?running, ?enable, ?off, ?fault, ?waits, ?inject, ?noInjection, ?injectStop, ?capture, ?captureRead⟩
  case load =>
    intro x p d o s bs t h hd hc haddr hlow hhigh hrange hr hread hok
    rw [exec_cleLoad, State.command_finishes h (decide_eq_true hd) (by simp [hc, haddr, hlow, hhigh, hrange]),
      cleLoadBody_loads rfl rfl hr hread hok, State.finish_done]
  case running =>
    intro x p d o s h hd hop hc hf ha hrun
    rw [exec_cleEnable, State.cleCtl_finishes h hd hop hc hf (.inl ha), cleEnableBody_running hrun, State.finish_done]
  case enable =>
    intro x p d o s h hd hop hc hf ha hoff hl
    obtain ⟨u, hu, hrun, hfirst, hdzero⟩ := cleEnableBody_enables (p := p) (n := o.id) Desc.slot_lt hoff hl
    refine ⟨u, _, ?_, hrun, State.tc_lt_firstSample, hfirst, hdzero⟩
    rw [exec_cleEnable, State.cleCtl_finishes h hd hop hc hf (.inl ha), hu, State.finish_done]
  case off =>
    intro x p d o s h hd hop hc hf ha hoff
    rw [exec_cleDisable, State.cleCtl_finishes h hd hop hc hf (.inl ha), cleDisableBody_off hoff, State.finish_done]
  case fault =>
    intro x p d o s h hd hop hc hf ha hfault
    rw [exec_cleDisable, State.cleCtl_finishes h hd hop hc hf (.inl ha), cleDisableBody_fault hfault, State.finish_done]
  case waits =>
    intro x p d o s h hd hop hc hf ha hrun
    rw [exec_cleDisable, State.cleCtl_finishes h hd hop hc hf (.inl ha), cleDisableBody_running hrun, State.finish_wait]
  case inject =>
    intro x p d o s bs t h hd hop hb hf ha hrun hn hread hok
    refine ⟨(s.started x p o).injecting t p _ (wordsOf bs), ?_, State.injecting_on Desc.slot_lt, State.injecting_slot⟩
    rw [exec_cleInjectStart, State.cleCtl_finishes h hd hop hb hf (.inl ha), cleInjectStartBody_starts hrun hn hread hok,
      State.finish_done]
    rfl
  case noInjection =>
    intro x p d o s h hd hop hc hf ha hn
    rw [exec_cleInjectStop, State.cleCtl_finishes h hd hop hc hf (.inl ha), cleInjectStopBody_none hn, State.finish_done]
  case injectStop =>
    intro x p d o s j h hd hop hc hf ha hj
    rw [exec_cleInjectStop, State.cleCtl_finishes h hd hop hc hf (.inl ha), cleInjectStopBody_stops hj, State.finish_done]
  case capture =>
    intro x p d o s bs t h hd hop hb hf ha hrun hidle hread hok hroom
    refine ⟨(s.started x p o).capturing t p _ (wordsOf bs), ?_, State.capturing_on Desc.slot_lt, _, State.capturing_caps, rfl,
      rfl, rfl⟩
    rw [exec_cleCaptureStart, State.cleCtl_finishes h hd hop hb hf (.inl ha),
      cleCaptureStartBody_starts hrun hidle hread hok hroom, State.finish_done]
  case captureRead =>
    intro x p d o s data t h hd hop hb hlen hf hdata hw
    subst hdata
    rw [exec_cleCaptureRead, State.cleCtl_finishes h hd hop (by simp [hb, hlen]) hf (.inr rfl), cleCaptureReadBody_reads hw,
      State.finish_done]
    rfl

end Sys2Proof.Machine
end

section
namespace Sys2Proof.Machine

/-! ## A write of a register's fields (R7, R11): what it leaves alone -/

variable {s : State} {off o : Nat} {v old : Word}

theorem State.writeFields_induction {P : State → Prop} (h : P s) (hf : ∀ f u, P u → P (u.writeField off v f)) :
    P (s.writeFields off v) := by
  unfold State.writeFields
  split
  · exact h
  · next r _ =>
    induction r.fields generalizing s with
    | nil => exact h
    | cons f fs ih => exact ih (hf f s h)

/-- A write of one field changes registers only. -/
theorem State.writeField_frame {f : FieldRow} : s.writeField off v f = { s with regs := (s.writeField off v f).regs } := by
  unfold State.writeField
  extract_lets b n
  split
  case h_1 => split <;> rfl
  all_goals rfl

/-- A write of one field changes no register but its own and, by BADVAL, SYS_STAT. -/
theorem State.writeField_reg {f : FieldRow} (h : o ≠ off) (k : o ≠ Reg.SYS_STAT) :
    (s.writeField off v f).reg o = s.reg o := by
  unfold State.writeField
  extract_lets b n
  have hset : ∀ m, (s.setF b m).reg o = s.reg o := fun m => State.reg_setF_other h
  split
  case h_1 => split <;> [exact hset _; exact State.reg_setF_other k]
  case h_2 | h_3 => exact hset _
  all_goals rfl

theorem State.writeFields_frame : s.writeFields off v = { s with regs := (s.writeFields off v).regs } :=
  State.writeFields_induction (P := fun u => u = { s with regs := u.regs }) rfl fun f u hu => by
    rw [State.writeField_frame, hu]

theorem State.writeFields_reg_other (h : o ≠ off) (k : o ≠ Reg.SYS_STAT) : (s.writeFields off v).reg o = s.reg o :=
  State.writeFields_induction (P := fun u => u.reg o = s.reg o) rfl fun _ _ hu => (State.writeField_reg h k).trans hu

@[simp] theorem State.writeFields_host : (s.writeFields off v).host = s.host := by rw [State.writeFields_frame]

@[simp] theorem State.writeFields_out : (s.writeFields off v).out = s.out := by rw [State.writeFields_frame]

@[simp] theorem State.writeFields_lio : (s.writeFields off v).lio = s.lio := by rw [State.writeFields_frame]

theorem State.emit_reg {x : Out} : (s.emit x).reg o = s.reg o := State.reg_congr rfl rfl

/-! ### A limit that joins several fields (R11, log 177) -/

/-- Fields that were kept leave every other field of the word as it was. -/
theorem fieldOf_keepFields {hi lo : Nat} {fs : List (Nat × Nat)}
    (h : ∀ f ∈ fs, f.2 ≤ f.1 ∧ f.1 < 32 ∧ (hi < f.2 ∨ f.1 < lo)) :
    fieldOf (keepFields old v fs) hi lo = fieldOf v hi lo := by
  induction fs generalizing v with
  | nil => rfl
  | cons f fs ih =>
    obtain ⟨⟨hle, h32, hdis⟩, hfs⟩ := List.forall_mem_cons.1 h
    refine (ih hfs).trans ?_
    rcases hdis with hb | ha
    · exact fieldOf_withField_below _ _ hle h32 hb
    · exact fieldOf_withField_above _ _ hle h32 ha

/-- A field that was kept has its old value, where the fields kept do not overlap. -/
theorem fieldOf_keepFields_mem {f : Nat × Nat} {fs : List (Nat × Nat)} (hw : ∀ g ∈ fs, g.2 ≤ g.1 ∧ g.1 < 32)
    (hd : fs.Pairwise fun g h => g.1 < h.2 ∨ h.1 < g.2) (hf : f ∈ fs) :
    fieldOf (keepFields old v fs) f.1 f.2 = fieldOf old f.1 f.2 := by
  induction fs generalizing v with
  | nil => cases hf
  | cons g fs ih =>
    obtain ⟨⟨hle, h32⟩, hws⟩ := List.forall_mem_cons.1 hw
    obtain ⟨hgs, hds⟩ := List.pairwise_cons.1 hd
    rcases List.mem_cons.1 hf with rfl | hmem
    · refine (fieldOf_keepFields fun h hh => ⟨(hws h hh).1, (hws h hh).2, hgs h hh⟩).trans ?_
      exact (fieldOf_withField_same _ _ hle h32).trans (Nat.mod_eq_of_lt (Nat.mod_lt _ (Nat.two_pow_pos _)))
    · exact ih hws hds hmem

/-- Where one of the tries keeps the limit, the word that is settled on is a try's and keeps it. -/
theorem settleWord_keeps {ok : Word → Bool} {tries : List (List (Nat × Nat))}
    (h : ∃ fs ∈ tries, ok (keepFields old v fs) = true) :
    ∃ fs ∈ tries, ok (keepFields old v fs) = true ∧ settleWord ok old v tries = (keepFields old v fs, !fs.isEmpty) := by
  induction tries with
  | nil => obtain ⟨fs, hfs, -⟩ := h; cases hfs
  | cons gs tries ih =>
    by_cases hg : ok (keepFields old v gs) = true
    · exact ⟨gs, List.mem_cons_self, hg, if_pos hg⟩
    · obtain ⟨fs, hfs, hok⟩ := h
      have hmem : fs ∈ tries := (List.mem_cons.1 hfs).resolve_left fun e => hg (e ▸ hok)
      obtain ⟨ks, hks, hkok, hset⟩ := ih ⟨fs, hmem, hok⟩
      exact ⟨ks, List.mem_cons_of_mem _ hks, hkok, (if_neg hg).trans hset⟩

end Sys2Proof.Machine
end

section
namespace Sys2Proof.Machine

/-! ## Edges of pulse inputs (R367) -/

variable {s : State} {n o time : Nat} {onB level : Bool}

theorem exec_pulseInputEdge {n : Fin 8} :
    exec (.pulseInputEdge n onB level time) s = .next (pulseInputEdgeEff n onB level time s) := rfl

@[simp] theorem State.pulse_setPulse_same {p : PulseIn} : (s.setPulse n p).pulse n = p := Store.get_put_same

/-- MODE 1 counts the rising edges of pin A. -/
theorem edgeStep_single {a b : Bool} : edgeStep 1 onB level a b = if onB = false ∧ level = true then 1 else 0 := by
  simp [edgeStep]

/-- MODE 2 counts the rising edges of pin A, down while pin B is high. -/
theorem edgeStep_direction {a b : Bool} :
    edgeStep 2 onB level a b = if onB = false ∧ level = true then (if b = true then -1 else 1) else 0 := by
  simp [edgeStep]

/-- The state of a pulse input after an edge of one pin. -/
def PulseIn.edge (p : PulseIn) (onB level : Bool) : PulseIn := if onB then { p with b := level } else { p with a := level }

/-- What an edge of a pin of input `n` counts, as its MODE says. -/
def State.edgeCount (s : State) (n : Nat) (onB level : Bool) : Int :=
  edgeStep (s.lioRf (F.LIO_PICFG_MODE n)) onB level ((s.pulse n).edge onB level).a ((s.pulse n).edge onB level).b

theorem State.takeEdge_silent (h : s.edgeCount n onB level = 0) :
    s.takeEdge n onB level time = s.setPulse n ((s.pulse n).edge onB level) := if_pos h

theorem State.takeEdge_counts {p : PulseIn} (hp : p = (s.pulse n).edge onB level) (h : s.edgeCount n onB level ≠ 0)
    (hl : p.last = 0 ∨ p.last + 200 ≤ time + 1) :
    s.takeEdge n onB level time =
      s.setPulse n { p with
        cnt := p.cnt + wdInt (s.edgeCount n onB level)
        last := time + 1
        edges := p.edges ++ [{ tick := s.lio.tick, time := time, cnt := p.cnt + wdInt (s.edgeCount n onB level) }] } := by
  subst hp
  refine (if_neg h).trans (if_neg ?_)
  simp only [Bool.and_eq_true, bne_iff_ne, decide_eq_true_eq]
  exact fun ⟨hn, hlt⟩ => hl.elim hn (Nat.not_le.2 hlt)

theorem State.takeEdge_overruns {p : PulseIn} (hp : p = (s.pulse n).edge onB level) (h : s.edgeCount n onB level ≠ 0)
    (hn : p.last ≠ 0) (hlt : time + 1 < p.last + 200) :
    s.takeEdge n onB level time =
      (((s.setPulse n p).addSat (F.LIO_PIOVR_CNT n) 1).raise Reg.LIO_STAT Reg.LIO_IEN 13 (16 + n)).report
        0x0D02 0 (wd n) (((s.setPulse n p).addSat (F.LIO_PIOVR_CNT n) 1).reg (Reg.LIO_PIOVR n)) 0 := by
  subst hp
  refine (if_neg h).trans (if_pos ?_)
  simp only [Bool.and_eq_true, bne_iff_ne, decide_eq_true_eq]
  exact ⟨hn, hlt⟩

theorem State.settleEdges_one {old : Nat → Bool} {b l : Bool} {u : Nat} (h : (s.pulse n).pend = [(b, l, u)]) (ho : old u = true) :
    s.settleEdges n old = (s.setPulse n { s.pulse n with pend := [] }).takeEdge n b l u := by
  simp [State.settleEdges, h, ho]

theorem State.settleEdges_young {old : Nat → Bool} (h : (s.pulse n).pend.all (fun e => !old e.2.2) = true) :
    s.settleEdges n old = s.setPulse n (s.pulse n) := by
  have hnone : (s.pulse n).pend.takeWhile (fun e => old e.2.2) = [] := by
    cases hp : (s.pulse n).pend with
    | nil => rfl
    | cons e es =>
      rw [hp, List.all_cons, Bool.and_eq_true, Bool.not_eq_true'] at h
      exact List.takeWhile_cons_of_neg (by simp [h.1])
  simp only [State.settleEdges, hnone, List.length_nil, List.drop_zero, List.foldl_nil]

/-- The state of the pulse input's edges at an edge of time `time`: those that are 100 ns old have acted. -/
def State.settledAt (s : State) (n time : Nat) : State := s.settleEdges n (fun u => u + 20 ≤ time)

theorem pulseInputEdgeEff_running {n : Fin 8} (h : s.inReset 13 = false) :
    pulseInputEdgeEff n onB level time s =
      let t := s.settledAt n time
      if (t.pulse n).level onB = level then t
      else if (t.pulse n).pend.any (fun e => e.1 = onB) then
        t.setPulse n { t.pulse n with pend := (t.pulse n).pend.filter (fun e => e.1 != onB) }
      else t.setPulse n { t.pulse n with pend := (t.pulse n).pend ++ [(onB, level, time)] } :=
  if_neg (by simp [h])

theorem pulseInputEdgeEff_inReset {n : Fin 8} (h : s.inReset 13 = true) :
    pulseInputEdgeEff n onB level time s = s.setPulse n ((s.pulse n).edge onB level) := if_pos h

end Sys2Proof.Machine
end

section
namespace Sys2Proof.Machine

/-! ## PWM outputs (R368, R369, R376, R377) -/

variable {s : State} {n o : Nat} {v old : Word} {ran : Bool}

theorem exec_pwmPeriodStart {n : Fin 8} : exec (.pwmPeriodStart n) s = .next (pwmPeriodStartEff n s) := rfl

theorem exec_pwmConfigWrite {x : HPort} {n : Fin 8} (h : s.mayWrite x 13 = true) :
    exec (.pwmConfigWrite x n v) s = .next (s.writePwm n v) := by
  rw [← State.asWrite_may (t := s.writePwm n v) h]
  rfl

theorem Reg.LIO_PWM_ne_SYS_STAT : Reg.LIO_PWCFG n ≠ Reg.SYS_STAT ∧ Reg.LIO_PWDUTY n ≠ Reg.SYS_STAT := by
  simp only [Reg.LIO_PWCFG, Reg.LIO_PWDUTY, Reg.SYS_STAT]; omega

theorem Reg.LIO_PWCFG_ne_PWDUTY {m n : Fin 8} : Reg.LIO_PWCFG m ≠ Reg.LIO_PWDUTY n := by
  simp only [Reg.LIO_PWCFG, Reg.LIO_PWDUTY]; omega

theorem Reg.LIO_PWCFG_inj {m n : Nat} (h : m ≠ n) : Reg.LIO_PWCFG m ≠ Reg.LIO_PWCFG n := by
  simp only [Reg.LIO_PWCFG]; omega

theorem Reg.LIO_PWDUTY_inj {m n : Nat} (h : m ≠ n) : Reg.LIO_PWDUTY m ≠ Reg.LIO_PWDUTY n := by
  simp only [Reg.LIO_PWDUTY]; omega

/-! ### The start of a period -/

/-- Whether output `n` starts a period now: the unit is out of reset, the output runs and waits for no restart. -/
def State.pwmStarts (s : State) (n : Nat) : Prop :=
  s.inReset 13 = false ∧ s.on (F.LIO_PWCFG_EN n) = true ∧ Store.get noFlag s.lio.pwmHeld n = false ∧
    Store.get natZero s.lio.restart n ≤ s.lio.tick

theorem pwmPeriodStartEff_waits {n : Fin 8} (h : ¬ s.pwmStarts n) : pwmPeriodStartEff n s = s := by
  refine if_pos ?_
  by_contra hc
  refine h ?_
  simpa [State.pwmRuns, State.pwmStarts, and_assoc] using hc

/-- The state in which a period of output `n` has started: its active time is shown, and no restart is waited for. -/
def State.pwmStarted (s : State) (n : Nat) : State :=
  (({ s.useFree with lio := { s.lio with restart := Store.put natZero s.lio.restart n 0 } } : State).setReg (Reg.LIO_PWDUTY n)
    (wd (s.pwmActive n))).emit (.pwm n (s.pwmActive n) (s.on (F.LIO_PWCFG_POL n)))

theorem pwmPeriodStartEff_starts {n : Fin 8} (h : s.pwmStarts n) : pwmPeriodStartEff n s = s.pwmStarted n := by
  obtain ⟨hreset, hen, hheld, hrestart⟩ := h
  exact if_neg (by simp [State.pwmRuns, hreset, hen, hheld, hrestart])

/-! ### A write of the configuration -/

theorem State.pwmIdle_reg {low : Bool} (h : o ≠ Reg.LIO_PWDUTY n) : (s.pwmIdle n low).reg o = s.reg o :=
  State.emit_reg.trans (State.reg_setReg_other h)

theorem State.pwmIdle_duty {low : Bool} : (s.pwmIdle n low).reg (Reg.LIO_PWDUTY n) = 0 :=
  State.emit_reg.trans State.reg_setReg_same

theorem State.pwmIdle_out {low : Bool} : (s.pwmIdle n low).out = .pwm n 0 low :: s.out := rfl

/-- The new configuration may end the output's period: it changes no register but the output's LIO_PWDUTY. -/
theorem State.pwmConfigured_reg (h : o ≠ Reg.LIO_PWDUTY n) : (s.pwmConfigured n ran old).reg o = s.reg o := by
  unfold State.pwmConfigured
  extract_lets w t
  split
  · split
    · exact State.pwmIdle_reg h
    · rfl
  · split
    · exact State.pwmIdle_reg h
    · rfl

theorem State.pwmConfigured_host : (s.pwmConfigured n ran old).host = s.host := by
  unfold State.pwmConfigured
  extract_lets w t
  split
  · split <;> rfl
  · split <;> rfl

/-- A disabled output takes the inactive level of its POL where it ran or POL changes. -/
theorem State.pwmConfigured_off (hw : s.reg (Reg.LIO_PWCFG n) = v) (h : fieldOf v 31 31 = 0)
    (hc : ran = true ∨ fieldOf old 29 29 ≠ fieldOf v 29 29) :
    s.pwmConfigured n ran old = s.pwmIdle n (fieldOf v 29 29 = 1) := by
  subst hw
  exact (if_pos h).trans (if_pos (by simpa using hc))

/-- A running output whose ALIGN or PER changes ends its period and waits for the next base tick. -/
theorem State.pwmConfigured_restarts (hw : s.reg (Reg.LIO_PWCFG n) = v) (h : fieldOf v 31 31 = 1)
    (hc : fieldOf old 30 30 ≠ fieldOf v 30 30 ∨ fieldOf old 23 0 ≠ fieldOf v 23 0) :
    s.pwmConfigured n true old =
      ({ s with lio := { s.lio with restart := Store.put natZero s.lio.restart n (s.lio.tick + 1) } } : State).pwmIdle n
        (fieldOf old 29 29 = 1) := by
  subst hw
  exact (if_neg (by omega)).trans (if_pos (by simpa using hc))

/-- An output that did not run and is enabled waits for its first period. -/
theorem State.pwmConfigured_enabled (hw : s.reg (Reg.LIO_PWCFG n) = v) (h : fieldOf v 31 31 = 1) :
    s.pwmConfigured n false old = s := by
  subst hw
  exact (if_neg (by omega)).trans (if_neg (by simp))

/-- What a write of `v` to LIO_PWCFG[n] settles on, and whether a field was kept. -/
def State.pwmSettled (s : State) (n : Nat) (v : Word) : Word × Bool :=
  settleWord pwmCfgOk (s.reg (Reg.LIO_PWCFG n)) ((s.writeFields (Reg.LIO_PWCFG n) v).reg (Reg.LIO_PWCFG n)) pwmTries

/-- The state in which a write to LIO_PWCFG[n] has stored what it settled on; the hold of a block reset is over (log 180). -/
def State.pwmStored (s : State) (n : Nat) (v : Word) : State :=
  let t := ((s.writeFields (Reg.LIO_PWCFG n) v).setReg (Reg.LIO_PWCFG n) (s.pwmSettled n v).1).badValIf (s.pwmSettled n v).2
  { t with lio := { t.lio with pwmHeld := Store.put noFlag t.lio.pwmHeld n false } }

theorem State.writePwm_eq :
    s.writePwm n v = (s.pwmStored n v).pwmConfigured n (s.pwmRuns n) (s.reg (Reg.LIO_PWCFG n)) := rfl

theorem State.badValIf_reg {b : Bool} (h : o ≠ Reg.SYS_STAT) : (s.badValIf b).reg o = s.reg o := by
  cases b
  · rfl
  · exact State.reg_setF_other h

theorem State.pwmStored_cfg : (s.pwmStored n v).reg (Reg.LIO_PWCFG n) = (s.pwmSettled n v).1 :=
  (State.badValIf_reg Reg.LIO_PWM_ne_SYS_STAT.1).trans State.reg_setReg_same

theorem State.pwmStored_reg (h : o ≠ Reg.LIO_PWCFG n) (k : o ≠ Reg.SYS_STAT) : (s.pwmStored n v).reg o = s.reg o :=
  (State.badValIf_reg k).trans ((State.reg_setReg_other h).trans (State.writeFields_reg_other h k))

theorem State.pwmStored_frame :
    (s.pwmStored n v).host = s.host ∧ (s.pwmStored n v).out = s.out ∧ (s.pwmStored n v).lio.tick = s.lio.tick := by
  have h {b : Bool} {t : State} : (t.badValIf b).host = t.host ∧ (t.badValIf b).out = t.out ∧ (t.badValIf b).lio = t.lio := by
    cases b <;> exact ⟨rfl, rfl, rfl⟩
  simp [State.pwmStored, h]

theorem State.pwmStored_badVal (h : (s.pwmSettled n v).2 = true) : (s.pwmStored n v).on F.SYS_STAT_BADVAL = true := by
  have e : (s.pwmStored n v).reg Reg.SYS_STAT =
      ((s.writeFields (Reg.LIO_PWCFG n) v).setReg (Reg.LIO_PWCFG n) (s.pwmSettled n v).1).badVal.reg Reg.SYS_STAT := by
    simp only [State.pwmStored, State.badValIf, h, if_true]
    exact State.reg_congr rfl rfl
  exact (State.on_congr e).trans (State.on_setF_one rfl (by decide))

/-- A register that fits is what the write settles on. -/
theorem State.pwmSettled_fits (h : pwmCfgOk ((s.writeFields (Reg.LIO_PWCFG n) v).reg (Reg.LIO_PWCFG n)) = true) :
    (s.pwmSettled n v).1 = (s.writeFields (Reg.LIO_PWCFG n) v).reg (Reg.LIO_PWCFG n) :=
  congrArg Prod.fst (if_pos h)

/-- With all of its fields kept, a register that fitted fits. -/
theorem pwmCfgOk_keepFields (h : pwmCfgOk old = true) : pwmCfgOk (keepFields old v [(31, 31), (30, 30), (23, 0)]) = true := by
  have kept {f : Nat × Nat} (hf : f ∈ [(31, 31), (30, 30), (23, 0)]) :=
    fieldOf_keepFields_mem (old := old) (v := v) (by decide) (by decide) hf
  rwa [pwmCfgOk, kept (f := (31, 31)) (by decide), kept (f := (30, 30)) (by decide), kept (f := (23, 0)) (by decide)]

/-- POL takes the written value whatever the limits keep. -/
theorem pwmTries_keep_pol {fs : List (Nat × Nat)} (h : fs ∈ pwmTries) :
    fieldOf (keepFields old v fs) 29 29 = fieldOf v 29 29 :=
  fieldOf_keepFields ((by decide : ∀ fs ∈ pwmTries, ∀ f ∈ fs, f.2 ≤ f.1 ∧ f.1 < 32 ∧ (29 < f.2 ∨ f.1 < 29)) fs h)

/-- A register that does not fit settles on one that fits, with the written POL, and something is kept. -/
theorem State.pwmSettled_misfit {w : Word} (hw : w = (s.writeFields (Reg.LIO_PWCFG n) v).reg (Reg.LIO_PWCFG n))
    (h : pwmCfgOk w = false) (hold : pwmCfgOk (s.reg (Reg.LIO_PWCFG n)) = true) :
    pwmCfgOk (s.pwmSettled n v).1 = true ∧ fieldOf (s.pwmSettled n v).1 29 29 = fieldOf w 29 29 ∧
      (s.pwmSettled n v).2 = true := by
  obtain ⟨fs, hfs, hok, hset⟩ := settleWord_keeps (ok := pwmCfgOk) (old := s.reg (Reg.LIO_PWCFG n)) (v := w) (tries := pwmTries)
    ⟨[(31, 31), (30, 30), (23, 0)], by decide, pwmCfgOk_keepFields hold⟩
  have hkept : fs ≠ [] := by
    rintro rfl
    exact Bool.false_ne_true (h.symm.trans hok)
  have e : s.pwmSettled n v = (keepFields (s.reg (Reg.LIO_PWCFG n)) w fs, !fs.isEmpty) := by rw [State.pwmSettled, ← hw, hset]
  rw [e]
  exact ⟨hok, pwmTries_keep_pol hfs, by simp [hkept]⟩

/-! ### The rows -/

/-- Settles O42: an edge by what waits on its pin, a settled edge by what it counts, a period by whether the output starts one, a
configuration write by the word it settles on. -/
theorem localPulsesAndPwm : Obligations.LocalPulsesAndPwm := by
  refine ⟨?edge, ?inReset, ?settles, ?young, ?takes, ?modes, ?period, ?noPeriod, ?fits, ?misfit⟩
  case edge =>
    intro n onB level time p s t hreset ht hp
    subst ht hp
    have hrow : exec (.pulseInputEdge n onB level time) s = .next _ :=
      exec_pulseInputEdge.trans (congrArg _ (pulseInputEdgeEff_running hreset))
    refine ⟨fun hsame => ?_, fun hnew hpend => ?_, fun hnew hpend => ?_⟩
    · exact hrow.trans (congrArg _ (if_pos hsame))
    · exact hrow.trans (congrArg _ ((if_neg hnew).trans (if_pos hpend)))
    · exact hrow.trans (congrArg _ ((if_neg hnew).trans (if_neg (Bool.eq_false_iff.1 hpend))))
  case inReset =>
    intro n onB level time s hreset
    rw [exec_pulseInputEdge, pulseInputEdgeEff_inReset hreset, PulseIn.edge]
  case settles => exact fun n b l u old s h ho => State.settleEdges_one h ho
  case young =>
    intro n old s h
    rw [State.settleEdges_young h]
    exact ⟨State.pulse_setPulse_same, rfl⟩
  case takes =>
    intro n onB level time p d s hp hd
    have hcount : s.edgeCount n onB level = d := by rw [hd, hp]; rfl
    refine ⟨fun h0 => ?_, fun hn hl => ?_, fun hn hlast hlt => ?_⟩
    · rw [State.takeEdge_silent (hcount.trans h0), hp]
      rfl
    · rw [State.takeEdge_counts hp (hcount ▸ hn) hl, hcount]
    · rw [State.takeEdge_overruns hp (hcount ▸ hn) hlast hlt]
  case modes => exact fun a b onB level => ⟨rfl, edgeStep_single, edgeStep_direction⟩
  case period =>
    intro n s hreset hen hheld hrestart
    refine ⟨s.pwmStarted n, ?_, ?_, rfl, ?_, rfl⟩
    · rw [exec_pwmPeriodStart, pwmPeriodStartEff_starts ⟨hreset, hen, hheld, hrestart⟩]
    · exact State.emit_reg.trans State.reg_setReg_same
    · intro m hm
      have hne := Reg.LIO_PWDUTY_inj (Fin.val_ne_of_ne hm)
      exact State.emit_reg.trans ((State.reg_setReg_other hne).trans (State.reg_congr rfl rfl))
  case noPeriod =>
    intro n s h
    rw [exec_pwmPeriodStart, pwmPeriodStartEff_waits]
    rintro ⟨hreset, hen, hheld, hrestart⟩
    rcases h with h | h | h | h
    · simp [hreset] at h
    · simp [hen] at h
    · simp [hheld] at h
    · omega
  case fits =>
    intro x n v w s hw hreg hok
    obtain ⟨hhost, hout, htick⟩ := State.pwmStored_frame (s := s) (n := n) (v := v)
    have hword : (s.pwmStored n v).reg (Reg.LIO_PWCFG n) = w := by
      rw [State.pwmStored_cfg, State.pwmSettled_fits (hreg ▸ hok), hreg]
    refine ⟨_, (exec_pwmConfigWrite hw).trans (congrArg _ State.writePwm_eq), ?_, ?_, ?_, ?_, ?_, ?_⟩
    · exact (State.pwmConfigured_reg Reg.LIO_PWCFG_ne_PWDUTY).trans hword
    · exact State.pwmConfigured_host.trans hhost
    · intro m hm
      have hne := Fin.val_ne_of_ne hm
      exact ⟨(State.pwmConfigured_reg Reg.LIO_PWCFG_ne_PWDUTY).trans
          (State.pwmStored_reg (Reg.LIO_PWCFG_inj hne) Reg.LIO_PWM_ne_SYS_STAT.1),
        (State.pwmConfigured_reg (Reg.LIO_PWDUTY_inj hne)).trans
          (State.pwmStored_reg Reg.LIO_PWCFG_ne_PWDUTY.symm Reg.LIO_PWM_ne_SYS_STAT.2)⟩
    · intro h0 hc
      rw [State.pwmConfigured_off hword h0 hc]
      exact ⟨State.pwmIdle_duty, by rw [State.pwmIdle_out, hout]⟩
    · intro h1 hran hc
      rw [hran, State.pwmConfigured_restarts hword h1 hc]
      refine ⟨State.pwmIdle_duty, by rw [State.pwmIdle_out, hout], ?_⟩
      exact Store.get_put_same.trans (congrArg (· + 1) htick)
    · intro h1 hran
      rw [hran, State.pwmConfigured_enabled hword h1]
      exact ⟨State.pwmStored_reg Reg.LIO_PWCFG_ne_PWDUTY.symm Reg.LIO_PWM_ne_SYS_STAT.2, hout⟩
  case misfit =>
    intro x n v w s hw hreg hbad hold
    obtain ⟨hok, hpol, hkept⟩ := State.pwmSettled_misfit hreg hbad hold
    have hword : ((s.pwmStored n v).pwmConfigured n (s.pwmRuns n) (s.reg (Reg.LIO_PWCFG n))).reg (Reg.LIO_PWCFG n) =
        (s.pwmSettled n v).1 := (State.pwmConfigured_reg Reg.LIO_PWCFG_ne_PWDUTY).trans State.pwmStored_cfg
    refine ⟨_, (exec_pwmConfigWrite hw).trans (congrArg _ State.writePwm_eq), ?_, ?_, ?_⟩
    · exact (State.on_congr (State.pwmConfigured_reg Reg.LIO_PWM_ne_SYS_STAT.2.symm)).trans (State.pwmStored_badVal hkept)
    · rw [hword, hok]
    · rw [hword, hpol]

end Sys2Proof.Machine
end

section
namespace Sys2Proof.Machine

/-! ## Pulse outputs, regular saves and the metering unit's set-up (R398, R402, R403, R413 to R415) -/

variable {s t : State} {k o : Nat} {v : Word}

@[simp] theorem State.setMtr_reg {m : MtrSt} : (s.setMtr m).reg o = s.reg o := State.reg_congr rfl rfl

@[simp] theorem State.writeFields_mtr {off : Nat} : (s.writeFields off v).mtr = s.mtr := by rw [State.writeFields_frame]

theorem Reg.MTR_PCNT_inj {j : Nat} (h : j ≠ k) : Reg.MTR_PCNT j ≠ Reg.MTR_PCNT k := by
  simp only [Reg.MTR_PCNT]; omega

theorem Reg.MTR_PCFG_ne_SYS_STAT : Reg.MTR_PCFG k ≠ Reg.SYS_STAT := by
  simp only [Reg.MTR_PCFG, Reg.SYS_STAT]; omega

theorem Reg.MTR_PMC_ne_SYS_STAT : Reg.MTR_PMC k ≠ Reg.SYS_STAT := by
  simp only [Reg.MTR_PMC, Reg.SYS_STAT]; omega

theorem Reg.MTR_PCFG_ne_PMC {k : Fin 8} : Reg.MTR_PCFG k ≠ Reg.MTR_PMC k := by
  simp only [Reg.MTR_PCFG, Reg.MTR_PMC]; omega

/-! ### Starts and ends of pulses (R413, R414) -/

theorem exec_pulseStart {k : Fin 8} : exec (.pulseStart k) s = .next (pulseStartEff k s) := rfl

theorem exec_pulseEnd {k : Fin 8} : exec (.pulseEnd k) s = .next (pulseEndEff k s) := rfl

/-- How long a pulse that starts at `u` lasts with no next start in sight: WIDTH, or half the interval since the start before. -/
def State.pulseLength (s : State) (k u : Nat) : Nat :=
  if Store.get natZero s.mtr.lastStart k = 0 then s.rf (F.MTR_PCFG_WIDTH k) * 1000
  else min (s.rf (F.MTR_PCFG_WIDTH k) * 1000) ((u + 1 - Store.get natZero s.mtr.lastStart k) / 2)

theorem State.pulseLength_le {u : Nat} : s.pulseLength k u ≤ s.rf (F.MTR_PCFG_WIDTH k) * 1000 := by
  unfold State.pulseLength
  split
  · exact Nat.le_refl _
  · exact Nat.min_le_left _ _

/-- When a pulse of length `len` from `u` ends: no later than the midpoint to the next waiting start. -/
def pulseUntil (u len : Nat) : List Nat → Nat
  | n :: _ => if n < u + len then (u + n) / 2 else u + len
  | [] => u + len

theorem pulseUntil_le {u len : Nat} {us : List Nat} : pulseUntil u len us ≤ u + len := by
  cases us with
  | nil => exact Nat.le_refl _
  | cons n us =>
    rw [pulseUntil]
    split <;> omega

/-- The state in which output `k` has started the pulse of `u`, with `us` still waiting. -/
def State.pulseStarted (s : State) (k : Fin 8) (u : Nat) (us : List Nat) : State :=
  let t := s.setMtr { s.mtr with
    starts := Store.put noNats s.mtr.starts k us
    lastStart := Store.put natZero s.mtr.lastStart k (u + 1)
    ends := Store.put natZero s.mtr.ends k (pulseUntil u (s.pulseLength k u) us)
    active := Store.put noFlag s.mtr.active k true }
  (t.setReg (Reg.MTR_PCNT k) (t.reg (Reg.MTR_PCNT k) + 1)).emit (.pulse k true (s.on (F.MTR_PCFG_POL k)))

theorem pulseStartEff_starts {k : Fin 8} {u : Nat} {us : List Nat} (h : Store.get noNats s.mtr.starts k = u :: us)
    (hr : s.inReset 14 = false) (he : s.on (F.MTR_PCFG_EN k) = true) : pulseStartEff k s = s.pulseStarted k u us := by
  simp only [pulseStartEff, h, hr, he, Bool.not_true, Bool.or_false, Bool.false_eq_true, if_false]
  cases us <;> rfl

theorem pulseStartEff_idle {k : Fin 8}
    (h : Store.get noNats s.mtr.starts k = [] ∨ s.inReset 14 = true ∨ s.on (F.MTR_PCFG_EN k) = false) :
    pulseStartEff k s = s := by
  cases hs : Store.get noNats s.mtr.starts k with
  | nil => simp only [pulseStartEff, hs]
  | cons u us =>
    have hoff : (s.inReset 14 || !s.on (F.MTR_PCFG_EN k)) = true := by simpa [hs] using h
    simp only [pulseStartEff, hs, hoff, if_true]

theorem State.pulseStarted_ends {k : Fin 8} {u : Nat} {us : List Nat} :
    Store.get natZero (s.pulseStarted k u us).mtr.ends k = pulseUntil u (s.pulseLength k u) us := Store.get_put_same

theorem State.pulseStarted_mtr {k : Fin 8} {u : Nat} {us : List Nat} :
    Store.get noNats (s.pulseStarted k u us).mtr.starts k = us ∧
      Store.get natZero (s.pulseStarted k u us).mtr.lastStart k = u + 1 ∧
      Store.get noFlag (s.pulseStarted k u us).mtr.active k = true := by
  simp [State.pulseStarted]

theorem State.pulseStarted_count {k : Fin 8} {u : Nat} {us : List Nat} :
    (s.pulseStarted k u us).reg (Reg.MTR_PCNT k) = s.reg (Reg.MTR_PCNT k) + 1 :=
  State.emit_reg.trans (State.reg_setReg_same.trans (congrArg (· + 1) State.setMtr_reg))

/-- The start of a pulse leaves the counts and the waiting starts of the other outputs. -/
theorem State.pulseStarted_other {j k : Fin 8} {u : Nat} {us : List Nat} (h : j ≠ k) :
    (s.pulseStarted k u us).reg (Reg.MTR_PCNT j) = s.reg (Reg.MTR_PCNT j) ∧
      Store.get noNats (s.pulseStarted k u us).mtr.starts j = Store.get noNats s.mtr.starts j := by
  have hne : (j : Nat) ≠ k := Fin.val_ne_of_ne h
  exact ⟨State.emit_reg.trans ((State.reg_setReg_other (Reg.MTR_PCNT_inj hne)).trans State.setMtr_reg), Store.get_put_other hne⟩

theorem pulseEndEff_active {k : Fin 8} (h : Store.get noFlag s.mtr.active k = true) :
    pulseEndEff k s = (s.setMtr { s.mtr with active := Store.put noFlag s.mtr.active k false }).emit
      (.pulse k false (s.on (F.MTR_PCFG_POL k))) := if_pos h

theorem pulseEndEff_inactive {k : Fin 8} (h : Store.get noFlag s.mtr.active k = false) : pulseEndEff k s = s :=
  if_neg (Bool.eq_false_iff.1 h)

/-! ### Saves (R403) -/

theorem exec_regularSaveComplete : exec .regularSaveComplete s = .next (regularSaveCompleteEff s) := rfl

theorem regularSaveCompleteEff_none (h : s.mtr.saving = none) : regularSaveCompleteEff s = s := by
  rw [regularSaveCompleteEff, h]

theorem regularSaveCompleteEff_some {b : Bank} (h : s.mtr.saving = some b) :
    regularSaveCompleteEff s = (s.setMtr { s.mtr with saving := none }).writeBank b := by
  rw [regularSaveCompleteEff, h]

/-- The newest save is in one of the two banks. -/
theorem newestBank_mem {a b : Option Bank} {n : Bank} (h : newestBank a b = some n) : a = some n ∨ b = some n := by
  unfold newestBank at h
  split at h
  next x y hx hy =>
    split at h
    · exact .inr (h ▸ (Option.filter_eq_some_iff.1 hy).1)
    · exact .inl (h ▸ (Option.filter_eq_some_iff.1 hx).1)
  next x hx _ => exact .inl (h ▸ (Option.filter_eq_some_iff.1 hx).1)
  next => exact .inr (Option.filter_eq_some_iff.1 h).1

/-- A bank goes over bank 1 where bank 0 holds the newest save, and else over bank 0. -/
theorem State.writeBank_kept {b : Bank} :
    (∃ n, newestBank s.mtr.kept.bank0 s.mtr.kept.bank1 = some n ∧ s.mtr.kept.bank0 = some n ∧
      (s.writeBank b).mtr.kept = { s.mtr.kept with bank1 := some b }) ∨
    ((∀ n, newestBank s.mtr.kept.bank0 s.mtr.kept.bank1 = some n → s.mtr.kept.bank0 ≠ some n) ∧
      (s.writeBank b).mtr.kept = { s.mtr.kept with bank0 := some b }) := by
  by_cases h : ∃ n, newestBank s.mtr.kept.bank0 s.mtr.kept.bank1 = some n ∧ s.mtr.kept.bank0 = some n
  · obtain ⟨n, hn, h0⟩ := h
    exact .inl ⟨n, hn, h0, by simp [State.writeBank, h0, h0 ▸ hn]⟩
  · refine .inr ⟨fun n hn h0 => h ⟨n, hn, h0⟩, ?_⟩
    simp only [State.writeBank, State.setReg_mtr, State.setMtr_mtr]
    split
    next n a hn h0 =>
      have hne : n ≠ a := fun e => h ⟨n, hn, e ▸ h0⟩
      simp [hne]
    next => rfl

theorem State.writeBank_holds {b : Bank} :
    (s.writeBank b).mtr.kept.bank0 = some b ∨ (s.writeBank b).mtr.kept.bank1 = some b := by
  rcases s.writeBank_kept (b := b) with ⟨n, -, -, hk⟩ | ⟨-, hk⟩
  · exact .inr (by rw [hk])
  · exact .inl (by rw [hk])

/-- The bank that held the newest save still does. -/
theorem State.writeBank_keeps_newest {b n : Bank} (h : newestBank s.mtr.kept.bank0 s.mtr.kept.bank1 = some n) :
    (s.writeBank b).mtr.kept.bank0 = some n ∨ (s.writeBank b).mtr.kept.bank1 = some n := by
  rcases s.writeBank_kept (b := b) with ⟨m, hm, h0, hk⟩ | ⟨hno, hk⟩
  · rw [hm] at h
    exact .inl (by rw [hk, h0, h])
  · exact .inr (by rw [hk]; exact (newestBank_mem h).resolve_left (hno n h))

/-! ### Clear requests and the interval (R398, R402) -/

theorem exec_accumulatorClearRequest {x : HPort} (h : s.mayWrite x 14 = true) :
    exec (.accumulatorClearRequest x v) s = .next (s.writeAccClr v) := by
  rw [← State.asWrite_may (t := s.writeAccClr v) h]
  rfl

theorem State.writeAccClr_go (hg : fieldOf v 31 31 = 1) (hc : fieldOf v 6 0 < 72) :
    s.writeAccClr v = (s.writeFields Reg.MTR_ACCCLR v).setMtr { s.mtr with clears := s.mtr.clears ++ [fieldOf v 6 0] } := by
  simp [State.writeAccClr, hg, hc]

theorem State.writeAccClr_idle (h : fieldOf v 31 31 = 0 ∨ 72 ≤ fieldOf v 6 0) :
    s.writeAccClr v = s.writeFields Reg.MTR_ACCCLR v := by
  refine if_neg ?_
  simp only [Bool.and_eq_true, decide_eq_true_eq]
  omega

theorem exec_intervalControlWrite {x : HPort} (h : s.mayWrite x 14 = true) :
    exec (.intervalControlWrite x v) s = .next (s.writeIvCtl v) := by
  rw [← State.asWrite_may (t := s.writeIvCtl v) h]
  rfl

theorem State.writeIvCtl_inRange (hl : 60 ≤ fieldOf v 11 0) (hd : 3600 % fieldOf v 11 0 = 0) (hh : fieldOf v 11 0 ≤ 3600) :
    s.writeIvCtl v = s.writeFields Reg.MTR_IVCTL v := if_pos (by simp [hl, hh, hd])

theorem State.writeIvCtl_outside (h : fieldOf v 11 0 < 60 ∨ 3600 < fieldOf v 11 0 ∨ 3600 % fieldOf v 11 0 ≠ 0) :
    s.writeIvCtl v = (s.setF F.MTR_IVCTL_EN (fieldOf v 31 31)).badVal := by
  refine if_neg ?_
  simp only [Bool.and_eq_true, decide_eq_true_eq]
  omega

/-! ### A field that is written with the value it has -/

/-- A field that stores what is written, and is bits `hi` to `lo` of the word or shares no bit with them. -/
def FieldRow.storesApart (f : FieldRow) (hi lo : Nat) : Bool :=
  f.acc = .rw && f.lo ≤ f.hi && f.hi < 32 && (f.hi = hi && f.lo = lo || hi < f.lo || f.hi < lo)

theorem State.writeField_rf_kept {off hi lo : Nat} {f : FieldRow} (hf : f.storesApart hi lo = true) (ho : off ≠ Reg.SYS_STAT)
    (hv : fieldOf v hi lo = s.rf ⟨off, hi, lo⟩) : (s.writeField off v f).rf ⟨off, hi, lo⟩ = s.rf ⟨off, hi, lo⟩ := by
  simp only [FieldRow.storesApart, Bool.and_eq_true, Bool.or_eq_true, decide_eq_true_eq] at hf
  obtain ⟨⟨⟨hacc, hle⟩, h32⟩, hwhere⟩ := hf
  simp only [State.writeField, hacc]
  split
  · rcases hwhere with (⟨rfl, rfl⟩ | hb) | ha
    · rw [State.rf_setF_same hle h32, ← hv]
      exact Nat.mod_eq_of_lt (Nat.mod_lt _ (Nat.two_pow_pos _))
    · exact State.rf_setF_other hle h32 (.inr (.inl hb))
    · exact State.rf_setF_other hle h32 (.inr (.inr ha))
  · exact State.rf_congr (State.reg_setF_other ho)

/-- A write that gives a field the value it has leaves it, whatever the other fields take. -/
theorem State.writeFields_rf_kept {off hi lo : Nat} (hr : (Reg.row? off).all (·.fields.all (·.storesApart hi lo)) = true)
    (ho : off ≠ Reg.SYS_STAT) (hv : fieldOf v hi lo = s.rf ⟨off, hi, lo⟩) :
    (s.writeFields off v).rf ⟨off, hi, lo⟩ = s.rf ⟨off, hi, lo⟩ := by
  unfold State.writeFields
  split
  · rfl
  · next r hrow =>
    rw [hrow, Option.all_some] at hr
    generalize r.fields = fs at hr
    induction fs generalizing s with
    | nil => rfl
    | cons f fs ih =>
      obtain ⟨hf, hfs⟩ := Bool.and_eq_true_iff.1 (List.all_cons.symm.trans hr)
      have hkept := State.writeField_rf_kept hf ho hv
      exact (ih (hv.trans hkept.symm) hfs).trans hkept

theorem Reg.row?_MTR_PCFG_width :
    ∀ k : Fin 8, (Reg.row? (Reg.MTR_PCFG k)).all (·.fields.all (·.storesApart 15 8)) = true := by decide

/-! ### Writes of a pulse output's configuration (R415, log 158) -/

theorem exec_pulseOutputConfigWrite {x : HPort} {k : Fin 8} {mc : Bool} (h : s.mayWrite x 14 = true) :
    exec (.pulseOutputConfigWrite x k mc v) s = .next (if mc then s.writePulseMc k v else s.writePulseCfg k v) := by
  rw [← State.asWrite_may (t := if mc then s.writePulseMc k v else s.writePulseCfg k v) h]
  rfl

/-- Mark an output's residue for the next latch where its circuit, quantity or constant changed. -/
def State.dropResidue (s : State) (k : Nat) (changed : Bool) : State :=
  if changed then s.setMtr { s.mtr with clearRes := Store.put noFlag s.mtr.clearRes k true } else s

theorem State.dropResidue_reg {c : Bool} : (s.dropResidue k c).reg o = s.reg o := by
  cases c
  · rfl
  · exact State.setMtr_reg

theorem State.dropResidue_out {c : Bool} : (s.dropResidue k c).out = s.out := by cases c <;> rfl

theorem State.dropResidue_residue {c : Bool} : (s.dropResidue k c).mtr.residue = s.mtr.residue := by cases c <;> rfl

theorem State.dropResidue_marks {c : Bool} (h : c = true) : Store.get noFlag (s.dropResidue k c).mtr.clearRes k = true := by
  simp [State.dropResidue, h]

/-- Drive the pin of an output whose POL is no longer that of `s`. -/
def State.polDriven (t s : State) (k : Nat) : State :=
  if t.rf (F.MTR_PCFG_POL k) = s.rf (F.MTR_PCFG_POL k) then t
  else t.emit (.pulse k (Store.get noFlag t.mtr.active k) (t.on (F.MTR_PCFG_POL k)))

theorem State.polDriven_mtr : (t.polDriven s k).mtr = t.mtr := by
  unfold State.polDriven
  split <;> rfl

theorem State.polDriven_reg : (t.polDriven s k).reg o = t.reg o := by
  unfold State.polDriven
  split
  · rfl
  · exact State.emit_reg

theorem State.polDriven_out (h : t.rf (F.MTR_PCFG_POL k) ≠ s.rf (F.MTR_PCFG_POL k)) :
    (t.polDriven s k).out = .pulse k (Store.get noFlag t.mtr.active k) (t.on (F.MTR_PCFG_POL k)) :: t.out :=
  congrArg State.out (if_neg h)

/-- Whether a written configuration enables the output with a WIDTH that it may not run with (R428). -/
def pulseMisfit (v : Word) : Bool := fieldOf v 31 31 = 1 && !widthOk (fieldOf v 15 8)

theorem pulseMisfit_iff : pulseMisfit v = true ↔ fieldOf v 31 31 = 1 ∧ (fieldOf v 15 8 < 2 ∨ 100 < fieldOf v 15 8) := by
  simp only [pulseMisfit, widthOk, Bool.and_eq_true, Bool.not_eq_true', Bool.and_eq_false_iff, decide_eq_true_eq,
    decide_eq_false_iff_not, Nat.not_le]

/-- The written configuration with the old WIDTH where the written one is out of range, and with the old EN where both are. -/
def State.pulseCfgWord (s : State) (k : Nat) (v : Word) : Word :=
  let w := if pulseMisfit v then withField v 15 8 (s.rf (F.MTR_PCFG_WIDTH k)) else v
  if pulseMisfit v && !widthOk (s.rf (F.MTR_PCFG_WIDTH k)) then withField w 31 31 (s.rf (F.MTR_PCFG_EN k)) else w

/-- The state in which a write to MTR_PCFG[k] has stored the configuration. -/
def State.pulseCfgStored (s : State) (k : Nat) (v : Word) : State :=
  (s.writeFields (Reg.MTR_PCFG k) (s.pulseCfgWord k v)).badValIf (pulseMisfit v)

/-- Whether the circuit or the quantity of output `k` is another in `t` than in `s`. -/
def State.pulseSourceChanged (t s : State) (k : Nat) : Bool :=
  t.rf (F.MTR_PCFG_CIRC k) != s.rf (F.MTR_PCFG_CIRC k) || t.rf (F.MTR_PCFG_QTY k) != s.rf (F.MTR_PCFG_QTY k)

theorem State.pulseSourceChanged_iff : t.pulseSourceChanged s k = true ↔
    t.rf (F.MTR_PCFG_CIRC k) ≠ s.rf (F.MTR_PCFG_CIRC k) ∨ t.rf (F.MTR_PCFG_QTY k) ≠ s.rf (F.MTR_PCFG_QTY k) := by
  rw [State.pulseSourceChanged, Bool.or_eq_true, bne_iff_ne, bne_iff_ne]

theorem State.writePulseCfg_eq : s.writePulseCfg k v = ((s.pulseCfgStored k v).polDriven s k).dropResidue k
    (((s.pulseCfgStored k v).polDriven s k).pulseSourceChanged s k) := rfl

theorem State.writePulseMc_eq : s.writePulseMc k v = (s.writeFields (Reg.MTR_PMC k) v).dropResidue k
    ((s.writeFields (Reg.MTR_PMC k) v).rf (F.MTR_PMC_MC k) != s.rf (F.MTR_PMC_MC k)) := rfl

theorem State.pulseCfgWord_width (h : pulseMisfit v = true) :
    fieldOf (s.pulseCfgWord k v) 15 8 = s.rf (F.MTR_PCFG_WIDTH k) := by
  have hw : fieldOf (withField v 15 8 (s.rf (F.MTR_PCFG_WIDTH k))) 15 8 = s.rf (F.MTR_PCFG_WIDTH k) :=
    (fieldOf_withField_same _ _ (by decide) (by decide)).trans (Nat.mod_eq_of_lt (Nat.mod_lt _ (Nat.two_pow_pos _)))
  simp only [State.pulseCfgWord, h, if_true]
  split
  · exact (fieldOf_withField_below _ _ (by decide) (by decide) (by decide)).trans hw
  · exact hw

theorem State.pulseCfgStored_width {k : Fin 8} (h : pulseMisfit v = true) :
    (s.pulseCfgStored k v).rf (F.MTR_PCFG_WIDTH k) = s.rf (F.MTR_PCFG_WIDTH k) :=
  (State.rf_congr (State.badValIf_reg Reg.MTR_PCFG_ne_SYS_STAT)).trans
    (State.writeFields_rf_kept (Reg.row?_MTR_PCFG_width k) Reg.MTR_PCFG_ne_SYS_STAT (State.pulseCfgWord_width h))

theorem State.pulseCfgStored_badVal (h : pulseMisfit v = true) : (s.pulseCfgStored k v).on F.SYS_STAT_BADVAL = true := by
  rw [State.pulseCfgStored, State.badValIf, if_pos h]
  exact State.on_setF_one rfl (by decide)

/-- A configuration that fits is stored as it is written. -/
theorem State.pulseCfgStored_fits (h : pulseMisfit v = false) :
    s.pulseCfgStored k v = s.writeFields (Reg.MTR_PCFG k) v := by
  simp [State.pulseCfgStored, State.pulseCfgWord, State.badValIf, h]

theorem State.pulseCfgStored_mtr : (s.pulseCfgStored k v).mtr = s.mtr := by
  unfold State.pulseCfgStored
  cases pulseMisfit v <;> exact State.writeFields_mtr

theorem State.pulseCfgStored_out : (s.pulseCfgStored k v).out = s.out := by
  unfold State.pulseCfgStored
  cases pulseMisfit v <;> exact State.writeFields_out

theorem State.pulseCfgStored_reg (h : o ≠ Reg.MTR_PCFG k) (hs : o ≠ Reg.SYS_STAT) :
    (s.pulseCfgStored k v).reg o = s.reg o :=
  (State.badValIf_reg hs).trans (State.writeFields_reg_other h hs)

/-- What follows the storing of the configuration changes no register. -/
theorem State.writePulseCfg_reg : (s.writePulseCfg k v).reg o = (s.pulseCfgStored k v).reg o := by
  rw [State.writePulseCfg_eq, State.dropResidue_reg, State.polDriven_reg]

theorem State.writePulseCfg_residue : (s.writePulseCfg k v).mtr.residue = s.mtr.residue := by
  rw [State.writePulseCfg_eq, State.dropResidue_residue, State.polDriven_mtr, State.pulseCfgStored_mtr]

theorem State.writePulseCfg_out (h : (s.writePulseCfg k v).rf (F.MTR_PCFG_POL k) ≠ s.rf (F.MTR_PCFG_POL k)) :
    (s.writePulseCfg k v).out =
      .pulse k (Store.get noFlag s.mtr.active k) ((s.writePulseCfg k v).on (F.MTR_PCFG_POL k)) :: s.out := by
  rw [State.rf_congr State.writePulseCfg_reg] at h
  rw [State.on_congr State.writePulseCfg_reg, State.writePulseCfg_eq, State.dropResidue_out, State.polDriven_out h,
    State.pulseCfgStored_mtr, State.pulseCfgStored_out]

theorem State.writePulseCfg_marks (h : (s.writePulseCfg k v).pulseSourceChanged s k = true) :
    Store.get noFlag (s.writePulseCfg k v).mtr.clearRes k = true := by
  have hsame : (s.writePulseCfg k v).pulseSourceChanged s k =
      ((s.pulseCfgStored k v).polDriven s k).pulseSourceChanged s k := by
    have hreg : ∀ f : Fld, (s.writePulseCfg k v).rf f = ((s.pulseCfgStored k v).polDriven s k).rf f :=
      fun f => State.rf_congr (State.writePulseCfg_reg.trans State.polDriven_reg.symm)
    simp only [State.pulseSourceChanged, hreg]
  rw [State.writePulseCfg_eq]
  exact State.dropResidue_marks (hsame.symm.trans h)

/-! ### The rows -/

/-- Settles O43: a start by what waits and whether the output is enabled, a save by what is being saved, a set-up write by
whether the written values are in range. -/
theorem meteringPulsesAndSaves : Obligations.MeteringPulsesAndSaves := by
  refine ⟨?starts, ?midpoint, ?noStart, ?ends, ?noEnd, ?noSave, ?saves, ?savedAs, ?clears, ?noClear, ?interval, ?badInterval,
    ?config, ?fits, ?constant⟩
  case starts =>
    intro k u us s hs hr he
    obtain ⟨hwait, hlast, hactive⟩ := State.pulseStarted_mtr (s := s) (k := k) (u := u) (us := us)
    refine ⟨_, exec_pulseStart.trans (congrArg _ (pulseStartEff_starts hs hr he)), State.pulseStarted_count,
      hwait, hlast, hactive, rfl, ?_, ?_, fun j hj => State.pulseStarted_other hj⟩
    · rw [State.pulseStarted_ends]
      exact pulseUntil_le.trans (Nat.add_le_add_left State.pulseLength_le u)
    · rintro rfl h0
      rw [State.pulseStarted_ends, pulseUntil, State.pulseLength, if_pos h0]
  case midpoint =>
    intro k u n p len us s hs hr he hp hlen
    subst hp hlen
    exact ⟨_, exec_pulseStart.trans (congrArg _ (pulseStartEff_starts hs hr he)), State.pulseStarted_ends⟩
  case noStart => exact fun k s h => exec_pulseStart.trans (congrArg _ (pulseStartEff_idle h))
  case ends => exact fun k s h => exec_pulseEnd.trans (congrArg _ (pulseEndEff_active h))
  case noEnd => exact fun k s h => exec_pulseEnd.trans (congrArg _ (pulseEndEff_inactive h))
  case noSave => exact fun s h => exec_regularSaveComplete.trans (congrArg _ (regularSaveCompleteEff_none h))
  case saves =>
    intro b s h
    exact ⟨_, exec_regularSaveComplete.trans (congrArg _ (regularSaveCompleteEff_some h)), State.reg_setReg_same, rfl,
      State.writeBank_holds, fun _ n hn => State.writeBank_keeps_newest (s := s.setMtr { s.mtr with saving := none }) hn⟩
  case savedAs => exact fun b s h => exec_regularSaveComplete.trans (congrArg _ (regularSaveCompleteEff_some h))
  case clears =>
    intro x v s hw hg hc
    exact ⟨_, (exec_accumulatorClearRequest hw).trans (congrArg _ (State.writeAccClr_go hg hc)), rfl, rfl⟩
  case noClear => exact fun x v s hw h => (exec_accumulatorClearRequest hw).trans (congrArg _ (State.writeAccClr_idle h))
  case interval =>
    exact fun x v s hw hl hd hh => (exec_intervalControlWrite hw).trans (congrArg _ (State.writeIvCtl_inRange hl hd hh))
  case badInterval =>
    exact fun x v s hw h => (exec_intervalControlWrite hw).trans (congrArg _ (State.writeIvCtl_outside h))
  case config =>
    intro x k v s hw
    refine ⟨s.writePulseCfg k v, exec_pulseOutputConfigWrite hw, ?_, State.writePulseCfg_out, ?_, ?_,
      State.writePulseCfg_residue, ?_⟩
    · intro hen hwidth
      have hbad := pulseMisfit_iff.2 ⟨hen, hwidth⟩
      exact ⟨(State.rf_congr State.writePulseCfg_reg).trans (State.pulseCfgStored_width hbad),
        (State.on_congr State.writePulseCfg_reg).trans (State.pulseCfgStored_badVal hbad)⟩
    · exact fun hcirc => State.writePulseCfg_marks (State.pulseSourceChanged_iff.2 (.inl hcirc))
    · exact fun hqty => State.writePulseCfg_marks (State.pulseSourceChanged_iff.2 (.inr hqty))
    · exact State.writePulseCfg_reg.trans (State.pulseCfgStored_reg Reg.MTR_PCFG_ne_PMC.symm Reg.MTR_PMC_ne_SYS_STAT)
  case fits =>
    intro x k v s hw h
    have hfit : pulseMisfit v = false := by
      rw [Bool.eq_false_iff, Ne, pulseMisfit_iff]
      omega
    refine ⟨s.writePulseCfg k v, exec_pulseOutputConfigWrite hw, ?_⟩
    rw [State.writePulseCfg_reg, State.pulseCfgStored_fits hfit]
  case constant =>
    intro x k v s hw
    refine ⟨s.writePulseMc k v, exec_pulseOutputConfigWrite hw, ?_, State.dropResidue_reg,
      State.dropResidue_residue.trans (congrArg _ State.writeFields_mtr), ?_⟩
    · intro h
      rw [State.writePulseMc_eq, State.rf_congr State.dropResidue_reg] at h
      exact State.dropResidue_marks (bne_iff_ne.2 h)
    · exact State.dropResidue_reg.trans (State.writeFields_reg_other Reg.MTR_PCFG_ne_PMC Reg.MTR_PCFG_ne_SYS_STAT)

end Sys2Proof.Machine
end
